-- ==== Sys2Proof/Word.lean ====
section
/-! DEFINITION. Sys2Proof/Word.lean: the register word of the device and the plain arithmetic on numbers that the
spec writes as bits: fields, two's complement, and the 48-bit bell number's order (R37). -/

namespace Sys2Proof

/-- A 32-bit register word (R5). -/
abbrev Word := BitVec 32

/-- One byte. -/
abbrev Byte := BitVec 8

/-- Bits [lo + w - 1 : lo] of a number. -/
def bits (v lo w : Nat) : Nat := (v >>> lo) % 2 ^ w

/-- Bit `n` of a number. -/
def bit (v n : Nat) : Bool := (v >>> n) % 2 == 1

/-- `v` with bit `n` set. -/
def setBit (v n : Nat) : Nat := v ||| (1 <<< n)

/-- `v` with bit `n` clear. -/
def clearBit (v n : Nat) : Nat := if bit v n then v - (1 <<< n) else v

/-- A truth value as a one-bit field. -/
def b2n (b : Bool) : Nat := if b then 1 else 0

/-- The low `w` bits of a number read as two's complement. -/
def toSigned (w v : Nat) : Int :=
  if v % 2 ^ w < 2 ^ (w - 1) then (v % 2 ^ w : Nat) else (v % 2 ^ w : Nat) - (2 ^ w : Nat)

/-- An integer as `w` bits of two's complement. -/
def ofSigned (w : Nat) (i : Int) : Nat := (i % (2 ^ w : Nat)).toNat

/-- `v` limited to at most `m`. -/
def satAt (m v : Nat) : Nat := if v < m then v else m

/-- An integer limited to [lo, hi]. -/
def clampI (lo hi v : Int) : Int := if v < lo then lo else if hi < v then hi else v

/-- The little-endian bytes of a number, `n` of them. -/
def leBytes : Nat → Nat → List Byte
  | 0, _ => []
  | n + 1, v => BitVec.ofNat 8 v :: leBytes n (v >>> 8)

/-- The number that little-endian bytes spell (R6). -/
def ofLe : List Byte → Nat
  | [] => 0
  | b :: t => b.toNat + 256 * ofLe t

/-- How many truth values of a list hold. -/
def countTrue (l : List Bool) : Nat := (l.filter id).length

/-- The number of set bits among the low `n` bits of `v`. -/
def popCount : Nat → Nat → Nat
  | 0, _ => 0
  | n + 1, v => v % 2 + popCount n (v >>> 1)

/-- The modulus of the bell number (R35). -/
def bellMod : Nat := 2 ^ 48

/-- Bell `s` is after bell `c` (R37): the difference modulo 2^48 lies in 1 … 2^47 − 1. -/
def bellAfter (s c : Nat) : Bool :=
  let d := (s + bellMod - c % bellMod) % bellMod
  0 < d && d < 2 ^ 47

end Sys2Proof
end

