-- ==== Sys2Proof/Types.lean ====
section
/-! DEFINITION. Sys2Proof/Types.lean: the operand types of the commands: what a command carries in from outside. -/

namespace Sys2Proof

/-- The access paths to the register pages (R105, R559). -/
inductive Path where
  | ctl | reeve | smbus | jtag
  deriving DecidableEq, Repr

/-- The number of an access path, for indexing its own copies. -/
def Path.num : Path → Nat
  | .ctl => 0
  | .reeve => 1
  | .smbus => 2
  | .jtag => 3

/-- What an ECC or CRC check of one memory unit found. -/
inductive EccResult where
  | ok | corrected | uncorrectable
  deriving DecidableEq, Repr

/-- The task tag an error entry carries: none, a 16-bit tag taken from a sheaf, or a 32-bit tag taken from a task
slot (R550). -/
inductive EntryTag where
  | none
  | tag16 (t : Nat)
  | tag32 (t : Nat)
  deriving DecidableEq, Repr

/-- The three clock domains (R34). -/
inductive ClockDomain where
  | cck | lck | hck
  deriving DecidableEq, Repr

/-- The sources of a warm reset (R123, R142). -/
inductive ResetCause where
  | resetN | pwrOk | topWarm | reaction
  deriving DecidableEq, Repr

/-- How one ferry's cold relock ends: with the resonance codes of its 256 rings and its crosstalk coefficients (256
rows of 9), or with the reason it failed (R146, R147). -/
inductive RelockResult where
  | done (codes xt : List Nat)
  | timeout
  | noResonance
  deriving DecidableEq, Repr

/-- What the Almanac's body says, field by field: the board table's node ID, router ports, fibre skews and host-link
record, and the calibration's crosstalk coefficients by (256 × ferry + row) × 9 + k (spec/05, R230). -/
structure AlmData where
  nodeId   : Nat
  ports    : List (Option Nat)
  skews    : List Nat
  hostLink : Option (List Byte)
  xt       : List (Nat × Nat)
  /-- Emitting-hour and bias accounts by 32 × source + line (R240). -/
  wear     : List (Nat × Nat)
  /-- Tuning efficiencies that dither calibration has replaced, by heater (R521). -/
  eta      : List (Nat × Int)
  deriving DecidableEq, Repr, Inhabited

/-- What TRAIN finds on one physical receive lane (R161 to R163): its marker's bundle and lane if it is readable, the
marker's polarity, and the PRBS errors. -/
structure LaneTrain where
  marker   : Option (Nat × Nat)
  inverted : Bool
  errors   : Nat
  deriving DecidableEq, Repr

/-- One transaction of the host link (R176): class, OP, byte 1 (STATUS or ATTR), tag, address, length and data. -/
structure HostTx where
  cls  : Nat
  op   : Nat
  byte1 : Nat
  tag  : Nat
  addr : Nat
  len  : Nat
  data : List Byte
  /-- The task slot that issued it, or 64 for none; not carried on the link. -/
  slot : Nat
  deriving DecidableEq, Repr

/-- The two laser sources and their inputs, LA and LB (R26). -/
inductive Source where
  | la | lb
  deriving DecidableEq, Repr

/-- The number of a source, for indexing LANTERN_LINE_x and its like: 0 LA, 1 LB. -/
def Source.num : Source → Nat
  | .la => 0
  | .lb => 1

/-- The other source. -/
def Source.other : Source → Source
  | .la => .lb
  | .lb => .la

/-- What READ_LINE_POWER returns (R198): powers in 0.01 dBm, bias in 0.1 mA. -/
structure LineReading where
  status   : Nat
  power    : Int
  setpoint : Int
  bias     : Nat
  deriving DecidableEq, Repr

/-- What one laser module shows the Lantern in step 7 of start-up (R202): its identity record, the reading of every
line, and its input's tap. -/
structure ModuleReport where
  identity : List Byte
  lines    : List LineReading
  tap      : Int
  deriving DecidableEq, Repr

/-- One piece of work for the Lantern bus (R198). -/
inductive BusWork where
  | setPower (src : Source) (line : Option Nat) (power : Int)
  | readPower (src : Source) (line : Nat)
  | readHours (src : Source)
  | standby (src : Source) (on : Bool)
  | identity (src : Source)
  deriving DecidableEq, Repr

/-- One sheaf (R274), field by field; `tally` is what its last four bytes hold. -/
structure Sheaf where
  flow      : Nat
  kind      : Nat
  seq       : Nat
  hops      : Nat
  replay    : Bool
  detoured  : Bool
  hostTally : Bool
  last      : Bool
  tag       : Nat
  dest      : Nat
  payload   : List Byte
  tally     : Nat
  deriving DecidableEq, Repr, Inhabited

/-- One sign-sign LMS update of a link's equaliser (R288): the signs of the errors of I and Q, and of the five
earlier decisions of each rail, −1, 0 or 1. -/
structure LmsUpdate where
  errI : Int
  errQ : Int
  decI : List Int
  decQ : List Int
  deriving DecidableEq, Repr

/-- What one bell of receiving tells about a link's line: its equaliser updates, its RMS decision error in 1/65,536 of
full scale and its phase error in π/32,768 rad. -/
structure LineReport where
  updates : List LmsUpdate
  rms     : Nat
  phase   : Int
  deriving DecidableEq, Repr

/-- One received training frame (R283), as decided before any correction: 64 preamble bits and 128 identity bits of
each rail, bit 0 first, and the symbol errors of its PRBS after the correction in force. -/
structure TrainFrame where
  preI   : Nat
  preQ   : Nat
  idI    : Nat
  idQ    : Nat
  errors : Nat
  line   : LineReport
  deriving DecidableEq, Repr

/-- One received FEC frame (R266): the symbol errors that each of the 20 codewords arrived with, whether the guard
stood at its position, its parts as decoded and descrambled, its apparent delay in 1/256 symbol and its wander since H
was fixed in 10 ps, and the slots whose stored copy an upset of the landing memory has spoiled. -/
structure RxFrame where
  errors  : List Nat
  guard   : Bool
  header  : List Byte
  slots   : List (List Byte)
  trailer : List Byte
  delay   : Nat
  wander  : Int
  line    : LineReport
  deriving DecidableEq, Repr

/-- The element formats of the Mill's vectors (R400, R433). -/
inductive VFmt where
  | f32 | bf16 | f16 | e4m3 | e5m2 | i32 | i8
  deriving DecidableEq, Repr

/-- A vector source or destination (R433): a register, the queue qn (a source only), the store queue (a destination
only). -/
inductive VReg where
  | v (n : Nat)
  | q (n : Nat)
  | sq
  deriving DecidableEq, Repr

/-- A vector reduction (R433). -/
inductive VRed where
  | add | max | min
  deriving DecidableEq, Repr

/-- A vector comparison (R433). -/
inductive VCmp where
  | eq | ne | lt | le | gt | ge
  deriving DecidableEq, Repr

/-- The streams that an engine loop may name (R402, R427). -/
inductive Stream where
  | access | vector | matrix | sieve | execute
  deriving DecidableEq, Repr

/-- The mode of a step's rows (R402). -/
inductive RowMode where
  | engine | decoupled
  deriving DecidableEq, Repr

/-- Where an operation of the Mill stands: the task slot, its long word and whether that is a word of the Pattern Book,
the word's row mask, whether the operation is the last of its word, what the ECC check of the word's fetch found, and
what it found in the words fetched beyond a taken branch, which are discarded (R397, R441, R442). -/
structure OpAt where
  slot : Nat
  word : Nat
  pb   : Bool
  rows : Nat
  last : Bool
  ecc  : EccResult
  past : List EccResult
  deriving DecidableEq, Repr

/-- A loader's image as PROGRAM names it (R361, R420): its private encoding carries the rows and mode of the first step,
the data area's size in bytes, the Pattern Book major version, the long words, the patch table and the entry word. -/
structure Image where
  rows    : Nat
  mode    : RowMode
  data    : Nat
  pbMajor : Nat
  words   : List Nat
  patches : List Nat
  entry   : Nat
  deriving DecidableEq, Repr

/-- What a row's configuration words say of a SCAN layer; their layout is not given (R437, R498): summary pass or state
pass, the step records and their number, where states are written, rows, width, types and reset masks. -/
structure ScanCfg where
  summary : Bool
  src     : Nat
  dst     : Nat
  steps   : Nat
  rows    : Nat
  width   : Nat
  tin     : Nat
  tout    : Nat
  reset   : Bool
  deriving DecidableEq, Repr, Inhabited

/-- What a row's configuration words say of a PIPE layer; their layout is not given (R437, R509): the PIPE block, the
layer, the first time step and the number of steps, where the last layer writes, rows, width, types and reset masks. -/
structure PipeCfg where
  block : Nat
  layer : Nat
  first : Nat
  steps : Nat
  dst   : Nat
  rows  : Nat
  width : Nat
  tin   : Nat
  tout  : Nat
  reset : Bool
  deriving DecidableEq, Repr, Inhabited

end Sys2Proof
end

