-- ==== Sys2Proof/Syntax.lean ====
section
/-! DEFINITION. Sys2Proof/Syntax.lean: the commands of the block, one constructor per row of the spec's table of
operations and events. An operand carries what the environment supplies with the command. Three blocks, each in the
table's order: commands with operands, operations of the Mill, commands without operands; so the compiled form of as
many commands as possible has a constructor number within its limit. -/

namespace Sys2Proof

/-- The commands. -/
inductive Instr where
  /-- WARM_RESET (R143): A warm reset holds the E-die in reset, cancels armed swaps, clears counters and runs start-up again from step 0, keeping keep-alive state. -/
  | warmReset (cause : ResetCause)
  /-- PLL_UNLOCK (R67): A PLL's lock detector reports loss of lock while REFCLK is present; PLL_UNLOCK is raised and the domain keeps running. -/
  | pllUnlock (d : ClockDomain)
  /-- PLL_RELOCK (R67): A PLL reports lock again and its lock bit in CLK_STATUS sets. -/
  | pllRelock (d : ClockDomain)
  /-- STEP_FLASH (R125): Step 1: the boot ROM reads the Reeve image header area from the SPI flash. -/
  | stepFlash (answers : Bool)
  /-- STEP_LOAD_HEARTH (R133): Step 3: a paired Hearth image is loaded into both Hearths and their digests checked, with the Pattern Book overlay if present. -/
  | stepLoadHearth (bistA bistB digestA digestB : Bool)
  /-- STEP_LANTERN (R202): Step 7: the Lantern reads both modules' identities, sets levels, leaves standby and checks every line. -/
  | stepLantern (a b : Option ModuleReport)
  /-- COLD_RELOCK_FERRY (R147): One ferry's sweep and crosstalk re-estimation completes and its relock record is committed in order. -/
  | coldRelockFerry (f : Nat) (res : RelockResult)
  /-- HEARTH_IMAGE_RETRY (R136): In LIMP with HEARTH_IMAGE_NONE, step 3 is retried and on success step 4 runs again, possibly leaving LIMP. -/
  | hearthImageRetry (bistA bistB digestA digestB : Bool)
  /-- FLASH_OP_COMPLETE (R152): A flash window operation finishes and RESULT reports done or flash error. -/
  | flashOpComplete (good : Bool)
  /-- ALMANAC_COMMIT (R140): BOOT_ALM_CTRL.COMMIT with key starts committing the working copy to the other flash section. -/
  | almanacCommit (val : Word)
  /-- ALMANAC_COMMIT_DONE (R140): The commit's read-back is checked and the marker written last, or COMMIT_FAIL raised. -/
  | almanacCommitDone (good : Bool)
  /-- SVN_ADVANCE (R134): SEC_SVN_CTRL.ADVANCE with key raises the fused SVN counter to the running Reeve image's SVN. -/
  | svnAdvance (val : Word)
  /-- TOKEN_SUBMIT (R150): SEC_TOKEN_CTRL.SUBMIT checks the unlock token and grants debug permissions or raises TOKEN_BAD; a new nonce is drawn. -/
  | tokenSubmit (val : Word)
  /-- DEBUG_LOCK (R150): SEC_DEBUG_CTRL.LOCK withdraws all debug permissions. -/
  | debugLock (val : Word)
  /-- NONCE_LO_READ (R150): A read of SEC_NONCE_LO latches the upper nonce half for the path. -/
  | nonceLoRead (path : Path)
  /-- BELL_BOUNDARY (R61): At CCK cycle 0 of each bell the bell number increments and swaps, band change, snapshots and admission are carried out in order. -/
  | bellBoundary (bad : List Nat)
  /-- BELL_NUM_LO_READ (R36): A read of BELL_NUM_LO returns the low bits and latches the upper bits for the path. -/
  | bellNumLoRead (path : Path)
  /-- BELL_JOIN_STEP (R43): After 64 bells of measurement a JOINING chiplet lengthens one bell and takes its parent's bell number. -/
  | bellJoinStep (lengthen num : Nat) (rate : Int)
  /-- ROOT_START_TIMEOUT (R52): A configured root sees no building bell within 4,096 bells and starts its own bell at 0. -/
  | rootStartTimeout (epochNum : Nat)
  /-- BELL_ROOT_SET (R56): Setting BELL_CTRL.ROOT makes a LOCKED chiplet root with the next epoch at the next boundary. -/
  | bellRootSet (val : Word)
  /-- BELL_ROOT_CLEAR (R56): Clearing BELL_CTRL.ROOT on an acting root puts it into HOLDOVER at the next boundary. -/
  | bellRootClear (val : Word)
  /-- PARENT_PREF_WRITE (R41): Rewriting BELL_PARENT_PREF makes the IZ5 choose its parent again. -/
  | parentPrefWrite (n : Nat) (val : Word)
  /-- TIME_IN_EDGE (R53): A TIME_IN rising edge on a root is stamped and used to discipline the bell, or counted and ignored. -/
  | timeInEdge (phase : Int)
  /-- SENSOR_SAMPLE (R85): Two P-die temperature sensors are sampled at cycle 640 and the hottest reading and band are evaluated. -/
  | sensorSample (a b : Option Int)
  /-- UNMAPPED_ACCESS (R98): An access to an absent page or unmapped range reads 0, has no effect and is counted. -/
  | unmappedAccess (path : Path) (addr : Nat)
  /-- REGISTER_WRITE (R9): A write to a register field with no behaviour of its own acts by its access code. -/
  | registerWrite (path : Path) (addr : Nat) (val : Word)
  /-- COUNTER_LO_READ (R115): A read of a counter's LO half latches its HI half in the path's holding register. -/
  | counterLoRead (path : Path) (page n : Nat)
  /-- COUNTER_HI_WRITE (R116): A write to a counter's HI half is stored in the path's write-holding register. -/
  | counterHiWrite (path : Path) (page n : Nat) (val : Word)
  /-- COUNTER_LO_WRITE (R116): A write to a counter's LO half sets all 64 bits from the written LO and the held HI. -/
  | counterLoWrite (path : Path) (page n : Nat) (val : Word)
  /-- RC_REGISTER_READ (R298): A read of an RC register such as FERRY_FEC_CORR returns its value and clears it. -/
  | rcRegisterRead (path : Path) (addr : Nat)
  /-- PG_ERR_CLASS_WRITE (R105): A PG_ERR_CLASS write selects a bit and, with WRITE and not FIXED, sets its class. -/
  | pgErrClassWrite (path : Path) (page : Nat) (val : Word)
  /-- PG_ERR_INJECT_WRITE (R106): A PG_ERR_INJECT write arms one checker of the page for COUNT uses. -/
  | pgErrInjectWrite (page : Nat) (val : Word)
  /-- SWAP_ARM (R110): PG_SWAP.ARM compares the swap bell with the current bell and makes the page ARMED or LATE. -/
  | swapArm (page : Nat) (val : Word)
  /-- SWAP_DISARM (R111): PG_SWAP.DISARM returns an ARMED page to IDLE before the swap bell. -/
  | swapDisarm (page : Nat) (val : Word)
  /-- SWAP_FOLLOW_WRITE (R108): A write of PG_SWAP.FOLLOW changes whether the page follows the device-wide swap. -/
  | swapFollowWrite (page : Nat) (val : Word)
  /-- SHADOW_WRITE (R112): A write to shadowed state goes to the shadow, or is dropped with SHADOW_LOCKED while the page is ARMED. -/
  | shadowWrite (path : Path) (page off : Nat) (val : Word)
  /-- TABLE_VIEW_WRITE (R326): A write to the table views updates the shadow set; writes to the active view are ignored and counted. -/
  | tableViewWrite (addr : Nat) (val : Word)
  /-- PG_SNAP_TAKE (R118): PG_SNAP.TAKE requests a counter snapshot of the page at the next boundary. -/
  | pgSnapTake (page : Nat)
  /-- TOP_RESET_WARM (R122): TOP_RESET.WARM with key 0xA5 begins a warm reset within 1 µs. -/
  | topResetWarm (val : Word)
  /-- TOP_RESET_FUNCTION (R122): TOP_RESET.FUNCTION with key 0xA5 requests a function reset at the next boundary. -/
  | topResetFunction (val : Word)
  /-- TOP_RESET_KEY_BAD (R122): A TOP_RESET write with a wrong key has no effect and raises RESET_KEY_BAD. -/
  | topResetKeyBad (val : Word)
  /-- BUNDLE_DETECT_EXIT (R160): A bundle sees far-end termination and the host's TRAIN pattern on 16 lanes and enters TRAIN. -/
  | bundleDetectExit (n : Nat)
  /-- BUNDLE_TRAIN_DONE (R163): TRAIN fixes polarity, lane order and spare use from markers and PRBS checks, and the bundle enters LOCK. -/
  | bundleTrainDone (n : Nat) (lanes : List LaneTrain)
  /-- BUNDLE_LOCK_DONE (R164): 64 consecutive good ALIGN flits deskew the bundle and it enters EXCHANGE. -/
  | bundleLockDone (n : Nat) (skewOk : Bool) (farSpared : Option Nat)
  /-- BUNDLE_EXCHANGE_DONE (R180): Both ends' capability words are received and accepted and the bundle becomes ACTIVE, or CAP_REFUSED. -/
  | bundleExchangeDone (n : Nat) (caps : List Word)
  /-- BUNDLE_STAGE_TIMEOUT (R160): A bundle stage reaches its time-out and the bundle returns to DETECT after a back-off. -/
  | bundleStageTimeout (n : Nat)
  /-- BUNDLE_BACKOFF_EXPIRY (R160): A bundle's back-off ends and it leaves DETECT again when conditions hold. -/
  | bundleBackoffExpiry (n : Nat)
  /-- BUNDLE_RETRAIN (R184): BUNDLE_CTRL.RETRAIN returns one bundle to DETECT. -/
  | bundleRetrain (n : Nat)
  /-- FLIT_RECEIVE (R166): A received flit is CRC-checked, its ACK and credit taken, and DATA merged in SEQ order to the transaction layer. -/
  | flitReceive (n : Nat) (flit : List Byte)
  /-- NAK_FLIT_RECEIVE (R172): A received NAK makes the sender resend every held flit from ACK + 1. -/
  | nakFlitReceive (ack : Nat)
  /-- ELASTIC_OVERRUN (R170): A bundle's elastic buffer overflows; the bundle is retrained. -/
  | elasticOverrun (n : Nat)
  /-- HOST_MEM_WRITE (R177): A host MEM write transaction writes the Granary, or fails with the outcome of R177. -/
  | hostMemWrite (addr : Nat) (data : List Byte)
  /-- HOST_MEM_READ (R177): A host MEM read request reads the Granary and returns a completion, DATA_ERROR on uncorrectable ECC. -/
  | hostMemRead (tag addr len : Nat) (ecc : EccResult)
  /-- DMA_READ_COMPLETION (R179): A MEM read completion from the host arrives for an outstanding IZ5 DMA read. -/
  | dmaReadCompletion (tag status : Nat) (data : List Byte)
  /-- CTL_WRITE (R177): A host CTL write of one aligned 32-bit word is performed, or refused with CTL_UNSUPPORTED. -/
  | ctlWrite (addr len : Nat) (val : Word)
  /-- CTL_READ (R177): A host CTL read returns one word after every earlier CTL write has taken effect. -/
  | ctlRead (tag addr len : Nat) (ecc : EccResult)
  /-- MGMT_MESSAGE (R575): A mailbox message arrives on the Uahus MGMT class and is queued for the Reeve. -/
  | mgmtMessage (msg : List Byte)
  /-- DBG_REQUEST (R175): A DBG request arrives on the host link and is served after unlock. -/
  | dbgRequest (tag addr len : Nat)
  /-- SELECT_SWITCH_WRITE (R189): A write to LANTERN_SEL changes per-line select switches at the next bell boundary. -/
  | selectSwitchWrite (word : Nat) (val : Word)
  /-- INPUT_LOSS (R192): An input's tap falls below threshold; every switch on it moves to the other input and single mode is set. -/
  | inputLoss (src : Source) (tap : Int)
  /-- INPUT_RETURN (R194): A lost input within threshold for 65,536 bells is brought back and lines move back one at a time. -/
  | inputReturn (src : Source) (tap : Int) (identity : List Byte)
  /-- LINE_FAIL (R195): A failed line is switched to the other source in every ferry and LINE_FAIL raised. -/
  | lineFail (src : Source) (line : Nat) (monitors : Bool)
  /-- LINE_MOVE (R191): A line is raised on the new source, switched at the next boundary once at level, and lowered on the old. -/
  | lineMove (line : Nat) (dst : Source)
  /-- LANTERN_ALERT (R197): LTN_ALERT_N is pulled; the Alert Response Address is read and the module's lines polled. -/
  | lanternAlert (src : Source)
  /-- LANTERN_BUS_STUCK (R201): SDA held low over 1 ms: 9 clocks and STOP are sent, then back-off retries. -/
  | lanternBusStuck (stillLow : Bool)
  /-- SET_LINE_POWER (R198): The IZ5 sends SET_LINE_POWER to a laser module for one line or all. -/
  | setLinePower (src : Source) (line : Option Nat) (power : Int) (ack : Bool)
  /-- READ_LINE_POWER (R198): The IZ5 reads a line's status, measured power, setpoint and bias. -/
  | readLinePower (src : Source) (line : Nat) (r : LineReading)
  /-- READ_HOURS (R198): The IZ5 reads a module's powered and emitting hours. -/
  | readHours (src : Source) (powered emitting : Nat)
  /-- SET_STANDBY (R198): The IZ5 puts a module in standby or makes it emit at its setpoints. -/
  | setStandby (src : Source) (on : Bool)
  /-- READ_IDENTITY (R198): The IZ5 reads a module's identity record. -/
  | readIdentity (src : Source) (identity : List Byte)
  /-- LANTERN_TRANSACTION_FAIL (R200): A Lantern bus transaction fails by NACK, PEC or timeout and is retried, then MODULE_COMM raised. -/
  | lanternTransactionFail (src : Source)
  /-- MONITOR_SAMPLE (R215): A monitor ADC converts one channel and applies auto-ranging and range-move flags. -/
  | monitorSample (ch code : Nat) (loop : Bool)
  /-- RANGE_PIN_END (R216): After 64 loop samples the channel's pin ends and auto-ranging resumes. -/
  | rangePinEnd (ch : Nat)
  /-- ADC_REFERENCE_CHECK (R219): Each ADC's per-bell reference conversion is checked; failure raises MON_ADC_FAULT. -/
  | adcReferenceCheck (adc : Nat) (pass : Bool)
  /-- HEARTH_LOOP_UPDATE (R224): In its bell a loop takes its sample, updates by dither, level or feed-forward rule, and writes changed heater codes. -/
  | hearthLoopUpdate (loop : Nat) (phase : Int) (dacFault : Bool)
  /-- PARK_MOVE (R227): The Hearth firmware moves the parked unit's reference power by half a line spacing. -/
  | parkMove (loop : Nat)
  /-- MIRROR_FRAME (R248): The owner sends its bell's loop state and codes to the standby, which compares and adopts them. -/
  | mirrorFrame (present crcGood : Bool) (upsets : List (Nat × Nat))
  /-- HEARTBEAT_SEND (R249): At cycle 896 each Hearth toggles its line and writes its heartbeat word. -/
  | heartbeatSend (lineA wordA lineB wordB : Bool)
  /-- HEARTH_BIST (R251): Each Hearth runs its loop-engine BIST in cycles 1,024–1,279 of every even bell. -/
  | hearthBist (passA passB : Bool)
  /-- HEARTH_MARCH_BLOCK (R251): The firmware marches one 256-byte block of data memory. -/
  | hearthMarchBlock (h : Nat) (pass : Bool)
  /-- REEVE_ARBITRATION (R254): The Reeve decides which Hearth is faulty after a heartbeat-path event or compare mismatch. -/
  | reeveArbitration (agreesA agreesB : Bool)
  /-- HEARTH_REPAIR (R258): The Reeve resets a FAILED Hearth, reloads its image and runs BIST; success enters RESYNC. -/
  | hearthRepair (h : Nat) (good : Bool)
  /-- RESYNC_COPY (R259): The owner sends a full state copy to a RESYNC Hearth and the copy is compared by CRC. -/
  | resyncCopy (h : Nat) (crcEqual : Bool)
  /-- RESYNC_COMPLETE (R259): After 8 consecutive clean compared bells a RESYNC Hearth becomes STANDBY. -/
  | resyncComplete (h : Nat)
  /-- RESYNC_TIMEOUT (R259): A Hearth in RESYNC for 1,048,576 bells raises SELFTEST_FAIL and is repaired again. -/
  | resyncTimeout (h : Nat)
  /-- HEARTH_SWITCH_REQUEST (R261): HEARTH_SWITCH_CTRL.REQUEST with key requests a planned handover, or sets REQ_REFUSED. -/
  | hearthSwitchRequest (val : Word)
  /-- HEARTH_SOFT_RESET (R261): PG_CTRL.SOFT_RESET on a Hearth page resets that Hearth, after a handover if it is owner. -/
  | hearthSoftReset (h : Nat)
  /-- LOS_EVALUATE (R282): Each receive wavelength's loss-of-signal detector is evaluated once per bell. -/
  | losEvaluate (f w : Nat) (carrier : Int)
  /-- LANE_DETECT_EXIT (R282): A link with LOS clear 16 bells and its loops LOCKED leaves DETECT for TRAIN. -/
  | laneDetectExit (f j : Nat)
  /-- TRAINING_FRAME_RECEIVE (R285): A received training frame's preamble is tested for a correction and its identity block checked. -/
  | trainingFrameReceive (f j : Nat) (frame : TrainFrame)
  /-- EQ_FREEZE_WRITE (R289): A write of FERRY_EQ_FREEZE freezes or resumes a link's taps, taking it as converged. -/
  | eqFreezeWrite (f : Nat) (val : Word)
  /-- LANE_TRAIN_DONE (R287): All TRAIN conditions and the far end's TRAIN_DONE hold; the link enters LOCK. -/
  | laneTrainDone (f j : Nat)
  /-- LANE_LOCK_DONE (R290): The guard is found at one position in 4 decoded frames; the link enters EXCHANGE. -/
  | laneLockDone (f j : Nat)
  /-- LANE_EXCHANGE_DONE (R292): EXCHANGE conditions hold and the link becomes ACTIVE at the next boundary, fixing far-end records. -/
  | laneExchangeDone (f j : Nat)
  /-- LANE_STAGE_TIMEOUT (R280): A lane stage reaches its time-out and the link returns to DETECT with its reason. -/
  | laneStageTimeout (f j : Nat)
  /-- LANE_BACKOFF_EXPIRY (R281): A link's back-off ends and it may leave DETECT again. -/
  | laneBackoffExpiry (f j : Nat)
  /-- FERRY_LANE_RESET (R296): A FERRY_LANE_RESET bit sends RETRAIN for 8 bells where needed, then returns the link to DETECT. -/
  | ferryLaneReset (f : Nat) (mask : Word)
  /-- FRAME_LAND (R278): A frame lands: codewords are decoded, header and trailer checked, time measured and each filled slot handled. -/
  | frameLand (f j : Nat) (frame : RxFrame)
  /-- HOST_DELIVERY (R339): A deliverable sheaf of a HOST entry is read, tally-checked and written to the host ring through the window. -/
  | hostDelivery (land : Nat) (ecc : EccResult)
  /-- LANDING_RESET (R340): A write to SCHED_LAND_RESET resets a landing entry's expected sequence at the next boundary. -/
  | landingReset (idx : Nat)
  /-- PUT_APPLY (R344): A PUT sheaf read from its Weir cell writes its bytes at TARGET. -/
  | putApply (ecc : EccResult) (bad : Nat)
  /-- GET_REQ_APPLY (R344): A GET_REQ reads LENGTH bytes at SOURCE and sends a GET_DATA to ORIGIN. -/
  | getReqApply (ecc : EccResult) (bad : Nat) (src : EccResult)
  /-- GET_DATA_APPLY (R344): A GET_DATA writes its bytes at TARGET at the origin. -/
  | getDataApply (ecc : EccResult) (bad : Nat)
  /-- PROGRAM_SHEAF_APPLY (R361): A PROGRAM sheaf writes its piece into the staging region. -/
  | programSheafApply (ecc : EccResult) (bad : Nat)
  /-- MGMT_SHEAF_APPLY (R276): A MGMT open sheaf is applied at its destination. -/
  | mgmtSheafApply (ecc : EccResult) (bad : Nat)
  /-- CREDIT_SHEAF_SEND (R346): A receiver reports GRANTED in a CREDIT sheaf on entry, after WEIR_BATCH growth or after 64 bells. -/
  | creditSheafSend (f j : Nat)
  /-- COMPONENT_SPARE (R306): At the boundary after a trigger the Shepherd moves a modulator ring, drop ring or detector pair to its spare. -/
  | componentSpare (f w kind : Nat)
  /-- DETOUR_START (R310): Two bells after a link leaves ACTIVE its scheduled slots fold onto the captured detour, or DETOUR_NONE. -/
  | detourStart (f j : Nat)
  /-- DETOUR_WITHDRAW (R315): Two bells after the link re-enters ACTIVE its slots return and the detour is withdrawn. -/
  | detourWithdraw (f j : Nat)
  /-- HOLD_EPISODE_CAP (R317): A hold episode reaches 64 bells and the task's timeout count resumes. -/
  | holdEpisodeCap (f j : Nat)
  /-- TASK_TIMEOUT (R318): A task's bell count reaches TIMEOUT; its sheaves are flushed and it completes with TIMEOUT. -/
  | taskTimeout (slot : Nat)
  /-- FENCE_MARK_SEND (R322): The origin sends a fence mark once none of the flow's sheaves is held. -/
  | fenceMarkSend (slot flow : Nat)
  /-- RING_REGISTER_WRITE (R353): A write of ring base or size is accepted only while QUIET, else RING_BAD. -/
  | ringRegisterWrite (off : Nat) (val : Word)
  /-- CMD_TAIL_WRITE (R355): A CMD_TAIL doorbell write covers new descriptors, or is ignored with RING_BAD. -/
  | cmdTailWrite (val : Word)
  /-- DESCRIPTOR_READ (R356): A covered descriptor's read from host memory completes. -/
  | descriptorRead (entry : Nat) (desc : List Byte)
  /-- RING_FAULT (R357): A failed descriptor read or event write stops the ring with FAULT. -/
  | ringFault (reason entry : Nat)
  /-- EVT_HEAD_WRITE (R371): An EVT_HEAD write returns consumed event entries, or is ignored with RING_BAD. -/
  | evtHeadWrite (val : Word)
  /-- CMD_CANCEL_WRITE (R369): A tag written to CMD_CANCEL enters the cancel FIFO, or overflows. -/
  | cmdCancelWrite (tag : Word)
  /-- CANCEL_EXPIRED (R370): A cancel entry that acted on nothing for CMD_CANCEL_TTL admission points is removed with a notice. -/
  | cancelExpired (tag : Word)
  /-- OP_PUT (R360): PUT sends its source in 496-byte PUT sheaves in open slots and completes on first-hop ACKs. -/
  | opPut (slot : Nat) (eccs : List EccResult)
  /-- OP_GET (R360): GET sends GET_REQ pieces and completes when every reply is written at RETURN. -/
  | opGet (slot : Nat)
  /-- OP_PROGRAM_RUN (R361): PROGRAM in RUN mode loads the image into the Miller and runs it as the task. -/
  | opProgramRun (slot : Nat) (img : Image) (ecc : EccResult)
  /-- OP_PROGRAM_SEND (R361): PROGRAM in SEND mode sends the image to DEST's staging region in PROGRAM sheaves. -/
  | opProgramSend (slot : Nat) (eccs : List EccResult)
  /-- OP_FENCE (R362): FENCE completes when receipts for every covered flow have reached the origin. -/
  | opFence (slot : Nat)
  /-- OP_SWAP (R363): SWAP writes SCHED_SWAP_BELL and ARM and completes after the swap, or with SWAP_REFUSED. -/
  | opSwap (slot : Nat)
  /-- OP_ALL_REDUCE (R457): COLLECTIVE ALL_REDUCE folds inputs up the tree and sends the result down to every member. -/
  | opAllReduce (slot blocks : Nat) (eccs : List EccResult)
  /-- OP_REDUCE (R457): COLLECTIVE REDUCE folds inputs up the tree to the root only. -/
  | opReduce (slot blocks : Nat) (eccs : List EccResult)
  /-- OP_REDUCE_SCATTER (R457): COLLECTIVE REDUCE_SCATTER reduces and each rank writes its own block of the result. -/
  | opReduceScatter (slot blocks : Nat) (eccs : List EccResult)
  /-- OP_BROADCAST (R457): COLLECTIVE BROADCAST sends the root's input down to every member. -/
  | opBroadcast (slot blocks : Nat) (eccs : List EccResult)
  /-- OP_ALL_GATHER (R457): COLLECTIVE ALL_GATHER concatenates blocks up the tree in rank order and sends them down. -/
  | opAllGather (slot blocks : Nat) (eccs : List EccResult)
  /-- OP_ALL_TO_ALL (R458): COLLECTIVE ALL_TO_ALL sends block j to rank j on peer flows and writes arriving blocks by rank. -/
  | opAllToAll (slot blocks : Nat) (eccs : List EccResult)
  /-- OP_BARRIER (R457): COLLECTIVE BARRIER exchanges census sheaves up and down only. -/
  | opBarrier (slot blocks : Nat) (eccs : List EccResult)
  /-- OP_SELECT (R484): SELECT finds each row's top-k keys across the group in five phases and writes row records. -/
  | opSelect (slot blocks : Nat) (eccs : List EccResult)
  /-- OP_SCAN_CARRY (R502): SCAN CARRY composes given summaries along the chain and writes exclusive and inclusive carries. -/
  | opScanCarry (slot blocks : Nat) (eccs : List EccResult)
  /-- OP_SCAN_CHUNK (R503): SCAN CHUNK forms its summary, takes the incoming carry and writes every state h_t. -/
  | opScanChunk (slot blocks : Nat) (eccs : List EccResult)
  /-- OP_SCAN_STREAM (R507): SCAN STREAM runs the state pass over chunk entries in host memory until a LAST chunk. -/
  | opScanStream (slot blocks : Nat) (eccs : List EccResult)
  /-- OP_SCAN_PIPE (R510): SCAN PIPE runs gated recurrent layers over rows and blocks of time. -/
  | opScanPipe (slot blocks : Nat) (eccs : List EccResult)
  /-- TASK_START (R367): A WAITING task reaches its START_BELL, or its group predecessor leaves, and starts running. -/
  | taskStart (slot : Nat)
  /-- IRQ_MASK_WRITE (R375): Unmasking a pending vector in CMD_IRQ_MASK sends its MSG at the next admission point. -/
  | irqMaskWrite (val : Word)
  /-- PROGRAM_IMAGE_LOAD (R399): A RUN task's image is loaded once a free instruction range and data area exist. -/
  | programImageLoad (slot : Nat)
  /-- MILL_STEP_START (R413): A task step starts when its declared rows are free, in window and slot order. -/
  | millStepStart (slot : Nat) (ecc : EccResult)
  /-- MILL_STEP_FINISH (R422): A step reaches its step point with all work complete; the task's state is saved. -/
  | millStepFinish (slot : Nat)
  /-- STEP_DEFERRED (R413): A step not started when the own part ends is deferred to the next window. -/
  | stepDeferred (slot : Nat)
  /-- BELL_OVERRUN (R65): A step unfinished at cycle 160 of the overlap aborts its task with OVERRUN. -/
  | bellOverrun (slot : Nat)
  /-- SCRUB_SLOT (R518): A bank's background slot scrubs one line, correcting or poisoning it. -/
  | scrubSlot (bank fixed : Nat) (bad : Bool)
  /-- SPARE_BIST_SLOT (R519): A fifth background slot marches one line of a spare row. -/
  | spareBistSlot (bank : Nat) (good : Bool)
  /-- REMAP_COPY_SLOT (R520): A fifth background slot copies one line of a remapped row. -/
  | remapCopySlot (bank : Nat) (ecc : EccResult)
  /-- REMAP_SWITCH (R520): At the boundary after the last copied line the mapping switches to the spare row. -/
  | remapSwitch (bank : Nat)
  /-- TRACE_CTRL_WRITE (R448): Writing TRACE_CTRL.EN = 1 clears FULL and FROZEN and restarts recording. -/
  | traceCtrlWrite (val : Word)
  /-- PARTIAL_EXCLUSION (R465): A child whose stream has not begun within 2^PARTIAL_WAIT bells is excluded. -/
  | partialExclusion (slot child : Nat)
  /-- CURVE_SHADOW_WRITE (R513): A LOOM_PWL_WORD write goes to the shadow bank, or is dropped with CURVE_BUSY. -/
  | curveShadowWrite (path : Path) (k : Nat) (val : Word)
  /-- ABORT_NOTICE_RECEIVE (R469): An ABORT sheaf aborts the matching group task, is kept pending, or is discarded. -/
  | abortNoticeReceive (src : Nat) (sheaf : Sheaf)
  /-- ABORT_NOTICE_EXPIRED (R469): A pending abort notice expires after 65,536 bells with a Ledger record. -/
  | abortNoticeExpired (group inst : Nat)
  /-- DITHER_CAL_PASS (R521): A calibration pass over one ferry's loops updates tuning efficiencies. -/
  | ditherCalPass (f : Nat) (etas : List (Nat × Int))
  /-- BG_SHEAF_RECEIVE (R523): A BG sheaf is handled by type, a DIGEST written to the collect ring, others discarded. -/
  | bgSheafReceive (link : Nat) (sheaf : Sheaf)
  /-- CALIB_DITHER_CAL (R525): CALIB_REQ kind DITHER_CAL queues a dither calibration pass. -/
  | calibDitherCal (val : Word)
  /-- CALIB_L0_CHECK (R525): CALIB_REQ kind L0_CHECK fills L0 with check sheaves for 1,024 bells. -/
  | calibL0Check (val : Word)
  /-- CALIB_SPARE_BIST (R525): CALIB_REQ kind SPARE_BIST starts a fresh spare-row BIST pass. -/
  | calibSpareBist (val : Word)
  /-- CALIB_FERRY_RELOCK (R527): CALIB_REQ kind FERRY_RELOCK relocks a DRAINED ferry, or is refused BUSY. -/
  | calibFerryRelock (val : Word)
  /-- CALIB_LANE_BIST (R528): CALIB_REQ kind LANE_BIST retrains named links and counts PRBS errors. -/
  | calibLaneBist (val : Word)
  /-- LANE_BIST_END (R528): After CALIB_BELLS the lane BIST count is stored and the link comes up normally. -/
  | laneBistEnd (f j : Nat) (errors : Option Nat)
  /-- CALIB_REQ_BAD (R525): A CALIB_REQ with a wrong key or reserved kind sets RESULT BAD. -/
  | calibReqBad (val : Word)
  /-- TELEM_AGE_RESET (R524): TELEM_AGE_RESET takes the next drawn-level poll of a line as its first bias. -/
  | telemAgeReset (val : Word)
  /-- ERROR_OCCURRENCE (R537): An error occurrence sets its PG_ERR bit, writes a Ledger entry and on a rising takes its class's reactions. -/
  | errorOccurrence (page code : Nat) (tag : EntryTag) (injected prefetch : Bool) (detail : Nat)
  /-- ALARM_PIN_SAMPLE (R545): ALARM_N is sampled at cycle 640, checking for pin fault, external low and stuck line. -/
  | alarmPinSample (level : Bool)
  /-- ALARM_SUMMARY_CLEAR (R534): A W1C write clears ALARM_SUMMARY bits whose lines are no longer asserted. -/
  | alarmSummaryClear (val : Word)
  /-- LEDGER_ENTRY_WRITE (R553): The Ledger writes the next queued entry and verifies it, or drops it when full. -/
  | ledgerEntryWrite (verify : EccResult)
  /-- LEDGER_BIST_DONE (R556): The Ledger BIST completes and sets BIST_PASS. -/
  | ledgerBistDone (pass : Bool)
  /-- LEDGER_REARM (R556): LEDGER_REARM with key after a passing BIST zeroes the ring and resumes the Ledger. -/
  | ledgerRearm (val : Word) (verify : EccResult)
  /-- READ_REG (R563): SMBus READ_REG returns a status and one 32-bit register word. -/
  | readReg (addr : Nat)
  /-- WRITE_REG (R563): SMBus WRITE_REG writes one 32-bit register word. -/
  | writeReg (addr : Nat) (val : Word) (pec : Option Bool)
  /-- MBX_WRITE (R562): SMBus MBX_WRITE appends bytes to the mailbox request buffer. -/
  | mbxWrite (data : List Byte) (pec : Option Bool)
  /-- MBX_SEND (R576): SMBus MBX_SEND queues the buffered request for the Reeve. -/
  | mbxSend (pec : Option Bool)
  /-- MBX_READ (R562): SMBus MBX_READ returns bytes of the mailbox response. -/
  | mbxRead (off : Nat)
  /-- MBX_CLEAR (R562): SMBus MBX_CLEAR empties the mailbox request buffer. -/
  | mbxClear (pec : Option Bool)
  /-- SMB_ALERT_RESPONSE (R565): A read of the Alert Response Address returns the address and releases SMB_ALERT_N. -/
  | smbAlertResponse (wins : Bool)
  /-- UART_CHAR_RECEIVE (R567): A received character is framed and delivered, or dropped on a framing error or overrun. -/
  | uartCharReceive (edge high : Nat) (samples : List Bool)
  /-- UART_BREAK (R568): UART_RX held low over 320 samples is one BREAK and discards the partial line. -/
  | uartBreak (low high : Nat)
  /-- BYPASS (R571): JTAG BYPASS selects the one-bit register. -/
  | bypass (ir : Nat)
  /-- SAMPLE_PRELOAD (R571): JTAG SAMPLE/PRELOAD captures and preloads boundary scan. -/
  | samplePreload (data : List Bool)
  /-- EXTEST (R571): JTAG EXTEST drives pins from boundary scan. -/
  | extest (data : List Bool)
  /-- REG_ACCESS (R573): JTAG REG_ACCESS reads or writes a register word at Update-DR. -/
  | regAccess (op addr : Nat) (val : Word)
  /-- REEVE_DBG (R573): JTAG REEVE_DBG accesses the Reeve's debug space with permission. -/
  | reeveDbg (op addr : Nat) (val : Word)
  /-- HEARTH_DBG (R573): JTAG HEARTH_DBG accesses a Hearth's debug space with permission. -/
  | hearthDbg (op addr : Nat) (val : Word)
  /-- MILLER_DBG (R573): JTAG MILLER_DBG accesses the Miller's debug space with permission. -/
  | millerDbg (op addr : Nat) (val : Word)
  /-- MEM_ACCESS (R573): JTAG MEM_ACCESS reads or writes Granary words through the host port. -/
  | memAccess (op addr : Nat) (val : Word) (ecc : EccResult)
  /-- DEBUG_HALT (R574): A debug control HALT stops a processor, which the device treats as stopped. -/
  | debugHalt (unit : Nat)
  /-- DEBUG_STEP (R573): A debug control STEP single-steps a halted processor. -/
  | debugStep (unit : Nat)
  /-- DEBUG_RESUME (R573): A debug control RESUME restarts a halted processor. -/
  | debugResume (unit : Nat)
  /-- HEARTH_CONTROLLER_STOP (R253): A Hearth controller stops by itself, sending no more codes, mirror frames or heartbeats. -/
  | hearthControllerStop (h : Nat)
  /-- PG_ERR_CLEAR (R104): A W1C write to PG_ERR clears bits, dropping the error line and clearing PG_ERR_FIRST when PG_ERR becomes all zero. -/
  | pgErrClear (page : Nat) (val : Word)
  /-- PG_ERR_MASK_WRITE (R103): A PG_ERR_MASK write changes which set bits drive the error line, which can assert the line and set the ALARM_SUMMARY bit. -/
  | pgErrMaskWrite (page : Nat) (val : Word)
  /-- LEDGER_RP_WRITE (R554): Software advances LEDGER_RP, which clears FULL when the ring is no longer full. -/
  | ledgerRpWrite (val : Word)
  /-- LEDGER_WRAP_WRITE (R554): Writing LEDGER_CTRL.WRAP = 1 makes the ring overwrite its oldest entry and clears FULL. -/
  | ledgerWrapWrite (val : Word)
  /-- ADD (R426): Miller 64-bit wrapping addition. -/
  | add (o : OpAt) (xd xa xb : Nat)
  /-- SUB (R426): Miller 64-bit wrapping subtraction. -/
  | sub (o : OpAt) (xd xa xb : Nat)
  /-- MUL (R426): Miller 64-bit wrapping multiplication. -/
  | mul (o : OpAt) (xd xa xb : Nat)
  /-- AND (R426): Miller bitwise AND. -/
  | and (o : OpAt) (xd xa xb : Nat)
  /-- OR (R426): Miller bitwise OR. -/
  | or (o : OpAt) (xd xa xb : Nat)
  /-- XOR (R426): Miller bitwise XOR. -/
  | xor (o : OpAt) (xd xa xb : Nat)
  /-- SHL (R426): Miller left shift by the low 6 bits of the count. -/
  | shl (o : OpAt) (xd xa xb : Nat)
  /-- SHR (R426): Miller logical right shift. -/
  | shr (o : OpAt) (xd xa xb : Nat)
  /-- SRA (R426): Miller arithmetic right shift. -/
  | sra (o : OpAt) (xd xa xb : Nat)
  /-- LI (R426): Load a 64-bit immediate into an x register. -/
  | li (o : OpAt) (xd imm : Nat)
  /-- SLT (R426): Signed less-than compare into an x register. -/
  | slt (o : OpAt) (xd xa xb : Nat)
  /-- SLTU (R426): Unsigned less-than compare into an x register. -/
  | sltu (o : OpAt) (xd xa xb : Nat)
  /-- SEQ (R426): Equality compare into an x register. -/
  | seq (o : OpAt) (xd xa xb : Nat)
  /-- BEQ (R441): Branch if equal; a taken branch discards up to two fetched words. -/
  | beq (o : OpAt) (xa xb label : Nat)
  /-- BNE (R441): Branch if not equal. -/
  | bne (o : OpAt) (xa xb label : Nat)
  /-- BLT (R441): Branch if signed less than. -/
  | blt (o : OpAt) (xa xb label : Nat)
  /-- BGE (R441): Branch if signed greater or equal. -/
  | bge (o : OpAt) (xa xb label : Nat)
  /-- BLTU (R441): Branch if unsigned less than. -/
  | bltu (o : OpAt) (xa xb label : Nat)
  /-- JMP (R441): Unconditional jump. -/
  | jmp (o : OpAt) (label : Nat)
  /-- LD_D (R426): Load 8 bytes from the task's Miller data area. -/
  | ldD (o : OpAt) (xd xa : Nat) (imm : Int) (ecc : EccResult)
  /-- ST_D (R426): Store 8 bytes to the task's Miller data area. -/
  | stD (o : OpAt) (xa : Nat) (imm : Int) (xs : Nat)
  /-- LOOP_M (R428): Start a Miller loop over long words up to a label. -/
  | loopM (o : OpAt) (xc stop : Nat)
  /-- CALL_PB (R429): Call a callable Pattern Book routine within the step. -/
  | callPb (o : OpAt) (routine : Nat) (entry : Option Nat)
  /-- RET (R429): Return from a Pattern Book routine. -/
  | ret (o : OpAt)
  /-- STEP (R422): End the current step and name the rows and mode of the next. -/
  | step (o : OpAt) (rows : Nat) (mode : RowMode) (hold : Bool)
  /-- WAIT_L (R431): Continue if a landed sheaf is delivered, else end the step here to retry. -/
  | waitL (o : OpAt) (xland xseq : Nat)
  /-- END (R422): Finish the task with RESULT from an x register. -/
  | endOp (o : OpAt) (xs : Nat)
  /-- FENCE_G (R436): Hold issue until every earlier store of the step is visible. -/
  | fenceG (o : OpAt)
  /-- CFG_L (R437): Write a layer configuration word into the rows. -/
  | cfgL (o : OpAt) (n xs : Nat)
  /-- GO_COPY (R437): Start a COPY layer moving bytes between Granary addresses. -/
  | goCopy (o : OpAt) (eccs : List EccResult)
  /-- GO_REDUCE (R463): Start a REDUCE layer folding its input list element by element. -/
  | goReduce (o : OpAt) (eccs : List EccResult)
  /-- GO_SIEVE (R490): Start a SIEVE layer producing one piece's partial list. -/
  | goSieve (o : OpAt) (eccs : List EccResult)
  /-- GO_SCAN (R498): Start a SCAN layer running a linear-recurrence pass. -/
  | goScan (o : OpAt) (eccs : List EccResult)
  /-- GO_PIPE (R509): Start a PIPE layer computing gated recurrent layers. -/
  | goPipe (o : OpAt) (eccs : List EccResult)
  /-- GO_WAIT (R437): Hold issue until every layer of the step has finished. -/
  | goWait (o : OpAt)
  /-- MV_XV (R426): Move a vector lane from a core into an x register. -/
  | mvXv (o : OpAt) (xd vs lane core : Nat)
  /-- ST_I (R439): Replace a word of the task's image with a patch word. -/
  | stI (o : OpAt) (wi pi : Nat)
  /-- SYNC_I (R440): Complete earlier ST.I and discard prefetched words. -/
  | syncI (o : OpAt)
  /-- RD_BELL (R438): Read the bell number of the step's window; makes the image timed. -/
  | rdBell (o : OpAt) (xd : Nat)
  /-- RD_ARR (R438): Read the count of open sheaves applied with the task's tag; makes the image timed. -/
  | rdArr (o : OpAt) (xd : Nat)
  /-- LOOP_E (R427): Start an engine loop replaying up to 16 operations of a stream. -/
  | loopE (o : OpAt) (st : Stream) (xc n : Nat)
  /-- A_SET (R430): Set an address register from an x register. -/
  | aSet (o : OpAt) (an xs : Nat)
  /-- A_SETC (R430): Set an address register from an x register plus rank times stride. -/
  | aSetc (o : OpAt) (an xs stride : Nat)
  /-- A_ADD (R430): Add an immediate to an address register. -/
  | aAdd (o : OpAt) (an : Nat) (imm : Int)
  /-- LD_V (R430): Load 256 bytes from the Granary into a vector register. -/
  | ldV (o : OpAt) (vd an : Nat) (k : Int) (eccs : List EccResult)
  /-- ST_V (R430): Store 256 bytes from a vector register, checked against the region. -/
  | stV (o : OpAt) (an : Nat) (k : Int) (vs : Nat)
  /-- LD_Q (R430): Load 256 bytes and push them onto a data queue. -/
  | ldQ (o : OpAt) (qn an : Nat) (k : Int) (eccs : List EccResult)
  /-- SQ_ST (R430): Pop the store queue head and store it. -/
  | sqSt (o : OpAt) (an : Nat) (k : Int)
  /-- SQ_SH (R432): Pop 512 bytes from the store queue and send them as a FLOW sheaf. -/
  | sqSh (o : OpAt) (xflow xseq : Nat) (lastSheaf : Bool)
  /-- LD_SH (R431): Load a delivered landed sheaf, verify its tally and push its payload. -/
  | ldSh (o : OpAt) (qn xland xseq : Nat) (eccs : List EccResult)
  /-- ACC_LD (R430): Load one accumulator from the Granary. -/
  | accLd (o : OpAt) (cn an : Nat) (eccs : List EccResult)
  /-- ACC_ST (R430): Store one accumulator to the Granary. -/
  | accSt (o : OpAt) (an cn : Nat)
  /-- V_ADD (R433): Vector addition per format. -/
  | vAdd (o : OpAt) (f : VFmt) (d a b : VReg) (p : Option Nat)
  /-- V_SUB (R433): Vector subtraction per format. -/
  | vSub (o : OpAt) (f : VFmt) (d a b : VReg) (p : Option Nat)
  /-- V_MUL (R433): Vector multiplication per format. -/
  | vMul (o : OpAt) (f : VFmt) (d a b : VReg) (p : Option Nat)
  /-- V_FMA (R433): Vector fused multiply-add, rounded once. -/
  | vFma (o : OpAt) (f : VFmt) (d a b c : VReg) (p : Option Nat)
  /-- V_MAX (R433): Vector maximum with NaN and signed-zero rules. -/
  | vMax (o : OpAt) (f : VFmt) (d a b : VReg) (p : Option Nat)
  /-- V_MIN (R433): Vector minimum with NaN and signed-zero rules. -/
  | vMin (o : OpAt) (f : VFmt) (d a b : VReg) (p : Option Nat)
  /-- V_ABS (R433): Vector absolute value. -/
  | vAbs (o : OpAt) (f : VFmt) (d a : VReg) (p : Option Nat)
  /-- V_NEG (R433): Vector negation. -/
  | vNeg (o : OpAt) (f : VFmt) (d a : VReg) (p : Option Nat)
  /-- V_AND (R433): Vector bitwise AND on integer formats. -/
  | vAnd (o : OpAt) (f : VFmt) (d a b : VReg) (p : Option Nat)
  /-- V_OR (R433): Vector bitwise OR on integer formats. -/
  | vOr (o : OpAt) (f : VFmt) (d a b : VReg) (p : Option Nat)
  /-- V_XOR (R433): Vector bitwise XOR on integer formats. -/
  | vXor (o : OpAt) (f : VFmt) (d a b : VReg) (p : Option Nat)
  /-- V_NOT (R433): Vector bitwise NOT on integer formats. -/
  | vNot (o : OpAt) (f : VFmt) (d a : VReg) (p : Option Nat)
  /-- V_SHL (R433): Vector left shift on integer formats. -/
  | vShl (o : OpAt) (f : VFmt) (d a b : VReg) (p : Option Nat)
  /-- V_SHR (R433): Vector logical right shift on integer formats. -/
  | vShr (o : OpAt) (f : VFmt) (d a b : VReg) (p : Option Nat)
  /-- V_SRA (R433): Vector arithmetic right shift on integer formats. -/
  | vSra (o : OpAt) (f : VFmt) (d a b : VReg) (p : Option Nat)
  /-- V_CMP (R433): Vector compare into a predicate. -/
  | vCmp (o : OpAt) (cc : VCmp) (f : VFmt) (pd : Nat) (a b : VReg) (p : Option Nat)
  /-- V_SEL (R433): Vector select by predicate. -/
  | vSel (o : OpAt) (d : VReg) (p : Nat) (a b : VReg)
  /-- V_MOV (R433): Vector copy. -/
  | vMov (o : OpAt) (d a : VReg) (p : Option Nat)
  /-- V_BCAST (R433): Broadcast the low bits of an x register to every lane. -/
  | vBcast (o : OpAt) (f : VFmt) (d : VReg) (xs : Nat) (p : Option Nat)
  /-- V_IOTA (R433): Write each lane's index. -/
  | vIota (o : OpAt) (f : VFmt) (d : VReg) (p : Option Nat)
  /-- V_PERM (R433): Permute lanes by an index vector. -/
  | vPerm (o : OpAt) (f : VFmt) (d a i : VReg) (p : Option Nat)
  /-- V_RED (R433): Reduce all lanes in a fixed pairwise tree into lane 0. -/
  | vRed (o : OpAt) (op : VRed) (f : VFmt) (d a : VReg) (p : Option Nat)
  /-- V_CVT (R433): Format conversion rounding to nearest even. -/
  | vCvt (o : OpAt) (src dst : VFmt) (d a : VReg) (p : Option Nat)
  /-- V_CVT_SR (R462): Format conversion with counter-based stochastic rounding. -/
  | vCvtSr (o : OpAt) (src dst : VFmt) (d a : VReg) (xseed xidx : Nat) (p : Option Nat)
  /-- V_PWL (R511): Evaluate a piecewise-linear curve table per lane. -/
  | vPwl (o : OpAt) (d a : VReg) (table : Nat) (p : Option Nat)
  /-- M_ZERO (R434): Zero an accumulator. -/
  | mZero (o : OpAt) (cn : Nat)
  /-- M_OPA (R434): BF16 16×16 outer-product accumulate into an accumulator. -/
  | mOpa (o : OpAt) (cn : Nat) (a b : VReg) (k : Nat)
  /-- M_RD (R434): Read four accumulator rows into a vector. -/
  | mRd (o : OpAt) (d : VReg) (cn r : Nat)
  /-- M_WR (R434): Write four accumulator rows from a vector. -/
  | mWr (o : OpAt) (cn : Nat) (v : VReg) (r : Nat)
  /-- M_ADD (R434): Add a vector into four accumulator rows. -/
  | mAdd (o : OpAt) (cn : Nat) (v : VReg) (r : Nat)
  /-- S_INIT (R489): Empty the core's insertion list and set its capacity and mode. -/
  | sInit (o : OpAt) (xk xflags : Nat)
  /-- S_INS (R489): Insert predicated lanes into the insertion list. -/
  | sIns (o : OpAt) (vk vi : Nat) (p : Option Nat)
  /-- S_BIT_SORT (R489): Sort 64 key-index pairs with a bitonic network. -/
  | sBitSort (o : OpAt) (vk vi : Nat)
  /-- S_BIT_MERGE (R489): Merge two sorted vectors keeping the top 64. -/
  | sBitMerge (o : OpAt) (vk vi vk2 vi2 : Nat)
  /-- S_EXCL (R489): Set a predicate where keys rank below a given key. -/
  | sExcl (o : OpAt) (pd vk vi xv xi : Nat)
  /-- S_MRG (R489): Insert the first lanes of a vector into the list. -/
  | sMrg (o : OpAt) (vk vi xn : Nat)
  /-- S_GET (R489): Read the list into a vector with sentinels. -/
  | sGet (o : OpAt) (vk vi : Nat)
  /-- S_CNT (R489): Read the count of NaNs dropped since S.INIT. -/
  | sCnt (o : OpAt) (xd : Nat)
  /-- SIG (R403): Signal a token, stalling while it is 15. -/
  | sig (o : OpAt) (st : Stream) (t : Nat)
  /-- WAIT (R403): Wait on a token, stalling while it is 0. -/
  | wait (o : OpAt) (st : Stream) (t : Nat)
  /-- COLD_RESET (R81): VDD_KA falls below its power-on-reset threshold; every block, including the keep-alive domain, returns to its cold-reset values. -/
  | coldReset
  /-- PWR_OK_LOW (R81): The PWR_OK pin goes low; the IZ5 holds a warm reset for as long as it stays low, whatever RESET_N does. -/
  | pwrOkLow
  /-- RESET_N_ASSERT (R142): The host drives RESET_N low; a warm reset is held while it stays low. -/
  | resetNAssert
  /-- TEST_EN_HIGH (R73): TEST_EN goes high; the IZ5 holds itself in reset and answers only on JTAG. -/
  | testEnHigh
  /-- VDD_HTR_LOST (R84): VDD_HTR leaves tolerance while VDD_KA holds; HTR_LOST is set and every ferry's relock done mark is cleared. -/
  | vddHtrLost
  /-- REFCLK_LOSS (R67): REFCLK stops; REFCLK_LOST is raised, the PLLs enter holdover and the steer is frozen. -/
  | refclkLoss
  /-- REFCLK_RETURN (R67): REFCLK has been present for 1,024 consecutive bells; REFCLK_OK sets and the PLLs begin to relock by steering. -/
  | refclkReturn
  /-- STARTUP_BEGIN (R125): RESET_N rises with PWR_OK high; the straps are sampled and start-up begins at step 0. -/
  | startupBegin
  /-- STEP_CLOCKS (R125): Step 0 succeeds when the CCK, LCK and HCK PLLs have locked on REFCLK. -/
  | stepClocks
  /-- STEP_AUTH_REEVE (R132): Step 2: the boot ROM authenticates a Reeve image copy, loads it and hands over to it. -/
  | stepAuthReeve
  /-- STEP_PAIRING (R135): Step 4: the Reeve checks the Hearth version, stepping and Pattern Book version against the pairing table. -/
  | stepPairing
  /-- STEP_ALMANAC (R138): Step 5: a valid Almanac is loaded into the working copy, from keep-alive or the newer flash section. -/
  | stepAlmanac
  /-- STEP_LINK (R125): Step 6 succeeds when the Uahus link first becomes ACTIVE. -/
  | stepLink
  /-- STEP_RELOCK (R146): Step 8: ferries are relocked one at a time, skipping those with a complete relock record. -/
  | stepRelock
  /-- STEP_LANES (R125): Step 9: lane bring-up is started on every link of a ferry whose relock is done. -/
  | stepLanes
  /-- STEP_BELL_JOIN (R125): Step 10 succeeds when the bell state reaches LOCKED, ROOT_FREE or ROOT_REF. -/
  | stepBellJoin
  /-- STEP_REPORT (R126): Step 11: DEVICE_STATE is set to READY. -/
  | stepReport
  /-- BOOT_STEP_TIMEOUT (R127): An attempt at a start-up step reaches its time-out and is counted as a failure. -/
  | bootStepTimeout
  /-- BOOT_BACKOFF_EXPIRY (R127): The back-off after a failed start-up step ends and a new attempt at the same step begins. -/
  | bootBackoffExpiry
  /-- FLASH_READ (R152): BOOT_FLASH_CMD.OP READ reads 256 bytes of flash into the window. -/
  | flashRead
  /-- FLASH_PROGRAM (R152): BOOT_FLASH_CMD.OP PROGRAM writes 256 bytes to flash, refused in the Almanac sections. -/
  | flashProgram
  /-- FLASH_ERASE (R152): BOOT_FLASH_CMD.OP ERASE erases a 4 KiB sector, refused in the Almanac sections. -/
  | flashErase
  /-- BELL_JOIN_CHECK (R43): After 64 bells θ is measured again; the chiplet enters LOCKED or repeats the join step. -/
  | bellJoinCheck
  /-- BELL_SERVO_UPDATE (R49): Every 64 bells the steer is updated from the parent lane's averaged θ and other lanes are compared for TIME_DISAGREE. -/
  | bellServoUpdate
  /-- PARENT_LOST (R50): The parent stops being a candidate; the steer freezes, HOLDOVER is entered and a new parent is sought. -/
  | parentLost
  /-- HOLDOVER_LONG (R51): HOLDOVER has lasted BELL_HOLDOVER_LIMIT bells and HOLDOVER_LONG is raised once. -/
  | holdoverLong
  /-- STANDBY_ROOT_TAKEOVER (R54): A standby root in HOLDOVER for BELL_ROOT_WAIT bells with no candidate becomes root with a new epoch. -/
  | standbyRootTakeover
  /-- TIME_IN_LOST (R53): No TIME_IN edge for 3 s; the root freezes its steer and enters ROOT_FREE. -/
  | timeInLost
  /-- BAND_FALL (R87): After 64 consecutive bells below the leave threshold the band falls one step. -/
  | bandFall
  /-- TRIP_CLEAR (R91): THERMAL_CTRL.TRIP_CLEAR in band 0 or 1 clears TRIP and re-enables transmit at the next boundary. -/
  | tripClear
  /-- TOP_SNAP_ALL (R118): TOP_SNAP.ALL requests a snapshot of every page at the next boundary. -/
  | topSnapAll
  /-- FUNCTION_RESET (R144): At the boundary the function reset aborts every task, clears slots and the Miller and disables the rings. -/
  | functionReset
  /-- RETRAIN_ALL (R184): UAHUS_CTRL.RETRAIN_ALL returns every bundle to DETECT. -/
  | retrainAll
  /-- FLIT_GAP_TIMEOUT (R172): A SEQ gap not filled within 16 HCK cycles makes the receiver send a NAK. -/
  | flitGapTimeout
  /-- FLIT_ACK_TIMEOUT (R172): No ACK progress for 1,024 HCK cycles makes the sender resend held flits. -/
  | flitAckTimeout
  /-- LINK_STALL (R173): No ACK progress for 1,024 bells retrains every bundle and raises LINK_STALL. -/
  | linkStall
  /-- LINK_DOWN_LIMIT (R185): No bundle ACTIVE for UAHUS_DOWN_LIMIT bells raises LINK_DOWN and discards replay, SEQ, ACK and credit state. -/
  | linkDownLimit
  /-- HOST_STALL (R186): No MEM credit or read completion for UAHUS_STALL_LIMIT bells raises HOST_STALL. -/
  | hostStall
  /-- LINE_REARM (R195): LANTERN_CTRL.LINE_REARM lets failed lines be selected again. -/
  | lineRearm
  /-- LANTERN_POLL (R200): The Lantern's periodic READ_LINE_POWER and READ_HOURS polls fall due. -/
  | lanternPoll
  /-- WEAR_PERIOD (R240): Every 2^32 bells the firmware may request one line move toward the less worn source. -/
  | wearPeriod
  /-- HEARTBEAT_CHECK (R253): At cycle 1,024 each Hearth and the Reeve check the other's heartbeat paths and act on misses. -/
  | heartbeatCheck
  /-- HEALTH_CAPTURE (R252): At the last bell of an epoch each Hearth captures its health word. -/
  | healthCapture
  /-- FAILOVER_GRANT (R255): At the grant boundary the claiming Hearth receives write enable and computes without writing. -/
  | failoverGrant
  /-- FAILOVER_CUT (R255): At the cut boundary the new owner reads back codes, re-derives bases, runs updates and refreshes all codes. -/
  | failoverCut
  /-- PLANNED_HANDOVER (R256): Ownership passes to the STANDBY at a chosen boundary without a gap. -/
  | plannedHandover
  /-- RECLAIM (R260): With RECLAIM, after 1,024 clean compared bells the former owner takes ownership back. -/
  | reclaim
  /-- SHEAF_FORWARD (R335): A FORWARD sheaf is placed in the next bell on its out link, or becomes late. -/
  | sheafForward
  /-- SCHED_SHADOW_SCAN (R330): After the SCHED page is ARMED the shadow set is scanned for invalid entries within 64 bells. -/
  | schedShadowScan
  /-- WEIR_STALE (R348): A sheaf that has waited WEIR_STALE bells in a Weir cell is discarded. -/
  | weirStale
  /-- SPARE_REARM (R307): SHEPHERD_CTRL.SPARE_REARM takes the primaries back at the next boundary. -/
  | spareRearm
  /-- DETOUR_INTERMEDIATE (R313): An intermediate forwards a detoured sheaf on T_NEXT in the next bell, or refuses it when its queue is full. -/
  | detourIntermediate
  /-- CMD_ENABLE (R353): CMD_CTRL.EN = 1 while QUIET resets the indices and phase and enables admission. -/
  | cmdEnable
  /-- CMD_DISABLE (R354): CMD_CTRL.EN = 0 stops admission from the next admission point. -/
  | cmdDisable
  /-- CMD_RESUME (R357): CMD_CTRL.RESUME re-reads the failed entry and clears the fault. -/
  | cmdResume
  /-- CMD_BREAK_RESUME (R376): CMD_CTRL.BREAK_RESUME clears BROKEN so the descriptor at HEAD is taken next. -/
  | cmdBreakResume
  /-- OP_NOP (R364): NOP takes no slot and writes an OK event if EVENT is set. -/
  | opNop
  /-- OP_CANCEL_ALL (R364): CANCEL_ALL late-cancels every task holding a slot. -/
  | opCancelAll
  /-- TRACE_GROUP_STREAM (R449): A group of 256 records is sent as one DBG trace transaction when credit allows. -/
  | traceGroupStream
  /-- CALIB_L0_CHECK_END (R526): An extended L0 check run ends after 1,024 bells and reports DONE or FAILED. -/
  | calibL0CheckEnd
  /-- TELEMETRY_CAPTURE (R529): At each epoch boundary state and counters are captured and the telemetry record formed and delivered. -/
  | telemetryCapture
  /-- FREEZE_REACTION (R540): At the next boundary the data plane is frozen until a reset. -/
  | freezeReaction
  /-- WARM_REACTION (R541): At the next boundary a warm reset is taken, or withheld and replaced by FREEZE. -/
  | warmReaction
  /-- ALARM_N_MINIMUM_END (R543): The assertion's minimum ends and the pin is released if a release is in force or HOLD is 0. -/
  | alarmNMinimumEnd
  /-- ALARM_RELEASE (R543): A write of ALARM_RELEASE releases the assertion in force once its minimum has passed. -/
  | alarmRelease
  /-- ALARM_RESET_CLEAR (R541): ALARM_RESET.CLEAR sets the warm-reset reaction count to 0. -/
  | alarmResetClear
  /-- LEDGER_BIST (R556): LEDGER_CTRL.BIST while LOST runs a March C- over the Ledger SRAM. -/
  | ledgerBist
  /-- GASP_CLEAR (R556): LEDGER_CTRL.GASP_CLEAR empties the gasp file while LOST is 0. -/
  | gaspClear
  /-- GET_STATUS (R562): SMBus GET_STATUS returns device state, alarm summary, boot status and last write status. -/
  | getStatus
  /-- SMB_TIMEOUT (R564): SCL held low over 25 ms makes the target release the bus and reset. -/
  | smbTimeout
  /-- CONSOLE_LINE_BAD (R570): A console line too long or malformed is answered with an error. -/
  | consoleLineBad
  /-- CONSOLE_HELP (R570): Console help lists the commands. -/
  | consoleHelp
  /-- CONSOLE_VER (R570): Console ver reports identity and firmware versions. -/
  | consoleVer
  /-- CONSOLE_STATE (R570): Console state reports device, boot, alarm and bell state. -/
  | consoleState
  /-- CONSOLE_RD (R570): Console rd reads a 32-bit word by the rules of R563. -/
  | consoleRd
  /-- CONSOLE_WR (R570): Console wr writes a word when WRITE_EN allows, else err DENIED. -/
  | consoleWr
  /-- CONSOLE_LEDGER (R570): Console ledger prints the newest ring entries. -/
  | consoleLedger
  /-- CONSOLE_TELEM (R570): Console telem prints the latest telemetry record. -/
  | consoleTelem
  /-- TAP_RESET (R571): TRST_N or five TMS-high clocks reset the TAP controller. -/
  | tapReset
  /-- IDCODE (R571): JTAG IDCODE returns the stepping, part and maker code. -/
  | idcode
  /-- CLAMP (R571): JTAG CLAMP holds outputs from boundary scan with a one-bit register. -/
  | clamp
  /-- HIGHZ (R571): JTAG HIGHZ puts outputs in high impedance. -/
  | highz
  /-- GET_INFO (R577): Mailbox GET_INFO returns identity, versions and device state. -/
  | getInfo
  /-- GET_TELEM (R577): Mailbox GET_TELEM returns one of the latest 16 telemetry records. -/
  | getTelem
  /-- SUB_TELEM (R577): Mailbox SUB_TELEM starts or ends a telemetry push subscription. -/
  | subTelem
  /-- ALM_READ (R577): Mailbox ALM_READ returns bytes of the Almanac working copy. -/
  | almRead
  /-- ALM_WRITE (R578): Mailbox ALM_WRITE changes the Almanac working copy body. -/
  | almWrite
  /-- ALM_COMMIT (R578): Mailbox ALM_COMMIT starts a commit of the working copy. -/
  | almCommit
  /-- LEDGER_READ (R577): Mailbox LEDGER_READ returns ring or gasp entries read consistently. -/
  | ledgerRead
  /-- PWR_OK_HIGH (R81): PWR_OK returns high while RESET_N is high; the warm-reset hold ends and start-up runs from step 0. -/
  | pwrOkHigh
  /-- TEST_EN_LOW (R73): TEST_EN falls low and the IZ5 stops holding itself in reset. -/
  | testEnLow
  /-- VDD_HTR_RETURN (R84): VDD_HTR comes back into tolerance; THERMAL_PWR.HTR_OK sets and the heaters carry current again. -/
  | vddHtrReturn
  deriving DecidableEq, Repr

end Sys2Proof
end

