-- ==== Sys2Proof/Decode.lean ====
section
/-! DEFINITION. Sys2Proof/Decode.lean: the command that a word spells. The block has no instruction encoding: the spec's
table of operations and events gives no row any bits, so no word spells a command. -/

namespace Sys2Proof

/-- The command that `w`'s low `nbits` bits spell by the table: none, since no row of the table gives bits. -/
def decodeTableWord (_nbits _w : Nat) : Option Instr := none

end Sys2Proof
end

