-- ==== Sys2Proof/Machine/Crc.lean ====
section
/-! DEFINITION. Sys2Proof/Machine/Crc.lean: the two CRCs of the device: CRC-32C (R269) and the CRC-64 of flits
(R166). -/

namespace Sys2Proof.Machine

/-- One bit step of the reflected CRC-32C register. -/
def crc32cBit (r : Nat) : Nat := if r % 2 = 1 then (r >>> 1) ^^^ 0x82F63B78 else r >>> 1

/-- One byte into the CRC-32C register. -/
def crc32cByte (r : Nat) (b : Byte) : Nat :=
  crc32cBit (crc32cBit (crc32cBit (crc32cBit (crc32cBit (crc32cBit (crc32cBit (crc32cBit (r ^^^ b.toNat))))))))

/-- CRC-32C over bytes in ascending order: register from all ones, result inverted (R269). -/
def crc32c (l : List Byte) : Nat := (l.foldl crc32cByte 0xFFFFFFFF) ^^^ 0xFFFFFFFF

/-- One bit step of the CRC-64 register, most significant bit first. -/
def crc64Bit (r : Nat) : Nat :=
  if r / 2 ^ 63 % 2 = 1 then ((r <<< 1) % 2 ^ 64) ^^^ 0x42F0E1EBA9EA3693 else (r <<< 1) % 2 ^ 64

/-- One byte into the CRC-64 register. -/
def crc64Byte (r : Nat) (b : Byte) : Nat :=
  crc64Bit (crc64Bit (crc64Bit (crc64Bit (crc64Bit (crc64Bit (crc64Bit (crc64Bit (r ^^^ (b.toNat <<< 56)))))))))

/-- The CRC-64 of a flit's bytes 0–247: polynomial of ECMA-182, register from all ones, result inverted (R166). -/
def crc64 (l : List Byte) : Nat := (l.foldl crc64Byte 0xFFFFFFFFFFFFFFFF) ^^^ 0xFFFFFFFFFFFFFFFF

end Sys2Proof.Machine
end

