-- ==== Sys2Proof/Config.lean ====
section
/-! DEFINITION. Sys2Proof/Config.lean: what the spec leaves open. Each constant is a free value: it has no body, so
nothing can be proved about which value it is, and a claim holds for every value of it. -/

namespace Sys2Proof.Config

/-- The CCK cycle of an occurrence within its bell, where the model keeps no cycle count (log entry 2). -/
opaque freeCycle : Nat → Nat

/-- The steer that the proportional-integral loop asks for (R49, R53): the spec gives no gains (log entry 9). -/
opaque servoSteer : Nat → Int

/-- The 64-bell average of θ as BELL_OFFSET reports it, from the exact sum in 1/16,000 of its unit: the spec does not
say how the average is rounded (log entry 9). -/
opaque roundTheta : Int → Int

/-- SHA-384 of a byte string, left uninterpreted: the model never computes it (log entry 7). -/
opaque sha384 : List Byte → List Byte

/-- ECDSA P-384 verification of a signature over a message under a public key, left uninterpreted (log entry 7). -/
opaque ecdsaOk : (key msg sig : List Byte) → Bool

/-- The fused key hash of a key slot (R131), fixed per die (log entry 7). -/
opaque fuseKeyHash : Nat → List Byte

/-- The random source of SEC_NONCE (R150). -/
opaque nonceSource : Nat → Nat

/-- The Pattern Book version of the ROM, [15:8] major and [7:0] minor (R135): the spec gives no number. -/
opaque romPbVersion : Nat

/-- The pairing table that a Reeve image's body carries, as (KIND, VALUE) pairs; where it stands in the body is not
given (log entry 8). -/
opaque pairingTable : List Byte → List (Nat × Nat)

/-- The fields that the bytes of an Almanac body hold; their places in the body are not given (log entry 8). -/
opaque almDecode : List (Nat × Byte) → Nat → AlmData

/-- The body bytes after its fields have become `d`, the other bytes being as before (log entry 8). -/
opaque almEncode : List (Nat × Byte) → Nat → AlmData → List (Nat × Byte)

/-- Calibration numbers of the Almanac by kind and index: reference powers, tuning efficiencies, full-scale powers and
slope targets (spec/08), which are records of the Almanac and not registers (log entry 8). -/
opaque almCal : List (Nat × Byte) → Nat → Nat → Int

/-- A heater power sum as HTR_STATUS.POWER reports it in mW, from the exact sum of 20 × code² (R212): the spec gives
no rounding (log entry 9). -/
opaque roundPower : Nat → Nat

/-- The tap level expected of an input from its commanded line powers, in 0.01 dBm: a sum of powers given in dBm, with
no rounding stated (R192; log entry 9). -/
opaque expectedTap : List Int → Int

/-- The loop engine's rounding of a quotient to an integer grid (R224 to R226, R242): the spec gives the formulas and
no rounding, so the result of each is free (log entry 10). -/
opaque roundDiv : Int → Int → Int

/-- The error of an update whose quotient has no value: both dither samples 0, or no reference current (R224, R226; log
entry 10). -/
opaque freeErr : Nat → Int

/-- I_ref from the calibrated current, the line setpoint and the line power at relock: a power of ten with no rounding
stated (R239; log entry 10). -/
opaque scaleRef : Int → Int → Int → Int

/-- Half a line spacing as heater power, from the element's tuning efficiency (R227; log entry 10). -/
opaque parkDelta : Int → Int

/-- An equaliser tap whose update leaves its 16-bit accumulator (R288): the spec does not say what it then holds (log
entry 11). -/
opaque freeTap : Nat → Int

/-- The core that MILL_REGION_LAST names for a write that no core made (R415; log entry 15). -/
opaque freeCore : Nat → Nat

/-- What a core's register holds that the step has not written, by the step's epoch and the register's key (R401): it is
undefined within R12 (log entry 18). -/
opaque freeReg : Nat → Nat → Nat

/-- A vector, accumulator or value that an operation leaves unstated (R433, R434, R444; log entry 19). -/
opaque freeVec : Nat → Nat

/-- The fields that cfg0–cfg15 hold for a SCAN and for a PIPE layer: their layout is not given (R437; log entry 28). -/
opaque scanCfg : List Nat → ScanCfg
opaque pipeCfg : List Nat → PipeCfg

/-- A word of a processor's debug space whose content the spec does not give, by processor, epoch and address (R573;
log entry 33). -/
opaque freeDbg : Nat → Nat → Nat → Nat

/-- Data bytes of a completion that R177 leaves undefined, and of a debug completion (log entry 34). -/
opaque freeByte : Nat → Byte

end Sys2Proof.Config
end

