-- ==== Sys2Proof/Machine/Data.lean ====
section
/-! DEFINITION. Sys2Proof/Machine/Data.lean: the plain data the state is built from: sparse tables in one canonical
form, and the identity of a register field, a counter and an error bit. -/

namespace Sys2Proof.Machine

/-- A sparse table from numbers to values: keys strictly rising, one entry a key (`mapSorted`), no entry equal to the
default of its reader. Register fields, buffers and memories are tables of this kind. -/
abbrev Map (α : Type) := List (Nat × α)

/-- The entry at key `q`, if the table lists one. -/
def mfind {α : Type} : Map α → Nat → Option α
  | [], _ => none
  | (k, v) :: t, q => if k = q then some v else mfind t q

/-- The value at key `q`; an unlisted key reads as `d`. -/
def mget {α : Type} (m : Map α) (q : Nat) (d : α) : α := (mfind m q).getD d

/-- The table with `v` at key `q`, in key order. -/
def mput {α : Type} : Map α → Nat → α → Map α
  | [], q, v => [(q, v)]
  | (k, x) :: t, q, v =>
    if q < k then (q, v) :: (k, x) :: t
    else if q = k then (q, v) :: t
    else (k, x) :: mput t q v

/-- The table without an entry at key `q`. -/
def mdel {α : Type} : Map α → Nat → Map α
  | [], _ => []
  | (k, x) :: t, q => if k = q then mdel t q else (k, x) :: mdel t q

/-- The table with key `q` reading as `v`: writing the default `d` removes the entry. -/
def mset {α : Type} [DecidableEq α] (m : Map α) (q : Nat) (v d : α) : Map α :=
  if v = d then mdel m q else mput m q v

/-- The canonical form of a table: keys strictly rising. -/
def mapSorted {α : Type} : Map α → Bool
  | [] => true
  | [_] => true
  | (k, _) :: (k', x) :: t => decide (k < k') && mapSorted ((k', x) :: t)

/-- One field of a register: its page, the word's offset, its lowest bit and width, its reset value, whether it is
keep-alive (R7), and an index that keeps copies apart: 0 the field itself, 1 its shadow value (R107), 2 to 5 the copy
of access path 0 to 3 (R105), 8 + b the class of PG_ERR bit b, from 64 on the further copies `Ops` names. -/
structure Fld where
  page  : Nat
  off   : Nat
  lo    : Nat
  width : Nat
  reset : Nat
  ka    : Bool
  idx   : Nat := 0
  deriving DecidableEq, Repr

/-- The key of a field in the register store. The lowest bit says whether the field is keep-alive, so that a warm
reset keeps exactly the odd keys. -/
def Fld.key (f : Fld) : Nat :=
  (((f.idx * 256 + f.page) * 4096 + f.off) * 32 + f.lo) * 2 + (if f.ka then 1 else 0)

/-- The same field's copy at index `i`. -/
def Fld.at (f : Fld) (i : Nat) : Fld := { f with idx := i }

/-- The access codes of R9, and two kinds of this model: `sel`, a select register with one copy a path (R105), and
`view`, a field that is computed from other state when read. -/
inductive Acc where
  | ro | rw | w1c | wo | rc | rws | sel | view
  deriving DecidableEq, Repr

/-- One row of a field map: a field, or an array of equal fields over pages and up to two index dimensions. -/
structure FieldRow where
  pbase   : Nat
  pstride : Nat
  pcount  : Nat
  off     : Nat
  s1      : Nat
  c1      : Nat
  s2      : Nat
  c2      : Nat
  lo      : Nat
  width   : Nat
  acc     : Acc
  ka      : Bool
  resets  : List Nat
  deriving DecidableEq, Repr

/-- Whether the row has a field at offset `off`, and the inner index it stands at. -/
def FieldRow.index? (r : FieldRow) (off : Nat) : Option Nat :=
  if off < r.off then none else
  let d := off - r.off
  let i := if r.c1 ≤ 1 then 0 else d / r.s1
  let e := if r.c1 ≤ 1 then d else d % r.s1
  let j := if r.c2 ≤ 1 then 0 else e / r.s2
  if i < r.c1 ∧ j < r.c2 ∧ (if r.c2 ≤ 1 then e = 0 else e % r.s2 = 0) then some j else none

/-- The row's field at a page and offset, with its access code. -/
def FieldRow.at? (r : FieldRow) (page off : Nat) : Option (Fld × Acc) :=
  match r.index? off with
  | none => none
  | some j =>
    some ({ page := page, off := off, lo := r.lo, width := r.width,
            reset := r.resets.getD j (r.resets.headD 0), ka := r.ka }, r.acc)

/-- A page's counter: page, number and whether only a cold reset clears it (R114). -/
structure Ctr where
  page : Nat
  n    : Nat
  ka   : Bool
  deriving DecidableEq, Repr

/-- The 64 bits of a counter, held under its LO offset (R114). -/
def Ctr.fld (c : Ctr) : Fld :=
  { page := c.page, off := 0x40 + 8 * c.n, lo := 0, width := 64, reset := 0, ka := c.ka }

/-- A PG_ERR bit: page, number and default class by the code of R105. -/
structure ErrBit where
  page : Nat
  bit  : Nat
  cls  : Nat
  deriving DecidableEq, Repr

end Sys2Proof.Machine
end

