-- ==== Sys2Proof/Machine/Reg.lean ====
section
/-! DEFINITION. Sys2Proof/Machine/Reg.lean: every named field of the register pages, each under its name in the
spec's field maps (register, then field), with its page, offset, lowest bit, width, reset value and whether it is keep-alive. -/

namespace Sys2Proof.Machine.Reg

/-- BELL_CTRL.PARENT_AUTO [4:4], RW KA, spec/02 R66. -/
def BELL_CTRL_PARENT_AUTO : Fld :=
  { page := 0x1, off := 0x100, lo := 4, width := 1, reset := 1, ka := true }
/-- BELL_CTRL.TIME_IN_EN [3:3], RW KA, spec/02 R66. -/
def BELL_CTRL_TIME_IN_EN : Fld :=
  { page := 0x1, off := 0x100, lo := 3, width := 1, reset := 0, ka := true }
/-- BELL_CTRL.OUT_EN [2:2], RW KA, spec/02 R66. -/
def BELL_CTRL_OUT_EN : Fld :=
  { page := 0x1, off := 0x100, lo := 2, width := 1, reset := 1, ka := true }
/-- BELL_CTRL.STANDBY_ROOT [1:1], RW KA, spec/02 R66. -/
def BELL_CTRL_STANDBY_ROOT : Fld :=
  { page := 0x1, off := 0x100, lo := 1, width := 1, reset := 0, ka := true }
/-- BELL_CTRL.ROOT [0:0], RW KA, spec/02 R66. -/
def BELL_CTRL_ROOT : Fld :=
  { page := 0x1, off := 0x100, lo := 0, width := 1, reset := 0, ka := true }
/-- BELL_STATUS.ROOT_EPOCH [31:24], RO, spec/02 R66. -/
def BELL_STATUS_ROOT_EPOCH : Fld :=
  { page := 0x1, off := 0x104, lo := 24, width := 8, reset := 0, ka := false }
/-- BELL_STATUS.ROOT_DEMOTED [23:23], RO, spec/02 R66. -/
def BELL_STATUS_ROOT_DEMOTED : Fld :=
  { page := 0x1, off := 0x104, lo := 23, width := 1, reset := 0, ka := false }
/-- BELL_STATUS.PARENT_LANE [17:13], RO, spec/02 R66. -/
def BELL_STATUS_PARENT_LANE : Fld :=
  { page := 0x1, off := 0x104, lo := 13, width := 5, reset := 0, ka := false }
/-- BELL_STATUS.PARENT_FERRY [12:10], RO, spec/02 R66. -/
def BELL_STATUS_PARENT_FERRY : Fld :=
  { page := 0x1, off := 0x104, lo := 10, width := 3, reset := 0, ka := false }
/-- BELL_STATUS.PARENT_VALID [9:9], RO, spec/02 R66. -/
def BELL_STATUS_PARENT_VALID : Fld :=
  { page := 0x1, off := 0x104, lo := 9, width := 1, reset := 0, ka := false }
/-- BELL_STATUS.DEPTH [8:6], RO, spec/02 R66. -/
def BELL_STATUS_DEPTH : Fld :=
  { page := 0x1, off := 0x104, lo := 6, width := 3, reset := 7, ka := false }
/-- BELL_STATUS.STATE [2:0], RO, spec/02 R66. -/
def BELL_STATUS_STATE : Fld :=
  { page := 0x1, off := 0x104, lo := 0, width := 3, reset := 0, ka := false }
/-- BELL_ROOT_ID.ROOT_ID [19:0], RO, spec/02 R66. -/
def BELL_ROOT_ID_ROOT_ID : Fld :=
  { page := 0x1, off := 0x110, lo := 0, width := 20, reset := 0, ka := false }
/-- BELL_OFFSET.THETA [31:0], RO, spec/02 R66. -/
def BELL_OFFSET_THETA : Fld :=
  { page := 0x1, off := 0x114, lo := 0, width := 32, reset := 0, ka := false }
/-- BELL_STEER.STEER [31:0], RO, spec/02 R66. -/
def BELL_STEER_STEER : Fld :=
  { page := 0x1, off := 0x118, lo := 0, width := 32, reset := 0, ka := false }
/-- BELL_HOLDOVER_LIMIT.LIMIT [31:0], RW KA, spec/02 R66. -/
def BELL_HOLDOVER_LIMIT_LIMIT : Fld :=
  { page := 0x1, off := 0x11c, lo := 0, width := 32, reset := 65536, ka := true }
/-- BELL_ROOT_WAIT.WAIT [31:0], RW KA, spec/02 R66. -/
def BELL_ROOT_WAIT_WAIT : Fld :=
  { page := 0x1, off := 0x120, lo := 0, width := 32, reset := 4096, ka := true }
/-- BELL_PARENT_PREF.VALID [31:31], RW KA, spec/02 R66. -/
def BELL_PARENT_PREF_VALID (j : Nat) : Fld :=
  { page := 0x1, off := 0x124 + 4 * j, lo := 31, width := 1, reset := 0, ka := true }
/-- BELL_PARENT_PREF.FERRY [7:5], RW KA, spec/02 R66. -/
def BELL_PARENT_PREF_FERRY (j : Nat) : Fld :=
  { page := 0x1, off := 0x124 + 4 * j, lo := 5, width := 3, reset := 0, ka := true }
/-- BELL_PARENT_PREF.LANE [4:0], RW KA, spec/02 R66. -/
def BELL_PARENT_PREF_LANE (j : Nat) : Fld :=
  { page := 0x1, off := 0x124 + 4 * j, lo := 0, width := 5, reset := 0, ka := true }
/-- BELL_DISAGREE.FERRY [7:5], RO, spec/02 R66. -/
def BELL_DISAGREE_FERRY : Fld :=
  { page := 0x1, off := 0x134, lo := 5, width := 3, reset := 0, ka := false }
/-- BELL_DISAGREE.LANE [4:0], RO, spec/02 R66. -/
def BELL_DISAGREE_LANE : Fld :=
  { page := 0x1, off := 0x134, lo := 0, width := 5, reset := 0, ka := false }
/-- BELL_PPS_STAMP.PHASE [31:0], RO, spec/02 R66. -/
def BELL_PPS_STAMP_PHASE : Fld :=
  { page := 0x1, off := 0x138, lo := 0, width := 32, reset := 0, ka := false }
/-- BELL_TIME_EPOCH_LO.EPOCH_LO [31:0], RW KA, spec/02 R66. -/
def BELL_TIME_EPOCH_LO_EPOCH_LO : Fld :=
  { page := 0x1, off := 0x13c, lo := 0, width := 32, reset := 0, ka := true }
/-- BELL_TIME_EPOCH_HI.VALID [31:31], RW KA, spec/02 R66. -/
def BELL_TIME_EPOCH_HI_VALID : Fld :=
  { page := 0x1, off := 0x140, lo := 31, width := 1, reset := 0, ka := true }
/-- BELL_TIME_EPOCH_HI.EPOCH_HI [15:0], RW KA, spec/02 R66. -/
def BELL_TIME_EPOCH_HI_EPOCH_HI : Fld :=
  { page := 0x1, off := 0x140, lo := 0, width := 16, reset := 0, ka := true }
/-- BELL_FIBRE_SKEW.SKEW [15:0], RW KA, spec/02 R66. -/
def BELL_FIBRE_SKEW_SKEW (j : Nat) : Fld :=
  { page := 0x1, off := 0x150 + 4 * j, lo := 0, width := 16, reset := 0, ka := true }
/-- BELL_LAND.H3–H0 [31:0], RO, spec/02 R66. -/
def BELL_LAND_H3_H0 (j : Nat) : Fld :=
  { page := 0x1, off := 0x400 + 4 * j, lo := 0, width := 32, reset := 0, ka := false }
/-- BELL_LANE_RTT.RTT [31:0], RO, spec/02 R66. -/
def BELL_LANE_RTT_RTT (j : Nat) : Fld :=
  { page := 0x1, off := 0x800 + 4 * j, lo := 0, width := 32, reset := 0, ka := false }
/-- CLK_STATUS.HCK_LOCK [3:3], RO, spec/02 R66. -/
def CLK_STATUS_HCK_LOCK : Fld :=
  { page := 0x2, off := 0x100, lo := 3, width := 1, reset := 0, ka := false }
/-- CLK_STATUS.LCK_LOCK [2:2], RO, spec/02 R66. -/
def CLK_STATUS_LCK_LOCK : Fld :=
  { page := 0x2, off := 0x100, lo := 2, width := 1, reset := 0, ka := false }
/-- CLK_STATUS.CCK_LOCK [1:1], RO, spec/02 R66. -/
def CLK_STATUS_CCK_LOCK : Fld :=
  { page := 0x2, off := 0x100, lo := 1, width := 1, reset := 0, ka := false }
/-- CLK_STATUS.REFCLK_OK [0:0], RO, spec/02 R66. -/
def CLK_STATUS_REFCLK_OK : Fld :=
  { page := 0x2, off := 0x100, lo := 0, width := 1, reset := 0, ka := false }
/-- THERMAL_CTRL.TRIP_CLEAR [1:1], WO, spec/03 R95. -/
def THERMAL_CTRL_TRIP_CLEAR : Fld :=
  { page := 0xd, off := 0x100, lo := 1, width := 1, reset := 0, ka := false }
/-- THERMAL_CTRL.THERM_N_EN [0:0], RW KA, spec/03 R95. -/
def THERMAL_CTRL_THERM_N_EN : Fld :=
  { page := 0xd, off := 0x100, lo := 0, width := 1, reset := 1, ka := true }
/-- THERMAL_STATUS.HOT_SENSOR [11:8], RO, spec/03 R95. -/
def THERMAL_STATUS_HOT_SENSOR : Fld :=
  { page := 0xd, off := 0x104, lo := 8, width := 4, reset := 0, ka := false }
/-- THERMAL_STATUS.TRIP [7:7], RO KA, spec/03 R95. -/
def THERMAL_STATUS_TRIP : Fld :=
  { page := 0xd, off := 0x104, lo := 7, width := 1, reset := 0, ka := true }
/-- THERMAL_STATUS.THERM_N_PIN [6:6], RO, spec/03 R95. -/
def THERMAL_STATUS_THERM_N_PIN : Fld :=
  { page := 0xd, off := 0x104, lo := 6, width := 1, reset := 1, ka := false }
/-- THERMAL_STATUS.BAND [1:0], RO, spec/03 R95. -/
def THERMAL_STATUS_BAND : Fld :=
  { page := 0xd, off := 0x104, lo := 0, width := 2, reset := 0, ka := false }
/-- THERMAL_HOTTEST.TEMP [11:0], RO, spec/03 R95. -/
def THERMAL_HOTTEST_TEMP : Fld :=
  { page := 0xd, off := 0x108, lo := 0, width := 12, reset := 0, ka := false }
/-- THERMAL_FAULTED.FAULTED [15:0], RO, spec/03 R95. -/
def THERMAL_FAULTED_FAULTED : Fld :=
  { page := 0xd, off := 0x10c, lo := 0, width := 16, reset := 0, ka := false }
/-- THERMAL_PWR.HTR_LOST [2:2], W1C KA, spec/03 R95. -/
def THERMAL_PWR_HTR_LOST : Fld :=
  { page := 0xd, off := 0x110, lo := 2, width := 1, reset := 0, ka := true }
/-- THERMAL_PWR.PWR_OK_PIN [1:1], RO, spec/03 R95. -/
def THERMAL_PWR_PWR_OK_PIN : Fld :=
  { page := 0xd, off := 0x110, lo := 1, width := 1, reset := 0, ka := false }
/-- THERMAL_PWR.HTR_OK [0:0], RO, spec/03 R95. -/
def THERMAL_PWR_HTR_OK : Fld :=
  { page := 0xd, off := 0x110, lo := 0, width := 1, reset := 0, ka := false }
/-- THERMAL_SENSOR.VALID [31:31], RO, spec/03 R95. -/
def THERMAL_SENSOR_VALID (j : Nat) : Fld :=
  { page := 0xd, off := 0x140 + 4 * j, lo := 31, width := 1, reset := 0, ka := false }
/-- THERMAL_SENSOR.TEMP [11:0], RO, spec/03 R95. -/
def THERMAL_SENSOR_TEMP (j : Nat) : Fld :=
  { page := 0xd, off := 0x140 + 4 * j, lo := 0, width := 12, reset := 0, ka := false }
/-- DEVICE_STATE.UNTESTED [17:17], RO, spec/04 R120. -/
def DEVICE_STATE_UNTESTED : Fld :=
  { page := 0x0, off := 0x100, lo := 17, width := 1, reset := 0, ka := false }
/-- DEVICE_STATE.DATA_FROZEN [16:16], RO, spec/04 R120. -/
def DEVICE_STATE_DATA_FROZEN : Fld :=
  { page := 0x0, off := 0x100, lo := 16, width := 1, reset := 0, ka := false }
/-- DEVICE_STATE.LIMP_REASON [15:8], RO, spec/04 R120. -/
def DEVICE_STATE_LIMP_REASON : Fld :=
  { page := 0x0, off := 0x100, lo := 8, width := 8, reset := 0, ka := false }
/-- DEVICE_STATE.STATE [3:0], RO, spec/04 R120. -/
def DEVICE_STATE_STATE : Fld :=
  { page := 0x0, off := 0x100, lo := 0, width := 4, reset := 0, ka := false }
/-- TOP_RESET.KEY [15:8], WO, spec/04 R121. -/
def TOP_RESET_KEY : Fld :=
  { page := 0x0, off := 0x104, lo := 8, width := 8, reset := 0, ka := false }
/-- TOP_RESET.FUNCTION [1:1], WO, spec/04 R121. -/
def TOP_RESET_FUNCTION : Fld :=
  { page := 0x0, off := 0x104, lo := 1, width := 1, reset := 0, ka := false }
/-- TOP_RESET.WARM [0:0], WO, spec/04 R121. -/
def TOP_RESET_WARM : Fld :=
  { page := 0x0, off := 0x104, lo := 0, width := 1, reset := 0, ka := false }
/-- TOP_RESET_CAUSE.ALARM_REACTION [5:5], W1C KA, spec/04 R122. -/
def TOP_RESET_CAUSE_ALARM_REACTION : Fld :=
  { page := 0x0, off := 0x108, lo := 5, width := 1, reset := 0, ka := true }
/-- TOP_RESET_CAUSE.TOP_FUNCTION [4:4], W1C KA, spec/04 R122. -/
def TOP_RESET_CAUSE_TOP_FUNCTION : Fld :=
  { page := 0x0, off := 0x108, lo := 4, width := 1, reset := 0, ka := true }
/-- TOP_RESET_CAUSE.TOP_WARM [3:3], W1C KA, spec/04 R122. -/
def TOP_RESET_CAUSE_TOP_WARM : Fld :=
  { page := 0x0, off := 0x108, lo := 3, width := 1, reset := 0, ka := true }
/-- TOP_RESET_CAUSE.PWR_OK [2:2], W1C KA, spec/04 R122. -/
def TOP_RESET_CAUSE_PWR_OK : Fld :=
  { page := 0x0, off := 0x108, lo := 2, width := 1, reset := 0, ka := true }
/-- TOP_RESET_CAUSE.RESET_N [1:1], W1C KA, spec/04 R122. -/
def TOP_RESET_CAUSE_RESET_N : Fld :=
  { page := 0x0, off := 0x108, lo := 1, width := 1, reset := 0, ka := true }
/-- TOP_RESET_CAUSE.COLD [0:0], W1C KA, spec/04 R122. -/
def TOP_RESET_CAUSE_COLD : Fld :=
  { page := 0x0, off := 0x108, lo := 0, width := 1, reset := 1, ka := true }
/-- TOP_SNAP.ALL [0:0], WO, spec/04 R123. -/
def TOP_SNAP_ALL : Fld :=
  { page := 0x0, off := 0x10c, lo := 0, width := 1, reset := 0, ka := false }
/-- TOP_VENDOR_PART.VENDOR [31:16], RO, spec/04 R123. -/
def TOP_VENDOR_PART_VENDOR : Fld :=
  { page := 0x0, off := 0x110, lo := 16, width := 16, reset := 20044, ka := false }
/-- TOP_VENDOR_PART.PART [15:0], RO, spec/04 R123. -/
def TOP_VENDOR_PART_PART : Fld :=
  { page := 0x0, off := 0x110, lo := 0, width := 16, reset := 12808, ka := false }
/-- TOP_STEPPING.STEPPING [7:0], RO, spec/04 R123. -/
def TOP_STEPPING_STEPPING : Fld :=
  { page := 0x0, off := 0x114, lo := 0, width := 8, reset := 177, ka := false }
/-- TOP_SERIAL_LO.SERIAL_LO [31:0], RO, spec/04 R123. -/
def TOP_SERIAL_LO_SERIAL_LO : Fld :=
  { page := 0x0, off := 0x118, lo := 0, width := 32, reset := 0, ka := false }
/-- TOP_SERIAL_HI.SERIAL_HI [31:0], RO, spec/04 R123. -/
def TOP_SERIAL_HI_SERIAL_HI : Fld :=
  { page := 0x0, off := 0x11c, lo := 0, width := 32, reset := 0, ka := false }
/-- TOP_NODE_ID.NODE_ID [19:0], RO KA, spec/04 R123. -/
def TOP_NODE_ID_NODE_ID : Fld :=
  { page := 0x0, off := 0x120, lo := 0, width := 20, reset := 0, ka := true }
/-- TOP_FW_REEVE.VERSION [23:0], RO, spec/04 R123. -/
def TOP_FW_REEVE_VERSION : Fld :=
  { page := 0x0, off := 0x124, lo := 0, width := 24, reset := 0, ka := false }
/-- TOP_FW_HEARTH.VERSION [23:0], RO, spec/04 R123. -/
def TOP_FW_HEARTH_VERSION : Fld :=
  { page := 0x0, off := 0x128, lo := 0, width := 24, reset := 0, ka := false }
/-- TOP_PB_VERSION.MAJOR [15:8], RO, spec/04 R123. -/
def TOP_PB_VERSION_MAJOR : Fld :=
  { page := 0x0, off := 0x12c, lo := 8, width := 8, reset := 0, ka := false }
/-- TOP_PB_VERSION.MINOR [7:0], RO, spec/04 R123. -/
def TOP_PB_VERSION_MINOR : Fld :=
  { page := 0x0, off := 0x12c, lo := 0, width := 8, reset := 0, ka := false }
/-- TOP_SCRATCH.DATA [31:0], RW KA, spec/04 R123. -/
def TOP_SCRATCH_DATA (j : Nat) : Fld :=
  { page := 0x0, off := 0x140 + 4 * j, lo := 0, width := 32, reset := 0, ka := true }
/-- BOOT_STATUS.LAST_REASON [31:24], RO, spec/05 R151. -/
def BOOT_STATUS_LAST_REASON : Fld :=
  { page := 0x3, off := 0x100, lo := 24, width := 8, reset := 0, ka := false }
/-- BOOT_STATUS.STEP [23:20], RO, spec/05 R151. -/
def BOOT_STATUS_STEP : Fld :=
  { page := 0x3, off := 0x100, lo := 20, width := 4, reset := 0, ka := false }
/-- BOOT_ATTEMPTS.ATTEMPTS [31:0], RO, spec/05 R151. -/
def BOOT_ATTEMPTS_ATTEMPTS : Fld :=
  { page := 0x3, off := 0x104, lo := 0, width := 32, reset := 0, ka := false }
/-- BOOT_BACKOFF.BELLS [20:0], RO, spec/05 R151. -/
def BOOT_BACKOFF_BELLS : Fld :=
  { page := 0x3, off := 0x108, lo := 0, width := 21, reset := 0, ka := false }
/-- BOOT_SOURCE.ALM_SECTION [13:12], RO, spec/05 R151. -/
def BOOT_SOURCE_ALM_SECTION : Fld :=
  { page := 0x3, off := 0x10c, lo := 12, width := 2, reset := 0, ka := false }
/-- BOOT_SOURCE.BOOT_SRC [11:10], RO, spec/05 R151. -/
def BOOT_SOURCE_BOOT_SRC : Fld :=
  { page := 0x3, off := 0x10c, lo := 10, width := 2, reset := 0, ka := false }
/-- BOOT_SOURCE.PB_COPY [9:8], RO, spec/05 R151. -/
def BOOT_SOURCE_PB_COPY : Fld :=
  { page := 0x3, off := 0x10c, lo := 8, width := 2, reset := 0, ka := false }
/-- BOOT_SOURCE.HEARTH_COPY [7:6], RO, spec/05 R151. -/
def BOOT_SOURCE_HEARTH_COPY : Fld :=
  { page := 0x3, off := 0x10c, lo := 6, width := 2, reset := 0, ka := false }
/-- BOOT_SOURCE.REEVE_COPY [5:4], RO, spec/05 R151. -/
def BOOT_SOURCE_REEVE_COPY : Fld :=
  { page := 0x3, off := 0x10c, lo := 4, width := 2, reset := 0, ka := false }
/-- BOOT_ALM_CTRL.KEY [15:8], WO, spec/05 R151. -/
def BOOT_ALM_CTRL_KEY : Fld :=
  { page := 0x3, off := 0x110, lo := 8, width := 8, reset := 0, ka := false }
/-- BOOT_ALM_CTRL.COMMIT [0:0], WO, spec/05 R151. -/
def BOOT_ALM_CTRL_COMMIT : Fld :=
  { page := 0x3, off := 0x110, lo := 0, width := 1, reset := 0, ka := false }
/-- BOOT_ALM_STATUS.LAST_COMMIT_OK [1:1], RO, spec/05 R151. -/
def BOOT_ALM_STATUS_LAST_COMMIT_OK : Fld :=
  { page := 0x3, off := 0x114, lo := 1, width := 1, reset := 0, ka := false }
/-- BOOT_ALM_STATUS.COMMIT_BUSY [0:0], RO, spec/05 R151. -/
def BOOT_ALM_STATUS_COMMIT_BUSY : Fld :=
  { page := 0x3, off := 0x114, lo := 0, width := 1, reset := 0, ka := false }
/-- BOOT_RELOCK.ACTIVE [11:11], RO, spec/05 R151. -/
def BOOT_RELOCK_ACTIVE : Fld :=
  { page := 0x3, off := 0x118, lo := 11, width := 1, reset := 0, ka := false }
/-- BOOT_RELOCK.FERRY [10:8], RO, spec/05 R151. -/
def BOOT_RELOCK_FERRY : Fld :=
  { page := 0x3, off := 0x118, lo := 8, width := 3, reset := 0, ka := false }
/-- BOOT_RELOCK.DONE [7:0], RO, spec/05 R151. -/
def BOOT_RELOCK_DONE : Fld :=
  { page := 0x3, off := 0x118, lo := 0, width := 8, reset := 0, ka := false }
/-- BOOT_LIMP.REASONS [5:0], RO, spec/05 R151. -/
def BOOT_LIMP_REASONS : Fld :=
  { page := 0x3, off := 0x11c, lo := 0, width := 6, reset := 0, ka := false }
/-- BOOT_STARTS.STARTS [31:0], RO KA, spec/05 R151. -/
def BOOT_STARTS_STARTS : Fld :=
  { page := 0x3, off := 0x120, lo := 0, width := 32, reset := 0, ka := true }
/-- BOOT_FLASH_ADDR.ADDR [22:0], RW, spec/05 R151. -/
def BOOT_FLASH_ADDR_ADDR : Fld :=
  { page := 0x3, off := 0x130, lo := 0, width := 23, reset := 0, ka := false }
/-- BOOT_FLASH_CMD.RESULT [9:8], RO, spec/05 R151. -/
def BOOT_FLASH_CMD_RESULT : Fld :=
  { page := 0x3, off := 0x134, lo := 8, width := 2, reset := 0, ka := false }
/-- BOOT_FLASH_CMD.OP [1:0], WO, spec/05 R151. -/
def BOOT_FLASH_CMD_OP : Fld :=
  { page := 0x3, off := 0x134, lo := 0, width := 2, reset := 0, ka := false }
/-- SEC_STATUS.PERMS [28:25], RO, spec/05 R152. -/
def SEC_STATUS_PERMS : Fld :=
  { page := 0x4, off := 0x100, lo := 25, width := 4, reset := 0, ka := false }
/-- SEC_STATUS.DEBUG_UNLOCKED [24:24], RO, spec/05 R152. -/
def SEC_STATUS_DEBUG_UNLOCKED : Fld :=
  { page := 0x4, off := 0x100, lo := 24, width := 1, reset := 0, ka := false }
/-- SEC_STATUS.SVN_FUSE [23:16], RO, spec/05 R152. -/
def SEC_STATUS_SVN_FUSE : Fld :=
  { page := 0x4, off := 0x100, lo := 16, width := 8, reset := 0, ka := false }
/-- SEC_STATUS.REVOKED [7:4], RO, spec/05 R152. -/
def SEC_STATUS_REVOKED : Fld :=
  { page := 0x4, off := 0x100, lo := 4, width := 4, reset := 0, ka := false }
/-- SEC_STATUS.KEY_SLOT [1:0], RO, spec/05 R152. -/
def SEC_STATUS_KEY_SLOT : Fld :=
  { page := 0x4, off := 0x100, lo := 0, width := 2, reset := 0, ka := false }
/-- SEC_DEBUG_CTRL.LOCK [0:0], WO, spec/05 R152. -/
def SEC_DEBUG_CTRL_LOCK : Fld :=
  { page := 0x4, off := 0x104, lo := 0, width := 1, reset := 0, ka := false }
/-- SEC_TOKEN_CTRL.SUBMIT [0:0], WO, spec/05 R152. -/
def SEC_TOKEN_CTRL_SUBMIT : Fld :=
  { page := 0x4, off := 0x110, lo := 0, width := 1, reset := 0, ka := false }
/-- SEC_TOKEN_STATUS.RESULT [1:0], RO, spec/05 R152. -/
def SEC_TOKEN_STATUS_RESULT : Fld :=
  { page := 0x4, off := 0x114, lo := 0, width := 2, reset := 0, ka := false }
/-- SEC_SVN_CTRL.KEY [15:8], WO, spec/05 R152. -/
def SEC_SVN_CTRL_KEY : Fld :=
  { page := 0x4, off := 0x118, lo := 8, width := 8, reset := 0, ka := false }
/-- SEC_SVN_CTRL.ADVANCE [0:0], WO, spec/05 R152. -/
def SEC_SVN_CTRL_ADVANCE : Fld :=
  { page := 0x4, off := 0x118, lo := 0, width := 1, reset := 0, ka := false }
/-- SEC_POLICY_STATUS.ACCEPTED [1:1], RO, spec/05 R152. -/
def SEC_POLICY_STATUS_ACCEPTED : Fld :=
  { page := 0x4, off := 0x11c, lo := 1, width := 1, reset := 0, ka := false }
/-- SEC_POLICY_STATUS.PRESENT [0:0], RO, spec/05 R152. -/
def SEC_POLICY_STATUS_PRESENT : Fld :=
  { page := 0x4, off := 0x11c, lo := 0, width := 1, reset := 0, ka := false }
/-- SEC_TOKEN_BUF.DATA [31:0], RW, spec/05 R152. -/
def SEC_TOKEN_BUF_DATA (j : Nat) : Fld :=
  { page := 0x4, off := 0x200 + 4 * j, lo := 0, width := 32, reset := 0, ka := false }
/-- UAHUS_STATUS.BUNDLES_ACTIVE [13:8], RO, spec/06 R187. -/
def UAHUS_STATUS_BUNDLES_ACTIVE : Fld :=
  { page := 0x40, off := 0x100, lo := 8, width := 6, reset := 0, ka := false }
/-- UAHUS_STATUS.LINK [1:0], RO, spec/06 R187. -/
def UAHUS_STATUS_LINK : Fld :=
  { page := 0x40, off := 0x100, lo := 0, width := 2, reset := 0, ka := false }
/-- UAHUS_CTRL.RETRAIN_ALL [0:0], WO, spec/06 R187. -/
def UAHUS_CTRL_RETRAIN_ALL : Fld :=
  { page := 0x40, off := 0x104, lo := 0, width := 1, reset := 0, ka := false }
/-- UAHUS_DOWN_LIMIT.BELLS [31:0], RW KA, spec/06 R187. -/
def UAHUS_DOWN_LIMIT_BELLS : Fld :=
  { page := 0x40, off := 0x108, lo := 0, width := 32, reset := 1024, ka := true }
/-- UAHUS_STALL_LIMIT.BELLS [31:0], RW KA, spec/06 R187. -/
def UAHUS_STALL_LIMIT_BELLS : Fld :=
  { page := 0x40, off := 0x10c, lo := 0, width := 32, reset := 1024, ka := true }
/-- UAHUS_FAR_CAP.CAP [31:0], RO, spec/06 R187. -/
def UAHUS_FAR_CAP_CAP (j : Nat) : Fld :=
  { page := 0x40, off := 0x110 + 4 * j, lo := 0, width := 32, reset := 0, ka := false }
/-- UAHUS_CREDITS_TX.MEM [31:16], RO, spec/06 R187. -/
def UAHUS_CREDITS_TX_MEM : Fld :=
  { page := 0x40, off := 0x130, lo := 16, width := 16, reset := 0, ka := false }
/-- UAHUS_CREDITS_TX.CTL [15:8], RO, spec/06 R187. -/
def UAHUS_CREDITS_TX_CTL : Fld :=
  { page := 0x40, off := 0x130, lo := 8, width := 8, reset := 0, ka := false }
/-- UAHUS_CREDITS_TX.MGMT [7:0], RO, spec/06 R187. -/
def UAHUS_CREDITS_TX_MGMT : Fld :=
  { page := 0x40, off := 0x130, lo := 0, width := 8, reset := 0, ka := false }
/-- UAHUS_REPLAY.HELD [26:16], RO, spec/06 R187. -/
def UAHUS_REPLAY_HELD : Fld :=
  { page := 0x40, off := 0x134, lo := 16, width := 11, reset := 0, ka := false }
/-- UAHUS_REPLAY.ACK [11:0], RO, spec/06 R187. -/
def UAHUS_REPLAY_ACK : Fld :=
  { page := 0x40, off := 0x134, lo := 0, width := 12, reset := 0, ka := false }
/-- UAHUS_WIN_SEL.WIN [7:0], RW, spec/06 R187. -/
def UAHUS_WIN_SEL_WIN (path : Nat) : Fld :=
  { page := 0x40, off := 0x140, lo := 0, width := 8, reset := 0, ka := false, idx := 2 + path }
/-- UAHUS_WIN_FAULT.WIN [7:0], RO, spec/06 R187. -/
def UAHUS_WIN_FAULT_WIN : Fld :=
  { page := 0x40, off := 0x150, lo := 0, width := 8, reset := 0, ka := false }
/-- BUNDLE_STATE.LAST_REASON [31:24], RO, spec/06 R187. -/
def BUNDLE_STATE_LAST_REASON (f : Nat) : Fld :=
  { page := 0x41 + 1 * f, off := 0x100, lo := 24, width := 8, reset := 0, ka := false }
/-- BUNDLE_STATE.STAGE [2:0], RO, spec/06 R187. -/
def BUNDLE_STATE_STAGE (f : Nat) : Fld :=
  { page := 0x41 + 1 * f, off := 0x100, lo := 0, width := 3, reset := 0, ka := false }
/-- BUNDLE_BACKOFF.BELLS [20:0], RO, spec/06 R187. -/
def BUNDLE_BACKOFF_BELLS (f : Nat) : Fld :=
  { page := 0x41 + 1 * f, off := 0x104, lo := 0, width := 21, reset := 0, ka := false }
/-- BUNDLE_CTRL.RETRAIN [0:0], WO, spec/06 R187. -/
def BUNDLE_CTRL_RETRAIN (f : Nat) : Fld :=
  { page := 0x41 + 1 * f, off := 0x108, lo := 0, width := 1, reset := 0, ka := false }
/-- BUNDLE_LANE_MAP.REVERSED [31:31], RO, spec/06 R187. -/
def BUNDLE_LANE_MAP_REVERSED (f : Nat) : Fld :=
  { page := 0x41 + 1 * f, off := 0x110, lo := 31, width := 1, reset := 0, ka := false }
/-- BUNDLE_LANE_MAP.RX_SPARE_USED [30:30], RO, spec/06 R187. -/
def BUNDLE_LANE_MAP_RX_SPARE_USED (f : Nat) : Fld :=
  { page := 0x41 + 1 * f, off := 0x110, lo := 30, width := 1, reset := 0, ka := false }
/-- BUNDLE_LANE_MAP.RX_SPARED [29:25], RO, spec/06 R187. -/
def BUNDLE_LANE_MAP_RX_SPARED (f : Nat) : Fld :=
  { page := 0x41 + 1 * f, off := 0x110, lo := 25, width := 5, reset := 0, ka := false }
/-- BUNDLE_LANE_MAP.TX_SPARE_USED [24:24], RO, spec/06 R187. -/
def BUNDLE_LANE_MAP_TX_SPARE_USED (f : Nat) : Fld :=
  { page := 0x41 + 1 * f, off := 0x110, lo := 24, width := 1, reset := 0, ka := false }
/-- BUNDLE_LANE_MAP.TX_SPARED [23:19], RO, spec/06 R187. -/
def BUNDLE_LANE_MAP_TX_SPARED (f : Nat) : Fld :=
  { page := 0x41 + 1 * f, off := 0x110, lo := 19, width := 5, reset := 0, ka := false }
/-- BUNDLE_LANE_MAP.POL [16:0], RO, spec/06 R187. -/
def BUNDLE_LANE_MAP_POL (f : Nat) : Fld :=
  { page := 0x41 + 1 * f, off := 0x110, lo := 0, width := 17, reset := 0, ka := false }
/-- BUNDLE_FAILED.LANES [16:0], RO, spec/06 R187. -/
def BUNDLE_FAILED_LANES (f : Nat) : Fld :=
  { page := 0x41 + 1 * f, off := 0x114, lo := 0, width := 17, reset := 0, ka := false }
/-- BUNDLE_TX_EQ.C_POST [23:16], RW, spec/06 R187. -/
def BUNDLE_TX_EQ_C_POST (f j : Nat) : Fld :=
  { page := 0x41 + 1 * f, off := 0x200 + 4 * j, lo := 16, width := 8, reset := 8, ka := false }
/-- BUNDLE_TX_EQ.C_MAIN [15:8], RW, spec/06 R187. -/
def BUNDLE_TX_EQ_C_MAIN (f j : Nat) : Fld :=
  { page := 0x41 + 1 * f, off := 0x200 + 4 * j, lo := 8, width := 8, reset := 55, ka := false }
/-- BUNDLE_TX_EQ.C_PRE [7:0], RW, spec/06 R187. -/
def BUNDLE_TX_EQ_C_PRE (f j : Nat) : Fld :=
  { page := 0x41 + 1 * f, off := 0x200 + 4 * j, lo := 0, width := 8, reset := 0, ka := false }
/-- BUNDLE_RX_EQ.DFE3 [31:24], RW, spec/06 R187. -/
def BUNDLE_RX_EQ_DFE3 (f j : Nat) : Fld :=
  { page := 0x41 + 1 * f, off := 0x300 + 4 * j, lo := 24, width := 8, reset := 0, ka := false }
/-- BUNDLE_RX_EQ.DFE2 [23:16], RW, spec/06 R187. -/
def BUNDLE_RX_EQ_DFE2 (f j : Nat) : Fld :=
  { page := 0x41 + 1 * f, off := 0x300 + 4 * j, lo := 16, width := 8, reset := 0, ka := false }
/-- BUNDLE_RX_EQ.DFE1 [15:8], RW, spec/06 R187. -/
def BUNDLE_RX_EQ_DFE1 (f j : Nat) : Fld :=
  { page := 0x41 + 1 * f, off := 0x300 + 4 * j, lo := 8, width := 8, reset := 0, ka := false }
/-- BUNDLE_RX_EQ.CTLE [7:0], RW, spec/06 R187. -/
def BUNDLE_RX_EQ_CTLE (f j : Nat) : Fld :=
  { page := 0x41 + 1 * f, off := 0x300 + 4 * j, lo := 0, width := 8, reset := 6, ka := false }
/-- BUNDLE_LANE_ERR.ERRORS [31:0], RO, spec/06 R187. -/
def BUNDLE_LANE_ERR_ERRORS (f j : Nat) : Fld :=
  { page := 0x41 + 1 * f, off := 0x400 + 4 * j, lo := 0, width := 32, reset := 0, ka := false }
/-- LANTERN_CTRL.LINE_REARM [2:2], WO, spec/07 R218. -/
def LANTERN_CTRL_LINE_REARM : Fld :=
  { page := 0x9, off := 0x100, lo := 2, width := 1, reset := 0, ka := false }
/-- LANTERN_CTRL.FAST [1:1], RW KA, spec/07 R218. -/
def LANTERN_CTRL_FAST : Fld :=
  { page := 0x9, off := 0x100, lo := 1, width := 1, reset := 1, ka := true }
/-- LANTERN_CTRL.AUTO [0:0], RW KA, spec/07 R218. -/
def LANTERN_CTRL_AUTO : Fld :=
  { page := 0x9, off := 0x100, lo := 0, width := 1, reset := 1, ka := true }
/-- LANTERN_STATUS.BUS_STUCK [6:6], RO, spec/07 R218. -/
def LANTERN_STATUS_BUS_STUCK : Fld :=
  { page := 0x9, off := 0x104, lo := 6, width := 1, reset := 0, ka := false }
/-- LANTERN_STATUS.B_STANDBY [5:5], RO, spec/07 R218. -/
def LANTERN_STATUS_B_STANDBY : Fld :=
  { page := 0x9, off := 0x104, lo := 5, width := 1, reset := 0, ka := false }
/-- LANTERN_STATUS.A_STANDBY [4:4], RO, spec/07 R218. -/
def LANTERN_STATUS_A_STANDBY : Fld :=
  { page := 0x9, off := 0x104, lo := 4, width := 1, reset := 0, ka := false }
/-- LANTERN_STATUS.B_LIGHT [3:3], RO, spec/07 R218. -/
def LANTERN_STATUS_B_LIGHT : Fld :=
  { page := 0x9, off := 0x104, lo := 3, width := 1, reset := 0, ka := false }
/-- LANTERN_STATUS.A_LIGHT [2:2], RO, spec/07 R218. -/
def LANTERN_STATUS_A_LIGHT : Fld :=
  { page := 0x9, off := 0x104, lo := 2, width := 1, reset := 0, ka := false }
/-- LANTERN_STATUS.MODE [1:0], RO, spec/07 R218. -/
def LANTERN_STATUS_MODE : Fld :=
  { page := 0x9, off := 0x104, lo := 0, width := 2, reset := 3, ka := false }
/-- LANTERN_ADDR.ADDR_B [14:8], RW KA, spec/07 R218. -/
def LANTERN_ADDR_ADDR_B : Fld :=
  { page := 0x9, off := 0x108, lo := 8, width := 7, reset := 89, ka := true }
/-- LANTERN_ADDR.ADDR_A [6:0], RW KA, spec/07 R218. -/
def LANTERN_ADDR_ADDR_A : Fld :=
  { page := 0x9, off := 0x108, lo := 0, width := 7, reset := 88, ka := true }
/-- LANTERN_LEVELS.DRAWN [31:16], RW KA, spec/07 R218. -/
def LANTERN_LEVELS_DRAWN : Fld :=
  { page := 0x9, off := 0x10c, lo := 16, width := 16, reset := 1300, ka := true }
/-- LANTERN_LEVELS.STANDBY [15:0], RW KA, spec/07 R218. -/
def LANTERN_LEVELS_STANDBY : Fld :=
  { page := 0x9, off := 0x10c, lo := 0, width := 16, reset := 1000, ka := true }
/-- LANTERN_SINGLE.SINGLE [15:0], RW KA, spec/07 R218. -/
def LANTERN_SINGLE_SINGLE : Fld :=
  { page := 0x9, off := 0x110, lo := 0, width := 16, reset := 1100, ka := true }
/-- LANTERN_IN.LOL [31:31], RO, spec/07 R218. -/
def LANTERN_IN_LOL (j : Nat) : Fld :=
  { page := 0x9, off := 0x114 + 4 * j, lo := 31, width := 1, reset := 0, ka := false }
/-- LANTERN_IN.POWER [15:0], RO, spec/07 R218. -/
def LANTERN_IN_POWER (j : Nat) : Fld :=
  { page := 0x9, off := 0x114 + 4 * j, lo := 0, width := 16, reset := 0, ka := false }
/-- LANTERN_LOS_THRESH.DB [7:0], RW KA, spec/07 R218. -/
def LANTERN_LOS_THRESH_DB : Fld :=
  { page := 0x9, off := 0x11c, lo := 0, width := 8, reset := 80, ka := true }
/-- LANTERN_SEL.LINE [31:0], RW KA, spec/07 R218. -/
def LANTERN_SEL_LINE (j : Nat) : Fld :=
  { page := 0x9, off := 0x200 + 4 * j, lo := 0, width := 32, reset := 2576980377, ka := true }
/-- LANTERN_LINE.SETPOINT [31:16], RO, spec/07 R218. -/
def LANTERN_LINE_SETPOINT (i j : Nat) : Fld :=
  { page := 0x9, off := 0x300 + 128 * i + 4 * j, lo := 16, width := 16, reset := 0, ka := false }
/-- LANTERN_LINE.MEASURED [15:0], RO, spec/07 R218. -/
def LANTERN_LINE_MEASURED (i j : Nat) : Fld :=
  { page := 0x9, off := 0x300 + 128 * i + 4 * j, lo := 0, width := 16, reset := 0, ka := false }
/-- LANTERN_BIAS.STATUS [31:24], RO, spec/07 R218. -/
def LANTERN_BIAS_STATUS (i j : Nat) : Fld :=
  { page := 0x9, off := 0x400 + 128 * i + 4 * j, lo := 24, width := 8, reset := 0, ka := false }
/-- LANTERN_BIAS.BIAS [15:0], RO, spec/07 R218. -/
def LANTERN_BIAS_BIAS (i j : Nat) : Fld :=
  { page := 0x9, off := 0x400 + 128 * i + 4 * j, lo := 0, width := 16, reset := 0, ka := false }
/-- LANTERN_HOURS.EMITTING [31:0], RO, spec/07 R218. -/
def LANTERN_HOURS_EMITTING (j : Nat) : Fld :=
  { page := 0x9, off := 0x500 + 4 * j, lo := 0, width := 32, reset := 0, ka := false }
/-- HTR_STATUS.POWER [15:0], RO, spec/07 R219. -/
def HTR_STATUS_POWER : Fld :=
  { page := 0xc, off := 0x100, lo := 0, width := 16, reset := 0, ka := false }
/-- HTR_HTR_SEL.HEATER [10:0], RW, spec/07 R219. -/
def HTR_HTR_SEL_HEATER (path : Nat) : Fld :=
  { page := 0xc, off := 0x104, lo := 0, width := 11, reset := 0, ka := false, idx := 2 + path }
/-- HTR_MON_SEL.CHANNEL [10:0], RW, spec/07 R219. -/
def HTR_MON_SEL_CHANNEL (path : Nat) : Fld :=
  { page := 0xc, off := 0x10c, lo := 0, width := 11, reset := 0, ka := false, idx := 2 + path }
/-- HTR_SPARE_MOD.LANES [31:0], RO, spec/07 R219. -/
def HTR_SPARE_MOD_LANES (j : Nat) : Fld :=
  { page := 0xc, off := 0x200 + 16 * j, lo := 0, width := 32, reset := 0, ka := false }
/-- HTR_SPARE_DROP.LANES [31:0], RO, spec/07 R219. -/
def HTR_SPARE_DROP_LANES (j : Nat) : Fld :=
  { page := 0xc, off := 0x204 + 16 * j, lo := 0, width := 32, reset := 0, ka := false }
/-- HTR_SPARE_DET.VALID1 [13:13], RO, spec/07 R219. -/
def HTR_SPARE_DET_VALID1 (j : Nat) : Fld :=
  { page := 0xc, off := 0x208 + 16 * j, lo := 13, width := 1, reset := 0, ka := false }
/-- HTR_SPARE_DET.LANE1 [12:8], RO, spec/07 R219. -/
def HTR_SPARE_DET_LANE1 (j : Nat) : Fld :=
  { page := 0xc, off := 0x208 + 16 * j, lo := 8, width := 5, reset := 0, ka := false }
/-- HTR_SPARE_DET.VALID0 [5:5], RO, spec/07 R219. -/
def HTR_SPARE_DET_VALID0 (j : Nat) : Fld :=
  { page := 0xc, off := 0x208 + 16 * j, lo := 5, width := 1, reset := 0, ka := false }
/-- HTR_SPARE_DET.LANE0 [4:0], RO, spec/07 R219. -/
def HTR_SPARE_DET_LANE0 (j : Nat) : Fld :=
  { page := 0xc, off := 0x208 + 16 * j, lo := 0, width := 5, reset := 0, ka := false }
/-- HEARTH_CTRL.WEAR_EN [1:1], RW KA, spec/08 R244. -/
def HEARTH_CTRL_WEAR_EN (f : Nat) : Fld :=
  { page := 0xa + 1 * f, off := 0x100, lo := 1, width := 1, reset := 1, ka := true }
/-- HEARTH_CTRL.RUN [0:0], RW KA, spec/08 R244. -/
def HEARTH_CTRL_RUN (f : Nat) : Fld :=
  { page := 0xa + 1 * f, off := 0x100, lo := 0, width := 1, reset := 1, ka := true }
/-- HEARTH_STATUS.ACQUIRING [26:16], RO, spec/08 R244. -/
def HEARTH_STATUS_ACQUIRING (f : Nat) : Fld :=
  { page := 0xa + 1 * f, off := 0x104, lo := 16, width := 11, reset := 0, ka := false }
/-- HEARTH_STATUS.LOCKED [10:0], RO, spec/08 R244. -/
def HEARTH_STATUS_LOCKED (f : Nat) : Fld :=
  { page := 0xa + 1 * f, off := 0x104, lo := 0, width := 11, reset := 0, ka := false }
/-- HEARTH_GAIN.KI [31:16], RWS, spec/08 R244. -/
def HEARTH_GAIN_KI (f j : Nat) : Fld :=
  { page := 0xa + 1 * f, off := 0x110 + 4 * j, lo := 16, width := 16, reset := ([2048, 16384, 16384, 16384]).getD j 0, ka := true }
/-- HEARTH_GAIN.KP [15:0], RWS, spec/08 R244. -/
def HEARTH_GAIN_KP (f j : Nat) : Fld :=
  { page := 0xa + 1 * f, off := 0x110 + 4 * j, lo := 0, width := 16, reset := ([4096, 32768, 32768, 32768]).getD j 0, ka := true }
/-- HEARTH_THRESH.UNLOCK [31:16], RWS, spec/08 R244. -/
def HEARTH_THRESH_UNLOCK (f j : Nat) : Fld :=
  { page := 0xa + 1 * f, off := 0x120 + 4 * j, lo := 16, width := 16, reset := ([3277, 1311, 1311, 2048]).getD j 0, ka := true }
/-- HEARTH_THRESH.LOCK [15:0], RWS, spec/08 R244. -/
def HEARTH_THRESH_LOCK (f j : Nat) : Fld :=
  { page := 0xa + 1 * f, off := 0x120 + 4 * j, lo := 0, width := 16, reset := ([655, 262, 262, 262]).getD j 0, ka := true }
/-- HEARTH_DITHER.POL [31:16], RWS, spec/08 R244. -/
def HEARTH_DITHER_POL (f : Nat) : Fld :=
  { page := 0xa + 1 * f, off := 0x130, lo := 16, width := 16, reset := 102, ka := true }
/-- HEARTH_DITHER.RING [15:0], RWS, spec/08 R244. -/
def HEARTH_DITHER_RING (f : Nat) : Fld :=
  { page := 0xa + 1 * f, off := 0x130, lo := 0, width := 16, reset := 102, ka := true }
/-- HEARTH_LIGHT_MIN.CURRENT [21:0], RW KA, spec/08 R244. -/
def HEARTH_LIGHT_MIN_CURRENT (f : Nat) : Fld :=
  { page := 0xa + 1 * f, off := 0x134, lo := 0, width := 22, reset := 512, ka := true }
/-- HEARTH_HEADROOM_WARN.KELVIN [7:0], RW KA, spec/08 R244. -/
def HEARTH_HEADROOM_WARN_KELVIN (f : Nat) : Fld :=
  { page := 0xa + 1 * f, off := 0x138, lo := 0, width := 8, reset := 20, ka := true }
/-- HEARTH_LOOP_SEL.LOOP [9:0], RW, spec/08 R244. -/
def HEARTH_LOOP_SEL_LOOP (f path : Nat) : Fld :=
  { page := 0xa + 1 * f, off := 0x140, lo := 0, width := 10, reset := 0, ka := false, idx := 2 + path }
/-- HEARTH_HEADROOM.HEATER [26:16], RO, spec/08 R244. -/
def HEARTH_HEADROOM_HEATER (f j : Nat) : Fld :=
  { page := 0xa + 1 * f, off := 0x150 + 4 * j, lo := 16, width := 11, reset := 0, ka := false }
/-- HEARTH_HEADROOM.KELVIN [15:0], RO, spec/08 R244. -/
def HEARTH_HEADROOM_KELVIN (f j : Nat) : Fld :=
  { page := 0xa + 1 * f, off := 0x150 + 4 * j, lo := 0, width := 16, reset := 0, ka := false }
/-- HEARTH_XT_SEL.FERRY [10:8], RW, spec/08 R244. -/
def HEARTH_XT_SEL_FERRY (f path : Nat) : Fld :=
  { page := 0xa + 1 * f, off := 0x180, lo := 8, width := 3, reset := 0, ka := false, idx := 2 + path }
/-- HEARTH_XT_SEL.ROW [7:0], RW, spec/08 R244. -/
def HEARTH_XT_SEL_ROW (f path : Nat) : Fld :=
  { page := 0xa + 1 * f, off := 0x180, lo := 0, width := 8, reset := 0, ka := false, idx := 2 + path }
/-- HEARTH_XT_BAD.VALID [31:31], RO, spec/08 R244. -/
def HEARTH_XT_BAD_VALID (f : Nat) : Fld :=
  { page := 0xa + 1 * f, off := 0x198, lo := 31, width := 1, reset := 0, ka := false }
/-- HEARTH_XT_BAD.FERRY [10:8], RO, spec/08 R244. -/
def HEARTH_XT_BAD_FERRY (f : Nat) : Fld :=
  { page := 0xa + 1 * f, off := 0x198, lo := 8, width := 3, reset := 0, ka := false }
/-- HEARTH_XT_BAD.ROW [7:0], RO, spec/08 R244. -/
def HEARTH_XT_BAD_ROW (f : Nat) : Fld :=
  { page := 0xa + 1 * f, off := 0x198, lo := 0, width := 8, reset := 0, ka := false }
/-- HEARTH_WEAR_HYST.HOURS [15:0], RW KA, spec/08 R244. -/
def HEARTH_WEAR_HYST_HOURS (f : Nat) : Fld :=
  { page := 0xa + 1 * f, off := 0x1a0, lo := 0, width := 16, reset := 24, ka := true }
/-- HEARTH_WEAR_BIAS.HOURS_PER_MA [15:0], RW KA, spec/08 R244. -/
def HEARTH_WEAR_BIAS_HOURS_PER_MA (f : Nat) : Fld :=
  { page := 0xa + 1 * f, off := 0x1a4, lo := 0, width := 16, reset := 500, ka := true }
/-- HEARTH_WEAR_LAST.VALID [31:31], RO, spec/08 R244. -/
def HEARTH_WEAR_LAST_VALID (f : Nat) : Fld :=
  { page := 0xa + 1 * f, off := 0x1a8, lo := 31, width := 1, reset := 0, ka := false }
/-- HEARTH_WEAR_LAST.TO [6:5], RO, spec/08 R244. -/
def HEARTH_WEAR_LAST_TO (f : Nat) : Fld :=
  { page := 0xa + 1 * f, off := 0x1a8, lo := 5, width := 2, reset := 0, ka := false }
/-- HEARTH_WEAR_LAST.LINE [4:0], RO, spec/08 R244. -/
def HEARTH_WEAR_LAST_LINE (f : Nat) : Fld :=
  { page := 0xa + 1 * f, off := 0x1a8, lo := 0, width := 5, reset := 0, ka := false }
/-- HEARTH_OWNER.SWITCHES [31:24], RO, spec/09 R262. -/
def HEARTH_OWNER_SWITCHES (f : Nat) : Fld :=
  { page := 0xa + 1 * f, off := 0x300, lo := 24, width := 8, reset := 0, ka := false }
/-- HEARTH_OWNER.GRANT_BELL [23:16], RO, spec/09 R262. -/
def HEARTH_OWNER_GRANT_BELL (f : Nat) : Fld :=
  { page := 0xa + 1 * f, off := 0x300, lo := 16, width := 8, reset := 0, ka := false }
/-- HEARTH_OWNER.CAUSE [11:8], RO, spec/09 R262. -/
def HEARTH_OWNER_CAUSE (f : Nat) : Fld :=
  { page := 0xa + 1 * f, off := 0x300, lo := 8, width := 4, reset := 0, ka := false }
/-- HEARTH_OWNER.REQ_REFUSED [3:3], RO, spec/09 R262. -/
def HEARTH_OWNER_REQ_REFUSED (f : Nat) : Fld :=
  { page := 0xa + 1 * f, off := 0x300, lo := 3, width := 1, reset := 0, ka := false }
/-- HEARTH_OWNER.DUAL [2:2], RO, spec/09 R262. -/
def HEARTH_OWNER_DUAL (f : Nat) : Fld :=
  { page := 0xa + 1 * f, off := 0x300, lo := 2, width := 1, reset := 0, ka := false }
/-- HEARTH_OWNER.NONE [1:1], RO, spec/09 R262. -/
def HEARTH_OWNER_NONE (f : Nat) : Fld :=
  { page := 0xa + 1 * f, off := 0x300, lo := 1, width := 1, reset := 1, ka := false }
/-- HEARTH_OWNER.OWNER [0:0], RO, spec/09 R262. -/
def HEARTH_OWNER_OWNER (f : Nat) : Fld :=
  { page := 0xa + 1 * f, off := 0x300, lo := 0, width := 1, reset := 0, ka := false }
/-- HEARTH_ROLE.CLEAN [31:16], RO, spec/09 R262. -/
def HEARTH_ROLE_CLEAN (f : Nat) : Fld :=
  { page := 0xa + 1 * f, off := 0x304, lo := 16, width := 16, reset := 0, ka := false }
/-- HEARTH_ROLE.ROLE [2:0], RO, spec/09 R262. -/
def HEARTH_ROLE_ROLE (f : Nat) : Fld :=
  { page := 0xa + 1 * f, off := 0x304, lo := 0, width := 3, reset := 0, ka := false }
/-- HEARTH_RETURN.MODE [0:0], RW KA, spec/09 R262. -/
def HEARTH_RETURN_MODE (f : Nat) : Fld :=
  { page := 0xa + 1 * f, off := 0x308, lo := 0, width := 1, reset := 0, ka := true }
/-- HEARTH_CMP_TOL.CODES [15:0], RW KA, spec/09 R262. -/
def HEARTH_CMP_TOL_CODES (f : Nat) : Fld :=
  { page := 0xa + 1 * f, off := 0x30c, lo := 0, width := 16, reset := 0, ka := true }
/-- HEARTH_HB.WORD_MISS [15:8], RO, spec/09 R262. -/
def HEARTH_HB_WORD_MISS (f : Nat) : Fld :=
  { page := 0xa + 1 * f, off := 0x310, lo := 8, width := 8, reset := 0, ka := false }
/-- HEARTH_HB.LINE_MISS [7:0], RO, spec/09 R262. -/
def HEARTH_HB_LINE_MISS (f : Nat) : Fld :=
  { page := 0xa + 1 * f, off := 0x310, lo := 0, width := 8, reset := 0, ka := false }
/-- HEARTH_CMP_LAST.LOOP [25:16], RO, spec/09 R262. -/
def HEARTH_CMP_LAST_LOOP (f : Nat) : Fld :=
  { page := 0xa + 1 * f, off := 0x314, lo := 16, width := 10, reset := 0, ka := false }
/-- HEARTH_CMP_LAST.DIFF [15:0], RO, spec/09 R262. -/
def HEARTH_CMP_LAST_DIFF (f : Nat) : Fld :=
  { page := 0xa + 1 * f, off := 0x314, lo := 0, width := 16, reset := 0, ka := false }
/-- HEARTH_HEALTH.ROLE [31:29], RO, spec/09 R262. -/
def HEARTH_HEALTH_ROLE (f : Nat) : Fld :=
  { page := 0xa + 1 * f, off := 0x318, lo := 29, width := 3, reset := 0, ka := false }
/-- HEARTH_HEALTH.MARCH_DONE [28:28], RO, spec/09 R262. -/
def HEARTH_HEALTH_MARCH_DONE (f : Nat) : Fld :=
  { page := 0xa + 1 * f, off := 0x318, lo := 28, width := 1, reset := 0, ka := false }
/-- HEARTH_HEALTH.BIST_FAILS [27:20], RO, spec/09 R262. -/
def HEARTH_HEALTH_BIST_FAILS (f : Nat) : Fld :=
  { page := 0xa + 1 * f, off := 0x318, lo := 20, width := 8, reset := 0, ka := false }
/-- HEARTH_HEALTH.MARCH_FAILS [19:16], RO, spec/09 R262. -/
def HEARTH_HEALTH_MARCH_FAILS (f : Nat) : Fld :=
  { page := 0xa + 1 * f, off := 0x318, lo := 16, width := 4, reset := 0, ka := false }
/-- HEARTH_HEALTH.MIRROR_MISSES [15:8], RO, spec/09 R262. -/
def HEARTH_HEALTH_MIRROR_MISSES (f : Nat) : Fld :=
  { page := 0xa + 1 * f, off := 0x318, lo := 8, width := 8, reset := 0, ka := false }
/-- HEARTH_HEALTH.CMP_MISMATCHES [7:0], RO, spec/09 R262. -/
def HEARTH_HEALTH_CMP_MISMATCHES (f : Nat) : Fld :=
  { page := 0xa + 1 * f, off := 0x318, lo := 0, width := 8, reset := 0, ka := false }
/-- HEARTH_SELFTEST.FAILED [31:31], RO, spec/09 R262. -/
def HEARTH_SELFTEST_FAILED (f : Nat) : Fld :=
  { page := 0xa + 1 * f, off := 0x31c, lo := 31, width := 1, reset := 0, ka := false }
/-- HEARTH_SELFTEST.KIND [30:30], RO, spec/09 R262. -/
def HEARTH_SELFTEST_KIND (f : Nat) : Fld :=
  { page := 0xa + 1 * f, off := 0x31c, lo := 30, width := 1, reset := 0, ka := false }
/-- HEARTH_SELFTEST.BELL [23:0], RO, spec/09 R262. -/
def HEARTH_SELFTEST_BELL (f : Nat) : Fld :=
  { page := 0xa + 1 * f, off := 0x31c, lo := 0, width := 24, reset := 0, ka := false }
/-- HEARTH_SWITCH_CTRL.KEY [15:8], WO, spec/09 R262. -/
def HEARTH_SWITCH_CTRL_KEY (f : Nat) : Fld :=
  { page := 0xa + 1 * f, off := 0x320, lo := 8, width := 8, reset := 0, ka := false }
/-- HEARTH_SWITCH_CTRL.REQUEST [0:0], WO, spec/09 R262. -/
def HEARTH_SWITCH_CTRL_REQUEST (f : Nat) : Fld :=
  { page := 0xa + 1 * f, off := 0x320, lo := 0, width := 1, reset := 0, ka := false }
/-- FERRY_STATUS.PORT_VALID [14:14], RO KA, spec/10 R297. -/
def FERRY_STATUS_PORT_VALID (f : Nat) : Fld :=
  { page := 0x20 + 4 * f, off := 0x100, lo := 14, width := 1, reset := 0, ka := true }
/-- FERRY_STATUS.PORT [13:9], RO KA, spec/10 R297. -/
def FERRY_STATUS_PORT (f : Nat) : Fld :=
  { page := 0x20 + 4 * f, off := 0x100, lo := 9, width := 5, reset := 0, ka := true }
/-- FERRY_STATUS.CABLING [2:2], RO, spec/10 R297. -/
def FERRY_STATUS_CABLING (f : Nat) : Fld :=
  { page := 0x20 + 4 * f, off := 0x100, lo := 2, width := 1, reset := 0, ka := false }
/-- FERRY_STATUS.REVERSED [1:1], RO, spec/10 R297. -/
def FERRY_STATUS_REVERSED (f : Nat) : Fld :=
  { page := 0x20 + 4 * f, off := 0x100, lo := 1, width := 1, reset := 0, ka := false }
/-- FERRY_STATUS.REV_VALID [0:0], RO, spec/10 R297. -/
def FERRY_STATUS_REV_VALID (f : Nat) : Fld :=
  { page := 0x20 + 4 * f, off := 0x100, lo := 0, width := 1, reset := 0, ka := false }
/-- FERRY_ACTIVE.LINKS [31:0], RO, spec/10 R297. -/
def FERRY_ACTIVE_LINKS (f : Nat) : Fld :=
  { page := 0x20 + 4 * f, off := 0x104, lo := 0, width := 32, reset := 0, ka := false }
/-- FERRY_LANE_RESET.LINKS [31:0], WO, spec/10 R297. -/
def FERRY_LANE_RESET_LINKS (f : Nat) : Fld :=
  { page := 0x20 + 4 * f, off := 0x108, lo := 0, width := 32, reset := 0, ka := false }
/-- FERRY_INJ_LANE.LINK [4:0], RW, spec/10 R297. -/
def FERRY_INJ_LANE_LINK (f : Nat) : Fld :=
  { page := 0x20 + 4 * f, off := 0x10c, lo := 0, width := 5, reset := 0, ka := false }
/-- FERRY_LANE_STATE.LAST_REASON [31:24], RO, spec/10 R297. -/
def FERRY_LANE_STATE_LAST_REASON (f j : Nat) : Fld :=
  { page := 0x20 + 4 * f, off := 0x180 + 4 * j, lo := 24, width := 8, reset := 0, ka := false }
/-- FERRY_LANE_STATE.FAR_STAGE [23:21], RO, spec/10 R297. -/
def FERRY_LANE_STATE_FAR_STAGE (f j : Nat) : Fld :=
  { page := 0x20 + 4 * f, off := 0x180 + 4 * j, lo := 21, width := 3, reset := 0, ka := false }
/-- FERRY_LANE_STATE.EQ_CONVERGED [20:20], RO, spec/10 R297. -/
def FERRY_LANE_STATE_EQ_CONVERGED (f j : Nat) : Fld :=
  { page := 0x20 + 4 * f, off := 0x180 + 4 * j, lo := 20, width := 1, reset := 0, ka := false }
/-- FERRY_LANE_STATE.SWAP [19:19], RO, spec/10 R297. -/
def FERRY_LANE_STATE_SWAP (f j : Nat) : Fld :=
  { page := 0x20 + 4 * f, off := 0x180 + 4 * j, lo := 19, width := 1, reset := 0, ka := false }
/-- FERRY_LANE_STATE.ROT [18:17], RO, spec/10 R297. -/
def FERRY_LANE_STATE_ROT (f j : Nat) : Fld :=
  { page := 0x20 + 4 * f, off := 0x180 + 4 * j, lo := 17, width := 2, reset := 0, ka := false }
/-- FERRY_LANE_STATE.LOS [16:16], RO, spec/10 R297. -/
def FERRY_LANE_STATE_LOS (f j : Nat) : Fld :=
  { page := 0x20 + 4 * f, off := 0x180 + 4 * j, lo := 16, width := 1, reset := 1, ka := false }
/-- FERRY_LANE_STATE.BACKOFF [3:3], RO, spec/10 R297. -/
def FERRY_LANE_STATE_BACKOFF (f j : Nat) : Fld :=
  { page := 0x20 + 4 * f, off := 0x180 + 4 * j, lo := 3, width := 1, reset := 0, ka := false }
/-- FERRY_LANE_STATE.STAGE [2:0], RO, spec/10 R297. -/
def FERRY_LANE_STATE_STAGE (f j : Nat) : Fld :=
  { page := 0x20 + 4 * f, off := 0x180 + 4 * j, lo := 0, width := 3, reset := 0, ka := false }
/-- FERRY_LANE_ATTEMPTS.ATTEMPTS [31:0], RO, spec/10 R297. -/
def FERRY_LANE_ATTEMPTS_ATTEMPTS (f j : Nat) : Fld :=
  { page := 0x20 + 4 * f, off := 0x200 + 4 * j, lo := 0, width := 32, reset := 0, ka := false }
/-- FERRY_LANE_BACKOFF.BELLS [20:0], RO, spec/10 R297. -/
def FERRY_LANE_BACKOFF_BELLS (f j : Nat) : Fld :=
  { page := 0x20 + 4 * f, off := 0x280 + 4 * j, lo := 0, width := 21, reset := 0, ka := false }
/-- FERRY_EQ_MU.MU_TRAIN [15:8], RW KA, spec/10 R297. -/
def FERRY_EQ_MU_MU_TRAIN (f : Nat) : Fld :=
  { page := 0x21 + 4 * f, off := 0x100, lo := 8, width := 8, reset := 16, ka := true }
/-- FERRY_EQ_MU.MU_TRACK [7:0], RW KA, spec/10 R297. -/
def FERRY_EQ_MU_MU_TRACK (f : Nat) : Fld :=
  { page := 0x21 + 4 * f, off := 0x100, lo := 0, width := 8, reset := 1, ka := true }
/-- FERRY_EQ_FREEZE.LINKS [31:0], RW KA, spec/10 R297. -/
def FERRY_EQ_FREEZE_LINKS (f : Nat) : Fld :=
  { page := 0x21 + 4 * f, off := 0x104, lo := 0, width := 32, reset := 0, ka := true }
/-- FERRY_EQ_TAPS0.I1–I4 [31:0], RW, spec/10 R297. -/
def FERRY_EQ_TAPS0_I1_I4 (f j : Nat) : Fld :=
  { page := 0x21 + 4 * f, off := 0x200 + 16 * j, lo := 0, width := 32, reset := 0, ka := false }
/-- FERRY_EQ_TAPS1.Q1–Q4 [31:0], RW, spec/10 R297. -/
def FERRY_EQ_TAPS1_Q1_Q4 (f j : Nat) : Fld :=
  { page := 0x21 + 4 * f, off := 0x204 + 16 * j, lo := 0, width := 32, reset := 0, ka := false }
/-- FERRY_EQ_TAPS2.I5 [15:8], RW, spec/10 R297. -/
def FERRY_EQ_TAPS2_I5 (f j : Nat) : Fld :=
  { page := 0x21 + 4 * f, off := 0x208 + 16 * j, lo := 8, width := 8, reset := 0, ka := false }
/-- FERRY_EQ_TAPS2.Q5 [7:0], RW, spec/10 R297. -/
def FERRY_EQ_TAPS2_Q5 (f j : Nat) : Fld :=
  { page := 0x21 + 4 * f, off := 0x208 + 16 * j, lo := 0, width := 8, reset := 0, ka := false }
/-- FERRY_EQ_TAPS3.ERR_RMS [31:16], RO, spec/10 R297. -/
def FERRY_EQ_TAPS3_ERR_RMS (f j : Nat) : Fld :=
  { page := 0x21 + 4 * f, off := 0x20c + 16 * j, lo := 16, width := 16, reset := 0, ka := false }
/-- FERRY_EQ_TAPS3.PHASE [15:0], RO, spec/10 R297. -/
def FERRY_EQ_TAPS3_PHASE (f j : Nat) : Fld :=
  { page := 0x21 + 4 * f, off := 0x20c + 16 * j, lo := 0, width := 16, reset := 0, ka := false }
/-- FERRY_FAR0.VALID [31:31], RO, spec/10 R298. -/
def FERRY_FAR0_VALID (f j : Nat) : Fld :=
  { page := 0x23 + 4 * f, off := 0x200 + 16 * j, lo := 31, width := 1, reset := 0, ka := false }
/-- FERRY_FAR0.BAND [30:29], RO, spec/10 R298. -/
def FERRY_FAR0_BAND (f j : Nat) : Fld :=
  { page := 0x23 + 4 * f, off := 0x200 + 16 * j, lo := 29, width := 2, reset := 0, ka := false }
/-- FERRY_FAR0.PORT [28:24], RO, spec/10 R298. -/
def FERRY_FAR0_PORT (f j : Nat) : Fld :=
  { page := 0x23 + 4 * f, off := 0x200 + 16 * j, lo := 24, width := 5, reset := 0, ka := false }
/-- FERRY_FAR0.FERRY [22:20], RO, spec/10 R298. -/
def FERRY_FAR0_FERRY (f j : Nat) : Fld :=
  { page := 0x23 + 4 * f, off := 0x200 + 16 * j, lo := 20, width := 3, reset := 0, ka := false }
/-- FERRY_FAR0.NODE [19:0], RO, spec/10 R298. -/
def FERRY_FAR0_NODE (f j : Nat) : Fld :=
  { page := 0x23 + 4 * f, off := 0x200 + 16 * j, lo := 0, width := 20, reset := 0, ka := false }
/-- FERRY_FAR1.SCHED_VERSION [31:0], RO, spec/10 R298. -/
def FERRY_FAR1_SCHED_VERSION (f j : Nat) : Fld :=
  { page := 0x23 + 4 * f, off := 0x204 + 16 * j, lo := 0, width := 32, reset := 0, ka := false }
/-- FERRY_FAR2.STEPPING [31:24], RO, spec/10 R298. -/
def FERRY_FAR2_STEPPING (f j : Nat) : Fld :=
  { page := 0x23 + 4 * f, off := 0x208 + 16 * j, lo := 24, width := 8, reset := 0, ka := false }
/-- FERRY_FAR2.LAND [18:16], RO, spec/10 R298. -/
def FERRY_FAR2_LAND (f j : Nat) : Fld :=
  { page := 0x23 + 4 * f, off := 0x208 + 16 * j, lo := 16, width := 3, reset := 0, ka := false }
/-- FERRY_FAR2.SKEW [15:0], RO, spec/10 R298. -/
def FERRY_FAR2_SKEW (f j : Nat) : Fld :=
  { page := 0x23 + 4 * f, off := 0x208 + 16 * j, lo := 0, width := 16, reset := 0, ka := false }
/-- FERRY_FAR3.CAP [31:0], RO, spec/10 R298. -/
def FERRY_FAR3_CAP (f j : Nat) : Fld :=
  { page := 0x23 + 4 * f, off := 0x20c + 16 * j, lo := 0, width := 32, reset := 0, ka := false }
/-- SHEPHERD_CTRL.SPARE_REARM [2:2], WO, spec/11 R323. -/
def SHEPHERD_CTRL_SPARE_REARM : Fld :=
  { page := 0x55, off := 0x100, lo := 2, width := 1, reset := 0, ka := false }
/-- SHEPHERD_CTRL.AUTO_DETOUR [1:1], RW KA, spec/11 R323. -/
def SHEPHERD_CTRL_AUTO_DETOUR : Fld :=
  { page := 0x55, off := 0x100, lo := 1, width := 1, reset := 1, ka := true }
/-- SHEPHERD_CTRL.AUTO_SPARE [0:0], RW KA, spec/11 R323. -/
def SHEPHERD_CTRL_AUTO_SPARE : Fld :=
  { page := 0x55, off := 0x100, lo := 0, width := 1, reset := 1, ka := true }
/-- SHEPHERD_DET_THRESH.ERR_RMS [15:0], RW KA, spec/11 R323. -/
def SHEPHERD_DET_THRESH_ERR_RMS : Fld :=
  { page := 0x55, off := 0x104, lo := 0, width := 16, reset := 4096, ka := true }
/-- SHEPHERD_LAST.KIND [31:29], RO, spec/11 R323. -/
def SHEPHERD_LAST_KIND : Fld :=
  { page := 0x55, off := 0x108, lo := 29, width := 3, reset := 0, ka := false }
/-- SHEPHERD_LAST.WAVE_LINK [28:24], RO, spec/11 R323. -/
def SHEPHERD_LAST_WAVE_LINK : Fld :=
  { page := 0x55, off := 0x108, lo := 24, width := 5, reset := 0, ka := false }
/-- SHEPHERD_LAST.FERRY [23:21], RO, spec/11 R323. -/
def SHEPHERD_LAST_FERRY : Fld :=
  { page := 0x55, off := 0x108, lo := 21, width := 3, reset := 0, ka := false }
/-- SHEPHERD_LAST.BELL [20:0], RO, spec/11 R323. -/
def SHEPHERD_LAST_BELL : Fld :=
  { page := 0x55, off := 0x108, lo := 0, width := 21, reset := 0, ka := false }
/-- SHEPHERD_ANN.ANN [31:30], RO, spec/11 R323. -/
def SHEPHERD_ANN_ANN : Fld :=
  { page := 0x55, off := 0x10c, lo := 30, width := 2, reset := 0, ka := false }
/-- SHEPHERD_ANN.FERRY [29:27], RO, spec/11 R323. -/
def SHEPHERD_ANN_FERRY : Fld :=
  { page := 0x55, off := 0x10c, lo := 27, width := 3, reset := 0, ka := false }
/-- SHEPHERD_ANN.LINK [26:22], RO, spec/11 R323. -/
def SHEPHERD_ANN_LINK : Fld :=
  { page := 0x55, off := 0x10c, lo := 22, width := 5, reset := 0, ka := false }
/-- SHEPHERD_ANN.NODE [19:0], RO, spec/11 R323. -/
def SHEPHERD_ANN_NODE : Fld :=
  { page := 0x55, off := 0x10c, lo := 0, width := 20, reset := 0, ka := false }
/-- SHEPHERD_DETOURS.FERRIES [7:0], RO, spec/11 R323. -/
def SHEPHERD_DETOURS_FERRIES : Fld :=
  { page := 0x55, off := 0x110, lo := 0, width := 8, reset := 0, ka := false }
/-- FERRY_REPLAY.DETOUR [31:31], RO, spec/11 R324. -/
def FERRY_REPLAY_DETOUR (f j : Nat) : Fld :=
  { page := 0x20 + 4 * f, off := 0x300 + 4 * j, lo := 31, width := 1, reset := 0, ka := false }
/-- FERRY_REPLAY.TRANSIT [30:30], RO, spec/11 R324. -/
def FERRY_REPLAY_TRANSIT (f j : Nat) : Fld :=
  { page := 0x20 + 4 * f, off := 0x300 + 4 * j, lo := 30, width := 1, reset := 0, ka := false }
/-- FERRY_REPLAY.HOLD [29:29], RO, spec/11 R324. -/
def FERRY_REPLAY_HOLD (f j : Nat) : Fld :=
  { page := 0x20 + 4 * f, off := 0x300 + 4 * j, lo := 29, width := 1, reset := 0, ka := false }
/-- FERRY_REPLAY.QUEUED [28:23], RO, spec/11 R324. -/
def FERRY_REPLAY_QUEUED (f j : Nat) : Fld :=
  { page := 0x20 + 4 * f, off := 0x300 + 4 * j, lo := 23, width := 6, reset := 0, ka := false }
/-- FERRY_REPLAY.RT [22:19], RO, spec/11 R324. -/
def FERRY_REPLAY_RT (f j : Nat) : Fld :=
  { page := 0x20 + 4 * f, off := 0x300 + 4 * j, lo := 19, width := 4, reset := 0, ka := false }
/-- FERRY_REPLAY.FAIL_CAUSE [18:17], RO, spec/11 R324. -/
def FERRY_REPLAY_FAIL_CAUSE (f j : Nat) : Fld :=
  { page := 0x20 + 4 * f, off := 0x300 + 4 * j, lo := 17, width := 2, reset := 0, ka := false }
/-- FERRY_REPLAY.HELD [8:0], RO, spec/11 R324. -/
def FERRY_REPLAY_HELD (f j : Nat) : Fld :=
  { page := 0x20 + 4 * f, off := 0x300 + 4 * j, lo := 0, width := 9, reset := 0, ka := false }
/-- SCHED_CTRL.CATCH_UP [0:0], RW KA, spec/12 R350. -/
def SCHED_CTRL_CATCH_UP : Fld :=
  { page := 0x52, off := 0x100, lo := 0, width := 1, reset := 1, ka := true }
/-- SCHED_ACTIVE_VERSION.VERSION [31:0], RO, spec/12 R350. -/
def SCHED_ACTIVE_VERSION_VERSION : Fld :=
  { page := 0x52, off := 0x104, lo := 0, width := 32, reset := 0, ka := false }
/-- SCHED_SHADOW_VERSION.VERSION [31:0], RO, spec/12 R350. -/
def SCHED_SHADOW_VERSION_VERSION : Fld :=
  { page := 0x52, off := 0x108, lo := 0, width := 32, reset := 0, ka := false }
/-- SCHED_BAD.VALID [31:31], RO, spec/12 R350. -/
def SCHED_BAD_VALID : Fld :=
  { page := 0x52, off := 0x10c, lo := 31, width := 1, reset := 0, ka := false }
/-- SCHED_BAD.TABLE [30:28], RO, spec/12 R350. -/
def SCHED_BAD_TABLE : Fld :=
  { page := 0x52, off := 0x10c, lo := 28, width := 3, reset := 0, ka := false }
/-- SCHED_BAD.INDEX [12:0], RO, spec/12 R350. -/
def SCHED_BAD_INDEX : Fld :=
  { page := 0x52, off := 0x10c, lo := 0, width := 13, reset := 0, ka := false }
/-- SCHED_DRAINED.FERRIES [7:0], RO, spec/12 R350. -/
def SCHED_DRAINED_FERRIES : Fld :=
  { page := 0x52, off := 0x110, lo := 0, width := 8, reset := 0, ka := false }
/-- SCHED_MISS.VALID [31:31], RO, spec/12 R350. -/
def SCHED_MISS_VALID : Fld :=
  { page := 0x52, off := 0x114, lo := 31, width := 1, reset := 0, ka := false }
/-- SCHED_MISS.FERRY [7:5], RO, spec/12 R350. -/
def SCHED_MISS_FERRY : Fld :=
  { page := 0x52, off := 0x114, lo := 5, width := 3, reset := 0, ka := false }
/-- SCHED_MISS.LINK [4:0], RO, spec/12 R350. -/
def SCHED_MISS_LINK : Fld :=
  { page := 0x52, off := 0x114, lo := 0, width := 5, reset := 0, ka := false }
/-- SCHED_MISS_VERSION.VERSION [31:0], RO, spec/12 R350. -/
def SCHED_MISS_VERSION_VERSION : Fld :=
  { page := 0x52, off := 0x118, lo := 0, width := 32, reset := 0, ka := false }
/-- SCHED_LAND_RESET.INDEX [9:0], WO, spec/12 R350. -/
def SCHED_LAND_RESET_INDEX : Fld :=
  { page := 0x52, off := 0x11c, lo := 0, width := 10, reset := 0, ka := false }
/-- WEIR_LINK_CREDIT.CELLS [6:0], RW KA, spec/12 R351. -/
def WEIR_LINK_CREDIT_CELLS : Fld :=
  { page := 0x53, off := 0x100, lo := 0, width := 7, reset := 8, ka := true }
/-- WEIR_POOL_BASE.ADDR [31:0], RW KA, spec/12 R351. -/
def WEIR_POOL_BASE_ADDR : Fld :=
  { page := 0x53, off := 0x104, lo := 0, width := 32, reset := 0, ka := true }
/-- WEIR_POOL_CELLS.CELLS [13:0], RW KA, spec/12 R351. -/
def WEIR_POOL_CELLS_CELLS : Fld :=
  { page := 0x53, off := 0x108, lo := 0, width := 14, reset := 0, ka := true }
/-- WEIR_BATCH.CELLS [7:0], RW KA, spec/12 R351. -/
def WEIR_BATCH_CELLS : Fld :=
  { page := 0x53, off := 0x10c, lo := 0, width := 8, reset := 4, ka := true }
/-- WEIR_STALE.BELLS [31:0], RW KA, spec/12 R351. -/
def WEIR_STALE_BELLS : Fld :=
  { page := 0x53, off := 0x110, lo := 0, width := 32, reset := 4096, ka := true }
/-- WEIR_OPEN_BASE.ADDR [31:0], RW KA, spec/12 R351. -/
def WEIR_OPEN_BASE_ADDR : Fld :=
  { page := 0x53, off := 0x114, lo := 0, width := 32, reset := 0, ka := true }
/-- WEIR_OPEN_LIMIT.ADDR [31:0], RW KA, spec/12 R351. -/
def WEIR_OPEN_LIMIT_ADDR : Fld :=
  { page := 0x53, off := 0x118, lo := 0, width := 32, reset := 0, ka := true }
/-- WEIR_LINK.CREDIT [31:24], RO, spec/12 R351. -/
def WEIR_LINK_CREDIT (j : Nat) : Fld :=
  { page := 0x53, off := 0x200 + 4 * j, lo := 24, width := 8, reset := 0, ka := false }
/-- WEIR_LINK.RESERVED_CELLS [23:16], RO, spec/12 R351. -/
def WEIR_LINK_RESERVED_CELLS (j : Nat) : Fld :=
  { page := 0x53, off := 0x200 + 4 * j, lo := 16, width := 8, reset := 0, ka := false }
/-- WEIR_LINK.USED [15:8], RO, spec/12 R351. -/
def WEIR_LINK_USED (j : Nat) : Fld :=
  { page := 0x53, off := 0x200 + 4 * j, lo := 8, width := 8, reset := 0, ka := false }
/-- WEIR_LINK.WAITING [7:0], RO, spec/12 R351. -/
def WEIR_LINK_WAITING (j : Nat) : Fld :=
  { page := 0x53, off := 0x200 + 4 * j, lo := 0, width := 8, reset := 0, ka := false }
/-- CMD_CTRL.BREAK_RESUME [2:2], WO, spec/13 R377. -/
def CMD_CTRL_BREAK_RESUME : Fld :=
  { page := 0x50, off := 0x100, lo := 2, width := 1, reset := 0, ka := false }
/-- CMD_CTRL.RESUME [1:1], WO, spec/13 R377. -/
def CMD_CTRL_RESUME : Fld :=
  { page := 0x50, off := 0x100, lo := 1, width := 1, reset := 0, ka := false }
/-- CMD_CTRL.EN [0:0], RW, spec/13 R377. -/
def CMD_CTRL_EN : Fld :=
  { page := 0x50, off := 0x100, lo := 0, width := 1, reset := 0, ka := false }
/-- CMD_STATUS.CANCEL_DEPTH [20:16], RO, spec/13 R377. -/
def CMD_STATUS_CANCEL_DEPTH : Fld :=
  { page := 0x50, off := 0x104, lo := 16, width := 5, reset := 0, ka := false }
/-- CMD_STATUS.EVT_FULL [5:5], RO, spec/13 R377. -/
def CMD_STATUS_EVT_FULL : Fld :=
  { page := 0x50, off := 0x104, lo := 5, width := 1, reset := 0, ka := false }
/-- CMD_STATUS.WAIT_SLOT [4:4], RO, spec/13 R377. -/
def CMD_STATUS_WAIT_SLOT : Fld :=
  { page := 0x50, off := 0x104, lo := 4, width := 1, reset := 0, ka := false }
/-- CMD_STATUS.FAULT [3:3], RO, spec/13 R377. -/
def CMD_STATUS_FAULT : Fld :=
  { page := 0x50, off := 0x104, lo := 3, width := 1, reset := 0, ka := false }
/-- CMD_STATUS.BROKEN [2:2], RO, spec/13 R377. -/
def CMD_STATUS_BROKEN : Fld :=
  { page := 0x50, off := 0x104, lo := 2, width := 1, reset := 0, ka := false }
/-- CMD_STATUS.QUIET [1:1], RO, spec/13 R377. -/
def CMD_STATUS_QUIET : Fld :=
  { page := 0x50, off := 0x104, lo := 1, width := 1, reset := 1, ka := false }
/-- CMD_STATUS.ENABLED [0:0], RO, spec/13 R377. -/
def CMD_STATUS_ENABLED : Fld :=
  { page := 0x50, off := 0x104, lo := 0, width := 1, reset := 0, ka := false }
/-- CMD_BASE_LO.BASE [31:6], RW, spec/13 R377. -/
def CMD_BASE_LO_BASE : Fld :=
  { page := 0x50, off := 0x108, lo := 6, width := 26, reset := 0, ka := false }
/-- CMD_BASE_HI.BASE [7:0], RW, spec/13 R377. -/
def CMD_BASE_HI_BASE : Fld :=
  { page := 0x50, off := 0x10c, lo := 0, width := 8, reset := 0, ka := false }
/-- CMD_SIZE.SIZE [4:0], RW, spec/13 R377. -/
def CMD_SIZE_SIZE : Fld :=
  { page := 0x50, off := 0x110, lo := 0, width := 5, reset := 1, ka := false }
/-- CMD_HEAD.HEAD [15:0], RO, spec/13 R377. -/
def CMD_HEAD_HEAD : Fld :=
  { page := 0x50, off := 0x114, lo := 0, width := 16, reset := 0, ka := false }
/-- CMD_TAIL.TAIL [15:0], RW, spec/13 R377. -/
def CMD_TAIL_TAIL : Fld :=
  { page := 0x50, off := 0x118, lo := 0, width := 16, reset := 0, ka := false }
/-- EVT_BASE_LO.BASE [31:5], RW, spec/13 R377. -/
def EVT_BASE_LO_BASE : Fld :=
  { page := 0x50, off := 0x120, lo := 5, width := 27, reset := 0, ka := false }
/-- EVT_BASE_HI.BASE [7:0], RW, spec/13 R377. -/
def EVT_BASE_HI_BASE : Fld :=
  { page := 0x50, off := 0x124, lo := 0, width := 8, reset := 0, ka := false }
/-- EVT_SIZE.SIZE [4:0], RW, spec/13 R377. -/
def EVT_SIZE_SIZE : Fld :=
  { page := 0x50, off := 0x128, lo := 0, width := 5, reset := 1, ka := false }
/-- EVT_TAIL.PHASE [16:16], RO, spec/13 R377. -/
def EVT_TAIL_PHASE : Fld :=
  { page := 0x50, off := 0x12c, lo := 16, width := 1, reset := 1, ka := false }
/-- EVT_TAIL.TAIL [15:0], RO, spec/13 R377. -/
def EVT_TAIL_TAIL : Fld :=
  { page := 0x50, off := 0x12c, lo := 0, width := 16, reset := 0, ka := false }
/-- EVT_HEAD.HEAD [15:0], RW, spec/13 R377. -/
def EVT_HEAD_HEAD : Fld :=
  { page := 0x50, off := 0x130, lo := 0, width := 16, reset := 0, ka := false }
/-- CMD_CANCEL.TAG [31:0], WO, spec/13 R377. -/
def CMD_CANCEL_TAG : Fld :=
  { page := 0x50, off := 0x140, lo := 0, width := 32, reset := 0, ka := false }
/-- CMD_CANCEL_TTL.BELLS [15:0], RW KA, spec/13 R377. -/
def CMD_CANCEL_TTL_BELLS : Fld :=
  { page := 0x50, off := 0x144, lo := 0, width := 16, reset := 1024, ka := true }
/-- CMD_IRQ_MASK.MASK [31:0], RW, spec/13 R377. -/
def CMD_IRQ_MASK_MASK : Fld :=
  { page := 0x50, off := 0x150, lo := 0, width := 32, reset := 0, ka := false }
/-- CMD_IRQ_PENDING.PENDING [31:0], RO, spec/13 R377. -/
def CMD_IRQ_PENDING_PENDING : Fld :=
  { page := 0x50, off := 0x154, lo := 0, width := 32, reset := 0, ka := false }
/-- CMD_NOTICE_IRQ.EN [8:8], RW, spec/13 R377. -/
def CMD_NOTICE_IRQ_EN : Fld :=
  { page := 0x50, off := 0x158, lo := 8, width := 1, reset := 0, ka := false }
/-- CMD_NOTICE_IRQ.VECTOR [4:0], RW, spec/13 R377. -/
def CMD_NOTICE_IRQ_VECTOR : Fld :=
  { page := 0x50, off := 0x158, lo := 0, width := 5, reset := 0, ka := false }
/-- CMD_BREAK_CTRL.MODE [1:0], RW, spec/13 R377. -/
def CMD_BREAK_CTRL_MODE : Fld :=
  { page := 0x50, off := 0x160, lo := 0, width := 2, reset := 0, ka := false }
/-- CMD_BREAK_COUNT.COUNT [31:0], RW, spec/13 R377. -/
def CMD_BREAK_COUNT_COUNT : Fld :=
  { page := 0x50, off := 0x164, lo := 0, width := 32, reset := 0, ka := false }
/-- CMD_BREAK_TAG.TAG [31:0], RW, spec/13 R377. -/
def CMD_BREAK_TAG_TAG : Fld :=
  { page := 0x50, off := 0x168, lo := 0, width := 32, reset := 0, ka := false }
/-- CMD_PROG_STAGE_BASE.ADDR [31:0], RW KA, spec/13 R377. -/
def CMD_PROG_STAGE_BASE_ADDR : Fld :=
  { page := 0x50, off := 0x170, lo := 0, width := 32, reset := 0, ka := true }
/-- CMD_PROG_STAGE_SIZE.BYTES [31:0], RW KA, spec/13 R377. -/
def CMD_PROG_STAGE_SIZE_BYTES : Fld :=
  { page := 0x50, off := 0x174, lo := 0, width := 32, reset := 0, ka := true }
/-- CMD_FAULT.REASON [31:24], RO, spec/13 R377. -/
def CMD_FAULT_REASON : Fld :=
  { page := 0x50, off := 0x178, lo := 24, width := 8, reset := 0, ka := false }
/-- CMD_FAULT.ENTRY [15:0], RO, spec/13 R377. -/
def CMD_FAULT_ENTRY : Fld :=
  { page := 0x50, off := 0x178, lo := 0, width := 16, reset := 0, ka := false }
/-- TASK_SEL.SLOT [5:0], RW, spec/13 R378. -/
def TASK_SEL_SLOT (path : Nat) : Fld :=
  { page := 0x51, off := 0x110, lo := 0, width := 6, reset := 0, ka := false, idx := 2 + path }
/-- TALLY_INJ_SEL.TARGET [7:0], RW, spec/14 R395. -/
def TALLY_INJ_SEL_TARGET : Fld :=
  { page := 0x54, off := 0x100, lo := 0, width := 8, reset := 0, ka := false }
/-- TALLY_LAST.VALID [31:31], RO, spec/14 R395. -/
def TALLY_LAST_VALID : Fld :=
  { page := 0x54, off := 0x104, lo := 31, width := 1, reset := 0, ka := false }
/-- TALLY_LAST.WHERE [30:28], RO, spec/14 R395. -/
def TALLY_LAST_WHERE : Fld :=
  { page := 0x54, off := 0x104, lo := 28, width := 3, reset := 0, ka := false }
/-- TALLY_LAST.INJECTED [27:27], RO, spec/14 R395. -/
def TALLY_LAST_INJECTED : Fld :=
  { page := 0x54, off := 0x104, lo := 27, width := 1, reset := 0, ka := false }
/-- TALLY_LAST.BELL [23:0], RO, spec/14 R395. -/
def TALLY_LAST_BELL : Fld :=
  { page := 0x54, off := 0x104, lo := 0, width := 24, reset := 0, ka := false }
/-- TALLY_LAST_WHO.TASK_TAG [31:16], RO, spec/14 R395. -/
def TALLY_LAST_WHO_TASK_TAG : Fld :=
  { page := 0x54, off := 0x108, lo := 16, width := 16, reset := 0, ka := false }
/-- TALLY_LAST_WHO.PLACE [15:8], RO, spec/14 R395. -/
def TALLY_LAST_WHO_PLACE : Fld :=
  { page := 0x54, off := 0x108, lo := 8, width := 8, reset := 0, ka := false }
/-- TALLY_LAST_FLOW.KIND [23:20], RO, spec/14 R395. -/
def TALLY_LAST_FLOW_KIND : Fld :=
  { page := 0x54, off := 0x10c, lo := 20, width := 4, reset := 0, ka := false }
/-- TALLY_LAST_FLOW.FLOW [19:0], RO, spec/14 R395. -/
def TALLY_LAST_FLOW_FLOW : Fld :=
  { page := 0x54, off := 0x10c, lo := 0, width := 20, reset := 0, ka := false }
/-- TALLY_HALTED.ENTRIES [31:0], RO, spec/14 R395. -/
def TALLY_HALTED_ENTRIES (j : Nat) : Fld :=
  { page := 0x54, off := 0x200 + 4 * j, lo := 0, width := 32, reset := 0, ka := false }
/-- MILLER_STATUS.TAIL_ACTIVE [31:31], RO, spec/15 R417. -/
def MILLER_STATUS_TAIL_ACTIVE : Fld :=
  { page := 0x60, off := 0x100, lo := 31, width := 1, reset := 0, ka := false }
/-- MILLER_STATUS.HEAD_ACTIVE [30:30], RO, spec/15 R417. -/
def MILLER_STATUS_HEAD_ACTIVE : Fld :=
  { page := 0x60, off := 0x100, lo := 30, width := 1, reset := 0, ka := false }
/-- MILLER_STATUS.TAIL_SLOT [21:16], RO, spec/15 R417. -/
def MILLER_STATUS_TAIL_SLOT : Fld :=
  { page := 0x60, off := 0x100, lo := 16, width := 6, reset := 0, ka := false }
/-- MILLER_STATUS.HEAD_SLOT [13:8], RO, spec/15 R417. -/
def MILLER_STATUS_HEAD_SLOT : Fld :=
  { page := 0x60, off := 0x100, lo := 8, width := 6, reset := 0, ka := false }
/-- MILLER_STATUS.ROWS_BUSY [7:0], RO, spec/15 R417. -/
def MILLER_STATUS_ROWS_BUSY : Fld :=
  { page := 0x60, off := 0x100, lo := 0, width := 8, reset := 0, ka := false }
/-- MILLER_IMEM.FREE_KIB [8:0], RO, spec/15 R417. -/
def MILLER_IMEM_FREE_KIB : Fld :=
  { page := 0x60, off := 0x104, lo := 0, width := 9, reset := 256, ka := false }
/-- MILLER_PB_OVERLAY.BLOCKS [31:0], RO, spec/15 R417. -/
def MILLER_PB_OVERLAY_BLOCKS (j : Nat) : Fld :=
  { page := 0x60, off := 0x110 + 4 * j, lo := 0, width := 32, reset := 0, ka := false }
/-- MILLER_ERR_ADDR.VALID [31:31], RO, spec/15 R417. -/
def MILLER_ERR_ADDR_VALID : Fld :=
  { page := 0x60, off := 0x120, lo := 31, width := 1, reset := 0, ka := false }
/-- MILLER_ERR_ADDR.MEMORY [30:29], RO, spec/15 R417. -/
def MILLER_ERR_ADDR_MEMORY : Fld :=
  { page := 0x60, off := 0x120, lo := 29, width := 2, reset := 0, ka := false }
/-- MILLER_ERR_ADDR.UE [28:28], RO, spec/15 R417. -/
def MILLER_ERR_ADDR_UE : Fld :=
  { page := 0x60, off := 0x120, lo := 28, width := 1, reset := 0, ka := false }
/-- MILLER_ERR_ADDR.ADDR [19:0], RO, spec/15 R417. -/
def MILLER_ERR_ADDR_ADDR : Fld :=
  { page := 0x60, off := 0x120, lo := 0, width := 20, reset := 0, ka := false }
/-- MILL_BUDGET.BAND [12:11], RO, spec/15 R418. -/
def MILL_BUDGET_BAND : Fld :=
  { page := 0x61, off := 0x100, lo := 11, width := 2, reset := 0, ka := false }
/-- MILL_BUDGET.OWN_CYCLES [10:0], RO, spec/15 R418. -/
def MILL_BUDGET_OWN_CYCLES : Fld :=
  { page := 0x61, off := 0x100, lo := 0, width := 11, reset := 1280, ka := false }
/-- MILL_ROW_MODE.MODE [15:0], RO, spec/15 R418. -/
def MILL_ROW_MODE_MODE : Fld :=
  { page := 0x61, off := 0x104, lo := 0, width := 16, reset := 0, ka := false }
/-- MILL_ACC_HELD.VALID [31:31], RO, spec/15 R418. -/
def MILL_ACC_HELD_VALID (j : Nat) : Fld :=
  { page := 0x61, off := 0x110 + 4 * j, lo := 31, width := 1, reset := 0, ka := false }
/-- MILL_ACC_HELD.SLOT [5:0], RO, spec/15 R418. -/
def MILL_ACC_HELD_SLOT (j : Nat) : Fld :=
  { page := 0x61, off := 0x110 + 4 * j, lo := 0, width := 6, reset := 0, ka := false }
/-- MILL_CORE_SEL.CORE [6:0], RW, spec/15 R418. -/
def MILL_CORE_SEL_CORE (path : Nat) : Fld :=
  { page := 0x61, off := 0x140, lo := 0, width := 7, reset := 0, ka := false, idx := 2 + path }
/-- MILL_REGION_LAST.VALID [31:31], RO, spec/15 R418. -/
def MILL_REGION_LAST_VALID : Fld :=
  { page := 0x61, off := 0x148, lo := 31, width := 1, reset := 0, ka := false }
/-- MILL_REGION_LAST.SLOT [29:24], RO, spec/15 R418. -/
def MILL_REGION_LAST_SLOT : Fld :=
  { page := 0x61, off := 0x148, lo := 24, width := 6, reset := 0, ka := false }
/-- MILL_REGION_LAST.CORE [6:0], RO, spec/15 R418. -/
def MILL_REGION_LAST_CORE : Fld :=
  { page := 0x61, off := 0x148, lo := 0, width := 7, reset := 0, ka := false }
/-- MILL_REGION_ADDR.ADDR [31:0], RO, spec/15 R418. -/
def MILL_REGION_ADDR_ADDR : Fld :=
  { page := 0x61, off := 0x14c, lo := 0, width := 32, reset := 0, ka := false }
/-- GRANARY_LAST_ERR.VALID [31:31], RO, spec/15 R419. -/
def GRANARY_LAST_ERR_VALID : Fld :=
  { page := 0x62, off := 0x100, lo := 31, width := 1, reset := 0, ka := false }
/-- GRANARY_LAST_ERR.UE [30:30], RO, spec/15 R419. -/
def GRANARY_LAST_ERR_UE : Fld :=
  { page := 0x62, off := 0x100, lo := 30, width := 1, reset := 0, ka := false }
/-- GRANARY_LAST_ERR.SCRUB [29:29], RO, spec/15 R419. -/
def GRANARY_LAST_ERR_SCRUB : Fld :=
  { page := 0x62, off := 0x100, lo := 29, width := 1, reset := 0, ka := false }
/-- GRANARY_LAST_ERR.PORT [28:27], RO, spec/15 R419. -/
def GRANARY_LAST_ERR_PORT : Fld :=
  { page := 0x62, off := 0x100, lo := 27, width := 2, reset := 0, ka := false }
/-- GRANARY_LAST_ERR.BANK [7:0], RO, spec/15 R419. -/
def GRANARY_LAST_ERR_BANK : Fld :=
  { page := 0x62, off := 0x100, lo := 0, width := 8, reset := 0, ka := false }
/-- GRANARY_LAST_ADDR.ADDR [31:0], RO, spec/15 R419. -/
def GRANARY_LAST_ADDR_ADDR : Fld :=
  { page := 0x62, off := 0x104, lo := 0, width := 32, reset := 0, ka := false }
/-- GRANARY_INJ_SEL.BANK [7:0], RW, spec/15 R419. -/
def GRANARY_INJ_SEL_BANK : Fld :=
  { page := 0x62, off := 0x108, lo := 0, width := 8, reset := 0, ka := false }
/-- GRANARY_REMAP_THRESH.COUNT [7:0], RW KA, spec/15 R419. -/
def GRANARY_REMAP_THRESH_COUNT : Fld :=
  { page := 0x62, off := 0x10c, lo := 0, width := 8, reset := 4, ka := true }
/-- GRANARY_SPARES.LOW_BANK [7:0], RO, spec/15 R419. -/
def GRANARY_SPARES_LOW_BANK : Fld :=
  { page := 0x62, off := 0x110, lo := 0, width := 8, reset := 0, ka := false }
/-- GRANARY_SPARES_LEFT.ROWS [4:0], RO, spec/15 R419. -/
def GRANARY_SPARES_LEFT_ROWS : Fld :=
  { page := 0x62, off := 0x114, lo := 0, width := 5, reset := 0, ka := false }
/-- TRACE_CTRL.TRIG_EN [5:5], RW, spec/16 R450. -/
def TRACE_CTRL_TRIG_EN : Fld :=
  { page := 0x65, off := 0x100, lo := 5, width := 1, reset := 0, ka := false }
/-- TRACE_CTRL.ROW_FILTER [4:4], RW, spec/16 R450. -/
def TRACE_CTRL_ROW_FILTER : Fld :=
  { page := 0x65, off := 0x100, lo := 4, width := 1, reset := 0, ka := false }
/-- TRACE_CTRL.TAG_FILTER [3:3], RW, spec/16 R450. -/
def TRACE_CTRL_TAG_FILTER : Fld :=
  { page := 0x65, off := 0x100, lo := 3, width := 1, reset := 0, ka := false }
/-- TRACE_CTRL.STREAM [2:2], RW, spec/16 R450. -/
def TRACE_CTRL_STREAM : Fld :=
  { page := 0x65, off := 0x100, lo := 2, width := 1, reset := 0, ka := false }
/-- TRACE_CTRL.WRAP [1:1], RW, spec/16 R450. -/
def TRACE_CTRL_WRAP : Fld :=
  { page := 0x65, off := 0x100, lo := 1, width := 1, reset := 1, ka := false }
/-- TRACE_CTRL.EN [0:0], RW, spec/16 R450. -/
def TRACE_CTRL_EN : Fld :=
  { page := 0x65, off := 0x100, lo := 0, width := 1, reset := 0, ka := false }
/-- TRACE_STATUS.FROZEN [11:11], RO, spec/16 R450. -/
def TRACE_STATUS_FROZEN : Fld :=
  { page := 0x65, off := 0x104, lo := 11, width := 1, reset := 0, ka := false }
/-- TRACE_STATUS.FULL [10:10], RO, spec/16 R450. -/
def TRACE_STATUS_FULL : Fld :=
  { page := 0x65, off := 0x104, lo := 10, width := 1, reset := 0, ka := false }
/-- TRACE_STATUS.WRITE_PTR [9:0], RO, spec/16 R450. -/
def TRACE_STATUS_WRITE_PTR : Fld :=
  { page := 0x65, off := 0x104, lo := 0, width := 10, reset := 0, ka := false }
/-- TRACE_KINDS.KINDS [10:1], RW, spec/16 R450. -/
def TRACE_KINDS_KINDS : Fld :=
  { page := 0x65, off := 0x108, lo := 1, width := 10, reset := 1023, ka := false }
/-- TRACE_TAG.TAG [15:0], RW, spec/16 R450. -/
def TRACE_TAG_TAG : Fld :=
  { page := 0x65, off := 0x10c, lo := 0, width := 16, reset := 0, ka := false }
/-- TRACE_ROWS.ROWS [7:0], RW, spec/16 R450. -/
def TRACE_ROWS_ROWS : Fld :=
  { page := 0x65, off := 0x110, lo := 0, width := 8, reset := 255, ka := false }
/-- TRACE_TRIGGER.AFTER [31:22], RW, spec/16 R450. -/
def TRACE_TRIGGER_AFTER : Fld :=
  { page := 0x65, off := 0x114, lo := 22, width := 10, reset := 0, ka := false }
/-- TRACE_TRIGGER.TAG [15:0], RW, spec/16 R450. -/
def TRACE_TRIGGER_TAG : Fld :=
  { page := 0x65, off := 0x114, lo := 0, width := 16, reset := 0, ka := false }
/-- TRACE_TRIG_STEP.STEP [15:0], RW, spec/16 R450. -/
def TRACE_TRIG_STEP_STEP : Fld :=
  { page := 0x65, off := 0x118, lo := 0, width := 16, reset := 0, ka := false }
/-- TRACE_STREAM_LO.ADDR [31:12], RW, spec/16 R450. -/
def TRACE_STREAM_LO_ADDR : Fld :=
  { page := 0x65, off := 0x11c, lo := 12, width := 20, reset := 0, ka := false }
/-- TRACE_STREAM_HI.ADDR [7:0], RW, spec/16 R450. -/
def TRACE_STREAM_HI_ADDR : Fld :=
  { page := 0x65, off := 0x120, lo := 0, width := 8, reset := 0, ka := false }
/-- TRACE_STREAM_SIZE.KIB4 [31:12], RW, spec/16 R450. -/
def TRACE_STREAM_SIZE_KIB4 : Fld :=
  { page := 0x65, off := 0x124, lo := 12, width := 20, reset := 0, ka := false }
/-- TRACE_FAULT_LO.STEP [31:16], RO, spec/16 R450. -/
def TRACE_FAULT_LO_STEP : Fld :=
  { page := 0x65, off := 0x128, lo := 16, width := 16, reset := 0, ka := false }
/-- TRACE_FAULT_LO.TASK_TAG [15:0], RO, spec/16 R450. -/
def TRACE_FAULT_LO_TASK_TAG : Fld :=
  { page := 0x65, off := 0x128, lo := 0, width := 16, reset := 0, ka := false }
/-- TRACE_FAULT_HI.VALID [31:31], RO, spec/16 R450. -/
def TRACE_FAULT_HI_VALID : Fld :=
  { page := 0x65, off := 0x12c, lo := 31, width := 1, reset := 0, ka := false }
/-- TRACE_FAULT_HI.PB [30:30], RO, spec/16 R450. -/
def TRACE_FAULT_HI_PB : Fld :=
  { page := 0x65, off := 0x12c, lo := 30, width := 1, reset := 0, ka := false }
/-- TRACE_FAULT_HI.SLOT [25:20], RO, spec/16 R450. -/
def TRACE_FAULT_HI_SLOT : Fld :=
  { page := 0x65, off := 0x12c, lo := 20, width := 6, reset := 0, ka := false }
/-- TRACE_FAULT_HI.WORD [19:0], RO, spec/16 R450. -/
def TRACE_FAULT_HI_WORD : Fld :=
  { page := 0x65, off := 0x12c, lo := 0, width := 20, reset := 0, ka := false }
/-- SIEVE_CTRL.NAN [0:0], RW KA, spec/18 R495. -/
def SIEVE_CTRL_NAN : Fld :=
  { page := 0x63, off := 0x100, lo := 0, width := 1, reset := 0, ka := true }
/-- SIEVE_LAST.VALID [31:31], RO, spec/18 R495. -/
def SIEVE_LAST_VALID : Fld :=
  { page := 0x63, off := 0x104, lo := 31, width := 1, reset := 0, ka := false }
/-- SIEVE_LAST.KIND [30:30], RO, spec/18 R495. -/
def SIEVE_LAST_KIND : Fld :=
  { page := 0x63, off := 0x104, lo := 30, width := 1, reset := 0, ka := false }
/-- SIEVE_LAST.SLOT [21:16], RO, spec/18 R495. -/
def SIEVE_LAST_SLOT : Fld :=
  { page := 0x63, off := 0x104, lo := 16, width := 6, reset := 0, ka := false }
/-- SIEVE_LAST.ROW [15:0], RO, spec/18 R495. -/
def SIEVE_LAST_ROW : Fld :=
  { page := 0x63, off := 0x104, lo := 0, width := 16, reset := 0, ka := false }
/-- LOOM_STATUS.TASKS_BANK1 [23:16], RO, spec/19 R516. -/
def LOOM_STATUS_TASKS_BANK1 : Fld :=
  { page := 0x64, off := 0x100, lo := 16, width := 8, reset := 0, ka := false }
/-- LOOM_STATUS.TASKS_BANK0 [15:8], RO, spec/19 R516. -/
def LOOM_STATUS_TASKS_BANK0 : Fld :=
  { page := 0x64, off := 0x100, lo := 8, width := 8, reset := 0, ka := false }
/-- LOOM_STATUS.ACTIVE_BANK [0:0], RO, spec/19 R516. -/
def LOOM_STATUS_ACTIVE_BANK : Fld :=
  { page := 0x64, off := 0x100, lo := 0, width := 1, reset := 0, ka := false }
/-- LOOM_PWL_SEL.TABLE [3:0], RW, spec/19 R516. -/
def LOOM_PWL_SEL_TABLE (path : Nat) : Fld :=
  { page := 0x64, off := 0x104, lo := 0, width := 4, reset := 0, ka := false, idx := 2 + path }
/-- LOOM_LAST.VALID [31:31], RO, spec/19 R516. -/
def LOOM_LAST_VALID : Fld :=
  { page := 0x64, off := 0x108, lo := 31, width := 1, reset := 0, ka := false }
/-- LOOM_LAST.KIND [30:28], RO, spec/19 R516. -/
def LOOM_LAST_KIND : Fld :=
  { page := 0x64, off := 0x108, lo := 28, width := 3, reset := 0, ka := false }
/-- LOOM_LAST.SLOT [5:0], RO, spec/19 R516. -/
def LOOM_LAST_SLOT : Fld :=
  { page := 0x64, off := 0x108, lo := 0, width := 6, reset := 0, ka := false }
/-- TELEM_CTRL.DIGEST_EPOCHS [31:16], RW KA, spec/20 R532. -/
def TELEM_CTRL_DIGEST_EPOCHS : Fld :=
  { page := 0x7, off := 0x100, lo := 16, width := 16, reset := 0, ka := true }
/-- TELEM_CTRL.RING_EN [0:0], RW KA, spec/20 R532. -/
def TELEM_CTRL_RING_EN : Fld :=
  { page := 0x7, off := 0x100, lo := 0, width := 1, reset := 0, ka := true }
/-- TELEM_STATUS.SEQ [31:16], RO, spec/20 R532. -/
def TELEM_STATUS_SEQ : Fld :=
  { page := 0x7, off := 0x104, lo := 16, width := 16, reset := 0, ka := false }
/-- TELEM_RING_LO.ADDR [31:8], RW KA, spec/20 R532. -/
def TELEM_RING_LO_ADDR : Fld :=
  { page := 0x7, off := 0x108, lo := 8, width := 24, reset := 0, ka := true }
/-- TELEM_RING_HI.ADDR [7:0], RW KA, spec/20 R532. -/
def TELEM_RING_HI_ADDR : Fld :=
  { page := 0x7, off := 0x10c, lo := 0, width := 8, reset := 0, ka := true }
/-- TELEM_RING_SIZE.SIZE [4:0], RW KA, spec/20 R532. -/
def TELEM_RING_SIZE_SIZE : Fld :=
  { page := 0x7, off := 0x110, lo := 0, width := 5, reset := 1, ka := true }
/-- TELEM_COLLECTOR.NODE [19:0], RW KA, spec/20 R532. -/
def TELEM_COLLECTOR_NODE : Fld :=
  { page := 0x7, off := 0x114, lo := 0, width := 20, reset := 0, ka := true }
/-- TELEM_COLLECT_BASE.ADDR [31:0], RW KA, spec/20 R532. -/
def TELEM_COLLECT_BASE_ADDR : Fld :=
  { page := 0x7, off := 0x118, lo := 0, width := 32, reset := 0, ka := true }
/-- TELEM_COLLECT_CELLS.CELLS [3:0], RW KA, spec/20 R532. -/
def TELEM_COLLECT_CELLS_CELLS : Fld :=
  { page := 0x7, off := 0x11c, lo := 0, width := 4, reset := 0, ka := true }
/-- TELEM_AGE_WARN.PERCENT [7:0], RW KA, spec/20 R532. -/
def TELEM_AGE_WARN_PERCENT : Fld :=
  { page := 0x7, off := 0x120, lo := 0, width := 8, reset := 10, ka := true }
/-- TELEM_AGE_SEL.SOURCE [5:5], RW, spec/20 R532. -/
def TELEM_AGE_SEL_SOURCE (path : Nat) : Fld :=
  { page := 0x7, off := 0x124, lo := 5, width := 1, reset := 0, ka := false, idx := 2 + path }
/-- TELEM_AGE_SEL.LINE [4:0], RW, spec/20 R532. -/
def TELEM_AGE_SEL_LINE (path : Nat) : Fld :=
  { page := 0x7, off := 0x124, lo := 0, width := 5, reset := 0, ka := false, idx := 2 + path }
/-- TELEM_AGE_RESET.SEL [5:0], WO, spec/20 R532. -/
def TELEM_AGE_RESET_SEL : Fld :=
  { page := 0x7, off := 0x12c, lo := 0, width := 6, reset := 0, ka := false }
/-- CALIB_REQ.KEY [15:8], WO, spec/20 R532. -/
def CALIB_REQ_KEY : Fld :=
  { page := 0x7, off := 0x130, lo := 8, width := 8, reset := 0, ka := false }
/-- CALIB_REQ.FERRY [7:5], WO, spec/20 R532. -/
def CALIB_REQ_FERRY : Fld :=
  { page := 0x7, off := 0x130, lo := 5, width := 3, reset := 0, ka := false }
/-- CALIB_REQ.ALL [4:4], WO, spec/20 R532. -/
def CALIB_REQ_ALL : Fld :=
  { page := 0x7, off := 0x130, lo := 4, width := 1, reset := 0, ka := false }
/-- CALIB_REQ.KIND [3:0], WO, spec/20 R532. -/
def CALIB_REQ_KIND : Fld :=
  { page := 0x7, off := 0x130, lo := 0, width := 4, reset := 0, ka := false }
/-- CALIB_LINKS.LINKS [31:0], RW, spec/20 R532. -/
def CALIB_LINKS_LINKS : Fld :=
  { page := 0x7, off := 0x134, lo := 0, width := 32, reset := 0, ka := false }
/-- CALIB_BELLS.BELLS [11:0], RW, spec/20 R532. -/
def CALIB_BELLS_BELLS : Fld :=
  { page := 0x7, off := 0x138, lo := 0, width := 12, reset := 1024, ka := false }
/-- CALIB_STATUS.KIND [31:28], RO, spec/20 R532. -/
def CALIB_STATUS_KIND : Fld :=
  { page := 0x7, off := 0x13c, lo := 28, width := 4, reset := 0, ka := false }
/-- CALIB_STATUS.FERRY [27:25], RO, spec/20 R532. -/
def CALIB_STATUS_FERRY : Fld :=
  { page := 0x7, off := 0x13c, lo := 25, width := 3, reset := 0, ka := false }
/-- CALIB_STATUS.RESULT [24:22], RO, spec/20 R532. -/
def CALIB_STATUS_RESULT : Fld :=
  { page := 0x7, off := 0x13c, lo := 22, width := 3, reset := 0, ka := false }
/-- CALIB_STATUS.PENDING [4:0], RO, spec/20 R532. -/
def CALIB_STATUS_PENDING : Fld :=
  { page := 0x7, off := 0x13c, lo := 0, width := 5, reset := 0, ka := false }
/-- TELEM_BIST_SEL.LINK [4:0], RW, spec/20 R532. -/
def TELEM_BIST_SEL_LINK (path : Nat) : Fld :=
  { page := 0x7, off := 0x140, lo := 0, width := 5, reset := 0, ka := false, idx := 2 + path }
/-- TELEM_REC.WORD [31:0], RO, spec/20 R532. -/
def TELEM_REC_WORD (j : Nat) : Fld :=
  { page := 0x7, off := 0x400 + 4 * j, lo := 0, width := 32, reset := 0, ka := false }
/-- ALARM_SUMMARY.ANY_FATAL [31:31], RO, spec/21 R557. -/
def ALARM_SUMMARY_ANY_FATAL : Fld :=
  { page := 0x5, off := 0x100, lo := 31, width := 1, reset := 0, ka := false }
/-- ALARM_SUMMARY.ANY_DEFERRED [30:30], RO, spec/21 R557. -/
def ALARM_SUMMARY_ANY_DEFERRED : Fld :=
  { page := 0x5, off := 0x100, lo := 30, width := 1, reset := 0, ka := false }
/-- ALARM_SUMMARY.BLOCKS [29:0], W1C, spec/21 R557. -/
def ALARM_SUMMARY_BLOCKS : Fld :=
  { page := 0x5, off := 0x100, lo := 0, width := 30, reset := 0, ka := false }
/-- ALARM_CTRL.HOLD [1:1], RW KA, spec/21 R557. -/
def ALARM_CTRL_HOLD : Fld :=
  { page := 0x5, off := 0x104, lo := 1, width := 1, reset := 1, ka := true }
/-- ALARM_CTRL.DRIVE_EN [0:0], RW KA, spec/21 R557. -/
def ALARM_CTRL_DRIVE_EN : Fld :=
  { page := 0x5, off := 0x104, lo := 0, width := 1, reset := 1, ka := true }
/-- ALARM_RELEASE.RELEASE [0:0], WO, spec/21 R557. -/
def ALARM_RELEASE_RELEASE : Fld :=
  { page := 0x5, off := 0x108, lo := 0, width := 1, reset := 0, ka := false }
/-- ALARM_STATUS.RELEASE_PENDING [5:5], RO KA, spec/21 R557. -/
def ALARM_STATUS_RELEASE_PENDING : Fld :=
  { page := 0x5, off := 0x10c, lo := 5, width := 1, reset := 0, ka := true }
/-- ALARM_STATUS.MIN_RUNNING [4:4], RO KA, spec/21 R557. -/
def ALARM_STATUS_MIN_RUNNING : Fld :=
  { page := 0x5, off := 0x10c, lo := 4, width := 1, reset := 0, ka := true }
/-- ALARM_STATUS.WOULD_DRIVE [3:3], RO KA, spec/21 R557. -/
def ALARM_STATUS_WOULD_DRIVE : Fld :=
  { page := 0x5, off := 0x10c, lo := 3, width := 1, reset := 0, ka := true }
/-- ALARM_STATUS.EXT_LOW [2:2], RO, spec/21 R557. -/
def ALARM_STATUS_EXT_LOW : Fld :=
  { page := 0x5, off := 0x10c, lo := 2, width := 1, reset := 0, ka := false }
/-- ALARM_STATUS.PIN [1:1], RO, spec/21 R557. -/
def ALARM_STATUS_PIN : Fld :=
  { page := 0x5, off := 0x10c, lo := 1, width := 1, reset := 1, ka := false }
/-- ALARM_STATUS.DRIVING [0:0], RO KA, spec/21 R557. -/
def ALARM_STATUS_DRIVING : Fld :=
  { page := 0x5, off := 0x10c, lo := 0, width := 1, reset := 0, ka := true }
/-- ALARM_REACT.WARM [5:5], RW KA, spec/21 R557. -/
def ALARM_REACT_WARM (j : Nat) : Fld :=
  { page := 0x5, off := 0x110 + 4 * j, lo := 5, width := 1, reset := ([0, 0, 0, 0, 0]).getD j 0, ka := true }
/-- ALARM_REACT.FREEZE [4:4], RW KA, spec/21 R557. -/
def ALARM_REACT_FREEZE (j : Nat) : Fld :=
  { page := 0x5, off := 0x110 + 4 * j, lo := 4, width := 1, reset := ([0, 0, 0, 0, 1]).getD j 0, ka := true }
/-- ALARM_REACT.ALARM_N [3:3], RW KA, spec/21 R557. -/
def ALARM_REACT_ALARM_N (j : Nat) : Fld :=
  { page := 0x5, off := 0x110 + 4 * j, lo := 3, width := 1, reset := ([0, 0, 0, 1, 1]).getD j 0, ka := true }
/-- ALARM_REACT.IRQ [2:2], RW KA, spec/21 R557. -/
def ALARM_REACT_IRQ (j : Nat) : Fld :=
  { page := 0x5, off := 0x110 + 4 * j, lo := 2, width := 1, reset := ([0, 1, 1, 1, 1]).getD j 0, ka := true }
/-- ALARM_REACT.EVENT [1:1], RW KA, spec/21 R557. -/
def ALARM_REACT_EVENT (j : Nat) : Fld :=
  { page := 0x5, off := 0x110 + 4 * j, lo := 1, width := 1, reset := ([0, 1, 1, 1, 1]).getD j 0, ka := true }
/-- ALARM_REACT.LOG [0:0], RO, spec/21 R557. -/
def ALARM_REACT_LOG (j : Nat) : Fld :=
  { page := 0x5, off := 0x110 + 4 * j, lo := 0, width := 1, reset := 1, ka := false }
/-- ALARM_IRQ.EN [8:8], RW KA, spec/21 R557. -/
def ALARM_IRQ_EN : Fld :=
  { page := 0x5, off := 0x130, lo := 8, width := 1, reset := 0, ka := true }
/-- ALARM_IRQ.VECTOR [4:0], RW KA, spec/21 R557. -/
def ALARM_IRQ_VECTOR : Fld :=
  { page := 0x5, off := 0x130, lo := 0, width := 5, reset := 0, ka := true }
/-- ALARM_STUCK_LIMIT.BELLS [31:0], RW KA, spec/21 R557. -/
def ALARM_STUCK_LIMIT_BELLS : Fld :=
  { page := 0x5, off := 0x134, lo := 0, width := 32, reset := 1024, ka := true }
/-- ALARM_RESET.CLEAR [8:8], WO, spec/21 R557. -/
def ALARM_RESET_CLEAR : Fld :=
  { page := 0x5, off := 0x138, lo := 8, width := 1, reset := 0, ka := false }
/-- ALARM_RESET.LIMIT [7:4], RW KA, spec/21 R557. -/
def ALARM_RESET_LIMIT : Fld :=
  { page := 0x5, off := 0x138, lo := 4, width := 4, reset := 3, ka := true }
/-- ALARM_RESET.COUNT [3:0], RO KA, spec/21 R557. -/
def ALARM_RESET_COUNT : Fld :=
  { page := 0x5, off := 0x138, lo := 0, width := 4, reset := 0, ka := true }
/-- ALARM_LAST.VALID [31:31], RO, spec/21 R557. -/
def ALARM_LAST_VALID : Fld :=
  { page := 0x5, off := 0x13c, lo := 31, width := 1, reset := 0, ka := false }
/-- ALARM_LAST.CLASS [30:28], RO, spec/21 R557. -/
def ALARM_LAST_CLASS : Fld :=
  { page := 0x5, off := 0x13c, lo := 28, width := 3, reset := 0, ka := false }
/-- ALARM_LAST.BIT [27:23], RO, spec/21 R557. -/
def ALARM_LAST_BIT : Fld :=
  { page := 0x5, off := 0x13c, lo := 23, width := 5, reset := 0, ka := false }
/-- ALARM_LAST.PAGE [22:15], RO, spec/21 R557. -/
def ALARM_LAST_PAGE : Fld :=
  { page := 0x5, off := 0x13c, lo := 15, width := 8, reset := 0, ka := false }
/-- ALARM_LAST.BELL [14:0], RO, spec/21 R557. -/
def ALARM_LAST_BELL : Fld :=
  { page := 0x5, off := 0x13c, lo := 0, width := 15, reset := 0, ka := false }
/-- LEDGER_CTRL.GASP_CLEAR [2:2], WO, spec/21 R558. -/
def LEDGER_CTRL_GASP_CLEAR : Fld :=
  { page := 0x6, off := 0x100, lo := 2, width := 1, reset := 0, ka := false }
/-- LEDGER_CTRL.BIST [1:1], WO, spec/21 R558. -/
def LEDGER_CTRL_BIST : Fld :=
  { page := 0x6, off := 0x100, lo := 1, width := 1, reset := 0, ka := false }
/-- LEDGER_CTRL.WRAP [0:0], RW KA, spec/21 R558. -/
def LEDGER_CTRL_WRAP : Fld :=
  { page := 0x6, off := 0x100, lo := 0, width := 1, reset := 1, ka := true }
/-- LEDGER_REARM.KEY [15:8], WO, spec/21 R558. -/
def LEDGER_REARM_KEY : Fld :=
  { page := 0x6, off := 0x104, lo := 8, width := 8, reset := 0, ka := false }
/-- LEDGER_REARM.REARM [0:0], WO, spec/21 R558. -/
def LEDGER_REARM_REARM : Fld :=
  { page := 0x6, off := 0x104, lo := 0, width := 1, reset := 0, ka := false }
/-- LEDGER_STATUS.GASP_USED [8:5], RO KA, spec/21 R558. -/
def LEDGER_STATUS_GASP_USED : Fld :=
  { page := 0x6, off := 0x108, lo := 5, width := 4, reset := 0, ka := true }
/-- LEDGER_STATUS.BIST_PASS [4:4], RO KA, spec/21 R558. -/
def LEDGER_STATUS_BIST_PASS : Fld :=
  { page := 0x6, off := 0x108, lo := 4, width := 1, reset := 0, ka := true }
/-- LEDGER_STATUS.BIST_BUSY [3:3], RO, spec/21 R558. -/
def LEDGER_STATUS_BIST_BUSY : Fld :=
  { page := 0x6, off := 0x108, lo := 3, width := 1, reset := 0, ka := false }
/-- LEDGER_STATUS.FULL [2:2], RO, spec/21 R558. -/
def LEDGER_STATUS_FULL : Fld :=
  { page := 0x6, off := 0x108, lo := 2, width := 1, reset := 0, ka := false }
/-- LEDGER_STATUS.OVERFLOW [1:1], RO, spec/21 R558. -/
def LEDGER_STATUS_OVERFLOW : Fld :=
  { page := 0x6, off := 0x108, lo := 1, width := 1, reset := 0, ka := false }
/-- LEDGER_STATUS.LOST [0:0], RO KA, spec/21 R558. -/
def LEDGER_STATUS_LOST : Fld :=
  { page := 0x6, off := 0x108, lo := 0, width := 1, reset := 0, ka := true }
/-- LEDGER_WP.INDEX [10:0], RO KA, spec/21 R558. -/
def LEDGER_WP_INDEX : Fld :=
  { page := 0x6, off := 0x10c, lo := 0, width := 11, reset := 0, ka := true }
/-- LEDGER_RP.INDEX [10:0], RW KA, spec/21 R558. -/
def LEDGER_RP_INDEX : Fld :=
  { page := 0x6, off := 0x110, lo := 0, width := 11, reset := 0, ka := true }
/-- LEDGER_SEQ.SEQ [31:0], RO KA, spec/21 R558. -/
def LEDGER_SEQ_SEQ : Fld :=
  { page := 0x6, off := 0x114, lo := 0, width := 32, reset := 1, ka := true }
/-- LEDGER_LOST_ADDR.INDEX [10:0], RO KA, spec/21 R558. -/
def LEDGER_LOST_ADDR_INDEX : Fld :=
  { page := 0x6, off := 0x118, lo := 0, width := 11, reset := 0, ka := true }
/-- MGMT_SMB_CTRL.PEC_REQ [2:2], RW KA, spec/22 R580. -/
def MGMT_SMB_CTRL_PEC_REQ : Fld :=
  { page := 0x8, off := 0x100, lo := 2, width := 1, reset := 0, ka := true }
/-- MGMT_SMB_CTRL.ALERT_MBX [1:1], RW KA, spec/22 R580. -/
def MGMT_SMB_CTRL_ALERT_MBX : Fld :=
  { page := 0x8, off := 0x100, lo := 1, width := 1, reset := 1, ka := true }
/-- MGMT_SMB_CTRL.ALERT_EN [0:0], RW KA, spec/22 R580. -/
def MGMT_SMB_CTRL_ALERT_EN : Fld :=
  { page := 0x8, off := 0x100, lo := 0, width := 1, reset := 0, ka := true }
/-- MGMT_SMB_STATUS.ALERT [8:8], RO, spec/22 R580. -/
def MGMT_SMB_STATUS_ALERT : Fld :=
  { page := 0x8, off := 0x104, lo := 8, width := 1, reset := 0, ka := false }
/-- MGMT_SMB_STATUS.ADDR [6:0], RO, spec/22 R580. -/
def MGMT_SMB_STATUS_ADDR : Fld :=
  { page := 0x8, off := 0x104, lo := 0, width := 7, reset := 96, ka := false }
/-- MGMT_UART_CTRL.LOG_EN [3:3], RW KA, spec/22 R580. -/
def MGMT_UART_CTRL_LOG_EN : Fld :=
  { page := 0x8, off := 0x108, lo := 3, width := 1, reset := 1, ka := true }
/-- MGMT_UART_CTRL.ECHO [2:2], RW KA, spec/22 R580. -/
def MGMT_UART_CTRL_ECHO : Fld :=
  { page := 0x8, off := 0x108, lo := 2, width := 1, reset := 1, ka := true }
/-- MGMT_UART_CTRL.WRITE_EN [1:1], RW KA, spec/22 R580. -/
def MGMT_UART_CTRL_WRITE_EN : Fld :=
  { page := 0x8, off := 0x108, lo := 1, width := 1, reset := 0, ka := true }
/-- MGMT_UART_CTRL.EN [0:0], RW KA, spec/22 R580. -/
def MGMT_UART_CTRL_EN : Fld :=
  { page := 0x8, off := 0x108, lo := 0, width := 1, reset := 1, ka := true }
/-- MGMT_UART_DIV.DIV [10:0], RW KA, spec/22 R580. -/
def MGMT_UART_DIV_DIV : Fld :=
  { page := 0x8, off := 0x10c, lo := 0, width := 11, reset := 170, ka := true }
/-- MGMT_UART_STATUS.TX_LEVEL [31:24], RO, spec/22 R580. -/
def MGMT_UART_STATUS_TX_LEVEL : Fld :=
  { page := 0x8, off := 0x110, lo := 24, width := 8, reset := 0, ka := false }
/-- MGMT_UART_STATUS.RX_LEVEL [15:8], RO, spec/22 R580. -/
def MGMT_UART_STATUS_RX_LEVEL : Fld :=
  { page := 0x8, off := 0x110, lo := 8, width := 8, reset := 0, ka := false }
/-- MGMT_UART_STATUS.HIGH_WAIT [1:1], RO, spec/22 R580. -/
def MGMT_UART_STATUS_HIGH_WAIT : Fld :=
  { page := 0x8, off := 0x110, lo := 1, width := 1, reset := 0, ka := false }
/-- MGMT_UART_STATUS.BREAK [0:0], RO, spec/22 R580. -/
def MGMT_UART_STATUS_BREAK : Fld :=
  { page := 0x8, off := 0x110, lo := 0, width := 1, reset := 0, ka := false }
/-- MGMT_MBX_STATUS.SUB_EVERY [31:16], RO, spec/22 R580. -/
def MGMT_MBX_STATUS_SUB_EVERY : Fld :=
  { page := 0x8, off := 0x114, lo := 16, width := 16, reset := 0, ka := false }
/-- MGMT_MBX_STATUS.UART_Q [11:8], RO, spec/22 R580. -/
def MGMT_MBX_STATUS_UART_Q : Fld :=
  { page := 0x8, off := 0x114, lo := 8, width := 4, reset := 0, ka := false }
/-- MGMT_MBX_STATUS.SMB_Q [7:4], RO, spec/22 R580. -/
def MGMT_MBX_STATUS_SMB_Q : Fld :=
  { page := 0x8, off := 0x114, lo := 4, width := 4, reset := 0, ka := false }
/-- MGMT_MBX_STATUS.MGMT_Q [3:0], RO, spec/22 R580. -/
def MGMT_MBX_STATUS_MGMT_Q : Fld :=
  { page := 0x8, off := 0x114, lo := 0, width := 4, reset := 0, ka := false }
/-- MGMT_JTAG_STATUS.TLR [9:9], RO, spec/22 R580. -/
def MGMT_JTAG_STATUS_TLR : Fld :=
  { page := 0x8, off := 0x118, lo := 9, width := 1, reset := 1, ka := false }
/-- MGMT_JTAG_STATUS.REFUSED [8:8], RO, spec/22 R580. -/
def MGMT_JTAG_STATUS_REFUSED : Fld :=
  { page := 0x8, off := 0x118, lo := 8, width := 1, reset := 0, ka := false }
/-- MGMT_JTAG_STATUS.IR [7:0], RO, spec/22 R580. -/
def MGMT_JTAG_STATUS_IR : Fld :=
  { page := 0x8, off := 0x118, lo := 0, width := 8, reset := 1, ka := false }
/-- FERRY_FEC_CORRj (0x200 + 8j) of the CNT page, RC, saturating, spec/10 R298. -/
def FERRY_FEC_CORR (f j : Nat) : Fld :=
  { page := 0x22 + 4 * f, off := 0x200 + 8 * j, lo := 0, width := 32, reset := 0, ka := false }
/-- FERRY_FEC_UNCj (0x204 + 8j) of the CNT page, RC, saturating, spec/10 R298. -/
def FERRY_FEC_UNC (f j : Nat) : Fld :=
  { page := 0x22 + 4 * f, off := 0x204 + 8 * j, lo := 0, width := 32, reset := 0, ka := false }
/-- BOOT_FLASH_DATA word k (0x200 + 4k), RW, spec/05 R152. -/
def BOOT_FLASH_DATA (k : Nat) : Fld :=
  { page := 0x3, off := 0x200 + 4 * k, lo := 0, width := 32, reset := 0, ka := false }
/-- LANTERN_ID_x word k (0x600 + 0x20x + 4k), the identity records, RO, spec/07 R198. -/
def LANTERN_ID (x k : Nat) : Fld :=
  { page := 0x9, off := 0x600 + 32 * x + 4 * k, lo := 0, width := 32, reset := 0, ka := false }

end Sys2Proof.Machine.Reg
end

