-- ==== Sys2Proof/Machine/Names.lean ====
section
/-! DEFINITION. Sys2Proof/Machine/Names.lean: the counters and the error bits of every page under the spec's names,
with each error bit's default class, and the tables that list them. -/

namespace Sys2Proof.Machine.Ctr

/-- Counter 0 of the TOP page, spec R120. -/
def TOP_UNMAPPED_ACCESSES : Ctr := { page := 0x0, n := 0, ka := false }
/-- Counter 1 of the TOP page, spec R120. -/
def TOP_WARM_RESETS : Ctr := { page := 0x0, n := 1, ka := true }
/-- Counter 2 of the TOP page, spec R120. -/
def TOP_FUNCTION_RESETS : Ctr := { page := 0x0, n := 2, ka := true }
/-- Counter 3 of the TOP page, spec R120. -/
def TOP_DEVICE_SWAPS : Ctr := { page := 0x0, n := 3, ka := false }
/-- Counter 0 of the BELL page, spec R66. -/
def BELL_JOIN_ATTEMPTS : Ctr := { page := 0x1, n := 0, ka := false }
/-- Counter 1 of the BELL page, spec R66. -/
def BELL_PARENT_CHANGES : Ctr := { page := 0x1, n := 1, ka := false }
/-- Counter 2 of the BELL page, spec R66. -/
def BELL_HOLDOVER_BELLS : Ctr := { page := 0x1, n := 2, ka := false }
/-- Counter 3 of the BELL page, spec R66. -/
def BELL_ELASTIC_SLIPS : Ctr := { page := 0x1, n := 3, ka := false }
/-- Counter 4 of the BELL page, spec R66. -/
def BELL_OVERRUN_STEPS : Ctr := { page := 0x1, n := 4, ka := false }
/-- Counter 5 of the BELL page, spec R66. -/
def BELL_PPS_EDGES : Ctr := { page := 0x1, n := 5, ka := false }
/-- Counter 6 of the BELL page, spec R66. -/
def BELL_PPS_REJECTED : Ctr := { page := 0x1, n := 6, ka := false }
/-- Counter 7 of the BELL page, spec R66. -/
def BELL_JOIN_STEPS : Ctr := { page := 0x1, n := 7, ka := false }
/-- Counter 0 of the CLK page, spec R67. -/
def CLK_PLL_UNLOCKS : Ctr := { page := 0x2, n := 0, ka := false }
/-- Counter 0 of the BOOT page, spec R151. -/
def BOOT_STEP_FAILURES : Ctr := { page := 0x3, n := 0, ka := false }
/-- Counter 1 of the BOOT page, spec R151. -/
def BOOT_IMAGE_AUTH_FAILURES : Ctr := { page := 0x3, n := 1, ka := false }
/-- Counter 2 of the BOOT page, spec R151. -/
def BOOT_ALMANAC_COMMITS : Ctr := { page := 0x3, n := 2, ka := false }
/-- Counter 3 of the BOOT page, spec R151. -/
def BOOT_FLASH_WINDOW_OPS : Ctr := { page := 0x3, n := 3, ka := false }
/-- Counter 4 of the BOOT page, spec R151. -/
def BOOT_RELOCK_FERRIES : Ctr := { page := 0x3, n := 4, ka := false }
/-- Counter 5 of the BOOT page, spec R151. -/
def BOOT_RELOCK_SKIPPED : Ctr := { page := 0x3, n := 5, ka := false }
/-- Counter 0 of the SEC page, spec R151. -/
def SEC_TOKENS_ACCEPTED : Ctr := { page := 0x4, n := 0, ka := false }
/-- Counter 1 of the SEC page, spec R151. -/
def SEC_TOKENS_REFUSED : Ctr := { page := 0x4, n := 1, ka := false }
/-- Counter 0 of the ALARM page, spec R557. -/
def ALARM_RISINGS : Ctr := { page := 0x5, n := 0, ka := false }
/-- Counter 1 of the ALARM page, spec R557. -/
def ALARM_OCCURRENCES : Ctr := { page := 0x5, n := 1, ka := false }
/-- Counter 2 of the ALARM page, spec R557. -/
def ALARM_ALARM_ASSERTIONS : Ctr := { page := 0x5, n := 2, ka := false }
/-- Counter 3 of the ALARM page, spec R557. -/
def ALARM_ALARM_LOW_BELLS : Ctr := { page := 0x5, n := 3, ka := false }
/-- Counter 4 of the ALARM page, spec R557. -/
def ALARM_STUCK_EPISODES : Ctr := { page := 0x5, n := 4, ka := false }
/-- Counter 5 of the ALARM page, spec R557. -/
def ALARM_FREEZES : Ctr := { page := 0x5, n := 5, ka := false }
/-- Counter 6 of the ALARM page, spec R557. -/
def ALARM_REACTION_RESETS : Ctr := { page := 0x5, n := 6, ka := true }
/-- Counter 0 of the LEDGER page, spec R558. -/
def LEDGER_LEDGER_WRITTEN : Ctr := { page := 0x6, n := 0, ka := false }
/-- Counter 1 of the LEDGER page, spec R558. -/
def LEDGER_LEDGER_DROPPED : Ctr := { page := 0x6, n := 1, ka := false }
/-- Counter 2 of the LEDGER page, spec R558. -/
def LEDGER_GASP_WRITTEN : Ctr := { page := 0x6, n := 2, ka := false }
/-- Counter 3 of the LEDGER page, spec R558. -/
def LEDGER_CE_EVENTS : Ctr := { page := 0x6, n := 3, ka := false }
/-- Counter 4 of the LEDGER page, spec R558. -/
def LEDGER_BIST_RUNS : Ctr := { page := 0x6, n := 4, ka := false }
/-- Counter 0 of the TELEM page, spec R532. -/
def TELEM_EPOCHS : Ctr := { page := 0x7, n := 0, ka := false }
/-- Counter 1 of the TELEM page, spec R532. -/
def TELEM_RECORDS_WRITTEN : Ctr := { page := 0x7, n := 1, ka := false }
/-- Counter 2 of the TELEM page, spec R532. -/
def TELEM_DIGESTS_SENT : Ctr := { page := 0x7, n := 2, ka := false }
/-- Counter 3 of the TELEM page, spec R532. -/
def TELEM_DIGESTS_RECEIVED : Ctr := { page := 0x7, n := 3, ka := false }
/-- Counter 4 of the TELEM page, spec R532. -/
def TELEM_BG_DISCARDED : Ctr := { page := 0x7, n := 4, ka := false }
/-- Counter 5 of the TELEM page, spec R532. -/
def TELEM_L0_CHECK_SHEAVES : Ctr := { page := 0x7, n := 5, ka := false }
/-- Counter 6 of the TELEM page, spec R532. -/
def TELEM_L0_CHECK_ERRORS : Ctr := { page := 0x7, n := 6, ka := false }
/-- Counter 7 of the TELEM page, spec R532. -/
def TELEM_SPARE_BIST_LINES : Ctr := { page := 0x7, n := 7, ka := false }
/-- Counter 8 of the TELEM page, spec R532. -/
def TELEM_DITHER_CAL_PASSES : Ctr := { page := 0x7, n := 8, ka := false }
/-- Counter 9 of the TELEM page, spec R532. -/
def TELEM_CALIB_ACCEPTED : Ctr := { page := 0x7, n := 9, ka := false }
/-- Counter 10 of the TELEM page, spec R532. -/
def TELEM_CALIB_REFUSED : Ctr := { page := 0x7, n := 10, ka := false }
/-- Counter 0 of the MGMT page, spec R580. -/
def MGMT_SMB_TRANSACTIONS : Ctr := { page := 0x8, n := 0, ka := false }
/-- Counter 1 of the MGMT page, spec R580. -/
def MGMT_SMB_NACKS : Ctr := { page := 0x8, n := 1, ka := false }
/-- Counter 2 of the MGMT page, spec R580. -/
def MGMT_SMB_TIMEOUTS : Ctr := { page := 0x8, n := 2, ka := false }
/-- Counter 3 of the MGMT page, spec R580. -/
def MGMT_SMB_PEC_ERRORS : Ctr := { page := 0x8, n := 3, ka := false }
/-- Counter 4 of the MGMT page, spec R580. -/
def MGMT_UART_RX_CHARS : Ctr := { page := 0x8, n := 4, ka := false }
/-- Counter 5 of the MGMT page, spec R580. -/
def MGMT_UART_TX_CHARS : Ctr := { page := 0x8, n := 5, ka := false }
/-- Counter 6 of the MGMT page, spec R580. -/
def MGMT_UART_FRAMING_ERRORS : Ctr := { page := 0x8, n := 6, ka := false }
/-- Counter 7 of the MGMT page, spec R580. -/
def MGMT_UART_BREAKS : Ctr := { page := 0x8, n := 7, ka := false }
/-- Counter 8 of the MGMT page, spec R580. -/
def MGMT_UART_OVERRUNS : Ctr := { page := 0x8, n := 8, ka := false }
/-- Counter 9 of the MGMT page, spec R580. -/
def MGMT_MBX_REQUESTS : Ctr := { page := 0x8, n := 9, ka := false }
/-- Counter 10 of the MGMT page, spec R580. -/
def MGMT_MBX_REFUSED : Ctr := { page := 0x8, n := 10, ka := false }
/-- Counter 11 of the MGMT page, spec R580. -/
def MGMT_TELEM_PUSHES : Ctr := { page := 0x8, n := 11, ka := false }
/-- Counter 12 of the MGMT page, spec R580. -/
def MGMT_TELEM_PUSHES_SKIPPED : Ctr := { page := 0x8, n := 12, ka := false }
/-- Counter 13 of the MGMT page, spec R580. -/
def MGMT_JTAG_REFUSALS : Ctr := { page := 0x8, n := 13, ka := false }
/-- Counter 0 of the LANTERN page, spec R218. -/
def LANTERN_TAKEOVERS : Ctr := { page := 0x9, n := 0, ka := false }
/-- Counter 1 of the LANTERN page, spec R218. -/
def LANTERN_LINE_MOVES : Ctr := { page := 0x9, n := 1, ka := false }
/-- Counter 2 of the LANTERN page, spec R218. -/
def LANTERN_BUS_TRANSACTIONS : Ctr := { page := 0x9, n := 2, ka := false }
/-- Counter 3 of the LANTERN page, spec R218. -/
def LANTERN_BUS_RETRIES : Ctr := { page := 0x9, n := 3, ka := false }
/-- Counter 4 of the LANTERN page, spec R218. -/
def LANTERN_BUS_STUCK_EPISODES : Ctr := { page := 0x9, n := 4, ka := false }
/-- Counter 5 of the LANTERN page, spec R218. -/
def LANTERN_ALERTS : Ctr := { page := 0x9, n := 5, ka := false }
/-- Counter 6 of the LANTERN page, spec R218. -/
def LANTERN_LINE_FAILS : Ctr := { page := 0x9, n := 6, ka := false }
/-- Counter 0 of the HEARTH page, spec R244, R262. -/
def HEARTH_UPDATES (f : Nat) : Ctr := { page := 0xa + 1 * f, n := 0, ka := false }
/-- Counter 1 of the HEARTH page, spec R244, R262. -/
def HEARTH_HELD_UPDATES (f : Nat) : Ctr := { page := 0xa + 1 * f, n := 1, ka := false }
/-- Counter 2 of the HEARTH page, spec R244, R262. -/
def HEARTH_UNLOCKS (f : Nat) : Ctr := { page := 0xa + 1 * f, n := 2, ka := false }
/-- Counter 3 of the HEARTH page, spec R244, R262. -/
def HEARTH_ACQUIRE_FAILS (f : Nat) : Ctr := { page := 0xa + 1 * f, n := 3, ka := false }
/-- Counter 4 of the HEARTH page, spec R244, R262. -/
def HEARTH_CLAMPS (f : Nat) : Ctr := { page := 0xa + 1 * f, n := 4, ka := false }
/-- Counter 5 of the HEARTH page, spec R244, R262. -/
def HEARTH_WEAR_MOVES (f : Nat) : Ctr := { page := 0xa + 1 * f, n := 5, ka := false }
/-- Counter 6 of the HEARTH page, spec R244, R262. -/
def HEARTH_FAILOVERS (f : Nat) : Ctr := { page := 0xa + 1 * f, n := 6, ka := false }
/-- Counter 7 of the HEARTH page, spec R244, R262. -/
def HEARTH_HB_MISSES (f : Nat) : Ctr := { page := 0xa + 1 * f, n := 7, ka := false }
/-- Counter 8 of the HEARTH page, spec R244, R262. -/
def HEARTH_MIRROR_MISSES (f : Nat) : Ctr := { page := 0xa + 1 * f, n := 8, ka := false }
/-- Counter 9 of the HEARTH page, spec R244, R262. -/
def HEARTH_CMP_MISMATCHES (f : Nat) : Ctr := { page := 0xa + 1 * f, n := 9, ka := false }
/-- Counter 10 of the HEARTH page, spec R244, R262. -/
def HEARTH_BIST_RUNS (f : Nat) : Ctr := { page := 0xa + 1 * f, n := 10, ka := false }
/-- Counter 11 of the HEARTH page, spec R244, R262. -/
def HEARTH_BIST_FAILS (f : Nat) : Ctr := { page := 0xa + 1 * f, n := 11, ka := false }
/-- Counter 12 of the HEARTH page, spec R244, R262. -/
def HEARTH_MARCH_PASSES (f : Nat) : Ctr := { page := 0xa + 1 * f, n := 12, ka := false }
/-- Counter 13 of the HEARTH page, spec R244, R262. -/
def HEARTH_MARCH_FAILS (f : Nat) : Ctr := { page := 0xa + 1 * f, n := 13, ka := false }
/-- Counter 14 of the HEARTH page, spec R244, R262. -/
def HEARTH_SHADOW_WRITES_DROPPED (f : Nat) : Ctr := { page := 0xa + 1 * f, n := 14, ka := false }
/-- Counter 0 of the HTR page, spec R219. -/
def HTR_SAMPLES : Ctr := { page := 0xc, n := 0, ka := false }
/-- Counter 1 of the HTR page, spec R219. -/
def HTR_RANGE_MOVES : Ctr := { page := 0xc, n := 1, ka := false }
/-- Counter 2 of the HTR page, spec R219. -/
def HTR_RANGE_PINS : Ctr := { page := 0xc, n := 2, ka := false }
/-- Counter 3 of the HTR page, spec R219. -/
def HTR_CLIPS : Ctr := { page := 0xc, n := 3, ka := false }
/-- Counter 4 of the HTR page, spec R219. -/
def HTR_DAC_WRITES : Ctr := { page := 0xc, n := 4, ka := false }
/-- Counter 0 of the THERMAL page, spec R95. -/
def THERMAL_BAND1_BELLS : Ctr := { page := 0xd, n := 0, ka := false }
/-- Counter 1 of the THERMAL page, spec R95. -/
def THERMAL_BAND2_BELLS : Ctr := { page := 0xd, n := 1, ka := false }
/-- Counter 2 of the THERMAL page, spec R95. -/
def THERMAL_BAND3_BELLS : Ctr := { page := 0xd, n := 2, ka := false }
/-- Counter 3 of the THERMAL page, spec R95. -/
def THERMAL_BAND_RISES : Ctr := { page := 0xd, n := 3, ka := false }
/-- Counter 4 of the THERMAL page, spec R95. -/
def THERMAL_BAND_FALLS : Ctr := { page := 0xd, n := 4, ka := false }
/-- Counter 5 of the THERMAL page, spec R95. -/
def THERMAL_SENSOR_FAULTS : Ctr := { page := 0xd, n := 5, ka := false }
/-- Counter 6 of the THERMAL page, spec R95. -/
def THERMAL_TRIPS : Ctr := { page := 0xd, n := 6, ka := false }
/-- Counter 0 of the CNT page, spec R298, R325. -/
def CNT_TX_SHEAVES (f : Nat) : Ctr := { page := 0x22 + 4 * f, n := 0, ka := false }
/-- Counter 1 of the CNT page, spec R298, R325. -/
def CNT_RX_SHEAVES (f : Nat) : Ctr := { page := 0x22 + 4 * f, n := 1, ka := false }
/-- Counter 2 of the CNT page, spec R298, R325. -/
def CNT_TX_SHEAF_BYTES (f : Nat) : Ctr := { page := 0x22 + 4 * f, n := 2, ka := false }
/-- Counter 3 of the CNT page, spec R298, R325. -/
def CNT_RX_SHEAF_BYTES (f : Nat) : Ctr := { page := 0x22 + 4 * f, n := 3, ka := false }
/-- Counter 4 of the CNT page, spec R298, R325. -/
def CNT_FEC_CORRECTED_SYMBOLS (f : Nat) : Ctr := { page := 0x22 + 4 * f, n := 4, ka := false }
/-- Counter 5 of the CNT page, spec R298, R325. -/
def CNT_FEC_UNCORRECTABLE_CODEWORDS (f : Nat) : Ctr := { page := 0x22 + 4 * f, n := 5, ka := false }
/-- Counter 6 of the CNT page, spec R298, R325. -/
def CNT_HEADER_CRC_ERRORS (f : Nat) : Ctr := { page := 0x22 + 4 * f, n := 6, ka := false }
/-- Counter 7 of the CNT page, spec R298, R325. -/
def CNT_LOCK_LOSSES (f : Nat) : Ctr := { page := 0x22 + 4 * f, n := 7, ka := false }
/-- Counter 8 of the CNT page, spec R298, R325. -/
def CNT_BRINGUP_ATTEMPTS (f : Nat) : Ctr := { page := 0x22 + 4 * f, n := 8, ka := false }
/-- Counter 9 of the CNT page, spec R298, R325. -/
def CNT_BRINGUPS_COMPLETED (f : Nat) : Ctr := { page := 0x22 + 4 * f, n := 9, ka := false }
/-- Counter 10 of the CNT page, spec R298, R325. -/
def CNT_TRAIN_FAILS (f : Nat) : Ctr := { page := 0x22 + 4 * f, n := 10, ka := false }
/-- Counter 11 of the CNT page, spec R298, R325. -/
def CNT_LOCK_FAILS (f : Nat) : Ctr := { page := 0x22 + 4 * f, n := 11, ka := false }
/-- Counter 12 of the CNT page, spec R298, R325. -/
def CNT_EXCHANGE_FAILS (f : Nat) : Ctr := { page := 0x22 + 4 * f, n := 12, ka := false }
/-- Counter 13 of the CNT page, spec R298, R325. -/
def CNT_KIND_BAD_SHEAVES (f : Nat) : Ctr := { page := 0x22 + 4 * f, n := 13, ka := false }
/-- Counter 14 of the CNT page, spec R298, R325. -/
def CNT_TRAINING_FRAMES_RX (f : Nat) : Ctr := { page := 0x22 + 4 * f, n := 14, ka := false }
/-- Counter 15 of the CNT page, spec R298, R325. -/
def CNT_REPLAYS_SENT (f : Nat) : Ctr := { page := 0x22 + 4 * f, n := 15, ka := false }
/-- Counter 16 of the CNT page, spec R298, R325. -/
def CNT_NAK_SHEAVES_RX (f : Nat) : Ctr := { page := 0x22 + 4 * f, n := 16, ka := false }
/-- Counter 17 of the CNT page, spec R298, R325. -/
def CNT_DEADLINE_MISSES (f : Nat) : Ctr := { page := 0x22 + 4 * f, n := 17, ka := false }
/-- Counter 18 of the CNT page, spec R298, R325. -/
def CNT_DUPLICATES_RX (f : Nat) : Ctr := { page := 0x22 + 4 * f, n := 18, ka := false }
/-- Counter 19 of the CNT page, spec R298, R325. -/
def CNT_DETOUR_SHEAVES_TX (f : Nat) : Ctr := { page := 0x22 + 4 * f, n := 19, ka := false }
/-- Counter 20 of the CNT page, spec R298, R325. -/
def CNT_DETOUR_FORWARDED (f : Nat) : Ctr := { page := 0x22 + 4 * f, n := 20, ka := false }
/-- Counter 21 of the CNT page, spec R298, R325. -/
def CNT_LINKS_FAILED (f : Nat) : Ctr := { page := 0x22 + 4 * f, n := 21, ka := false }
/-- Counter 0 of the UAHUS page, spec R187. -/
def UAHUS_FLITS_TX : Ctr := { page := 0x40, n := 0, ka := false }
/-- Counter 1 of the UAHUS page, spec R187. -/
def UAHUS_FLITS_RX : Ctr := { page := 0x40, n := 1, ka := false }
/-- Counter 2 of the UAHUS page, spec R187. -/
def UAHUS_REPLAYS : Ctr := { page := 0x40, n := 2, ka := false }
/-- Counter 3 of the UAHUS page, spec R187. -/
def UAHUS_NAKS_TX : Ctr := { page := 0x40, n := 3, ka := false }
/-- Counter 4 of the UAHUS page, spec R187. -/
def UAHUS_NAKS_RX : Ctr := { page := 0x40, n := 4, ka := false }
/-- Counter 5 of the UAHUS page, spec R187. -/
def UAHUS_CRC_DISCARDS : Ctr := { page := 0x40, n := 5, ka := false }
/-- Counter 6 of the UAHUS page, spec R187. -/
def UAHUS_LINK_DOWNS : Ctr := { page := 0x40, n := 6, ka := false }
/-- Counter 7 of the UAHUS page, spec R187. -/
def UAHUS_WINDOW_FAULTS : Ctr := { page := 0x40, n := 7, ka := false }
/-- Counter 8 of the UAHUS page, spec R187. -/
def UAHUS_CLASS_BAD_FLITS : Ctr := { page := 0x40, n := 8, ka := false }
/-- Counter 9 of the UAHUS page, spec R187. -/
def UAHUS_CTL_UNSUPPORTED_ACCESSES : Ctr := { page := 0x40, n := 9, ka := false }
/-- Counter 10 of the UAHUS page, spec R187. -/
def UAHUS_SHADOW_WRITES_DROPPED : Ctr := { page := 0x40, n := 10, ka := false }
/-- Counter 0 of the BUNDLE page, spec R187. -/
def BUNDLE_ATTEMPTS (f : Nat) : Ctr := { page := 0x41 + 1 * f, n := 0, ka := false }
/-- Counter 1 of the BUNDLE page, spec R187. -/
def BUNDLE_FLITS_TX (f : Nat) : Ctr := { page := 0x41 + 1 * f, n := 1, ka := false }
/-- Counter 2 of the BUNDLE page, spec R187. -/
def BUNDLE_FLITS_RX (f : Nat) : Ctr := { page := 0x41 + 1 * f, n := 2, ka := false }
/-- Counter 3 of the BUNDLE page, spec R187. -/
def BUNDLE_CRC_DISCARDS (f : Nat) : Ctr := { page := 0x41 + 1 * f, n := 3, ka := false }
/-- Counter 4 of the BUNDLE page, spec R187. -/
def BUNDLE_IDLE_DELETED (f : Nat) : Ctr := { page := 0x41 + 1 * f, n := 4, ka := false }
/-- Counter 5 of the BUNDLE page, spec R187. -/
def BUNDLE_IDLE_INSERTED (f : Nat) : Ctr := { page := 0x41 + 1 * f, n := 5, ka := false }
/-- Counter 6 of the BUNDLE page, spec R187. -/
def BUNDLE_RETRAINS (f : Nat) : Ctr := { page := 0x41 + 1 * f, n := 6, ka := false }
/-- Counter 0 of the CMD page, spec R377. -/
def CMD_DESCRIPTORS_READ : Ctr := { page := 0x50, n := 0, ka := false }
/-- Counter 1 of the CMD page, spec R377. -/
def CMD_ADMITTED : Ctr := { page := 0x50, n := 1, ka := false }
/-- Counter 2 of the CMD page, spec R377. -/
def CMD_RETIRED_NO_SLOT : Ctr := { page := 0x50, n := 2, ka := false }
/-- Counter 3 of the CMD page, spec R377. -/
def CMD_CANCELS_ACCEPTED : Ctr := { page := 0x50, n := 3, ka := false }
/-- Counter 4 of the CMD page, spec R377. -/
def CMD_CANCELS_EARLY : Ctr := { page := 0x50, n := 4, ka := false }
/-- Counter 5 of the CMD page, spec R377. -/
def CMD_CANCELS_LATE : Ctr := { page := 0x50, n := 5, ka := false }
/-- Counter 6 of the CMD page, spec R377. -/
def CMD_CANCELS_EXPIRED : Ctr := { page := 0x50, n := 6, ka := false }
/-- Counter 7 of the CMD page, spec R377. -/
def CMD_EVENTS_WRITTEN : Ctr := { page := 0x50, n := 7, ka := false }
/-- Counter 8 of the CMD page, spec R377. -/
def CMD_NOTICES_DROPPED : Ctr := { page := 0x50, n := 8, ka := false }
/-- Counter 9 of the CMD page, spec R377. -/
def CMD_INTERRUPTS_SENT : Ctr := { page := 0x50, n := 9, ka := false }
/-- Counter 10 of the CMD page, spec R377. -/
def CMD_INTERRUPTS_COALESCED : Ctr := { page := 0x50, n := 10, ka := false }
/-- Counter 11 of the CMD page, spec R377. -/
def CMD_SLOT_WAIT_BELLS : Ctr := { page := 0x50, n := 11, ka := false }
/-- Counter 12 of the CMD page, spec R377. -/
def CMD_EVT_FULL_BELLS : Ctr := { page := 0x50, n := 12, ka := false }
/-- Counter 0 of the TASK page, spec R378. -/
def TASK_TASKS_STARTED : Ctr := { page := 0x51, n := 0, ka := false }
/-- Counter 1 of the TASK page, spec R378. -/
def TASK_TASKS_OK : Ctr := { page := 0x51, n := 1, ka := false }
/-- Counter 2 of the TASK page, spec R378. -/
def TASK_TASKS_RECOVERED : Ctr := { page := 0x51, n := 2, ka := false }
/-- Counter 3 of the TASK page, spec R378. -/
def TASK_TASKS_DEGRADED : Ctr := { page := 0x51, n := 3, ka := false }
/-- Counter 4 of the TASK page, spec R378. -/
def TASK_TASKS_ABORTED : Ctr := { page := 0x51, n := 4, ka := false }
/-- Counter 5 of the TASK page, spec R378. -/
def TASK_TASKS_TIMED_OUT : Ctr := { page := 0x51, n := 5, ka := false }
/-- Counter 6 of the TASK page, spec R378. -/
def TASK_TASKS_PEER_ABORTED : Ctr := { page := 0x51, n := 6, ka := false }
/-- Counter 7 of the TASK page, spec R378. -/
def TASK_SLOT_BELLS : Ctr := { page := 0x51, n := 7, ka := false }
/-- Counter 0 of the SCHED page, spec R350. -/
def SCHED_VERSION_MISSES : Ctr := { page := 0x52, n := 0, ka := false }
/-- Counter 1 of the SCHED page, spec R350. -/
def SCHED_MISMATCHES : Ctr := { page := 0x52, n := 1, ka := false }
/-- Counter 2 of the SCHED page, spec R350. -/
def SCHED_NO_ENTRY_SHEAVES : Ctr := { page := 0x52, n := 2, ka := false }
/-- Counter 3 of the SCHED page, spec R350. -/
def SCHED_HOPS_EXHAUSTED : Ctr := { page := 0x52, n := 3, ka := false }
/-- Counter 4 of the SCHED page, spec R350. -/
def SCHED_ORPHAN_SHEAVES : Ctr := { page := 0x52, n := 4, ka := false }
/-- Counter 5 of the SCHED page, spec R350. -/
def SCHED_FORWARDED : Ctr := { page := 0x52, n := 5, ka := false }
/-- Counter 6 of the SCHED page, spec R350. -/
def SCHED_LATE_FORWARDED : Ctr := { page := 0x52, n := 6, ka := false }
/-- Counter 7 of the SCHED page, spec R350. -/
def SCHED_TABLE_WRITES_IGNORED : Ctr := { page := 0x52, n := 7, ka := false }
/-- Counter 8 of the SCHED page, spec R350. -/
def SCHED_SHADOW_WRITES_DROPPED : Ctr := { page := 0x52, n := 8, ka := false }
/-- Counter 0 of the WEIR page, spec R351. -/
def WEIR_OPEN_SHEAVES_TX : Ctr := { page := 0x53, n := 0, ka := false }
/-- Counter 1 of the WEIR page, spec R351. -/
def WEIR_OPEN_SHEAVES_RX : Ctr := { page := 0x53, n := 1, ka := false }
/-- Counter 2 of the WEIR page, spec R351. -/
def WEIR_OPEN_FORWARDED : Ctr := { page := 0x53, n := 2, ka := false }
/-- Counter 3 of the WEIR page, spec R351. -/
def WEIR_CREDIT_SHEAVES_TX : Ctr := { page := 0x53, n := 3, ka := false }
/-- Counter 4 of the WEIR page, spec R351. -/
def WEIR_CREDITS_GRANTED : Ctr := { page := 0x53, n := 4, ka := false }
/-- Counter 5 of the WEIR page, spec R351. -/
def WEIR_NO_ROUTE_DROPS : Ctr := { page := 0x53, n := 5, ka := false }
/-- Counter 6 of the WEIR page, spec R351. -/
def WEIR_STALE_DROPS : Ctr := { page := 0x53, n := 6, ka := false }
/-- Counter 0 of the TALLY page, spec R394. -/
def TALLY_RX_TALLY_FAILS : Ctr := { page := 0x54, n := 0, ka := false }
/-- Counter 1 of the TALLY page, spec R394. -/
def TALLY_TX_TALLY_FAILS : Ctr := { page := 0x54, n := 1, ka := false }
/-- Counter 2 of the TALLY page, spec R394. -/
def TALLY_VERIFY_FAILS : Ctr := { page := 0x54, n := 2, ka := false }
/-- Counter 3 of the TALLY page, spec R394. -/
def TALLY_DELIVERY_FAILS : Ctr := { page := 0x54, n := 3, ka := false }
/-- Counter 4 of the TALLY page, spec R394. -/
def TALLY_HOST_TALLY_MISMATCHES : Ctr := { page := 0x54, n := 4, ka := false }
/-- Counter 5 of the TALLY page, spec R394. -/
def TALLY_RESIDUE_FAILS : Ctr := { page := 0x54, n := 5, ka := false }
/-- Counter 6 of the TALLY page, spec R394. -/
def TALLY_TALLIES_MADE : Ctr := { page := 0x54, n := 6, ka := false }
/-- Counter 7 of the TALLY page, spec R394. -/
def TALLY_TALLIES_CHECKED : Ctr := { page := 0x54, n := 7, ka := false }
/-- Counter 0 of the SHEPHERD page, spec R323. -/
def SHEPHERD_SPARES_MOD : Ctr := { page := 0x55, n := 0, ka := false }
/-- Counter 1 of the SHEPHERD page, spec R323. -/
def SHEPHERD_SPARES_DROP : Ctr := { page := 0x55, n := 1, ka := false }
/-- Counter 2 of the SHEPHERD page, spec R323. -/
def SHEPHERD_SPARES_DET : Ctr := { page := 0x55, n := 2, ka := false }
/-- Counter 3 of the SHEPHERD page, spec R323. -/
def SHEPHERD_DETOURS_STARTED : Ctr := { page := 0x55, n := 3, ka := false }
/-- Counter 4 of the SHEPHERD page, spec R323. -/
def SHEPHERD_DETOURS_WITHDRAWN : Ctr := { page := 0x55, n := 4, ka := false }
/-- Counter 5 of the SHEPHERD page, spec R323. -/
def SHEPHERD_HOLD_BELLS : Ctr := { page := 0x55, n := 5, ka := false }
/-- Counter 6 of the SHEPHERD page, spec R323. -/
def SHEPHERD_HOLD_CAPS : Ctr := { page := 0x55, n := 6, ka := false }
/-- Counter 7 of the SHEPHERD page, spec R323. -/
def SHEPHERD_FLUSHED_SHEAVES : Ctr := { page := 0x55, n := 7, ka := false }
/-- Counter 8 of the SHEPHERD page, spec R323. -/
def SHEPHERD_FENCE_MARKS : Ctr := { page := 0x55, n := 8, ka := false }
/-- Counter 9 of the SHEPHERD page, spec R323. -/
def SHEPHERD_FENCE_RECEIPTS : Ctr := { page := 0x55, n := 9, ka := false }
/-- Counter 0 of the MILLER page, spec R417. -/
def MILLER_LONG_WORDS_ISSUED : Ctr := { page := 0x60, n := 0, ka := false }
/-- Counter 1 of the MILLER page, spec R417. -/
def MILLER_MILLER_FETCH_WORDS : Ctr := { page := 0x60, n := 1, ka := false }
/-- Counter 2 of the MILLER page, spec R417. -/
def MILLER_ISSUE_STALL_CYCLES : Ctr := { page := 0x60, n := 2, ka := false }
/-- Counter 3 of the MILLER page, spec R417. -/
def MILLER_TAIL_WORDS_ISSUED : Ctr := { page := 0x60, n := 3, ka := false }
/-- Counter 4 of the MILLER page, spec R417. -/
def MILLER_STEPS_RUN : Ctr := { page := 0x60, n := 4, ka := false }
/-- Counter 5 of the MILLER page, spec R417. -/
def MILLER_STEPS_DEFERRED : Ctr := { page := 0x60, n := 5, ka := false }
/-- Counter 6 of the MILLER page, spec R417. -/
def MILLER_IMEM_WAIT_BELLS : Ctr := { page := 0x60, n := 6, ka := false }
/-- Counter 0 of the MILL page, spec R418. -/
def MILL_ACCESS_CYCLES : Ctr := { page := 0x61, n := 0, ka := false }
/-- Counter 1 of the MILL page, spec R418. -/
def MILL_VECTOR_CYCLES : Ctr := { page := 0x61, n := 1, ka := false }
/-- Counter 2 of the MILL page, spec R418. -/
def MILL_MATRIX_CYCLES : Ctr := { page := 0x61, n := 2, ka := false }
/-- Counter 3 of the MILL page, spec R418. -/
def MILL_SIEVE_CYCLES : Ctr := { page := 0x61, n := 3, ka := false }
/-- Counter 4 of the MILL page, spec R418. -/
def MILL_QUEUE_STALL_CYCLES : Ctr := { page := 0x61, n := 4, ka := false }
/-- Counter 5 of the MILL page, spec R418. -/
def MILL_TOKEN_WAIT_CYCLES : Ctr := { page := 0x61, n := 5, ka := false }
/-- Counter 6 of the MILL page, spec R418. -/
def MILL_RESERVE_WAIT_CYCLES : Ctr := { page := 0x61, n := 6, ka := false }
/-- Counter 7 of the MILL page, spec R418. -/
def MILL_REGION_VIOLATIONS : Ctr := { page := 0x61, n := 7, ka := false }
/-- Counter 0 of the GRANARY page, spec R419. -/
def GRANARY_CE_EVENTS : Ctr := { page := 0x62, n := 0, ka := false }
/-- Counter 1 of the GRANARY page, spec R419. -/
def GRANARY_UE_EVENTS : Ctr := { page := 0x62, n := 1, ka := false }
/-- Counter 2 of the GRANARY page, spec R419. -/
def GRANARY_SCRUB_LINES : Ctr := { page := 0x62, n := 2, ka := false }
/-- Counter 3 of the GRANARY page, spec R419. -/
def GRANARY_SCRUB_CORRECTED : Ctr := { page := 0x62, n := 3, ka := false }
/-- Counter 4 of the GRANARY page, spec R419. -/
def GRANARY_POISONED_LINES : Ctr := { page := 0x62, n := 4, ka := false }
/-- Counter 5 of the GRANARY page, spec R419. -/
def GRANARY_POISON_CLEARED : Ctr := { page := 0x62, n := 5, ka := false }
/-- Counter 6 of the GRANARY page, spec R419. -/
def GRANARY_REMAPS : Ctr := { page := 0x62, n := 6, ka := false }
/-- Counter 7 of the GRANARY page, spec R419. -/
def GRANARY_REMAP_REFUSED : Ctr := { page := 0x62, n := 7, ka := false }
/-- Counter 8 of the GRANARY page, spec R419. -/
def GRANARY_LINE_PORT_BYTES : Ctr := { page := 0x62, n := 8, ka := false }
/-- Counter 9 of the GRANARY page, spec R419. -/
def GRANARY_HOST_PORT_BYTES : Ctr := { page := 0x62, n := 9, ka := false }
/-- Counter 0 of the SIEVE page, spec R495. -/
def SIEVE_SELECTS_STARTED : Ctr := { page := 0x63, n := 0, ka := false }
/-- Counter 1 of the SIEVE page, spec R495. -/
def SIEVE_ROWS_SELECTED : Ctr := { page := 0x63, n := 1, ka := false }
/-- Counter 2 of the SIEVE page, spec R495. -/
def SIEVE_ELEMENTS_SCANNED : Ctr := { page := 0x63, n := 2, ka := false }
/-- Counter 3 of the SIEVE page, spec R495. -/
def SIEVE_PASSES : Ctr := { page := 0x63, n := 3, ka := false }
/-- Counter 4 of the SIEVE page, spec R495. -/
def SIEVE_LIST_ENTRIES_MERGED : Ctr := { page := 0x63, n := 4, ka := false }
/-- Counter 5 of the SIEVE page, spec R495. -/
def SIEVE_NAN_COUNT : Ctr := { page := 0x63, n := 5, ka := false }
/-- Counter 0 of the LOOM page, spec R516. -/
def LOOM_SCANS_STARTED : Ctr := { page := 0x64, n := 0, ka := false }
/-- Counter 1 of the LOOM page, spec R516. -/
def LOOM_TIME_STEPS : Ctr := { page := 0x64, n := 1, ka := false }
/-- Counter 2 of the LOOM page, spec R516. -/
def LOOM_CHAIN_SHEAVES_SENT : Ctr := { page := 0x64, n := 2, ka := false }
/-- Counter 3 of the LOOM page, spec R516. -/
def LOOM_RESETS_APPLIED : Ctr := { page := 0x64, n := 3, ka := false }
/-- Counter 4 of the LOOM page, spec R516. -/
def LOOM_PWL_EVALS : Ctr := { page := 0x64, n := 4, ka := false }
/-- Counter 5 of the LOOM page, spec R516. -/
def LOOM_CHUNK_WAIT_BELLS : Ctr := { page := 0x64, n := 5, ka := false }
/-- Counter 6 of the LOOM page, spec R516. -/
def LOOM_CURVE_WRITES_DROPPED : Ctr := { page := 0x64, n := 6, ka := false }
/-- Counter 7 of the LOOM page, spec R516. -/
def LOOM_SHADOW_WRITES_DROPPED : Ctr := { page := 0x64, n := 7, ka := false }
/-- Counter 0 of the TRACE page, spec R450. -/
def TRACE_RECORDS_WRITTEN : Ctr := { page := 0x65, n := 0, ka := false }
/-- Counter 1 of the TRACE page, spec R450. -/
def TRACE_RECORDS_DROPPED : Ctr := { page := 0x65, n := 1, ka := false }
/-- Counter 2 of the TRACE page, spec R450. -/
def TRACE_GROUPS_STREAMED : Ctr := { page := 0x65, n := 2, ka := false }
/-- Counter 3 of the TRACE page, spec R450. -/
def TRACE_TRIGGERS : Ctr := { page := 0x65, n := 3, ka := false }

end Sys2Proof.Machine.Ctr

namespace Sys2Proof.Machine.Err

/-- PG_ERR bit 0 of the TOP page, default class 0, spec R120. -/
def TOP_UNMAPPED_ACCESS : ErrBit := { page := 0x0, bit := 0, cls := 0 }
/-- PG_ERR bit 1 of the TOP page, default class 0, spec R120. -/
def TOP_RESET_KEY_BAD : ErrBit := { page := 0x0, bit := 1, cls := 0 }
/-- PG_ERR bit 0 of the BELL page, default class 0, spec R66. -/
def BELL_PARENT_LOST : ErrBit := { page := 0x1, bit := 0, cls := 0 }
/-- PG_ERR bit 1 of the BELL page, default class 1, spec R66. -/
def BELL_HOLDOVER_LONG : ErrBit := { page := 0x1, bit := 1, cls := 1 }
/-- PG_ERR bit 2 of the BELL page, default class 1, spec R66. -/
def BELL_ROOT_CONFLICT : ErrBit := { page := 0x1, bit := 2, cls := 1 }
/-- PG_ERR bit 3 of the BELL page, default class 1, spec R66. -/
def BELL_BELL_NUMBER_CONFLICT : ErrBit := { page := 0x1, bit := 3, cls := 1 }
/-- PG_ERR bit 4 of the BELL page, default class 0, spec R66. -/
def BELL_TIME_IN_LOST : ErrBit := { page := 0x1, bit := 4, cls := 0 }
/-- PG_ERR bit 5 of the BELL page, default class 0, spec R66. -/
def BELL_TIME_DISAGREE : ErrBit := { page := 0x1, bit := 5, cls := 0 }
/-- PG_ERR bit 6 of the BELL page, default class 2, spec R66. -/
def BELL_ELASTIC_SLIP : ErrBit := { page := 0x1, bit := 6, cls := 2 }
/-- PG_ERR bit 7 of the BELL page, default class 1, spec R66. -/
def BELL_OVERRUN : ErrBit := { page := 0x1, bit := 7, cls := 1 }
/-- PG_ERR bit 0 of the CLK page, default class 4, spec R67. -/
def CLK_REFCLK_LOST : ErrBit := { page := 0x2, bit := 0, cls := 4 }
/-- PG_ERR bit 1 of the CLK page, default class 4, spec R67. -/
def CLK_PLL_UNLOCK : ErrBit := { page := 0x2, bit := 1, cls := 4 }
/-- PG_ERR bit 0 of the BOOT page, default class 1, spec R151. -/
def BOOT_FLASH_READ_FAIL : ErrBit := { page := 0x3, bit := 0, cls := 1 }
/-- PG_ERR bit 1 of the BOOT page, default class 1, spec R151. -/
def BOOT_IMAGE_COPY_BAD : ErrBit := { page := 0x3, bit := 1, cls := 1 }
/-- PG_ERR bit 2 of the BOOT page, default class 1, spec R151. -/
def BOOT_ALMANAC_SECTION_BAD : ErrBit := { page := 0x3, bit := 2, cls := 1 }
/-- PG_ERR bit 3 of the BOOT page, default class 1, spec R151. -/
def BOOT_LIMP_ENTERED : ErrBit := { page := 0x3, bit := 3, cls := 1 }
/-- PG_ERR bit 4 of the BOOT page, default class 1, spec R151. -/
def BOOT_RELOCK_FAIL : ErrBit := { page := 0x3, bit := 4, cls := 1 }
/-- PG_ERR bit 5 of the BOOT page, default class 0, spec R151. -/
def BOOT_LINK_RETRY : ErrBit := { page := 0x3, bit := 5, cls := 0 }
/-- PG_ERR bit 6 of the BOOT page, default class 1, spec R151. -/
def BOOT_COMMIT_FAIL : ErrBit := { page := 0x3, bit := 6, cls := 1 }
/-- PG_ERR bit 0 of the SEC page, default class 0, spec R151. -/
def SEC_TOKEN_BAD : ErrBit := { page := 0x4, bit := 0, cls := 0 }
/-- PG_ERR bit 1 of the SEC page, default class 1, spec R151. -/
def SEC_POLICY_BAD : ErrBit := { page := 0x4, bit := 1, cls := 1 }
/-- PG_ERR bit 2 of the SEC page, default class 1, spec R151. -/
def SEC_ROLLBACK_REJECT : ErrBit := { page := 0x4, bit := 2, cls := 1 }
/-- PG_ERR bit 0 of the ALARM page, default class 0, spec R557. -/
def ALARM_ALARM_STUCK : ErrBit := { page := 0x5, bit := 0, cls := 0 }
/-- PG_ERR bit 1 of the ALARM page, default class 1, spec R557. -/
def ALARM_ALARM_PIN_FAULT : ErrBit := { page := 0x5, bit := 1, cls := 1 }
/-- PG_ERR bit 2 of the ALARM page, default class 1, spec R557. -/
def ALARM_RESET_WITHHELD : ErrBit := { page := 0x5, bit := 2, cls := 1 }
/-- PG_ERR bit 0 of the LEDGER page, default class 1, spec R558. -/
def LEDGER_LEDGER_LOST : ErrBit := { page := 0x6, bit := 0, cls := 1 }
/-- PG_ERR bit 1 of the LEDGER page, default class 0, spec R558. -/
def LEDGER_LEDGER_OVERFLOW : ErrBit := { page := 0x6, bit := 1, cls := 0 }
/-- PG_ERR bit 2 of the LEDGER page, default class 0, spec R558. -/
def LEDGER_LEDGER_CE : ErrBit := { page := 0x6, bit := 2, cls := 0 }
/-- PG_ERR bit 0 of the TELEM page, default class 1, spec R532. -/
def TELEM_L0_CHECK_FAIL : ErrBit := { page := 0x7, bit := 0, cls := 1 }
/-- PG_ERR bit 1 of the TELEM page, default class 0, spec R532. -/
def TELEM_SPARE_BIST_FAIL : ErrBit := { page := 0x7, bit := 1, cls := 0 }
/-- PG_ERR bit 2 of the TELEM page, default class 0, spec R532. -/
def TELEM_DITHER_CAL_ODD : ErrBit := { page := 0x7, bit := 2, cls := 0 }
/-- PG_ERR bit 3 of the TELEM page, default class 1, spec R532. -/
def TELEM_BIAS_AGEING : ErrBit := { page := 0x7, bit := 3, cls := 1 }
/-- PG_ERR bit 4 of the TELEM page, default class 0, spec R532. -/
def TELEM_TELEM_DELIVERY : ErrBit := { page := 0x7, bit := 4, cls := 0 }
/-- PG_ERR bit 0 of the MGMT page, default class 0, spec R580. -/
def MGMT_SMB_TIMEOUT : ErrBit := { page := 0x8, bit := 0, cls := 0 }
/-- PG_ERR bit 1 of the MGMT page, default class 0, spec R580. -/
def MGMT_SMB_PEC : ErrBit := { page := 0x8, bit := 1, cls := 0 }
/-- PG_ERR bit 2 of the MGMT page, default class 0, spec R580. -/
def MGMT_UART_BREAK : ErrBit := { page := 0x8, bit := 2, cls := 0 }
/-- PG_ERR bit 3 of the MGMT page, default class 0, spec R580. -/
def MGMT_UART_FRAMING : ErrBit := { page := 0x8, bit := 3, cls := 0 }
/-- PG_ERR bit 4 of the MGMT page, default class 0, spec R580. -/
def MGMT_UART_OVERRUN : ErrBit := { page := 0x8, bit := 4, cls := 0 }
/-- PG_ERR bit 5 of the MGMT page, default class 0, spec R580. -/
def MGMT_MBX_BUSY : ErrBit := { page := 0x8, bit := 5, cls := 0 }
/-- PG_ERR bit 6 of the MGMT page, default class 0, spec R580. -/
def MGMT_JTAG_REFUSED : ErrBit := { page := 0x8, bit := 6, cls := 0 }
/-- PG_ERR bit 0 of the LANTERN page, default class 1, spec R218. -/
def LANTERN_INPUT_LOST : ErrBit := { page := 0x9, bit := 0, cls := 1 }
/-- PG_ERR bit 1 of the LANTERN page, default class 1, spec R218. -/
def LANTERN_LINE_FAIL : ErrBit := { page := 0x9, bit := 1, cls := 1 }
/-- PG_ERR bit 2 of the LANTERN page, default class 1, spec R218. -/
def LANTERN_LANTERN_BUS_STUCK : ErrBit := { page := 0x9, bit := 2, cls := 1 }
/-- PG_ERR bit 3 of the LANTERN page, default class 0, spec R218. -/
def LANTERN_MODULE_COMM : ErrBit := { page := 0x9, bit := 3, cls := 0 }
/-- PG_ERR bit 4 of the LANTERN page, default class 0, spec R218. -/
def LANTERN_MODULE_ALERT : ErrBit := { page := 0x9, bit := 4, cls := 0 }
/-- PG_ERR bit 5 of the LANTERN page, default class 1, spec R218. -/
def LANTERN_IDENTITY_BAD : ErrBit := { page := 0x9, bit := 5, cls := 1 }
/-- PG_ERR bit 6 of the LANTERN page, default class 0, spec R218. -/
def LANTERN_POWER_READBACK : ErrBit := { page := 0x9, bit := 6, cls := 0 }
/-- PG_ERR bit 7 of the LANTERN page, default class 3, spec R218. -/
def LANTERN_BOTH_INPUTS_LOST : ErrBit := { page := 0x9, bit := 7, cls := 3 }
/-- PG_ERR bit 0 of the HEARTH page, default class 0, spec R244, R262. -/
def HEARTH_LOOP_UNLOCK (f : Nat) : ErrBit := { page := 0xa + 1 * f, bit := 0, cls := 0 }
/-- PG_ERR bit 1 of the HEARTH page, default class 1, spec R244, R262. -/
def HEARTH_ACQUIRE_FAIL (f : Nat) : ErrBit := { page := 0xa + 1 * f, bit := 1, cls := 1 }
/-- PG_ERR bit 2 of the HEARTH page, default class 0, spec R244, R262. -/
def HEARTH_HEADROOM_LOW (f : Nat) : ErrBit := { page := 0xa + 1 * f, bit := 2, cls := 0 }
/-- PG_ERR bit 3 of the HEARTH page, default class 1, spec R244, R262. -/
def HEARTH_HEADROOM_OUT (f : Nat) : ErrBit := { page := 0xa + 1 * f, bit := 3, cls := 1 }
/-- PG_ERR bit 4 of the HEARTH page, default class 0, spec R244, R262. -/
def HEARTH_PARK_NEAR (f : Nat) : ErrBit := { page := 0xa + 1 * f, bit := 4, cls := 0 }
/-- PG_ERR bit 5 of the HEARTH page, default class 1, spec R244, R262. -/
def HEARTH_XT_MATRIX_BAD (f : Nat) : ErrBit := { page := 0xa + 1 * f, bit := 5, cls := 1 }
/-- PG_ERR bit 8 of the HEARTH page, default class 1, spec R244, R262. -/
def HEARTH_HB_LOST (f : Nat) : ErrBit := { page := 0xa + 1 * f, bit := 8, cls := 1 }
/-- PG_ERR bit 9 of the HEARTH page, default class 0, spec R244, R262. -/
def HEARTH_HB_PATH_FAULT (f : Nat) : ErrBit := { page := 0xa + 1 * f, bit := 9, cls := 0 }
/-- PG_ERR bit 10 of the HEARTH page, default class 1, spec R244, R262. -/
def HEARTH_CMP_MISMATCH (f : Nat) : ErrBit := { page := 0xa + 1 * f, bit := 10, cls := 1 }
/-- PG_ERR bit 11 of the HEARTH page, default class 0, spec R244, R262. -/
def HEARTH_MIRROR_MISS (f : Nat) : ErrBit := { page := 0xa + 1 * f, bit := 11, cls := 0 }
/-- PG_ERR bit 12 of the HEARTH page, default class 1, spec R244, R262. -/
def HEARTH_SELFTEST_FAIL (f : Nat) : ErrBit := { page := 0xa + 1 * f, bit := 12, cls := 1 }
/-- PG_ERR bit 13 of the HEARTH page, default class 0, spec R244, R262. -/
def HEARTH_OWNER_CHANGE (f : Nat) : ErrBit := { page := 0xa + 1 * f, bit := 13, cls := 0 }
/-- PG_ERR bit 14 of the HEARTH page, default class 3, spec R244, R262. -/
def HEARTH_BOTH_HEARTHS_FAILED (f : Nat) : ErrBit := { page := 0xa + 1 * f, bit := 14, cls := 3 }
/-- PG_ERR bit 15 of the HEARTH page, default class 1, spec R244, R262. -/
def HEARTH_CMP_UNRESOLVED (f : Nat) : ErrBit := { page := 0xa + 1 * f, bit := 15, cls := 1 }
/-- PG_ERR bit 0 of the HTR page, default class 1, spec R219. -/
def HTR_MON_ADC_FAULT : ErrBit := { page := 0xc, bit := 0, cls := 1 }
/-- PG_ERR bit 1 of the HTR page, default class 0, spec R219. -/
def HTR_RANGE_PIN : ErrBit := { page := 0xc, bit := 1, cls := 0 }
/-- PG_ERR bit 2 of the HTR page, default class 1, spec R219. -/
def HTR_HTR_DAC_FAULT : ErrBit := { page := 0xc, bit := 2, cls := 1 }
/-- PG_ERR bit 3 of the HTR page, default class 1, spec R219. -/
def HTR_HTR_OVER_BUDGET : ErrBit := { page := 0xc, bit := 3, cls := 1 }
/-- PG_ERR bit 0 of the THERMAL page, default class 0, spec R95. -/
def THERMAL_BAND_RAISE : ErrBit := { page := 0xd, bit := 0, cls := 0 }
/-- PG_ERR bit 1 of the THERMAL page, default class 1, spec R95. -/
def THERMAL_SENSOR_FAULT : ErrBit := { page := 0xd, bit := 1, cls := 1 }
/-- PG_ERR bit 2 of the THERMAL page, default class 4, spec R95. -/
def THERMAL_THERMAL_TRIP : ErrBit := { page := 0xd, bit := 2, cls := 4 }
/-- PG_ERR bit 3 of the THERMAL page, default class 1, spec R95. -/
def THERMAL_HTR_RAIL_LOST : ErrBit := { page := 0xd, bit := 3, cls := 1 }
/-- PG_ERR bit 0 of the LANE page, default class 2, spec R297, R324. -/
def LANE_LOCK_LOST (f : Nat) : ErrBit := { page := 0x20 + 4 * f, bit := 0, cls := 2 }
/-- PG_ERR bit 1 of the LANE page, default class 0, spec R297, R324. -/
def LANE_BRINGUP_FAIL (f : Nat) : ErrBit := { page := 0x20 + 4 * f, bit := 1, cls := 0 }
/-- PG_ERR bit 2 of the LANE page, default class 1, spec R297, R324. -/
def LANE_CABLING_FAULT (f : Nat) : ErrBit := { page := 0x20 + 4 * f, bit := 2, cls := 1 }
/-- PG_ERR bit 3 of the LANE page, default class 1, spec R297, R324. -/
def LANE_REVERSAL_CONFLICT (f : Nat) : ErrBit := { page := 0x20 + 4 * f, bit := 3, cls := 1 }
/-- PG_ERR bit 4 of the LANE page, default class 0, spec R297, R324. -/
def LANE_FEC_UNCORRECTABLE (f : Nat) : ErrBit := { page := 0x20 + 4 * f, bit := 4, cls := 0 }
/-- PG_ERR bit 5 of the LANE page, default class 0, spec R297, R324. -/
def LANE_HEADER_CRC (f : Nat) : ErrBit := { page := 0x20 + 4 * f, bit := 5, cls := 0 }
/-- PG_ERR bit 6 of the LANE page, default class 1, spec R297, R324. -/
def LANE_FIBRE_LONG (f : Nat) : ErrBit := { page := 0x20 + 4 * f, bit := 6, cls := 1 }
/-- PG_ERR bit 7 of the LANE page, default class 2, spec R297, R324. -/
def LANE_IDENTITY_CHANGE (f : Nat) : ErrBit := { page := 0x20 + 4 * f, bit := 7, cls := 2 }
/-- PG_ERR bit 8 of the LANE page, default class 0, spec R297, R324. -/
def LANE_SHEAF_KIND_BAD (f : Nat) : ErrBit := { page := 0x20 + 4 * f, bit := 8, cls := 0 }
/-- PG_ERR bit 16 of the LANE page, default class 2, spec R297, R324. -/
def LANE_LANE_FAILING (f : Nat) : ErrBit := { page := 0x20 + 4 * f, bit := 16, cls := 2 }
/-- PG_ERR bit 17 of the LANE page, default class 0, spec R297, R324. -/
def LANE_DETOUR_ACTIVE (f : Nat) : ErrBit := { page := 0x20 + 4 * f, bit := 17, cls := 0 }
/-- PG_ERR bit 18 of the LANE page, default class 1, spec R297, R324. -/
def LANE_DETOUR_NONE (f : Nat) : ErrBit := { page := 0x20 + 4 * f, bit := 18, cls := 1 }
/-- PG_ERR bit 0 of the UAHUS page, default class 3, spec R187. -/
def UAHUS_LINK_DOWN : ErrBit := { page := 0x40, bit := 0, cls := 3 }
/-- PG_ERR bit 1 of the UAHUS page, default class 1, spec R187. -/
def UAHUS_LINK_STALL : ErrBit := { page := 0x40, bit := 1, cls := 1 }
/-- PG_ERR bit 2 of the UAHUS page, default class 3, spec R187. -/
def UAHUS_CREDIT_VIOLATION : ErrBit := { page := 0x40, bit := 2, cls := 3 }
/-- PG_ERR bit 3 of the UAHUS page, default class 1, spec R187. -/
def UAHUS_CAP_MISMATCH : ErrBit := { page := 0x40, bit := 3, cls := 1 }
/-- PG_ERR bit 4 of the UAHUS page, default class 1, spec R187. -/
def UAHUS_WINDOW_FAULT : ErrBit := { page := 0x40, bit := 4, cls := 1 }
/-- PG_ERR bit 5 of the UAHUS page, default class 1, spec R187. -/
def UAHUS_CLASS_BAD : ErrBit := { page := 0x40, bit := 5, cls := 1 }
/-- PG_ERR bit 6 of the UAHUS page, default class 0, spec R187. -/
def UAHUS_CTL_UNSUPPORTED : ErrBit := { page := 0x40, bit := 6, cls := 0 }
/-- PG_ERR bit 7 of the UAHUS page, default class 1, spec R187. -/
def UAHUS_HOST_STALL : ErrBit := { page := 0x40, bit := 7, cls := 1 }
/-- PG_ERR bit 8 of the UAHUS page, default class 1, spec R187. -/
def UAHUS_EQ_TABLE_BAD : ErrBit := { page := 0x40, bit := 8, cls := 1 }
/-- PG_ERR bit 0 of the BUNDLE page, default class 0, spec R187. -/
def BUNDLE_BUNDLE_CRC (f : Nat) : ErrBit := { page := 0x41 + 1 * f, bit := 0, cls := 0 }
/-- PG_ERR bit 1 of the BUNDLE page, default class 0, spec R187. -/
def BUNDLE_ELASTIC_OVERRUN (f : Nat) : ErrBit := { page := 0x41 + 1 * f, bit := 1, cls := 0 }
/-- PG_ERR bit 2 of the BUNDLE page, default class 0, spec R187. -/
def BUNDLE_LANE_SPARED (f : Nat) : ErrBit := { page := 0x41 + 1 * f, bit := 2, cls := 0 }
/-- PG_ERR bit 3 of the BUNDLE page, default class 1, spec R187. -/
def BUNDLE_BUNDLE_FAIL (f : Nat) : ErrBit := { page := 0x41 + 1 * f, bit := 3, cls := 1 }
/-- PG_ERR bit 0 of the CMD page, default class 0, spec R377. -/
def CMD_RING_BAD : ErrBit := { page := 0x50, bit := 0, cls := 0 }
/-- PG_ERR bit 1 of the CMD page, default class 1, spec R377. -/
def CMD_RING_FAULT : ErrBit := { page := 0x50, bit := 1, cls := 1 }
/-- PG_ERR bit 2 of the CMD page, default class 0, spec R377. -/
def CMD_CANCEL_OVERFLOW : ErrBit := { page := 0x50, bit := 2, cls := 0 }
/-- PG_ERR bit 3 of the CMD page, default class 0, spec R377. -/
def CMD_BAD_DESCRIPTOR : ErrBit := { page := 0x50, bit := 3, cls := 0 }
/-- PG_ERR bit 4 of the CMD page, default class 0, spec R377. -/
def CMD_NOTICE_DROPPED : ErrBit := { page := 0x50, bit := 4, cls := 0 }
/-- PG_ERR bit 0 of the TASK page, default class 0, spec R378. -/
def TASK_TASK_TIMEOUT : ErrBit := { page := 0x51, bit := 0, cls := 0 }
/-- PG_ERR bit 1 of the TASK page, default class 0, spec R378. -/
def TASK_TASK_ABORTED : ErrBit := { page := 0x51, bit := 1, cls := 0 }
/-- PG_ERR bit 2 of the TASK page, default class 0, spec R378. -/
def TASK_TAG_BUSY : ErrBit := { page := 0x51, bit := 2, cls := 0 }
/-- PG_ERR bit 0 of the SCHED page, default class 0, spec R350. -/
def SCHED_VERSION_MISS : ErrBit := { page := 0x52, bit := 0, cls := 0 }
/-- PG_ERR bit 1 of the SCHED page, default class 0, spec R350. -/
def SCHED_SCHED_MISMATCH : ErrBit := { page := 0x52, bit := 1, cls := 0 }
/-- PG_ERR bit 2 of the SCHED page, default class 1, spec R350. -/
def SCHED_ENTRY_BAD : ErrBit := { page := 0x52, bit := 2, cls := 1 }
/-- PG_ERR bit 3 of the SCHED page, default class 1, spec R350. -/
def SCHED_NO_ENTRY : ErrBit := { page := 0x52, bit := 3, cls := 1 }
/-- PG_ERR bit 4 of the SCHED page, default class 1, spec R350. -/
def SCHED_HOP_LIMIT : ErrBit := { page := 0x52, bit := 4, cls := 1 }
/-- PG_ERR bit 5 of the SCHED page, default class 0, spec R350. -/
def SCHED_ORPHAN : ErrBit := { page := 0x52, bit := 5, cls := 0 }
/-- PG_ERR bit 6 of the SCHED page, default class 0, spec R350. -/
def SCHED_SWAP_CAUGHT_UP : ErrBit := { page := 0x52, bit := 6, cls := 0 }
/-- PG_ERR bit 0 of the WEIR page, default class 0, spec R351. -/
def WEIR_NO_ROUTE : ErrBit := { page := 0x53, bit := 0, cls := 0 }
/-- PG_ERR bit 1 of the WEIR page, default class 1, spec R351. -/
def WEIR_WEIR_STALE : ErrBit := { page := 0x53, bit := 1, cls := 1 }
/-- PG_ERR bit 2 of the WEIR page, default class 1, spec R351. -/
def WEIR_POOL_SHORT : ErrBit := { page := 0x53, bit := 2, cls := 1 }
/-- PG_ERR bit 3 of the WEIR page, default class 1, spec R351. -/
def WEIR_OPEN_TARGET_FAULT : ErrBit := { page := 0x53, bit := 3, cls := 1 }
/-- PG_ERR bit 0 of the TALLY page, default class 0, spec R394. -/
def TALLY_RX_TALLY : ErrBit := { page := 0x54, bit := 0, cls := 0 }
/-- PG_ERR bit 1 of the TALLY page, default class 1, spec R394. -/
def TALLY_TX_TALLY : ErrBit := { page := 0x54, bit := 1, cls := 1 }
/-- PG_ERR bit 2 of the TALLY page, default class 1, spec R394. -/
def TALLY_VERIFY_FAIL : ErrBit := { page := 0x54, bit := 2, cls := 1 }
/-- PG_ERR bit 3 of the TALLY page, default class 1, spec R394. -/
def TALLY_DELIVERY_FAIL : ErrBit := { page := 0x54, bit := 3, cls := 1 }
/-- PG_ERR bit 4 of the TALLY page, default class 1, spec R394. -/
def TALLY_HOST_TALLY_MISMATCH : ErrBit := { page := 0x54, bit := 4, cls := 1 }
/-- PG_ERR bit 5 of the TALLY page, default class 1, spec R394. -/
def TALLY_RESIDUE : ErrBit := { page := 0x54, bit := 5, cls := 1 }
/-- PG_ERR bit 0 of the SHEPHERD page, default class 0, spec R323. -/
def SHEPHERD_SPARE_MOD : ErrBit := { page := 0x55, bit := 0, cls := 0 }
/-- PG_ERR bit 1 of the SHEPHERD page, default class 0, spec R323. -/
def SHEPHERD_SPARE_DROP : ErrBit := { page := 0x55, bit := 1, cls := 0 }
/-- PG_ERR bit 2 of the SHEPHERD page, default class 0, spec R323. -/
def SHEPHERD_SPARE_DET : ErrBit := { page := 0x55, bit := 2, cls := 0 }
/-- PG_ERR bit 3 of the SHEPHERD page, default class 1, spec R323. -/
def SHEPHERD_SPARE_EXHAUSTED : ErrBit := { page := 0x55, bit := 3, cls := 1 }
/-- PG_ERR bit 0 of the MILLER page, default class 0, spec R417. -/
def MILLER_IMEM_CE : ErrBit := { page := 0x60, bit := 0, cls := 0 }
/-- PG_ERR bit 1 of the MILLER page, default class 1, spec R417. -/
def MILLER_IMEM_UE : ErrBit := { page := 0x60, bit := 1, cls := 1 }
/-- PG_ERR bit 2 of the MILLER page, default class 0, spec R417. -/
def MILLER_DMEM_CE : ErrBit := { page := 0x60, bit := 2, cls := 0 }
/-- PG_ERR bit 3 of the MILLER page, default class 1, spec R417. -/
def MILLER_DMEM_UE : ErrBit := { page := 0x60, bit := 3, cls := 1 }
/-- PG_ERR bit 4 of the MILLER page, default class 1, spec R417. -/
def MILLER_PB_UE : ErrBit := { page := 0x60, bit := 4, cls := 1 }
/-- PG_ERR bit 0 of the MILL page, default class 1, spec R418. -/
def MILL_REGION_VIOLATION : ErrBit := { page := 0x61, bit := 0, cls := 1 }
/-- PG_ERR bit 1 of the MILL page, default class 1, spec R418. -/
def MILL_ACC_HELD_CONFLICT : ErrBit := { page := 0x61, bit := 1, cls := 1 }
/-- PG_ERR bit 2 of the MILL page, default class 0, spec R418. -/
def MILL_ILLEGAL_OP : ErrBit := { page := 0x61, bit := 2, cls := 0 }
/-- PG_ERR bit 0 of the GRANARY page, default class 0, spec R419. -/
def GRANARY_CE : ErrBit := { page := 0x62, bit := 0, cls := 0 }
/-- PG_ERR bit 1 of the GRANARY page, default class 1, spec R419. -/
def GRANARY_UE : ErrBit := { page := 0x62, bit := 1, cls := 1 }
/-- PG_ERR bit 2 of the GRANARY page, default class 1, spec R419. -/
def GRANARY_SCRUB_UE : ErrBit := { page := 0x62, bit := 2, cls := 1 }
/-- PG_ERR bit 3 of the GRANARY page, default class 1, spec R419. -/
def GRANARY_POISON_READ : ErrBit := { page := 0x62, bit := 3, cls := 1 }
/-- PG_ERR bit 4 of the GRANARY page, default class 0, spec R419. -/
def GRANARY_REMAP : ErrBit := { page := 0x62, bit := 4, cls := 0 }
/-- PG_ERR bit 0 of the SIEVE page, default class 1, spec R495. -/
def SIEVE_LIST_ORDER : ErrBit := { page := 0x63, bit := 0, cls := 1 }
/-- PG_ERR bit 1 of the SIEVE page, default class 0, spec R495. -/
def SIEVE_CENSUS_BAD : ErrBit := { page := 0x63, bit := 1, cls := 0 }
/-- PG_ERR bit 0 of the LOOM page, default class 0, spec R516. -/
def LOOM_PWL_BAD : ErrBit := { page := 0x64, bit := 0, cls := 0 }
/-- PG_ERR bit 1 of the LOOM page, default class 0, spec R516. -/
def LOOM_CURVE_BUSY : ErrBit := { page := 0x64, bit := 1, cls := 0 }
/-- PG_ERR bit 2 of the LOOM page, default class 1, spec R516. -/
def LOOM_CHAIN_BAD : ErrBit := { page := 0x64, bit := 2, cls := 1 }
/-- PG_ERR bit 0 of the TRACE page, default class 0, spec R450. -/
def TRACE_TRACE_DROPPED : ErrBit := { page := 0x65, bit := 0, cls := 0 }

end Sys2Proof.Machine.Err

namespace Sys2Proof.Machine

/-- The default classes of a page's own error bits, as (bit, class) pairs; bits not listed are CORRECTED (R542). -/
def pageErrBits (page : Nat) : List (Nat × Nat) :=
  if page = 0x0 then [(0, 0), (1, 0)] else
  if page = 0x1 then [(0, 0), (1, 1), (2, 1), (3, 1), (4, 0), (5, 0), (6, 2), (7, 1)] else
  if page = 0x2 then [(0, 4), (1, 4)] else
  if page = 0x3 then [(0, 1), (1, 1), (2, 1), (3, 1), (4, 1), (5, 0), (6, 1)] else
  if page = 0x4 then [(0, 0), (1, 1), (2, 1)] else
  if page = 0x5 then [(0, 0), (1, 1), (2, 1)] else
  if page = 0x6 then [(0, 1), (1, 0), (2, 0)] else
  if page = 0x7 then [(0, 1), (1, 0), (2, 0), (3, 1), (4, 0)] else
  if page = 0x8 then [(0, 0), (1, 0), (2, 0), (3, 0), (4, 0), (5, 0), (6, 0)] else
  if page = 0x9 then [(0, 1), (1, 1), (2, 1), (3, 0), (4, 0), (5, 1), (6, 0), (7, 3)] else
  if page = 0x0A ∨ page = 0x0B then [(0, 0), (1, 1), (2, 0), (3, 1), (4, 0), (5, 1), (8, 1), (9, 0), (10, 1), (11, 0), (12, 1), (13, 0), (14, 3), (15, 1)] else
  if page = 0xc then [(0, 1), (1, 0), (2, 1), (3, 1)] else
  if page = 0xd then [(0, 0), (1, 1), (2, 4), (3, 1)] else
  if page % 4 = 0 ∧ 0x20 ≤ page ∧ page < 0x40 then [(0, 2), (1, 0), (2, 1), (3, 1), (4, 0), (5, 0), (6, 1), (7, 2), (8, 0), (16, 2), (17, 0), (18, 1)] else
  if page = 0x40 then [(0, 3), (1, 1), (2, 3), (3, 1), (4, 1), (5, 1), (6, 0), (7, 1), (8, 1)] else
  if 0x41 ≤ page ∧ page ≤ 0x46 then [(0, 0), (1, 0), (2, 0), (3, 1)] else
  if page = 0x50 then [(0, 0), (1, 1), (2, 0), (3, 0), (4, 0)] else
  if page = 0x51 then [(0, 0), (1, 0), (2, 0)] else
  if page = 0x52 then [(0, 0), (1, 0), (2, 1), (3, 1), (4, 1), (5, 0), (6, 0)] else
  if page = 0x53 then [(0, 0), (1, 1), (2, 1), (3, 1)] else
  if page = 0x54 then [(0, 0), (1, 1), (2, 1), (3, 1), (4, 1), (5, 1)] else
  if page = 0x55 then [(0, 0), (1, 0), (2, 0), (3, 1)] else
  if page = 0x60 then [(0, 0), (1, 1), (2, 0), (3, 1), (4, 1)] else
  if page = 0x61 then [(0, 1), (1, 1), (2, 0)] else
  if page = 0x62 then [(0, 0), (1, 1), (2, 1), (3, 1), (4, 0)] else
  if page = 0x63 then [(0, 1), (1, 0)] else
  if page = 0x64 then [(0, 0), (1, 0), (2, 1)] else
  if page = 0x65 then [(0, 0)] else
  []

/-- How many counters a page has (PG_CAP.NUM_COUNTERS, R97). -/
def numCounters (page : Nat) : Nat :=
  if page = 0x0 then 4 else
  if page = 0x1 then 8 else
  if page = 0x2 then 1 else
  if page = 0x3 then 6 else
  if page = 0x4 then 2 else
  if page = 0x5 then 7 else
  if page = 0x6 then 5 else
  if page = 0x7 then 11 else
  if page = 0x8 then 14 else
  if page = 0x9 then 7 else
  if page = 0x0A ∨ page = 0x0B then 15 else
  if page = 0xc then 5 else
  if page = 0xd then 7 else
  if page % 4 = 2 ∧ 0x20 ≤ page ∧ page < 0x40 then 22 else
  if page = 0x40 then 11 else
  if 0x41 ≤ page ∧ page ≤ 0x46 then 7 else
  if page = 0x50 then 13 else
  if page = 0x51 then 8 else
  if page = 0x52 then 9 else
  if page = 0x53 then 7 else
  if page = 0x54 then 8 else
  if page = 0x55 then 10 else
  if page = 0x60 then 7 else
  if page = 0x61 then 8 else
  if page = 0x62 then 10 else
  if page = 0x63 then 6 else
  if page = 0x64 then 8 else
  if page = 0x65 then 4 else
  0

/-- Whether counter `n` of a page is a keep-alive counter (R120, R557). -/
def ctrKeepAlive (page n : Nat) : Bool :=
  (page == 0x00 && (n == 1 || n == 2)) || (page == 0x05 && n == 6)

end Sys2Proof.Machine
end

