-- ==== Sys2Proof/Machine/Hdr.lean ====
section
/-! DEFINITION. Sys2Proof/Machine/Hdr.lean: the common header of every page (spec/04): its fields, which pages are
present, what PG_CAP reports, and which line of the Alarm collector a page drives (R533). -/

namespace Sys2Proof.Machine

/-- The pages of the device in ascending order (R99). -/
def presentPages : List Nat :=
  (List.range 14) ++ ((List.range 32).map (0x20 + ·)) ++ ((List.range 7).map (0x40 + ·))
    ++ ((List.range 6).map (0x50 + ·)) ++ ((List.range 6).map (0x60 + ·))

/-- Whether page `p` is present (R99). -/
def pagePresent (p : Nat) : Bool :=
  p < 14 || (0x20 ≤ p && p < 0x47) || (0x50 ≤ p && p < 0x56) || (0x60 ≤ p && p < 0x66)

/-- PG_ID.BLOCK_TYPE (R99). -/
def blockType (p : Nat) : Nat :=
  if p ≤ 0x0A then p + 1 else if p ≤ 0x0D then p
  else if p < 0x40 then 0x20 + p % 4
  else if p = 0x40 then 0x40 else if p < 0x50 then 0x41
  else p

/-- PG_ID.INSTANCE (R99). -/
def blockInstance (p : Nat) : Nat :=
  if p = 0x0B then 1 else if 0x20 ≤ p ∧ p < 0x40 then (p - 0x20) / 4
  else if 0x41 ≤ p ∧ p < 0x47 then p - 0x41 else 0

/-- PG_CAP.SHADOW_OK: the pages with shadowed state (R107, R187, R244, R350, R516). -/
def shadowOk (p : Nat) : Bool := p == 0x0A || p == 0x0B || p == 0x40 || p == 0x52 || p == 0x64

/-- PG_CAP.SRST_OK: the two Hearth pages only (R100). -/
def srstOk (p : Nat) : Bool := p == 0x0A || p == 0x0B

/-- PG_CAP.INJECT_OK: the pages with a checker in R546. -/
def injectOk (p : Nat) : Bool :=
  (0x20 ≤ p && p < 0x40 && p % 4 == 0) || p == 0x40 || p == 0x54 || p == 0x62 || p == 0x60 || p == 0x06

/-- The data-plane pages: those of the data-plane parts that R29's table names (log entry 5). -/
def dataPlanePage (p : Nat) : Bool := (0x50 ≤ p && p ≤ 0x54) || (0x60 ≤ p && p ≤ 0x64)

/-- The line of the Alarm collector that a page drives (R533). -/
def alarmLine (p : Nat) : Option Nat :=
  if p ≤ 2 then some p else if p ≤ 4 then some 3 else if p = 5 then some 4 else if p = 6 then some 5
  else if p ≤ 8 then some 6 else if p ≤ 0x0D then some (p - 2)
  else if 0x20 ≤ p ∧ p < 0x40 then (if p % 4 = 0 then some (12 + (p - 0x20) / 4) else none)
  else if 0x40 ≤ p ∧ p < 0x47 then some 20 else if p = 0x50 ∨ p = 0x51 then some 21
  else if 0x52 ≤ p ∧ p ≤ 0x55 then some (p - 0x30 - 12)
  else if p = 0x60 ∨ p = 0x65 then some 26 else if p = 0x61 then some 27 else if p = 0x62 then some 28
  else if p = 0x63 ∨ p = 0x64 then some 29 else none

/-- The pages that drive line `n` (R533). -/
def linePages (n : Nat) : List Nat := presentPages.filter (fun p => alarmLine p == some n)

/-- The default class of PG_ERR bit `b` of page `p` (R102, R542). -/
def defaultClass (p b : Nat) : Nat :=
  if b = 31 then 1 else if b = 30 then 0 else ((pageErrBits p).find? (fun e => e.1 == b)).elim 0 (·.2)

/-- PG_ERR_CLASS.FIXED: only THERMAL_TRIP's class is fixed (R95, R542). -/
def classFixed (p b : Nat) : Bool := p == 0x0D && b == 2

namespace Hdr

/-- PG_ERR of page `p`, all 32 bits (R102). -/
def PG_ERR (p : Nat) : Fld := { page := p, off := 0x14, lo := 0, width := 32, reset := 0, ka := false }
/-- PG_ERR_MASK of page `p` (R103). -/
def PG_ERR_MASK (p : Nat) : Fld := { page := p, off := 0x18, lo := 0, width := 32, reset := 0, ka := true }
/-- PG_ERR_FIRST.VALID (R104). -/
def PG_ERR_FIRST_VALID (p : Nat) : Fld := { page := p, off := 0x1C, lo := 31, width := 1, reset := 0, ka := false }
/-- PG_ERR_FIRST.CODE (R104). -/
def PG_ERR_FIRST_CODE (p : Nat) : Fld := { page := p, off := 0x1C, lo := 26, width := 5, reset := 0, ka := false }
/-- PG_ERR_FIRST.BELL (R104). -/
def PG_ERR_FIRST_BELL (p : Nat) : Fld := { page := p, off := 0x1C, lo := 0, width := 24, reset := 0, ka := false }
/-- PG_ERR_INJECT.CHECKER (R106). -/
def INJ_CHECKER (p : Nat) : Fld := { page := p, off := 0x20, lo := 24, width := 4, reset := 0, ka := false }
/-- PG_ERR_INJECT.COUNT (R106). -/
def INJ_COUNT (p : Nat) : Fld := { page := p, off := 0x20, lo := 0, width := 16, reset := 0, ka := false }
/-- PG_ERR_CLASS.CLASS of PG_ERR bit `b` (R105). -/
def CLASS (p b : Nat) : Fld :=
  { page := p, off := 0x24, lo := 0, width := 3, reset := defaultClass p b, ka := true, idx := 8 + b }
/-- PG_ERR_CLASS.SEL of access path `path` (R105). -/
def CLASS_SEL (p path : Nat) : Fld :=
  { page := p, off := 0x24, lo := 8, width := 5, reset := 0, ka := false, idx := 2 + path }
/-- PG_CTRL.SNAP_VIEW (R119). -/
def SNAP_VIEW (p : Nat) : Fld := { page := p, off := 0x0C, lo := 2, width := 1, reset := 0, ka := false }
/-- PG_STATUS.SRST_BUSY (R101). -/
def SRST_BUSY (p : Nat) : Fld := { page := p, off := 0x10, lo := 1, width := 1, reset := 0, ka := false }
/-- PG_STATUS.READY. -/
def READY (p : Nat) : Fld := { page := p, off := 0x10, lo := 0, width := 1, reset := 0, ka := false }
/-- PG_SWAP.SWAPS (R111). -/
def SWAPS (p : Nat) : Fld := { page := p, off := 0x28, lo := 24, width := 8, reset := 0, ka := false }
/-- PG_SWAP.STATE: 0 IDLE, 1 ARMED, 2 DONE, 3 LATE (R108). -/
def SWAP_STATE (p : Nat) : Fld := { page := p, off := 0x28, lo := 6, width := 2, reset := 0, ka := false }
/-- PG_SWAP.FOLLOW (R108). -/
def FOLLOW (p : Nat) : Fld := { page := p, off := 0x28, lo := 5, width := 1, reset := 1, ka := true }
/-- PG_SWAP.DEV (R108). -/
def DEV (p : Nat) : Fld := { page := p, off := 0x28, lo := 4, width := 1, reset := 0, ka := false }
/-- PG_SWAP.SHADOW_WRITTEN (R111). -/
def SHADOW_WRITTEN (p : Nat) : Fld := { page := p, off := 0x28, lo := 3, width := 1, reset := 0, ka := false }
/-- PG_SWAP_BELL_LO (R109). -/
def SWAP_BELL_LO (p : Nat) : Fld := { page := p, off := 0x2C, lo := 0, width := 32, reset := 0, ka := false }
/-- PG_SWAP_BELL_HI (R109). -/
def SWAP_BELL_HI (p : Nat) : Fld := { page := p, off := 0x30, lo := 0, width := 16, reset := 0, ka := false }
/-- PG_SNAP_BELL, both halves (R118, R119). -/
def SNAP_BELL (p : Nat) : Fld := { page := p, off := 0x38, lo := 0, width := 48, reset := 0, ka := false }
/-- PG_CNT_OVF.OVF (R117). -/
def CNT_OVF (p : Nat) : Fld := { page := p, off := 0xFF0, lo := 0, width := 24, reset := 0, ka := false }

end Hdr

end Sys2Proof.Machine
end

