-- ==== Sys2Proof/Machine/State.lean ====
section
/-! DEFINITION. Sys2Proof/Machine/State.lean: the whole state of the IZ5 as plain data, and the state after a cold
reset. Every register field of the pages lives in `regs` under its own key and reads as its reset value until it is
written; what the spec gives the machine beyond its registers stands in the records below, chapter by chapter. -/

namespace Sys2Proof.Machine

/-- One Ledger entry (R550). -/
structure Entry where
  bell     : Nat
  page     : Nat
  code     : Nat
  cls      : Nat
  tag      : EntryTag
  masked   : Bool
  injected : Bool
  prefetch : Bool
  record   : Bool
  rep      : Bool
  cycle    : Nat
  seq      : Nat
  detail   : Nat
  deriving DecidableEq, Repr

/-- An empty Ledger entry: SEQ 0 (R550). -/
def Entry.empty : Entry :=
  { bell := 0, page := 0, code := 0, cls := 0, tag := .none, masked := false, injected := false, prefetch := false,
    record := false, rep := false, cycle := 0, seq := 0, detail := 0 }

/-- The Ledger beyond its registers: ring, write queue and last-gasp file (R549 to R556). -/
structure LedgerState where
  /-- Ring entries by index 0–2,047; unlisted entries are empty (R549). -/
  ring     : Map Entry
  /-- The 64-entry write queue, oldest first (R553). -/
  queue    : List Entry
  /-- The last-gasp file, at most eight entries (R555). -/
  gasp     : List Entry
  /-- An overflow episode is in progress (R553). -/
  overflow : Bool
  deriving DecidableEq, Repr

/-- A rising whose EVENT, IRQ, FREEZE and WARM reactions wait for the next boundary (R537). -/
structure Rising where
  page  : Nat
  bit   : Nat
  cls   : Nat
  tag   : EntryTag
  react : Nat
  deriving DecidableEq, Repr

/-- The Alarm collector beyond its registers (R537 to R545). Times are in bell boundaries since cold reset. -/
structure AlarmState where
  /-- Risings of this bell, in ascending page order, then bit order (R537). -/
  pend       : List Rising
  /-- A FREEZE reaction is due (R540). -/
  freezeDue  : Bool
  /-- A WARM reaction is due (R541). -/
  warmDue    : Bool
  /-- The boundary at which the minimum of the assertion ends (keep-alive, R543, R544). -/
  minEnd     : Nat
  /-- The boundary count in which the assertion began (keep-alive, R545). -/
  driveStart : Nat
  /-- A release has been accepted since the last rising of the assertion (keep-alive, R543). -/
  released   : Bool
  /-- The boundary count of the last release plus one; 0: none (R545). -/
  relMark    : Nat
  /-- Consecutive high samples while driving (R545). -/
  highRun    : Nat
  /-- ALARM_PIN_FAULT was raised in this assertion (R545). -/
  pinRaised  : Bool
  /-- Consecutive low samples while not driving (R545). -/
  lowRun     : Nat
  /-- ALARM_STUCK was raised in this episode (R545). -/
  stuckRaised : Bool
  deriving DecidableEq, Repr

/-- The pages' counter machinery beyond the counters themselves (R115, R116, R118). -/
structure PageState where
  /-- Snapshot copies of the counters, by 32 × page + counter (R118). -/
  snap    : Map Nat
  /-- Pages whose snapshot is requested for the next boundary (R118). -/
  snapReq : List Nat
  /-- Holding registers by 256 × path + page: counter number plus 1, times 2^32, plus the latched HI half (R115). -/
  hold    : Map Nat
  /-- Write-holding registers by 256 × path + page (R116). -/
  whold   : Map Nat
  /-- A function reset is requested for the next boundary (R122). -/
  funcReq : Bool
  /-- A function reset has come due at the boundary just passed (R144). -/
  funcDue : Bool
  deriving DecidableEq, Repr

/-- What a lane pair knows of time and of its far end's bell (R38 to R48). Phases are in 1/256 symbol. -/
structure LaneTime where
  /-- TT_STATE, TT_DEPTH, TT_ROOT_ID and TT_ROOT_EPOCH last received; `seenHdr` says that any were. -/
  seenHdr : Bool
  state   : Nat
  depth   : Nat
  rootId  : Nat
  epoch   : Nat
  /-- The apparent delay this end measured on the frame that landed last. -/
  mine    : Option Nat
  /-- The far end's TT_SEEN last received. -/
  seen    : Option Nat
  /-- The far end's fibre skew from its EXCHANGE message, 10 ps. -/
  farSkew : Int
  /-- θ of the last frame, times 250 (R45). -/
  theta   : Option Int
  /-- Sum of θ × 250 over the frames of the running average, and their number. -/
  sum     : Int
  count   : Nat
  /-- The last 64-bell sum (the average times 16,000). -/
  avg     : Option Int
  /-- BELL_NUMBER_CONFLICT was raised in this episode. -/
  conflict : Bool
  deriving DecidableEq, Repr

/-- A lane whose far end has sent nothing. -/
def LaneTime.blank : LaneTime :=
  { seenHdr := false, state := 0, depth := 7, rootId := 0, epoch := 0, mine := Option.none, seen := Option.none,
    farSkew := 0, theta := Option.none, sum := 0, count := 0, avg := Option.none, conflict := false }

/-- The bell logic beyond its registers (R34 to R56). -/
structure BellState where
  /-- Time knowledge of each lane pair by 32 × ferry + lane. -/
  lanes        : Map LaneTime
  /-- 0: not joining, 1: measuring before the join step, 2: measuring after it (R43). -/
  joinPhase    : Nat
  /-- The number the next boundary takes in place of the increment (R43, R52). -/
  nextNum      : Option Nat
  /-- Symbols by which the running bell is lengthened (R43). -/
  lengthen     : Nat
  /-- Failed joins, and the boundary count before which no new attempt starts (R43). -/
  joinFails    : Nat
  joinAfter    : Nat
  /-- The steer at which LOCKED was reached, parts per 10^9 (R34). -/
  steerRef     : Int
  /-- HOLDOVER begins at the next boundary (R50, R67). -/
  toHoldover   : Bool
  /-- Consecutive bells in HOLDOVER (R40, R51, R54). -/
  holdBells    : Nat
  /-- HOLDOVER_LONG was raised in this holdover (R51). -/
  longRaised   : Bool
  /-- The chiplet becomes root at the next boundary (R52, R56). -/
  rootReq      : Bool
  /-- The chiplet stops acting as root at the next boundary (R56). -/
  rootClear    : Bool
  /-- The highest root epoch seen (R52). -/
  highEpoch    : Option Nat
  /-- The boundary count at which the first lane reached EXCHANGE since reset (R52). -/
  firstExchange : Option Nat
  /-- The boundary count of the last accepted TIME_IN edge (R53). -/
  ppsLast      : Option Nat
  /-- Latched upper bits of the bell number, by path; value plus 1 (R36). -/
  numHold      : Map Nat
  deriving DecidableEq, Repr

/-- The pins and rails the block sees or drives, beyond those that registers report (spec/03). -/
structure Pins where
  /-- RESET_N is high (R18, R142). -/
  resetN   : Bool
  /-- PWR_OK is high (R81). -/
  pwrOk    : Bool
  /-- TEST_EN is high (R73). -/
  testEn   : Bool
  /-- The straps as the board ties them: SMB_ADDR[2:0], then BOOT_SRC[1:0] (R72). -/
  smbStrap : Nat
  /-- BOOT_SRC[1:0] as the board ties it (R72). -/
  bootStrap : Nat
  /-- THERM_N is driven low (R94). -/
  thermN   : Bool
  /-- BELL_OUT gave its pulse at the last boundary (R60). -/
  bellOut  : Bool
  deriving DecidableEq, Repr

/-- The thermal logic beyond its registers (R85 to R91). -/
structure ThermalState where
  /-- Consecutive bells below the leave threshold (R87). -/
  fallCount : Nat
  /-- A band decided and waiting for the next boundary (R88). -/
  pendBand  : Option Nat
  /-- Every transmit lane is dark (R90). -/
  txDark    : Bool
  /-- TRIP_CLEAR was accepted; transmit is re-enabled at the next boundary (R91). -/
  clearPend : Bool
  deriving DecidableEq, Repr

/-- One Uahus window entry: host base, attribute byte, permissions and length in 4 KiB pages (R181). -/
structure Window where
  base  : Nat
  attr  : Nat
  write : Bool
  read  : Bool
  pages : Nat
  deriving DecidableEq, Repr

/-- The reset value of a window entry: all fields 0, so the entry is invalid (R181). -/
def Window.blank : Window := { base := 0, attr := 0, write := false, read := false, pages := 0 }

/-- One set of everything that is shadowed by exchange (R107): the table views, the window table, the crosstalk
matrices and the curve tables. -/
structure TableSet where
  /-- The bytes of the schedule, group, detour, landing and open-route tables by offset in a view (R326). -/
  sched : Map Byte
  /-- The 256 window entries (R181). -/
  win   : Map Window
  /-- Crosstalk elements of Hearth A by (256 × ferry + row) × 9 + k, k = 0 … 8 for C[i][i−4] … C[i][i+4] (R230). -/
  xtA   : Map Nat
  /-- Crosstalk elements of Hearth B (R230). -/
  xtB   : Map Nat
  /-- The PWL words of one bank by 80 × table + word (R511). -/
  pwl   : Map Nat
  deriving DecidableEq, Repr

/-- Table contents at a cold reset. -/
def TableSet.reset : TableSet := { sched := [], win := [], xtA := [], xtB := [], pwl := [] }

/-- The Almanac working copy in the keep-alive domain (R138, R139). -/
structure Almanac where
  /-- Body bytes; unlisted bytes are 0. -/
  body  : Map Byte
  len   : Nat
  /-- The CRC-32C kept with the working copy (R139). -/
  crc   : Nat
  /-- The working copy holds an Almanac. -/
  held  : Bool
  /-- The fields its body holds. -/
  data  : AlmData
  /-- The body whose calibration is in use: as step 5 took it (R578). -/
  used  : Map Byte
  /-- ALM_WRITE has changed the body since step 5 took it (R578). -/
  edited : Bool
  deriving DecidableEq, Repr

/-- What is known of the Reeve image that runs (R131, R134, R135). -/
structure ReeveImage where
  version : Nat
  svn     : Nat
  slot    : Nat
  key     : List Byte
  pairing : List (Nat × Nat)
  deriving DecidableEq, Repr

/-- Start-up, flash, security and cold-relock state beyond the BOOT and SEC pages (spec/05). -/
structure BootState where
  /-- Start-up is running or complete; false while a reset is held. -/
  running   : Bool
  /-- This start follows a warm reset (R139). -/
  warm      : Bool
  /-- Failures so far at the current step (R127). -/
  fails     : Nat
  /-- The back-off after a failed attempt is running (R127). -/
  inBackoff : Bool
  /-- Failures so far of each ferry's relock (R146). -/
  ferryFails : Map Nat
  /-- Ferries that still need a cold relock, in order (R146). -/
  relockTodo : List Nat
  /-- Ferries whose lane bring-up has been started (R125, step 9), as a mask. -/
  lanesStarted : Nat
  /-- Steps 5 and 6 have run in LIMP (R136). -/
  limpSteps : Nat
  reeve     : Option ReeveImage
  /-- VERSION and SVN of the Hearth image loaded (R133). -/
  hearthVer : Option Nat
  /-- VERSION of the Pattern Book overlay loaded (R135). -/
  overlayVer : Option Nat
  /-- The SPI NOR flash; erased bytes are 0xFF (R130). -/
  flash     : Map Byte
  /-- The window operation in flight: OP and address (R152). -/
  flashOp   : Option (Nat × Nat)
  /-- The commit in flight: target section and SEQ (R140). -/
  commit    : Option (Nat × Nat)
  /-- SEC_NONCE (R150). -/
  nonce     : Nat
  /-- The latched upper nonce half of each path (R150). -/
  nonceHold : Map Nat
  deriving DecidableEq, Repr

/-- One bundle beyond its page (R160, R173, R184). -/
structure BundleState where
  /-- Failures in a row, and the boundary count at which the back-off ends. -/
  fails     : Nat
  backoffTo : Option Nat
  /-- The boundary count at which the stage was entered. -/
  since     : Nat
  /-- It has been ACTIVE since reset (BUNDLE_FAIL). -/
  wasActive : Bool
  /-- Boundary counts of the CRC discards of the last 16 bells (R173). -/
  crcAt     : List Nat
  /-- Consecutive flits with a bad CRC (R184). -/
  crcRun    : Nat
  deriving DecidableEq, Repr

/-- A bundle in DETECT. -/
def BundleState.blank : BundleState :=
  { fails := 0, backoffTo := none, since := 0, wasActive := false, crcAt := [], crcRun := 0 }

/-- One DATA flit as held for replay, or as received (R165, R171). -/
structure Flit where
  seq     : Nat
  cls     : Nat
  first   : Bool
  last    : Bool
  payload : List Byte
  slot    : Nat
  deriving DecidableEq, Repr

/-- One DMA read of the IZ5 that awaits its completion (R179): its tag, request, and what it is for. -/
structure DmaRead where
  tag  : Nat
  slot : Nat
  addr : Nat
  len  : Nat
  deriving DecidableEq, Repr

/-- The host link beyond its pages (spec/06). -/
structure UahusState where
  bundles  : Map BundleState
  /-- Transactions waiting to be sent, oldest first. -/
  waiting  : List HostTx
  /-- Flits of a transaction whose sending has begun, not yet issued. -/
  sending  : List Flit
  /-- The replay buffer, at most 1,024 flits (R171). -/
  held     : List Flit
  nextSeq  : Nat
  /-- The boundary count of the last ACK progress (R173). -/
  ackAt    : Nat
  /-- The SEQ expected next, and whether any DATA flit has been received (R165). -/
  rxNext   : Nat
  rxAny    : Bool
  /-- A NAK has been sent and the flit after ACK has not arrived (R172). -/
  nakWait  : Bool
  /-- Flits that arrived ahead of a gap (R168). -/
  reorder  : List Flit
  /-- The payload so far of the transaction being received in each class (R174). -/
  partials : Map (List Byte)
  /-- Transactions received and not yet carried out. -/
  inbox    : List HostTx
  /-- Credits held for sending, by class (R174). -/
  credits  : Map Nat
  /-- The last CR_COUNT seen, by class. -/
  crSeen   : Map Nat
  /-- Flits of buffer freed since EXCHANGE, by class, 16 bits. -/
  freed    : Map Nat
  /-- Receive buffer left, by class (R175). -/
  room     : Map Nat
  /-- The capability words that the first bundle fixed (R180). -/
  caps     : Option (List Nat)
  /-- The boundary count at which the last ACTIVE bundle left (R185); none: up, or never up. -/
  downAt   : Option Nat
  downRaised : Bool
  /-- The boundary count of the last MEM credit or completion (R186). -/
  memAt    : Nat
  stallRaised : Bool
  /-- DMA reads outstanding, at most 256 (R179). -/
  reads    : List DmaRead
  nextTag  : Nat
  /-- Task slots that lost MEM traffic to LINK_DOWN (R185). -/
  lost     : List Nat
  deriving DecidableEq, Repr

/-- The host link at a reset. -/
def UahusState.reset : UahusState :=
  { bundles := [], waiting := [], sending := [], held := [], nextSeq := 0, ackAt := 0, rxNext := 0, rxAny := false,
    nakWait := false, reorder := [], partials := [], inbox := [], credits := [], crSeen := [], freed := [], room := [],
    caps := none, downAt := none, downRaised := false, memAt := 0, stallRaised := false, reads := [], nextTag := 0,
    lost := [] }

/-- A line move in progress (R191): the line, its new source, and whether the line is at level there. -/
structure LineMove where
  line  : Nat
  dst   : Source
  level : Bool
  deriving DecidableEq, Repr

/-- The Lantern beyond its registers (R189 to R202). -/
structure LanternState where
  /-- The select switches in force, shaped as the words of LANTERN_SEL (R189). -/
  sel       : Map Nat
  /-- Inputs lost, bit 0 LA, bit 1 LB (R192). -/
  lost      : Nat
  /-- The boundary count at which each input was lost, by source (R194). -/
  lostAt    : Map Nat
  /-- The words of LANTERN_SEL before the loss (R194). -/
  before    : Map Nat
  /-- The source to which lines are being moved back (R194). -/
  returning : Option Source
  /-- Failed lines, bit 32 × source + line (R195). -/
  failed    : Nat
  move      : Option LineMove
  /-- The level last asked of each line, by 32 × source + line, as 16 bits (R190). -/
  asked     : Map Nat
  /-- Bus work that is due, oldest first (R200, R201). -/
  work      : List BusWork
  /-- Retries of the transaction at the front (R200). -/
  retries   : Nat
  /-- The back-off of the stuck-bus episode, and the boundary count before which no attempt is made (R201). -/
  backoff   : Nat
  retryAt   : Nat
  /-- Modules accepted by identity, bit 0 LA, bit 1 LB (R202). -/
  accepted  : Nat
  /-- The boundary count at which READ_HOURS next falls due (R200). -/
  hoursAt   : Nat
  deriving DecidableEq, Repr

/-- The Lantern at a cold reset. -/
def LanternState.reset : LanternState :=
  { sel := [], lost := 0, lostAt := [], before := [], returning := none, failed := 0, move := none, 
    asked := [], work := [], retries := 0, backoff := 1, retryAt := 0, accepted := 0, hoursAt := 0 }

/-- The bias record of one line of one source (R524), in 0.1 mA: the first bias, the latest rise, whether BIAS_AGEING
was raised, and whether the next drawn-level poll becomes the first bias. -/
structure Ageing where
  first  : Option Nat
  rise   : Int
  raised : Bool
  renew  : Bool
  deriving DecidableEq, Repr

/-- A line with no first bias. -/
def Ageing.blank : Ageing := { first := Option.none, rise := 0, raised := false, renew := false }

/-- One monitor channel (R213 to R217): the range in use, the last sample word, whether a range change was decided from
it, the run of RANGE_MOVE samples, and the loop samples left of a pin. -/
structure Monitor where
  range : Nat
  word  : Nat
  moved : Bool
  run   : Nat
  pin   : Option Nat
  deriving DecidableEq, Repr

/-- A monitor channel that has not been sampled. -/
def Monitor.blank : Monitor := { range := 0, word := 0, moved := false, run := 0, pin := Option.none }

/-- One loop of a Hearth (R220, R224, R228): powers in 1/2,048 mW, errors as exact fractions. -/
structure Loop where
  /-- 0 OFF, 1 WAIT, 2 ACQUIRE, 3 LOCKED, 4 HOLD, 5 LIMIT. -/
  st        : Nat
  base      : Int
  second    : Int
  /-- e of the last update that had one, numerator and denominator. -/
  eNum      : Int
  eDen      : Int
  /-- The dither sign in force: true is +. -/
  sign      : Bool
  yPlus     : Option Nat
  yMinus    : Option Nat
  lockRun   : Nat
  unlockRun : Nat
  acquired  : Nat
  failed    : Bool
  /-- Episodes of PARK_NEAR and HEADROOM_LOW (R227, R238). -/
  parkNear  : Bool
  headLow   : Bool
  /-- The next update is the first after a warm start: no dither has been applied (R242). -/
  fresh     : Bool
  deriving DecidableEq, Repr

/-- A loop that is OFF. -/
def Loop.blank : Loop :=
  { st := 0, base := 0, second := 0, eNum := 0, eDen := 1, sign := false, yPlus := none, yMinus := none, lockRun := 0,
    unlockRun := 0, acquired := 0, failed := false, parkNear := false, headLow := false, fresh := false }

/-- One Hearth beyond its page (R245 to R261). -/
structure HearthUnit where
  loops     : Map Loop
  /-- Target powers by heater number, 1/2,048 mW (R230). -/
  targets   : Map Int
  /-- The codes this Hearth commands by heater number (R232). -/
  codes     : Map Nat
  /-- Its controller has stopped. -/
  stopped   : Bool
  toggle    : Bool
  /-- The toggle line as last seen by the checks. -/
  seenLine  : Bool
  /-- The heartbeat word: bell bits [23:0], role, sequence count; and the sequence count last seen. -/
  wordBell  : Nat
  wordRole  : Nat
  wordSeq   : Nat
  seenSeq   : Nat
  lineFaulty : Bool
  wordFaulty : Bool
  /-- Consecutive mismatches by loop (R250). -/
  mism      : Map Nat
  /-- The March C− position in 256-byte blocks, and what the epoch has shown (R251, R252). -/
  marchAt   : Nat
  marchDone : Bool
  marchFails : Nat
  marchPrev : Nat
  bistFails : Nat
  /-- The last BIST failed. -/
  bistBad   : Bool
  mirrorMisses : Nat
  mismatches : Nat
  /-- Self-test results of the last 64 epochs, newest first: BIST failures, march failures. -/
  record    : List (Nat × Nat)
  /-- What makes this bell not clean, and whether it was compared (R250). -/
  dirty     : Bool
  compared  : Bool
  /-- Clean compared bells since it became STANDBY (R260). -/
  sinceStandby : Nat
  wasOwner  : Bool
  noReclaim : Bool
  resyncAt  : Nat
  copied    : Bool
  repairFails : Nat
  repairAt  : Nat
  deriving DecidableEq, Repr

/-- A Hearth that is not loaded. -/
def HearthUnit.blank : HearthUnit :=
  { loops := [], targets := [], codes := [], stopped := false, toggle := false, seenLine := false, wordBell := 0,
    wordRole := 0, wordSeq := 0, seenSeq := 0, lineFaulty := false, wordFaulty := false, mism := [], marchAt := 0,
    marchDone := false, marchFails := 0, marchPrev := 0, bistFails := 0, bistBad := false, mirrorMisses := 0,
    mismatches := 0, record := [], dirty := false, compared := false, sinceStandby := 0, wasOwner := false,
    noReclaim := false, resyncAt := 0, copied := false, repairFails := 0, repairAt := 0 }

/-- A change of ownership that waits for its boundary (R247, R255, R256): the new owner, the cause by HEARTH_OWNER's
codes, whether it is an automatic fail-over, and the boundary count at which it was decided. -/
structure Grant where
  dst   : Nat
  cause : Nat
  auto  : Bool
  since : Nat
  deriving DecidableEq, Repr

/-- What called the Reeve to arbitrate (R254): a heartbeat path of a Hearth, or a compare mismatch. -/
inductive Arbitration where
  | path (h : Nat) (line : Bool)
  | compare
  deriving DecidableEq, Repr

/-- The pair beyond the Hearths themselves (R247, R248, R254). -/
structure TwinsState where
  a        : HearthUnit
  b        : HearthUnit
  /-- The loops and targets of the last complete mirror, and its boundary count (R248). -/
  mirror   : Map Loop
  mirrorTargets : Map Int
  mirrorAt : Nat
  grant    : Option Grant
  /-- The change in its grant bell (R247). -/
  dual     : Option Grant
  arb      : Option Arbitration
  /-- Hearths that become FAILED at the next boundary, bit h (R253). -/
  failNext : Nat
  /-- Matrix rows that the identity row stands in for, 256 × ferry + row (R231). -/
  xtSub    : List Nat
  /-- Park-move corrections to a parked unit's reference power, by heater (R227). -/
  parkAdj  : Map Int
  /-- BOTH_HEARTHS_FAILED was raised in this episode (R262). -/
  bothFailed : Bool
  deriving DecidableEq, Repr

/-- A link's equaliser (R288): ten 16-bit accumulators, I c1–c5 then Q c1–c5, and the convergence window: updates so
far and the exposed taps at its start. -/
structure Equaliser where
  acc   : List Int
  count : Nat
  start : List Int
  deriving DecidableEq, Repr

/-- Taps of zero and an empty window. -/
def Equaliser.blank : Equaliser :=
  { acc := List.replicate 10 0, count := 0, start := List.replicate 10 0 }

/-- Bring-up of one link (R280 to R296). Times are in bell boundaries since cold reset. -/
structure Link where
  /-- When the stage was entered. -/
  since     : Nat
  /-- Consecutive bells with LOS clear, and with LOS (R282, R294), and with the RMS error above the threshold (R306). -/
  clear     : Nat
  dark      : Nat
  rmsRun    : Nat
  /-- The back-off's failures so far, and when it ends (R281). -/
  fails     : Nat
  backoffTo : Option Nat
  /-- Consecutive preambles that fitted each of the eight corrections, and the one adopted (R285): ROT + 4 × SWAP. -/
  runs      : List Nat
  corr      : Option Nat
  /-- Consecutive valid identity blocks, and what they name: node, ferry, port, wavelength (R287). -/
  idRun     : Nat
  idWho     : List Nat
  /-- The far end's TRAIN_DONE has been seen (R287). -/
  farDone   : Bool
  /-- PRBS symbols checked since convergence and their errors (R287). -/
  symbols   : Nat
  errors    : Nat
  /-- When the link left TRAIN (R279). -/
  trained   : Nat
  /-- Consecutive good frames in LOCK (R290). -/
  good      : Nat
  /-- The far end's last EXCHANGE message, empty before the first, and the node, ferry and link of its header. -/
  far       : List Byte
  farWho    : List Nat
  /-- Bells of RETRAIN still to be sent (R296). -/
  retrain   : Nat
  /-- Consecutive landed frames without guard or header (R294). -/
  misses    : Nat
  /-- The last frame landed was an ACTIVE frame with a good HDR_CRC (R293). -/
  carries   : Bool
  /-- What the last landed frame cost: symbols corrected and codewords uncorrectable (R272). -/
  fecCorr   : Nat
  fecUnc    : Nat
  eq        : Equaliser
  deriving DecidableEq, Repr

/-- A link in DETECT at reset. -/
def Link.blank : Link :=
  { since := 0, clear := 0, dark := 0, rmsRun := 0, fails := 0, backoffTo := none, runs := List.replicate 8 0,
    corr := none, idRun := 0, idWho := [], farDone := false, symbols := 0, errors := 0, trained := 0, good := 0,
    far := [], farWho := [], retrain := 0, misses := 0, carries := false, fecCorr := 0, fecUnc := 0,
    eq := Equaliser.blank }

/-- Where a detoured sheaf goes from the receiver of its frame (R309): the link to forward on as ferry + 8 × link, the
node where its detour ends, and the link there. -/
structure Target where
  next : Nat
  node : Nat
  last : Nat
  deriving DecidableEq, Repr

/-- A sheaf that this node holds for a link (R301 to R304): how often it was replayed, the boundary counts of its first
and its last sending, the slot and the bell number of the last, the local task slot that owns it (64: none), its detour
target, whether its last refusal counts toward the limits (R313), and whether it spends a Weir credit. -/
structure Held where
  sheaf   : Sheaf
  replays : Nat
  first   : Nat
  sent    : Nat
  slot    : Nat
  bell    : Nat
  own     : Nat
  target  : Option Target
  spared  : Bool
  deriving DecidableEq, Repr

/-- What a header acknowledges of one frame (R299): the far end's bell, bits [15:0], ACK_MAP and NAK_MAP. -/
structure Ack where
  bell : Nat
  good : Nat
  bad  : Nat
  deriving DecidableEq, Repr

/-- A captured detour (R310): the VIA link's number, and the target its sheaves carry. -/
structure Detour where
  via    : Nat
  target : Target
  deriving DecidableEq, Repr

/-- A lane message waiting to be sent (R291). -/
abbrev LaneMsg := List Byte

/-- The traffic of one link beyond its bring-up (R299 to R318). -/
structure Hop where
  /-- Sheaves sent and not yet acknowledged (R302), the replay queue, the held sheaves, and the forward queue (R313). -/
  buf      : List Held
  queue    : List Held
  held     : List Held
  fwd      : List Held
  /-- Sheaves of a link on detour that wait for a slot of its VIA link (R311). -/
  folded   : List Held
  /-- FORWARD sheaves placed in transmit slots of the running bell (R335). -/
  placed   : Map Held
  /-- The frame landed in the running bell, and the one that the running bell's header acknowledges (R299). -/
  landed   : Option Ack
  answers  : Option Ack
  /-- Acknowledgements received in the running bell (R301). -/
  acks     : List Ack
  /-- Whether each of the last 16 bells landed a frame that refused a filled slot, newest first (R304). -/
  naks     : List Bool
  nakNow   : Bool
  /-- The link was declared failing and returns to DETECT at the next boundary (R304). -/
  failing  : Bool
  /-- When the link left ACTIVE and re-entered it (R310, R315), and the detour in force. -/
  leftAt   : Option Nat
  backAt   : Option Nat
  detour   : Option Detour
  /-- DETOUR_START has been decided for this outage. -/
  decided  : Bool
  /-- Bells of the running hold episode (R317). -/
  episode  : Nat
  /-- HOLD_CAPS has counted it. -/
  capped   : Bool
  /-- Announcement in force: 1 FAILED, 2 RESTORED, and the boundary count and bell number of its start (R316). -/
  ann      : Nat
  annAt    : Nat
  annBell  : Nat
  /-- Lane messages waiting for a frame, oldest first (R322). -/
  msgs     : List LaneMsg
  deriving DecidableEq, Repr

/-- A link without traffic. -/
def Hop.blank : Hop :=
  { buf := [], queue := [], held := [], fwd := [], folded := [], placed := [], landed := none, answers := none,
    acks := [], naks := [], nakNow := false, failing := false, leftAt := none, backAt := none, detour := none,
    decided := false, episode := 0, capped := false, ann := 0, annAt := 0, annBell := 0, msgs := [] }

/-- A frame as sent (R266): its 96 header bytes, the sheaves of its filled slots, and its 64 trailer bytes. -/
structure TxFrame where
  header  : List Byte
  slots   : Map Sheaf
  trailer : List Byte
  deriving DecidableEq, Repr

/-- A sheaf landed for a FORWARD action, or marked for a detour target, that waits for its placing (R313, R335): the
bell it landed in, the link and slot it came on, the out link and out slot, whether it is late in any case, whether
SCHED_MISMATCH was already raised for it, and its target. -/
structure Transit where
  at'    : Nat
  link   : Nat
  slot   : Nat
  out    : Nat
  outSlot : Nat
  late   : Bool
  noted  : Bool
  target : Option Target
  sheaf  : Sheaf
  deriving DecidableEq, Repr

/-- A fence mark or receipt that this node knows of (R321, R322): its fields, the link it came on, and whether it has
been passed on or answered. -/
structure Mark where
  flow   : Nat
  seq    : Nat
  origin : Nat
  tag    : Nat
  link   : Nat
  done   : Bool
  deriving DecidableEq, Repr

/-- The Shepherd beyond its registers (R306 to R322). -/
structure ShepherdState where
  /-- SPARE_EXHAUSTED was raised for a unit, by 96 × ferry + 3 × wavelength + kind (R307). -/
  exhausted : List Nat
  /-- SPARE_REARM takes effect at the next boundary (R307). -/
  rearm     : Bool
  /-- Transit sheaves not yet placed, in landing order. -/
  transit   : List Transit
  /-- Pending fence marks, at most 64 (R322). -/
  marks     : List Mark
  deriving DecidableEq, Repr

/-- The Shepherd at a reset. -/
def ShepherdState.reset : ShepherdState :=
  { exhausted := [], rearm := false, transit := [], marks := [] }

/-- The state of one landing index (R338, R340, R391): the next sequence expected, and the cells that hold a landed
sheaf not yet delivered: its sequence, and the task tag plus 1 to deliver it to, 0 for the host. -/
structure Landing where
  next   : Nat
  landed : List (Nat × Nat)
  deriving DecidableEq, Repr

/-- A delivered sheaf of a TASK entry that its task may load (R339, R431): landing entry, sequence, task tag. -/
structure Delivered where
  land : Nat
  seq  : Nat
  tag  : Nat
  deriving DecidableEq, Repr

/-- An open sheaf in a Weir cell (R345): the link it arrived on, when, and the link it is to be forwarded on; without
one it is for this node. -/
structure Cell where
  link  : Nat
  at'   : Nat
  out   : Option Nat
  sheaf : Sheaf
  deriving DecidableEq, Repr

/-- An open sheaf of this node's own that waits for a slot (R347): its owner's task slot (64: none), its out link and
when it was made. -/
structure OpenTx where
  own   : Nat
  out   : Nat
  at'   : Nat
  sheaf : Sheaf
  deriving DecidableEq, Repr

/-- Credits of one link (R345 to R347). -/
structure Credit where
  /-- Cells reserved for the far end. -/
  cells    : Nat
  /-- GRANTED, its value and time at the last report, and whether any report was made. -/
  granted  : Nat
  reported : Nat
  reportAt : Nat
  told     : Bool
  /-- The last GRANTED received, and open sheaves first sent. -/
  heard    : Nat
  spent    : Nat
  /-- A CREDIT sheaf waits for an open slot. -/
  due      : Bool
  deriving DecidableEq, Repr

/-- A link that is not ACTIVE has no credit. -/
def Credit.blank : Credit :=
  { cells := 0, granted := 0, reported := 0, reportAt := 0, told := false, heard := 0, spent := 0, due := false }

/-- An applied open sheaf as kept for duplicate detection (R343). -/
structure Applied where
  kind  : Nat
  seq   : Nat
  tag   : Nat
  tally : Nat
  at'   : Nat
  deriving DecidableEq, Repr

/-- A window read that a GET_REQ waits for (R344): the link of its Weir cell, which it keeps, the DMA tags outstanding,
the host address, the bytes so far, and the sheaf. -/
structure OpenRead where
  link  : Nat
  tags  : List Nat
  base  : Nat
  got   : Map Byte
  sheaf : Sheaf
  deriving DecidableEq, Repr

/-- Schedules and open slots beyond their registers and tables (R338 to R349). -/
structure SchedState where
  /-- Landing state by index; an index not listed expects its entry's FIRST_SEQ. -/
  landings  : Map Landing
  delivered : List Delivered
  /-- Landing entries to reset at the next boundary (R340). -/
  landReset : List Nat
  /-- The shadow set has been scanned since the last ARM (R330). -/
  scanned   : Bool
  /-- Weir cells in order of arrival, credits by link, and this node's open sheaves in order (R345 to R347). -/
  cells     : List Cell
  credits   : Map Credit
  opens     : List OpenTx
  /-- The 24-bit counter of open sheaves originated here (R343). -/
  openSeq   : Nat
  applied   : List Applied
  openReads : List OpenRead
  /-- The boundary count of the last BG sheaf sent on each link, plus 1 (R347). -/
  bgSent    : Map Nat
  deriving DecidableEq, Repr

/-- Schedules at a reset. -/
def SchedState.reset : SchedState :=
  { landings := [], delivered := [], landReset := [], scanned := false, cells := [], credits := [], opens := [],
    openSeq := 0, applied := [], openReads := [], bgSent := [] }

/-- A fence's flow (R321): the flow, the last sequence sent before it, the link its mark goes out on, whether the mark
was sent and whether its receipt arrived. -/
structure FenceFlow where
  flow : Nat
  seq  : Nat
  tag  : Nat
  sent : Bool
  got  : Bool
  deriving DecidableEq, Repr

/-- A task slot (R367). -/
structure Task where
  /-- 0 FREE, 1 WAITING, 2 RUNNING, 3 ABORTING, 4 DONE. -/
  st       : Nat
  /-- The descriptor, 64 bytes (R358). -/
  desc     : List Byte
  /-- START_BELL, or the admission bell. -/
  start    : Nat
  /-- Timeout bells counted, and progress, status, DETAIL and RESULT so far (R367, R371). -/
  counted  : Nat
  progress : Nat
  status   : Nat
  detail   : Nat
  result   : Nat
  /-- Its event carries CANCEL_LATE; a sheaf of it was replayed or detoured (R319, R369). -/
  late     : Bool
  recovered : Bool
  /-- The status and DETAIL with which its next step point ends it (R369). -/
  stop     : Option (Nat × Nat)
  /-- Its send queue of FLOW sheaves, with the boundary count at which each joined (R329, R432). -/
  sendq    : List (Nat × Sheaf)
  /-- Pieces made, acknowledged, and the boundary count of the last bell in which it sent (R360). -/
  made     : Nat
  acked    : Nat
  sentAt   : Nat
  /-- Its place in the order of admission. -/
  order    : Nat
  /-- The host address of the source as the reads in flight have it. -/
  hostAt   : Nat
  /-- Bytes of host memory that its reads have brought, by host address, and the next unread offset. -/
  inbuf    : Map Byte
  asked    : Nat
  /-- Replies written at RETURN, by piece (R360). -/
  replies  : List Nat
  /-- A piece of it was discarded: OPEN_DROPPED with this piece number once the others are acknowledged (R360). -/
  dropped  : Option Nat
  /-- The flows that a FENCE covers (R362). -/
  fences   : List FenceFlow
  /-- The last sequence sent on each flow since the last FENCE (R322). -/
  flows    : Map Nat
  /-- A SWAP has armed the device-wide swap (R363). -/
  armed    : Bool
  /-- The instance number of a group task (R454). -/
  inst     : Nat
  /-- The curve bank captured at its start (R513). -/
  bank     : Nat
  /-- The NaN policy of a SELECT, captured at its start, is DROP (R475). -/
  drop     : Bool
  /-- Open sheaves of kinds PUT, GET_DATA and PROGRAM applied with its tag since its admission (R438). -/
  arr      : Nat
  deriving DecidableEq, Repr

/-- A FREE slot. -/
def Task.free : Task :=
  { st := 0, desc := [], start := 0, counted := 0, progress := 0, status := 0, detail := 0, result := 0, late := false,
    recovered := false, stop := none, sendq := [], made := 0, acked := 0, sentAt := 0, order := 0, hostAt := 0, inbuf := [], asked := 0, replies := [],
    dropped := none, fences := [], flows := [], armed := false, inst := 0, bank := 0, drop := false, arr := 0 }

/-- One entry of the cancel FIFO, with the admission points it has seen (R369, R370). -/
structure Cancel where
  tag : Nat
  age : Nat
  deriving DecidableEq, Repr

/-- A notice or retirement event: tag, opcode byte, status, DETAIL, whether it is a notice, and the vector it marks. -/
structure Event where
  tag    : Nat
  opcode : Nat
  status : Nat
  detail : Nat
  vector : Option Nat
  deriving DecidableEq, Repr

/-- The rings beyond the CMD page (R352 to R376). -/
structure RingState where
  /-- Descriptors read and not yet consumed, by ring entry, and entries whose read is outstanding with its DMA tag. -/
  fetched  : Map (List Byte)
  asked    : Map Nat
  cancels  : List Cancel
  /-- CMD_TAIL covers entries up to here; admission is enabled from the next admission point. -/
  enNext   : Bool
  /-- Descriptors taken at this bell's admission point (R366). -/
  taken    : Nat
  /-- The tags of the cancel entries sampled at this bell's admission point. -/
  sampled  : List Nat
  /-- Tasks admitted so far. -/
  order    : Nat
  /-- Notices that wait for the admission point's end. -/
  notices  : List Event
  /-- Vectors marked since the last admission point. -/
  marked   : List Nat
  /-- The descriptor at HEAD is taken without a break test (R376). -/
  noBreak  : Bool
  /-- CANCEL_ALL descriptors whose own event waits for the tasks they aborted (R364). -/
  allWait  : List (List Byte × List Nat)
  /-- Events whose writes may still be on the way, by ring entry, and those whose writes failed: the 32 bytes of
  one that was discarded, or of one that its window refused, then one byte for the vector to mark, 255: none (R357). -/
  written  : Map (List Byte)
  retry    : Map (List Byte)
  deriving DecidableEq, Repr

/-- The rings at a reset. -/
def RingState.reset : RingState :=
  { fetched := [], asked := [], cancels := [], enNext := false, taken := 0, sampled := [], order := 0, notices := [],
    marked := [], noBreak := false, allWait := [], written := [], retry := [] }

/-- The Granary (R405 to R411, R518 to R520). -/
structure GranaryState where
  /-- Its bytes by address, 0x1000_0000 to 0x19FF_FFFF; what an unlisted byte reads as: log entry 12. -/
  mem     : Map Byte
  /-- Poisoned 64-byte lines, by address / 64, in rising order (R409). -/
  poison  : Map Bool
  deriving DecidableEq, Repr
/-- The Miller's memories (R398, R399, R421). -/
structure MillerState where
  /-- Instruction memory: the long words of each program by 2^20 × task slot + word index, as the loader made them. -/
  imem  : Map Nat
  /-- Data memory by byte address, 128 KiB; it holds data areas, save blocks, capture areas and routine records. -/
  dmem  : Map Byte
  deriving DecidableEq, Repr

/-- One level of the Miller loop stack (R424, R428): iterations left, the first word of the body and the word after it. -/
structure MLoop where
  left  : Nat
  start : Nat
  stop  : Nat
  pb    : Bool
  deriving DecidableEq, Repr

/-- How a step has come to its step point (R422): STEP, WAIT.L not delivered, END with RESULT, or a word that could not
be read (R398). -/
inductive StepEnd where
  | step
  | waitL
  | endOp (result : Nat)
  | broken
  deriving DecidableEq, Repr

/-- A RUN program in a task slot (R399, R420 to R424). -/
structure Prog where
  /-- Its 4 KiB blocks of instruction memory: the first and their number. -/
  base    : Nat
  blocks  : Nat
  /-- Its save block's address in data memory, and the size of the data area behind it. -/
  save    : Nat
  data    : Nat
  /-- Long words of the image, and the patch table. -/
  words   : Nat
  patches : List Nat
  /-- x1–x31; registers not listed hold 0. -/
  x       : Map Nat
  pc      : Nat
  pb      : Bool
  loops   : List MLoop
  /-- Return addresses, innermost first, at most 8 (R429). -/
  rets    : List (Bool × Nat)
  /-- A step has run, so the save block holds the state (R424). -/
  saved   : Bool
  /-- A step runs, on port T if `tail`; the bell of its window, and the boundary count of the last start or deferral,
  plus 1 (R412, R413). -/
  running : Bool
  tail    : Bool
  window  : Nat
  turn    : Nat
  deferred : Bool
  /-- Rows and mode of the step; those that STEP named for the next, and whether it named HOLD. -/
  rows    : Nat
  mode    : RowMode
  nextRows : Nat
  nextMode : RowMode
  hold    : Bool
  /-- The word at the program counter has begun to issue. -/
  inWord  : Bool
  ended   : Option StepEnd
  /-- Words rewritten since the last SYNC.I (R440). -/
  stale   : List Nat
  /-- Core operations issued in this step. -/
  issued  : Nat
  deriving DecidableEq, Repr

/-- The vector operations of two operands, and of one (R433). -/
inductive VBin where
  | add | sub | mul | max | min | and | or | xor | shl | shr | sra
  deriving DecidableEq, Repr

inductive VUn where
  | abs | neg | not
  deriving DecidableEq, Repr

/-- An operation as it waits in an engine queue, the x registers it names read at issue (R425, R427, R430 to R435,
R489). -/
inductive COp where
  | loop (count n : Nat)
  | aSet (a v : Nat)
  | aSetc (a v stride : Nat)
  | aAdd (a : Nat) (imm : Int)
  | ldV (d a : Nat) (k : Int)
  | stV (a : Nat) (k : Int) (v : Nat)
  | ldQ (q a : Nat) (k : Int)
  | sqSt (a : Nat) (k : Int)
  | sqSh (flow seq : Nat) (last : Bool)
  | ldSh (q land seq : Nat)
  | accLd (c a : Nat)
  | accSt (a c : Nat)
  | vbin (k : VBin) (f : VFmt) (d a b : VReg) (p : Option Nat)
  | vfma (f : VFmt) (d a b c : VReg) (p : Option Nat)
  | vun (k : VUn) (f : VFmt) (d a : VReg) (p : Option Nat)
  | vcmp (cc : VCmp) (f : VFmt) (d : Nat) (a b : VReg) (p : Option Nat)
  | vsel (d : VReg) (p : Nat) (a b : VReg)
  | vmov (d a : VReg) (p : Option Nat)
  | vbcast (f : VFmt) (d : VReg) (x : Nat) (p : Option Nat)
  | viota (f : VFmt) (d : VReg) (p : Option Nat)
  | vperm (f : VFmt) (d a i : VReg) (p : Option Nat)
  | vred (k : VRed) (f : VFmt) (d a : VReg) (p : Option Nat)
  | vcvt (src dst : VFmt) (d a : VReg) (p : Option Nat)
  | vcvtSr (src dst : VFmt) (d a : VReg) (seed idx : Nat) (p : Option Nat)
  | vpwl (d a : VReg) (table : Nat) (p : Option Nat)
  | mZero (c : Nat)
  | mOpa (c : Nat) (a b : VReg) (k : Nat)
  | mRd (d : VReg) (c r : Nat)
  | mWr (c : Nat) (v : VReg) (r : Nat)
  | mAdd (c : Nat) (v : VReg) (r : Nat)
  | sInit (k flags : Nat)
  | sIns (k i : Nat) (p : Option Nat)
  | sSort (k i : Nat)
  | sMerge (k i k2 i2 : Nat)
  | sExcl (d k i v x : Nat)
  | sMrg (k i n : Nat)
  | sGet (k i : Nat)
  | sig (t : Nat)
  | wait (t : Nat)
  deriving DecidableEq, Repr

/-- An entry of an engine queue: the operation, its number in the step, its long word, its row mask, what the ECC checks
of its loads find by rank, and how many cores of the row have performed it (SQ.SH). -/
structure QEntry where
  op   : COp
  id   : Nat
  word : Nat
  pb   : Bool
  rows : Nat
  eccs : List EccResult
  fin  : Nat
  deriving DecidableEq, Repr

/-- One stream of a row (R402, R427): its queue, the operations that a loop in progress has yet to perform, the entries
that loop's body holds, and how many operations each open loop body still awaits from issue. -/
structure StreamQ where
  queue : List QEntry
  run   : List QEntry
  held  : Nat
  opens : List Nat
  deriving DecidableEq, Repr

/-- An empty stream. -/
def StreamQ.blank : StreamQ := { queue := [], run := [], held := 0, opens := [] }

/-- A row: its configuration words cfg0–cfg15 and its streams (0 access, 1 vector or execute, 2 matrix, 3 Sieve). -/
structure RowUnit where
  cfg     : Map Nat
  streams : Map StreamQ
  deriving DecidableEq, Repr

/-- The insertion list of a core's Sieve unit (R489): capacity, flags, (value, index) in ranking order, NaNs dropped. -/
structure SieveList where
  cap   : Nat
  flags : Nat
  keys  : List (Nat × Nat)
  nans  : Nat
  deriving DecidableEq, Repr

/-- A core (R400). A register not listed holds a free value of its epoch (R401). Vectors are 2,048 bits; accumulator
element [i][j] of accN is at 256 × N + 16 × i + j. -/
structure Core where
  v        : Map Nat
  p        : Map Nat
  a        : Map Nat
  acc      : Map Nat
  q        : Map (List Nat)
  sq       : List Nat
  tok      : Map Nat
  sieve    : Option SieveList
  epoch    : Nat
  accEpoch : Nat
  deriving DecidableEq, Repr

/-- A core whose registers hold the free values of epoch 0. -/
def Core.blank : Core :=
  { v := [], p := [], a := [], acc := [], q := [], sq := [], tok := [], sieve := none, epoch := 0, accEpoch := 0 }

/-- The trace buffer (R447, R448): records of 16 bytes by index, records since the last start, records left to take
after the trigger, whether the trigger has fired, and groups of 256 that wait to be streamed, with the number of the
next. -/
structure TraceState where
  recs   : Map (List Byte)
  count  : Nat
  after  : Option Nat
  fired  : Bool
  groups : List Nat
  sent   : Nat
  deriving DecidableEq, Repr

/-- The Mill (R396 to R404, R420 to R437). -/
structure MillState where
  /-- Images that have been read and wait for room (R399). -/
  images : Map Image
  progs : Map Prog
  rows  : Map RowUnit
  cores : Map Core
  trace : TraceState
  deriving DecidableEq, Repr

/-- The Mill at a reset. -/
def MillState.reset : MillState :=
  { images := [], progs := [], rows := [], cores := [], trace := { recs := [], count := 0, after := none, fired := false, groups := [], sent := 0 } }

/-- An abort notice (R468, R469): group, instance, node that ended first, its status, and when it arrived. -/
structure Notice where
  group  : Nat
  inst   : Nat
  origin : Nat
  reason : Nat
  at'    : Nat
  deriving DecidableEq, Repr

/-- Group tasks beyond their slots (R454, R459, R468, R469). -/
structure GroupState where
  /-- The instance number of each group. -/
  inst    : Map Nat
  /-- Notices kept for instances ahead, oldest first, at most 16. -/
  pending : List Notice
  /-- Neighbours from which a notice was received, as group, instance, node; and the notices sent, as group, instance. -/
  heard   : List (Nat × Nat × Nat)
  told    : List (Nat × Nat)
  /-- The next sequence of each flow that routines originate here. -/
  flowSeq : Map Nat
  deriving DecidableEq, Repr

/-- A sheaf that a routine has made and that waits for room in its send queue: flow, LAST, payload. -/
structure OutSheaf where
  flow    : Nat
  last    : Bool
  payload : List Byte
  deriving DecidableEq, Repr

/-- What a Pattern Book routine keeps between its steps beyond the record of R466 in data memory: partial folds, lists
and sums that the spec keeps with the record, in the task's Granary space or in held accumulators (R464, R484, R499). -/
structure Routine where
  /-- Elements gathered for the next sheaf, and the partial fold of the block in hand. -/
  buf    : List Nat
  acc    : List Nat
  /-- Folded blocks that wait for the final INCLUDED (AVG, R461). -/
  sumsUp : List Nat
  /-- Sheaves taken from each source: 0–5 children, 6 parent or predecessor, 16 + j peer j; data elements of streams of
  unknown length. -/
  got    : Map Nat
  elems  : Nat
  /-- Host reads asked for, as host address and length. -/
  wants  : List (Nat × Nat)
  /-- Sheaves that wait for room. -/
  out    : List OutSheaf
  /-- When the exclusion wait in progress began (R465). -/
  waitAt : Option Nat
  /-- SELECT: lists and boundaries by row, sums (SUM_SEL, SUM_REST, NANS) by row, NaNs dropped in all, and whether
  everything but the acknowledgements is done. -/
  keys   : Map (List (Nat × Nat))
  bounds : Map (List (Nat × Nat))
  sums   : Map (List Nat)
  nans   : Nat
  closing : Bool
  /-- SCAN: cut bits by row of the own and of the incoming summary, incoming A and B by element, chain position, time
  steps done, and the chunk entry reached with the steps done in it. -/
  cuts   : Map Nat
  inCuts : Map Nat
  inA    : Map Nat
  inB    : Map Nat
  pos    : Nat
  steps  : Nat
  entry  : Nat
  inStep : Nat
  deriving DecidableEq, Repr

/-- A routine at its start. -/
def Routine.blank : Routine :=
  { buf := [], acc := [], sumsUp := [], got := [], elems := 0, wants := [], out := [], waitAt := none, keys := [],
    bounds := [], sums := [], nans := 0, closing := false, cuts := [], inCuts := [], inA := [], inB := [], pos := 0,
    steps := 0, entry := 0, inStep := 0 }

/-- One Granary bank's background work (R518 to R520): the next scrub line, the place in the cycle of five slots, the
boundary count of its last slot plus one, corrected errors by row in this scrub pass. -/
structure BgBank where
  line   : Nat
  slot   : Nat
  taken  : Nat
  errs   : Map Nat
  /-- Spare rows: lines passed as a mask of 128, by spare; masks of the failed ones and of those in use; the next line of
  the march, and lines left of a requested pass, once begun. -/
  passed : Map Nat
  failed : Nat
  used   : Nat
  march  : Nat
  asked  : Option Nat
  /-- Rows remapped, as row to spare; rows that wait for a copy; the copy in progress: row, spare, next line, and the
  boundary count of its last line plus one. -/
  map    : Map Nat
  queue  : List Nat
  copy   : Option (Nat × Nat × Nat)
  copied : Nat
  deriving DecidableEq, Repr

/-- A bank after a cold reset: rows begin untested (R519). -/
def BgBank.blank : BgBank :=
  { line := 0, slot := 0, taken := 0, errs := [], passed := [], failed := 0, used := 0, march := 0, asked := none,
    map := [], queue := [], copy := none, copied := 0 }

/-- A dither calibration pass (R521): ferries left, the boundary count at which the first of them began, whether it was
requested, and whether DITHER_CAL_ODD was raised in it. -/
structure DitherPass where
  left  : List Nat
  since : Nat
  asked : Bool
  odd   : Bool
  deriving DecidableEq, Repr

/-- Background work and calibration beyond the TELEM page (R521 to R528). -/
structure CalibState where
  /-- Ferries on which a requested L0 check runs, as a mask, the bell boundaries left of it, and whether a check failed
  (R525, R526). -/
  l0Ferries : Nat
  l0Left    : Nat
  l0Bad     : Bool
  /-- Failed L0 checks by ferry with the boundary counts at which they fell, and when L0_CHECK_FAIL was raised (R522). -/
  l0Fails   : Map (List Nat)
  l0Raised  : Map Nat
  /-- The dither pass in progress, ferries of a queued request, and whether a periodic pass is due (R521, R525). -/
  dither    : Option DitherPass
  dAsked    : Nat
  dDue      : Bool
  /-- A requested spare-row BIST pass is running, and a line has failed in it (R525, R526). -/
  bist      : Bool
  bistBad   : Bool
  /-- Disruptive requests that the next boundary decides, and the one that runs, as kind and ferry (R526). -/
  decide    : List (Nat × Nat)
  run       : Option (Nat × Nat)
  /-- LANE_BIST: links still under test with the boundary count at which their test began, and the error words of the
  last ferry tested (R528). -/
  links     : List (Nat × Nat)
  errors    : Map Nat
  deriving DecidableEq, Repr

/-- No calibration asked for. -/
def CalibState.reset : CalibState :=
  { l0Ferries := 0, l0Left := 0, l0Bad := false, l0Fails := [], l0Raised := [], dither := none, dAsked := 0, dDue := false,
    bist := false, bistBad := false, decide := [], run := none, links := [], errors := [] }

/-- Telemetry beyond the TELEM page (R529 to R531, R579). -/
structure TelemState where
  /-- The tracked counters at the last capture, by their place in the list of R529. -/
  base     : Map Nat
  /-- In this epoch: highest band, hottest reading and its sensor, largest heater power, first bell, and whether every
  bell so far was in building time. -/
  band     : Nat
  sensor   : Nat
  hottest  : Option Int
  power    : Nat
  first    : Nat
  timed    : Bool
  /-- Tasks completed, any status, since a reset. -/
  tasks    : Nat
  /-- The epoch began before the last warm reset (R531). -/
  restarted : Bool
  /-- The boundary count of the last capture plus one; a join step has ended an epoch (R531). -/
  captured : Nat
  joined   : Bool
  /-- The latest records, newest first, at most 16 (R579). -/
  recs     : List (List Byte)
  /-- A ring write was refused since the last one that succeeded (R530). -/
  refused  : Bool
  /-- Records since the last push (R579). -/
  since    : Nat
  deriving DecidableEq, Repr

/-- No telemetry yet. -/
def TelemState.reset : TelemState :=
  { base := [], band := 0, sensor := 0, hottest := none, power := 0, first := 0, timed := true, tasks := 0, restarted := false,
    captured := 1, joined := false, recs := [], refused := false, since := 0 }

/-- A request that a mailbox channel queues for the Reeve: channel 0 MGMT, 1 SMBus, 2 UART; a message, or a console line
(R575, R576). -/
structure MbxReq where
  chan  : Nat
  bytes : List Byte
  deriving DecidableEq, Repr

/-- A processor halted through debug, and what debug has written into its space since (R573, R574): the epoch names the
contents that are not known. -/
structure DebugUnit where
  halted : Bool
  /-- A STEP lets one instruction issue. -/
  step   : Bool
  epoch  : Nat
  words  : Map Nat
  deriving DecidableEq, Repr

/-- A processor that runs. -/
def DebugUnit.blank : DebugUnit := { halted := false, step := false, epoch := 0, words := [] }

/-- The management ports beyond the MGMT page (R559 to R579). -/
structure MgmtState where
  /-- SMBus: the request buffer, the response buffer, the result of the last write, and what holds SMB_ALERT_N: a rising,
  an unread response (R562, R563, R565). -/
  request  : List Byte
  /-- The request has outgrown its buffer (R576); the bytes the target last returned. -/
  tooBig   : Bool
  smbOut   : List Byte
  response : List Byte
  wrote    : Nat
  rose     : Bool
  ready    : Bool
  /-- Requests of the three channels, oldest first (R576). -/
  queue    : List MbxReq
  /-- UART: characters received that the Reeve has not taken, the partial line and whether it is too long, characters to
  send with the 1/320-bell units of send time gathered, and the high samples that must come before the next start edge: 1 after a framing error, 16 after a break (R567 to R570). -/
  rx       : List Byte
  line     : List Byte
  tooLong  : Bool
  tx       : List Byte
  txTime   : Nat
  needHigh : Nat
  /-- UART_RX is held low beyond a break (R568). -/
  broken   : Bool
  /-- JTAG: the boundary-scan register's preloaded values, and the last operation's status, address and data (R571, R573). -/
  bscan    : List Bool
  opStatus : Nat
  opAddr   : Nat
  opData   : Nat
  /-- Debug: 0 Reeve, 1 Hearth A, 2 Hearth B, 3 Miller. -/
  units    : Map DebugUnit
  deriving DecidableEq, Repr

/-- The management ports at a reset. -/
def MgmtState.reset : MgmtState :=
  { request := [], tooBig := false, smbOut := [], response := [], wrote := 0, rose := false, ready := false, queue := [], rx := [], line := [],
    tooLong := false, tx := [], txTime := 0, needHigh := 0, broken := false, bscan := [], opStatus := 0, opAddr := 0,
    opData := 0, units := [] }

/-- The state of the IZ5. -/
structure State where
  /-- Every register field, counter and per-path select, by `Fld.key`; an unlisted field reads as its reset value. -/
  regs    : Map Nat
  /-- The bell number, 48 bits (R35). -/
  bellNum : Nat
  /-- Bell boundaries since cold reset: the local bell count. -/
  ticks   : Nat
  /-- The model's own count of free values drawn (log entry 1). -/
  draws   : Nat
  pages   : PageState
  ledger  : LedgerState
  alarm   : AlarmState
  bell : BellState
  pins : Pins
  thermal : ThermalState
  /-- The tables in force (R107). -/
  active : TableSet
  /-- The shadow tables (R107). -/
  shadow : TableSet
  /-- The word last returned on each access path, by path number. -/
  lastRead : Map Nat
  /-- The Almanac working copy (keep-alive). -/
  alm : Almanac
  /-- The keep-alive scratch, 16 KiB; unlisted bytes are 0 (R83, R147). -/
  scratch : Map Byte
  boot : BootState
  uahus : UahusState
  lantern : LanternState
  /-- Bias records by 32 × source + line (R524), kept with the Almanac working copy. -/
  ageing : Map Ageing
  /-- Heater codes by heater number 256f + 8l + e (keep-alive, R83, R211). -/
  codes : Map Nat
  /-- Monitor channels by number 192f + 6l + k (R213). -/
  monitors : Map Monitor
  /-- Monitor ADCs that failed their last reference conversion, as a mask (R219). -/
  adcFault : Nat
  twins : TwinsState
  /-- Bring-up of link `k` = 32 × ferry + link. -/
  links : Map Link
  /-- Traffic of link `k` = 32 × ferry + link. -/
  hops : Map Hop
  /-- The FEC frames sent in the bell that ended last, by link (R279). -/
  tx : Map TxFrame
  shepherd : ShepherdState
  sched : SchedState
  /-- The 64 task slots by number; an unlisted slot is FREE (R367). -/
  tasks : Map Task
  ring : RingState
  granary : GranaryState
  miller : MillerState
  mill : MillState
  groups : GroupState
  /-- The routines of the task slots that run one (R466). -/
  routines : Map Routine
  /-- Background work by Granary bank (R518 to R520). -/
  banks : Map BgBank
  /-- Calibration and self-test in progress (R521 to R528). -/
  calib : CalibState
  /-- Telemetry (R529 to R531). -/
  telem : TelemState
  /-- The management ports (R559 to R579). -/
  mgmt : MgmtState
  /-- The commands that wait, first in, first out. -/
  pending : List Instr
  deriving DecidableEq, Repr

/-- Why a step stops with a fault. None of the spec's behaviours stops this block, so no command raises it. -/
inductive Fault where
  /-- Raised by no command; kept so that the type of faults is not empty of names. Safe. -/
  | none
  deriving DecidableEq, Repr

/-- Why a step is refused. -/
inductive Refusal where
  /-- The command has no meaning in the model yet. Raised by `exec`'s arm of that command. Safe: the run stops. -/
  | notModelled (mnemonic : String)
  deriving DecidableEq, Repr

/-- The machine right after a cold reset: every register at the value its field map gives (an unlisted key), and
every other piece of state as the records below say. -/
def State.reset : State :=
  { regs := []
    bellNum := 0
    ticks := 0
    draws := 0
    pages := { snap := [], snapReq := [], hold := [], whold := [], funcReq := false, funcDue := false }
    ledger := { ring := [], queue := [], gasp := [], overflow := false }
    alarm := { pend := [], freezeDue := false, warmDue := false, minEnd := 0, driveStart := 0, released := false,
               relMark := 0, highRun := 0, pinRaised := false, lowRun := 0, stuckRaised := false }
    bell := { lanes := [], joinPhase := 0, nextNum := none, lengthen := 0, joinFails := 0, joinAfter := 0, steerRef := 0, toHoldover := false, holdBells := 0, longRaised := false, rootReq := false, rootClear := false, highEpoch := none, firstExchange := none, ppsLast := none, numHold := [] }
    pins := { resetN := false, pwrOk := false, testEn := false, smbStrap := 0, bootStrap := 0, thermN := false, bellOut := false }
    thermal := { fallCount := 0, pendBand := none, txDark := false, clearPend := false }
    active := TableSet.reset
    shadow := TableSet.reset
    lastRead := []
    alm := { body := [], len := 0, crc := 0, held := false, data := { nodeId := 0, ports := [], skews := [], hostLink := none, xt := [], wear := [], eta := [] }, used := [], edited := false }
    scratch := []
    boot := { running := false, warm := false, fails := 0, inBackoff := false, ferryFails := [], relockTodo := [], lanesStarted := 0, limpSteps := 0, reeve := none, hearthVer := none, overlayVer := none, flash := [], flashOp := none, commit := none, nonce := 0, nonceHold := [] }
    uahus := UahusState.reset
    lantern := LanternState.reset
    ageing := []
    codes := []
    monitors := []
    adcFault := 0
    twins := { a := HearthUnit.blank, b := HearthUnit.blank, mirror := [], mirrorTargets := [], mirrorAt := 0, grant := none, dual := none, arb := none, failNext := 0, xtSub := [], parkAdj := [], bothFailed := false }
    links := []
    hops := []
    tx := []
    shepherd := ShepherdState.reset
    sched := SchedState.reset
    tasks := []
    ring := RingState.reset
    granary := { mem := [], poison := [] }
    miller := { imem := [], dmem := [] }
    mill := MillState.reset
    groups := { inst := [], pending := [], heard := [], told := [], flowSeq := [] }
    routines := []
    banks := []
    calib := CalibState.reset
    telem := TelemState.reset
    mgmt := MgmtState.reset
    pending := [] }

end Sys2Proof.Machine
end

