-- ==== Sys2Proof/Machine/Ops.lean ====
section
/-! DEFINITION. Sys2Proof/Machine/Ops.lean: the operations every meaning is written in: reading and writing a register
field, counting (R114, R117), raising an error with its Ledger entry and reactions (R102 to R104, R537 to R543), and
memory as a sparse table of bytes. -/

namespace Sys2Proof.Machine

/-- The outcome of a command. -/
abbrev Out := Host.Outcome State Fault Refusal

/-- The value of a register field. -/
def State.rd (s : State) (f : Fld) : Nat := mget s.regs f.key f.reset % 2 ^ f.width

/-- Whether a one-bit register field is set. -/
def State.is (s : State) (f : Fld) : Bool := s.rd f == 1

/-- The state with a register field written; the value is cut to the field's width. -/
def State.wr (s : State) (f : Fld) (v : Nat) : State :=
  { s with regs := mset s.regs f.key (v % 2 ^ f.width) f.reset }

/-- The state with a signed value written to a register field. -/
def State.wrI (s : State) (f : Fld) (v : Int) : State := s.wr f (ofSigned f.width v)

/-- The value of a register field as two's complement. -/
def State.rdI (s : State) (f : Fld) : Int := toSigned f.width (s.rd f)

/-- A one-bit field written from a truth value. -/
def State.wrB (s : State) (f : Fld) (b : Bool) : State := s.wr f (b2n b)

/-- Add `n` to a counter; a carry out of bit 63 sets the counter's PG_CNT_OVF bit (R114, R117). -/
def State.bump (s : State) (c : Ctr) (n : Nat) : State :=
  let v := s.rd c.fld + n
  let s1 := s.wr c.fld v
  if v < 2 ^ 64 then s1
  else s1.wr (Hdr.CNT_OVF c.page) (setBit (s1.rd (Hdr.CNT_OVF c.page)) c.n)

/-- Add `n` to a register field that saturates at its largest value. -/
def State.addSat (s : State) (f : Fld) (n : Nat) : State := s.wr f (satAt (2 ^ f.width - 1) (s.rd f + n))

/-- The next free value's index, and the state with the index advanced (log entry 1). -/
def State.draw (s : State) : Nat × State := (s.draws, { s with draws := s.draws + 1 })

/-- FREEZE is in force (R540). -/
def State.frozen (s : State) : Bool := s.is Reg.DEVICE_STATE_DATA_FROZEN

/-- A processor's debug unit: 0 Reeve, 1 Hearth A, 2 Hearth B, 3 Miller (R573). -/
def State.unit (s : State) (u : Nat) : DebugUnit := mget s.mgmt.units u DebugUnit.blank

/-- The Reeve is halted through debug: it serves no mailbox, console or start-up step (R574). -/
def State.reeveHalted (s : State) : Bool := (s.unit 0).halted

/-- The Miller issues nothing: it is halted through debug with no step asked for, or the data plane is frozen (R540,
R573, R574). -/
def State.millerStopped (s : State) : Bool := s.frozen || ((s.unit 3).halted && !(s.unit 3).step)

/-- The state with a processor's debug unit replaced. -/
def State.setUnit (s : State) (u : Nat) (d : DebugUnit) : State :=
  { s with mgmt := { s.mgmt with units := mset s.mgmt.units u d DebugUnit.blank } }

/-! ### Error lines and classes -/

/-- The unmasked PG_ERR bits of a page (R103). -/
def State.unmasked (s : State) (p : Nat) : Nat :=
  let e := s.rd (Hdr.PG_ERR p)
  let m := s.rd (Hdr.PG_ERR_MASK p)
  e - (e &&& m)

/-- Whether line `n` of the Alarm collector is asserted (R533). -/
def State.lineAsserted (s : State) (n : Nat) : Bool := (linePages n).any (fun p => s.unmasked p != 0)

/-- The class of a PG_ERR bit (R105). -/
def State.errClass (s : State) (p b : Nat) : Nat := s.rd (Hdr.CLASS p b)

/-- Whether some unmasked PG_ERR bit of a class that `q` accepts is set anywhere in the device (R534). -/
def State.anyErr (s : State) (q : Nat → Bool) : Bool :=
  presentPages.any (fun p =>
    let u := s.unmasked p
    u != 0 && (List.range 32).any (fun b => bit u b && q (s.errClass p b)))

/-- What a raise says of its occurrence beyond the bit itself (R537, R550, R552). -/
structure Occ where
  tag      : EntryTag := .none
  injected : Bool := false
  prefetch : Bool := false
  detail   : Nat := 0
  deriving DecidableEq, Repr

/-- Set ALARM_SUMMARY bits of the lines asserted now (R534). -/
def State.summarise (s : State) (p : Nat) : State :=
  match alarmLine p with
  | none => s
  | some n =>
    if s.lineAsserted n then
      s.wr Reg.ALARM_SUMMARY_BLOCKS (setBit (s.rd Reg.ALARM_SUMMARY_BLOCKS) n)
    else s

/-- Release ALARM_N: the assertion ends (R543). -/
def State.alarmRelease (s : State) : State :=
  let s1 := (((s.wr Reg.ALARM_STATUS_DRIVING 0).wr Reg.ALARM_STATUS_WOULD_DRIVE 0).wr
    Reg.ALARM_STATUS_RELEASE_PENDING 0).wr Reg.ALARM_STATUS_MIN_RUNNING 0
  { s1 with alarm := { s1.alarm with released := false, highRun := 0, pinRaised := false,
                                     relMark := if s.is Reg.ALARM_STATUS_DRIVING then s.ticks + 1 else s.alarm.relMark } }

/-- Release the assertion in force if its minimum has passed and HOLD is 0 or a release is in force (R543). -/
def State.alarmTryRelease (s : State) : State :=
  if s.is Reg.ALARM_STATUS_WOULD_DRIVE && !s.is Reg.ALARM_STATUS_MIN_RUNNING
      && (!s.is Reg.ALARM_CTRL_HOLD || s.alarm.released) then s.alarmRelease else s

/-- Begin to drive ALARM_N low for the assertion in force (R543, R545). -/
def State.alarmDrive (s : State) : State :=
  if s.is Reg.ALARM_STATUS_DRIVING then s else
  let s1 := (s.wr Reg.ALARM_STATUS_DRIVING 1).wr Reg.ALARM_STATUS_EXT_LOW 0
  { s1 with alarm := { s1.alarm with highRun := 0, lowRun := 0 } }

/-- The ALARM_N reaction of a rising: an assertion starts, or starts a new minimum and cancels its release (R543). -/
def State.alarmAssert (s : State) : State :=
  let s0 := if s.is Reg.ALARM_STATUS_WOULD_DRIVE then s else
    { s.bump Ctr.ALARM_ALARM_ASSERTIONS 1 with alarm := { s.alarm with pinRaised := false, driveStart := s.ticks } }
  let s1 := ((s0.wr Reg.ALARM_STATUS_WOULD_DRIVE 1).wr Reg.ALARM_STATUS_MIN_RUNNING 1).wr
    Reg.ALARM_STATUS_RELEASE_PENDING 0
  let s2 := { s1 with alarm := { s1.alarm with minEnd := s.ticks + 11, released := false } }
  if s2.is Reg.ALARM_CTRL_DRIVE_EN then s2.alarmDrive else s2

/-! ### The console's unprompted lines (R570) -/

/-- A hexadecimal digit in ASCII. -/
def hexDigit (n : Nat) : Byte := BitVec.ofNat 8 (if n < 10 then 0x30 + n else 0x57 + n)

/-- The digits of a number, at most `k` of them, with no leading zeros. -/
def hexDigits : Nat → Nat → List Byte
  | 0, _ => []
  | k + 1, n => (if n / 16 = 0 then [] else hexDigits k (n / 16)) ++ [hexDigit (n % 16)]

/-- A number in hexadecimal with the prefix 0x. -/
def hexText (n : Nat) : List Byte := [0x30, 0x78] ++ hexDigits 16 n

/-- Characters join what the console sends (R569). -/
def State.say (s : State) (t : List Byte) : State := { s with mgmt := { s.mgmt with tx := s.mgmt.tx ++ t } }

/-- The end of a console line, CR LF. -/
def crlf : List Byte := [0x0D, 0x0A]

/-- Words of a console line: texts with a space between. -/
def joinWords : List (List Byte) → List Byte
  | [] => []
  | [w] => w
  | w :: t => w ++ [0x20] ++ joinWords t

/-- An unprompted log line, where LOG_EN and EN are 1 (R570). -/
def State.consoleLog (s : State) (ws : List (List Byte)) : State :=
  if s.is Reg.MGMT_UART_CTRL_LOG_EN && s.is Reg.MGMT_UART_CTRL_EN then s.say (joinWords ws ++ crlf) else s

/-- `alarm`, and `boot step`, `attempt`, `reason`. -/
def txtAlarm : List Byte := [0x61, 0x6C, 0x61, 0x72, 0x6D]
def txtBoot : List Byte := [0x62, 0x6F, 0x6F, 0x74]
def txtStep : List Byte := [0x73, 0x74, 0x65, 0x70]
def txtAttempt : List Byte := [0x61, 0x74, 0x74, 0x65, 0x6D, 0x70, 0x74]
def txtReason : List Byte := [0x72, 0x65, 0x61, 0x73, 0x6F, 0x6E]

/-- What the management ports make of a rising: a DEFERRED or fatal one holds SMB_ALERT_N where ALERT_EN is 1, and the
console reports it (R565, R570). -/
def State.reportRising (s : State) (page b cls : Nat) : State :=
  let s1 := if s.is Reg.MGMT_SMB_CTRL_ALERT_EN && cls != 0 then { s with mgmt := { s.mgmt with rose := true } } else s
  s1.consoleLog [txtAlarm, hexText page, hexText b, hexText cls]

/-- Put a rising into the list of this bell's risings, ascending page, then bit (R537). -/
def insRising (r : Rising) : List Rising → List Rising
  | [] => [r]
  | x :: t =>
    if r.page < x.page ∨ (r.page = x.page ∧ r.bit ≤ x.bit) then r :: x :: t else x :: insRising r t

/-- The reactions of a rising: ALARM_LAST, ALARM_N at once, the others at the next boundary (R536, R537). -/
def State.react (s : State) (e : ErrBit) (cls : Nat) (tag : EntryTag) : State :=
  let s1 := ((((s.bump Ctr.ALARM_RISINGS 1).wr Reg.ALARM_LAST_VALID 1).wr Reg.ALARM_LAST_CLASS cls).wr
    Reg.ALARM_LAST_BIT e.bit).wr Reg.ALARM_LAST_PAGE e.page
  let s2 := s1.wr Reg.ALARM_LAST_BELL s.bellNum
  let ev := s.rd (Reg.ALARM_REACT_EVENT cls)
  let irq := s.rd (Reg.ALARM_REACT_IRQ cls)
  let fz := s.rd (Reg.ALARM_REACT_FREEZE cls)
  let wm := s.rd (Reg.ALARM_REACT_WARM cls)
  let s3 := if s.is (Reg.ALARM_REACT_ALARM_N cls) then s2.alarmAssert else s2
  let r : Rising := { page := e.page, bit := e.bit, cls := cls, tag := tag, react := ev + 2 * irq + 4 * fz + 8 * wm }
  { s3.reportRising e.page e.bit cls with alarm := { s3.alarm with pend := insRising r s3.alarm.pend } }

/-- The DETAIL of an error entry: what the raising page records for the occurrence (R552). Pages whose detail names a
ferry's link or a bundle take it from the raise. -/
def State.entryDetail (s : State) (p : Nat) (o : Occ) : Nat :=
  let two (lo hi : Nat) := lo + 2 ^ 32 * hi
  if 0x20 ≤ p ∧ p < 0x40 then
    let f := (p - 0x20) / 4
    let j := o.detail % 32
    two (32 * f + j) (s.rd (Reg.FERRY_LANE_STATE_LAST_REASON f j) * 2 ^ 24
      + s.rd (Reg.FERRY_LANE_STATE_FAR_STAGE f j) * 2 ^ 21 + s.rd (Reg.FERRY_LANE_STATE_EQ_CONVERGED f j) * 2 ^ 20
      + s.rd (Reg.FERRY_LANE_STATE_SWAP f j) * 2 ^ 19 + s.rd (Reg.FERRY_LANE_STATE_ROT f j) * 2 ^ 17
      + s.rd (Reg.FERRY_LANE_STATE_LOS f j) * 2 ^ 16 + s.rd (Reg.FERRY_LANE_STATE_BACKOFF f j) * 8
      + s.rd (Reg.FERRY_LANE_STATE_STAGE f j))
  else if 0x41 ≤ p ∧ p ≤ 0x46 then
    two (p - 0x41) (s.rd (Reg.BUNDLE_STATE_LAST_REASON (p - 0x41)) * 2 ^ 24 + s.rd (Reg.BUNDLE_STATE_STAGE (p - 0x41)))
  else if p = 0x40 then
    two (s.rd Reg.UAHUS_WIN_FAULT_WIN) (s.rd Reg.UAHUS_REPLAY_HELD * 2 ^ 16 + s.rd Reg.UAHUS_REPLAY_ACK)
  else if p = 0x0A ∨ p = 0x0B then
    let h := p - 0x0A
    two (s.rd (Reg.HEARTH_CMP_LAST_LOOP h) * 2 ^ 16 + s.rd (Reg.HEARTH_CMP_LAST_DIFF h))
      (s.rd (Reg.HEARTH_OWNER_SWITCHES h) * 2 ^ 24 + s.rd (Reg.HEARTH_OWNER_GRANT_BELL h) * 2 ^ 16
        + s.rd (Reg.HEARTH_OWNER_CAUSE h) * 2 ^ 8 + s.rd (Reg.HEARTH_OWNER_REQ_REFUSED h) * 8
        + s.rd (Reg.HEARTH_OWNER_DUAL h) * 4 + s.rd (Reg.HEARTH_OWNER_NONE h) * 2 + s.rd (Reg.HEARTH_OWNER_OWNER h))
  else if p = 0x52 then
    two (s.rd Reg.SCHED_BAD_VALID * 2 ^ 31 + s.rd Reg.SCHED_BAD_TABLE * 2 ^ 28 + s.rd Reg.SCHED_BAD_INDEX)
      (s.rd Reg.SCHED_MISS_VERSION_VERSION)
  else if p = 0x54 then
    two (s.rd Reg.TALLY_LAST_WHO_TASK_TAG * 2 ^ 16 + s.rd Reg.TALLY_LAST_WHO_PLACE * 2 ^ 8)
      (s.rd Reg.TALLY_LAST_FLOW_KIND * 2 ^ 20 + s.rd Reg.TALLY_LAST_FLOW_FLOW)
  else if p = 0x60 then
    s.rd Reg.MILLER_ERR_ADDR_VALID * 2 ^ 31 + s.rd Reg.MILLER_ERR_ADDR_MEMORY * 2 ^ 29
      + s.rd Reg.MILLER_ERR_ADDR_UE * 2 ^ 28 + s.rd Reg.MILLER_ERR_ADDR_ADDR
  else if p = 0x61 then
    two (s.rd Reg.MILL_REGION_ADDR_ADDR)
      (s.rd Reg.TRACE_FAULT_HI_VALID * 2 ^ 31 + s.rd Reg.TRACE_FAULT_HI_PB * 2 ^ 30
        + s.rd Reg.TRACE_FAULT_HI_SLOT * 2 ^ 20 + s.rd Reg.TRACE_FAULT_HI_WORD)
  else if p = 0x62 then
    two (s.rd Reg.GRANARY_LAST_ADDR_ADDR)
      (s.rd Reg.GRANARY_LAST_ERR_VALID * 2 ^ 31 + s.rd Reg.GRANARY_LAST_ERR_UE * 2 ^ 30
        + s.rd Reg.GRANARY_LAST_ERR_SCRUB * 2 ^ 29 + s.rd Reg.GRANARY_LAST_ERR_PORT * 2 ^ 27
        + s.rd Reg.GRANARY_LAST_ERR_BANK)
  else if p = 0x63 then
    s.rd Reg.SIEVE_LAST_VALID * 2 ^ 31 + s.rd Reg.SIEVE_LAST_KIND * 2 ^ 30 + s.rd Reg.SIEVE_LAST_SLOT * 2 ^ 16
      + s.rd Reg.SIEVE_LAST_ROW
  else if p = 0x64 then
    s.rd Reg.LOOM_LAST_VALID * 2 ^ 31 + s.rd Reg.LOOM_LAST_KIND * 2 ^ 28 + s.rd Reg.LOOM_LAST_SLOT
  else 0

/-- Join the Ledger's write queue; an entry that finds it full is counted as dropped and sets OVERFLOW (R553). -/
def State.enqueue (s : State) (e : Entry) : State :=
  if s.ledger.queue.length < 64 then
    { s with ledger := { s.ledger with queue := s.ledger.queue ++ [e] } }
  else
    (s.bump Ctr.LEDGER_LEDGER_DROPPED 1).wr Reg.LEDGER_STATUS_OVERFLOW 1

/-- Set a PG_ERR bit, its PG_ERR_FIRST record and its line, and take the reactions of a rising; answers the Ledger
entry of the occurrence, without its sequence number (R103, R104, R534, R537, R550). -/
def State.markErr (s : State) (e : ErrBit) (o : Occ) : State × Entry :=
  let cls := s.errClass e.page e.bit
  let old := s.rd (Hdr.PG_ERR e.page)
  let masked := bit (s.rd (Hdr.PG_ERR_MASK e.page)) e.bit
  let was := bit old e.bit
  let s1 := (s.wr (Hdr.PG_ERR e.page) (setBit old e.bit)).bump Ctr.ALARM_OCCURRENCES 1
  let s2 := if old = 0 then
      ((s1.wr (Hdr.PG_ERR_FIRST_VALID e.page) 1).wr (Hdr.PG_ERR_FIRST_CODE e.page) e.bit).wr
        (Hdr.PG_ERR_FIRST_BELL e.page) s.bellNum
    else s1
  let s3 := s2.summarise e.page
  let s4 := if masked || was then s3 else s3.react e cls o.tag
  (s4, { bell := s.bellNum, page := e.page, code := e.bit, cls := cls, tag := o.tag, masked := masked,
         injected := o.injected, prefetch := o.prefetch, record := false, rep := was,
         cycle := Config.freeCycle s.draws % 2048, seq := 0, detail := s.entryDetail e.page o })

/-- An occurrence that joins the write queue of the Ledger. LEDGER_OVERFLOW is raised once per overflow episode, and
its own entry finds the queue full as well (R553). -/
def State.log (s : State) (e : Entry) : State :=
  let s1 := { s.enqueue e with draws := s.draws + 1 }
  if s.ledger.queue.length < 64 ∨ s.ledger.overflow then s1
  else
    let s2 := { s1 with ledger := { s1.ledger with overflow := true } }
    (s2.markErr Err.LEDGER_LEDGER_OVERFLOW {}).1.bump Ctr.LEDGER_LEDGER_DROPPED 1

/-- Raise an error: one occurrence of it (R537). -/
def State.raise (s : State) (e : ErrBit) (o : Occ := {}) : State :=
  let r := s.markErr e o
  r.1.log r.2

/-- Raise an error that concerns local tasks: one Ledger entry per task in ascending slot order, the first by the rule
of R537 and the others with REPEAT. -/
def State.raiseTasks (s : State) (e : ErrBit) (tags : List EntryTag) (o : Occ := {}) : State :=
  match tags with
  | [] => s.raise e o
  | t :: rest =>
    rest.foldl (fun acc t' =>
        acc.log { (acc.markErr e { o with tag := t' }).2 with rep := true })
      (s.raise e { o with tag := t })

/-- A Ledger record: an entry that raises no PG_ERR bit (R551). -/
def State.record (s : State) (page code detail : Nat) (tag : EntryTag := .none) : State :=
  s.log { Entry.empty with bell := s.bellNum, page := page, code := code, tag := tag, record := true,
                           cycle := Config.freeCycle s.draws % 2048, detail := detail }

/-! ### Injection (R106, R546, R548) -/

/-- One use of a page's checker: whether this use receives inverted check bits, and the state with COUNT decreased. -/
def State.injectUse (s : State) (page checker : Nat) : Bool × State :=
  if s.rd (Hdr.INJ_COUNT page) ≠ 0 ∧ s.rd (Hdr.INJ_CHECKER page) = checker then
    (true, s.wr (Hdr.INJ_COUNT page) (s.rd (Hdr.INJ_COUNT page) - 1))
  else (false, s)

/-! ### Bytes -/

/-- `n` bytes of a sparse byte table from address `a`; unlisted bytes read as `d`. -/
def readBytes (m : Map Byte) (d : Byte) : Nat → Nat → List Byte
  | _, 0 => []
  | a, n + 1 => mget m a d :: readBytes m d (a + 1) n

/-- Write bytes from address `a` upward, keeping the canonical form. -/
def writeBytes (m : Map Byte) (d : Byte) : Nat → List Byte → Map Byte
  | _, [] => m
  | a, b :: t => writeBytes (mset m a b d) d (a + 1) t

/-- Answer a next state. -/
def ok (s : State) : Out := .next s

end Sys2Proof.Machine
end

