-- ==== Sys2Proof/Machine/RegTable.lean ====
section
/-! DEFINITION. Sys2Proof/Machine/RegTable.lean: the spec's field maps as a table, one row a field, for word accesses:
which fields a 32-bit word at a page and offset holds, and how each acts when written (R9). -/

namespace Sys2Proof.Machine

/-- Field rows of the TOP page. -/
def rowsTop : List FieldRow := [
  { pbase := 0x0, pstride := 0, pcount := 1, off := 0x100, s1 := 0, c1 := 1, s2 := 0, c2 := 1, lo := 17, width := 1, acc := .ro, ka := false, resets := [0] },
  { pbase := 0x0, pstride := 0, pcount := 1, off := 0x100, s1 := 0, c1 := 1, s2 := 0, c2 := 1, lo := 16, width := 1, acc := .ro, ka := false, resets := [0] },
  { pbase := 0x0, pstride := 0, pcount := 1, off := 0x100, s1 := 0, c1 := 1, s2 := 0, c2 := 1, lo := 8, width := 8, acc := .ro, ka := false, resets := [0] },
  { pbase := 0x0, pstride := 0, pcount := 1, off := 0x100, s1 := 0, c1 := 1, s2 := 0, c2 := 1, lo := 0, width := 4, acc := .ro, ka := false, resets := [0] },
  { pbase := 0x0, pstride := 0, pcount := 1, off := 0x104, s1 := 0, c1 := 1, s2 := 0, c2 := 1, lo := 8, width := 8, acc := .wo, ka := false, resets := [0] },
  { pbase := 0x0, pstride := 0, pcount := 1, off := 0x104, s1 := 0, c1 := 1, s2 := 0, c2 := 1, lo := 1, width := 1, acc := .wo, ka := false, resets := [0] },
  { pbase := 0x0, pstride := 0, pcount := 1, off := 0x104, s1 := 0, c1 := 1, s2 := 0, c2 := 1, lo := 0, width := 1, acc := .wo, ka := false, resets := [0] },
  { pbase := 0x0, pstride := 0, pcount := 1, off := 0x108, s1 := 0, c1 := 1, s2 := 0, c2 := 1, lo := 5, width := 1, acc := .w1c, ka := true, resets := [0] },
  { pbase := 0x0, pstride := 0, pcount := 1, off := 0x108, s1 := 0, c1 := 1, s2 := 0, c2 := 1, lo := 4, width := 1, acc := .w1c, ka := true, resets := [0] },
  { pbase := 0x0, pstride := 0, pcount := 1, off := 0x108, s1 := 0, c1 := 1, s2 := 0, c2 := 1, lo := 3, width := 1, acc := .w1c, ka := true, resets := [0] },
  { pbase := 0x0, pstride := 0, pcount := 1, off := 0x108, s1 := 0, c1 := 1, s2 := 0, c2 := 1, lo := 2, width := 1, acc := .w1c, ka := true, resets := [0] },
  { pbase := 0x0, pstride := 0, pcount := 1, off := 0x108, s1 := 0, c1 := 1, s2 := 0, c2 := 1, lo := 1, width := 1, acc := .w1c, ka := true, resets := [0] },
  { pbase := 0x0, pstride := 0, pcount := 1, off := 0x108, s1 := 0, c1 := 1, s2 := 0, c2 := 1, lo := 0, width := 1, acc := .w1c, ka := true, resets := [1] },
  { pbase := 0x0, pstride := 0, pcount := 1, off := 0x10c, s1 := 0, c1 := 1, s2 := 0, c2 := 1, lo := 0, width := 1, acc := .wo, ka := false, resets := [0] },
  { pbase := 0x0, pstride := 0, pcount := 1, off := 0x110, s1 := 0, c1 := 1, s2 := 0, c2 := 1, lo := 16, width := 16, acc := .ro, ka := false, resets := [20044] },
  { pbase := 0x0, pstride := 0, pcount := 1, off := 0x110, s1 := 0, c1 := 1, s2 := 0, c2 := 1, lo := 0, width := 16, acc := .ro, ka := false, resets := [12808] },
  { pbase := 0x0, pstride := 0, pcount := 1, off := 0x114, s1 := 0, c1 := 1, s2 := 0, c2 := 1, lo := 0, width := 8, acc := .ro, ka := false, resets := [177] },
  { pbase := 0x0, pstride := 0, pcount := 1, off := 0x118, s1 := 0, c1 := 1, s2 := 0, c2 := 1, lo := 0, width := 32, acc := .ro, ka := false, resets := [0] },
  { pbase := 0x0, pstride := 0, pcount := 1, off := 0x11c, s1 := 0, c1 := 1, s2 := 0, c2 := 1, lo := 0, width := 32, acc := .ro, ka := false, resets := [0] },
  { pbase := 0x0, pstride := 0, pcount := 1, off := 0x120, s1 := 0, c1 := 1, s2 := 0, c2 := 1, lo := 0, width := 20, acc := .ro, ka := true, resets := [0] },
  { pbase := 0x0, pstride := 0, pcount := 1, off := 0x124, s1 := 0, c1 := 1, s2 := 0, c2 := 1, lo := 0, width := 24, acc := .ro, ka := false, resets := [0] },
  { pbase := 0x0, pstride := 0, pcount := 1, off := 0x128, s1 := 0, c1 := 1, s2 := 0, c2 := 1, lo := 0, width := 24, acc := .ro, ka := false, resets := [0] },
  { pbase := 0x0, pstride := 0, pcount := 1, off := 0x12c, s1 := 0, c1 := 1, s2 := 0, c2 := 1, lo := 8, width := 8, acc := .ro, ka := false, resets := [0] },
  { pbase := 0x0, pstride := 0, pcount := 1, off := 0x12c, s1 := 0, c1 := 1, s2 := 0, c2 := 1, lo := 0, width := 8, acc := .ro, ka := false, resets := [0] },
  { pbase := 0x0, pstride := 0, pcount := 1, off := 0x140, s1 := 0, c1 := 1, s2 := 4, c2 := 8, lo := 0, width := 32, acc := .rw, ka := true, resets := [0] }]

/-- Field rows of the BELL page. -/
def rowsBell : List FieldRow := [
  { pbase := 0x1, pstride := 0, pcount := 1, off := 0x100, s1 := 0, c1 := 1, s2 := 0, c2 := 1, lo := 4, width := 1, acc := .rw, ka := true, resets := [1] },
  { pbase := 0x1, pstride := 0, pcount := 1, off := 0x100, s1 := 0, c1 := 1, s2 := 0, c2 := 1, lo := 3, width := 1, acc := .rw, ka := true, resets := [0] },
  { pbase := 0x1, pstride := 0, pcount := 1, off := 0x100, s1 := 0, c1 := 1, s2 := 0, c2 := 1, lo := 2, width := 1, acc := .rw, ka := true, resets := [1] },
  { pbase := 0x1, pstride := 0, pcount := 1, off := 0x100, s1 := 0, c1 := 1, s2 := 0, c2 := 1, lo := 1, width := 1, acc := .rw, ka := true, resets := [0] },
  { pbase := 0x1, pstride := 0, pcount := 1, off := 0x100, s1 := 0, c1 := 1, s2 := 0, c2 := 1, lo := 0, width := 1, acc := .rw, ka := true, resets := [0] },
  { pbase := 0x1, pstride := 0, pcount := 1, off := 0x104, s1 := 0, c1 := 1, s2 := 0, c2 := 1, lo := 24, width := 8, acc := .ro, ka := false, resets := [0] },
  { pbase := 0x1, pstride := 0, pcount := 1, off := 0x104, s1 := 0, c1 := 1, s2 := 0, c2 := 1, lo := 23, width := 1, acc := .ro, ka := false, resets := [0] },
  { pbase := 0x1, pstride := 0, pcount := 1, off := 0x104, s1 := 0, c1 := 1, s2 := 0, c2 := 1, lo := 13, width := 5, acc := .ro, ka := false, resets := [0] },
  { pbase := 0x1, pstride := 0, pcount := 1, off := 0x104, s1 := 0, c1 := 1, s2 := 0, c2 := 1, lo := 10, width := 3, acc := .ro, ka := false, resets := [0] },
  { pbase := 0x1, pstride := 0, pcount := 1, off := 0x104, s1 := 0, c1 := 1, s2 := 0, c2 := 1, lo := 9, width := 1, acc := .ro, ka := false, resets := [0] },
  { pbase := 0x1, pstride := 0, pcount := 1, off := 0x104, s1 := 0, c1 := 1, s2 := 0, c2 := 1, lo := 6, width := 3, acc := .ro, ka := false, resets := [7] },
  { pbase := 0x1, pstride := 0, pcount := 1, off := 0x104, s1 := 0, c1 := 1, s2 := 0, c2 := 1, lo := 0, width := 3, acc := .ro, ka := false, resets := [0] },
  { pbase := 0x1, pstride := 0, pcount := 1, off := 0x108, s1 := 0, c1 := 1, s2 := 0, c2 := 1, lo := 0, width := 32, acc := .view, ka := false, resets := [0] },
  { pbase := 0x1, pstride := 0, pcount := 1, off := 0x10c, s1 := 0, c1 := 1, s2 := 0, c2 := 1, lo := 0, width := 16, acc := .view, ka := false, resets := [0] },
  { pbase := 0x1, pstride := 0, pcount := 1, off := 0x110, s1 := 0, c1 := 1, s2 := 0, c2 := 1, lo := 0, width := 20, acc := .ro, ka := false, resets := [0] },
  { pbase := 0x1, pstride := 0, pcount := 1, off := 0x114, s1 := 0, c1 := 1, s2 := 0, c2 := 1, lo := 0, width := 32, acc := .ro, ka := false, resets := [0] },
  { pbase := 0x1, pstride := 0, pcount := 1, off := 0x118, s1 := 0, c1 := 1, s2 := 0, c2 := 1, lo := 0, width := 32, acc := .ro, ka := false, resets := [0] },
  { pbase := 0x1, pstride := 0, pcount := 1, off := 0x11c, s1 := 0, c1 := 1, s2 := 0, c2 := 1, lo := 0, width := 32, acc := .rw, ka := true, resets := [65536] },
  { pbase := 0x1, pstride := 0, pcount := 1, off := 0x120, s1 := 0, c1 := 1, s2 := 0, c2 := 1, lo := 0, width := 32, acc := .rw, ka := true, resets := [4096] },
  { pbase := 0x1, pstride := 0, pcount := 1, off := 0x124, s1 := 0, c1 := 1, s2 := 4, c2 := 4, lo := 31, width := 1, acc := .rw, ka := true, resets := [0] },
  { pbase := 0x1, pstride := 0, pcount := 1, off := 0x124, s1 := 0, c1 := 1, s2 := 4, c2 := 4, lo := 5, width := 3, acc := .rw, ka := true, resets := [0] },
  { pbase := 0x1, pstride := 0, pcount := 1, off := 0x124, s1 := 0, c1 := 1, s2 := 4, c2 := 4, lo := 0, width := 5, acc := .rw, ka := true, resets := [0] },
  { pbase := 0x1, pstride := 0, pcount := 1, off := 0x134, s1 := 0, c1 := 1, s2 := 0, c2 := 1, lo := 5, width := 3, acc := .ro, ka := false, resets := [0] },
  { pbase := 0x1, pstride := 0, pcount := 1, off := 0x134, s1 := 0, c1 := 1, s2 := 0, c2 := 1, lo := 0, width := 5, acc := .ro, ka := false, resets := [0] },
  { pbase := 0x1, pstride := 0, pcount := 1, off := 0x138, s1 := 0, c1 := 1, s2 := 0, c2 := 1, lo := 0, width := 32, acc := .ro, ka := false, resets := [0] },
  { pbase := 0x1, pstride := 0, pcount := 1, off := 0x13c, s1 := 0, c1 := 1, s2 := 0, c2 := 1, lo := 0, width := 32, acc := .rw, ka := true, resets := [0] },
  { pbase := 0x1, pstride := 0, pcount := 1, off := 0x140, s1 := 0, c1 := 1, s2 := 0, c2 := 1, lo := 31, width := 1, acc := .rw, ka := true, resets := [0] },
  { pbase := 0x1, pstride := 0, pcount := 1, off := 0x140, s1 := 0, c1 := 1, s2 := 0, c2 := 1, lo := 0, width := 16, acc := .rw, ka := true, resets := [0] },
  { pbase := 0x1, pstride := 0, pcount := 1, off := 0x150, s1 := 0, c1 := 1, s2 := 4, c2 := 8, lo := 0, width := 16, acc := .rw, ka := true, resets := [0] },
  { pbase := 0x1, pstride := 0, pcount := 1, off := 0x400, s1 := 0, c1 := 1, s2 := 4, c2 := 64, lo := 0, width := 32, acc := .ro, ka := false, resets := [0] },
  { pbase := 0x1, pstride := 0, pcount := 1, off := 0x800, s1 := 0, c1 := 1, s2 := 4, c2 := 256, lo := 0, width := 32, acc := .ro, ka := false, resets := [0] }]

/-- Field rows of the CLK page. -/
def rowsClk : List FieldRow := [
  { pbase := 0x2, pstride := 0, pcount := 1, off := 0x100, s1 := 0, c1 := 1, s2 := 0, c2 := 1, lo := 3, width := 1, acc := .ro, ka := false, resets := [0] },
  { pbase := 0x2, pstride := 0, pcount := 1, off := 0x100, s1 := 0, c1 := 1, s2 := 0, c2 := 1, lo := 2, width := 1, acc := .ro, ka := false, resets := [0] },
  { pbase := 0x2, pstride := 0, pcount := 1, off := 0x100, s1 := 0, c1 := 1, s2 := 0, c2 := 1, lo := 1, width := 1, acc := .ro, ka := false, resets := [0] },
  { pbase := 0x2, pstride := 0, pcount := 1, off := 0x100, s1 := 0, c1 := 1, s2 := 0, c2 := 1, lo := 0, width := 1, acc := .ro, ka := false, resets := [0] }]

/-- Field rows of the BOOT page. -/
def rowsBoot : List FieldRow := [
  { pbase := 0x3, pstride := 0, pcount := 1, off := 0x100, s1 := 0, c1 := 1, s2 := 0, c2 := 1, lo := 24, width := 8, acc := .ro, ka := false, resets := [0] },
  { pbase := 0x3, pstride := 0, pcount := 1, off := 0x100, s1 := 0, c1 := 1, s2 := 0, c2 := 1, lo := 20, width := 4, acc := .ro, ka := false, resets := [0] },
  { pbase := 0x3, pstride := 0, pcount := 1, off := 0x104, s1 := 0, c1 := 1, s2 := 0, c2 := 1, lo := 0, width := 32, acc := .ro, ka := false, resets := [0] },
  { pbase := 0x3, pstride := 0, pcount := 1, off := 0x108, s1 := 0, c1 := 1, s2 := 0, c2 := 1, lo := 0, width := 21, acc := .ro, ka := false, resets := [0] },
  { pbase := 0x3, pstride := 0, pcount := 1, off := 0x10c, s1 := 0, c1 := 1, s2 := 0, c2 := 1, lo := 12, width := 2, acc := .ro, ka := false, resets := [0] },
  { pbase := 0x3, pstride := 0, pcount := 1, off := 0x10c, s1 := 0, c1 := 1, s2 := 0, c2 := 1, lo := 10, width := 2, acc := .ro, ka := false, resets := [0] },
  { pbase := 0x3, pstride := 0, pcount := 1, off := 0x10c, s1 := 0, c1 := 1, s2 := 0, c2 := 1, lo := 8, width := 2, acc := .ro, ka := false, resets := [0] },
  { pbase := 0x3, pstride := 0, pcount := 1, off := 0x10c, s1 := 0, c1 := 1, s2 := 0, c2 := 1, lo := 6, width := 2, acc := .ro, ka := false, resets := [0] },
  { pbase := 0x3, pstride := 0, pcount := 1, off := 0x10c, s1 := 0, c1 := 1, s2 := 0, c2 := 1, lo := 4, width := 2, acc := .ro, ka := false, resets := [0] },
  { pbase := 0x3, pstride := 0, pcount := 1, off := 0x110, s1 := 0, c1 := 1, s2 := 0, c2 := 1, lo := 8, width := 8, acc := .wo, ka := false, resets := [0] },
  { pbase := 0x3, pstride := 0, pcount := 1, off := 0x110, s1 := 0, c1 := 1, s2 := 0, c2 := 1, lo := 0, width := 1, acc := .wo, ka := false, resets := [0] },
  { pbase := 0x3, pstride := 0, pcount := 1, off := 0x114, s1 := 0, c1 := 1, s2 := 0, c2 := 1, lo := 1, width := 1, acc := .ro, ka := false, resets := [0] },
  { pbase := 0x3, pstride := 0, pcount := 1, off := 0x114, s1 := 0, c1 := 1, s2 := 0, c2 := 1, lo := 0, width := 1, acc := .ro, ka := false, resets := [0] },
  { pbase := 0x3, pstride := 0, pcount := 1, off := 0x118, s1 := 0, c1 := 1, s2 := 0, c2 := 1, lo := 11, width := 1, acc := .ro, ka := false, resets := [0] },
  { pbase := 0x3, pstride := 0, pcount := 1, off := 0x118, s1 := 0, c1 := 1, s2 := 0, c2 := 1, lo := 8, width := 3, acc := .ro, ka := false, resets := [0] },
  { pbase := 0x3, pstride := 0, pcount := 1, off := 0x118, s1 := 0, c1 := 1, s2 := 0, c2 := 1, lo := 0, width := 8, acc := .ro, ka := false, resets := [0] },
  { pbase := 0x3, pstride := 0, pcount := 1, off := 0x11c, s1 := 0, c1 := 1, s2 := 0, c2 := 1, lo := 0, width := 6, acc := .ro, ka := false, resets := [0] },
  { pbase := 0x3, pstride := 0, pcount := 1, off := 0x120, s1 := 0, c1 := 1, s2 := 0, c2 := 1, lo := 0, width := 32, acc := .ro, ka := true, resets := [0] },
  { pbase := 0x3, pstride := 0, pcount := 1, off := 0x130, s1 := 0, c1 := 1, s2 := 0, c2 := 1, lo := 0, width := 23, acc := .rw, ka := false, resets := [0] },
  { pbase := 0x3, pstride := 0, pcount := 1, off := 0x134, s1 := 0, c1 := 1, s2 := 0, c2 := 1, lo := 8, width := 2, acc := .ro, ka := false, resets := [0] },
  { pbase := 0x3, pstride := 0, pcount := 1, off := 0x134, s1 := 0, c1 := 1, s2 := 0, c2 := 1, lo := 0, width := 2, acc := .wo, ka := false, resets := [0] },
  { pbase := 0x3, pstride := 0, pcount := 1, off := 0x200, s1 := 0, c1 := 1, s2 := 4, c2 := 64, lo := 0, width := 32, acc := .rw, ka := false, resets := [0] }]

/-- Field rows of the SEC page. -/
def rowsSec : List FieldRow := [
  { pbase := 0x4, pstride := 0, pcount := 1, off := 0x100, s1 := 0, c1 := 1, s2 := 0, c2 := 1, lo := 25, width := 4, acc := .ro, ka := false, resets := [0] },
  { pbase := 0x4, pstride := 0, pcount := 1, off := 0x100, s1 := 0, c1 := 1, s2 := 0, c2 := 1, lo := 24, width := 1, acc := .ro, ka := false, resets := [0] },
  { pbase := 0x4, pstride := 0, pcount := 1, off := 0x100, s1 := 0, c1 := 1, s2 := 0, c2 := 1, lo := 16, width := 8, acc := .ro, ka := false, resets := [0] },
  { pbase := 0x4, pstride := 0, pcount := 1, off := 0x100, s1 := 0, c1 := 1, s2 := 0, c2 := 1, lo := 4, width := 4, acc := .ro, ka := false, resets := [0] },
  { pbase := 0x4, pstride := 0, pcount := 1, off := 0x100, s1 := 0, c1 := 1, s2 := 0, c2 := 1, lo := 0, width := 2, acc := .ro, ka := false, resets := [0] },
  { pbase := 0x4, pstride := 0, pcount := 1, off := 0x104, s1 := 0, c1 := 1, s2 := 0, c2 := 1, lo := 0, width := 1, acc := .wo, ka := false, resets := [0] },
  { pbase := 0x4, pstride := 0, pcount := 1, off := 0x108, s1 := 0, c1 := 1, s2 := 0, c2 := 1, lo := 0, width := 32, acc := .view, ka := false, resets := [0] },
  { pbase := 0x4, pstride := 0, pcount := 1, off := 0x10c, s1 := 0, c1 := 1, s2 := 0, c2 := 1, lo := 0, width := 32, acc := .view, ka := false, resets := [0] },
  { pbase := 0x4, pstride := 0, pcount := 1, off := 0x110, s1 := 0, c1 := 1, s2 := 0, c2 := 1, lo := 0, width := 1, acc := .wo, ka := false, resets := [0] },
  { pbase := 0x4, pstride := 0, pcount := 1, off := 0x114, s1 := 0, c1 := 1, s2 := 0, c2 := 1, lo := 0, width := 2, acc := .ro, ka := false, resets := [0] },
  { pbase := 0x4, pstride := 0, pcount := 1, off := 0x118, s1 := 0, c1 := 1, s2 := 0, c2 := 1, lo := 8, width := 8, acc := .wo, ka := false, resets := [0] },
  { pbase := 0x4, pstride := 0, pcount := 1, off := 0x118, s1 := 0, c1 := 1, s2 := 0, c2 := 1, lo := 0, width := 1, acc := .wo, ka := false, resets := [0] },
  { pbase := 0x4, pstride := 0, pcount := 1, off := 0x11c, s1 := 0, c1 := 1, s2 := 0, c2 := 1, lo := 1, width := 1, acc := .ro, ka := false, resets := [0] },
  { pbase := 0x4, pstride := 0, pcount := 1, off := 0x11c, s1 := 0, c1 := 1, s2 := 0, c2 := 1, lo := 0, width := 1, acc := .ro, ka := false, resets := [0] },
  { pbase := 0x4, pstride := 0, pcount := 1, off := 0x200, s1 := 0, c1 := 1, s2 := 4, c2 := 32, lo := 0, width := 32, acc := .rw, ka := false, resets := [0] }]

/-- Field rows of the ALARM page. -/
def rowsAlarm : List FieldRow := [
  { pbase := 0x5, pstride := 0, pcount := 1, off := 0x100, s1 := 0, c1 := 1, s2 := 0, c2 := 1, lo := 31, width := 1, acc := .ro, ka := false, resets := [0] },
  { pbase := 0x5, pstride := 0, pcount := 1, off := 0x100, s1 := 0, c1 := 1, s2 := 0, c2 := 1, lo := 30, width := 1, acc := .ro, ka := false, resets := [0] },
  { pbase := 0x5, pstride := 0, pcount := 1, off := 0x100, s1 := 0, c1 := 1, s2 := 0, c2 := 1, lo := 0, width := 30, acc := .w1c, ka := false, resets := [0] },
  { pbase := 0x5, pstride := 0, pcount := 1, off := 0x104, s1 := 0, c1 := 1, s2 := 0, c2 := 1, lo := 1, width := 1, acc := .rw, ka := true, resets := [1] },
  { pbase := 0x5, pstride := 0, pcount := 1, off := 0x104, s1 := 0, c1 := 1, s2 := 0, c2 := 1, lo := 0, width := 1, acc := .rw, ka := true, resets := [1] },
  { pbase := 0x5, pstride := 0, pcount := 1, off := 0x108, s1 := 0, c1 := 1, s2 := 0, c2 := 1, lo := 0, width := 1, acc := .wo, ka := false, resets := [0] },
  { pbase := 0x5, pstride := 0, pcount := 1, off := 0x10c, s1 := 0, c1 := 1, s2 := 0, c2 := 1, lo := 5, width := 1, acc := .ro, ka := true, resets := [0] },
  { pbase := 0x5, pstride := 0, pcount := 1, off := 0x10c, s1 := 0, c1 := 1, s2 := 0, c2 := 1, lo := 4, width := 1, acc := .ro, ka := true, resets := [0] },
  { pbase := 0x5, pstride := 0, pcount := 1, off := 0x10c, s1 := 0, c1 := 1, s2 := 0, c2 := 1, lo := 3, width := 1, acc := .ro, ka := true, resets := [0] },
  { pbase := 0x5, pstride := 0, pcount := 1, off := 0x10c, s1 := 0, c1 := 1, s2 := 0, c2 := 1, lo := 2, width := 1, acc := .ro, ka := false, resets := [0] },
  { pbase := 0x5, pstride := 0, pcount := 1, off := 0x10c, s1 := 0, c1 := 1, s2 := 0, c2 := 1, lo := 1, width := 1, acc := .ro, ka := false, resets := [1] },
  { pbase := 0x5, pstride := 0, pcount := 1, off := 0x10c, s1 := 0, c1 := 1, s2 := 0, c2 := 1, lo := 0, width := 1, acc := .ro, ka := true, resets := [0] },
  { pbase := 0x5, pstride := 0, pcount := 1, off := 0x110, s1 := 0, c1 := 1, s2 := 4, c2 := 5, lo := 5, width := 1, acc := .rw, ka := true, resets := [0, 0, 0, 0, 0] },
  { pbase := 0x5, pstride := 0, pcount := 1, off := 0x110, s1 := 0, c1 := 1, s2 := 4, c2 := 5, lo := 4, width := 1, acc := .rw, ka := true, resets := [0, 0, 0, 0, 1] },
  { pbase := 0x5, pstride := 0, pcount := 1, off := 0x110, s1 := 0, c1 := 1, s2 := 4, c2 := 5, lo := 3, width := 1, acc := .rw, ka := true, resets := [0, 0, 0, 1, 1] },
  { pbase := 0x5, pstride := 0, pcount := 1, off := 0x110, s1 := 0, c1 := 1, s2 := 4, c2 := 5, lo := 2, width := 1, acc := .rw, ka := true, resets := [0, 1, 1, 1, 1] },
  { pbase := 0x5, pstride := 0, pcount := 1, off := 0x110, s1 := 0, c1 := 1, s2 := 4, c2 := 5, lo := 1, width := 1, acc := .rw, ka := true, resets := [0, 1, 1, 1, 1] },
  { pbase := 0x5, pstride := 0, pcount := 1, off := 0x110, s1 := 0, c1 := 1, s2 := 4, c2 := 5, lo := 0, width := 1, acc := .ro, ka := false, resets := [1] },
  { pbase := 0x5, pstride := 0, pcount := 1, off := 0x130, s1 := 0, c1 := 1, s2 := 0, c2 := 1, lo := 8, width := 1, acc := .rw, ka := true, resets := [0] },
  { pbase := 0x5, pstride := 0, pcount := 1, off := 0x130, s1 := 0, c1 := 1, s2 := 0, c2 := 1, lo := 0, width := 5, acc := .rw, ka := true, resets := [0] },
  { pbase := 0x5, pstride := 0, pcount := 1, off := 0x134, s1 := 0, c1 := 1, s2 := 0, c2 := 1, lo := 0, width := 32, acc := .rw, ka := true, resets := [1024] },
  { pbase := 0x5, pstride := 0, pcount := 1, off := 0x138, s1 := 0, c1 := 1, s2 := 0, c2 := 1, lo := 8, width := 1, acc := .wo, ka := false, resets := [0] },
  { pbase := 0x5, pstride := 0, pcount := 1, off := 0x138, s1 := 0, c1 := 1, s2 := 0, c2 := 1, lo := 4, width := 4, acc := .rw, ka := true, resets := [3] },
  { pbase := 0x5, pstride := 0, pcount := 1, off := 0x138, s1 := 0, c1 := 1, s2 := 0, c2 := 1, lo := 0, width := 4, acc := .ro, ka := true, resets := [0] },
  { pbase := 0x5, pstride := 0, pcount := 1, off := 0x13c, s1 := 0, c1 := 1, s2 := 0, c2 := 1, lo := 31, width := 1, acc := .ro, ka := false, resets := [0] },
  { pbase := 0x5, pstride := 0, pcount := 1, off := 0x13c, s1 := 0, c1 := 1, s2 := 0, c2 := 1, lo := 28, width := 3, acc := .ro, ka := false, resets := [0] },
  { pbase := 0x5, pstride := 0, pcount := 1, off := 0x13c, s1 := 0, c1 := 1, s2 := 0, c2 := 1, lo := 23, width := 5, acc := .ro, ka := false, resets := [0] },
  { pbase := 0x5, pstride := 0, pcount := 1, off := 0x13c, s1 := 0, c1 := 1, s2 := 0, c2 := 1, lo := 15, width := 8, acc := .ro, ka := false, resets := [0] },
  { pbase := 0x5, pstride := 0, pcount := 1, off := 0x13c, s1 := 0, c1 := 1, s2 := 0, c2 := 1, lo := 0, width := 15, acc := .ro, ka := false, resets := [0] }]

/-- Field rows of the LEDGER page. -/
def rowsLedger : List FieldRow := [
  { pbase := 0x6, pstride := 0, pcount := 1, off := 0x100, s1 := 0, c1 := 1, s2 := 0, c2 := 1, lo := 2, width := 1, acc := .wo, ka := false, resets := [0] },
  { pbase := 0x6, pstride := 0, pcount := 1, off := 0x100, s1 := 0, c1 := 1, s2 := 0, c2 := 1, lo := 1, width := 1, acc := .wo, ka := false, resets := [0] },
  { pbase := 0x6, pstride := 0, pcount := 1, off := 0x100, s1 := 0, c1 := 1, s2 := 0, c2 := 1, lo := 0, width := 1, acc := .rw, ka := true, resets := [1] },
  { pbase := 0x6, pstride := 0, pcount := 1, off := 0x104, s1 := 0, c1 := 1, s2 := 0, c2 := 1, lo := 8, width := 8, acc := .wo, ka := false, resets := [0] },
  { pbase := 0x6, pstride := 0, pcount := 1, off := 0x104, s1 := 0, c1 := 1, s2 := 0, c2 := 1, lo := 0, width := 1, acc := .wo, ka := false, resets := [0] },
  { pbase := 0x6, pstride := 0, pcount := 1, off := 0x108, s1 := 0, c1 := 1, s2 := 0, c2 := 1, lo := 5, width := 4, acc := .ro, ka := true, resets := [0] },
  { pbase := 0x6, pstride := 0, pcount := 1, off := 0x108, s1 := 0, c1 := 1, s2 := 0, c2 := 1, lo := 4, width := 1, acc := .ro, ka := true, resets := [0] },
  { pbase := 0x6, pstride := 0, pcount := 1, off := 0x108, s1 := 0, c1 := 1, s2 := 0, c2 := 1, lo := 3, width := 1, acc := .ro, ka := false, resets := [0] },
  { pbase := 0x6, pstride := 0, pcount := 1, off := 0x108, s1 := 0, c1 := 1, s2 := 0, c2 := 1, lo := 2, width := 1, acc := .ro, ka := false, resets := [0] },
  { pbase := 0x6, pstride := 0, pcount := 1, off := 0x108, s1 := 0, c1 := 1, s2 := 0, c2 := 1, lo := 1, width := 1, acc := .ro, ka := false, resets := [0] },
  { pbase := 0x6, pstride := 0, pcount := 1, off := 0x108, s1 := 0, c1 := 1, s2 := 0, c2 := 1, lo := 0, width := 1, acc := .ro, ka := true, resets := [0] },
  { pbase := 0x6, pstride := 0, pcount := 1, off := 0x10c, s1 := 0, c1 := 1, s2 := 0, c2 := 1, lo := 0, width := 11, acc := .ro, ka := true, resets := [0] },
  { pbase := 0x6, pstride := 0, pcount := 1, off := 0x110, s1 := 0, c1 := 1, s2 := 0, c2 := 1, lo := 0, width := 11, acc := .rw, ka := true, resets := [0] },
  { pbase := 0x6, pstride := 0, pcount := 1, off := 0x114, s1 := 0, c1 := 1, s2 := 0, c2 := 1, lo := 0, width := 32, acc := .ro, ka := true, resets := [1] },
  { pbase := 0x6, pstride := 0, pcount := 1, off := 0x118, s1 := 0, c1 := 1, s2 := 0, c2 := 1, lo := 0, width := 11, acc := .ro, ka := true, resets := [0] },
  { pbase := 0x6, pstride := 0, pcount := 1, off := 0x800, s1 := 0, c1 := 1, s2 := 4, c2 := 64, lo := 0, width := 32, acc := .view, ka := true, resets := [0] }]

/-- Field rows of the TELEM page. -/
def rowsTelem : List FieldRow := [
  { pbase := 0x7, pstride := 0, pcount := 1, off := 0x100, s1 := 0, c1 := 1, s2 := 0, c2 := 1, lo := 16, width := 16, acc := .rw, ka := true, resets := [0] },
  { pbase := 0x7, pstride := 0, pcount := 1, off := 0x100, s1 := 0, c1 := 1, s2 := 0, c2 := 1, lo := 0, width := 1, acc := .rw, ka := true, resets := [0] },
  { pbase := 0x7, pstride := 0, pcount := 1, off := 0x104, s1 := 0, c1 := 1, s2 := 0, c2 := 1, lo := 16, width := 16, acc := .ro, ka := false, resets := [0] },
  { pbase := 0x7, pstride := 0, pcount := 1, off := 0x108, s1 := 0, c1 := 1, s2 := 0, c2 := 1, lo := 8, width := 24, acc := .rw, ka := true, resets := [0] },
  { pbase := 0x7, pstride := 0, pcount := 1, off := 0x10c, s1 := 0, c1 := 1, s2 := 0, c2 := 1, lo := 0, width := 8, acc := .rw, ka := true, resets := [0] },
  { pbase := 0x7, pstride := 0, pcount := 1, off := 0x110, s1 := 0, c1 := 1, s2 := 0, c2 := 1, lo := 0, width := 5, acc := .rw, ka := true, resets := [1] },
  { pbase := 0x7, pstride := 0, pcount := 1, off := 0x114, s1 := 0, c1 := 1, s2 := 0, c2 := 1, lo := 0, width := 20, acc := .rw, ka := true, resets := [0] },
  { pbase := 0x7, pstride := 0, pcount := 1, off := 0x118, s1 := 0, c1 := 1, s2 := 0, c2 := 1, lo := 0, width := 32, acc := .rw, ka := true, resets := [0] },
  { pbase := 0x7, pstride := 0, pcount := 1, off := 0x11c, s1 := 0, c1 := 1, s2 := 0, c2 := 1, lo := 0, width := 4, acc := .rw, ka := true, resets := [0] },
  { pbase := 0x7, pstride := 0, pcount := 1, off := 0x120, s1 := 0, c1 := 1, s2 := 0, c2 := 1, lo := 0, width := 8, acc := .rw, ka := true, resets := [10] },
  { pbase := 0x7, pstride := 0, pcount := 1, off := 0x124, s1 := 0, c1 := 1, s2 := 0, c2 := 1, lo := 5, width := 1, acc := .sel, ka := false, resets := [0] },
  { pbase := 0x7, pstride := 0, pcount := 1, off := 0x124, s1 := 0, c1 := 1, s2 := 0, c2 := 1, lo := 0, width := 5, acc := .sel, ka := false, resets := [0] },
  { pbase := 0x7, pstride := 0, pcount := 1, off := 0x128, s1 := 0, c1 := 1, s2 := 0, c2 := 1, lo := 16, width := 16, acc := .view, ka := false, resets := [0] },
  { pbase := 0x7, pstride := 0, pcount := 1, off := 0x128, s1 := 0, c1 := 1, s2 := 0, c2 := 1, lo := 0, width := 16, acc := .view, ka := false, resets := [0] },
  { pbase := 0x7, pstride := 0, pcount := 1, off := 0x12c, s1 := 0, c1 := 1, s2 := 0, c2 := 1, lo := 0, width := 6, acc := .wo, ka := false, resets := [0] },
  { pbase := 0x7, pstride := 0, pcount := 1, off := 0x130, s1 := 0, c1 := 1, s2 := 0, c2 := 1, lo := 8, width := 8, acc := .wo, ka := false, resets := [0] },
  { pbase := 0x7, pstride := 0, pcount := 1, off := 0x130, s1 := 0, c1 := 1, s2 := 0, c2 := 1, lo := 5, width := 3, acc := .wo, ka := false, resets := [0] },
  { pbase := 0x7, pstride := 0, pcount := 1, off := 0x130, s1 := 0, c1 := 1, s2 := 0, c2 := 1, lo := 4, width := 1, acc := .wo, ka := false, resets := [0] },
  { pbase := 0x7, pstride := 0, pcount := 1, off := 0x130, s1 := 0, c1 := 1, s2 := 0, c2 := 1, lo := 0, width := 4, acc := .wo, ka := false, resets := [0] },
  { pbase := 0x7, pstride := 0, pcount := 1, off := 0x134, s1 := 0, c1 := 1, s2 := 0, c2 := 1, lo := 0, width := 32, acc := .rw, ka := false, resets := [0] },
  { pbase := 0x7, pstride := 0, pcount := 1, off := 0x138, s1 := 0, c1 := 1, s2 := 0, c2 := 1, lo := 0, width := 12, acc := .rw, ka := false, resets := [1024] },
  { pbase := 0x7, pstride := 0, pcount := 1, off := 0x13c, s1 := 0, c1 := 1, s2 := 0, c2 := 1, lo := 28, width := 4, acc := .ro, ka := false, resets := [0] },
  { pbase := 0x7, pstride := 0, pcount := 1, off := 0x13c, s1 := 0, c1 := 1, s2 := 0, c2 := 1, lo := 25, width := 3, acc := .ro, ka := false, resets := [0] },
  { pbase := 0x7, pstride := 0, pcount := 1, off := 0x13c, s1 := 0, c1 := 1, s2 := 0, c2 := 1, lo := 22, width := 3, acc := .ro, ka := false, resets := [0] },
  { pbase := 0x7, pstride := 0, pcount := 1, off := 0x13c, s1 := 0, c1 := 1, s2 := 0, c2 := 1, lo := 0, width := 5, acc := .ro, ka := false, resets := [0] },
  { pbase := 0x7, pstride := 0, pcount := 1, off := 0x140, s1 := 0, c1 := 1, s2 := 0, c2 := 1, lo := 0, width := 5, acc := .sel, ka := false, resets := [0] },
  { pbase := 0x7, pstride := 0, pcount := 1, off := 0x144, s1 := 0, c1 := 1, s2 := 0, c2 := 1, lo := 0, width := 32, acc := .view, ka := false, resets := [0] },
  { pbase := 0x7, pstride := 0, pcount := 1, off := 0x400, s1 := 0, c1 := 1, s2 := 4, c2 := 64, lo := 0, width := 32, acc := .ro, ka := false, resets := [0] }]

/-- Field rows of the MGMT page. -/
def rowsMgmt : List FieldRow := [
  { pbase := 0x8, pstride := 0, pcount := 1, off := 0x100, s1 := 0, c1 := 1, s2 := 0, c2 := 1, lo := 2, width := 1, acc := .rw, ka := true, resets := [0] },
  { pbase := 0x8, pstride := 0, pcount := 1, off := 0x100, s1 := 0, c1 := 1, s2 := 0, c2 := 1, lo := 1, width := 1, acc := .rw, ka := true, resets := [1] },
  { pbase := 0x8, pstride := 0, pcount := 1, off := 0x100, s1 := 0, c1 := 1, s2 := 0, c2 := 1, lo := 0, width := 1, acc := .rw, ka := true, resets := [0] },
  { pbase := 0x8, pstride := 0, pcount := 1, off := 0x104, s1 := 0, c1 := 1, s2 := 0, c2 := 1, lo := 8, width := 1, acc := .ro, ka := false, resets := [0] },
  { pbase := 0x8, pstride := 0, pcount := 1, off := 0x104, s1 := 0, c1 := 1, s2 := 0, c2 := 1, lo := 0, width := 7, acc := .ro, ka := false, resets := [96] },
  { pbase := 0x8, pstride := 0, pcount := 1, off := 0x108, s1 := 0, c1 := 1, s2 := 0, c2 := 1, lo := 3, width := 1, acc := .rw, ka := true, resets := [1] },
  { pbase := 0x8, pstride := 0, pcount := 1, off := 0x108, s1 := 0, c1 := 1, s2 := 0, c2 := 1, lo := 2, width := 1, acc := .rw, ka := true, resets := [1] },
  { pbase := 0x8, pstride := 0, pcount := 1, off := 0x108, s1 := 0, c1 := 1, s2 := 0, c2 := 1, lo := 1, width := 1, acc := .rw, ka := true, resets := [0] },
  { pbase := 0x8, pstride := 0, pcount := 1, off := 0x108, s1 := 0, c1 := 1, s2 := 0, c2 := 1, lo := 0, width := 1, acc := .rw, ka := true, resets := [1] },
  { pbase := 0x8, pstride := 0, pcount := 1, off := 0x10c, s1 := 0, c1 := 1, s2 := 0, c2 := 1, lo := 0, width := 11, acc := .rw, ka := true, resets := [170] },
  { pbase := 0x8, pstride := 0, pcount := 1, off := 0x110, s1 := 0, c1 := 1, s2 := 0, c2 := 1, lo := 24, width := 8, acc := .ro, ka := false, resets := [0] },
  { pbase := 0x8, pstride := 0, pcount := 1, off := 0x110, s1 := 0, c1 := 1, s2 := 0, c2 := 1, lo := 8, width := 8, acc := .ro, ka := false, resets := [0] },
  { pbase := 0x8, pstride := 0, pcount := 1, off := 0x110, s1 := 0, c1 := 1, s2 := 0, c2 := 1, lo := 1, width := 1, acc := .ro, ka := false, resets := [0] },
  { pbase := 0x8, pstride := 0, pcount := 1, off := 0x110, s1 := 0, c1 := 1, s2 := 0, c2 := 1, lo := 0, width := 1, acc := .ro, ka := false, resets := [0] },
  { pbase := 0x8, pstride := 0, pcount := 1, off := 0x114, s1 := 0, c1 := 1, s2 := 0, c2 := 1, lo := 16, width := 16, acc := .ro, ka := false, resets := [0] },
  { pbase := 0x8, pstride := 0, pcount := 1, off := 0x114, s1 := 0, c1 := 1, s2 := 0, c2 := 1, lo := 8, width := 4, acc := .ro, ka := false, resets := [0] },
  { pbase := 0x8, pstride := 0, pcount := 1, off := 0x114, s1 := 0, c1 := 1, s2 := 0, c2 := 1, lo := 4, width := 4, acc := .ro, ka := false, resets := [0] },
  { pbase := 0x8, pstride := 0, pcount := 1, off := 0x114, s1 := 0, c1 := 1, s2 := 0, c2 := 1, lo := 0, width := 4, acc := .ro, ka := false, resets := [0] },
  { pbase := 0x8, pstride := 0, pcount := 1, off := 0x118, s1 := 0, c1 := 1, s2 := 0, c2 := 1, lo := 9, width := 1, acc := .ro, ka := false, resets := [1] },
  { pbase := 0x8, pstride := 0, pcount := 1, off := 0x118, s1 := 0, c1 := 1, s2 := 0, c2 := 1, lo := 8, width := 1, acc := .ro, ka := false, resets := [0] },
  { pbase := 0x8, pstride := 0, pcount := 1, off := 0x118, s1 := 0, c1 := 1, s2 := 0, c2 := 1, lo := 0, width := 8, acc := .ro, ka := false, resets := [1] }]

/-- Field rows of the LANTERN page. -/
def rowsLantern : List FieldRow := [
  { pbase := 0x9, pstride := 0, pcount := 1, off := 0x100, s1 := 0, c1 := 1, s2 := 0, c2 := 1, lo := 2, width := 1, acc := .wo, ka := false, resets := [0] },
  { pbase := 0x9, pstride := 0, pcount := 1, off := 0x100, s1 := 0, c1 := 1, s2 := 0, c2 := 1, lo := 1, width := 1, acc := .rw, ka := true, resets := [1] },
  { pbase := 0x9, pstride := 0, pcount := 1, off := 0x100, s1 := 0, c1 := 1, s2 := 0, c2 := 1, lo := 0, width := 1, acc := .rw, ka := true, resets := [1] },
  { pbase := 0x9, pstride := 0, pcount := 1, off := 0x104, s1 := 0, c1 := 1, s2 := 0, c2 := 1, lo := 6, width := 1, acc := .ro, ka := false, resets := [0] },
  { pbase := 0x9, pstride := 0, pcount := 1, off := 0x104, s1 := 0, c1 := 1, s2 := 0, c2 := 1, lo := 5, width := 1, acc := .ro, ka := false, resets := [0] },
  { pbase := 0x9, pstride := 0, pcount := 1, off := 0x104, s1 := 0, c1 := 1, s2 := 0, c2 := 1, lo := 4, width := 1, acc := .ro, ka := false, resets := [0] },
  { pbase := 0x9, pstride := 0, pcount := 1, off := 0x104, s1 := 0, c1 := 1, s2 := 0, c2 := 1, lo := 3, width := 1, acc := .ro, ka := false, resets := [0] },
  { pbase := 0x9, pstride := 0, pcount := 1, off := 0x104, s1 := 0, c1 := 1, s2 := 0, c2 := 1, lo := 2, width := 1, acc := .ro, ka := false, resets := [0] },
  { pbase := 0x9, pstride := 0, pcount := 1, off := 0x104, s1 := 0, c1 := 1, s2 := 0, c2 := 1, lo := 0, width := 2, acc := .ro, ka := false, resets := [3] },
  { pbase := 0x9, pstride := 0, pcount := 1, off := 0x108, s1 := 0, c1 := 1, s2 := 0, c2 := 1, lo := 8, width := 7, acc := .rw, ka := true, resets := [89] },
  { pbase := 0x9, pstride := 0, pcount := 1, off := 0x108, s1 := 0, c1 := 1, s2 := 0, c2 := 1, lo := 0, width := 7, acc := .rw, ka := true, resets := [88] },
  { pbase := 0x9, pstride := 0, pcount := 1, off := 0x10c, s1 := 0, c1 := 1, s2 := 0, c2 := 1, lo := 16, width := 16, acc := .rw, ka := true, resets := [1300] },
  { pbase := 0x9, pstride := 0, pcount := 1, off := 0x10c, s1 := 0, c1 := 1, s2 := 0, c2 := 1, lo := 0, width := 16, acc := .rw, ka := true, resets := [1000] },
  { pbase := 0x9, pstride := 0, pcount := 1, off := 0x110, s1 := 0, c1 := 1, s2 := 0, c2 := 1, lo := 0, width := 16, acc := .rw, ka := true, resets := [1100] },
  { pbase := 0x9, pstride := 0, pcount := 1, off := 0x114, s1 := 0, c1 := 1, s2 := 4, c2 := 2, lo := 31, width := 1, acc := .ro, ka := false, resets := [0] },
  { pbase := 0x9, pstride := 0, pcount := 1, off := 0x114, s1 := 0, c1 := 1, s2 := 4, c2 := 2, lo := 0, width := 16, acc := .ro, ka := false, resets := [0] },
  { pbase := 0x9, pstride := 0, pcount := 1, off := 0x11c, s1 := 0, c1 := 1, s2 := 0, c2 := 1, lo := 0, width := 8, acc := .rw, ka := true, resets := [80] },
  { pbase := 0x9, pstride := 0, pcount := 1, off := 0x200, s1 := 0, c1 := 1, s2 := 4, c2 := 16, lo := 0, width := 32, acc := .rw, ka := true, resets := [2576980377] },
  { pbase := 0x9, pstride := 0, pcount := 1, off := 0x300, s1 := 128, c1 := 2, s2 := 4, c2 := 32, lo := 16, width := 16, acc := .ro, ka := false, resets := [0] },
  { pbase := 0x9, pstride := 0, pcount := 1, off := 0x300, s1 := 128, c1 := 2, s2 := 4, c2 := 32, lo := 0, width := 16, acc := .ro, ka := false, resets := [0] },
  { pbase := 0x9, pstride := 0, pcount := 1, off := 0x400, s1 := 128, c1 := 2, s2 := 4, c2 := 32, lo := 24, width := 8, acc := .ro, ka := false, resets := [0] },
  { pbase := 0x9, pstride := 0, pcount := 1, off := 0x400, s1 := 128, c1 := 2, s2 := 4, c2 := 32, lo := 0, width := 16, acc := .ro, ka := false, resets := [0] },
  { pbase := 0x9, pstride := 0, pcount := 1, off := 0x500, s1 := 0, c1 := 1, s2 := 4, c2 := 2, lo := 0, width := 32, acc := .ro, ka := false, resets := [0] },
  { pbase := 0x9, pstride := 0, pcount := 1, off := 0x600, s1 := 32, c1 := 2, s2 := 4, c2 := 8, lo := 0, width := 32, acc := .ro, ka := false, resets := [0] }]

/-- Field rows of the HEARTH page, part 1. -/
def rowsHearth1 : List FieldRow := [
  { pbase := 0xa, pstride := 1, pcount := 2, off := 0x100, s1 := 0, c1 := 1, s2 := 0, c2 := 1, lo := 1, width := 1, acc := .rw, ka := true, resets := [1] },
  { pbase := 0xa, pstride := 1, pcount := 2, off := 0x100, s1 := 0, c1 := 1, s2 := 0, c2 := 1, lo := 0, width := 1, acc := .rw, ka := true, resets := [1] },
  { pbase := 0xa, pstride := 1, pcount := 2, off := 0x104, s1 := 0, c1 := 1, s2 := 0, c2 := 1, lo := 16, width := 11, acc := .ro, ka := false, resets := [0] },
  { pbase := 0xa, pstride := 1, pcount := 2, off := 0x104, s1 := 0, c1 := 1, s2 := 0, c2 := 1, lo := 0, width := 11, acc := .ro, ka := false, resets := [0] },
  { pbase := 0xa, pstride := 1, pcount := 2, off := 0x110, s1 := 0, c1 := 1, s2 := 4, c2 := 4, lo := 16, width := 16, acc := .rws, ka := true, resets := [2048, 16384, 16384, 16384] },
  { pbase := 0xa, pstride := 1, pcount := 2, off := 0x110, s1 := 0, c1 := 1, s2 := 4, c2 := 4, lo := 0, width := 16, acc := .rws, ka := true, resets := [4096, 32768, 32768, 32768] },
  { pbase := 0xa, pstride := 1, pcount := 2, off := 0x120, s1 := 0, c1 := 1, s2 := 4, c2 := 4, lo := 16, width := 16, acc := .rws, ka := true, resets := [3277, 1311, 1311, 2048] },
  { pbase := 0xa, pstride := 1, pcount := 2, off := 0x120, s1 := 0, c1 := 1, s2 := 4, c2 := 4, lo := 0, width := 16, acc := .rws, ka := true, resets := [655, 262, 262, 262] },
  { pbase := 0xa, pstride := 1, pcount := 2, off := 0x130, s1 := 0, c1 := 1, s2 := 0, c2 := 1, lo := 16, width := 16, acc := .rws, ka := true, resets := [102] },
  { pbase := 0xa, pstride := 1, pcount := 2, off := 0x130, s1 := 0, c1 := 1, s2 := 0, c2 := 1, lo := 0, width := 16, acc := .rws, ka := true, resets := [102] },
  { pbase := 0xa, pstride := 1, pcount := 2, off := 0x134, s1 := 0, c1 := 1, s2 := 0, c2 := 1, lo := 0, width := 22, acc := .rw, ka := true, resets := [512] },
  { pbase := 0xa, pstride := 1, pcount := 2, off := 0x138, s1 := 0, c1 := 1, s2 := 0, c2 := 1, lo := 0, width := 8, acc := .rw, ka := true, resets := [20] },
  { pbase := 0xa, pstride := 1, pcount := 2, off := 0x140, s1 := 0, c1 := 1, s2 := 0, c2 := 1, lo := 0, width := 10, acc := .sel, ka := false, resets := [0] },
  { pbase := 0xa, pstride := 1, pcount := 2, off := 0x144, s1 := 0, c1 := 1, s2 := 0, c2 := 1, lo := 29, width := 3, acc := .view, ka := false, resets := [0] },
  { pbase := 0xa, pstride := 1, pcount := 2, off := 0x144, s1 := 0, c1 := 1, s2 := 0, c2 := 1, lo := 28, width := 1, acc := .view, ka := false, resets := [0] },
  { pbase := 0xa, pstride := 1, pcount := 2, off := 0x144, s1 := 0, c1 := 1, s2 := 0, c2 := 1, lo := 27, width := 1, acc := .view, ka := false, resets := [0] },
  { pbase := 0xa, pstride := 1, pcount := 2, off := 0x144, s1 := 0, c1 := 1, s2 := 0, c2 := 1, lo := 0, width := 16, acc := .view, ka := false, resets := [0] },
  { pbase := 0xa, pstride := 1, pcount := 2, off := 0x148, s1 := 0, c1 := 1, s2 := 0, c2 := 1, lo := 16, width := 16, acc := .view, ka := false, resets := [0] },
  { pbase := 0xa, pstride := 1, pcount := 2, off := 0x148, s1 := 0, c1 := 1, s2 := 0, c2 := 1, lo := 0, width := 16, acc := .view, ka := false, resets := [0] },
  { pbase := 0xa, pstride := 1, pcount := 2, off := 0x150, s1 := 0, c1 := 1, s2 := 4, c2 := 8, lo := 16, width := 11, acc := .ro, ka := false, resets := [0] },
  { pbase := 0xa, pstride := 1, pcount := 2, off := 0x150, s1 := 0, c1 := 1, s2 := 4, c2 := 8, lo := 0, width := 16, acc := .ro, ka := false, resets := [0] },
  { pbase := 0xa, pstride := 1, pcount := 2, off := 0x180, s1 := 0, c1 := 1, s2 := 0, c2 := 1, lo := 8, width := 3, acc := .sel, ka := false, resets := [0] },
  { pbase := 0xa, pstride := 1, pcount := 2, off := 0x180, s1 := 0, c1 := 1, s2 := 0, c2 := 1, lo := 0, width := 8, acc := .sel, ka := false, resets := [0] },
  { pbase := 0xa, pstride := 1, pcount := 2, off := 0x184, s1 := 0, c1 := 1, s2 := 0, c2 := 1, lo := 16, width := 16, acc := .view, ka := true, resets := [0] },
  { pbase := 0xa, pstride := 1, pcount := 2, off := 0x184, s1 := 0, c1 := 1, s2 := 0, c2 := 1, lo := 0, width := 16, acc := .view, ka := true, resets := [0] },
  { pbase := 0xa, pstride := 1, pcount := 2, off := 0x188, s1 := 0, c1 := 1, s2 := 0, c2 := 1, lo := 16, width := 16, acc := .view, ka := true, resets := [0] },
  { pbase := 0xa, pstride := 1, pcount := 2, off := 0x188, s1 := 0, c1 := 1, s2 := 0, c2 := 1, lo := 0, width := 16, acc := .view, ka := true, resets := [0] },
  { pbase := 0xa, pstride := 1, pcount := 2, off := 0x18c, s1 := 0, c1 := 1, s2 := 0, c2 := 1, lo := 16, width := 16, acc := .view, ka := true, resets := [0] },
  { pbase := 0xa, pstride := 1, pcount := 2, off := 0x18c, s1 := 0, c1 := 1, s2 := 0, c2 := 1, lo := 0, width := 16, acc := .view, ka := true, resets := [16384] },
  { pbase := 0xa, pstride := 1, pcount := 2, off := 0x190, s1 := 0, c1 := 1, s2 := 0, c2 := 1, lo := 16, width := 16, acc := .view, ka := true, resets := [0] },
  { pbase := 0xa, pstride := 1, pcount := 2, off := 0x190, s1 := 0, c1 := 1, s2 := 0, c2 := 1, lo := 0, width := 16, acc := .view, ka := true, resets := [0] },
  { pbase := 0xa, pstride := 1, pcount := 2, off := 0x194, s1 := 0, c1 := 1, s2 := 0, c2 := 1, lo := 0, width := 16, acc := .view, ka := true, resets := [0] },
  { pbase := 0xa, pstride := 1, pcount := 2, off := 0x198, s1 := 0, c1 := 1, s2 := 0, c2 := 1, lo := 31, width := 1, acc := .ro, ka := false, resets := [0] },
  { pbase := 0xa, pstride := 1, pcount := 2, off := 0x198, s1 := 0, c1 := 1, s2 := 0, c2 := 1, lo := 8, width := 3, acc := .ro, ka := false, resets := [0] },
  { pbase := 0xa, pstride := 1, pcount := 2, off := 0x198, s1 := 0, c1 := 1, s2 := 0, c2 := 1, lo := 0, width := 8, acc := .ro, ka := false, resets := [0] },
  { pbase := 0xa, pstride := 1, pcount := 2, off := 0x1a0, s1 := 0, c1 := 1, s2 := 0, c2 := 1, lo := 0, width := 16, acc := .rw, ka := true, resets := [24] },
  { pbase := 0xa, pstride := 1, pcount := 2, off := 0x1a4, s1 := 0, c1 := 1, s2 := 0, c2 := 1, lo := 0, width := 16, acc := .rw, ka := true, resets := [500] },
  { pbase := 0xa, pstride := 1, pcount := 2, off := 0x1a8, s1 := 0, c1 := 1, s2 := 0, c2 := 1, lo := 31, width := 1, acc := .ro, ka := false, resets := [0] },
  { pbase := 0xa, pstride := 1, pcount := 2, off := 0x1a8, s1 := 0, c1 := 1, s2 := 0, c2 := 1, lo := 5, width := 2, acc := .ro, ka := false, resets := [0] },
  { pbase := 0xa, pstride := 1, pcount := 2, off := 0x1a8, s1 := 0, c1 := 1, s2 := 0, c2 := 1, lo := 0, width := 5, acc := .ro, ka := false, resets := [0] }]

/-- Field rows of the HEARTH page, part 2. -/
def rowsHearth2 : List FieldRow := [
  { pbase := 0xa, pstride := 1, pcount := 2, off := 0x300, s1 := 0, c1 := 1, s2 := 0, c2 := 1, lo := 24, width := 8, acc := .ro, ka := false, resets := [0] },
  { pbase := 0xa, pstride := 1, pcount := 2, off := 0x300, s1 := 0, c1 := 1, s2 := 0, c2 := 1, lo := 16, width := 8, acc := .ro, ka := false, resets := [0] },
  { pbase := 0xa, pstride := 1, pcount := 2, off := 0x300, s1 := 0, c1 := 1, s2 := 0, c2 := 1, lo := 8, width := 4, acc := .ro, ka := false, resets := [0] },
  { pbase := 0xa, pstride := 1, pcount := 2, off := 0x300, s1 := 0, c1 := 1, s2 := 0, c2 := 1, lo := 3, width := 1, acc := .ro, ka := false, resets := [0] },
  { pbase := 0xa, pstride := 1, pcount := 2, off := 0x300, s1 := 0, c1 := 1, s2 := 0, c2 := 1, lo := 2, width := 1, acc := .ro, ka := false, resets := [0] },
  { pbase := 0xa, pstride := 1, pcount := 2, off := 0x300, s1 := 0, c1 := 1, s2 := 0, c2 := 1, lo := 1, width := 1, acc := .ro, ka := false, resets := [1] },
  { pbase := 0xa, pstride := 1, pcount := 2, off := 0x300, s1 := 0, c1 := 1, s2 := 0, c2 := 1, lo := 0, width := 1, acc := .ro, ka := false, resets := [0] },
  { pbase := 0xa, pstride := 1, pcount := 2, off := 0x304, s1 := 0, c1 := 1, s2 := 0, c2 := 1, lo := 16, width := 16, acc := .ro, ka := false, resets := [0] },
  { pbase := 0xa, pstride := 1, pcount := 2, off := 0x304, s1 := 0, c1 := 1, s2 := 0, c2 := 1, lo := 0, width := 3, acc := .ro, ka := false, resets := [0] },
  { pbase := 0xa, pstride := 1, pcount := 2, off := 0x308, s1 := 0, c1 := 1, s2 := 0, c2 := 1, lo := 0, width := 1, acc := .rw, ka := true, resets := [0] },
  { pbase := 0xa, pstride := 1, pcount := 2, off := 0x30c, s1 := 0, c1 := 1, s2 := 0, c2 := 1, lo := 0, width := 16, acc := .rw, ka := true, resets := [0] },
  { pbase := 0xa, pstride := 1, pcount := 2, off := 0x310, s1 := 0, c1 := 1, s2 := 0, c2 := 1, lo := 8, width := 8, acc := .ro, ka := false, resets := [0] },
  { pbase := 0xa, pstride := 1, pcount := 2, off := 0x310, s1 := 0, c1 := 1, s2 := 0, c2 := 1, lo := 0, width := 8, acc := .ro, ka := false, resets := [0] },
  { pbase := 0xa, pstride := 1, pcount := 2, off := 0x314, s1 := 0, c1 := 1, s2 := 0, c2 := 1, lo := 16, width := 10, acc := .ro, ka := false, resets := [0] },
  { pbase := 0xa, pstride := 1, pcount := 2, off := 0x314, s1 := 0, c1 := 1, s2 := 0, c2 := 1, lo := 0, width := 16, acc := .ro, ka := false, resets := [0] },
  { pbase := 0xa, pstride := 1, pcount := 2, off := 0x318, s1 := 0, c1 := 1, s2 := 0, c2 := 1, lo := 29, width := 3, acc := .ro, ka := false, resets := [0] },
  { pbase := 0xa, pstride := 1, pcount := 2, off := 0x318, s1 := 0, c1 := 1, s2 := 0, c2 := 1, lo := 28, width := 1, acc := .ro, ka := false, resets := [0] },
  { pbase := 0xa, pstride := 1, pcount := 2, off := 0x318, s1 := 0, c1 := 1, s2 := 0, c2 := 1, lo := 20, width := 8, acc := .ro, ka := false, resets := [0] },
  { pbase := 0xa, pstride := 1, pcount := 2, off := 0x318, s1 := 0, c1 := 1, s2 := 0, c2 := 1, lo := 16, width := 4, acc := .ro, ka := false, resets := [0] },
  { pbase := 0xa, pstride := 1, pcount := 2, off := 0x318, s1 := 0, c1 := 1, s2 := 0, c2 := 1, lo := 8, width := 8, acc := .ro, ka := false, resets := [0] },
  { pbase := 0xa, pstride := 1, pcount := 2, off := 0x318, s1 := 0, c1 := 1, s2 := 0, c2 := 1, lo := 0, width := 8, acc := .ro, ka := false, resets := [0] },
  { pbase := 0xa, pstride := 1, pcount := 2, off := 0x31c, s1 := 0, c1 := 1, s2 := 0, c2 := 1, lo := 31, width := 1, acc := .ro, ka := false, resets := [0] },
  { pbase := 0xa, pstride := 1, pcount := 2, off := 0x31c, s1 := 0, c1 := 1, s2 := 0, c2 := 1, lo := 30, width := 1, acc := .ro, ka := false, resets := [0] },
  { pbase := 0xa, pstride := 1, pcount := 2, off := 0x31c, s1 := 0, c1 := 1, s2 := 0, c2 := 1, lo := 0, width := 24, acc := .ro, ka := false, resets := [0] },
  { pbase := 0xa, pstride := 1, pcount := 2, off := 0x320, s1 := 0, c1 := 1, s2 := 0, c2 := 1, lo := 8, width := 8, acc := .wo, ka := false, resets := [0] },
  { pbase := 0xa, pstride := 1, pcount := 2, off := 0x320, s1 := 0, c1 := 1, s2 := 0, c2 := 1, lo := 0, width := 1, acc := .wo, ka := false, resets := [0] }]

/-- Field rows of the HEARTH page. -/
def rowsHearth : List FieldRow := rowsHearth1 ++ rowsHearth2

/-- Field rows of the HTR page. -/
def rowsHtr : List FieldRow := [
  { pbase := 0xc, pstride := 0, pcount := 1, off := 0x100, s1 := 0, c1 := 1, s2 := 0, c2 := 1, lo := 0, width := 16, acc := .ro, ka := false, resets := [0] },
  { pbase := 0xc, pstride := 0, pcount := 1, off := 0x104, s1 := 0, c1 := 1, s2 := 0, c2 := 1, lo := 0, width := 11, acc := .sel, ka := false, resets := [0] },
  { pbase := 0xc, pstride := 0, pcount := 1, off := 0x108, s1 := 0, c1 := 1, s2 := 0, c2 := 1, lo := 0, width := 16, acc := .view, ka := true, resets := [0] },
  { pbase := 0xc, pstride := 0, pcount := 1, off := 0x10c, s1 := 0, c1 := 1, s2 := 0, c2 := 1, lo := 0, width := 11, acc := .sel, ka := false, resets := [0] },
  { pbase := 0xc, pstride := 0, pcount := 1, off := 0x110, s1 := 0, c1 := 1, s2 := 0, c2 := 1, lo := 0, width := 32, acc := .view, ka := false, resets := [0] },
  { pbase := 0xc, pstride := 0, pcount := 1, off := 0x200, s1 := 0, c1 := 1, s2 := 16, c2 := 8, lo := 0, width := 32, acc := .ro, ka := false, resets := [0] },
  { pbase := 0xc, pstride := 0, pcount := 1, off := 0x204, s1 := 0, c1 := 1, s2 := 16, c2 := 8, lo := 0, width := 32, acc := .ro, ka := false, resets := [0] },
  { pbase := 0xc, pstride := 0, pcount := 1, off := 0x208, s1 := 0, c1 := 1, s2 := 16, c2 := 8, lo := 13, width := 1, acc := .ro, ka := false, resets := [0] },
  { pbase := 0xc, pstride := 0, pcount := 1, off := 0x208, s1 := 0, c1 := 1, s2 := 16, c2 := 8, lo := 8, width := 5, acc := .ro, ka := false, resets := [0] },
  { pbase := 0xc, pstride := 0, pcount := 1, off := 0x208, s1 := 0, c1 := 1, s2 := 16, c2 := 8, lo := 5, width := 1, acc := .ro, ka := false, resets := [0] },
  { pbase := 0xc, pstride := 0, pcount := 1, off := 0x208, s1 := 0, c1 := 1, s2 := 16, c2 := 8, lo := 0, width := 5, acc := .ro, ka := false, resets := [0] }]

/-- Field rows of the THERMAL page. -/
def rowsThermal : List FieldRow := [
  { pbase := 0xd, pstride := 0, pcount := 1, off := 0x100, s1 := 0, c1 := 1, s2 := 0, c2 := 1, lo := 1, width := 1, acc := .wo, ka := false, resets := [0] },
  { pbase := 0xd, pstride := 0, pcount := 1, off := 0x100, s1 := 0, c1 := 1, s2 := 0, c2 := 1, lo := 0, width := 1, acc := .rw, ka := true, resets := [1] },
  { pbase := 0xd, pstride := 0, pcount := 1, off := 0x104, s1 := 0, c1 := 1, s2 := 0, c2 := 1, lo := 8, width := 4, acc := .ro, ka := false, resets := [0] },
  { pbase := 0xd, pstride := 0, pcount := 1, off := 0x104, s1 := 0, c1 := 1, s2 := 0, c2 := 1, lo := 7, width := 1, acc := .ro, ka := true, resets := [0] },
  { pbase := 0xd, pstride := 0, pcount := 1, off := 0x104, s1 := 0, c1 := 1, s2 := 0, c2 := 1, lo := 6, width := 1, acc := .ro, ka := false, resets := [1] },
  { pbase := 0xd, pstride := 0, pcount := 1, off := 0x104, s1 := 0, c1 := 1, s2 := 0, c2 := 1, lo := 0, width := 2, acc := .ro, ka := false, resets := [0] },
  { pbase := 0xd, pstride := 0, pcount := 1, off := 0x108, s1 := 0, c1 := 1, s2 := 0, c2 := 1, lo := 0, width := 12, acc := .ro, ka := false, resets := [0] },
  { pbase := 0xd, pstride := 0, pcount := 1, off := 0x10c, s1 := 0, c1 := 1, s2 := 0, c2 := 1, lo := 0, width := 16, acc := .ro, ka := false, resets := [0] },
  { pbase := 0xd, pstride := 0, pcount := 1, off := 0x110, s1 := 0, c1 := 1, s2 := 0, c2 := 1, lo := 2, width := 1, acc := .w1c, ka := true, resets := [0] },
  { pbase := 0xd, pstride := 0, pcount := 1, off := 0x110, s1 := 0, c1 := 1, s2 := 0, c2 := 1, lo := 1, width := 1, acc := .ro, ka := false, resets := [0] },
  { pbase := 0xd, pstride := 0, pcount := 1, off := 0x110, s1 := 0, c1 := 1, s2 := 0, c2 := 1, lo := 0, width := 1, acc := .ro, ka := false, resets := [0] },
  { pbase := 0xd, pstride := 0, pcount := 1, off := 0x140, s1 := 0, c1 := 1, s2 := 4, c2 := 16, lo := 31, width := 1, acc := .ro, ka := false, resets := [0] },
  { pbase := 0xd, pstride := 0, pcount := 1, off := 0x140, s1 := 0, c1 := 1, s2 := 4, c2 := 16, lo := 0, width := 12, acc := .ro, ka := false, resets := [0] }]

/-- Field rows of the FERRY_LANE page. -/
def rowsFerryLane : List FieldRow := [
  { pbase := 0x20, pstride := 4, pcount := 8, off := 0x100, s1 := 0, c1 := 1, s2 := 0, c2 := 1, lo := 14, width := 1, acc := .ro, ka := true, resets := [0] },
  { pbase := 0x20, pstride := 4, pcount := 8, off := 0x100, s1 := 0, c1 := 1, s2 := 0, c2 := 1, lo := 9, width := 5, acc := .ro, ka := true, resets := [0] },
  { pbase := 0x20, pstride := 4, pcount := 8, off := 0x100, s1 := 0, c1 := 1, s2 := 0, c2 := 1, lo := 2, width := 1, acc := .ro, ka := false, resets := [0] },
  { pbase := 0x20, pstride := 4, pcount := 8, off := 0x100, s1 := 0, c1 := 1, s2 := 0, c2 := 1, lo := 1, width := 1, acc := .ro, ka := false, resets := [0] },
  { pbase := 0x20, pstride := 4, pcount := 8, off := 0x100, s1 := 0, c1 := 1, s2 := 0, c2 := 1, lo := 0, width := 1, acc := .ro, ka := false, resets := [0] },
  { pbase := 0x20, pstride := 4, pcount := 8, off := 0x104, s1 := 0, c1 := 1, s2 := 0, c2 := 1, lo := 0, width := 32, acc := .ro, ka := false, resets := [0] },
  { pbase := 0x20, pstride := 4, pcount := 8, off := 0x108, s1 := 0, c1 := 1, s2 := 0, c2 := 1, lo := 0, width := 32, acc := .wo, ka := false, resets := [0] },
  { pbase := 0x20, pstride := 4, pcount := 8, off := 0x10c, s1 := 0, c1 := 1, s2 := 0, c2 := 1, lo := 0, width := 5, acc := .rw, ka := false, resets := [0] },
  { pbase := 0x20, pstride := 4, pcount := 8, off := 0x180, s1 := 0, c1 := 1, s2 := 4, c2 := 32, lo := 24, width := 8, acc := .ro, ka := false, resets := [0] },
  { pbase := 0x20, pstride := 4, pcount := 8, off := 0x180, s1 := 0, c1 := 1, s2 := 4, c2 := 32, lo := 21, width := 3, acc := .ro, ka := false, resets := [0] },
  { pbase := 0x20, pstride := 4, pcount := 8, off := 0x180, s1 := 0, c1 := 1, s2 := 4, c2 := 32, lo := 20, width := 1, acc := .ro, ka := false, resets := [0] },
  { pbase := 0x20, pstride := 4, pcount := 8, off := 0x180, s1 := 0, c1 := 1, s2 := 4, c2 := 32, lo := 19, width := 1, acc := .ro, ka := false, resets := [0] },
  { pbase := 0x20, pstride := 4, pcount := 8, off := 0x180, s1 := 0, c1 := 1, s2 := 4, c2 := 32, lo := 17, width := 2, acc := .ro, ka := false, resets := [0] },
  { pbase := 0x20, pstride := 4, pcount := 8, off := 0x180, s1 := 0, c1 := 1, s2 := 4, c2 := 32, lo := 16, width := 1, acc := .ro, ka := false, resets := [1] },
  { pbase := 0x20, pstride := 4, pcount := 8, off := 0x180, s1 := 0, c1 := 1, s2 := 4, c2 := 32, lo := 3, width := 1, acc := .ro, ka := false, resets := [0] },
  { pbase := 0x20, pstride := 4, pcount := 8, off := 0x180, s1 := 0, c1 := 1, s2 := 4, c2 := 32, lo := 0, width := 3, acc := .ro, ka := false, resets := [0] },
  { pbase := 0x20, pstride := 4, pcount := 8, off := 0x200, s1 := 0, c1 := 1, s2 := 4, c2 := 32, lo := 0, width := 32, acc := .ro, ka := false, resets := [0] },
  { pbase := 0x20, pstride := 4, pcount := 8, off := 0x280, s1 := 0, c1 := 1, s2 := 4, c2 := 32, lo := 0, width := 21, acc := .ro, ka := false, resets := [0] },
  { pbase := 0x20, pstride := 4, pcount := 8, off := 0x300, s1 := 0, c1 := 1, s2 := 4, c2 := 32, lo := 31, width := 1, acc := .ro, ka := false, resets := [0] },
  { pbase := 0x20, pstride := 4, pcount := 8, off := 0x300, s1 := 0, c1 := 1, s2 := 4, c2 := 32, lo := 30, width := 1, acc := .ro, ka := false, resets := [0] },
  { pbase := 0x20, pstride := 4, pcount := 8, off := 0x300, s1 := 0, c1 := 1, s2 := 4, c2 := 32, lo := 29, width := 1, acc := .ro, ka := false, resets := [0] },
  { pbase := 0x20, pstride := 4, pcount := 8, off := 0x300, s1 := 0, c1 := 1, s2 := 4, c2 := 32, lo := 23, width := 6, acc := .ro, ka := false, resets := [0] },
  { pbase := 0x20, pstride := 4, pcount := 8, off := 0x300, s1 := 0, c1 := 1, s2 := 4, c2 := 32, lo := 19, width := 4, acc := .ro, ka := false, resets := [0] },
  { pbase := 0x20, pstride := 4, pcount := 8, off := 0x300, s1 := 0, c1 := 1, s2 := 4, c2 := 32, lo := 17, width := 2, acc := .ro, ka := false, resets := [0] },
  { pbase := 0x20, pstride := 4, pcount := 8, off := 0x300, s1 := 0, c1 := 1, s2 := 4, c2 := 32, lo := 0, width := 9, acc := .ro, ka := false, resets := [0] }]

/-- Field rows of the FERRY_EQ page. -/
def rowsFerryEq : List FieldRow := [
  { pbase := 0x21, pstride := 4, pcount := 8, off := 0x100, s1 := 0, c1 := 1, s2 := 0, c2 := 1, lo := 8, width := 8, acc := .rw, ka := true, resets := [16] },
  { pbase := 0x21, pstride := 4, pcount := 8, off := 0x100, s1 := 0, c1 := 1, s2 := 0, c2 := 1, lo := 0, width := 8, acc := .rw, ka := true, resets := [1] },
  { pbase := 0x21, pstride := 4, pcount := 8, off := 0x104, s1 := 0, c1 := 1, s2 := 0, c2 := 1, lo := 0, width := 32, acc := .rw, ka := true, resets := [0] },
  { pbase := 0x21, pstride := 4, pcount := 8, off := 0x200, s1 := 0, c1 := 1, s2 := 16, c2 := 32, lo := 0, width := 32, acc := .rw, ka := false, resets := [0] },
  { pbase := 0x21, pstride := 4, pcount := 8, off := 0x204, s1 := 0, c1 := 1, s2 := 16, c2 := 32, lo := 0, width := 32, acc := .rw, ka := false, resets := [0] },
  { pbase := 0x21, pstride := 4, pcount := 8, off := 0x208, s1 := 0, c1 := 1, s2 := 16, c2 := 32, lo := 8, width := 8, acc := .rw, ka := false, resets := [0] },
  { pbase := 0x21, pstride := 4, pcount := 8, off := 0x208, s1 := 0, c1 := 1, s2 := 16, c2 := 32, lo := 0, width := 8, acc := .rw, ka := false, resets := [0] },
  { pbase := 0x21, pstride := 4, pcount := 8, off := 0x20c, s1 := 0, c1 := 1, s2 := 16, c2 := 32, lo := 16, width := 16, acc := .ro, ka := false, resets := [0] },
  { pbase := 0x21, pstride := 4, pcount := 8, off := 0x20c, s1 := 0, c1 := 1, s2 := 16, c2 := 32, lo := 0, width := 16, acc := .ro, ka := false, resets := [0] }]

/-- Field rows of the FERRY_CNT page. -/
def rowsFerryCnt : List FieldRow := [
  { pbase := 0x22, pstride := 4, pcount := 8, off := 0x200, s1 := 0, c1 := 1, s2 := 8, c2 := 32, lo := 0, width := 32, acc := .rc, ka := false, resets := [0] },
  { pbase := 0x22, pstride := 4, pcount := 8, off := 0x204, s1 := 0, c1 := 1, s2 := 8, c2 := 32, lo := 0, width := 32, acc := .rc, ka := false, resets := [0] }]

/-- Field rows of the FERRY_FAR page. -/
def rowsFerryFar : List FieldRow := [
  { pbase := 0x23, pstride := 4, pcount := 8, off := 0x200, s1 := 0, c1 := 1, s2 := 16, c2 := 32, lo := 31, width := 1, acc := .ro, ka := false, resets := [0] },
  { pbase := 0x23, pstride := 4, pcount := 8, off := 0x200, s1 := 0, c1 := 1, s2 := 16, c2 := 32, lo := 29, width := 2, acc := .ro, ka := false, resets := [0] },
  { pbase := 0x23, pstride := 4, pcount := 8, off := 0x200, s1 := 0, c1 := 1, s2 := 16, c2 := 32, lo := 24, width := 5, acc := .ro, ka := false, resets := [0] },
  { pbase := 0x23, pstride := 4, pcount := 8, off := 0x200, s1 := 0, c1 := 1, s2 := 16, c2 := 32, lo := 20, width := 3, acc := .ro, ka := false, resets := [0] },
  { pbase := 0x23, pstride := 4, pcount := 8, off := 0x200, s1 := 0, c1 := 1, s2 := 16, c2 := 32, lo := 0, width := 20, acc := .ro, ka := false, resets := [0] },
  { pbase := 0x23, pstride := 4, pcount := 8, off := 0x204, s1 := 0, c1 := 1, s2 := 16, c2 := 32, lo := 0, width := 32, acc := .ro, ka := false, resets := [0] },
  { pbase := 0x23, pstride := 4, pcount := 8, off := 0x208, s1 := 0, c1 := 1, s2 := 16, c2 := 32, lo := 24, width := 8, acc := .ro, ka := false, resets := [0] },
  { pbase := 0x23, pstride := 4, pcount := 8, off := 0x208, s1 := 0, c1 := 1, s2 := 16, c2 := 32, lo := 16, width := 3, acc := .ro, ka := false, resets := [0] },
  { pbase := 0x23, pstride := 4, pcount := 8, off := 0x208, s1 := 0, c1 := 1, s2 := 16, c2 := 32, lo := 0, width := 16, acc := .ro, ka := false, resets := [0] },
  { pbase := 0x23, pstride := 4, pcount := 8, off := 0x20c, s1 := 0, c1 := 1, s2 := 16, c2 := 32, lo := 0, width := 32, acc := .ro, ka := false, resets := [0] }]

/-- Field rows of the UAHUS page. -/
def rowsUahus : List FieldRow := [
  { pbase := 0x40, pstride := 0, pcount := 1, off := 0x100, s1 := 0, c1 := 1, s2 := 0, c2 := 1, lo := 8, width := 6, acc := .ro, ka := false, resets := [0] },
  { pbase := 0x40, pstride := 0, pcount := 1, off := 0x100, s1 := 0, c1 := 1, s2 := 0, c2 := 1, lo := 0, width := 2, acc := .ro, ka := false, resets := [0] },
  { pbase := 0x40, pstride := 0, pcount := 1, off := 0x104, s1 := 0, c1 := 1, s2 := 0, c2 := 1, lo := 0, width := 1, acc := .wo, ka := false, resets := [0] },
  { pbase := 0x40, pstride := 0, pcount := 1, off := 0x108, s1 := 0, c1 := 1, s2 := 0, c2 := 1, lo := 0, width := 32, acc := .rw, ka := true, resets := [1024] },
  { pbase := 0x40, pstride := 0, pcount := 1, off := 0x10c, s1 := 0, c1 := 1, s2 := 0, c2 := 1, lo := 0, width := 32, acc := .rw, ka := true, resets := [1024] },
  { pbase := 0x40, pstride := 0, pcount := 1, off := 0x110, s1 := 0, c1 := 1, s2 := 4, c2 := 5, lo := 0, width := 32, acc := .ro, ka := false, resets := [0] },
  { pbase := 0x40, pstride := 0, pcount := 1, off := 0x130, s1 := 0, c1 := 1, s2 := 0, c2 := 1, lo := 16, width := 16, acc := .ro, ka := false, resets := [0] },
  { pbase := 0x40, pstride := 0, pcount := 1, off := 0x130, s1 := 0, c1 := 1, s2 := 0, c2 := 1, lo := 8, width := 8, acc := .ro, ka := false, resets := [0] },
  { pbase := 0x40, pstride := 0, pcount := 1, off := 0x130, s1 := 0, c1 := 1, s2 := 0, c2 := 1, lo := 0, width := 8, acc := .ro, ka := false, resets := [0] },
  { pbase := 0x40, pstride := 0, pcount := 1, off := 0x134, s1 := 0, c1 := 1, s2 := 0, c2 := 1, lo := 16, width := 11, acc := .ro, ka := false, resets := [0] },
  { pbase := 0x40, pstride := 0, pcount := 1, off := 0x134, s1 := 0, c1 := 1, s2 := 0, c2 := 1, lo := 0, width := 12, acc := .ro, ka := false, resets := [0] },
  { pbase := 0x40, pstride := 0, pcount := 1, off := 0x140, s1 := 0, c1 := 1, s2 := 0, c2 := 1, lo := 0, width := 8, acc := .sel, ka := false, resets := [0] },
  { pbase := 0x40, pstride := 0, pcount := 1, off := 0x144, s1 := 0, c1 := 1, s2 := 0, c2 := 1, lo := 12, width := 20, acc := .view, ka := true, resets := [0] },
  { pbase := 0x40, pstride := 0, pcount := 1, off := 0x148, s1 := 0, c1 := 1, s2 := 0, c2 := 1, lo := 0, width := 32, acc := .view, ka := true, resets := [0] },
  { pbase := 0x40, pstride := 0, pcount := 1, off := 0x14c, s1 := 0, c1 := 1, s2 := 0, c2 := 1, lo := 24, width := 8, acc := .view, ka := true, resets := [0] },
  { pbase := 0x40, pstride := 0, pcount := 1, off := 0x14c, s1 := 0, c1 := 1, s2 := 0, c2 := 1, lo := 23, width := 1, acc := .view, ka := true, resets := [0] },
  { pbase := 0x40, pstride := 0, pcount := 1, off := 0x14c, s1 := 0, c1 := 1, s2 := 0, c2 := 1, lo := 22, width := 1, acc := .view, ka := true, resets := [0] },
  { pbase := 0x40, pstride := 0, pcount := 1, off := 0x14c, s1 := 0, c1 := 1, s2 := 0, c2 := 1, lo := 0, width := 21, acc := .view, ka := true, resets := [0] },
  { pbase := 0x40, pstride := 0, pcount := 1, off := 0x150, s1 := 0, c1 := 1, s2 := 0, c2 := 1, lo := 0, width := 8, acc := .ro, ka := false, resets := [0] }]

/-- Field rows of the BUNDLE page. -/
def rowsBundle : List FieldRow := [
  { pbase := 0x41, pstride := 1, pcount := 6, off := 0x100, s1 := 0, c1 := 1, s2 := 0, c2 := 1, lo := 24, width := 8, acc := .ro, ka := false, resets := [0] },
  { pbase := 0x41, pstride := 1, pcount := 6, off := 0x100, s1 := 0, c1 := 1, s2 := 0, c2 := 1, lo := 0, width := 3, acc := .ro, ka := false, resets := [0] },
  { pbase := 0x41, pstride := 1, pcount := 6, off := 0x104, s1 := 0, c1 := 1, s2 := 0, c2 := 1, lo := 0, width := 21, acc := .ro, ka := false, resets := [0] },
  { pbase := 0x41, pstride := 1, pcount := 6, off := 0x108, s1 := 0, c1 := 1, s2 := 0, c2 := 1, lo := 0, width := 1, acc := .wo, ka := false, resets := [0] },
  { pbase := 0x41, pstride := 1, pcount := 6, off := 0x110, s1 := 0, c1 := 1, s2 := 0, c2 := 1, lo := 31, width := 1, acc := .ro, ka := false, resets := [0] },
  { pbase := 0x41, pstride := 1, pcount := 6, off := 0x110, s1 := 0, c1 := 1, s2 := 0, c2 := 1, lo := 30, width := 1, acc := .ro, ka := false, resets := [0] },
  { pbase := 0x41, pstride := 1, pcount := 6, off := 0x110, s1 := 0, c1 := 1, s2 := 0, c2 := 1, lo := 25, width := 5, acc := .ro, ka := false, resets := [0] },
  { pbase := 0x41, pstride := 1, pcount := 6, off := 0x110, s1 := 0, c1 := 1, s2 := 0, c2 := 1, lo := 24, width := 1, acc := .ro, ka := false, resets := [0] },
  { pbase := 0x41, pstride := 1, pcount := 6, off := 0x110, s1 := 0, c1 := 1, s2 := 0, c2 := 1, lo := 19, width := 5, acc := .ro, ka := false, resets := [0] },
  { pbase := 0x41, pstride := 1, pcount := 6, off := 0x110, s1 := 0, c1 := 1, s2 := 0, c2 := 1, lo := 0, width := 17, acc := .ro, ka := false, resets := [0] },
  { pbase := 0x41, pstride := 1, pcount := 6, off := 0x114, s1 := 0, c1 := 1, s2 := 0, c2 := 1, lo := 0, width := 17, acc := .ro, ka := false, resets := [0] },
  { pbase := 0x41, pstride := 1, pcount := 6, off := 0x200, s1 := 0, c1 := 1, s2 := 4, c2 := 17, lo := 16, width := 8, acc := .rw, ka := false, resets := [8] },
  { pbase := 0x41, pstride := 1, pcount := 6, off := 0x200, s1 := 0, c1 := 1, s2 := 4, c2 := 17, lo := 8, width := 8, acc := .rw, ka := false, resets := [55] },
  { pbase := 0x41, pstride := 1, pcount := 6, off := 0x200, s1 := 0, c1 := 1, s2 := 4, c2 := 17, lo := 0, width := 8, acc := .rw, ka := false, resets := [0] },
  { pbase := 0x41, pstride := 1, pcount := 6, off := 0x300, s1 := 0, c1 := 1, s2 := 4, c2 := 17, lo := 24, width := 8, acc := .rw, ka := false, resets := [0] },
  { pbase := 0x41, pstride := 1, pcount := 6, off := 0x300, s1 := 0, c1 := 1, s2 := 4, c2 := 17, lo := 16, width := 8, acc := .rw, ka := false, resets := [0] },
  { pbase := 0x41, pstride := 1, pcount := 6, off := 0x300, s1 := 0, c1 := 1, s2 := 4, c2 := 17, lo := 8, width := 8, acc := .rw, ka := false, resets := [0] },
  { pbase := 0x41, pstride := 1, pcount := 6, off := 0x300, s1 := 0, c1 := 1, s2 := 4, c2 := 17, lo := 0, width := 8, acc := .rw, ka := false, resets := [6] },
  { pbase := 0x41, pstride := 1, pcount := 6, off := 0x400, s1 := 0, c1 := 1, s2 := 4, c2 := 17, lo := 0, width := 32, acc := .ro, ka := false, resets := [0] }]

/-- Field rows of the CMD page. -/
def rowsCmd : List FieldRow := [
  { pbase := 0x50, pstride := 0, pcount := 1, off := 0x100, s1 := 0, c1 := 1, s2 := 0, c2 := 1, lo := 2, width := 1, acc := .wo, ka := false, resets := [0] },
  { pbase := 0x50, pstride := 0, pcount := 1, off := 0x100, s1 := 0, c1 := 1, s2 := 0, c2 := 1, lo := 1, width := 1, acc := .wo, ka := false, resets := [0] },
  { pbase := 0x50, pstride := 0, pcount := 1, off := 0x100, s1 := 0, c1 := 1, s2 := 0, c2 := 1, lo := 0, width := 1, acc := .rw, ka := false, resets := [0] },
  { pbase := 0x50, pstride := 0, pcount := 1, off := 0x104, s1 := 0, c1 := 1, s2 := 0, c2 := 1, lo := 16, width := 5, acc := .ro, ka := false, resets := [0] },
  { pbase := 0x50, pstride := 0, pcount := 1, off := 0x104, s1 := 0, c1 := 1, s2 := 0, c2 := 1, lo := 5, width := 1, acc := .ro, ka := false, resets := [0] },
  { pbase := 0x50, pstride := 0, pcount := 1, off := 0x104, s1 := 0, c1 := 1, s2 := 0, c2 := 1, lo := 4, width := 1, acc := .ro, ka := false, resets := [0] },
  { pbase := 0x50, pstride := 0, pcount := 1, off := 0x104, s1 := 0, c1 := 1, s2 := 0, c2 := 1, lo := 3, width := 1, acc := .ro, ka := false, resets := [0] },
  { pbase := 0x50, pstride := 0, pcount := 1, off := 0x104, s1 := 0, c1 := 1, s2 := 0, c2 := 1, lo := 2, width := 1, acc := .ro, ka := false, resets := [0] },
  { pbase := 0x50, pstride := 0, pcount := 1, off := 0x104, s1 := 0, c1 := 1, s2 := 0, c2 := 1, lo := 1, width := 1, acc := .ro, ka := false, resets := [1] },
  { pbase := 0x50, pstride := 0, pcount := 1, off := 0x104, s1 := 0, c1 := 1, s2 := 0, c2 := 1, lo := 0, width := 1, acc := .ro, ka := false, resets := [0] },
  { pbase := 0x50, pstride := 0, pcount := 1, off := 0x108, s1 := 0, c1 := 1, s2 := 0, c2 := 1, lo := 6, width := 26, acc := .rw, ka := false, resets := [0] },
  { pbase := 0x50, pstride := 0, pcount := 1, off := 0x10c, s1 := 0, c1 := 1, s2 := 0, c2 := 1, lo := 0, width := 8, acc := .rw, ka := false, resets := [0] },
  { pbase := 0x50, pstride := 0, pcount := 1, off := 0x110, s1 := 0, c1 := 1, s2 := 0, c2 := 1, lo := 0, width := 5, acc := .rw, ka := false, resets := [1] },
  { pbase := 0x50, pstride := 0, pcount := 1, off := 0x114, s1 := 0, c1 := 1, s2 := 0, c2 := 1, lo := 0, width := 16, acc := .ro, ka := false, resets := [0] },
  { pbase := 0x50, pstride := 0, pcount := 1, off := 0x118, s1 := 0, c1 := 1, s2 := 0, c2 := 1, lo := 0, width := 16, acc := .rw, ka := false, resets := [0] },
  { pbase := 0x50, pstride := 0, pcount := 1, off := 0x120, s1 := 0, c1 := 1, s2 := 0, c2 := 1, lo := 5, width := 27, acc := .rw, ka := false, resets := [0] },
  { pbase := 0x50, pstride := 0, pcount := 1, off := 0x124, s1 := 0, c1 := 1, s2 := 0, c2 := 1, lo := 0, width := 8, acc := .rw, ka := false, resets := [0] },
  { pbase := 0x50, pstride := 0, pcount := 1, off := 0x128, s1 := 0, c1 := 1, s2 := 0, c2 := 1, lo := 0, width := 5, acc := .rw, ka := false, resets := [1] },
  { pbase := 0x50, pstride := 0, pcount := 1, off := 0x12c, s1 := 0, c1 := 1, s2 := 0, c2 := 1, lo := 16, width := 1, acc := .ro, ka := false, resets := [1] },
  { pbase := 0x50, pstride := 0, pcount := 1, off := 0x12c, s1 := 0, c1 := 1, s2 := 0, c2 := 1, lo := 0, width := 16, acc := .ro, ka := false, resets := [0] },
  { pbase := 0x50, pstride := 0, pcount := 1, off := 0x130, s1 := 0, c1 := 1, s2 := 0, c2 := 1, lo := 0, width := 16, acc := .rw, ka := false, resets := [0] },
  { pbase := 0x50, pstride := 0, pcount := 1, off := 0x140, s1 := 0, c1 := 1, s2 := 0, c2 := 1, lo := 0, width := 32, acc := .wo, ka := false, resets := [0] },
  { pbase := 0x50, pstride := 0, pcount := 1, off := 0x144, s1 := 0, c1 := 1, s2 := 0, c2 := 1, lo := 0, width := 16, acc := .rw, ka := true, resets := [1024] },
  { pbase := 0x50, pstride := 0, pcount := 1, off := 0x150, s1 := 0, c1 := 1, s2 := 0, c2 := 1, lo := 0, width := 32, acc := .rw, ka := false, resets := [0] },
  { pbase := 0x50, pstride := 0, pcount := 1, off := 0x154, s1 := 0, c1 := 1, s2 := 0, c2 := 1, lo := 0, width := 32, acc := .ro, ka := false, resets := [0] },
  { pbase := 0x50, pstride := 0, pcount := 1, off := 0x158, s1 := 0, c1 := 1, s2 := 0, c2 := 1, lo := 8, width := 1, acc := .rw, ka := false, resets := [0] },
  { pbase := 0x50, pstride := 0, pcount := 1, off := 0x158, s1 := 0, c1 := 1, s2 := 0, c2 := 1, lo := 0, width := 5, acc := .rw, ka := false, resets := [0] },
  { pbase := 0x50, pstride := 0, pcount := 1, off := 0x160, s1 := 0, c1 := 1, s2 := 0, c2 := 1, lo := 0, width := 2, acc := .rw, ka := false, resets := [0] },
  { pbase := 0x50, pstride := 0, pcount := 1, off := 0x164, s1 := 0, c1 := 1, s2 := 0, c2 := 1, lo := 0, width := 32, acc := .rw, ka := false, resets := [0] },
  { pbase := 0x50, pstride := 0, pcount := 1, off := 0x168, s1 := 0, c1 := 1, s2 := 0, c2 := 1, lo := 0, width := 32, acc := .rw, ka := false, resets := [0] },
  { pbase := 0x50, pstride := 0, pcount := 1, off := 0x170, s1 := 0, c1 := 1, s2 := 0, c2 := 1, lo := 0, width := 32, acc := .rw, ka := true, resets := [0] },
  { pbase := 0x50, pstride := 0, pcount := 1, off := 0x174, s1 := 0, c1 := 1, s2 := 0, c2 := 1, lo := 0, width := 32, acc := .rw, ka := true, resets := [0] },
  { pbase := 0x50, pstride := 0, pcount := 1, off := 0x178, s1 := 0, c1 := 1, s2 := 0, c2 := 1, lo := 24, width := 8, acc := .ro, ka := false, resets := [0] },
  { pbase := 0x50, pstride := 0, pcount := 1, off := 0x178, s1 := 0, c1 := 1, s2 := 0, c2 := 1, lo := 0, width := 16, acc := .ro, ka := false, resets := [0] }]

/-- Field rows of the TASK page. -/
def rowsTask : List FieldRow := [
  { pbase := 0x51, pstride := 0, pcount := 1, off := 0x100, s1 := 0, c1 := 1, s2 := 0, c2 := 1, lo := 0, width := 7, acc := .view, ka := false, resets := [64] },
  { pbase := 0x51, pstride := 0, pcount := 1, off := 0x104, s1 := 0, c1 := 1, s2 := 0, c2 := 1, lo := 0, width := 32, acc := .view, ka := false, resets := [0] },
  { pbase := 0x51, pstride := 0, pcount := 1, off := 0x108, s1 := 0, c1 := 1, s2 := 0, c2 := 1, lo := 0, width := 32, acc := .view, ka := false, resets := [0] },
  { pbase := 0x51, pstride := 0, pcount := 1, off := 0x110, s1 := 0, c1 := 1, s2 := 0, c2 := 1, lo := 0, width := 6, acc := .sel, ka := false, resets := [0] },
  { pbase := 0x51, pstride := 0, pcount := 1, off := 0x114, s1 := 0, c1 := 1, s2 := 0, c2 := 1, lo := 28, width := 4, acc := .view, ka := false, resets := [0] },
  { pbase := 0x51, pstride := 0, pcount := 1, off := 0x114, s1 := 0, c1 := 1, s2 := 0, c2 := 1, lo := 16, width := 8, acc := .view, ka := false, resets := [0] },
  { pbase := 0x51, pstride := 0, pcount := 1, off := 0x114, s1 := 0, c1 := 1, s2 := 0, c2 := 1, lo := 0, width := 12, acc := .view, ka := false, resets := [0] },
  { pbase := 0x51, pstride := 0, pcount := 1, off := 0x118, s1 := 0, c1 := 1, s2 := 0, c2 := 1, lo := 0, width := 32, acc := .view, ka := false, resets := [0] },
  { pbase := 0x51, pstride := 0, pcount := 1, off := 0x11c, s1 := 0, c1 := 1, s2 := 0, c2 := 1, lo := 0, width := 32, acc := .view, ka := false, resets := [0] },
  { pbase := 0x51, pstride := 0, pcount := 1, off := 0x120, s1 := 0, c1 := 1, s2 := 0, c2 := 1, lo := 0, width := 32, acc := .view, ka := false, resets := [0] },
  { pbase := 0x51, pstride := 0, pcount := 1, off := 0x124, s1 := 0, c1 := 1, s2 := 0, c2 := 1, lo := 0, width := 32, acc := .view, ka := false, resets := [0] }]

/-- Field rows of the SCHED page. -/
def rowsSched : List FieldRow := [
  { pbase := 0x52, pstride := 0, pcount := 1, off := 0x100, s1 := 0, c1 := 1, s2 := 0, c2 := 1, lo := 0, width := 1, acc := .rw, ka := true, resets := [1] },
  { pbase := 0x52, pstride := 0, pcount := 1, off := 0x104, s1 := 0, c1 := 1, s2 := 0, c2 := 1, lo := 0, width := 32, acc := .ro, ka := false, resets := [0] },
  { pbase := 0x52, pstride := 0, pcount := 1, off := 0x108, s1 := 0, c1 := 1, s2 := 0, c2 := 1, lo := 0, width := 32, acc := .ro, ka := false, resets := [0] },
  { pbase := 0x52, pstride := 0, pcount := 1, off := 0x10c, s1 := 0, c1 := 1, s2 := 0, c2 := 1, lo := 31, width := 1, acc := .ro, ka := false, resets := [0] },
  { pbase := 0x52, pstride := 0, pcount := 1, off := 0x10c, s1 := 0, c1 := 1, s2 := 0, c2 := 1, lo := 28, width := 3, acc := .ro, ka := false, resets := [0] },
  { pbase := 0x52, pstride := 0, pcount := 1, off := 0x10c, s1 := 0, c1 := 1, s2 := 0, c2 := 1, lo := 0, width := 13, acc := .ro, ka := false, resets := [0] },
  { pbase := 0x52, pstride := 0, pcount := 1, off := 0x110, s1 := 0, c1 := 1, s2 := 0, c2 := 1, lo := 0, width := 8, acc := .ro, ka := false, resets := [0] },
  { pbase := 0x52, pstride := 0, pcount := 1, off := 0x114, s1 := 0, c1 := 1, s2 := 0, c2 := 1, lo := 31, width := 1, acc := .ro, ka := false, resets := [0] },
  { pbase := 0x52, pstride := 0, pcount := 1, off := 0x114, s1 := 0, c1 := 1, s2 := 0, c2 := 1, lo := 5, width := 3, acc := .ro, ka := false, resets := [0] },
  { pbase := 0x52, pstride := 0, pcount := 1, off := 0x114, s1 := 0, c1 := 1, s2 := 0, c2 := 1, lo := 0, width := 5, acc := .ro, ka := false, resets := [0] },
  { pbase := 0x52, pstride := 0, pcount := 1, off := 0x118, s1 := 0, c1 := 1, s2 := 0, c2 := 1, lo := 0, width := 32, acc := .ro, ka := false, resets := [0] },
  { pbase := 0x52, pstride := 0, pcount := 1, off := 0x11c, s1 := 0, c1 := 1, s2 := 0, c2 := 1, lo := 0, width := 10, acc := .wo, ka := false, resets := [0] }]

/-- Field rows of the WEIR page. -/
def rowsWeir : List FieldRow := [
  { pbase := 0x53, pstride := 0, pcount := 1, off := 0x100, s1 := 0, c1 := 1, s2 := 0, c2 := 1, lo := 0, width := 7, acc := .rw, ka := true, resets := [8] },
  { pbase := 0x53, pstride := 0, pcount := 1, off := 0x104, s1 := 0, c1 := 1, s2 := 0, c2 := 1, lo := 0, width := 32, acc := .rw, ka := true, resets := [0] },
  { pbase := 0x53, pstride := 0, pcount := 1, off := 0x108, s1 := 0, c1 := 1, s2 := 0, c2 := 1, lo := 0, width := 14, acc := .rw, ka := true, resets := [0] },
  { pbase := 0x53, pstride := 0, pcount := 1, off := 0x10c, s1 := 0, c1 := 1, s2 := 0, c2 := 1, lo := 0, width := 8, acc := .rw, ka := true, resets := [4] },
  { pbase := 0x53, pstride := 0, pcount := 1, off := 0x110, s1 := 0, c1 := 1, s2 := 0, c2 := 1, lo := 0, width := 32, acc := .rw, ka := true, resets := [4096] },
  { pbase := 0x53, pstride := 0, pcount := 1, off := 0x114, s1 := 0, c1 := 1, s2 := 0, c2 := 1, lo := 0, width := 32, acc := .rw, ka := true, resets := [0] },
  { pbase := 0x53, pstride := 0, pcount := 1, off := 0x118, s1 := 0, c1 := 1, s2 := 0, c2 := 1, lo := 0, width := 32, acc := .rw, ka := true, resets := [0] },
  { pbase := 0x53, pstride := 0, pcount := 1, off := 0x200, s1 := 0, c1 := 1, s2 := 4, c2 := 256, lo := 24, width := 8, acc := .ro, ka := false, resets := [0] },
  { pbase := 0x53, pstride := 0, pcount := 1, off := 0x200, s1 := 0, c1 := 1, s2 := 4, c2 := 256, lo := 16, width := 8, acc := .ro, ka := false, resets := [0] },
  { pbase := 0x53, pstride := 0, pcount := 1, off := 0x200, s1 := 0, c1 := 1, s2 := 4, c2 := 256, lo := 8, width := 8, acc := .ro, ka := false, resets := [0] },
  { pbase := 0x53, pstride := 0, pcount := 1, off := 0x200, s1 := 0, c1 := 1, s2 := 4, c2 := 256, lo := 0, width := 8, acc := .ro, ka := false, resets := [0] }]

/-- Field rows of the TALLY page. -/
def rowsTally : List FieldRow := [
  { pbase := 0x54, pstride := 0, pcount := 1, off := 0x100, s1 := 0, c1 := 1, s2 := 0, c2 := 1, lo := 0, width := 8, acc := .rw, ka := false, resets := [0] },
  { pbase := 0x54, pstride := 0, pcount := 1, off := 0x104, s1 := 0, c1 := 1, s2 := 0, c2 := 1, lo := 31, width := 1, acc := .ro, ka := false, resets := [0] },
  { pbase := 0x54, pstride := 0, pcount := 1, off := 0x104, s1 := 0, c1 := 1, s2 := 0, c2 := 1, lo := 28, width := 3, acc := .ro, ka := false, resets := [0] },
  { pbase := 0x54, pstride := 0, pcount := 1, off := 0x104, s1 := 0, c1 := 1, s2 := 0, c2 := 1, lo := 27, width := 1, acc := .ro, ka := false, resets := [0] },
  { pbase := 0x54, pstride := 0, pcount := 1, off := 0x104, s1 := 0, c1 := 1, s2 := 0, c2 := 1, lo := 0, width := 24, acc := .ro, ka := false, resets := [0] },
  { pbase := 0x54, pstride := 0, pcount := 1, off := 0x108, s1 := 0, c1 := 1, s2 := 0, c2 := 1, lo := 16, width := 16, acc := .ro, ka := false, resets := [0] },
  { pbase := 0x54, pstride := 0, pcount := 1, off := 0x108, s1 := 0, c1 := 1, s2 := 0, c2 := 1, lo := 8, width := 8, acc := .ro, ka := false, resets := [0] },
  { pbase := 0x54, pstride := 0, pcount := 1, off := 0x10c, s1 := 0, c1 := 1, s2 := 0, c2 := 1, lo := 20, width := 4, acc := .ro, ka := false, resets := [0] },
  { pbase := 0x54, pstride := 0, pcount := 1, off := 0x10c, s1 := 0, c1 := 1, s2 := 0, c2 := 1, lo := 0, width := 20, acc := .ro, ka := false, resets := [0] },
  { pbase := 0x54, pstride := 0, pcount := 1, off := 0x200, s1 := 0, c1 := 1, s2 := 4, c2 := 32, lo := 0, width := 32, acc := .ro, ka := false, resets := [0] }]

/-- Field rows of the SHEPHERD page. -/
def rowsShepherd : List FieldRow := [
  { pbase := 0x55, pstride := 0, pcount := 1, off := 0x100, s1 := 0, c1 := 1, s2 := 0, c2 := 1, lo := 2, width := 1, acc := .wo, ka := false, resets := [0] },
  { pbase := 0x55, pstride := 0, pcount := 1, off := 0x100, s1 := 0, c1 := 1, s2 := 0, c2 := 1, lo := 1, width := 1, acc := .rw, ka := true, resets := [1] },
  { pbase := 0x55, pstride := 0, pcount := 1, off := 0x100, s1 := 0, c1 := 1, s2 := 0, c2 := 1, lo := 0, width := 1, acc := .rw, ka := true, resets := [1] },
  { pbase := 0x55, pstride := 0, pcount := 1, off := 0x104, s1 := 0, c1 := 1, s2 := 0, c2 := 1, lo := 0, width := 16, acc := .rw, ka := true, resets := [4096] },
  { pbase := 0x55, pstride := 0, pcount := 1, off := 0x108, s1 := 0, c1 := 1, s2 := 0, c2 := 1, lo := 29, width := 3, acc := .ro, ka := false, resets := [0] },
  { pbase := 0x55, pstride := 0, pcount := 1, off := 0x108, s1 := 0, c1 := 1, s2 := 0, c2 := 1, lo := 24, width := 5, acc := .ro, ka := false, resets := [0] },
  { pbase := 0x55, pstride := 0, pcount := 1, off := 0x108, s1 := 0, c1 := 1, s2 := 0, c2 := 1, lo := 21, width := 3, acc := .ro, ka := false, resets := [0] },
  { pbase := 0x55, pstride := 0, pcount := 1, off := 0x108, s1 := 0, c1 := 1, s2 := 0, c2 := 1, lo := 0, width := 21, acc := .ro, ka := false, resets := [0] },
  { pbase := 0x55, pstride := 0, pcount := 1, off := 0x10c, s1 := 0, c1 := 1, s2 := 0, c2 := 1, lo := 30, width := 2, acc := .ro, ka := false, resets := [0] },
  { pbase := 0x55, pstride := 0, pcount := 1, off := 0x10c, s1 := 0, c1 := 1, s2 := 0, c2 := 1, lo := 27, width := 3, acc := .ro, ka := false, resets := [0] },
  { pbase := 0x55, pstride := 0, pcount := 1, off := 0x10c, s1 := 0, c1 := 1, s2 := 0, c2 := 1, lo := 22, width := 5, acc := .ro, ka := false, resets := [0] },
  { pbase := 0x55, pstride := 0, pcount := 1, off := 0x10c, s1 := 0, c1 := 1, s2 := 0, c2 := 1, lo := 0, width := 20, acc := .ro, ka := false, resets := [0] },
  { pbase := 0x55, pstride := 0, pcount := 1, off := 0x110, s1 := 0, c1 := 1, s2 := 0, c2 := 1, lo := 0, width := 8, acc := .ro, ka := false, resets := [0] }]

/-- Field rows of the MILLER page. -/
def rowsMiller : List FieldRow := [
  { pbase := 0x60, pstride := 0, pcount := 1, off := 0x100, s1 := 0, c1 := 1, s2 := 0, c2 := 1, lo := 31, width := 1, acc := .ro, ka := false, resets := [0] },
  { pbase := 0x60, pstride := 0, pcount := 1, off := 0x100, s1 := 0, c1 := 1, s2 := 0, c2 := 1, lo := 30, width := 1, acc := .ro, ka := false, resets := [0] },
  { pbase := 0x60, pstride := 0, pcount := 1, off := 0x100, s1 := 0, c1 := 1, s2 := 0, c2 := 1, lo := 16, width := 6, acc := .ro, ka := false, resets := [0] },
  { pbase := 0x60, pstride := 0, pcount := 1, off := 0x100, s1 := 0, c1 := 1, s2 := 0, c2 := 1, lo := 8, width := 6, acc := .ro, ka := false, resets := [0] },
  { pbase := 0x60, pstride := 0, pcount := 1, off := 0x100, s1 := 0, c1 := 1, s2 := 0, c2 := 1, lo := 0, width := 8, acc := .ro, ka := false, resets := [0] },
  { pbase := 0x60, pstride := 0, pcount := 1, off := 0x104, s1 := 0, c1 := 1, s2 := 0, c2 := 1, lo := 0, width := 9, acc := .ro, ka := false, resets := [256] },
  { pbase := 0x60, pstride := 0, pcount := 1, off := 0x110, s1 := 0, c1 := 1, s2 := 4, c2 := 4, lo := 0, width := 32, acc := .ro, ka := false, resets := [0] },
  { pbase := 0x60, pstride := 0, pcount := 1, off := 0x120, s1 := 0, c1 := 1, s2 := 0, c2 := 1, lo := 31, width := 1, acc := .ro, ka := false, resets := [0] },
  { pbase := 0x60, pstride := 0, pcount := 1, off := 0x120, s1 := 0, c1 := 1, s2 := 0, c2 := 1, lo := 29, width := 2, acc := .ro, ka := false, resets := [0] },
  { pbase := 0x60, pstride := 0, pcount := 1, off := 0x120, s1 := 0, c1 := 1, s2 := 0, c2 := 1, lo := 28, width := 1, acc := .ro, ka := false, resets := [0] },
  { pbase := 0x60, pstride := 0, pcount := 1, off := 0x120, s1 := 0, c1 := 1, s2 := 0, c2 := 1, lo := 0, width := 20, acc := .ro, ka := false, resets := [0] }]

/-- Field rows of the MILL page. -/
def rowsMill : List FieldRow := [
  { pbase := 0x61, pstride := 0, pcount := 1, off := 0x100, s1 := 0, c1 := 1, s2 := 0, c2 := 1, lo := 11, width := 2, acc := .ro, ka := false, resets := [0] },
  { pbase := 0x61, pstride := 0, pcount := 1, off := 0x100, s1 := 0, c1 := 1, s2 := 0, c2 := 1, lo := 0, width := 11, acc := .ro, ka := false, resets := [1280] },
  { pbase := 0x61, pstride := 0, pcount := 1, off := 0x104, s1 := 0, c1 := 1, s2 := 0, c2 := 1, lo := 0, width := 16, acc := .ro, ka := false, resets := [0] },
  { pbase := 0x61, pstride := 0, pcount := 1, off := 0x110, s1 := 0, c1 := 1, s2 := 4, c2 := 8, lo := 31, width := 1, acc := .ro, ka := false, resets := [0] },
  { pbase := 0x61, pstride := 0, pcount := 1, off := 0x110, s1 := 0, c1 := 1, s2 := 4, c2 := 8, lo := 0, width := 6, acc := .ro, ka := false, resets := [0] },
  { pbase := 0x61, pstride := 0, pcount := 1, off := 0x140, s1 := 0, c1 := 1, s2 := 0, c2 := 1, lo := 0, width := 7, acc := .sel, ka := false, resets := [0] },
  { pbase := 0x61, pstride := 0, pcount := 1, off := 0x144, s1 := 0, c1 := 1, s2 := 0, c2 := 1, lo := 28, width := 4, acc := .view, ka := false, resets := [0] },
  { pbase := 0x61, pstride := 0, pcount := 1, off := 0x144, s1 := 0, c1 := 1, s2 := 0, c2 := 1, lo := 24, width := 4, acc := .view, ka := false, resets := [0] },
  { pbase := 0x61, pstride := 0, pcount := 1, off := 0x144, s1 := 0, c1 := 1, s2 := 0, c2 := 1, lo := 15, width := 5, acc := .view, ka := false, resets := [0] },
  { pbase := 0x61, pstride := 0, pcount := 1, off := 0x144, s1 := 0, c1 := 1, s2 := 0, c2 := 1, lo := 10, width := 5, acc := .view, ka := false, resets := [0] },
  { pbase := 0x61, pstride := 0, pcount := 1, off := 0x144, s1 := 0, c1 := 1, s2 := 0, c2 := 1, lo := 5, width := 5, acc := .view, ka := false, resets := [0] },
  { pbase := 0x61, pstride := 0, pcount := 1, off := 0x144, s1 := 0, c1 := 1, s2 := 0, c2 := 1, lo := 0, width := 5, acc := .view, ka := false, resets := [0] },
  { pbase := 0x61, pstride := 0, pcount := 1, off := 0x148, s1 := 0, c1 := 1, s2 := 0, c2 := 1, lo := 31, width := 1, acc := .ro, ka := false, resets := [0] },
  { pbase := 0x61, pstride := 0, pcount := 1, off := 0x148, s1 := 0, c1 := 1, s2 := 0, c2 := 1, lo := 24, width := 6, acc := .ro, ka := false, resets := [0] },
  { pbase := 0x61, pstride := 0, pcount := 1, off := 0x148, s1 := 0, c1 := 1, s2 := 0, c2 := 1, lo := 0, width := 7, acc := .ro, ka := false, resets := [0] },
  { pbase := 0x61, pstride := 0, pcount := 1, off := 0x14c, s1 := 0, c1 := 1, s2 := 0, c2 := 1, lo := 0, width := 32, acc := .ro, ka := false, resets := [0] }]

/-- Field rows of the GRANARY page. -/
def rowsGranary : List FieldRow := [
  { pbase := 0x62, pstride := 0, pcount := 1, off := 0x100, s1 := 0, c1 := 1, s2 := 0, c2 := 1, lo := 31, width := 1, acc := .ro, ka := false, resets := [0] },
  { pbase := 0x62, pstride := 0, pcount := 1, off := 0x100, s1 := 0, c1 := 1, s2 := 0, c2 := 1, lo := 30, width := 1, acc := .ro, ka := false, resets := [0] },
  { pbase := 0x62, pstride := 0, pcount := 1, off := 0x100, s1 := 0, c1 := 1, s2 := 0, c2 := 1, lo := 29, width := 1, acc := .ro, ka := false, resets := [0] },
  { pbase := 0x62, pstride := 0, pcount := 1, off := 0x100, s1 := 0, c1 := 1, s2 := 0, c2 := 1, lo := 27, width := 2, acc := .ro, ka := false, resets := [0] },
  { pbase := 0x62, pstride := 0, pcount := 1, off := 0x100, s1 := 0, c1 := 1, s2 := 0, c2 := 1, lo := 0, width := 8, acc := .ro, ka := false, resets := [0] },
  { pbase := 0x62, pstride := 0, pcount := 1, off := 0x104, s1 := 0, c1 := 1, s2 := 0, c2 := 1, lo := 0, width := 32, acc := .ro, ka := false, resets := [0] },
  { pbase := 0x62, pstride := 0, pcount := 1, off := 0x108, s1 := 0, c1 := 1, s2 := 0, c2 := 1, lo := 0, width := 8, acc := .rw, ka := false, resets := [0] },
  { pbase := 0x62, pstride := 0, pcount := 1, off := 0x10c, s1 := 0, c1 := 1, s2 := 0, c2 := 1, lo := 0, width := 8, acc := .rw, ka := true, resets := [4] },
  { pbase := 0x62, pstride := 0, pcount := 1, off := 0x110, s1 := 0, c1 := 1, s2 := 0, c2 := 1, lo := 0, width := 8, acc := .ro, ka := false, resets := [0] },
  { pbase := 0x62, pstride := 0, pcount := 1, off := 0x114, s1 := 0, c1 := 1, s2 := 0, c2 := 1, lo := 0, width := 5, acc := .ro, ka := false, resets := [0] }]

/-- Field rows of the SIEVE page. -/
def rowsSieve : List FieldRow := [
  { pbase := 0x63, pstride := 0, pcount := 1, off := 0x100, s1 := 0, c1 := 1, s2 := 0, c2 := 1, lo := 0, width := 1, acc := .rw, ka := true, resets := [0] },
  { pbase := 0x63, pstride := 0, pcount := 1, off := 0x104, s1 := 0, c1 := 1, s2 := 0, c2 := 1, lo := 31, width := 1, acc := .ro, ka := false, resets := [0] },
  { pbase := 0x63, pstride := 0, pcount := 1, off := 0x104, s1 := 0, c1 := 1, s2 := 0, c2 := 1, lo := 30, width := 1, acc := .ro, ka := false, resets := [0] },
  { pbase := 0x63, pstride := 0, pcount := 1, off := 0x104, s1 := 0, c1 := 1, s2 := 0, c2 := 1, lo := 16, width := 6, acc := .ro, ka := false, resets := [0] },
  { pbase := 0x63, pstride := 0, pcount := 1, off := 0x104, s1 := 0, c1 := 1, s2 := 0, c2 := 1, lo := 0, width := 16, acc := .ro, ka := false, resets := [0] }]

/-- Field rows of the LOOM page. -/
def rowsLoom : List FieldRow := [
  { pbase := 0x64, pstride := 0, pcount := 1, off := 0x100, s1 := 0, c1 := 1, s2 := 0, c2 := 1, lo := 16, width := 8, acc := .ro, ka := false, resets := [0] },
  { pbase := 0x64, pstride := 0, pcount := 1, off := 0x100, s1 := 0, c1 := 1, s2 := 0, c2 := 1, lo := 8, width := 8, acc := .ro, ka := false, resets := [0] },
  { pbase := 0x64, pstride := 0, pcount := 1, off := 0x100, s1 := 0, c1 := 1, s2 := 0, c2 := 1, lo := 0, width := 1, acc := .ro, ka := false, resets := [0] },
  { pbase := 0x64, pstride := 0, pcount := 1, off := 0x104, s1 := 0, c1 := 1, s2 := 0, c2 := 1, lo := 0, width := 4, acc := .sel, ka := false, resets := [0] },
  { pbase := 0x64, pstride := 0, pcount := 1, off := 0x108, s1 := 0, c1 := 1, s2 := 0, c2 := 1, lo := 31, width := 1, acc := .ro, ka := false, resets := [0] },
  { pbase := 0x64, pstride := 0, pcount := 1, off := 0x108, s1 := 0, c1 := 1, s2 := 0, c2 := 1, lo := 28, width := 3, acc := .ro, ka := false, resets := [0] },
  { pbase := 0x64, pstride := 0, pcount := 1, off := 0x108, s1 := 0, c1 := 1, s2 := 0, c2 := 1, lo := 0, width := 6, acc := .ro, ka := false, resets := [0] },
  { pbase := 0x64, pstride := 0, pcount := 1, off := 0x400, s1 := 0, c1 := 1, s2 := 4, c2 := 80, lo := 0, width := 32, acc := .view, ka := true, resets := [0] }]

/-- Field rows of the TRACE page. -/
def rowsTrace : List FieldRow := [
  { pbase := 0x65, pstride := 0, pcount := 1, off := 0x100, s1 := 0, c1 := 1, s2 := 0, c2 := 1, lo := 5, width := 1, acc := .rw, ka := false, resets := [0] },
  { pbase := 0x65, pstride := 0, pcount := 1, off := 0x100, s1 := 0, c1 := 1, s2 := 0, c2 := 1, lo := 4, width := 1, acc := .rw, ka := false, resets := [0] },
  { pbase := 0x65, pstride := 0, pcount := 1, off := 0x100, s1 := 0, c1 := 1, s2 := 0, c2 := 1, lo := 3, width := 1, acc := .rw, ka := false, resets := [0] },
  { pbase := 0x65, pstride := 0, pcount := 1, off := 0x100, s1 := 0, c1 := 1, s2 := 0, c2 := 1, lo := 2, width := 1, acc := .rw, ka := false, resets := [0] },
  { pbase := 0x65, pstride := 0, pcount := 1, off := 0x100, s1 := 0, c1 := 1, s2 := 0, c2 := 1, lo := 1, width := 1, acc := .rw, ka := false, resets := [1] },
  { pbase := 0x65, pstride := 0, pcount := 1, off := 0x100, s1 := 0, c1 := 1, s2 := 0, c2 := 1, lo := 0, width := 1, acc := .rw, ka := false, resets := [0] },
  { pbase := 0x65, pstride := 0, pcount := 1, off := 0x104, s1 := 0, c1 := 1, s2 := 0, c2 := 1, lo := 11, width := 1, acc := .ro, ka := false, resets := [0] },
  { pbase := 0x65, pstride := 0, pcount := 1, off := 0x104, s1 := 0, c1 := 1, s2 := 0, c2 := 1, lo := 10, width := 1, acc := .ro, ka := false, resets := [0] },
  { pbase := 0x65, pstride := 0, pcount := 1, off := 0x104, s1 := 0, c1 := 1, s2 := 0, c2 := 1, lo := 0, width := 10, acc := .ro, ka := false, resets := [0] },
  { pbase := 0x65, pstride := 0, pcount := 1, off := 0x108, s1 := 0, c1 := 1, s2 := 0, c2 := 1, lo := 1, width := 10, acc := .rw, ka := false, resets := [1023] },
  { pbase := 0x65, pstride := 0, pcount := 1, off := 0x10c, s1 := 0, c1 := 1, s2 := 0, c2 := 1, lo := 0, width := 16, acc := .rw, ka := false, resets := [0] },
  { pbase := 0x65, pstride := 0, pcount := 1, off := 0x110, s1 := 0, c1 := 1, s2 := 0, c2 := 1, lo := 0, width := 8, acc := .rw, ka := false, resets := [255] },
  { pbase := 0x65, pstride := 0, pcount := 1, off := 0x114, s1 := 0, c1 := 1, s2 := 0, c2 := 1, lo := 22, width := 10, acc := .rw, ka := false, resets := [0] },
  { pbase := 0x65, pstride := 0, pcount := 1, off := 0x114, s1 := 0, c1 := 1, s2 := 0, c2 := 1, lo := 0, width := 16, acc := .rw, ka := false, resets := [0] },
  { pbase := 0x65, pstride := 0, pcount := 1, off := 0x118, s1 := 0, c1 := 1, s2 := 0, c2 := 1, lo := 0, width := 16, acc := .rw, ka := false, resets := [0] },
  { pbase := 0x65, pstride := 0, pcount := 1, off := 0x11c, s1 := 0, c1 := 1, s2 := 0, c2 := 1, lo := 12, width := 20, acc := .rw, ka := false, resets := [0] },
  { pbase := 0x65, pstride := 0, pcount := 1, off := 0x120, s1 := 0, c1 := 1, s2 := 0, c2 := 1, lo := 0, width := 8, acc := .rw, ka := false, resets := [0] },
  { pbase := 0x65, pstride := 0, pcount := 1, off := 0x124, s1 := 0, c1 := 1, s2 := 0, c2 := 1, lo := 12, width := 20, acc := .rw, ka := false, resets := [0] },
  { pbase := 0x65, pstride := 0, pcount := 1, off := 0x128, s1 := 0, c1 := 1, s2 := 0, c2 := 1, lo := 16, width := 16, acc := .ro, ka := false, resets := [0] },
  { pbase := 0x65, pstride := 0, pcount := 1, off := 0x128, s1 := 0, c1 := 1, s2 := 0, c2 := 1, lo := 0, width := 16, acc := .ro, ka := false, resets := [0] },
  { pbase := 0x65, pstride := 0, pcount := 1, off := 0x12c, s1 := 0, c1 := 1, s2 := 0, c2 := 1, lo := 31, width := 1, acc := .ro, ka := false, resets := [0] },
  { pbase := 0x65, pstride := 0, pcount := 1, off := 0x12c, s1 := 0, c1 := 1, s2 := 0, c2 := 1, lo := 30, width := 1, acc := .ro, ka := false, resets := [0] },
  { pbase := 0x65, pstride := 0, pcount := 1, off := 0x12c, s1 := 0, c1 := 1, s2 := 0, c2 := 1, lo := 20, width := 6, acc := .ro, ka := false, resets := [0] },
  { pbase := 0x65, pstride := 0, pcount := 1, off := 0x12c, s1 := 0, c1 := 1, s2 := 0, c2 := 1, lo := 0, width := 20, acc := .ro, ka := false, resets := [0] }]

/-- The block-specific field rows of a page (R99); an absent page has none. -/
def pageRows (page : Nat) : List FieldRow :=
  if page = 0x0 then rowsTop else
  if page = 0x1 then rowsBell else
  if page = 0x2 then rowsClk else
  if page = 0x3 then rowsBoot else
  if page = 0x4 then rowsSec else
  if page = 0x5 then rowsAlarm else
  if page = 0x6 then rowsLedger else
  if page = 0x7 then rowsTelem else
  if page = 0x8 then rowsMgmt else
  if page = 0x9 then rowsLantern else
  if 0xa ≤ page && page < 0xc then rowsHearth else
  if page = 0xc then rowsHtr else
  if page = 0xd then rowsThermal else
  if page % 4 = 0 && 0x20 ≤ page && page < 0x40 then rowsFerryLane else
  if page % 4 = 1 && 0x20 ≤ page && page < 0x40 then rowsFerryEq else
  if page % 4 = 2 && 0x20 ≤ page && page < 0x40 then rowsFerryCnt else
  if page % 4 = 3 && 0x20 ≤ page && page < 0x40 then rowsFerryFar else
  if page = 0x40 then rowsUahus else
  if 0x41 ≤ page && page < 0x47 then rowsBundle else
  if page = 0x50 then rowsCmd else
  if page = 0x51 then rowsTask else
  if page = 0x52 then rowsSched else
  if page = 0x53 then rowsWeir else
  if page = 0x54 then rowsTally else
  if page = 0x55 then rowsShepherd else
  if page = 0x60 then rowsMiller else
  if page = 0x61 then rowsMill else
  if page = 0x62 then rowsGranary else
  if page = 0x63 then rowsSieve else
  if page = 0x64 then rowsLoom else
  if page = 0x65 then rowsTrace else
  []

/-- The fields of the word at offset `off` of page `page`, each with its access code. -/
def fieldsAt (page off : Nat) : List (Fld × Acc) :=
  (pageRows page).filterMap (fun r => r.at? page off)

end Sys2Proof.Machine
end

