-- ==== Sys2Proof/Machine/Pages.lean ====
section
/-! DEFINITION. Sys2Proof/Machine/Pages.lean: the common header at work (spec/04): counters and their holding
registers, snapshots, classes, injection, the error bits' clear and mask, and the active/shadow swap. -/

namespace Sys2Proof.Machine

/-- A word handed back on an access path. -/
def State.answer (s : State) (p : Path) (v : Nat) : State :=
  { s with lastRead := mset s.lastRead p.num (v % 2 ^ 32) 0 }

/-! ### Counters (R114 to R119) -/

/-- The holding register's key: each path has one a page; on stepping B0 all paths share one (R115). -/
def State.holdKey (s : State) (path : Path) (page : Nat) : Nat :=
  if s.rd Reg.TOP_STEPPING_STEPPING = 0xB0 then page else 256 * path.num + page

/-- Counter `n` of a page (R114). -/
def pageCtr (page n : Nat) : Ctr := { page := page, n := n, ka := ctrKeepAlive page n }

/-- The 64 bits that the counter offsets of a page show: live, or the snapshot copy under SNAP_VIEW (R119). -/
def State.ctrView (s : State) (page n : Nat) : Nat :=
  if s.is (Hdr.SNAP_VIEW page) then mget s.pages.snap (32 * page + n) 0 else s.rd (pageCtr page n).fld

/-- Read a counter's LO half, latching its HI half for the path (R115). -/
def State.ctrReadLo (s : State) (path : Path) (page n : Nat) : Nat × State :=
  let v := s.ctrView page n
  (v % 2 ^ 32, { s with pages := { s.pages with
    hold := mset s.pages.hold (s.holdKey path page) ((n + 1) * 2 ^ 32 + v / 2 ^ 32 % 2 ^ 32) 0 } })

/-- Read a counter's HI half: the latched value after a LO read of the same counter on the path, else live (R115). -/
def State.ctrReadHi (s : State) (path : Path) (page n : Nat) : Nat :=
  let h := mget s.pages.hold (s.holdKey path page) 0
  if h / 2 ^ 32 = n + 1 then h % 2 ^ 32 else s.ctrView page n / 2 ^ 32 % 2 ^ 32

/-- A write of a counter's HI half goes to the path's write-holding register (R116). -/
def State.ctrWriteHi (s : State) (path : Path) (page : Nat) (v : Nat) : State :=
  { s with pages := { s.pages with whold := mset s.pages.whold (256 * path.num + page) (v % 2 ^ 32) 0 } }

/-- A write of a counter's LO half sets all 64 bits and clears the write-holding register (R116). -/
def State.ctrWriteLo (s : State) (path : Path) (page n : Nat) (v : Nat) : State :=
  let hi := mget s.pages.whold (256 * path.num + page) 0
  let s1 := s.wr (pageCtr page n).fld (hi * 2 ^ 32 + v % 2 ^ 32)
  { s1 with pages := { s1.pages with whold := mset s1.pages.whold (256 * path.num + page) 0 0 } }

/-- Take the snapshot of a page: copy every counter and record the bell just ended (R118). -/
def State.snapPage (s : State) (page bell : Nat) : State :=
  let sn := (List.range (numCounters page)).foldl
    (fun m n => mset m (32 * page + n) (s.rd (pageCtr page n).fld) 0) s.pages.snap
  { s with pages := { s.pages with snap := sn } }.wr (Hdr.SNAP_BELL page) bell

/-- Step 3 of R61: every snapshot requested in the bell just ended (R118). -/
def State.takeSnaps (s : State) (bell : Nat) : State :=
  let s1 := s.pages.snapReq.foldl (fun acc p => acc.snapPage p bell) s
  { s1 with pages := { s1.pages with snapReq := [] } }

/-- Request a snapshot of a present page (R118). -/
def State.requestSnap (s : State) (page : Nat) : State :=
  if pagePresent page && !s.pages.snapReq.contains page then
    { s with pages := { s.pages with snapReq := s.pages.snapReq ++ [page] } }
  else s

/-- COUNTER_LO_READ (R115). -/
def execCounterLoRead (path : Path) (page n : Nat) (s : State) : Out :=
  if n < numCounters page then
    let r := s.ctrReadLo path page n
    ok (r.2.answer path r.1)
  else ok (s.answer path 0)

/-- COUNTER_HI_WRITE (R116). -/
def execCounterHiWrite (path : Path) (page n : Nat) (val : Word) (s : State) : Out :=
  if n < numCounters page then ok (s.ctrWriteHi path page val.toNat) else ok s

/-- COUNTER_LO_WRITE (R116, R117). -/
def execCounterLoWrite (path : Path) (page n : Nat) (val : Word) (s : State) : Out :=
  if n < numCounters page then ok (s.ctrWriteLo path page n val.toNat) else ok s

/-- PG_SNAP_TAKE (R118). -/
def execPgSnapTake (page : Nat) (s : State) : Out := ok (s.requestSnap page)

/-- TOP_SNAP_ALL (R118). -/
def execTopSnapAll (s : State) : Out := ok (presentPages.foldl (fun acc p => acc.requestSnap p) s)

/-! ### Error bits (R103 to R106, R534) -/

/-- A write of PG_ERR_CLASS (R105): select a bit for the path; with WRITE set, and the class neither fixed nor
reserved, set its class. -/
def State.writeClass (s : State) (path : Path) (page v : Nat) : State :=
  let b := bits v 8 5
  let s1 := s.wr (Hdr.CLASS_SEL page path.num) b
  if bit v 15 && !classFixed page b && bits v 0 3 ≤ 4 then s1.wr (Hdr.CLASS page b) (bits v 0 3) else s1

/-- PG_ERR_CLASS_WRITE (R105). -/
def execPgErrClassWrite (path : Path) (page : Nat) (val : Word) (s : State) : Out :=
  if pagePresent page then ok (s.writeClass path page val.toNat) else ok s

/-- A write of PG_ERR_INJECT replaces both fields at once; ignored where INJECT_OK is 0 (R106, R548). -/
def State.writeInject (s : State) (page v : Nat) : State :=
  if injectOk page then (s.wr (Hdr.INJ_CHECKER page) (bits v 24 4)).wr (Hdr.INJ_COUNT page) (bits v 0 16) else s

/-- PG_ERR_INJECT_WRITE (R106, R548). -/
def execPgErrInjectWrite (page : Nat) (val : Word) (s : State) : Out := ok (s.writeInject page val.toNat)

/-- A W1C write to PG_ERR: clears the bits written as 1; PG_ERR_FIRST clears when PG_ERR becomes all zero (R104). -/
def State.clearErr (s : State) (page v : Nat) : State :=
  let e := s.rd (Hdr.PG_ERR page)
  let e' := e - (e &&& v)
  let s1 := s.wr (Hdr.PG_ERR page) e'
  if e' = 0 then
    ((s1.wr (Hdr.PG_ERR_FIRST_VALID page) 0).wr (Hdr.PG_ERR_FIRST_CODE page) 0).wr (Hdr.PG_ERR_FIRST_BELL page) 0
  else s1

/-- PG_ERR_CLEAR (R104). -/
def execPgErrClear (page : Nat) (val : Word) (s : State) : Out :=
  if pagePresent page then ok (s.clearErr page val.toNat) else ok s

/-- A write of PG_ERR_MASK; the line it drives may become asserted and then sets its ALARM_SUMMARY bit (R103, R534). -/
def State.writeMask (s : State) (page v : Nat) : State := (s.wr (Hdr.PG_ERR_MASK page) v).summarise page

/-- PG_ERR_MASK_WRITE (R103). -/
def execPgErrMaskWrite (page : Nat) (val : Word) (s : State) : Out :=
  if pagePresent page then ok (s.writeMask page val.toNat) else ok s

/-! ### The swap (R107 to R113) -/

/-- The pages with shadowed state, in ascending order. -/
def shadowPages : List Nat := [0x0A, 0x0B, 0x40, 0x52, 0x64]

/-- The swap bell in force for a page: SCHED_SWAP_BELL on a page with FOLLOW = 1 (R108). -/
def State.swapBell (s : State) (p : Nat) : Nat :=
  let q := if s.is (Hdr.FOLLOW p) then 0x52 else p
  s.rd (Hdr.SWAP_BELL_LO q) + 2 ^ 32 * s.rd (Hdr.SWAP_BELL_HI q)

/-- Whether a page's shadow is locked: its STATE is ARMED (R112). -/
def State.armed (s : State) (p : Nat) : Bool := s.rd (Hdr.SWAP_STATE p) == 1

/-- The pages that take part in the device-wide swap: SCHED and every page with FOLLOW = 1 (R108). -/
def State.followers (s : State) : List Nat := shadowPages.filter (fun p => s.is (Hdr.FOLLOW p))

/-- Set STATE, and DEV with it, on each of a list of pages. -/
def State.setSwap (s : State) (ps : List Nat) (st : Nat) (dev : Option Nat) : State :=
  ps.foldl (fun acc p =>
    let a := acc.wr (Hdr.SWAP_STATE p) st
    match dev with
    | none => a
    | some d => a.wr (Hdr.DEV p) d) s

/-- The PG_SWAP registers that act as one with a page's: those of the two Hearth pages (R233). -/
def swapTwins (p : Nat) : List Nat := if p = 0x0A ∨ p = 0x0B then [0x0A, 0x0B] else [p]

/-- The FOLLOW part of a PG_SWAP write (R108). -/
def State.swapFollow (s : State) (p : Nat) (f : Bool) : State :=
  if p = 0x52 ∨ s.armed p then s
  else
    let was := s.is (Hdr.FOLLOW p)
    let s1 := (swapTwins p).foldl (fun (acc : State) q => acc.wrB (Hdr.FOLLOW q) f) s
    if !was && f && s.armed 0x52 then s1.setSwap (swapTwins p) 1 (some 1) else s1

/-- The DISARM part of a PG_SWAP write (R108, R111). -/
def State.swapDisarm (s : State) (p : Nat) : State :=
  if !s.armed p then s
  else if p = 0x52 then s.setSwap (s.followers.filter s.armed) 0 none
  else if s.is (Hdr.FOLLOW p) then s
  else s.setSwap (swapTwins p) 0 none

/-- The ARM part of a PG_SWAP write (R108, R110). The scan of the shadow schedule follows an arm of SCHED (R330). -/
def State.swapArm (s : State) (p : Nat) : State :=
  if s.armed p then s
  else if p ≠ 0x52 && s.is (Hdr.FOLLOW p) then s
  else
    let ps := if p = 0x52 then s.followers else swapTwins p
    if bellAfter (s.swapBell p) s.bellNum then
      let s1 := s.setSwap ps 1 (some (if p = 0x52 then 1 else 0))
      if p = 0x52 then { s1 with sched := { s1.sched with scanned := false } } else s1
    else (s.setSwap ps 3 none).raise { page := p, bit := 31, cls := 1 }

/-- A write of PG_SWAP: FOLLOW, then DISARM, then ARM (R108). A page without shadowed state ignores it (R97). -/
def State.writeSwap (s : State) (p v : Nat) : State :=
  if !shadowOk p then s
  else
    let s1 := s.swapFollow p (bit v 5)
    let s2 := if bit v 1 then s1.swapDisarm p else s1
    if bit v 0 then s2.swapArm p else s2

/-- SWAP_ARM (R110). -/
def execSwapArm (page : Nat) (val : Word) (s : State) : Out := ok (s.writeSwap page val.toNat)

/-- SWAP_DISARM (R111). -/
def execSwapDisarm (page : Nat) (val : Word) (s : State) : Out := ok (s.writeSwap page val.toNat)

/-- SWAP_FOLLOW_WRITE (R108). -/
def execSwapFollowWrite (page : Nat) (val : Word) (s : State) : Out := ok (s.writeSwap page val.toNat)

/-- A write of PG_SWAP_BELL_LO or _HI: ignored while ARMED, and on a following page (R108, R109). -/
def State.writeSwapBell (s : State) (p : Nat) (hi : Bool) (v : Nat) : State :=
  if !shadowOk p || s.armed p || (p != 0x52 && s.is (Hdr.FOLLOW p)) then s
  else (swapTwins p).foldl (fun (acc : State) q =>
    if hi then acc.wr (Hdr.SWAP_BELL_HI q) v else acc.wr (Hdr.SWAP_BELL_LO q) v) s

/-- The RWS register fields of a page (R107). -/
def rwsFields (p : Nat) : List Fld :=
  if p = 0x0A ∨ p = 0x0B then
    let h := p - 0x0A
    ((List.range 4).flatMap (fun q =>
      [Reg.HEARTH_GAIN_KI h q, Reg.HEARTH_GAIN_KP h q, Reg.HEARTH_THRESH_UNLOCK h q, Reg.HEARTH_THRESH_LOCK h q]))
      ++ [Reg.HEARTH_DITHER_POL h, Reg.HEARTH_DITHER_RING h]
  else []

/-- Exchange the two sets of the tables that belong to a page (R107). -/
def State.exchangeTables (s : State) (p : Nat) : State :=
  let a := s.active
  let b := s.shadow
  if p = 0x52 then { s with active := { a with sched := b.sched }, shadow := { b with sched := a.sched } }
  else if p = 0x40 then { s with active := { a with win := b.win }, shadow := { b with win := a.win } }
  else if p = 0x0A then { s with active := { a with xtA := b.xtA }, shadow := { b with xtA := a.xtA } }
  else if p = 0x0B then { s with active := { a with xtB := b.xtB }, shadow := { b with xtB := a.xtB } }
  else if p = 0x64 then
    { s with active := { a with pwl := b.pwl }, shadow := { b with pwl := a.pwl } }.wr Reg.LOOM_STATUS_ACTIVE_BANK
      (1 - s.rd Reg.LOOM_STATUS_ACTIVE_BANK)
  else s

/-- The swap of one page: RWS fields take their shadow values, tables exchange, STATE becomes DONE (R107, R111). -/
def State.swapPage (s : State) (p : Nat) : State :=
  let s1 := (rwsFields p).foldl (fun acc f => acc.wr f (acc.rd (f.at 1))) s
  let s2 := s1.exchangeTables p
  ((s2.wr (Hdr.SWAP_STATE p) 2).wr (Hdr.SWAPS p) (s2.rd (Hdr.SWAPS p) + 1)).wr (Hdr.SHADOW_WRITTEN p) 0

/-- Step 1 of R61: every page ARMED for the bell that begins swaps (R111); a device-wide swap counts on TOP. -/
def State.doSwaps (s : State) (bell : Nat) : State :=
  let due := shadowPages.filter (fun p => s.armed p && s.swapBell p == bell)
  let s1 := due.foldl (fun acc p => acc.swapPage p) s
  if due.contains 0x52 then s1.bump Ctr.TOP_DEVICE_SWAPS 1 else s1

/-- A shadow write that a swap in force drops: SHADOW_LOCKED, and the page's last counter (R112). -/
def State.dropShadow (s : State) (p : Nat) : State :=
  (s.bump (pageCtr p (numCounters p - 1)) 1).raise { page := p, bit := 30, cls := 0 }

/-- Warm and function resets set every page's STATE to IDLE (R113). -/
def State.cancelSwaps (s : State) : State := s.setSwap shadowPages 0 none

end Sys2Proof.Machine
end

