-- ==== Sys2Proof/Machine/Flash.lean ====
section
/-! DEFINITION. Sys2Proof/Machine/Flash.lean: the SPI flash, its window, the images in it, the Almanac sections and
working copy, and the debug lock (spec/05: R129 to R141, R147, R149 to R152). -/

namespace Sys2Proof.Machine

/-- Bytes of the flash (R130); erased bytes read 0xFF. -/
def State.flashBytes (s : State) (a n : Nat) : List Byte := readBytes s.boot.flash 0xFF a n

/-- A little-endian number in the flash. -/
def State.flashNum (s : State) (a n : Nat) : Nat := ofLe (s.flashBytes a n)

/-! ### Images (R131, R132) -/

/-- Base and size of the flash region of an image kind's copy (R130): 1 Reeve, 2 Hearth, 3 overlay, 4 policy blob. -/
def imageRegion (kind copy : Nat) : Nat × Nat :=
  if kind = 1 then (0x100000 * copy, 0x100000)
  else if kind = 2 then (0x200000 + 0x40000 * copy, 0x40000)
  else if kind = 3 then (0x280000 + 0x80000 * copy, 0x80000)
  else (0x380000, 0x10000)

/-- A copy is absent when its MAGIC reads 0xFFFF_FFFF (R132). -/
def State.copyAbsent (s : State) (kind copy : Nat) : Bool := s.flashNum (imageRegion kind copy).1 4 == 0xFFFFFFFF

/-- The minimum SVN of a kind: the fuse counter for a Reeve image, else what the running Reeve's pairing table states
(R131). -/
def State.minSvn (s : State) (kind : Nat) : Nat :=
  if kind = 1 then s.rd Reg.SEC_STATUS_SVN_FUSE
  else match s.boot.reeve with
    | none => 0
    | some r => ((r.pairing.find? (fun e => e.1 == 4 && e.2 % 256 == kind)).elim 0 (fun e => e.2 / 256))

/-- The die's serial number (TOP_SERIAL). -/
def State.serial (s : State) : Nat := s.rd Reg.TOP_SERIAL_LO_SERIAL_LO + 2 ^ 32 * s.rd Reg.TOP_SERIAL_HI_SERIAL_HI

/-- Why a copy does not authenticate, by LAST_REASON's codes; none: it authenticates (R131). -/
def State.imageFault (s : State) (kind copy : Nat) : Option Nat :=
  let (b, size) := imageRegion kind copy
  let slot := s.flashNum (b + 0x07) 1
  let svn := s.flashNum (b + 0x0C) 4
  let len := s.flashNum (b + 0x10) 4
  let key := s.flashBytes (b + 0x50) 96
  let bind := s.flashNum (b + 0x18) 8
  if s.flashNum b 4 ≠ 0x474D494E ∨ s.flashNum (b + 4) 2 ≠ 1 ∨ s.flashNum (b + 6) 1 ≠ kind ∨ size < 0x200 + len then
    some 0x02
  else if 4 ≤ slot ∨ Config.sha384 key ≠ Config.fuseKeyHash slot ∨ bit (s.rd Reg.SEC_STATUS_REVOKED) slot
      ∨ (kind ≠ 1 ∧ slot ≠ s.rd Reg.SEC_STATUS_KEY_SLOT) then some 0x05
  else if s.flashBytes (b + 0x20) 48 ≠ Config.sha384 (s.flashBytes (b + 0x200) len) then some 0x03
  else if Config.ecdsaOk key (s.flashBytes b 0x1A0) (s.flashBytes (b + 0x1A0) 96) = false then some 0x04
  else if bind ≠ 0 ∧ bind ≠ s.serial then some 0x04
  else if kind = 4 ∧ bind = 0 then some 0x04
  else if kind = 1 ∧ 255 < svn then some 0x0D
  else if svn < s.minSvn kind then some 0x06
  else none

/-- The VERSION of a copy. -/
def State.imageVersion (s : State) (kind copy : Nat) : Nat := s.flashNum ((imageRegion kind copy).1 + 0x08) 4

/-- Whether a version of a pairing kind stands in the running Reeve's pairing table (R132, R135). -/
def State.paired (s : State) (pkind v : Nat) : Bool :=
  match s.boot.reeve with
  | none => false
  | some r => r.pairing.any (fun e => e.1 == pkind && e.2 == v)

/-- Record a copy that is present but does not authenticate (R132, R134, R151). -/
def State.noteCopy (s : State) (kind copy : Nat) : State :=
  match s.imageFault kind copy with
  | none => s
  | some r =>
    if s.copyAbsent kind copy then s
    else
      let s1 := (s.bump Ctr.BOOT_IMAGE_AUTH_FAILURES 1).raise Err.BOOT_IMAGE_COPY_BAD
      if r = 0x06 ∨ r = 0x0D then s1.raise Err.SEC_ROLLBACK_REJECT else s1

/-- The copy that R132 takes of a kind, looking at copy 0, then copy 1; a kind other than Reeve must also be paired. -/
def State.pickCopy (s : State) (kind : Nat) : Option Nat × State :=
  let good (c : Nat) : Bool := (s.imageFault kind c).isNone && (kind == 1 || s.paired kind (s.imageVersion kind c))
  if good 0 then (some 0, s)
  else
    let s1 := s.noteCopy kind 0
    if good 1 then (some 1, s1) else (none, s1.noteCopy kind 1)

/-- The body of a copy. -/
def State.imageBody (s : State) (kind copy : Nat) : List Byte :=
  let b := (imageRegion kind copy).1
  s.flashBytes (b + 0x200) (s.flashNum (b + 0x10) 4)

/-! ### The flash window (R152) -/

/-- Whether the window refuses an operation at its address. -/
def State.flashRefuses (s : State) (op a : Nat) : Bool :=
  s.is Reg.BOOT_ALM_STATUS_COMMIT_BUSY || 0x800000 ≤ a || (op == 1 && 0x800000 < a + 256)
    || (op == 2 && a % 256 != 0) || (op == 3 && a % 4096 != 0)
    || ((op == 2 || op == 3) && 0x400000 ≤ a)

/-- An OP written to BOOT_FLASH_CMD: ignored while busy, refused by R152, else begun. -/
def State.flashCmd (s : State) (op : Nat) : State :=
  let a := s.rd Reg.BOOT_FLASH_ADDR_ADDR
  if op = 0 ∨ s.rd Reg.BOOT_FLASH_CMD_RESULT = 1 then s
  else if s.flashRefuses op a then s.wr Reg.BOOT_FLASH_CMD_RESULT 2
  else
    let s1 := (s.wr Reg.BOOT_FLASH_CMD_RESULT 1).bump Ctr.BOOT_FLASH_WINDOW_OPS 1
    { s1 with boot := { s1.boot with flashOp := some (op, a) } }

/-- FLASH_READ (R152). -/
def execFlashRead (s : State) : Out := ok (s.flashCmd 1)

/-- FLASH_PROGRAM (R152). -/
def execFlashProgram (s : State) : Out := ok (s.flashCmd 2)

/-- FLASH_ERASE (R152). -/
def execFlashErase (s : State) : Out := ok (s.flashCmd 3)

/-- The 256 bytes of the window's data registers. -/
def State.flashData (s : State) : List Byte :=
  (List.range 64).flatMap (fun k => leBytes 4 (s.rd (Reg.BOOT_FLASH_DATA k)))

/-- Erase `n` bytes of the flash from `a`. -/
def eraseFlash (m : Map Byte) (a n : Nat) : Map Byte := m.filter (fun e => !(a ≤ e.1 && e.1 < a + n))

/-- FLASH_OP_COMPLETE (R152). -/
def execFlashOpComplete (good : Bool) (s : State) : Out :=
  match s.boot.flashOp with
  | none => ok s
  | some (op, a) =>
    let s0 := { s with boot := { s.boot with flashOp := none } }
    if !good then ok (s0.wr Reg.BOOT_FLASH_CMD_RESULT 3)
    else
      let s1 := s0.wr Reg.BOOT_FLASH_CMD_RESULT 0
      if op = 1 then
        ok ((List.range 64).foldl (fun acc k => acc.wr (Reg.BOOT_FLASH_DATA k) (s.flashNum (a + 4 * k) 4)) s1)
      else if op = 2 then
        ok { s1 with boot := { s1.boot with flash := writeBytes s1.boot.flash 0xFF a s.flashData } }
      else ok { s1 with boot := { s1.boot with flash := eraseFlash s1.boot.flash a 4096 } }

/-! ### The Almanac (R138 to R141) -/

/-- The flash address of Almanac section 0 (A) or 1 (B) (R130). -/
def almBase (sec : Nat) : Nat := 0x400000 + 0x200000 * sec

/-- Whether a section is valid (R138). -/
def State.sectionValid (s : State) (sec : Nat) : Bool :=
  let b := almBase sec
  let len := s.flashNum (b + 8) 4
  s.flashNum b 4 == 0x4C414D41 && len ≤ 2093056
    && s.flashNum (b + 0x10) 4 == crc32c (s.flashBytes b 16)
    && s.flashNum (b + 0x1FF000) 4 == 0x434D4954
    && s.flashNum (b + 0x1FF004) 4 == s.flashNum (b + 4) 4
    && s.flashNum (b + 0x0C) 4 == crc32c (s.flashBytes (b + 0x100) len)

/-- Whether a section is present: its MAGIC does not read as erased. -/
def State.sectionPresent (s : State) (sec : Nat) : Bool := s.flashNum (almBase sec) 4 != 0xFFFFFFFF

/-- SEQ s1 is newer than s2 (R138). -/
def seqNewer (s1 s2 : Nat) : Bool :=
  let d := (s1 + 2 ^ 32 - s2 % 2 ^ 32) % 2 ^ 32
  1 ≤ d && d ≤ 2 ^ 31 - 1

/-- SEQ of a section. -/
def State.sectionSeq (s : State) (sec : Nat) : Nat := s.flashNum (almBase sec + 4) 4

/-- The last committed section: the valid section with the newer SEQ (R138, R140). -/
def State.lastCommitted (s : State) : Option Nat :=
  match s.sectionValid 0, s.sectionValid 1 with
  | true, true => if seqNewer (s.sectionSeq 1) (s.sectionSeq 0) then some 1 else some 0
  | true, false => some 0
  | false, true => some 1
  | false, false => none

/-- Load the working copy from a section (R138). -/
def State.loadSection (s : State) (sec : Nat) : State :=
  let len := s.flashNum (almBase sec + 8) 4
  let body := writeBytes [] 0 0 (s.flashBytes (almBase sec + 0x100) len)
  { s with alm := { body := body, len := len, crc := s.flashNum (almBase sec + 0x0C) 4, held := true,
                    data := Config.almDecode body len, used := body, edited := false } }

/-- The body bytes of the working copy. -/
def Almanac.bytes (a : Almanac) : List Byte := readBytes a.body 0 0 a.len

/-- The working copy with its fields changed: the body and its CRC follow. -/
def Almanac.withData (a : Almanac) (d : AlmData) : Almanac :=
  let body := Config.almEncode a.body a.len d
  { a with data := d, body := body, crc := crc32c (readBytes body 0 0 a.len) }

/-- Start a commit of the working copy: choose the target and erase it (R140). -/
def State.startCommit (s : State) : State :=
  if s.is Reg.BOOT_ALM_STATUS_COMMIT_BUSY then s
  else
    let (target, seq) : Nat × Nat := match s.lastCommitted with
      | none => (0, 1)
      | some sec => (1 - sec, (s.sectionSeq sec + 1) % 2 ^ 32)
    let s1 := s.wr Reg.BOOT_ALM_STATUS_COMMIT_BUSY 1
    { s1 with boot := { s1.boot with commit := some (target, seq),
                                     flash := eraseFlash s1.boot.flash (almBase target) 0x200000 } }

/-- A write of BOOT_ALM_CTRL (R140). -/
def State.almCtrl (s : State) (v : Nat) : State :=
  if bits v 8 8 = 0xA5 ∧ bit v 0 then s.startCommit else s

/-- ALMANAC_COMMIT (R140). -/
def execAlmanacCommit (val : Word) (s : State) : Out := ok (s.almCtrl val.toNat)

/-- ALMANAC_COMMIT_DONE (R140): after a good read-back the marker is written last; a failed one raises COMMIT_FAIL and
writes no marker. -/
def execAlmanacCommitDone (good : Bool) (s : State) : Out :=
  match s.boot.commit with
  | none => ok s
  | some (target, seq) =>
    let b := almBase target
    let hdr := leBytes 4 0x4C414D41 ++ leBytes 4 seq ++ leBytes 4 s.alm.len ++ leBytes 4 (crc32c s.alm.bytes)
    let f1 := writeBytes s.boot.flash 0xFF b (hdr ++ leBytes 4 (crc32c hdr))
    let f2 := writeBytes f1 0xFF (b + 0x100) s.alm.bytes
    let s1 := s.wr Reg.BOOT_ALM_STATUS_COMMIT_BUSY 0
    if good then
      let f3 := writeBytes f2 0xFF (b + 0x1FF000) (leBytes 4 0x434D4954 ++ leBytes 4 seq)
      ok (({ s1 with boot := { s1.boot with commit := none, flash := f3 } }.wr Reg.BOOT_ALM_STATUS_LAST_COMMIT_OK 1).bump
        Ctr.BOOT_ALMANAC_COMMITS 1)
    else
      ok (({ s1 with boot := { s1.boot with commit := none, flash := f2 } }.wr Reg.BOOT_ALM_STATUS_LAST_COMMIT_OK 0).raise
        Err.BOOT_COMMIT_FAIL)

/-! ### The relock records (R147) -/

/-- Whether ferry `f` has a complete relock record: DONE and CRC right (R147, R148). -/
def State.relockDone (s : State) (f : Nat) : Bool :=
  let b := 0x400 * f
  let at' (o n : Nat) := readBytes s.scratch 0 (b + o) n
  ofLe (at' 0 4) == 0xD0 + f && ofLe (at' 0x10 4) == crc32c (at' 0x04 12 ++ at' 0x20 512)

/-- The Hearth firmware VERSION in a relock record. -/
def State.relockVersion (s : State) (f : Nat) : Nat := ofLe (readBytes s.scratch 0 (0x400 * f + 0x0C) 4)

/-- Commit a ferry's relock record in the order of R147: codes, CRC, and the done mark last. -/
def State.writeRelock (s : State) (f : Nat) (codes : List Nat) : State :=
  let b := 0x400 * f
  let head := leBytes 6 s.bellNum ++ leBytes 2 0 ++ leBytes 4 (s.boot.hearthVer.getD 0)
  let body := ((List.range 256).map (fun i => codes.getD i 0)).flatMap (leBytes 2)
  let m1 := writeBytes s.scratch 0 (b + 0x20) body
  let m2 := writeBytes m1 0 (b + 0x04) head
  let m3 := writeBytes m2 0 (b + 0x10) (leBytes 4 (crc32c (head ++ body)))
  { s with scratch := writeBytes m3 0 b (leBytes 4 (0xD0 + f)) }

/-- Clear a ferry's done mark (R84, R148). -/
def State.clearRelock (s : State) (f : Nat) : State :=
  { s with scratch := writeBytes s.scratch 0 (0x400 * f) (leBytes 4 0) }

/-! ### The debug lock (R134, R149, R150) -/

/-- Draw a new SEC_NONCE (R150). -/
def State.newNonce (s : State) : State :=
  { s with draws := s.draws + 1, boot := { s.boot with nonce := Config.nonceSource s.draws % 2 ^ 64 } }

/-- NONCE_LO_READ (R150): the low half, latching the upper half for the path. -/
def execNonceLoRead (path : Path) (s : State) : Out :=
  ok ({ s with boot := { s.boot with
    nonceHold := mset s.boot.nonceHold path.num (s.boot.nonce / 2 ^ 32) 0 } }.answer path (s.boot.nonce % 2 ^ 32))

/-- The 128 bytes of SEC_TOKEN_BUF. -/
def State.tokenBytes (s : State) : List Byte :=
  (List.range 32).flatMap (fun k => leBytes 4 (s.rd (Reg.SEC_TOKEN_BUF_DATA k)))

/-- Whether the token in the buffer is accepted (R150). -/
def State.tokenGood (s : State) : Bool :=
  let t := s.tokenBytes
  let n (o k : Nat) := ofLe ((t.drop o).take k)
  n 0 4 == 0x4B4F4454 && n 4 2 == 1 && n 6 1 == s.rd Reg.SEC_STATUS_KEY_SLOT && n 8 8 == s.serial
    && n 0x10 8 == s.boot.nonce && n 0x18 4 < 16
    && (match s.boot.reeve with
        | none => false
        | some r => Config.ecdsaOk r.key (t.take 32) ((t.drop 32).take 96))

/-- A write of SEC_TOKEN_CTRL.SUBMIT: check the token, grant its permissions or raise TOKEN_BAD, clear the buffer and
draw a new nonce (R150). -/
def State.submitToken (s : State) (v : Nat) : State :=
  if !bit v 0 then s
  else
    let perms := ofLe ((s.tokenBytes.drop 0x18).take 4)
    let s1 := if s.tokenGood then
        (((s.wr Reg.SEC_STATUS_PERMS perms).wr Reg.SEC_STATUS_DEBUG_UNLOCKED 1).wr Reg.SEC_TOKEN_STATUS_RESULT 1).bump
          Ctr.SEC_TOKENS_ACCEPTED 1
      else ((s.wr Reg.SEC_TOKEN_STATUS_RESULT 2).bump Ctr.SEC_TOKENS_REFUSED 1).raise Err.SEC_TOKEN_BAD
    let s2 := (List.range 32).foldl (fun acc k => acc.wr (Reg.SEC_TOKEN_BUF_DATA k) 0) s1
    s2.newNonce

/-- TOKEN_SUBMIT (R150). -/
def execTokenSubmit (val : Word) (s : State) : Out := ok (s.submitToken val.toNat)

/-- A write of SEC_DEBUG_CTRL.LOCK withdraws all debug permissions (R150). -/
def State.debugLock (s : State) (v : Nat) : State :=
  if bit v 0 then (s.wr Reg.SEC_STATUS_PERMS 0).wr Reg.SEC_STATUS_DEBUG_UNLOCKED 0 else s

/-- DEBUG_LOCK (R150). -/
def execDebugLock (val : Word) (s : State) : Out := ok (s.debugLock val.toNat)

/-- A write of SEC_SVN_CTRL: with the key, raise the fuse counter to the running image's SVN if that is higher
(R134). -/
def State.svnCtrl (s : State) (v : Nat) : State :=
  match s.boot.reeve with
  | none => s
  | some r =>
    if bits v 8 8 = 0xA5 ∧ bit v 0 ∧ s.rd Reg.SEC_STATUS_SVN_FUSE < r.svn then s.wr Reg.SEC_STATUS_SVN_FUSE r.svn
    else s

/-- SVN_ADVANCE (R134). -/
def execSvnAdvance (val : Word) (s : State) : Out := ok (s.svnCtrl val.toNat)

end Sys2Proof.Machine
end

