-- ==== Sys2Proof/Machine/Htr.lean ====
section
/-! DEFINITION. Sys2Proof/Machine/Htr.lean: heaters and monitors: heater power, the monitor channels with their ranges
and pins, and the converters' reference check (spec/07: R211 to R219). -/

namespace Sys2Proof.Machine

/-- Heater number h = 256f + 8l + e (R211). -/
def heaterNo (f l e : Nat) : Nat := 256 * f + 8 * l + e

/-- Monitor channel number m = 192f + 6l + k (R213). -/
def channelNo (f l k : Nat) : Nat := 192 * f + 6 * l + k

/-- The ADC that serves a channel (R213). -/
def adcOf (ch : Nat) : Nat := 8 * (ch / 192) + ch % 192 / 24

/-- A monitor channel's state. -/
def State.monitor (s : State) (ch : Nat) : Monitor := mget s.monitors ch Monitor.blank

/-- The sample word of a channel (R217): VALID reads 0 while its ADC is at fault (R219). -/
def State.sampleWord (s : State) (ch : Nat) : Nat :=
  let w := (s.monitor ch).word
  if bit s.adcFault (adcOf ch) then clearBit w 31 else w

/-- Whether a sample word carries VALID. -/
def wordValid (w : Nat) : Bool := bit w 31
/-- Whether a sample word carries RANGE_MOVE. -/
def wordMoved (w : Nat) : Bool := bit w 30
/-- Whether a sample word carries PINNED. -/
def wordPinned (w : Nat) : Bool := bit w 28
/-- CURRENT of a sample word, in 1/2,048 µA. -/
def wordCurrent (w : Nat) : Nat := bits w 0 22

/-- The sample word of a code (R217). -/
def sampleOf (range code : Nat) (moved pinned : Bool) : Nat :=
  2 ^ 31 + b2n moved * 2 ^ 30 + b2n (code == 4095) * 2 ^ 29 + b2n pinned * 2 ^ 28 + range * 2 ^ 26 + code * 8 ^ range

/-- The range that R214 asks for after a code in a range. -/
def nextRange (range code : Nat) : Nat :=
  if 3840 < code ∧ range < 3 then range + 1 else if code < 256 ∧ 0 < range then range - 1 else range

/-- MONITOR_SAMPLE (R214 to R217): one conversion of one channel, taken for its loop or otherwise. -/
def execMonitorSample (ch code : Nat) (loop : Bool) (s : State) : Out :=
  if 1536 ≤ ch ∨ 4096 ≤ code then ok s
  else
    let m := s.monitor ch
    let pin := if m.pin = some 0 then none else m.pin
    let put (st : State) (x : Monitor) : State := { st with monitors := mset st.monitors ch x Monitor.blank }
    let s0 := s.bump Ctr.HTR_SAMPLES 1
    let s1 := if code = 4095 then s0.bump Ctr.HTR_CLIPS 1 else s0
    match pin with
    | some n =>
      ok (put s1 { m with word := sampleOf m.range code false true, moved := false, run := 0,
                          pin := some (if loop then n - 1 else n) })
    | none =>
      let run := if m.moved then m.run + 1 else 0
      let w := sampleOf m.range code m.moved false
      if run = 3 then
        ok (((put s1 { range := m.range, word := w, moved := false, run := 0, pin := some 64 }).bump
          Ctr.HTR_RANGE_PINS 1).raise Err.HTR_RANGE_PIN)
      else
        let r := nextRange m.range code
        let s2 := put s1 { range := r, word := w, moved := r != m.range, run := run, pin := none }
        ok (if r = m.range then s2 else s2.bump Ctr.HTR_RANGE_MOVES 1)

/-- RANGE_PIN_END (R216): after 64 loop samples the pin ends; the next sample applies R214 from its own code. -/
def execRangePinEnd (ch : Nat) (s : State) : Out :=
  let m := s.monitor ch
  if m.pin = some 0 then ok { s with monitors := mset s.monitors ch { m with pin := none } Monitor.blank } else ok s

/-- ADC_REFERENCE_CHECK (R219): the per-bell reference conversion of one ADC. -/
def execAdcReferenceCheck (adc : Nat) (pass : Bool) (s : State) : Out :=
  if 64 ≤ adc then ok s
  else if pass then ok { s with adcFault := clearBit s.adcFault adc }
  else ok ({ s with adcFault := setBit s.adcFault adc }.raise Err.HTR_MON_ADC_FAULT)

/-- A heater's code. -/
def State.code (s : State) (h : Nat) : Nat := mget s.codes h 0

/-- The boundary's heater power sum (R212): 20 mW × (code / 65,535)² over all heaters; above 14.0 W it raises
HTR_OVER_BUDGET. -/
def State.sumPower (s : State) : State :=
  let n := s.codes.foldl (fun acc e => acc + e.2 * e.2) 0
  let s1 := s.wr Reg.HTR_STATUS_POWER (Config.roundPower (20 * n))
  if 14000 * (65535 * 65535) < 20 * n then s1.raise Err.HTR_HTR_OVER_BUDGET else s1

end Sys2Proof.Machine
end

