-- ==== Sys2Proof/Machine/Thermal.lean ====
section
/-! DEFINITION. Sys2Proof/Machine/Thermal.lean: the temperature sensors, the thermal bands, the trip and THERM_N
(spec/03, R85 to R95). Temperatures are in steps of 0.125 °C. -/

namespace Sys2Proof.Machine

/-- A converter reading that counts as a valid sample: between −40 °C and +150 °C (R86). -/
def sampleValid : Option Int → Bool
  | none => false
  | some t => (-320 ≤ t) && (t ≤ 1200)

/-- One sensor's sample: a valid one is recorded and ends an exclusion; an invalid one excludes the sensor, and
SENSOR_FAULT is raised once per exclusion (R86). -/
def State.takeSample (s : State) (n : Nat) (r : Option Int) : State :=
  let ex := s.rd Reg.THERMAL_FAULTED_FAULTED
  match r, sampleValid r with
  | some t, true =>
    ((s.wrI (Reg.THERMAL_SENSOR_TEMP n) t).wr (Reg.THERMAL_SENSOR_VALID n) 1).wr Reg.THERMAL_FAULTED_FAULTED
      (clearBit ex n)
  | _, _ =>
    let s1 := s.wr (Reg.THERMAL_SENSOR_VALID n) 0
    if bit ex n then s1
    else ((s1.wr Reg.THERMAL_FAULTED_FAULTED (setBit ex n)).bump Ctr.THERMAL_SENSOR_FAULTS 1).raise
      Err.THERMAL_SENSOR_FAULT

/-- The hottest reading with its sensor: the maximum of the latest valid samples, the lowest sensor number on a tie
(R85; the tie is log entry 6). -/
def State.hottest (s : State) : Option (Int × Nat) :=
  (List.range 16).foldl (fun acc n =>
    if s.is (Reg.THERMAL_SENSOR_VALID n) then
      let t := s.rdI (Reg.THERMAL_SENSOR_TEMP n)
      match acc with
      | none => some (t, n)
      | some (m, k) => if m < t then some (t, n) else some (m, k)
    else acc) none

/-- The highest band whose entry condition a reading meets (R87). -/
def entryBand (t : Int) : Nat := if 840 < t then 3 else if 760 ≤ t then 2 else if 680 ≤ t then 1 else 0

/-- The leave threshold of a band (R87). -/
def leaveBelow (band : Nat) : Int := if band = 1 then 656 else if band = 2 then 736 else 816

/-- The floor that excluded sensors put under the band (R86). -/
def State.bandFloor (s : State) : Nat :=
  let n := popCount 16 (s.rd Reg.THERMAL_FAULTED_FAULTED)
  if n = 16 then 3 else if 4 < n then 2 else 0

/-- Evaluate the band from the readings of this bell: a rise goes straight to the highest band whose condition holds,
and the count of bells below the leave threshold runs (R86, R87). The band takes effect at the next boundary (R88). -/
def State.evalBand (s : State) : State :=
  let band := s.rd Reg.THERMAL_STATUS_BAND
  let alone := match s.hottest with
    | none => 0
    | some (t, _) => entryBand t
  let floor := s.bandFloor
  let target := max alone floor
  let s1 := match s.hottest with
    | none => s
    | some (t, n) => (s.wrI Reg.THERMAL_HOTTEST_TEMP t).wr Reg.THERMAL_STATUS_HOT_SENSOR n
  let below := match s.hottest with
    | none => false
    | some (t, _) => t < leaveBelow band
  if band < target then { s1 with thermal := { s1.thermal with pendBand := some target, fallCount := 0 } }
  else if 0 < band && below && !(alone < floor) then
    { s1 with thermal := { s1.thermal with fallCount := satAt 64 (s.thermal.fallCount + 1) } }
  else { s1 with thermal := { s1.thermal with fallCount := 0 } }

/-- SENSOR_SAMPLE (R85, R86): sensors S2k and S2k+1 for k = b mod 8 at CCK cycle 640 of bell b. -/
def execSensorSample (a b : Option Int) (s : State) : Out :=
  let k := s.bellNum % 8
  ok ((s.takeSample (2 * k) a).takeSample (2 * k + 1) b).evalBand

/-- BAND_FALL (R87): after 64 consecutive bells below the leave threshold the band falls one step. -/
def execBandFall (s : State) : Out :=
  let band := s.rd Reg.THERMAL_STATUS_BAND
  if s.thermal.fallCount = 64 ∧ 0 < band then
    ok { s with thermal := { s.thermal with fallCount := 0, pendBand := some (band - 1) } }
  else ok s

/-- The part of step 2 of R61 that the band has: a band decided in the bell just ended takes effect, a rise to 3 trips,
and transmit is re-enabled after an accepted clear (R88, R90, R91). -/
def State.applyBand (s : State) : State :=
  let band := s.rd Reg.THERMAL_STATUS_BAND
  let ctr := if band = 1 then some Ctr.THERMAL_BAND1_BELLS else if band = 2 then some Ctr.THERMAL_BAND2_BELLS
    else if band = 3 then some Ctr.THERMAL_BAND3_BELLS else none
  let s0 := match ctr with
    | none => s
    | some c => s.bump c 1
  let s1 := if s0.thermal.clearPend then
      { s0 with thermal := { s0.thermal with clearPend := false, txDark := false } } else s0
  match s1.thermal.pendBand with
  | none => s1
  | some b =>
    let s2 := ({ s1 with thermal := { s1.thermal with pendBand := none } }).wr Reg.THERMAL_STATUS_BAND b
    if band < b then
      let s3 := (s2.bump Ctr.THERMAL_BAND_RISES 1).raise Err.THERMAL_BAND_RAISE
      if b = 3 then
        let s4 := (s3.wr Reg.THERMAL_STATUS_TRIP 1).bump Ctr.THERMAL_TRIPS 1
        ({ s4 with thermal := { s4.thermal with txDark := true } }).raise Err.THERMAL_THERMAL_TRIP
      else s3
    else if b < band then s2.bump Ctr.THERMAL_BAND_FALLS 1
    else s2

/-- THERM_N at a boundary: low while enabled and the band is 2 or more or TRIP is set (R94). -/
def State.driveThermN (s : State) : State :=
  let d := s.is Reg.THERMAL_CTRL_THERM_N_EN
    && (2 ≤ s.rd Reg.THERMAL_STATUS_BAND || s.is Reg.THERMAL_STATUS_TRIP)
  { s with pins := { s.pins with thermN := d } }.wr Reg.THERMAL_STATUS_THERM_N_PIN (b2n !d)

/-- A write of THERMAL_CTRL.TRIP_CLEAR: accepted in band 0 or 1 (R91). -/
def State.tripClear (s : State) : State :=
  if s.rd Reg.THERMAL_STATUS_BAND ≤ 1 ∧ s.is Reg.THERMAL_STATUS_TRIP then
    { s with thermal := { s.thermal with clearPend := true } }.wr Reg.THERMAL_STATUS_TRIP 0
  else s

/-- TRIP_CLEAR (R91). -/
def execTripClear (s : State) : Out := ok s.tripClear

end Sys2Proof.Machine
end

