-- ==== Sys2Proof/Machine/Lantern.lean ====
section
/-! DEFINITION. Sys2Proof/Machine/Lantern.lean: the laser inputs, the per-line select switches, line moves and the
Lantern bus (spec/07, R188 to R202, R218; bias ageing, R524). Powers are in 0.01 dBm. -/

namespace Sys2Proof.Machine

/-! ### Inputs, levels and the switches in force (R189, R190) -/

/-- The sources in order. -/
def sources : List Source := [.la, .lb]

/-- LANTERN_STATUS's light bit of an input. -/
def lightFld : Source → Fld
  | .la => Reg.LANTERN_STATUS_A_LIGHT
  | .lb => Reg.LANTERN_STATUS_B_LIGHT

/-- LANTERN_STATUS's standby bit of a module. -/
def standbyFld : Source → Fld
  | .la => Reg.LANTERN_STATUS_A_STANDBY
  | .lb => Reg.LANTERN_STATUS_B_STANDBY

/-- Whether an input is lost (R192). -/
def State.inputLost (s : State) (src : Source) : Bool := bit s.lantern.lost src.num

/-- Whether a line of a source has failed (R195). -/
def State.lineFailed (s : State) (src : Source) (line : Nat) : Bool := bit s.lantern.failed (32 * src.num + line)

/-- Whether a line of a source may be selected: its input not lost, the line not failed. -/
def State.lineUsable (s : State) (src : Source) (line : Nat) : Bool := !s.inputLost src && !s.lineFailed src line

/-- Word 2f + ⌊line / 16⌋ of LANTERN_SEL, for a ferry and a line. -/
def selWord (f line : Nat) : Nat := 2 * f + line / 16

/-- The two bits of a line in a word of LANTERN_SEL. -/
def selBits (w line : Nat) : Nat := bits w (2 * (line % 16)) 2

/-- A word with the two bits of a line replaced. -/
def putSel (w line v : Nat) : Nat := w - selBits w line * 4 ^ (line % 16) + v % 4 * 4 ^ (line % 16)

/-- The reset value of a word of LANTERN_SEL: A for even lines, B for odd (R190). -/
def selReset : Nat := 0x99999999

/-- A select value that names a source. -/
def srcSel (src : Source) : Nat := src.num + 1

/-- What a stored select value becomes when applied: a lost input or a failed line is applied as the other input, when
that one can be used; the reserved value selects nothing (R218). -/
def State.appliedSel (s : State) (line v : Nat) : Nat :=
  if v = 1 then (if !s.lineUsable .la line && s.lineUsable .lb line then 2 else 1)
  else if v = 2 then (if !s.lineUsable .lb line && s.lineUsable .la line then 1 else 2)
  else 0

/-- A word of LANTERN_SEL as applied. -/
def State.appliedWord (s : State) (w : Nat) : Nat :=
  let v := s.rd (Reg.LANTERN_SEL_LINE w)
  (List.range 16).foldl (fun acc i => acc + s.appliedSel (16 * (w % 2) + i) (selBits v i) * 4 ^ i) 0

/-- The select in force for line `line` of ferry `f`, apart from what holds the switches dark. -/
def State.selInForce (s : State) (f line : Nat) : Nat := selBits (mget s.lantern.sel (selWord f line) selReset) line

/-- Whether every switch is held DARK: after a trip until transmit is re-enabled, and in LIMP (R90, R189, R202). -/
def State.switchesDark (s : State) : Bool :=
  s.thermal.txDark || s.is Reg.THERMAL_STATUS_TRIP || s.rd Reg.DEVICE_STATE_STATE == 3

/-- The state of a select switch: 0 DARK, 1 A, 2 B (R189). -/
def State.switchAt (s : State) (f line : Nat) : Nat := if s.switchesDark then 0 else s.selInForce f line

/-- The source that feeds a lane with light, if one does (R221). -/
def State.litSource (s : State) (f line : Nat) : Option Source :=
  match s.switchAt f line with
  | 1 => if s.inputLost .la then none else some .la
  | 2 => if s.inputLost .lb then none else some .lb
  | _ => none

/-- Write the select of a line of a ferry in LANTERN_SEL. -/
def State.storeSel (s : State) (f line v : Nat) : State :=
  s.wr (Reg.LANTERN_SEL_LINE (selWord f line)) (putSel (s.rd (Reg.LANTERN_SEL_LINE (selWord f line))) line v)

/-- Write the select of a line of a ferry in LANTERN_SEL and in force at once (R189: the automatic takeovers). -/
def State.forceSel (s : State) (f line v : Nat) : State :=
  let s1 := s.storeSel f line v
  let k := selWord f line
  { s1 with lantern := { s1.lantern with
      sel := mset s1.lantern.sel k (putSel (mget s1.lantern.sel k selReset) line v) selReset } }

/-- Every ferry and line. -/
def ferryLines : List (Nat × Nat) := (List.range 8).flatMap (fun f => (List.range 32).map (fun l => (f, l)))

/-- Whether some ferry's switch selects a line from a source. -/
def State.drawnBy (s : State) (src : Source) (line : Nat) : Bool :=
  (List.range 8).any (fun f => s.selInForce f line == srcSel src)

/-- Put a piece of work on the Lantern bus's list, once. -/
def State.busAdd (s : State) (w : BusWork) : State :=
  if s.lantern.work.contains w then s
  else { s with lantern := { s.lantern with work := s.lantern.work ++ [w] } }

/-- A 16-bit level as a signed power. -/
def State.drawnLevel (s : State) : Int := s.rdI Reg.LANTERN_LEVELS_DRAWN
/-- The standby level (R190). -/
def State.standbyLevel (s : State) : Int := s.rdI Reg.LANTERN_LEVELS_STANDBY
/-- The single-mode level (R193). -/
def State.singleLevel (s : State) : Int := s.rdI Reg.LANTERN_SINGLE_SINGLE

/-- The level last asked of a line. -/
def State.askedLevel (s : State) (src : Source) (line : Nat) : Int :=
  toSigned 16 (mget s.lantern.asked (32 * src.num + line) 0)

/-- Note the level asked of a line. -/
def State.noteAsked (s : State) (src : Source) (line : Nat) (p : Int) : State :=
  { s with lantern := { s.lantern with
      asked := mset s.lantern.asked (32 * src.num + line) (ofSigned 16 p) 0 } }

/-- Ask a level of a line: a SET_LINE_POWER is due unless that level was asked last. -/
def State.askLevel (s : State) (src : Source) (line : Nat) (p : Int) : State :=
  if s.askedLevel src line = p then s
  else (s.noteAsked src line p).busAdd (.setPower src (some line) p)

/-- How many lines of a source are asked to be at the drawn level (R191). -/
def State.drawnCount (s : State) (src : Source) : Nat :=
  ((List.range 32).filter (fun l => s.askedLevel src l == s.drawnLevel)).length

/-- Ask the drawn level of a line unless 17 lines of its source have it (R191). -/
def State.raiseLine (s : State) (src : Source) (line : Nat) : State :=
  if s.drawnCount src < 17 then s.askLevel src line s.drawnLevel else s

/-- Whether the line move in progress has raised this line. -/
def State.movingTo (s : State) (src : Source) (line : Nat) : Bool :=
  match s.lantern.move with
  | none => false
  | some m => m.line == line && m.dst == src

/-- The Lantern's mode: 0 DUAL, 1 SINGLE_A, 2 SINGLE_B, 3 NONE. -/
def State.lightMode (s : State) : Nat := s.rd Reg.LANTERN_STATUS_MODE

/-- Whether the levels of R190 apply to a line now: in dual mode to every line; while lines are moved back, to every
line but those that the surviving source will lose (R194). -/
def State.levelled (s : State) (src : Source) (line : Nat) : Bool :=
  if s.lightMode = 0 then true
  else match s.lantern.returning with
    | none => false
    | some r => src == r || !s.drawnBy src line
        || (List.range 8).any (fun f => selBits (mget s.lantern.before (selWord f line) selReset) line == srcSel src)

/-- Bring every line to the level of R190, lowering first, within the 17-line limit of R191. -/
def State.relevel (s : State) : State :=
  let lines := sources.flatMap (fun src => (List.range 32).map (fun l => (src, l)))
  let s1 := lines.foldl (fun acc (p : Source × Nat) =>
    if acc.levelled p.1 p.2 && !acc.drawnBy p.1 p.2 && !acc.movingTo p.1 p.2 then
      acc.askLevel p.1 p.2 acc.standbyLevel else acc) s
  lines.foldl (fun acc (p : Source × Nat) =>
    if acc.levelled p.1 p.2 && acc.drawnBy p.1 p.2 then acc.raiseLine p.1 p.2 else acc) s1

/-! ### Takeover, return and moves (R191 to R196) -/

/-- Every switch that selects `src` changes to the other input at once, in every ferry (R192). -/
def State.takeAll (s : State) (src : Source) : State :=
  ferryLines.foldl (fun acc (p : Nat × Nat) =>
    let v := selBits (acc.rd (Reg.LANTERN_SEL_LINE (selWord p.1 p.2))) p.2
    if v = srcSel src ∨ acc.selInForce p.1 p.2 = srcSel src then acc.forceSel p.1 p.2 (srcSel src.other) else acc) s

/-- The words of LANTERN_SEL as they are. -/
def State.selWords (s : State) : Map Nat :=
  (List.range 16).foldl (fun m w => mset m w (s.rd (Reg.LANTERN_SEL_LINE w)) selReset) []

/-- Single mode on `src` (R193): all its lines to the single-mode level, the other source to standby. -/
def State.singleMode (s : State) (src : Source) : State :=
  let s1 := s.wr Reg.LANTERN_STATUS_MODE (srcSel src)
  let s2 := (List.range 32).foldl (fun acc l => acc.noteAsked src l s.singleLevel) s1
  let keep := s2.lantern.work.filter (fun w => match w with
    | .setPower _ _ _ => false
    | .standby _ _ => false
    | _ => true)
  { s2 with lantern := { s2.lantern with
      work := keep ++ [.setPower src none s.singleLevel, .standby src.other true] } }

/-- Keep the assignment in force before the first loss, for the moves back (R194). -/
def State.keepBefore (s : State) : State :=
  if s.lightMode = 0 then { s with lantern := { s.lantern with before := s.selWords } } else s

/-- INPUT_LOSS (R192, R193, R196). -/
def execInputLoss (src : Source) (tap : Int) (s : State) : Out :=
  if s.inputLost src then ok (s.wrI (Reg.LANTERN_IN_POWER src.num) tap)
  else
    let s0 := ((s.wr (Reg.LANTERN_IN_LOL src.num) 1).wrI (Reg.LANTERN_IN_POWER src.num) tap).wr (lightFld src) 0
    let s1 := { s0 with lantern := { s0.lantern with lost := setBit s.lantern.lost src.num,
                                                     lostAt := mset s.lantern.lostAt src.num s.ticks 0 } }
    if s1.inputLost src.other then
      let s2 := (s1.keepBefore.raise Err.LANTERN_INPUT_LOST).wr Reg.LANTERN_STATUS_MODE 3
      ok ({ s2 with lantern := { s2.lantern with move := none, returning := none } }.raise Err.LANTERN_BOTH_INPUTS_LOST)
    else if s.is Reg.LANTERN_CTRL_AUTO then
      let s2 := (s1.keepBefore.takeAll src).bump Ctr.LANTERN_TAKEOVERS 1
      let s3 := { s2 with lantern := { s2.lantern with move := none, returning := none } }
      ok ((s3.singleMode src.other).raise Err.LANTERN_INPUT_LOST)
    else ok (s1.raise Err.LANTERN_INPUT_LOST)

/-- Whether an identity record is acceptable (R198, R202). -/
def identityOk (r : List Byte) : Bool :=
  let num (o n : Nat) : Nat := ofLe ((r.drop o).take n)
  r.length == 32 && num 20 1 == 32 && num 22 2 == 750 && 191999000 ≤ num 24 4 && num 24 4 ≤ 192001000
    && 2700 ≤ toSigned 16 (num 28 2) && 1300 ≤ toSigned 16 (num 30 2)

/-- Show an identity record in LANTERN_ID_x, and accept the module or raise IDENTITY_BAD (R202). -/
def State.takeIdentity (s : State) (src : Source) (r : List Byte) : State :=
  let s1 := (List.range 8).foldl (fun acc k =>
    acc.wr (Reg.LANTERN_ID src.num k) (ofLe ((r.drop (4 * k)).take 4))) s
  if identityOk r then
    { s1 with lantern := { s1.lantern with accepted := setBit s1.lantern.accepted src.num } }
  else
    ({ s1 with lantern := { s1.lantern with accepted := clearBit s1.lantern.accepted src.num } }).raise
      Err.LANTERN_IDENTITY_BAD

/-- INPUT_RETURN (R194): 65,536 bells within threshold and an acceptable identity. With the other input lost the lines
come up from this one in single mode (R196). -/
def execInputReturn (src : Source) (tap : Int) (identity : List Byte) (s : State) : Out :=
  if s.inputLost src ∧ mget s.lantern.lostAt src.num 0 + 65536 ≤ s.ticks then
    let s1 := s.takeIdentity src identity
    if identityOk identity then
      let s2 := ((s1.wr (Reg.LANTERN_IN_LOL src.num) 0).wrI (Reg.LANTERN_IN_POWER src.num) tap).wr (lightFld src) 1
      let s3 := { s2 with lantern := { s2.lantern with lost := clearBit s2.lantern.lost src.num } }
      if s3.inputLost src.other then
        if s.is Reg.LANTERN_CTRL_AUTO then
          ok (({ s3.takeAll src.other with lantern := { (s3.takeAll src.other).lantern with returning := none } }).singleMode src)
        else ok (s3.wr Reg.LANTERN_STATUS_MODE (srcSel src))
      else if s3.lightMode = 0 then ok s3
      else
        let s4 := { s3 with lantern := { s3.lantern with returning := some src } }
        ok ((s4.busAdd (.standby src false)).relevel)
    else ok s1
  else ok s

/-- Begin to move a line to `dst`: raise it there first (R191). -/
def State.beginMove (s : State) (line : Nat) (dst : Source) : State :=
  let s1 := { s with lantern := { s.lantern with move := some { line := line, dst := dst, level := false } } }
  (s1.askLevel dst line s.drawnLevel).busAdd (.readPower dst line)

/-- LINE_MOVE (R191): one at a time, in dual mode or back to a returned source, within the 17-line limit. -/
def execLineMove (line : Nat) (dst : Source) (s : State) : Out :=
  if line < 32 ∧ s.lantern.move = none ∧ s.lineUsable dst line = true ∧ s.drawnBy dst.other line = true
      ∧ (s.lightMode = 0 ∨ s.lantern.returning = some dst)
      ∧ (s.drawnCount dst < 17 ∨ s.askedLevel dst line = s.drawnLevel) then
    ok (s.beginMove line dst)
  else ok s

/-- The line moved back to make room on `src` when a 17th line is already drawn there (R195): the lowest drawn line
other than `line` whose other source can be used. -/
def State.makeRoom (s : State) (src : Source) (line : Nat) : State :=
  if s.lantern.move.isSome ∨ s.drawnCount src < 17 then s
  else match (List.range 32).find? (fun l => l != line && s.drawnBy src l && s.lineUsable src.other l
      && s.drawnCount src.other < 17) with
    | none => s
    | some l => s.beginMove l src.other

/-- LINE_FAIL (R195): by READ_LINE_POWER's report (the registers show it), or by the carrier monitors of at least four
ferries. The switch comes at the next boundary, and the other source's line is raised there. -/
def execLineFail (src : Source) (line : Nat) (monitors : Bool) (s : State) : Out :=
  let reported := bit (s.rd (Reg.LANTERN_BIAS_STATUS src.num line)) 0
    || s.rdI (Reg.LANTERN_LINE_MEASURED src.num line) < s.rdI (Reg.LANTERN_LINE_SETPOINT src.num line) - 300
  if line < 32 ∧ s.lineFailed src line = false ∧ (monitors ∨ reported) then
    let s0 := { s with lantern := { s.lantern with failed := setBit s.lantern.failed (32 * src.num + line) } }
    let s1 := if s0.lineUsable src.other line then
        (List.range 8).foldl (fun acc f =>
          if selBits (acc.rd (Reg.LANTERN_SEL_LINE (selWord f line))) line = srcSel src then
            acc.storeSel f line (srcSel src.other) else acc) s0
      else s0
    ok (((s1.bump Ctr.LANTERN_LINE_FAILS 1).raise Err.LANTERN_LINE_FAIL).makeRoom src.other line)
  else ok s

/-- A write of LANTERN_CTRL.LINE_REARM (R195). -/
def State.lineRearm (s : State) : State := { s with lantern := { s.lantern with failed := 0 } }

/-- LINE_REARM (R195). -/
def execLineRearm (s : State) : Out := ok s.lineRearm

/-- A write of a word of LANTERN_SEL: dropped with MODULE_COMM while a line move is in progress; it takes effect at the
next boundary (R189, R218). -/
def State.writeSel (s : State) (w v : Nat) : State :=
  if s.lantern.move.isSome then s.raise Err.LANTERN_MODULE_COMM else s.wr (Reg.LANTERN_SEL_LINE w) v

/-- SELECT_SWITCH_WRITE (R189). -/
def execSelectSwitchWrite (word : Nat) (val : Word) (s : State) : Out :=
  if word < 16 then ok (s.writeSel word val.toNat) else ok s

/-- The switch of a line move at the boundary: every ferry that draws the line takes it from the new source, or, while
lines are moved back, as before the loss (R191, R194). -/
def State.switchMoved (s : State) (m : LineMove) : State :=
  let s1 := (List.range 8).foldl (fun acc f =>
    let v := match s.lantern.returning with
      | none => srcSel m.dst
      | some _ => selBits (mget s.lantern.before (selWord f m.line) selReset) m.line
    if selBits (acc.rd (Reg.LANTERN_SEL_LINE (selWord f m.line))) m.line = 0 then acc else acc.storeSel f m.line v) s
  { s1 with lantern := { s1.lantern with move := none } }.bump Ctr.LANTERN_LINE_MOVES 1

/-- The boundary's part (R189, R191, R194): a line at level is switched, LANTERN_SEL takes effect, levels follow, and
with the last line back the mode is DUAL again. -/
def State.lanternBoundary (s : State) : State :=
  let s1 : State := match s.lantern.move with
    | none => s
    | some m => if m.level then s.switchMoved m else s
  let new : Map Nat := (List.range 16).foldl (fun m w => mset m w (s1.appliedWord w) selReset) []
  let s2 : State := if new = s1.lantern.sel ∧ s.lantern.move = s1.lantern.move then s1
    else { s1 with lantern := { s1.lantern with sel := new } }.relevel
  if s2.lantern.returning.isSome ∧ s2.selWords = s2.lantern.before then
    { s2 with lantern := { s2.lantern with returning := none } }.wr Reg.LANTERN_STATUS_MODE 0
  else s2

/-! ### The Lantern bus (R197 to R201) -/

/-- A transaction has completed: it counts, leaves the list, and ends a stuck-bus episode (R200, R201). -/
def State.busDone (s : State) (p : BusWork → Bool) : State :=
  let work := match s.lantern.work.find? p with
    | none => s.lantern.work
    | some w => s.lantern.work.erase w
  { s with lantern := { s.lantern with work := work, retries := 0, backoff := 1, retryAt := 0 } }.bump
    Ctr.LANTERN_BUS_TRANSACTIONS 1 |>.wr Reg.LANTERN_STATUS_BUS_STUCK 0

/-- LANTERN_POLL (R200): every line of each emitting source is to be read; READ_HOURS falls due every 1,048,576
bells. -/
def execLanternPoll (s : State) : Out :=
  let s1 := sources.foldl (fun acc src =>
    if bit s.lantern.accepted src.num && !s.is (standbyFld src) then
      (List.range 32).foldl (fun a l => a.busAdd (.readPower src l)) acc
    else acc) s
  if s.lantern.hoursAt ≤ s.ticks then
    let s2 := sources.foldl (fun acc src =>
      if bit s.lantern.accepted src.num then acc.busAdd (.readHours src) else acc) s1
    ok { s2 with lantern := { s2.lantern with hoursAt := s.ticks + 1048576 } }
  else ok s1

/-- LANTERN_ALERT (R197): the Alert Response Address names the module, and every line of it is to be read. -/
def execLanternAlert (src : Source) (s : State) : Out :=
  let s1 := ((s.busDone (fun _ => false)).bump Ctr.LANTERN_ALERTS 1).raise Err.LANTERN_MODULE_ALERT
  ok ((List.range 32).foldl (fun a l => a.busAdd (.readPower src l)) s1)

/-- LANTERN_BUS_STUCK (R201): 9 clocks and a STOP; with SDA still low the back-off runs and doubles. -/
def execLanternBusStuck (stillLow : Bool) (s : State) : Out :=
  if s.ticks < s.lantern.retryAt then ok s
  else
    let s1 := if s.is Reg.LANTERN_STATUS_BUS_STUCK then s
      else ((s.wr Reg.LANTERN_STATUS_BUS_STUCK 1).bump Ctr.LANTERN_BUS_STUCK_EPISODES 1).raise
        Err.LANTERN_LANTERN_BUS_STUCK
    if stillLow then
      ok { s1 with lantern := { s1.lantern with retryAt := s.ticks + s.lantern.backoff,
                                                backoff := satAt 1048576 (2 * s.lantern.backoff) } }
    else ok s1

/-- SET_LINE_POWER (R198, R199): an acknowledged command sets the setpoint of a line or of all; a module that refuses
keeps its setpoints and MODULE_COMM is raised. -/
def execSetLinePower (src : Source) (line : Option Nat) (power : Int) (ack : Bool) (s : State) : Out :=
  let s1 := s.busDone (fun w => w == .setPower src line power)
  if !ack then ok (s1.raise Err.LANTERN_MODULE_COMM)
  else match line with
    | some l => if l < 32 then ok ((s1.wrI (Reg.LANTERN_LINE_SETPOINT src.num l) power).noteAsked src l power) else ok s1
    | none => ok ((List.range 32).foldl (fun acc l =>
        (acc.wrI (Reg.LANTERN_LINE_SETPOINT src.num l) power).noteAsked src l power) s1)

/-- The bias record of a line (R524). -/
def State.age (s : State) (k : Nat) : Ageing := mget s.ageing k Ageing.blank

/-- A drawn-level poll of a line's bias: the first becomes the first bias; later ones give the rise, and BIAS_AGEING
once when it reaches TELEM_AGE_WARN percent (R524). -/
def State.pollBias (s : State) (src : Source) (line bias : Nat) : State :=
  let k := 32 * src.num + line
  let a := s.age k
  let put (st : State) (x : Ageing) : State := { st with ageing := mset st.ageing k x Ageing.blank }
  match a.first, a.renew with
  | some f, false =>
    let rise : Int := (bias : Int) - f
    let due := (s.rd Reg.TELEM_AGE_WARN_PERCENT : Int) * f ≤ 100 * rise
    let s1 := put s { a with rise := rise, raised := a.raised || due }
    if due && !a.raised then s1.raise Err.TELEM_BIAS_AGEING else s1
  | _, _ => put s { first := some bias, rise := 0, raised := false, renew := false }

/-- READ_LINE_POWER (R198, R200): the report is shown; a power more than 1.0 dB from the setpoint raises
POWER_READBACK; a line being moved that reads within 0.3 dB is at level (R191). -/
def execReadLinePower (src : Source) (line : Nat) (r : LineReading) (s : State) : Out :=
  if line < 32 then
    let s1 := s.busDone (fun w => w == .readPower src line)
    let s2 := ((s1.wrI (Reg.LANTERN_LINE_MEASURED src.num line) r.power).wr
      (Reg.LANTERN_BIAS_STATUS src.num line) r.status).wr (Reg.LANTERN_BIAS_BIAS src.num line) r.bias
    let set := s.rdI (Reg.LANTERN_LINE_SETPOINT src.num line)
    let s3 := if r.power < set - 100 ∨ set + 100 < r.power then s2.raise Err.LANTERN_POWER_READBACK else s2
    let s4 := if set = s.drawnLevel ∧ bit r.status 3 = false then s3.pollBias src line r.bias else s3
    match s4.lantern.move with
    | none => ok s4
    | some m =>
      if m.line = line ∧ m.dst = src ∧ set = s.drawnLevel ∧ set - 30 ≤ r.power ∧ r.power ≤ set + 30 then
        ok { s4 with lantern := { s4.lantern with move := some { m with level := true } } }
      else if m.line = line ∧ m.dst = src ∧ m.level = false then ok (s4.busAdd (.readPower src line))
      else ok s4
  else ok s

/-- READ_HOURS (R198, R240): the emitting hours are shown, and the hours since the last reading go to the wear account
of every line drawn from the source. -/
def execReadHours (src : Source) (_powered emitting : Nat) (s : State) : Out :=
  let s1 := s.busDone (fun w => w == .readHours src)
  let old := s.rd (Reg.LANTERN_HOURS_EMITTING src.num)
  let grown := if old = 0 then 0 else emitting % 2 ^ 32 - old
  let d := s1.alm.data
  let wear := (List.range 32).foldl (fun (m : Map Nat) l =>
    let k := 32 * src.num + l
    if s.drawnBy src l then mset m k (mget m k 0 + grown) 0 else m) d.wear
  ok ({ s1 with alm := s1.alm.withData { d with wear := wear } }.wr (Reg.LANTERN_HOURS_EMITTING src.num) emitting)

/-- SET_STANDBY (R198). -/
def execSetStandby (src : Source) (on : Bool) (s : State) : Out :=
  ok ((s.busDone (fun w => w == .standby src on)).wrB (standbyFld src) on)

/-- READ_IDENTITY (R198). -/
def execReadIdentity (src : Source) (identity : List Byte) (s : State) : Out :=
  ok ((s.busDone (fun w => w == .identity src)).takeIdentity src identity)

/-- Whether a piece of bus work concerns a module. -/
def busOf (src : Source) : BusWork → Bool
  | .setPower x _ _ => x == src
  | .readPower x _ => x == src
  | .readHours x => x == src
  | .standby x _ => x == src
  | .identity x => x == src

/-- LANTERN_TRANSACTION_FAIL (R200): up to three retries; after the last, MODULE_COMM, and the work is taken up again
at the next poll. -/
def execLanternTransactionFail (src : Source) (s : State) : Out :=
  if s.lantern.retries < 3 then
    ok ({ s with lantern := { s.lantern with retries := s.lantern.retries + 1 } }.bump Ctr.LANTERN_BUS_RETRIES 1)
  else
    let work := match s.lantern.work.find? (busOf src) with
      | none => s.lantern.work
      | some w =>
        match w with
        | .readPower _ _ => s.lantern.work.erase w
        | .readHours _ => s.lantern.work.erase w
        | _ => s.lantern.work.erase w ++ [w]
    ok ({ s with lantern := { s.lantern with retries := 0, work := work } }.raise Err.LANTERN_MODULE_COMM)

/-! ### Start-up (R202) -/

/-- What step 7 finds of one module: it passes, it is absent, bad or has a line fault, or its lines are not at level. -/
def moduleVerdict (setpoint : Nat → Int) : Option ModuleReport → Nat
  | none => 1
  | some r =>
    if !identityOk r.identity then 1
    else if r.lines.any (fun x => bit x.status 0) then 1
    else if r.lines.length = 32 ∧ (List.range 32).all (fun l =>
        let p := (r.lines.getD l { status := 0, power := 0, setpoint := 0, bias := 0 }).power
        decide (setpoint l - 50 ≤ p ∧ p ≤ setpoint l + 50)) then 0
    else 2

/-- Take in what one module shows at step 7. -/
def State.takeModule (s : State) (src : Source) : Option ModuleReport → State
  | none => { s with lantern := { s.lantern with accepted := clearBit s.lantern.accepted src.num } }
  | some r =>
    let s1 := (s.takeIdentity src r.identity).wrI (Reg.LANTERN_IN_POWER src.num) r.tap
    let want := Config.expectedTap ((List.range 32).map (fun l => s.rdI (Reg.LANTERN_LINE_SETPOINT src.num l)))
    let lit := want - 10 * s.rd Reg.LANTERN_LOS_THRESH_DB ≤ r.tap
    let s2 := (s1.wrB (lightFld src) lit).wrB (Reg.LANTERN_IN_LOL src.num) (!lit)
    let s3 := s2.wr (standbyFld src) 0
    (List.range 32).foldl (fun acc l =>
      match r.lines[l]? with
      | none => acc
      | some x => ((acc.wrI (Reg.LANTERN_LINE_MEASURED src.num l) x.power).wr (Reg.LANTERN_BIAS_STATUS src.num l)
          x.status).wr (Reg.LANTERN_BIAS_BIAS src.num l) x.bias) s3

/-- Step 7's levels: those of R190 for the assignment in LANTERN_SEL, asked and set at once. -/
def State.startLevels (s : State) : State :=
  let new : Map Nat := (List.range 16).foldl (fun m w => mset m w (s.appliedWord w) selReset) []
  let s1 := { s with lantern := { s.lantern with sel := new, work := [], move := none, returning := none } }
  sources.foldl (fun acc src => (List.range 32).foldl (fun a l =>
    let p := if a.drawnBy src l then a.drawnLevel else a.standbyLevel
    (a.noteAsked src l p).wrI (Reg.LANTERN_LINE_SETPOINT src.num l) p) acc) s1

/-- Step 7 with what both modules show: `some true` success, `some false` no source, `none` not yet at level (R202). -/
def State.lanternStart (s : State) (a b : Option ModuleReport) : Option Bool × State :=
  let s0 := { s with lantern := { s.lantern with lost := 0 } }
  let s1 := s0.startLevels
  let va := moduleVerdict (fun l => s1.rdI (Reg.LANTERN_LINE_SETPOINT 0 l)) a
  let vb := moduleVerdict (fun l => s1.rdI (Reg.LANTERN_LINE_SETPOINT 1 l)) b
  let s2 := (s1.takeModule .la a).takeModule .lb b
  let single (src : Source) : State :=
    let x := { s2 with lantern := { s2.lantern with before := s2.selWords, lost := setBit 0 src.other.num,
                                                    lostAt := mset [] src.other.num s2.ticks 0 } }
    ((x.wr (lightFld src.other) 0).takeAll src.other).singleMode src
  if va = 0 ∧ vb = 0 then (some true, s2.wr Reg.LANTERN_STATUS_MODE 0)
  else if va = 0 ∧ vb = 1 then (some true, single .la)
  else if vb = 0 ∧ va = 1 then (some true, single .lb)
  else if va ≠ 0 ∧ vb ≠ 0 then (some false, s2)
  else (none, s2)

/-- LIMP's part (R202): both modules to standby; the switches are held DARK. -/
def State.lanternLimp (s : State) : State := (s.busAdd (.standby .la true)).busAdd (.standby .lb true)

end Sys2Proof.Machine
end

