-- ==== Sys2Proof/Machine/Hearth.lean ====
section
/-! DEFINITION. Sys2Proof/Machine/Hearth.lean: the loops that hold the rings: their update, their states, crosstalk
compensation and code conversion, headroom, wear, sparing and the warm start (spec/08). Powers are in 1/2,048 mW. -/

namespace Sys2Proof.Machine

/-! ### The two units -/

/-- Hearth `h`: 0 Hearth A, 1 Hearth B. -/
def State.hearth (s : State) (h : Nat) : HearthUnit := if h = 0 then s.twins.a else s.twins.b

/-- The state with Hearth `h` replaced. -/
def State.setHearth (s : State) (h : Nat) (u : HearthUnit) : State :=
  if h = 0 then { s with twins := { s.twins with a := u } } else { s with twins := { s.twins with b := u } }

/-- A role by the codes of R245. -/
def State.role (s : State) (h : Nat) : Nat := s.rd (Reg.HEARTH_ROLE_ROLE h)

/-- The Hearth that HEARTH_OWNER names, unless NONE is set. -/
def State.owner (s : State) : Option Nat :=
  if s.is (Reg.HEARTH_OWNER_NONE 0) then none else some (s.rd (Reg.HEARTH_OWNER_OWNER 0))

/-- Whether a Hearth computes updates: OWNER, STANDBY or RESYNC, and its controller runs. -/
def State.computes (s : State) (h : Nat) : Bool :=
  !(s.hearth h).stopped && (s.role h == 1 || s.role h == 2 || s.role h == 3)

/-- The Hearth whose codes reach the DACs: the owner; in the grant bell of an automatic fail-over the old owner, since
the claiming Hearth writes nothing (R247, R255). -/
def State.writer (s : State) : Option Nat :=
  match s.owner with
  | none => none
  | some o =>
    let w := match s.twins.dual with
      | some g => if g.auto then 1 - o else o
      | none => o
    if (s.hearth w).stopped then none else some w

/-- A loop of a Hearth. -/
def HearthUnit.loop (u : HearthUnit) (i : Nat) : Loop := mget u.loops i Loop.blank

/-- The unit with a loop replaced. -/
def HearthUnit.setLoop (u : HearthUnit) (i : Nat) (l : Loop) : HearthUnit :=
  { u with loops := mset u.loops i l Loop.blank }

/-! ### Elements and calibration (R211, R213, R220, R239) -/

/-- An Almanac calibration number: kind 0 P_ref, 1 η (per kelvin), 2 T_ref (by ferry, 1/8 °C), 3 P_FS_cal, 4 operating
power, 5 park power (by heater), 6 modulator slope target (1/65,536), 7 I_cal, 8 P_cal (by lane). -/
def State.cal (s : State) (kind i : Nat) : Int :=
  match (if kind = 1 then s.alm.data.eta.find? (fun p => p.1 == i) else none) with
  | some p => p.2
  | none => Config.almCal s.alm.used kind i

/-- Lane `j` of ferry `f` uses its spare modulator unit (R205). -/
def State.spareMod (s : State) (f j : Nat) : Bool := bit (s.rd (Reg.HTR_SPARE_MOD_LANES f)) j

/-- Lane `j` of ferry `f` uses its spare drop ring (R210). -/
def State.spareDrop (s : State) (f j : Nat) : Bool := bit (s.rd (Reg.HTR_SPARE_DROP_LANES f)) j

/-- The element that loop kind `q` drives. -/
def State.drivenElem (s : State) (q f j : Nat) : Nat :=
  if q = 0 then 0 else if q = 1 then (if s.spareMod f j then 2 else 1)
  else if q = 2 then (if s.spareDrop f j then 5 else 4) else 6

/-- The parked ring unit of loop kinds 1 and 2. -/
def State.parkedElem (s : State) (q f j : Nat) : Option Nat :=
  if q = 1 then some (if s.spareMod f j then 1 else 2)
  else if q = 2 then some (if s.spareDrop f j then 4 else 5) else none

/-- The second element of loop kinds 1 and 3: quadrature bias e3 and shifter e7. -/
def secondElem (q : Nat) : Option Nat := if q = 1 then some 3 else if q = 3 then some 7 else none

/-- The channel index k that a ring element stands at: e1, e2, e4, e5 at k0 to k3. -/
def ringChannel (e : Nat) : Nat := if e ≤ 2 then e - 1 else e - 2

/-- The sensing channel's index k of loop kind `q`. -/
def State.senseK (s : State) (q f j : Nat) : Nat :=
  if q = 0 then 5 else if q = 3 then 4 else ringChannel (s.drivenElem q f j)

/-- The reference power of an element (R226, R227, R241): a ring's active unit at its operating power, a parked unit at
its park power with its park moves, any other element at P_ref. -/
def State.refPower (s : State) (f j e : Nat) : Int :=
  let h := heaterNo f j e
  let parked := s.parkedElem 1 f j == some e || s.parkedElem 2 f j == some e
  if parked then s.cal 5 h + mget s.twins.parkAdj h 0
  else if e = 1 ∨ e = 2 ∨ e = 4 ∨ e = 5 then s.cal 4 h
  else s.cal 0 h

/-- Twice the ferry's temperature in 1/8 °C: both sensors' sum, one sensor doubled, or the hottest reading (R226). -/
def State.ferryTemp2 (s : State) (f : Nat) : Int :=
  let t (n : Nat) : Int := s.rdI (Reg.THERMAL_SENSOR_TEMP n)
  match s.is (Reg.THERMAL_SENSOR_VALID (2 * f)), s.is (Reg.THERMAL_SENSOR_VALID (2 * f + 1)) with
  | true, true => t (2 * f) + t (2 * f + 1)
  | true, false => 2 * t (2 * f)
  | false, true => 2 * t (2 * f + 1)
  | false, false => 2 * s.rdI Reg.THERMAL_HOTTEST_TEMP

/-- The feed-forward target of an element: P_ref − η × (T_f − T_ref), within [0, P_FS_cal] (R226). -/
def State.feedForward (s : State) (f j e : Nat) : Int :=
  let h := heaterNo f j e
  clampI 0 (s.cal 3 h) (s.refPower f j e - Config.roundDiv (s.cal 1 h * (s.ferryTemp2 f - 2 * s.cal 2 f)) 16)

/-! ### Crosstalk compensation and codes (R230 to R232) -/

/-- Integer square root, bit by bit from 2^k down. -/
def isqrtFrom : Nat → Nat → Nat → Nat
  | 0, _, r => r
  | k + 1, n, r => let r' := r + 2 ^ k; if r' * r' ≤ n then isqrtFrom k n r' else isqrtFrom k n r

/-- The heater code of a commanded power in 1/2,048 mW of 1/16,384: round(65,535 × √(P_c / P_FS_cal)) (R232). -/
def codeOf (pc pfs : Nat) : Nat := (isqrtFrom 18 (4 * 65535 * 65535 * pc / (pfs * 16384)) 0 + 1) / 2

/-- The matrix elements of a Hearth's table set. -/
def TableSet.xt (t : TableSet) (h : Nat) : Map Nat := if h = 0 then t.xtA else t.xtB

/-- The reset value of element k of a row: 1.0 on the diagonal. -/
def xtReset (k : Nat) : Nat := if k = 4 then 0x4000 else 0

/-- Element k = 0 … 8 of row i (256f + heater within the ferry) of a matrix table, 16 bits. -/
def xtElem (m : Map Nat) (i k : Nat) : Nat := mget m (9 * i + k) (xtReset k)

/-- Element k of a row as Q2.14. -/
def xtCoef (m : Map Nat) (i k : Nat) : Int := toSigned 16 (xtElem m i k)

/-- Whether a row is valid: diagonal in [0.5, 2.0), off-diagonal sum at most a quarter of it (R231). -/
def xtValid (m : Map Nat) (i : Nat) : Bool :=
  let d := xtCoef m i 4
  let sum := (List.range 9).foldl (fun acc k => if k = 4 then acc else acc + (xtCoef m i k).natAbs) 0
  8192 ≤ d && 4 * (sum : Int) ≤ d

/-- A row's element as used: the identity row stands in for a row that is not valid. -/
def xtUsed (m : Map Nat) (i k : Nat) : Int := if xtValid m i then xtCoef m i k else (xtReset k : Nat)

/-- Σ C_f[i][k] × P_t[k] of row i, in 1/16,384 of a target's unit; elements naming a heater outside the ferry are
ignored (R230). -/
def xtSum (m : Map Nat) (i : Nat) (target : Nat → Int) : Int :=
  (List.range 9).foldl (fun acc k =>
    let n := i % 256 + k
    if 4 ≤ n ∧ n < 260 then acc + xtUsed m i k * target (256 * (i / 256) + (n - 4)) else acc) 0

/-- Note the rows just used that are not valid; the first use of one raises XT_MATRIX_BAD on the owner's page (R231). -/
def State.noteRow (s : State) (h i : Nat) : State :=
  if xtValid (s.active.xt h) i ∨ s.twins.xtSub.contains i then s
  else
    let s1 := { s with twins := { s.twins with xtSub := i :: s.twins.xtSub } }
    let s2 := [0, 1].foldl (fun acc p => ((acc.wr (Reg.HEARTH_XT_BAD_VALID p) 1).wr (Reg.HEARTH_XT_BAD_FERRY p)
      (i / 256)).wr (Reg.HEARTH_XT_BAD_ROW p) (i % 256)) s1
    s2.raise (Err.HEARTH_XT_MATRIX_BAD (s.owner.getD 0))

/-- Recompute the commanded code of heater `i` for Hearth `h`; a power outside [0, P_FS_cal] is clamped and counted
(R230, R232). -/
def State.commandHeater (s : State) (h i : Nat) : State :=
  let u := s.hearth h
  let pc := xtSum (s.active.xt h) i (fun n => mget u.targets n 0)
  let pfs := s.cal 3 i
  let c := clampI 0 (16384 * pfs) pc
  let s1 := s.noteRow h i
  let s2 := if c = pc then s1 else s1.bump (Ctr.HEARTH_CLAMPS h) 1
  s2.setHearth h { s2.hearth h with codes := mset (s2.hearth h).codes i (codeOf c.toNat pfs.toNat) 0 }

/-- Write a heater DAC if its code changes (R211, R232). -/
def State.writeDac (s : State) (i c : Nat) : State :=
  if s.code i = c then s else { s with codes := mset s.codes i c 0 }.bump Ctr.HTR_DAC_WRITES 1

/-- Write what a Hearth commands for a list of heaters. -/
def State.writeCodes (s : State) (h : Nat) (hs : List Nat) : State :=
  hs.foldl (fun acc i => acc.writeDac i (mget (s.hearth h).codes i 0)) s

/-- The heaters whose rows read a heater: up to nine of its ferry (R232). -/
def readers (i : Nat) : List Nat :=
  (List.range 9).filterMap (fun k =>
    let n := i % 256 + k
    if 4 ≤ n ∧ n < 260 then some (256 * (i / 256) + (n - 4)) else none)

/-- Set targets of a Hearth and recompute every commanded power that reads them. -/
def State.setTargets (s : State) (h : Nat) (ts : List (Nat × Int)) : State :=
  let u := s.hearth h
  let changed := ts.filter (fun t => mget u.targets t.1 0 != t.2)
  let s1 := s.setHearth h { u with targets := changed.foldl (fun m t => mset m t.1 t.2 0) u.targets }
  ((changed.flatMap (fun t => readers t.1)).eraseDups).foldl (fun acc i => acc.commandHeater h i) s1

/-- Every heater of every ferry. -/
def allHeaters : List Nat := List.range 2048

/-- A crosstalk matrix has become active: rows now valid lose their substitution, and every commanded power of all
eight ferries is recomputed before any code is written (R231, R233). -/
def State.matrixRecompute (s : State) : State :=
  let sub := s.twins.xtSub.filter (fun i => !xtValid s.active.xtA i || !xtValid s.active.xtB i)
  let s1 := { s with twins := { s.twins with xtSub := sub } }
  let s2 := [0, 1].foldl (fun acc p => acc.wrB (Reg.HEARTH_XT_BAD_VALID p) (!sub.isEmpty)) s1
  let s3 := [0, 1].foldl (fun acc h =>
    if acc.computes h then allHeaters.foldl (fun a i => a.commandHeater h i) acc else acc) s2
  match s3.writer with
  | none => s3
  | some w => s3.writeCodes w allHeaters

/-- Load a ferry's matrix from the Almanac working copy into the active and shadow sets of both Hearths (R234). -/
def State.matrixLoad (s : State) (f : Nat) : State :=
  let rows := s.alm.data.xt.filter (fun e => e.1 / 2304 == f)
  let load (m : Map Nat) : Map Nat :=
    rows.foldl (fun acc e => mset acc e.1 e.2 (xtReset (e.1 % 9))) (m.filter (fun e => e.1 / 2304 != f))
  { s with active := { s.active with xtA := load s.active.xtA, xtB := load s.active.xtB },
           shadow := { s.shadow with xtA := load s.shadow.xtA, xtB := load s.shadow.xtB } }

/-! ### One loop update (R221, R224 to R228) -/

/-- What one update of a loop does: the loop after it, the targets it sets, and what it reports. -/
structure LoopStep where
  loop    : Loop
  targets : List (Nat × Int)
  held    : Bool
  unlock  : Bool
  acqFail : Bool
  limit   : Bool
  near    : Bool
  deriving DecidableEq, Repr

/-- A loop entering ACQUIRE: its runs, its acquisition count and its dither samples start afresh (R224, R228). -/
def Loop.acquire (l : Loop) : Loop :=
  { l with st := 2, yPlus := none, yMinus := none, lockRun := 0, unlockRun := 0, acquired := 0, failed := false }

/-- Whether |num / den| × 65,536 is at most a threshold. -/
def errWithin (num den : Int) (t : Nat) : Bool := (num.natAbs * 65536 ≤ t * den.natAbs)

/-- The lock tests of R228 after an update with error num / den; a pinned update changes no run. -/
def Loop.lockTest (l : Loop) (pinned : Bool) (num den : Int) (lock unlock : Nat) : Loop × Bool :=
  if pinned then (l, false)
  else if l.st = 2 then
    let run := if errWithin num den lock then l.lockRun + 1 else 0
    if 8 ≤ run then ({ l with st := 3, lockRun := 0, unlockRun := 0 }, false) else ({ l with lockRun := run }, false)
  else if l.st = 3 then
    let run := if errWithin num den unlock then 0 else l.unlockRun + 1
    if 4 ≤ run then (l.acquire, true) else ({ l with unlockRun := run }, false)
  else (l, false)

/-- Whether the loop's lane gives it light to act on (R221). -/
def State.loopLit (s : State) (q f j : Nat) : Bool :=
  if q ≤ 1 then (s.litSource f j).isSome
  else
    let w := s.sampleWord (channelNo f j (if s.spareDrop f j then 3 else 2))
    wordValid w && s.rd (Reg.HEARTH_LIGHT_MIN_CURRENT 0) ≤ wordCurrent w

/-- The dither amplitude of a loop kind. -/
def State.ditherOf (s : State) (h q : Nat) : Int :=
  if q = 0 then 0 else if q = 3 then (s.rd (Reg.HEARTH_DITHER_POL h) : Nat) else (s.rd (Reg.HEARTH_DITHER_RING h) : Nat)

/-- The error of a level update or of a dither update whose two samples are held, as a fraction (R224, R226). -/
def State.loopError (s : State) (q f j : Nat) (l : Loop) (cur : Nat) : Option (Int × Int) :=
  let lane := 32 * f + j
  let safe (n d : Int) : Int × Int := if d = 0 then (Config.freeErr s.draws, 65536) else (n, d)
  if q = 0 then
    let set := match s.litSource f j with
      | some src => s.rdI (Reg.LANTERN_LINE_SETPOINT src.num j)
      | none => 0
    let r := Config.scaleRef (s.cal 7 lane) set (s.cal 8 lane)
    some (safe ((cur : Int) - r) r)
  else match l.yPlus, l.yMinus with
    | some p, some m =>
      let g := safe ((p : Int) - m) ((p : Int) + m)
      if q = 1 then some (65536 * g.1 - s.cal 6 lane * g.2, 65536 * g.2) else some g
    | _, _ => none

/-- Move a loop's base by its step: KP × (e − e_prev) + KI × e, at a quarter of the gain while pinned, within the
clamps; a clamp reached from ACQUIRE or LOCKED is LIMIT, and a base off it ends LIMIT (R224, R226, R228). -/
def State.moveBase (s : State) (h q : Nat) (l : Loop) (e : Int × Int) (pinned : Bool) (lo hi : Int) : Loop × Bool :=
  let kp : Int := (s.rd (Reg.HEARTH_GAIN_KP h q) : Nat)
  let ki : Int := (s.rd (Reg.HEARTH_GAIN_KI h q) : Nat)
  let num := kp * (e.1 * l.eDen - l.eNum * e.2) + ki * e.1 * l.eDen
  let den := e.2 * l.eDen * (if pinned then 8 else 2)
  let b := clampI lo hi (l.base + Config.roundDiv num den)
  let l1 := { l with base := b, eNum := e.1, eDen := e.2 }
  if b = lo ∨ b = hi then (if l.st = 2 ∨ l.st = 3 then ({ l1 with st := 5 }, true) else (l1, false))
  else if l.st = 5 then (l1.acquire, false) else (l1, false)

/-- One update of loop `i` by Hearth `h`, from its own state and the samples both Hearths receive (R221 to R228). -/
def State.loopStep (s : State) (h i : Nat) (phase : Int) : LoopStep :=
  let q := i % 4
  let f := i / 128
  let j := i / 4 % 32
  let l := (s.hearth h).loop i
  let elem := s.drivenElem q f j
  let heater := heaterNo f j elem
  let none' (x : Loop) : LoopStep :=
    { loop := x, targets := [], held := true, unlock := false, acqFail := false, limit := false, near := false }
  if l.st = 0 then { none' l with held := false }
  else if !s.is (Reg.HEARTH_CTRL_RUN 0) then
    none' (if l.st = 2 then { l with acquired := l.acquired + 1 } else l)
  else
    let ff (e : Nat) : Nat × Int := (heaterNo f j e, s.feedForward f j e)
    let parkT := match s.parkedElem q f j with
      | none => []
      | some e => [ff e]
    let biasT := if q = 1 then [ff 3] else []
    let chan := channelNo f j (s.senseK q f j)
    let w := s.sampleWord chan
    let adcBad := bit s.adcFault (adcOf chan)
    if !s.loopLit q f j && !(adcBad && l.st != 1) then
      let sec := match secondElem q with
        | none => []
        | some e => [ff e]
      { none' { l with st := 1, base := (ff elem).2,
                       second := (secondElem q).elim 0 (fun e => (ff e).2) } with
        targets := ff elem :: sec ++ parkT, held := false }
    else
      let l0 := if adcBad then { l with st := 4 } else if l.st = 1 ∨ (l.st = 4 ∧ wordValid w) then l.acquire else l
      let l1 := if q = 1 then { l0 with second := (ff 3).2 } else l0
      let conv := s.is (Reg.FERRY_LANE_STATE_EQ_CONVERGED f j)
      let late (x : Loop) : Loop × Bool :=
        let y := if x.st = 2 then { x with acquired := x.acquired + 1 } else x
        if y.st = 2 ∧ 64 ≤ y.acquired ∧ y.failed = false then ({ y with failed := true }, true) else (y, false)
      if !wordValid w || wordMoved w then
        let l2 := late l1
        { loop := l2.1, targets := biasT ++ parkT, held := true, unlock := false, acqFail := l2.2, limit := false,
          near := false }
      else
        let cur := wordCurrent w
        let pinned := wordPinned w
        let d := s.ditherOf h q
        let pfs := s.cal 3 heater
        let l2 := if q = 0 ∨ l1.fresh then l1
          else if l1.sign then { l1 with yPlus := some cur } else { l1 with yMinus := some cur }
        let e := if l1.fresh then none else s.loopError q f j l2 cur
        let lock := s.rd (Reg.HEARTH_THRESH_LOCK h q)
        let unlock := s.rd (Reg.HEARTH_THRESH_UNLOCK h (if q = 3 then 2 else q))
        let r := match e with
          | none => (l2, false, false)
          | some e =>
            let t := l2.lockTest pinned e.1 e.2 lock unlock
            let m := s.moveBase h q t.1 e pinned d (pfs - d)
            (m.1, t.2, m.2)
        let l3 := if q = 0 ∨ r.1.fresh then r.1 else { r.1 with sign := !r.1.sign }
        let l4 := late { l3 with fresh := false }
        let pfs7 := s.cal 3 (heaterNo f j 7)
        let kib : Int := (s.rd (Reg.HEARTH_THRESH_UNLOCK h 3) : Nat)
        let e7 := if conv then clampI 0 pfs7 (l4.1.second + Config.roundDiv (kib * phase) 131072) else (ff 7).2
        let l5 := if q = 3 then { l4.1 with second := e7 } else l4.1
        let target := if l1.fresh ∨ q = 0 then l5.base else if l5.sign then l5.base + d else l5.base - d
        let secT := match secondElem q with
          | none => []
          | some e' => [(heaterNo f j e', l5.second)]
        let parkCur := match s.parkedElem q f j with
          | none => 0
          | some e' =>
            let pw := s.sampleWord (channelNo f j (ringChannel e'))
            if wordValid pw then wordCurrent pw else 0
        let near := (q = 1 ∨ q = 2) ∧ cur < 8 * parkCur
        let l6 := if near then { l5 with parkNear := true }
          else if 16 * parkCur < cur then { l5 with parkNear := false } else l5
        { loop := l6, targets := (heater, target) :: secT ++ parkT, held := false, unlock := r.2.1, acqFail := l4.2,
          limit := r.2.2, near := decide near && !l.parkNear }

/-! ### Headroom (R238) -/

/-- Low and high headroom of a ring loop, in 0.1 K rounded down; with no tuning efficiency the figure is open. -/
def State.headroom (s : State) (h q f j : Nat) (l : Loop) : Int :=
  let e := heaterNo f j (s.drivenElem q f j)
  let d := s.ditherOf h q
  let eta := s.cal 1 e
  let fig (p : Int) : Int := if eta ≤ 0 then Config.roundDiv (10 * p) eta else 10 * p / eta
  if l.st = 5 then 0 else min (fig (l.base - d)) (fig (s.cal 3 e - d - l.base))

/-- HEARTH_HEADROOMf of a Hearth: the least figure over the ferry's held rings, with its heater. -/
def State.showHeadroom (s : State) (h f : Nat) : State :=
  let u := s.hearth h
  let least := (List.range 64).foldl (fun (acc : Option (Int × Nat)) n =>
    let q := 1 + n % 2
    let j := n / 2
    let l := u.loop (4 * (32 * f + j) + q)
    if l.st ≤ 1 then acc
    else
      let v := s.headroom h q f j l
      match acc with
      | none => some (v, heaterNo f j (s.drivenElem q f j))
      | some (m, k) => if v < m then some (v, heaterNo f j (s.drivenElem q f j)) else some (m, k)) none
  match least with
  | none => s
  | some (v, k) => (s.wr (Reg.HEARTH_HEADROOM_HEATER h f) k).wr (Reg.HEARTH_HEADROOM_KELVIN h f)
      (clampI 0 65535 v).toNat

/-- The headroom check of a ring loop after its update: HEADROOM_LOW once an episode, on the owner's page (R238). -/
def State.checkHeadroom (s : State) (h i : Nat) : State :=
  let q := i % 4
  let f := i / 128
  let j := i / 4 % 32
  let u := s.hearth h
  let l := u.loop i
  if (q = 1 ∨ q = 2) ∧ 2 ≤ l.st then
    let low := s.headroom h q f j l < (s.rd (Reg.HEARTH_HEADROOM_WARN_KELVIN 0) : Nat)
    let s1 := (s.setHearth h (u.setLoop i { l with headLow := low })).showHeadroom h f
    if low ∧ l.headLow = false ∧ s.owner = some h then s1.raise (Err.HEARTH_HEADROOM_LOW h) else s1
  else s

/-! ### The update command (R222, R224, R243) -/

/-- One Hearth's update of one loop: its counters, its commanded powers and, on the owner's page, the loop's errors. -/
def State.updateLoop (s : State) (h i : Nat) (phase : Int) : State :=
  let was := (s.hearth h).loop i
  if was.st = 0 then s
  else
    let r := s.loopStep h i phase
    let own := s.owner == some h
    let s1 := (s.setHearth h ((s.hearth h).setLoop i r.loop)).setTargets h r.targets
    let s2 := if r.loop.st = 1 then s1 else s1.bump (Ctr.HEARTH_UPDATES h) 1
    let s3 := if r.held then s2.bump (Ctr.HEARTH_HELD_UPDATES h) 1 else s2
    let s4 := if r.unlock then s3.bump (Ctr.HEARTH_UNLOCKS h) 1 else s3
    let s5 := if r.unlock && own then s4.raise (Err.HEARTH_LOOP_UNLOCK h) else s4
    let s6 := if r.acqFail then s5.bump (Ctr.HEARTH_ACQUIRE_FAILS h) 1 else s5
    let s7 := if r.acqFail && own then s6.raise (Err.HEARTH_ACQUIRE_FAIL h) else s6
    let s8 := if r.limit && own then s7.raise (Err.HEARTH_HEADROOM_OUT h) else s7
    let s9 := if r.near && own then s8.raise (Err.HEARTH_PARK_NEAR h) else s8
    s9.checkHeadroom h i

/-- HEARTH_LOOP_UPDATE (R222 to R232): in the loop's bell every Hearth that computes makes the update, and the writer's
changed codes reach the DACs. `phase` is the receiver's phase error in 1/65,536 radian; `dacFault` says that a DAC's
read-back differs (R219). -/
def execHearthLoopUpdate (loop : Nat) (phase : Int) (dacFault : Bool) (s : State) : Out :=
  let q := loop % 4
  let j := loop / 4 % 32
  if 1024 ≤ loop ∨ s.bellNum % 8 ≠ 4 * (j % 2) + q ∨ s.owner = none then ok s
  else
    let s1 := [0, 1].foldl (fun acc h => if acc.computes h then acc.updateLoop h loop phase else acc) s
    let s2 := { s1 with draws := s1.draws + 1 }
    let f := loop / 128
    let heaters := ((List.range 8).flatMap (fun e => readers (heaterNo f j e))).eraseDups
    let s3 := match s2.writer with
      | none => s2
      | some w => if s2.is (Reg.HEARTH_CTRL_RUN 0) then s2.writeCodes w heaters else s2
    ok (if dacFault then s3.raise Err.HTR_HTR_DAC_FAULT else s3)

/-- PARK_MOVE (R227): during an episode of PARK_NEAR the parked unit's P_ref moves by half a line spacing. -/
def execParkMove (loop : Nat) (s : State) : Out :=
  let q := loop % 4
  let f := loop / 128
  let j := loop / 4 % 32
  match s.owner, s.parkedElem q f j with
  | some o, some e =>
    if loop < 1024 ∧ ((s.hearth o).loop loop).parkNear then
      let h := heaterNo f j e
      ok { s with twins := { s.twins with
        parkAdj := mset s.twins.parkAdj h (mget s.twins.parkAdj h 0 + Config.parkDelta (s.cal 1 h)) 0 } }
    else ok s
  | _, _ => ok s

/-! ### Wear (R240) -/

/-- Ten times the wear account of a line of a source: hours, and WEAR_BIAS per mA of bias rise. -/
def State.wearOf (s : State) (src : Source) (line : Nat) : Int :=
  let k := 32 * src.num + line
  10 * (mget s.alm.data.wear k 0 : Nat) + (s.rd (Reg.HEARTH_WEAR_BIAS_HOURS_PER_MA 0) : Nat) * (s.age k).rise

/-- The line whose account exceeds the other source's by the most, beyond HEARTH_WEAR_HYST. -/
def State.wearChoice (s : State) : Option (Source × Nat) :=
  let c := sources.flatMap (fun src => (List.range 32).filterMap (fun l =>
    let ex := s.wearOf src l - s.wearOf src.other l
    if s.drawnBy src l && 10 * (s.rd (Reg.HEARTH_WEAR_HYST_HOURS 0) : Nat) < ex then some (ex, src, l) else none))
  (c.foldl (fun (acc : Option (Int × Source × Nat)) x =>
    match acc with
    | none => some x
    | some b => if b.1 < x.1 then some x else acc) none).map (·.2)

/-- WEAR_PERIOD (R240): at most one move toward the less worn source. -/
def execWearPeriod (s : State) : Out :=
  match s.owner, s.wearChoice with
  | some o, some (src, l) =>
    if s.is (Reg.HEARTH_CTRL_WEAR_EN 0) && s.lightMode == 0 && s.lantern.move.isNone
        && !s.lineFailed src.other l && decide (s.drawnCount src.other < 17) then
      let s1 := (((s.beginMove l src.other).wr (Reg.HEARTH_WEAR_LAST_VALID o) 1).wr (Reg.HEARTH_WEAR_LAST_TO o)
        (srcSel src.other)).wr (Reg.HEARTH_WEAR_LAST_LINE o) l
      ok (s1.bump (Ctr.HEARTH_WEAR_MOVES o) 1)
    else ok s
  | _, _ => ok s

/-! ### Starts, sparing and the held codes (R229, R241, R242) -/

/-- The targets that held codes give back: eight Jacobi iterations from P_c / C_ii over the ferry's 256 heaters, each
quotient on the grid of the loop engine (R242). -/
def State.jacobi (s : State) (h f : Nat) : Map Int :=
  let m := s.active.xt h
  let hs := (List.range 256).map (256 * f + ·)
  let pc (i : Nat) : Int := Config.roundDiv (s.cal 3 i * (s.code i * s.code i : Nat)) (65535 * 65535)
  let start : Map Int := hs.map (fun i => (i, Config.roundDiv (16384 * pc i) (xtUsed m i 4)))
  (List.range 8).foldl (fun (t : Map Int) _ =>
    hs.map (fun i =>
      let ti := mget t i 0
      (i, ti + Config.roundDiv (16384 * pc i - xtSum m i (fun n => mget t n 0)) (xtUsed m i 4)))) start

/-- The loops of a ferry. -/
def ferryLoops (f : Nat) : List Nat := (List.range 128).map (128 * f + ·)

/-- Start a ferry's loops in ACQUIRE from given element powers. -/
def State.startLoops (s : State) (h f : Nat) (power : Nat → Nat → Int) (fresh : Bool) : State :=
  (ferryLoops f).foldl (fun acc i =>
    let q := i % 4
    let j := i / 4 % 32
    let u := acc.hearth h
    let l := { Loop.blank.acquire with base := power j (s.drivenElem q f j),
                                       second := (secondElem q).elim 0 (power j), fresh := fresh }
    acc.setHearth h (u.setLoop i l)) s

/-- Replace a ferry's targets in a Hearth and recompute its commands. -/
def State.resetTargets (s : State) (h f : Nat) (t : Nat → Int) : State :=
  let u := s.hearth h
  let hs := (List.range 256).map (256 * f + ·)
  let s1 := s.setHearth h { u with targets := hs.foldl (fun m i => mset m i (t i) 0) u.targets }
  hs.foldl (fun acc i => acc.commandHeater h i) s1

/-- Start a ferry's loops from the held codes in every Hearth that is in service (R148, R242). -/
def State.loopsWarm (s : State) (f : Nat) : State :=
  [0, 1].foldl (fun acc h =>
    if acc.role h = 0 ∨ acc.role h = 4 then acc
    else
      let t := acc.jacobi h f
      (acc.resetTargets h f (fun i => mget t i 0)).startLoops h f (fun j e => mget t (heaterNo f j e) 0) true) s

/-- Start a ferry's loops after its relock, every element at its reference power (R229, R241). -/
def State.loopsCold (s : State) (f : Nat) : State :=
  [0, 1].foldl (fun acc h =>
    if acc.role h = 0 ∨ acc.role h = 4 then acc
    else (acc.resetTargets h f (fun i => s.feedForward f (i / 8 % 32) (i % 8))).startLoops h f
      (fun j e => s.feedForward f j e) false) s

/-- A ferry's loops go OFF, as while it is being swept (R228). -/
def State.loopsOff (s : State) (f : Nat) : State :=
  [0, 1].foldl (fun acc h => acc.setHearth h { acc.hearth h with
    loops := (acc.hearth h).loops.filter (fun e => e.1 / 128 != f) }) s

/-- Set the 256 heater codes of a ferry, as its relock leaves them (R147). -/
def State.setCodes (s : State) (f : Nat) (codes : List Nat) : State :=
  { s with codes := (List.range 256).foldl (fun m i => mset m (256 * f + i) (codes.getD i 0 % 65536) 0) s.codes }

/-- The Hearth's part of a sparing (R241): the new unit at its operating power, the old one parked, the dither samples
cleared and the loop in ACQUIRE. The lane's spare bit has already changed. -/
def State.spareLoop (s : State) (f j q : Nat) : State :=
  let i := 4 * (32 * f + j) + q
  let e := s.drivenElem q f j
  [0, 1].foldl (fun acc h =>
    let u := acc.hearth h
    let l := u.loop i
    if l.st = 0 then acc
    else
      let park := match s.parkedElem q f j with
        | none => []
        | some p => [(heaterNo f j p, s.feedForward f j p)]
      let st := if l.st = 1 then 1 else 2
      (acc.setHearth h (u.setLoop i { l.acquire with st := st, base := s.feedForward f j e })).setTargets h
        ((heaterNo f j e, s.feedForward f j e) :: park)) s

end Sys2Proof.Machine
end

