-- ==== Sys2Proof/Machine/HearthTwins.lean ====
section
/-! DEFINITION. Sys2Proof/Machine/HearthTwins.lean: the redundant pair: roles, ownership, the mirror, heartbeats,
comparison, self-test, arbitration, switch-over, repair and return (spec/09). -/

namespace Sys2Proof.Machine

/-! ### Ownership and roles (R245 to R247) -/

/-- Write a field of HEARTH_OWNER, which both pages show (R262). -/
def State.setOwnerFld (s : State) (fld : Nat → Fld) (v : Nat) : State := (s.wr (fld 0) v).wr (fld 1) v

/-- Set a Hearth's role. -/
def State.setRole (s : State) (h r : Nat) : State := s.wr (Reg.HEARTH_ROLE_ROLE h) r

/-- Whether a Hearth is self-test failing (R251). -/
def State.selfFailing (s : State) (h : Nat) : Bool :=
  let u := s.hearth h
  u.marchFails != 0 || u.marchPrev != 0 || 2 ≤ u.bistFails

/-- Decide a change of ownership for the next boundary; an automatic fail-over drops a planned one (R256). -/
def State.plan (s : State) (dst cause : Nat) (auto : Bool) : State :=
  let free := match s.twins.grant with
    | none => true
    | some g => auto && !g.auto
  if free && s.twins.dual.isNone then
    { s with twins := { s.twins with grant := some { dst := dst, cause := cause, auto := auto, since := s.ticks } } }
  else s

/-- A Hearth leaves service (R245): FAILED, to be repaired. -/
def State.failHearth (s : State) (h : Nat) : State :=
  let s1 := (s.setRole h 4).wr (Reg.HEARTH_ROLE_CLEAN h) 0
  s1.setHearth h { s1.hearth h with repairFails := 0, repairAt := s.ticks, copied := false }

/-- Replace a faulty or failing owner by a planned handover if the other Hearth is STANDBY; a standby becomes FAILED
(R251, R254). -/
def State.removeHearth (s : State) (h cause : Nat) : State :=
  if s.owner = some h then
    if s.role (1 - h) = 2 then s.plan (1 - h) cause false else s
  else if s.role h = 2 ∨ s.role h = 3 then s.failHearth h
  else s

/-- Ownership at start (R246). -/
def State.hearthStartBist (s : State) (a b : Bool) : State :=
  let clear (st : State) (h : Nat) : State :=
    st.setHearth h { HearthUnit.blank with repairAt := s.ticks }
  let s1 := clear (clear s 0) 1
  let o := if a then 0 else 1
  let s2 := (s1.setRole o 1).setRole (1 - o) (if a && b then 2 else 4)
  let s3 := (s2.setOwnerFld Reg.HEARTH_OWNER_NONE 0).setOwnerFld Reg.HEARTH_OWNER_OWNER o
  let s4 := (s3.setOwnerFld Reg.HEARTH_OWNER_CAUSE 0).setOwnerFld Reg.HEARTH_OWNER_DUAL 0
  { s4 with twins := { s4.twins with grant := none, dual := none, arb := none, failNext := 0, mirrorAt := s.ticks,
                                     bothFailed := false } }

/-- LIMP (R246): both roles OFF, and the latch grants no one. -/
def State.hearthsOff (s : State) : State :=
  let s1 := ((s.setRole 0 0).setRole 1 0).setOwnerFld Reg.HEARTH_OWNER_NONE 1
  let s2 := (s1.setHearth 0 { s1.hearth 0 with loops := [] })
  let s3 := s2.setHearth 1 { s2.hearth 1 with loops := [] }
  { s3 with twins := { s3.twins with grant := none, dual := none, arb := none, failNext := 0 } }

/-- The standby's view of the pair: the Hearth that is not the owner. -/
def State.nonOwner (s : State) : Option Nat := s.owner.map (1 - ·)

/-- The grant boundary (R247): write enable to the new owner, DUAL, the cause, one more switch. -/
def State.grantTo (s : State) (g : Grant) : State :=
  let s1 := ((s.setOwnerFld Reg.HEARTH_OWNER_OWNER g.dst).setOwnerFld Reg.HEARTH_OWNER_DUAL 1).setOwnerFld
    Reg.HEARTH_OWNER_CAUSE g.cause
  let s2 := (s1.setOwnerFld Reg.HEARTH_OWNER_SWITCHES (s.rd (Reg.HEARTH_OWNER_SWITCHES 0) + 1)).setOwnerFld
    Reg.HEARTH_OWNER_GRANT_BELL s.bellNum
  let s3 := s2.setRole g.dst 1
  let s4 := if g.cause = 5 ∨ g.cause = 6 then s3 else s3.bump (Ctr.HEARTH_FAILOVERS g.dst) 1
  let s5 := { s4 with twins := { s4.twins with grant := none, dual := some { g with since := s.ticks } } }
  s5.raise (Err.HEARTH_OWNER_CHANGE (1 - g.dst))

/-- The old owner's role after the cut (R254 to R256, R260, R261). -/
def State.deposedRole (s : State) (g : Grant) : Nat :=
  let old := 1 - g.dst
  if g.cause = 5 ∨ g.cause = 6 then 2
  else if g.auto ∧ (s.hearth old).stopped = false ∧ s.selfFailing old = false then 3
  else 4

/-- The cut boundary (R247): the old owner loses write enable, and the new owner writes every code. -/
def State.cutTo (s : State) (g : Grant) : State :=
  let old := 1 - g.dst
  let r := s.deposedRole g
  let s1 := (s.setOwnerFld Reg.HEARTH_OWNER_DUAL 0).setRole old r
  let s2 := { s1 with twins := { s1.twins with dual := none } }
  let s3 := if r = 4 then s2.failHearth old else s2
  let s4 := s3.setHearth old { s3.hearth old with
    wasOwner := g.cause != 5 && g.cause != 6,
    noReclaim := (s.hearth old).noReclaim || (g.cause != 1 && g.cause != 5 && g.cause != 6),
    resyncAt := s.ticks, copied := false, sinceStandby := 0 }
  let s5 := if g.cause = 7 then s4.wr (Hdr.SRST_BUSY (0x0A + old)) 0 else s4
  let s6 := s5.setHearth g.dst { s5.hearth g.dst with wasOwner := false }
  let s7 := allHeaters.foldl (fun acc i => acc.commandHeater g.dst i) s6
  s7.writeCodes g.dst allHeaters

/-! ### The boundary's part (R247, R250, R253) -/

/-- Roles and the clean-bell counts at a boundary: Hearths found failing become FAILED, a planned handover's cut is
made, and a compared bell in which nothing was amiss counts as clean. -/
def State.hearthBoundary (s : State) : State :=
  let s1 := [0, 1].foldl (fun acc h => if bit s.twins.failNext h then
      (if acc.role h = 1 ∧ acc.owner = some h then (acc.setOwnerFld Reg.HEARTH_OWNER_NONE 1).failHearth h
       else acc.failHearth h) else acc) s
  let s2 := { s1 with twins := { s1.twins with failNext := 0 } }
  let s3 := match s2.twins.dual with
    | some g => if g.auto then s2 else s2.cutTo g
    | none => s2
  let dirty := (s.hearth 0).dirty || (s.hearth 1).dirty
  let s4 := [0, 1].foldl (fun acc h =>
    let u := acc.hearth h
    let clean := u.compared && !dirty
    let acc1 := if acc.role h = 2 ∨ acc.role h = 3 then
        acc.wr (Reg.HEARTH_ROLE_CLEAN h) (if clean then satAt 65535 (acc.rd (Reg.HEARTH_ROLE_CLEAN h) + 1) else 0)
      else acc
    acc1.setHearth h { acc1.hearth h with
      sinceStandby := if acc.role h = 2 ∧ clean then u.sinceStandby + 1 else 0 }) s3
  let s5 := s4.setHearth 0 { s4.hearth 0 with dirty := false, compared := false }
  s5.setHearth 1 { s5.hearth 1 with dirty := false, compared := false }

/-- With no Hearth OWNER, STANDBY or RESYNC, no one is granted and BOTH_HEARTHS_FAILED is raised on both pages
(R262, R253). -/
def State.checkBothFailed (s : State) : State :=
  let alive := [0, 1].any (fun h => !(bit s.twins.failNext h) && (s.role h == 1 || s.role h == 2 || s.role h == 3))
  let off := s.role 0 == 0 && s.role 1 == 0
  if alive then { s with twins := { s.twins with bothFailed := false } }
  else if off || s.twins.bothFailed then s
  else ({ s with twins := { s.twins with bothFailed := true } }.raise (Err.HEARTH_BOTH_HEARTHS_FAILED 0)).raise
    (Err.HEARTH_BOTH_HEARTHS_FAILED 1)

/-! ### The mirror and comparison (R248, R250) -/

/-- The loops updated in a bell (R222). -/
def dueLoops (bell : Nat) : List Nat :=
  (List.range 1024).filter (fun i => bell % 8 == 4 * (i / 4 % 32 % 2) + i % 4)

/-- The largest difference between two Hearths' codes over the heaters that a loop's update changes. -/
def State.codeDiff (s : State) (i : Nat) : Nat :=
  let f := i / 128
  let j := i / 4 % 32
  let hs := ((List.range 8).filter (fun e =>
      e == s.drivenElem (i % 4) f j || secondElem (i % 4) == some e || s.parkedElem (i % 4) f j == some e)).flatMap
    (fun e => readers (heaterNo f j e))
  hs.foldl (fun m n =>
    let x := mget (s.hearth 0).codes n 0
    let y := mget (s.hearth 1).codes n 0
    max m (max x y - min x y)) 0

/-- Compare one loop's update at Hearth `h`: three consecutive mismatches raise CMP_MISMATCH and call the Reeve. -/
def State.compareLoop (s : State) (h i diff : Nat) : State :=
  let u := s.hearth h
  if diff ≤ s.rd (Reg.HEARTH_CMP_TOL_CODES 0) then s.setHearth h { u with mism := mset u.mism i 0 0 }
  else
    let n := mget u.mism i 0 + 1
    let s1 := s.setHearth h { u with mism := mset u.mism i (if n = 3 then 0 else n) 0, dirty := true,
                                     mismatches := u.mismatches + 1 }
    let s2 := ((s1.bump (Ctr.HEARTH_CMP_MISMATCHES h) 1).wr (Reg.HEARTH_CMP_LAST_LOOP h) i).wr
      (Reg.HEARTH_CMP_LAST_DIFF h) (satAt 65535 diff)
    if n = 3 then
      let s3 := s2.raise (Err.HEARTH_CMP_MISMATCH h)
      { s3 with twins := { s3.twins with arb := some (s3.twins.arb.getD .compare) } }
    else s2

/-- Whether the owner's heartbeat of the bell is present on some path. -/
def State.heartPresent (s : State) (h : Nat) : Bool :=
  let u := s.hearth h
  (u.toggle != u.seenLine && !u.lineFaulty) || (u.wordBell == s.bellNum % 2 ^ 24 && u.wordSeq == u.seenSeq + 1 && !u.wordFaulty)

/-- MIRROR_FRAME (R248, R250): the standby compares the bell's updates and takes the mirrored state; `upsets` are the
code differences, by loop, that a fault of one Hearth has caused. -/
def execMirrorFrame (present crcGood : Bool) (upsets : List (Nat × Nat)) (s : State) : Out :=
  match s.owner with
  | none => ok s
  | some o =>
    let h := 1 - o
    if s.role h ≠ 2 ∧ s.role h ≠ 3 then ok s
    else if present && crcGood && !(s.hearth o).stopped then
      let s1 := (dueLoops s.bellNum).foldl (fun acc i =>
        let up := (upsets.find? (fun e => e.1 == i)).elim 0 (·.2)
        acc.compareLoop h i (max up (s.codeDiff i))) s
      let ow := s1.hearth o
      let u := s1.hearth h
      let due := dueLoops s.bellNum
      let loops := due.foldl (fun m i => mset m i (ow.loop i) Loop.blank) u.loops
      let s2 := s1.setHearth h { u with loops := loops, targets := ow.targets, codes := ow.codes, compared := true }
      ok { s2 with twins := { s2.twins with mirror := loops, mirrorTargets := ow.targets, mirrorAt := s.ticks } }
    else
      let u := s.hearth h
      let s1 := s.setHearth h { u with dirty := true }
      if s.heartPresent o then
        let s2 := s1.setHearth h { s1.hearth h with mirrorMisses := u.mirrorMisses + 1 }
        ok ((s2.bump (Ctr.HEARTH_MIRROR_MISSES h) 1).raise (Err.HEARTH_MIRROR_MISS h))
      else ok (s1.setHearth h { s1.hearth h with loops := s.twins.mirror, targets := s.twins.mirrorTargets })

/-! ### Heartbeats (R249, R253) -/

/-- HEARTBEAT_SEND (R249): at cycle 896 each running Hearth inverts its toggle line and writes its word; the operands
say which paths carry. -/
def execHeartbeatSend (lineA wordA lineB wordB : Bool) (s : State) : Out :=
  let send (st : State) (h : Nat) (line word : Bool) : State :=
    let u := st.hearth h
    if u.stopped ∨ st.role h = 0 ∨ st.role h = 4 then st
    else
      let u1 := if line then { u with toggle := !u.toggle } else u
      st.setHearth h (if word then { u1 with wordBell := s.bellNum % 2 ^ 24, wordRole := st.role h, wordSeq := u.wordSeq + 1 }
        else u1)
  ok (send (send s 0 lineA wordA) 1 lineB wordB)

/-- One Hearth's check of the other's paths: HEARTH_HB on its page. -/
def State.checkHeart (s : State) (me : Nat) : State :=
  let other := 1 - me
  let u := s.hearth other
  let lineMiss := u.lineFaulty || u.toggle == u.seenLine
  let wordMiss := u.wordFaulty || u.wordBell != s.bellNum % 2 ^ 24 || u.wordSeq != u.seenSeq + 1
  let nl := if lineMiss then satAt 255 (s.rd (Reg.HEARTH_HB_LINE_MISS me) + 1) else 0
  let nw := if wordMiss then satAt 255 (s.rd (Reg.HEARTH_HB_WORD_MISS me) + 1) else 0
  let s1 := (s.wr (Reg.HEARTH_HB_LINE_MISS me) nl).wr (Reg.HEARTH_HB_WORD_MISS me) nw
  let n := b2n lineMiss + b2n wordMiss
  let s2 := if n = 0 then s1 else s1.bump (Ctr.HEARTH_HB_MISSES me) n
  let s3 := if n = 0 then s2 else s2.setHearth me { s2.hearth me with dirty := true }
  s3.setHearth other { s3.hearth other with seenLine := u.toggle, seenSeq := u.wordSeq }

/-- What the check at Hearth `me` makes of the other Hearth's misses (R253): both paths in 2 bells, or one path in 4
bells while the other is present. -/
def State.judgeHeart (s : State) (me : Nat) : State :=
  let other := 1 - me
  let nl := s.rd (Reg.HEARTH_HB_LINE_MISS me)
  let nw := s.rd (Reg.HEARTH_HB_WORD_MISS me)
  if 2 ≤ nl ∧ 2 ≤ nw then
    if s.owner = some other ∧ s.twins.dual.isNone then
      let s1 := if nl = 2 ∨ nw = 2 then s.raise (Err.HEARTH_HB_LOST other) else s
      if s.role me = 2 ∨ s.role me = 3 then s1.plan me 1 true
      else { s1 with twins := { s1.twins with failNext := setBit s1.twins.failNext other } }
    else if s.role other = 2 then
      let s1 := s.raise (Err.HEARTH_HB_LOST other)
      { s1 with twins := { s1.twins with failNext := setBit s1.twins.failNext other } }
    else s
  else if (nl = 4 ∧ nw = 0) ∨ (nw = 4 ∧ nl = 0) then
    if s.twins.arb.isNone then
      { s with twins := { s.twins with arb := some (.path other (nl == 4)) } }
    else s
  else s

/-- HEARTBEAT_CHECK (R249, R253): at cycle 1,024. A FAILED or absent Hearth is checked by the Reeve through the same
counts. -/
def execHeartbeatCheck (s : State) : Out :=
  let served (h : Nat) : Bool := s.role h == 1 || s.role h == 2 || s.role h == 3
  let s1 := [0, 1].foldl (fun acc me => if served (1 - me) then acc.checkHeart me else acc) s
  let s2 := [0, 1].foldl (fun acc me => if served (1 - me) then acc.judgeHeart me else acc) s1
  ok s2.checkBothFailed

/-! ### Self-test and health (R251, R252) -/

/-- Record a self-test failure of a Hearth. -/
def State.selfTestFail (s : State) (h kind : Nat) : State :=
  let s1 := ((s.wr (Reg.HEARTH_SELFTEST_FAILED h) 1).wr (Reg.HEARTH_SELFTEST_KIND h) kind).wr
    (Reg.HEARTH_SELFTEST_BELL h) s.bellNum
  s1.raise (Err.HEARTH_SELFTEST_FAIL h)

/-- A Hearth that has become self-test failing leaves its role (R251). -/
def State.judgeSelf (s : State) (h : Nat) : State := if s.selfFailing h then s.removeHearth h 4 else s

/-- One Hearth's loop-engine BIST. -/
def State.bistOne (s : State) (h : Nat) (pass : Bool) : State :=
  if s.role h = 0 ∨ s.role h = 4 then s
  else
    let u := s.hearth h
    let s1 := (s.bump (Ctr.HEARTH_BIST_RUNS h) 1).setHearth h { u with bistBad := !pass }
    if pass then s1
    else
      let s2 := (s1.bump (Ctr.HEARTH_BIST_FAILS h) 1).setHearth h
        { u with bistBad := true, bistFails := u.bistFails + 1, dirty := true }
      (s2.selfTestFail h 0).judgeSelf h

/-- HEARTH_BIST (R251): in cycles 1,024–1,279 of every bell with an even number. -/
def execHearthBist (passA passB : Bool) (s : State) : Out :=
  if s.bellNum % 2 = 0 then ok ((s.bistOne 0 passA).bistOne 1 passB) else ok s

/-- HEARTH_MARCH_BLOCK (R251): one 256-byte block of the 64 KiB. -/
def execHearthMarchBlock (h : Nat) (pass : Bool) (s : State) : Out :=
  if 2 ≤ h ∨ s.role h = 0 ∨ s.role h = 4 then ok s
  else
    let u := s.hearth h
    let last := u.marchAt = 255
    let u1 := { u with marchAt := (u.marchAt + 1) % 256, marchDone := u.marchDone || decide last }
    let s1 := s.setHearth h u1
    let s2 := if last then s1.bump (Ctr.HEARTH_MARCH_PASSES h) 1 else s1
    if pass then ok s2
    else
      let s3 := (s2.bump (Ctr.HEARTH_MARCH_FAILS h) 1).setHearth h { u1 with marchFails := u1.marchFails + 1 }
      ok ((s3.selfTestFail h 1).judgeSelf h)

/-- Capture one Hearth's health word and close its epoch. -/
def State.captureHealth (s : State) (h : Nat) : State :=
  let u := s.hearth h
  let s1 := (((s.wr (Reg.HEARTH_HEALTH_ROLE h) (s.role h)).wrB (Reg.HEARTH_HEALTH_MARCH_DONE h) u.marchDone).wr
    (Reg.HEARTH_HEALTH_BIST_FAILS h) (satAt 255 u.bistFails)).wr (Reg.HEARTH_HEALTH_MARCH_FAILS h)
      (satAt 15 u.marchFails)
  let s2 := (s1.wr (Reg.HEARTH_HEALTH_MIRROR_MISSES h) (satAt 255 u.mirrorMisses)).wr
    (Reg.HEARTH_HEALTH_CMP_MISMATCHES h) (satAt 255 u.mismatches)
  s2.setHearth h { u with record := ((u.bistFails, u.marchFails) :: u.record).take 64, marchPrev := u.marchFails,
                          marchFails := 0, bistFails := 0, marchDone := false, mirrorMisses := 0, mismatches := 0 }

/-- HEALTH_CAPTURE (R252): at the last bell of a telemetry epoch. -/
def execHealthCapture (s : State) : Out :=
  if s.bellNum % 1024 = 1023 then ok ((s.captureHealth 0).captureHealth 1) else ok s

/-! ### Arbitration (R254) -/

/-- REEVE_ARBITRATION (R254): for a path, the self-test record decides; for a mismatch, BIST results first, then the
Reeve's own computation, which the operands compare with each Hearth's codes. -/
def execReeveArbitration (agreesA agreesB : Bool) (s : State) : Out :=
  let s0 := { s with twins := { s.twins with arb := none } }
  match s.twins.arb with
  | none => ok s
  | some (.path h line) =>
    if s.selfFailing h then ok (s0.removeHearth h 2)
    else
      let u := s0.hearth h
      let u1 := if line then { u with lineFaulty := true } else { u with wordFaulty := true }
      ok ((s0.setHearth h u1).raise (Err.HEARTH_HB_PATH_FAULT h))
  | some .compare =>
    let bad (h : Nat) : Bool := (s.hearth h).bistBad || s.selfFailing h
    let some' := bad 0 || bad 1
    let fa := if some' then bad 0 else !agreesA
    let fb := if some' then bad 1 else !agreesB
    if fa && !fb then ok (s0.removeHearth 0 3)
    else if fb && !fa then ok (s0.removeHearth 1 3)
    else if fa && fb then
      ok ((s0.raise (Err.HEARTH_CMP_UNRESOLVED 0)).raise (Err.HEARTH_CMP_UNRESOLVED 1))
    else ok s0

/-! ### Switch-over (R255 to R257, R260, R261) -/

/-- FAILOVER_GRANT (R247, R255): at the boundary after the claim. -/
def execFailoverGrant (s : State) : Out :=
  match s.twins.grant with
  | some g => if g.auto ∧ g.since < s.ticks then ok (s.grantTo g) else ok s
  | none => ok s

/-- Bells whose due loops missed their update: those after the last complete mirror, at most eight. -/
def State.gapLoops (s : State) : List Nat :=
  let n := satAt 8 (s.ticks - s.twins.mirrorAt - 1)
  (List.range n).flatMap (fun k => dueLoops (s.bellNum + bellMod - 1 - k))

/-- FAILOVER_CUT (R247, R255): at the boundary after the grant bell, the cut, the read-back of the codes, and the full
refresh. -/
def execFailoverCut (s : State) : Out :=
  match s.twins.dual with
  | none => ok s
  | some g =>
    if !g.auto ∨ s.ticks ≤ g.since then ok s
    else
      let h := g.dst
      let gap := s.gapLoops
      let ferries := (gap.map (· / 128)).eraseDups
      let back := ferries.map (fun f => (f, s.jacobi h f))
      let s1 := gap.foldl (fun acc i =>
        let f := i / 128
        let j := i / 4 % 32
        let q := i % 4
        let u := acc.hearth h
        let l := u.loop i
        let held (e : Nat) : Int := mget (mget back f []) (heaterNo f j e) 0
        let moved (e : Nat) : Bool := s.code (heaterNo f j e) != mget u.codes (heaterNo f j e) 0
        let e := s.drivenElem q f j
        let l1 := { l with yPlus := none, yMinus := none, base := if moved e then held e else l.base,
                           second := match secondElem q with
                             | none => l.second
                             | some e' => if moved e' then held e' else l.second }
        let t0 := if moved e then mset u.targets (heaterNo f j e) (held e) 0 else u.targets
        let t1 := match secondElem q with
          | none => t0
          | some e' => if moved e' then mset t0 (heaterNo f j e') (held e') 0 else t0
        acc.setHearth h { u.setLoop i l1 with targets := t1 }) s
      ok (s1.cutTo g)

/-- PLANNED_HANDOVER (R256, R257): at a boundary after the decision; a RECLAIM or a software request waits while a
cold-relock sweep is in progress. The cut comes at the next boundary. -/
def execPlannedHandover (s : State) : Out :=
  match s.twins.grant with
  | some g =>
    if g.auto ∨ s.ticks ≤ g.since then ok s
    else if s.role g.dst ≠ 2 then ok { s with twins := { s.twins with grant := none } }
    else if (g.cause = 5 ∨ g.cause = 6) ∧ s.is Reg.BOOT_RELOCK_ACTIVE then ok s
    else ok (s.grantTo g)
  | none => ok s

/-- RECLAIM (R260): 1,024 consecutive clean compared bells after a return to STANDBY. -/
def execReclaim (s : State) : Out :=
  match s.nonOwner with
  | none => ok s
  | some h =>
    let u := s.hearth h
    if s.is (Reg.HEARTH_RETURN_MODE 0) && s.role h == 2 && u.wasOwner && !u.noReclaim
        && decide (1024 ≤ u.sinceStandby) then
      ok (s.plan h 5 false)
    else ok s

/-- A write of HEARTH_SWITCH_CTRL (R261). -/
def State.switchRequest (s : State) (v : Nat) : State :=
  if bits v 8 8 = 0xA5 ∧ bit v 0 then
    match s.nonOwner with
    | some h =>
      if s.role h = 2 then (s.setOwnerFld Reg.HEARTH_OWNER_REQ_REFUSED 0).plan h 6 false
      else s.setOwnerFld Reg.HEARTH_OWNER_REQ_REFUSED 1
    | none => s.setOwnerFld Reg.HEARTH_OWNER_REQ_REFUSED 1
  else s

/-- HEARTH_SWITCH_REQUEST (R261). -/
def execHearthSwitchRequest (val : Word) (s : State) : Out := ok (s.switchRequest val.toNat)

/-- A soft reset of a Hearth's page (R101, R261): the standby resets and is repaired; an owner hands over first, where
the other Hearth is STANDBY. -/
def State.softResetHearth (s : State) (h : Nat) : State :=
  if s.owner = some h then
    if s.role (1 - h) = 2 then (s.plan (1 - h) 7 false).wr (Hdr.SRST_BUSY (0x0A + h)) 1 else s
  else if s.role h = 0 then s
  else
    let s1 := s.failHearth h
    (s1.setHearth h { s1.hearth h with loops := [], targets := [], mism := [] }).wr (Hdr.SRST_BUSY (0x0A + h)) 1

/-- HEARTH_SOFT_RESET (R261). -/
def execHearthSoftReset (h : Nat) (s : State) : Out := if h < 2 then ok (s.softResetHearth h) else ok s

/-- HEARTH_CONTROLLER_STOP: a Hearth's controller stops; it neither updates nor sends from here on (R253). -/
def execHearthControllerStop (h : Nat) (s : State) : Out :=
  if h < 2 then ok (s.setHearth h { s.hearth h with stopped := true }) else ok s

/-! ### Repair and return (R258, R259) -/

/-- HEARTH_REPAIR (R258): reset, reload and BIST of a FAILED Hearth; success enters RESYNC, or makes it OWNER at once
where no other Hearth is left, its loops starting from the held codes. -/
def execHearthRepair (h : Nat) (good : Bool) (s : State) : Out :=
  if 2 ≤ h ∨ s.role h ≠ 4 ∨ s.ticks < (s.hearth h).repairAt then ok s
  else
    let u := s.hearth h
    if !good then
      let n := u.repairFails + 1
      ok (s.setHearth h { u with repairFails := n, repairAt := s.ticks + satAt 1048576 (2 ^ satAt 20 (n - 1)) })
    else
      let u1 := { HearthUnit.blank with wasOwner := u.wasOwner, noReclaim := u.noReclaim, lineFaulty := u.lineFaulty,
                                        wordFaulty := u.wordFaulty, record := u.record, resyncAt := s.ticks }
      let s1 := (s.setHearth h u1).wr (Hdr.SRST_BUSY (0x0A + h)) 0
      if s.is (Reg.HEARTH_OWNER_NONE 0) ∧ s.rd Reg.DEVICE_STATE_STATE ≠ 3 then
        let s2 := ((s1.setRole h 1).setOwnerFld Reg.HEARTH_OWNER_NONE 0).setOwnerFld Reg.HEARTH_OWNER_OWNER h
        let s3 := (s2.setOwnerFld Reg.HEARTH_OWNER_SWITCHES (s.rd (Reg.HEARTH_OWNER_SWITCHES 0) + 1)).setOwnerFld
          Reg.HEARTH_OWNER_GRANT_BELL s.bellNum
        let s4 := { s3 with twins := { s3.twins with bothFailed := false, mirrorAt := s.ticks } }
        ok ((List.range 8).foldl (fun acc f => acc.loopsWarm f) (s4.raise (Err.HEARTH_OWNER_CHANGE h)))
      else ok (s1.setRole h 3)

/-- RESYNC_COPY (R259): the full copy of loops, parameters, accounts and both matrix sets, compared by CRC; a
difference restarts it. -/
def execResyncCopy (h : Nat) (crcEqual : Bool) (s : State) : Out :=
  match s.owner with
  | none => ok s
  | some o =>
    if 2 ≤ h ∨ h = o ∨ s.role h ≠ 3 then ok s
    else
      let ow := s.hearth o
      let u := s.hearth h
      let s1 := s.setHearth h { u with loops := ow.loops, targets := ow.targets, codes := ow.codes, copied := crcEqual }
      let x := s.active.xt o
      let y := s.shadow.xt o
      let s2 := { s1 with active := { s1.active with xtA := x, xtB := x }, shadow := { s1.shadow with xtA := y, xtB := y } }
      let s3 := { s2 with twins := { s2.twins with mirror := ow.loops, mirrorTargets := ow.targets, mirrorAt := s.ticks } }
      ok (s3.wr (Reg.HEARTH_ROLE_CLEAN h) 0)

/-- RESYNC_COMPLETE (R259): 8 consecutive clean compared bells after the copy. -/
def execResyncComplete (h : Nat) (s : State) : Out :=
  if h < 2 ∧ s.role h = 3 ∧ (s.hearth h).copied = true ∧ 8 ≤ s.rd (Reg.HEARTH_ROLE_CLEAN h) then
    ok ((s.setRole h 2).setHearth h { s.hearth h with sinceStandby := 0 })
  else ok s

/-- RESYNC_TIMEOUT (R259): 1,048,576 bells in RESYNC. -/
def execResyncTimeout (h : Nat) (s : State) : Out :=
  if h < 2 ∧ s.role h = 3 ∧ (s.hearth h).resyncAt + 1048576 ≤ s.ticks then
    ok ((s.raise (Err.HEARTH_SELFTEST_FAIL h)).failHearth h)
  else ok s

end Sys2Proof.Machine
end

