-- ==== Sys2Proof/Machine/Uahus.lean ====
section
/-! DEFINITION. Sys2Proof/Machine/Uahus.lean: the host link: bundles and their bring-up, flits, acknowledgement and
replay, credits, capability exchange, the window table and the transactions the IZ5 sends (spec/06). -/

namespace Sys2Proof.Machine

/-! ### Bundles (R160 to R164, R184) -/

/-- A bundle's state. -/
def State.bundle (s : State) (n : Nat) : BundleState := mget s.uahus.bundles n BundleState.blank

/-- The state with a bundle replaced. -/
def State.setBundle (s : State) (n : Nat) (b : BundleState) : State :=
  { s with uahus := { s.uahus with bundles := mset s.uahus.bundles n b BundleState.blank } }

/-- A bundle's stage: 0 DETECT, 1 TRAIN, 2 LOCK, 3 EXCHANGE, 4 ACTIVE. -/
def State.bundleStage (s : State) (n : Nat) : Nat := s.rd (Reg.BUNDLE_STATE_STAGE n)

/-- Whether some bundle is ACTIVE: the link is then ACTIVE (R160). -/
def State.linkActive (s : State) : Bool := (List.range 6).any (fun n => s.bundleStage n == 4)

/-- Bring UAHUS_STATUS and the outage's start up to date with the bundles' stages (R160, R185). -/
def State.showLink (s : State) : State :=
  let m := (List.range 6).foldl (fun m n => if s.bundleStage n = 4 then setBit m n else m) 0
  let link := if m ≠ 0 then 2 else if (List.range 6).any (fun n => s.bundleStage n != 0) then 1 else 0
  let was := s.rd Reg.UAHUS_STATUS_LINK
  let s1 := (s.wr Reg.UAHUS_STATUS_BUNDLES_ACTIVE m).wr Reg.UAHUS_STATUS_LINK link
  if link = 2 then { s1 with uahus := { s1.uahus with downAt := none, downRaised := false } }
  else if was = 2 then { s1 with uahus := { s1.uahus with downAt := some s.ticks } }
  else s1

/-- A bundle enters a stage. -/
def State.setStage (s : State) (n st : Nat) : State :=
  let s1 := s.wr (Reg.BUNDLE_STATE_STAGE n) st
  (s1.setBundle n { s1.bundle n with since := s.ticks }).showLink

/-- A bundle fails its stage or leaves use: back to DETECT after a back-off that doubles from 1 bell (R160). -/
def State.bundleBack (s : State) (n reason : Nat) : State :=
  let b := s.bundle n
  let bells := satAt 1048576 (2 ^ satAt 20 b.fails)
  let s1 := ((s.wr (Reg.BUNDLE_STATE_LAST_REASON n) reason).wr (Reg.BUNDLE_BACKOFF_BELLS n) bells).setBundle n
    { b with fails := b.fails + 1, backoffTo := some (s.ticks + bells), crcRun := 0, crcAt := [] }
  s1.setStage n 0

/-- An ACTIVE bundle returns to DETECT (R184). -/
def State.bundleRetrain (s : State) (n reason : Nat) : State :=
  if s.bundleStage n = 4 then (s.bundleBack n reason).bump (Ctr.BUNDLE_RETRAINS n) 1 else s.bundleBack n reason

/-- BUNDLE_DETECT_EXIT (R160): 16 lanes terminated and the host's pattern on 16 lanes; the equalisation values written
so far take effect (R157, R159). -/
def execBundleDetectExit (n : Nat) (s : State) : Out :=
  if n < 6 ∧ s.bundleStage n = 0 ∧ (s.bundle n).backoffTo = none ∧ s.boot.running = true then
    let eq (p : Nat) : List Fld :=
      [Reg.BUNDLE_TX_EQ_C_POST n p, Reg.BUNDLE_TX_EQ_C_MAIN n p, Reg.BUNDLE_TX_EQ_C_PRE n p, Reg.BUNDLE_RX_EQ_DFE3 n p,
       Reg.BUNDLE_RX_EQ_DFE2 n p, Reg.BUNDLE_RX_EQ_DFE1 n p, Reg.BUNDLE_RX_EQ_CTLE n p]
    let s1 := ((List.range 17).flatMap eq).foldl (fun acc f => acc.wr (f.at 64) (acc.rd f)) s
    ok ((s1.bump (Ctr.BUNDLE_ATTEMPTS n) 1).setStage n 1)
  else ok s

/-- A bundle that fails TRAIN; one that was ACTIVE raises BUNDLE_FAIL. -/
def State.trainFail (s : State) (n reason : Nat) : State :=
  let s1 := s.bundleBack n reason
  if (s.bundle n).wasActive then s1.raise (Err.BUNDLE_BUNDLE_FAIL n) else s1

/-- BUNDLE_TRAIN_DONE (R161 to R163): polarity, order and bundle number from the markers, the PRBS check, and the
spare. -/
def execBundleTrainDone (n : Nat) (lanes : List LaneTrain) (s : State) : Out :=
  if 6 ≤ n ∨ s.bundleStage n ≠ 1 ∨ lanes.length ≠ 17 then ok s
  else
    let idx := List.range 17
    let lane (p : Nat) : LaneTrain := lanes.getD p { marker := none, inverted := false, errors := 0 }
    let readable (p : Nat) : Bool := (lane p).marker.isSome
    let num (p : Nat) : Nat := (lane p).marker.elim 0 (·.2)
    let bad (p : Nat) : Bool := !readable p || (lane p).errors != 0
    let mask (g : Nat → Bool) : Nat := idx.foldl (fun m p => if g p then setBit m p else m) 0
    let same := idx.all (fun p => !readable p || num p == p)
    let rev := idx.all (fun p => !readable p || num p == 16 - p)
    let s1 := idx.foldl (fun acc p => acc.wr (Reg.BUNDLE_LANE_ERR_ERRORS n p) (satAt (2 ^ 32 - 1) (lane p).errors)) s
    let s2 := (s1.wr (Reg.BUNDLE_FAILED_LANES n) (mask bad)).wr (Reg.BUNDLE_LANE_MAP_POL n)
      (mask (fun p => readable p && (lane p).inverted))
    let failed := idx.filter bad
    if !same && !rev then ok (s2.trainFail n 2)
    else if idx.any (fun p => (lane p).marker.elim false (fun m => m.1 != n)) then ok (s2.trainFail n 3)
    else if 2 ≤ failed.length then ok (s2.trainFail n 1)
    else
      let s3 := s2.wrB (Reg.BUNDLE_LANE_MAP_REVERSED n) (!same)
      match failed with
      | p :: _ =>
        let s4 := (s3.wr (Reg.BUNDLE_LANE_MAP_RX_SPARE_USED n) 1).wr (Reg.BUNDLE_LANE_MAP_RX_SPARED n) p
        ok ((s4.raise (Err.BUNDLE_LANE_SPARED n)).setStage n 2)
      | [] =>
        ok (((s3.wr (Reg.BUNDLE_LANE_MAP_RX_SPARE_USED n) 0).wr (Reg.BUNDLE_LANE_MAP_RX_SPARED n) 0).setStage n 2)

/-- BUNDLE_LOCK_DONE (R164): 64 good ALIGN flits; the host's receive map says which transmit lane is spared. -/
def execBundleLockDone (n : Nat) (skewOk : Bool) (farSpared : Option Nat) (s : State) : Out :=
  if 6 ≤ n ∨ s.bundleStage n ≠ 2 then ok s
  else if !skewOk then ok (s.bundleBack n 5)
  else
    let s1 := (s.wrB (Reg.BUNDLE_LANE_MAP_TX_SPARE_USED n) farSpared.isSome).wr (Reg.BUNDLE_LANE_MAP_TX_SPARED n)
      (farSpared.getD 0)
    ok (s1.setStage n 3)

/-- Whether capability words are acceptable (R180). -/
def capsOk (c : List Nat) : Bool :=
  let w (i : Nat) : Nat := c.getD i 0
  c.length == 5 && bits (w 0) 8 8 == 1 && 2 ≤ bits (w 0) 0 8
    && bit (w 1) 0 && bit (w 1) 1 && bit (w 1) 2 && bit (w 1) 4 && !bit (w 1) 6
    && 1 ≤ bits (w 2) 24 8 && 1 ≤ bits (w 2) 16 8
    && 1 ≤ bits (w 3) 16 16 && 1 ≤ bits (w 3) 8 8 && 1 ≤ bits (w 3) 0 8 && 1 ≤ bits (w 4) 0 8

/-- Set the credits held for sending, and show them in UAHUS_CREDITS_TX (R174). -/
def State.setCredits (s : State) (c : Map Nat) : State :=
  ((({ s with uahus := { s.uahus with credits := c } }).wr Reg.UAHUS_CREDITS_TX_MEM (satAt 65535 (mget c 0 0))).wr
    Reg.UAHUS_CREDITS_TX_CTL (satAt 255 (mget c 1 0))).wr Reg.UAHUS_CREDITS_TX_MGMT (satAt 255 (mget c 4 0))

/-- The receive credits the IZ5 advertises (R175). -/
def ownCredits : Map Nat := [(0, 1024), (1, 32), (3, 16), (4, 16)]

/-- Whether the far end advertises the DBG class (R180). -/
def State.farDbg (s : State) : Bool := s.uahus.caps.elim false (fun c => bit (c.getD 1 0) 3)

/-! ### Sending (R168, R171, R174, R176, R178) -/

/-- The bytes of a transaction: its 16-byte header, then its data. -/
def txBytes (t : HostTx) : List Byte :=
  leBytes 1 t.op ++ leBytes 1 t.byte1 ++ leBytes 2 t.tag ++ leBytes 4 t.len ++ leBytes 8 t.addr ++ t.data

/-- Cut bytes into flit payloads of 240. -/
def flitPayloads : Nat → List Byte → List (List Byte)
  | 0, _ => []
  | k + 1, l => if l.length ≤ 240 then [l] else l.take 240 :: flitPayloads k (l.drop 240)

/-- The flits of a transaction; their SEQ is assigned when they are issued. -/
def txFlits (t : HostTx) : List Flit :=
  let ps := flitPayloads ((txBytes t).length / 240 + 1) (txBytes t)
  (List.range ps.length).map (fun i =>
    { seq := 0, cls := t.cls, first := i == 0, last := i + 1 == ps.length, payload := ps.getD i [], slot := t.slot })

/-- Whether a transaction spends credits: completions of MEM and CTL reads do not (R175). -/
def txSpends (t : HostTx) : Bool := t.op != 0x03 && t.op != 0x13

/-- The class that R176 takes first among those with a transaction and credit ready: CTL, MSG, MGMT, DBG, MEM. -/
def State.nextTx (s : State) : Option HostTx :=
  [1, 2, 4, 3, 0].findSome? (fun c =>
    match s.uahus.waiting.find? (fun t => t.cls == c) with
    | none => none
    | some t => if !txSpends t || (c == 2 ) || 0 < mget s.uahus.credits c 0 then some t else none)

/-- Issue one flit: the next SEQ, into the replay buffer. -/
def State.issueFlit (s : State) (fl : Flit) (rest : List Flit) (spend : Bool) : State :=
  let u := s.uahus
  let s1 := { s with uahus := { u with
    held := u.held ++ [{ fl with seq := u.nextSeq }], nextSeq := (u.nextSeq + 1) % 4096, sending := rest,
    ackAt := if u.held.isEmpty then s.ticks else u.ackAt } }
  let s2 := if spend then s1.setCredits (mset u.credits fl.cls (mget u.credits fl.cls 0 - 1) 0) else s1
  (s2.wr Reg.UAHUS_REPLAY_HELD (u.held.length + 1)).bump Ctr.UAHUS_FLITS_TX 1

/-- Send what can be sent (a flit of a completion carries slot 65 and spends no credit): flits of the begun transaction, then the next transaction, while the link is ACTIVE, the
replay buffer has room and the class has credit. -/
def State.pump : Nat → State → State
  | 0, s => s
  | k + 1, s =>
    if !s.linkActive || 1024 ≤ s.uahus.held.length then s
    else match s.uahus.sending with
      | fl :: rest =>
        let free := fl.slot == 65
        if !free && fl.cls != 2 && mget s.uahus.credits fl.cls 0 == 0 then s
        else State.pump k (s.issueFlit fl rest (!free && fl.cls != 2))
      | [] =>
        match s.nextTx with
        | none => s
        | some t =>
          let fs := if txSpends t then txFlits t else (txFlits t).map (fun f => { f with slot := 65 })
          State.pump k { s with uahus := { s.uahus with sending := fs, waiting := s.uahus.waiting.erase t } }

/-- Run the sender until nothing more can go: each step issues a flit or begins a transaction. -/
def State.send (s : State) : State := State.pump 2048 s

/-- Hand a transaction to the link. -/
def State.hostTx (s : State) (t : HostTx) : State :=
  { s with uahus := { s.uahus with waiting := s.uahus.waiting ++ [t] } }.send

/-- Send an MSG interrupt for a vector (R175, R375). -/
def State.sendMsg (s : State) (vector : Nat) : State :=
  s.hostTx { cls := 2, op := 0x21, byte1 := 0, tag := 0, addr := vector, len := 0, data := [], slot := 64 }

/-- Answer a host read with a completion in the class of its request. -/
def State.complete (s : State) (cls op tag status addr : Nat) (data : List Byte) : State :=
  s.hostTx { cls := cls, op := op, byte1 := status, tag := tag, addr := addr, len := data.length, data := data, slot := 64 }

/-! ### The window table (R181 to R183) -/

/-- The active entry of a window. -/
def State.window (s : State) (w : Nat) : Window := mget s.active.win w Window.blank

/-- Whether a MEM access through a window may be issued (R182). -/
def Window.admits (e : Window) (write : Bool) (off len : Nat) : Bool :=
  e.pages != 0 && e.pages ≤ 1048576 && (if write then e.write else e.read) && off + len ≤ e.pages * 4096

/-- Record a window fault (R182). -/
def State.windowFault (s : State) (w : Nat) (o : Occ := {}) : State :=
  ((s.wr Reg.UAHUS_WIN_FAULT_WIN w).bump Ctr.UAHUS_WINDOW_FAULTS 1).raise Err.UAHUS_WINDOW_FAULT o

/-- The far end's request limit in bytes (R179). -/
def State.maxRequest (s : State) (write : Bool) : Nat :=
  let c := s.uahus.caps.elim 0 (·.getD 2 0)
  satAt 4096 (256 * (if write then bits c 16 8 else bits c 24 8))

/-- Cut a host range at 4 KiB boundaries and at the request limit: lengths in order (R179). -/
def cutRange (limit : Nat) : Nat → Nat → Nat → List Nat
  | 0, _, _ => []
  | k + 1, a, n =>
    if n = 0 then [] else
    let m := min (min (4096 - a % 4096) (max 1 limit)) n
    m :: cutRange limit k (a + m) (n - m)

/-- Issue the MEM writes of some bytes at a host address, in order. -/
def State.issueWrites (s : State) (slot attr : Nat) : Nat → List Byte → List Nat → State
  | _, _, [] => s
  | a, d, n :: rest =>
    State.issueWrites
      (s.hostTx { cls := 0, op := 0x01, byte1 := attr, tag := 0, addr := a, len := n, data := d.take n, slot := slot })
      slot attr (a + n) (d.drop n) rest

/-- A write of the IZ5 through a window address: issued whole, or refused whole with a window fault (R181, R182).
Answers whether it was issued. -/
def State.hostWrite (s : State) (slot waddr : Nat) (data : List Byte) (o : Occ := {}) : Bool × State :=
  let w := bits waddr 32 8
  let off := waddr % 2 ^ 32
  let e := s.window w
  if e.admits true off data.length then
    let a := (e.base + off) % 2 ^ 64
    (true, s.issueWrites slot e.attr a data (cutRange (s.maxRequest true) (data.length + 1) a data.length))
  else (false, s.windowFault w o)

/-- A DMA read of the IZ5 through a window address, at most 256 outstanding (R179). Answers whether it was issued. -/
def State.hostRead (s : State) (slot waddr len : Nat) (o : Occ := {}) : Bool × State :=
  let w := bits waddr 32 8
  let off := waddr % 2 ^ 32
  let e := s.window w
  if !e.admits false off len then (false, s.windowFault w o)
  else
    let a := (e.base + off) % 2 ^ 64
    let parts := cutRange (s.maxRequest false) (len + 1) a len
    (true, (parts.foldl (fun (acc : State × Nat) n =>
      let t := acc.1.uahus.nextTag
      let s1 : State := { acc.1 with uahus := { acc.1.uahus with
        nextTag := (t + 1) % 65536,
        reads := acc.1.uahus.reads ++ [{ tag := t, slot := slot, addr := acc.2, len := n }] } }
      let r : HostTx := { cls := 0, op := 0x02, byte1 := e.attr, tag := t, addr := acc.2, len := n, data := [],
                          slot := slot }
      (s1.hostTx r, acc.2 + n)) (s, a)).1)

/-! ### Bring-up's last stages, retraining and the link's limits -/

/-- BUNDLE_EXCHANGE_DONE (R180): the words are accepted and the bundle becomes ACTIVE; the first fixes the link's
capabilities and brings the far end's credits. -/
def execBundleExchangeDone (n : Nat) (caps : List Word) (s : State) : Out :=
  if 6 ≤ n ∨ s.bundleStage n ≠ 3 then ok s
  else
    let c := caps.map (·.toNat)
    let s1 := (List.range 5).foldl (fun acc i => acc.wr (Reg.UAHUS_FAR_CAP_CAP i) (c.getD i 0)) s
    let agrees := match s.uahus.caps with
      | none => true
      | some d => d == c
    if !capsOk c then ok ((s1.bundleBack n 7).raise Err.UAHUS_CAP_MISMATCH)
    else if !agrees then ok (s1.bundleBack n 7)
    else
      let cr : Map Nat := mset (mset (mset (mset (mset [] 0 (bits (c.getD 3 0) 16 16) 0) 1 (bits (c.getD 3 0) 8 8) 0)
        2 (bits (c.getD 3 0) 0 8) 0) 3 (bits (c.getD 4 0) 8 8) 0) 4 (bits (c.getD 4 0) 0 8) 0
      let fresh : State := { s1 with uahus := { s1.uahus with
        caps := some c, room := ownCredits, crSeen := [], freed := [], memAt := s.ticks } }
      let s2 := if s.uahus.caps.isSome then s1 else fresh.setCredits cr
      let s3 := (s2.setBundle n { s2.bundle n with fails := 0, backoffTo := none, wasActive := true, crcAt := [],
                                                   crcRun := 0 }).wr (Reg.BUNDLE_BACKOFF_BELLS n) 1
      ok (s3.setStage n 4).send

/-- The time-out and the reason of a stage (R160). -/
def stageLimit (st : Nat) : Option (Nat × Nat) :=
  if st = 1 then some (16384, 1) else if st = 2 then some (64, 4) else if st = 3 then some (1024, 6) else none

/-- BUNDLE_STAGE_TIMEOUT (R160). -/
def execBundleStageTimeout (n : Nat) (s : State) : Out :=
  match stageLimit (s.bundleStage n) with
  | none => ok s
  | some (limit, reason) =>
    if n < 6 ∧ (s.bundle n).since + limit ≤ s.ticks then
      ok (if s.bundleStage n = 1 then s.trainFail n reason else s.bundleBack n reason)
    else ok s

/-- BUNDLE_BACKOFF_EXPIRY (R160). -/
def execBundleBackoffExpiry (n : Nat) (s : State) : Out :=
  match (s.bundle n).backoffTo with
  | none => ok s
  | some t => if t ≤ s.ticks then ok (s.setBundle n { s.bundle n with backoffTo := none }) else ok s

/-- BUNDLE_RETRAIN (R184): BUNDLE_CTRL.RETRAIN. -/
def execBundleRetrain (n : Nat) (s : State) : Out := if n < 6 then ok (s.bundleRetrain n 11) else ok s

/-- Every bundle returns to DETECT. -/
def State.retrainAll (s : State) : State := (List.range 6).foldl (fun acc n => acc.bundleRetrain n 11) s

/-- RETRAIN_ALL (R184). -/
def execRetrainAll (s : State) : Out := ok s.retrainAll

/-- ELASTIC_OVERRUN (R170). -/
def execElasticOverrun (n : Nat) (s : State) : Out :=
  if n < 6 ∧ s.bundleStage n = 4 then ok ((s.raise (Err.BUNDLE_ELASTIC_OVERRUN n)).bundleRetrain n 9) else ok s

/-- LINK_STALL (R173): no ACK progress for 1,024 bells while flits are held. -/
def execLinkStall (s : State) : Out :=
  if s.uahus.held ≠ [] ∧ s.uahus.ackAt + 1024 ≤ s.ticks then
    let s1 := s.retrainAll.raise Err.UAHUS_LINK_STALL
    ok { s1 with uahus := { s1.uahus with ackAt := s.ticks } }
  else ok s

/-- LINK_DOWN_LIMIT (R185): the replay buffer, SEQ, ACK and credit state are discarded; the tasks concerned are kept
until the link returns. -/
def execLinkDownLimit (s : State) : Out :=
  match s.uahus.downAt with
  | none => ok s
  | some t =>
    if s.uahus.downRaised = false ∧ t + s.rd Reg.UAHUS_DOWN_LIMIT_BELLS ≤ s.ticks then
      let u := s.uahus
      let own (n : Nat) : Bool := n < 64 || n == 67
      let slots := ((u.held ++ u.sending).filter (fun f => f.cls == 0 && own f.slot)).map (·.slot)
        ++ (u.waiting.filter (fun x => x.cls == 0 && own x.slot)).map (·.slot)
        ++ (u.reads.filter (fun r => r.slot < 64)).map (·.slot)
      let s1 := { s with uahus := { u with
        held := [], sending := [], waiting := [], nextSeq := 0, rxNext := 0, rxAny := false, nakWait := false,
        reorder := [], partials := [], crSeen := [], freed := [], room := [], caps := none, reads := [],
        downRaised := true, lost := (u.lost ++ slots).eraseDups } }
      ok ((((s1.setCredits []).wr Reg.UAHUS_REPLAY_HELD 0).wr Reg.UAHUS_REPLAY_ACK 0).bump Ctr.UAHUS_LINK_DOWNS 1
        |>.raise Err.UAHUS_LINK_DOWN)
    else ok s

/-- HOST_STALL (R186): MEM traffic waits and no MEM credit or completion has come for the limit; once per stall. -/
def execHostStall (s : State) : Out :=
  let waits := s.uahus.waiting.any (fun t => t.cls == 0) || s.uahus.sending.any (fun f => f.cls == 0)
    || !s.uahus.reads.isEmpty
  if waits && !s.uahus.stallRaised && decide (s.uahus.memAt + s.rd Reg.UAHUS_STALL_LIMIT_BELLS ≤ s.ticks) then
    ok ({ s with uahus := { s.uahus with stallRaised := true } }.raise Err.UAHUS_HOST_STALL)
  else ok s

/-! ### Receiving (R165 to R175) -/

/-- A MEM credit or completion has arrived: no stall (R186). -/
def State.memProgress (s : State) : State :=
  { s with uahus := { s.uahus with memAt := s.ticks, stallRaised := false } }

/-- Take an ACK: every held flit up to and including it is freed (R171). -/
def State.takeAck (s : State) (a : Nat) : State :=
  let u := s.uahus
  match u.held.findIdx? (fun f => f.seq == a) with
  | none => s
  | some i =>
    let held := u.held.drop (i + 1)
    (({ s with uahus := { u with held := held, ackAt := s.ticks } }).wr Reg.UAHUS_REPLAY_HELD held.length).wr
      Reg.UAHUS_REPLAY_ACK a

/-- Take a credit return: a running count modulo 512 (R174). -/
def State.takeCredit (s : State) (cls count : Nat) : State :=
  if cls = 0 ∨ cls = 1 ∨ cls = 2 ∨ cls = 3 ∨ cls = 4 then
    let u := s.uahus
    let d := (count + 512 - mget u.crSeen cls 0 % 512) % 512
    if d = 0 then s
    else
      let s1 := ({ s with uahus := { u with crSeen := mset u.crSeen cls count 0 } }).setCredits
        (mset u.credits cls (mget u.credits cls 0 + d) 0)
      if cls = 0 then s1.memProgress else s1
  else s

/-- Free receive buffer of a class (R174). -/
def State.freeRoom (s : State) (cls n : Nat) : State :=
  if cls = 0 ∨ cls = 1 ∨ cls = 3 ∨ cls = 4 then
    { s with uahus := { s.uahus with
      room := mset s.uahus.room cls (mget s.uahus.room cls 0 + n) 0,
      freed := mset s.uahus.freed cls ((mget s.uahus.freed cls 0 + n) % 65536) 0 } }
  else s

/-- The flits that a transaction of this many data bytes takes. -/
def flitsFor (n : Nat) : Nat := (16 + n + 239) / 240

/-- A transaction is carried out: it leaves the inbox, and its buffer is freed. -/
def State.takeInbox (s : State) (cls op addr : Nat) : State :=
  match s.uahus.inbox.find? (fun t => t.cls == cls && t.op == op && t.addr == addr) with
  | none => s
  | some t =>
    let s1 := { s with uahus := { s.uahus with inbox := s.uahus.inbox.erase t } }
    if t.op = 0x03 then s1 else s1.freeRoom cls (flitsFor t.data.length)

/-- Discard a flit's class with CLASS_BAD (R177). -/
def State.classBad (s : State) : State := (s.bump Ctr.UAHUS_CLASS_BAD_FLITS 1).raise Err.UAHUS_CLASS_BAD

/-- The OPs that the host may send in each class (R176, R177). -/
def hostOpOk (cls op : Nat) : Bool :=
  (cls == 0 && (op == 0x01 || op == 0x02 || op == 0x03)) || (cls == 1 && (op == 0x11 || op == 0x12))
    || (cls == 3 && op == 0x32) || (cls == 4 && op == 0x41)

/-- Pass one in-order DATA flit to the transaction layer: a whole transaction joins the inbox, or is discarded with
CLASS_BAD (R168, R175, R177). -/
def State.acceptFlit (s : State) (f : Flit) : State :=
  let u := s.uahus
  let s0 := { s with uahus := { u with rxNext := (f.seq + 1) % 4096, rxAny := true, nakWait := false } }
  if f.cls = 2 ∨ 5 ≤ f.cls then s0.classBad
  else
    let got := (if f.first then [] else mget u.partials f.cls []) ++ f.payload
    let op := (got.headD 0).toNat
    let s1 := if op = 0x03 then s0
      else { s0 with uahus := { s0.uahus with room := mset u.room f.cls (mget u.room f.cls 0 - 1) 0 } }
    if !f.last then { s1 with uahus := { s1.uahus with partials := mset u.partials f.cls got [] } }
    else
      let s2 := { s1 with uahus := { s1.uahus with partials := mset u.partials f.cls [] [] } }
      let num (o n : Nat) : Nat := ofLe ((got.drop o).take n)
      let t : HostTx := { cls := f.cls, op := op, byte1 := num 1 1, tag := num 2 2, addr := num 8 8, len := num 4 4,
                          data := got.drop 16, slot := 64 }
      if hostOpOk f.cls op then { s2 with uahus := { s2.uahus with inbox := s2.uahus.inbox ++ [t] } }
      else (s2.freeRoom f.cls (flitsFor t.data.length)).classBad

/-- Whether a flit's class has receive buffer left (R175). -/
def State.hasRoom (s : State) (f : Flit) : Bool :=
  !(f.cls == 0 || f.cls == 1 || f.cls == 3 || f.cls == 4) || 0 < mget s.uahus.room f.cls 0
    || (f.first && (f.payload.headD 0).toNat == 0x03)
    || (!f.first && ((mget s.uahus.partials f.cls []).headD 0).toNat == 0x03)

/-- Pass up the flits that now follow in order. -/
def State.drainReorder : Nat → State → State
  | 0, s => s
  | k + 1, s =>
    match s.uahus.reorder.find? (fun f => f.seq == s.uahus.rxNext) with
    | none => s
    | some f =>
      let s1 := { s with uahus := { s.uahus with reorder := s.uahus.reorder.erase f } }
      if s.hasRoom f then State.drainReorder k (s1.acceptFlit f) else s1.raise Err.UAHUS_CREDIT_VIOLATION

/-- Send one NAK and wait for the flit after ACK (R172). -/
def State.sendNak (s : State) : State :=
  if s.uahus.nakWait then s
  else { s with uahus := { s.uahus with nakWait := true, reorder := [] } }.bump Ctr.UAHUS_NAKS_TX 1

/-- A DATA flit with a good CRC (R168, R172, R175). -/
def State.dataFlit (s : State) (f : Flit) : State :=
  let u := s.uahus
  if f.seq = u.rxNext then
    if s.hasRoom f then State.drainReorder 1024 (s.acceptFlit f) else s.raise Err.UAHUS_CREDIT_VIOLATION
  else if u.nakWait then s
  else if (f.seq + 4096 - u.rxNext) % 4096 < 1024 ∧ !u.reorder.any (fun g => g.seq == f.seq) then
    { s with uahus := { u with reorder := u.reorder ++ [f] } }
  else s

/-- Resend every held flit, in order (R172). -/
def State.replayHeld (s : State) : State :=
  (s.bump Ctr.UAHUS_REPLAYS 1).bump Ctr.UAHUS_FLITS_TX s.uahus.held.length

/-- A NAK with its ACK (R172). -/
def State.takeNak (s : State) (a : Nat) : State := ((s.bump Ctr.UAHUS_NAKS_RX 1).takeAck a).replayHeld

/-- A flit whose CRC does not check (R166, R172, R173, R184). -/
def State.badFlit (s : State) (n : Nat) : State :=
  let b := s.bundle n
  let at' := s.ticks :: b.crcAt.filter (fun t => s.ticks < t + 16)
  let s1 := ((s.bump Ctr.UAHUS_CRC_DISCARDS 1).bump (Ctr.BUNDLE_CRC_DISCARDS n) 1).setBundle n
    { b with crcAt := at', crcRun := b.crcRun + 1 }
  let s2 := s1.sendNak
  if 16 ≤ at'.length then (s2.raise (Err.BUNDLE_BUNDLE_CRC n)).bundleRetrain n 8
  else if 4 ≤ b.crcRun + 1 then s2.bundleRetrain n 10
  else s2

/-- FLIT_RECEIVE (R165, R166, R171 to R175): one flit on an ACTIVE bundle. -/
def execFlitReceive (n : Nat) (flit : List Byte) (s : State) : Out :=
  if 6 ≤ n ∨ s.bundleStage n ≠ 4 ∨ flit.length ≠ 256 then ok s
  else
    let s0 := (s.bump Ctr.UAHUS_FLITS_RX 1).bump (Ctr.BUNDLE_FLITS_RX n) 1
    let (inj, s1) := s0.injectUse 0x40 0
    if inj || crc64 (flit.take 248) != ofLe (flit.drop 248) then ok (s1.badFlit n)
    else
      let h := ofLe (flit.take 8)
      let s2 := s1.setBundle n { s1.bundle n with crcRun := 0 }
      let s3 := if bit h 35 then s2.takeAck (bits h 36 12) else s2
      let s4 := s3.takeCredit (bits h 21 3) (bits h 12 9)
      let f : Flit := { seq := bits h 48 12, cls := bits h 32 3, first := bit h 31, last := bit h 30,
                        payload := (flit.drop 8).take (bits h 0 8), slot := 64 }
      let ty := bits h 60 4
      let s5 := if ty = 1 then s4.dataFlit f
        else if ty = 2 then s4.takeNak (bits h 36 12)
        else s4
      ok s5.send

/-- NAK_FLIT_RECEIVE (R172). -/
def execNakFlitReceive (ack : Nat) (s : State) : Out := ok (s.takeNak (ack % 4096)).send

/-- FLIT_GAP_TIMEOUT (R172): a gap in SEQ not filled within 16 HCK cycles. -/
def execFlitGapTimeout (s : State) : Out := if s.uahus.reorder ≠ [] then ok s.sendNak else ok s

/-- FLIT_ACK_TIMEOUT (R172): no ACK progress for 1,024 HCK cycles while flits are held. -/
def execFlitAckTimeout (s : State) : Out := if s.uahus.held ≠ [] then ok s.replayHeld else ok s

/-! ### Equalisation (R157, R158) -/

/-- The built-in equalisation of a lane (R158). -/
def builtinTx : Nat × Nat × Nat := (0, 55, 8)

/-- Set one lane's equalisation registers. -/
def State.setEq (s : State) (n p : Nat) (tx : Nat × Nat × Nat) (ctle d1 d2 d3 : Nat) : State :=
  ((((((s.wr (Reg.BUNDLE_TX_EQ_C_PRE n p) tx.1).wr (Reg.BUNDLE_TX_EQ_C_MAIN n p) tx.2.1).wr
    (Reg.BUNDLE_TX_EQ_C_POST n p) tx.2.2).wr (Reg.BUNDLE_RX_EQ_CTLE n p) ctle).wr (Reg.BUNDLE_RX_EQ_DFE1 n p) d1).wr
    (Reg.BUNDLE_RX_EQ_DFE2 n p) d2).wr (Reg.BUNDLE_RX_EQ_DFE3 n p) d3

/-- Every bundle and physical lane. -/
def bundleLanes : List (Nat × Nat) := (List.range 6).flatMap (fun n => (List.range 17).map (fun p => (n, p)))

/-- Step 6's load of the host-link table: the record of the Almanac where it is good, each entry where it is in range,
and the built-in values otherwise (R157, R158). -/
def State.loadEqTable (s : State) : State :=
  let builtin (st : State) (n p : Nat) : State := st.setEq n p builtinTx 6 0 0 0
  let all (st : State) : State := bundleLanes.foldl (fun acc e => builtin acc e.1 e.2) st
  if !s.alm.held then all s
  else match s.alm.data.hostLink with
    | none => (all s).raise Err.UAHUS_EQ_TABLE_BAD
    | some r =>
      let num (o n : Nat) : Nat := ofLe ((r.drop o).take n)
      if r.length ≠ 824 ∨ num 0 2 ≠ 6 ∨ num 2 2 ≠ 1 ∨ num 4 4 ≠ crc32c (r.drop 8) then
        (all s).raise Err.UAHUS_EQ_TABLE_BAD
      else
        bundleLanes.foldl (fun acc e =>
          let t := 0x008 + 4 * (17 * e.1 + e.2)
          let x := 0x1A0 + 4 * (17 * e.1 + e.2)
          let dfe (i : Nat) : Bool := decide (-32 ≤ toSigned 8 (num (x + i) 1) ∧ toSigned 8 (num (x + i) 1) ≤ 31)
          let good := num t 1 ≤ 15 && 32 ≤ num (t + 1) 1 && num (t + 1) 1 ≤ 63 && num (t + 2) 1 ≤ 31
            && num t 1 + num (t + 1) 1 + num (t + 2) 1 ≤ 63 && num x 1 ≤ 15 && dfe 1 && dfe 2 && dfe 3
          if good then
            acc.setEq e.1 e.2 (num t 1, num (t + 1) 1, num (t + 2) 1) (num x 1) (num (x + 1) 1) (num (x + 2) 1)
              (num (x + 3) 1)
          else (builtin acc e.1 e.2).raise Err.UAHUS_EQ_TABLE_BAD) s

end Sys2Proof.Machine
end

