-- ==== Sys2Proof/Machine/Boot.lean ====
section
/-! DEFINITION. Sys2Proof/Machine/Boot.lean: the start-up steps, their retries, LIMP and the cold relock (spec/05:
R125 to R148). -/

namespace Sys2Proof.Machine

/-! ### Progress and retry (R125 to R127) -/

/-- The current start-up step. -/
def State.bootStep (s : State) : Nat := s.rd Reg.BOOT_STATUS_STEP

/-- Whether an attempt at step `n` is running. -/
def State.atStep (s : State) (n : Nat) : Bool :=
  s.boot.running && s.bootStep == n && !s.boot.inBackoff && !(3 ≤ n && s.reeveHalted)

/-- A step has succeeded: the next one begins with its first attempt, and the back-off returns to 1 bell (R127). -/
def State.nextStep (s : State) (n : Nat) : State :=
  let s1 := ((s.wr Reg.BOOT_STATUS_STEP n).wr Reg.BOOT_ATTEMPTS_ATTEMPTS 1).wr Reg.BOOT_BACKOFF_BELLS 1
  { s1 with boot := { s1.boot with fails := 0, inBackoff := false } }

/-- The back-off after the n-th failure in a row: 1 bell, doubling, at most 1,048,576 (R127). -/
def backoffBells (n : Nat) : Nat := satAt 1048576 (2 ^ satAt 20 (n - 1))

/-- An attempt at the current step has failed (R127). -/
def State.stepFail (s : State) (reason : Nat) : State :=
  let n := s.boot.fails + 1
  let s1 := ((s.bump Ctr.BOOT_STEP_FAILURES 1).wr Reg.BOOT_STATUS_LAST_REASON reason).wr Reg.BOOT_BACKOFF_BELLS
    (backoffBells n)
  { s1 with boot := { s1.boot with fails := n, inBackoff := true } }.consoleLog [txtBoot, txtStep, hexText s.bootStep,
    txtAttempt, hexText (s.rd Reg.BOOT_ATTEMPTS_ATTEMPTS), txtReason, hexText reason]

/-- BOOT_BACKOFF_EXPIRY (R127): a new attempt at the same step begins. -/
def execBootBackoffExpiry (s : State) : Out :=
  if s.boot.running ∧ s.boot.inBackoff then
    ok ({ s with boot := { s.boot with inBackoff := false } }.addSat Reg.BOOT_ATTEMPTS_ATTEMPTS 1)
  else ok s

/-- The reason a time-out reports: the step's own code, or the last reason where the table has none. -/
def State.timeoutReason (s : State) : Nat :=
  match s.bootStep with
  | 1 => 0x01
  | 6 => 0x07
  | 7 => 0x09
  | 8 => 0x0A
  | 10 => 0x0C
  | _ => s.rd Reg.BOOT_STATUS_LAST_REASON

/-- The steps whose attempts have a time-out (R125). -/
def stepTimesOut (n : Nat) : Bool := [1, 2, 3, 5, 6, 7, 8, 10].contains n

/-- BOOT_STEP_TIMEOUT (R127). A relock time-out belongs to the ferry being swept (COLD_RELOCK_FERRY). -/
def execBootStepTimeout (s : State) : Out :=
  if s.boot.running && !s.boot.inBackoff && stepTimesOut s.bootStep then
    let s1 := s.stepFail s.timeoutReason
    ok (match s.bootStep with
      | 1 => s1.raise Err.BOOT_FLASH_READ_FAIL
      | 6 => s1.raise Err.BOOT_LINK_RETRY
      | 8 => s1.raise Err.BOOT_RELOCK_FAIL
      | _ => s1)
  else ok s

/-- Begin start-up at step 0 (R125): BOOTING, one more start. -/
def State.beginStart (s : State) : State :=
  let s1 := (s.nextStep 0).wr Reg.DEVICE_STATE_STATE 0
  let s2 := s1.wr Reg.BOOT_STARTS_STARTS (s.rd Reg.BOOT_STARTS_STARTS + 1)
  { s2 with boot := { s2.boot with running := true, limpSteps := 0 } }

/-- The straps are sampled on the rising edge of RESET_N (R72). -/
def State.sampleStraps (s : State) : State :=
  (s.wr Reg.MGMT_SMB_STATUS_ADDR (0x60 + s.pins.smbStrap % 8)).wr Reg.BOOT_SOURCE_BOOT_SRC (s.pins.bootStrap % 4)

/-- STARTUP_BEGIN (R18, R72, R125): RESET_N rises; with PWR_OK high start-up begins. -/
def execStartupBegin (s : State) : Out :=
  let s1 := ({ s with pins := { s.pins with resetN := true, pwrOk := true } }.sampleStraps).wr Reg.THERMAL_PWR_PWR_OK_PIN 1
  if s.pins.testEn ∨ s.boot.running then ok s1 else ok s1.beginStart

/-- STEP_CLOCKS (R125): the three PLLs have locked on REFCLK. -/
def execStepClocks (s : State) : Out :=
  if s.atStep 0 then
    ok (((((s.wr Reg.CLK_STATUS_REFCLK_OK 1).wr Reg.CLK_STATUS_CCK_LOCK 1).wr Reg.CLK_STATUS_LCK_LOCK 1).wr
      Reg.CLK_STATUS_HCK_LOCK 1).nextStep 1)
  else ok s

/-- STEP_FLASH (R125, R129): the flash answers a read of the Reeve image header area. -/
def execStepFlash (answers : Bool) (s : State) : Out :=
  if s.atStep 1 then
    if answers then ok (s.nextStep 2) else ok ((s.stepFail 0x01).raise Err.BOOT_FLASH_READ_FAIL)
  else ok s

/-- STEP_AUTH_REEVE (R131, R132): the boot ROM authenticates a Reeve copy, loads it and hands over. -/
def execStepAuthReeve (s : State) : Out :=
  if s.atStep 2 then
    match s.pickCopy 1 with
    | (some c, s1) =>
      let b := (imageRegion 1 c).1
      let r : ReeveImage :=
        { version := s.imageVersion 1 c, svn := s.flashNum (b + 0x0C) 4, slot := s.flashNum (b + 0x07) 1,
          key := s.flashBytes (b + 0x50) 96, pairing := Config.pairingTable (s.imageBody 1 c) }
      let s2 := ((s1.wr Reg.BOOT_SOURCE_REEVE_COPY (c + 1)).wr Reg.SEC_STATUS_KEY_SLOT r.slot).wr
        Reg.TOP_FW_REEVE_VERSION r.version
      ok ({ s2 with boot := { s2.boot with reeve := some r } }.nextStep 3)
    | (none, s1) => ok (s1.stepFail ((s.imageFault 1 1).getD 0x02))
  else ok s

/-! ### LIMP (R126, R136, R137) -/

/-- The lowest LIMP reason present in a mask of reasons. -/
def lowestReason (m : Nat) : Nat := ((List.range 6).find? (fun n => bit m n)).elim 0 (· + 1)

/-- Report the LIMP reasons present: DEVICE_STATE and BOOT_LIMP (R136). -/
def State.setLimp (s : State) (m : Nat) : State :=
  let s1 := (s.wr Reg.BOOT_LIMP_REASONS m).wr Reg.DEVICE_STATE_LIMP_REASON (lowestReason m)
  if m = 0 then s1.wr Reg.DEVICE_STATE_STATE (if s.bootStep ≤ 5 then 0 else 1)
  else if s.rd Reg.DEVICE_STATE_STATE = 3 then s1
  else ((s1.wr Reg.DEVICE_STATE_STATE 3).raise Err.BOOT_LIMP_ENTERED).hearthsOff.lanternLimp

/-- Add a LIMP reason. -/
def State.addLimp (s : State) (n : Nat) : State := s.setLimp (setBit (s.rd Reg.BOOT_LIMP_REASONS) (n - 1))

/-- Whether the device is in LIMP. -/
def State.inLimp (s : State) : Bool := s.rd Reg.DEVICE_STATE_STATE == 3

/-- One attempt at step 3: pick, load and check a Hearth copy, the overlay if present, and run each Hearth's start
BIST (R132, R133, R246). Answers whether a Hearth image is loaded and a Hearth passes. -/
def State.loadHearth (s : State) (bistA bistB digestA digestB : Bool) : Option Nat × State :=
  match s.pickCopy 2 with
  | (none, s1) => (some 5, s1)
  | (some c, s1) =>
    let v := s.imageVersion 2 c
    let s2 := (s1.wr Reg.BOOT_SOURCE_HEARTH_COPY (c + 1)).wr Reg.TOP_FW_HEARTH_VERSION v
    let (oc, s3) := s2.pickCopy 3
    let s4 := match oc with
      | none => s3.wr Reg.BOOT_SOURCE_PB_COPY 0
      | some k => s3.wr Reg.BOOT_SOURCE_PB_COPY (k + 1)
    let pb := match oc with
      | none => Config.romPbVersion
      | some k => s.imageVersion 3 k
    let s5 := (s4.wr Reg.TOP_PB_VERSION_MAJOR (bits pb 8 8)).wr Reg.TOP_PB_VERSION_MINOR (bits pb 0 8)
    let s6 : State := { s5 with boot := { s5.boot with hearthVer := some v, overlayVer := oc.map (s.imageVersion 3) } }
    if !(digestA && digestB) then (some 4, s6)
    else if bistA || bistB then (none, s6.hearthStartBist bistA bistB)
    else (some 0, s6)

/-- The reasons of step 4 that the pairing table alone leaves (R135). -/
def State.pairingReasons (s : State) : List Nat :=
  let pb := match s.boot.overlayVer with
    | some v => v % 65536
    | none => Config.romPbVersion % 65536
  (match s.boot.hearthVer with
    | some v => if s.paired 1 v then [] else [1]
    | none => [])
  ++ (if s.paired 2 (s.rd Reg.TOP_STEPPING_STEPPING) then [] else [2])
  ++ (if s.paired 3 pb then [] else [3])

/-- The policy blob's entries, where the blob authenticates and names the running Reeve version (R137). -/
def State.policyEntries (s : State) : Option (List (Nat × Nat)) :=
  let b := 0x380200
  if (s.imageFault 4 0).isNone && s.flashNum (b + 4) 4 == (s.boot.reeve.elim 0 (·.version)) then
    some ((List.range (satAt 8128 (s.flashNum b 4))).map
      (fun i => (s.flashNum (b + 8 + 8 * i) 1, s.flashNum (b + 12 + 8 * i) 4)))
  else none

/-- Step 4 (R135, R137): read the policy blob, then check Hearth version, stepping and Pattern Book version. -/
def State.doPairing (s : State) : State :=
  let before := s.pairingReasons
  let present := !s.copyAbsent 4 0
  let s1 := match s.policyEntries with
    | some es =>
      let s' := s.wr Reg.SEC_POLICY_STATUS_PRESENT 1
      { s' with boot := { s'.boot with reeve := s'.boot.reeve.map (fun (r : ReeveImage) => ({ r with pairing := r.pairing ++ es } : ReeveImage)) } }
    | none =>
      if present then (s.wr Reg.SEC_POLICY_STATUS_PRESENT 1).raise Err.SEC_POLICY_BAD
      else s.wr Reg.SEC_POLICY_STATUS_PRESENT 0
  let after := s1.pairingReasons
  let s2 := if after.length < before.length then
      (s1.wr Reg.SEC_POLICY_STATUS_ACCEPTED 1).wr Reg.DEVICE_STATE_UNTESTED 1
    else s1
  after.foldl (fun acc n => acc.addLimp n) s2

/-- STEP_LOAD_HEARTH (R133, R246). -/
def execStepLoadHearth (bistA bistB digestA digestB : Bool) (s : State) : Out :=
  if s.atStep 3 then
    match s.loadHearth bistA bistB digestA digestB with
    | (none, s1) => ok (s1.nextStep 4)
    | (some 0, s1) => ok (s1.stepFail (s.rd Reg.BOOT_STATUS_LAST_REASON))
    | (some r, s1) => ok ((s1.nextStep 4).addLimp r)
  else ok s

/-- STEP_PAIRING (R135). -/
def execStepPairing (s : State) : Out :=
  if s.atStep 4 then ok (s.doPairing.nextStep 5) else ok s

/-- Step 5's effect on the registers the Almanac fills: node ID, fibre skews, router ports and equalisation (R136,
R157). -/
def State.useAlmanac (s : State) : State :=
  let d := s.alm.data
  let s1 := s.wr Reg.TOP_NODE_ID_NODE_ID d.nodeId
  let s2 := (List.range 8).foldl (fun acc f => acc.wr (Reg.BELL_FIBRE_SKEW_SKEW f) (d.skews.getD f 0)) s1
  (List.range 8).foldl (fun acc f =>
    match d.ports.getD f none with
    | none => acc.wr (Reg.FERRY_STATUS_PORT_VALID f) 0
    | some p => (acc.wr (Reg.FERRY_STATUS_PORT_VALID f) 1).wr (Reg.FERRY_STATUS_PORT f) p) s2

/-- What ALM_WRITE has changed in the working copy takes effect (R578). -/
def State.takeEdits (s : State) : State :=
  if s.alm.edited then
    { s with alm := { s.alm with data := Config.almDecode s.alm.body s.alm.len, used := s.alm.body, edited := false } }
  else s

/-- Report every section that is present but not valid (R138). -/
def State.checkSections (s : State) : State :=
  [0, 1].foldl (fun acc sec =>
    if s.sectionPresent sec && !s.sectionValid sec then acc.raise Err.BOOT_ALMANAC_SECTION_BAD else acc) s

/-- The state at the start of step 6: STARTING unless in LIMP, and the host link's equalisation loaded (R126, R157). -/
def State.enterLink (s : State) : State :=
  let s1 := (s.nextStep 6).loadEqTable
  if s1.inLimp then s1 else s1.wr Reg.DEVICE_STATE_STATE 1

/-- STEP_ALMANAC (R138, R139). -/
def execStepAlmanac (s : State) : Out :=
  if s.atStep 5 then
    let s1 := s.checkSections
    if s.boot.warm && s.alm.held && crc32c s.alm.bytes == s.alm.crc then
      ok ((s1.takeEdits.wr Reg.BOOT_SOURCE_ALM_SECTION 3).useAlmanac.enterLink)
    else match s.lastCommitted with
      | some sec => ok (((s1.loadSection sec).wr Reg.BOOT_SOURCE_ALM_SECTION (sec + 1)).useAlmanac.enterLink)
      | none =>
        let s2 := { s1 with alm := { s1.alm with held := false } }
        ok ((((s2.wr Reg.BOOT_SOURCE_ALM_SECTION 0).wr Reg.TOP_NODE_ID_NODE_ID 0).addLimp 6).enterLink)
  else ok s

/-- STEP_LINK (R125): the Uahus link has become ACTIVE. In LIMP start-up stops here (R136). -/
def execStepLink (s : State) : Out :=
  if s.atStep 6 && s.rd Reg.UAHUS_STATUS_LINK == 2 then
    if s.inLimp then ok { s with boot := { s.boot with limpSteps := 1 } } else ok (s.nextStep 7)
  else ok s

/-- STEP_LANTERN (R202): identities, levels and readings of both modules; success with both, or with one when the other
is absent, bad or faulty. With neither, LANTERN_NO_SOURCE. A module that answers but is not yet at level leaves the step
waiting for its time-out. -/
def execStepLantern (a b : Option ModuleReport) (s : State) : Out :=
  if s.atStep 7 then
    match s.lanternStart a b with
    | (some true, s1) => ok (s1.nextStep 8)
    | (some false, s1) => ok (s1.stepFail 0x09)
    | (none, s1) => ok s1
  else ok s

/-- HEARTH_IMAGE_RETRY (R136): in LIMP with HEARTH_IMAGE_NONE step 3 is retried; when it succeeds, step 4 runs again in
full, and with no reason left the IZ5 leaves LIMP and continues. -/
def execHearthImageRetry (bistA bistB digestA digestB : Bool) (s : State) : Out :=
  if s.inLimp && bit (s.rd Reg.BOOT_LIMP_REASONS) 4 then
    match s.loadHearth bistA bistB digestA digestB with
    | (none, s1) =>
      let s2 := (s1.wr Reg.BOOT_LIMP_REASONS (clearBit (s1.rd Reg.BOOT_LIMP_REASONS) 4)).doPairing
      let left := s2.rd Reg.BOOT_LIMP_REASONS
      let s3 := s2.setLimp left
      if left ≠ 0 then ok s3.hearthsOff
      else if s.boot.limpSteps = 1 then ok (s3.nextStep 7)
      else ok s3
    | (some 4, s1) => ok (((s1.wr Reg.BOOT_LIMP_REASONS (clearBit (s1.rd Reg.BOOT_LIMP_REASONS) 4)).addLimp 4).hearthsOff)
    | (some _, s1) =>
      ok (((s1.bump Ctr.BOOT_STEP_FAILURES 1).addSat Reg.BOOT_ATTEMPTS_ATTEMPTS 1).hearthsOff)
  else ok s

/-! ### The cold relock (R146 to R148) -/

/-- A requested calibration of a kind ends: its PENDING bit clears and RESULT is DONE, or FAILED (R526). -/
def State.calibEnd (s : State) (kind : Nat) (failed : Bool) : State :=
  (s.wr Reg.CALIB_STATUS_PENDING (clearBit (s.rd Reg.CALIB_STATUS_PENDING) kind)).wr Reg.CALIB_STATUS_RESULT
    (if failed then 6 else 3)

/-- A FERRY_RELOCK of ferry `f` is done (R527). -/
def State.relockEnd (s : State) (f : Nat) : State :=
  if s.calib.run = some (3, f) then { s with calib := { s.calib with run := none } }.calibEnd 3 false else s

/-- Take up the sweep of the first ferry that still needs one, or leave step 8 when none does (R146). -/
def State.sweepNext (s : State) : State :=
  match s.boot.relockTodo with
  | [] =>
    let s1 := s.wr Reg.BOOT_RELOCK_ACTIVE 0
    if s1.bootStep = 8 then s1.nextStep 9 else s1
  | f :: _ => (s.wr Reg.BOOT_RELOCK_ACTIVE 1).wr Reg.BOOT_RELOCK_FERRY f

/-- STEP_RELOCK (R146, R148): load every ferry's matrix, skip the ferries with a complete record of this Hearth
firmware, and begin to sweep the others. -/
def execStepRelock (s : State) : Out :=
  if s.atStep 8 && s.boot.relockTodo == [] && !s.is Reg.BOOT_RELOCK_ACTIVE then
    let skip (f : Nat) : Bool := s.relockDone f && some (s.relockVersion f) == s.boot.hearthVer
    let s1 := (List.range 8).foldl (fun acc f => acc.matrixLoad f) s
    let s2 := (List.range 8).foldl (fun acc f =>
      if skip f then (acc.loopsWarm f).bump Ctr.BOOT_RELOCK_SKIPPED 1 else acc) s1
    ok { s2 with boot := { s2.boot with relockTodo := (List.range 8).filter (fun f => !skip f) } }.sweepNext
  else ok s

/-- COLD_RELOCK_FERRY (R146, R147): the sweep of the ferry being swept ends. -/
def execColdRelockFerry (f : Nat) (res : RelockResult) (s : State) : Out :=
  match s.boot.relockTodo with
  | [] => ok s
  | g :: rest =>
    if g ≠ f then ok s else
    match res with
    | .done codes xt =>
      let pairs := (List.range 2304).map (fun i => (2304 * f + i, xt.getD i (if i % 9 = 4 then 0x4000 else 0)))
      let d := s.alm.data
      let kept := d.xt.filter (fun e => e.1 / 2304 != f)
      let s1 := { s with alm := s.alm.withData { d with xt := kept ++ pairs } }
      let s2 := ((s1.writeRelock f codes).bump Ctr.BOOT_RELOCK_FERRIES 1).setCodes f codes
      let s3 := { s2 with boot := { s2.boot with relockTodo := rest, ferryFails := mset s2.boot.ferryFails f 0 0 } }
      ok (((s3.matrixLoad f).loopsCold f).sweepNext.relockEnd f)
    | .timeout | .noResonance =>
      let n := mget s.boot.ferryFails f 0 + 1
      let r := if res = .timeout then 0x0A else 0x0B
      let s1 := ((s.bump Ctr.BOOT_STEP_FAILURES 1).wr Reg.BOOT_STATUS_LAST_REASON r).wr Reg.BOOT_BACKOFF_BELLS
        (backoffBells n)
      let s2 := (s1.addSat Reg.BOOT_ATTEMPTS_ATTEMPTS 1).raise Err.BOOT_RELOCK_FAIL
      ok ({ s2 with boot := { s2.boot with relockTodo := rest ++ [f], ferryFails := mset s2.boot.ferryFails f n 0 } }.sweepNext)

/-- Whether ferry `f`'s relock is done for this start: not waiting to be swept once step 8 has begun. -/
def State.relocked (s : State) (f : Nat) : Bool := 8 ≤ s.bootStep && !s.boot.relockTodo.contains f && s.relockDone f

/-- STEP_LANES (R125): bring-up is started on every link of a ferry whose relock is done, beginning as soon as it is;
step 9 itself ends once every ferry has been taken up. -/
def execStepLanes (s : State) : Out :=
  if s.boot.running && !s.inLimp && 8 ≤ s.bootStep then
    let m := (List.range 8).foldl (fun m f => if s.relocked f then setBit m f else m) s.boot.lanesStarted
    let s1 := { s with boot := { s.boot with lanesStarted := m } }
    if s.bootStep = 9 then ok (s1.nextStep 10) else ok s1
  else ok s

/-- STEP_BELL_JOIN (R125): the bell state is LOCKED, ROOT_FREE or ROOT_REF. -/
def execStepBellJoin (s : State) : Out :=
  let b := s.rd Reg.BELL_STATUS_STATE
  if s.atStep 10 && (b == 2 || b == 4 || b == 5) then ok (s.nextStep 11) else ok s

/-- STEP_REPORT (R126): DEVICE_STATE becomes READY, and every block reports READY. -/
def execStepReport (s : State) : Out :=
  if s.atStep 11 then
    let s1 := ((s.wr Reg.DEVICE_STATE_STATE 2).wr Reg.BOOT_STATUS_STEP 15).wr Reg.BOOT_BACKOFF_BELLS 1
    ok (presentPages.foldl (fun acc p => acc.wr (Hdr.READY p) 1) s1)
  else ok s

end Sys2Proof.Machine
end

