-- ==== Sys2Proof/Machine/Granary.lean ====
section
/-! DEFINITION. Sys2Proof/Machine/Granary.lean: the Granary's map, its reads and writes with ECC, poison and injection
(spec/15 R405, R408, R409; spec/21 R546). -/

namespace Sys2Proof.Machine

/-- The Granary's lowest address and the address after its last (R405). -/
def granaryBase : Nat := 0x10000000
def granaryEnd : Nat := 0x1A000000

/-- What a Granary byte that nothing has written reads as (log entry 12). -/
def granaryDefault : Byte := 0

/-- Whether `n` bytes from `a` lie in the Granary. -/
def inGranary (a n : Nat) : Bool := granaryBase ≤ a && a + n ≤ granaryEnd

/-- The bank of an address: 0–127 near bank of core Cn, 128–159 shared slice (R405, R419). -/
def bankOf (a : Nat) : Nat := if a < 0x18000000 then (a - granaryBase) / 2 ^ 20 else 128 + bits a 12 5

/-- The ports of a bank by GRANARY_LAST_ERR.PORT's codes (R406, R419). -/
inductive Port where
  | mill | line | host | background
  deriving DecidableEq, Repr

/-- The code of a port. -/
def Port.num : Port → Nat
  | .mill => 0
  | .line => 1
  | .host => 2
  | .background => 3

/-- The numbers of the 64-byte lines that `n` bytes from `a` touch. -/
def linesOf (a n : Nat) : List Nat := (List.range ((a + n + 63) / 64 - a / 64)).map (a / 64 + ·)

/-- Whether a line is poisoned (R409). -/
def State.poisoned (s : State) (line : Nat) : Bool := mget s.granary.poison line false

/-- Record an error of the Granary (R419). -/
def State.granaryNote (s : State) (p : Port) (a : Nat) (ue scrub : Bool) : State :=
  (((((s.wr Reg.GRANARY_LAST_ERR_VALID 1).wrB Reg.GRANARY_LAST_ERR_UE ue).wrB Reg.GRANARY_LAST_ERR_SCRUB scrub).wr
    Reg.GRANARY_LAST_ERR_PORT p.num).wr Reg.GRANARY_LAST_ERR_BANK (bankOf a)).wr Reg.GRANARY_LAST_ADDR_ADDR (64 * (a / 64))

/-- Poison the line of an address (R409). -/
def State.poisonLine (s : State) (a : Nat) : State :=
  if s.poisoned (a / 64) then s
  else { s with granary := { s.granary with poison := mset s.granary.poison (a / 64) true false } }.bump
    Ctr.GRANARY_POISONED_LINES 1

/-- A single-bit error found by a read: corrected and written back (R409). -/
def State.granaryCe (s : State) (p : Port) (a : Nat) (o : Occ) : State :=
  ((s.granaryNote p a false false).bump Ctr.GRANARY_CE_EVENTS 1).raise Err.GRANARY_CE o

/-- An uncorrectable error found by a read: the line is poisoned (R409). -/
def State.granaryUe (s : State) (p : Port) (a : Nat) (o : Occ) : State :=
  (((s.granaryNote p a true false).bump Ctr.GRANARY_UE_EVENTS 1).poisonLine a).raise Err.GRANARY_UE o

/-- A read or a partial write that meets a poisoned line (R409). -/
def State.poisonMet (s : State) (p : Port) (a : Nat) (o : Occ) : State :=
  (s.granaryNote p a true false).raise Err.GRANARY_POISON_READ o

/-- Whether GRANARY checker `c` is armed for the bank of `a` (R546). -/
def State.granaryArmed (s : State) (c a : Nat) : Bool :=
  s.rd (Hdr.INJ_COUNT 0x62) != 0 && s.rd (Hdr.INJ_CHECKER 0x62) == c && s.rd Reg.GRANARY_INJ_SEL_BANK == bankOf a

/-- The words of a read that an armed checker inverts, one use each (R546); answers whether the read still succeeds. -/
def State.granaryInject (s : State) (p : Port) (o : Occ) : Nat → Nat → Bool → Bool × State
  | _, 0, good => (good, s)
  | a, n + 1, good =>
    if s.granaryArmed 0 a then
      ((s.injectUse 0x62 0).2.granaryUe p a { o with injected := true }).granaryInject p o (a + 8) n false
    else if s.granaryArmed 1 a then
      ((s.injectUse 0x62 1).2.granaryCe p a { o with injected := true }).granaryInject p o (a + 8) n good
    else s.granaryInject p o (a + 8) n good

/-- What a read of `n` bytes from `a` finds (R409): poison first, then the injections, then what the ECC check found.
Answers whether the reader may use the bytes. -/
def State.granaryCheck (s : State) (p : Port) (a n : Nat) (ecc : EccResult) (o : Occ := {}) : Bool × State :=
  match (linesOf a n).find? s.poisoned with
  | some l => (false, s.poisonMet p (64 * l) o)
  | none =>
    let r : Bool × State :=
      if s.rd (Hdr.INJ_COUNT 0x62) = 0 then (true, s) else s.granaryInject p o (8 * (a / 8)) ((a + n + 7) / 8 - a / 8) true
    match ecc with
    | .ok => r
    | .corrected => (r.1, r.2.granaryCe p a o)
    | .uncorrectable => (false, r.2.granaryUe p a o)

/-- `n` bytes of the Granary from `a`. -/
def State.granaryBytes (s : State) (a n : Nat) : List Byte := readBytes s.granary.mem granaryDefault a n

/-- A Granary read: its bytes if the check passes (R409). -/
def State.granaryRead (s : State) (p : Port) (a n : Nat) (ecc : EccResult) (o : Occ := {}) :
    Option (List Byte) × State :=
  let r := s.granaryCheck p a n ecc o
  (if r.1 then some (s.granaryBytes a n) else none, r.2)

/-- Store bytes with no check. -/
def State.granaryPoke (s : State) (a : Nat) (d : List Byte) : State :=
  { s with granary := { s.granary with mem := writeBytes s.granary.mem granaryDefault a d } }

/-- Write the part of one line: a full line clears its poison; a partial write into a poisoned line is not performed
and raises POISON_READ (R408, R409). Answers whether it was performed. -/
def State.granaryWriteLine (s : State) (p : Port) (a : Nat) (d : List Byte) (o : Occ) : Bool × State :=
  if !s.poisoned (a / 64) then (true, s.granaryPoke a d)
  else if a % 64 = 0 ∧ d.length = 64 then
    (true, (({ s with granary := { s.granary with poison := mset s.granary.poison (a / 64) false false } }).bump
      Ctr.GRANARY_POISON_CLEARED 1).granaryPoke a d)
  else (false, s.poisonMet p a o)

/-- Cut bytes at 64-byte lines. -/
def linePieces : Nat → Nat → List Byte → List (Nat × List Byte)
  | 0, _, _ => []
  | k + 1, a, d =>
    if d.isEmpty then [] else
    let m := 64 - a % 64
    (a, d.take m) :: linePieces k (a + m) (d.drop m)

/-- A Granary write, line by line (R408, R409). Answers whether every part was performed. -/
def State.granaryWrite (s : State) (p : Port) (a : Nat) (d : List Byte) (o : Occ := {}) : Bool × State :=
  (linePieces (d.length + 1) a d).foldl (fun (acc : Bool × State) q =>
    let r := acc.2.granaryWriteLine p q.1 q.2 o
    (acc.1 && r.1, r.2)) (true, s)

/-- Count bytes on the host port (R419). -/
def State.hostPort (s : State) (n : Nat) : State := s.bump Ctr.GRANARY_HOST_PORT_BYTES n

/-- Count bytes on the line port (R419). -/
def State.linePort (s : State) (n : Nat) : State := s.bump Ctr.GRANARY_LINE_PORT_BYTES n

end Sys2Proof.Machine
end

