-- ==== Sys2Proof/Machine/Bell.lean ====
section
/-! DEFINITION. Sys2Proof/Machine/Bell.lean: the bell: its number, its states, parent and root, two-way time transfer
and the clock domains (spec/02: R33 to R56, R60, R67). -/

namespace Sys2Proof.Machine

/-- The bell state, by the codes of R39. -/
def State.bellState (s : State) : Nat := s.rd Reg.BELL_STATUS_STATE

/-- Whether the chiplet acts as root: ROOT_FREE or ROOT_REF (R39). -/
def State.actingRoot (s : State) : Bool := s.bellState == 4 || s.bellState == 5

/-- What lane `k` = 32 × ferry + lane knows of time. -/
def State.lane (s : State) (k : Nat) : LaneTime := mget s.bell.lanes k LaneTime.blank

/-- The state with lane `k`'s time knowledge replaced. -/
def State.setLane (s : State) (k : Nat) (l : LaneTime) : State :=
  { s with bell := { s.bell with lanes := mset s.bell.lanes k l LaneTime.blank } }

/-- The stage of link `k` (R280): 3 EXCHANGE, 4 ACTIVE. -/
def State.stageOf (s : State) (k : Nat) : Nat := s.rd (Reg.FERRY_LANE_STATE_STAGE (k / 32) (k % 32))

/-! ### Reading the bell number (R36) -/

/-- The holding register of the bell number: one a path, one for all on stepping B0 (R36). -/
def State.numKey (s : State) (path : Path) : Nat := if s.rd Reg.TOP_STEPPING_STEPPING = 0xB0 then 0 else path.num

/-- A read of BELL_NUM_LO. -/
def State.bellNumLo (s : State) (path : Path) : Nat × State :=
  (s.bellNum % 2 ^ 32,
   { s with bell := { s.bell with numHold := mset s.bell.numHold (s.numKey path) (s.bellNum / 2 ^ 32 + 1) 0 } })

/-- A read of BELL_NUM_HI: the bits latched for the path, or the live ones where none were. -/
def State.bellNumHi (s : State) (path : Path) : Nat :=
  match mget s.bell.numHold (s.numKey path) 0 with
  | 0 => s.bellNum / 2 ^ 32
  | h + 1 => h

/-- BELL_NUM_LO_READ (R36). -/
def execBellNumLoRead (path : Path) (s : State) : Out :=
  let r := s.bellNumLo path
  ok (r.2.answer path r.1)

/-! ### Candidates and the parent (R40, R41) -/

/-- Whether a lane's bell numbers agree: |θ| < 0.512 µs, known only once both apparent delays are (R583). -/
def LaneTime.agrees (l : LaneTime) : Bool :=
  match l.theta with
  | none => false
  | some t => -1740800 < t && t < 1740800

/-- Whether a far end advertises a building bell (R52). -/
def LaneTime.building (l : LaneTime) : Bool := l.seenHdr && 2 ≤ l.state && l.state ≤ 5

/-- Whether a 64-bell average lies within ±4 ns. -/
def within4 : Option Int → Bool
  | none => false
  | some a => -870400 ≤ a && a ≤ 870400

/-- Whether the far end of lane `k` is a parent candidate (R40; for a configured root's join, R52). -/
def State.candidate (s : State) (k : Nat) : Bool :=
  let l := s.lane k
  let st := s.bellState
  let joining := st == 0 || st == 1
  let rootJoin := joining && s.is Reg.BELL_CTRL_ROOT && l.state == 3
  let own := s.rd Reg.BELL_STATUS_DEPTH
  let depthRule := st == 2 || (st == 3 && s.bell.holdBells < 32)
  k % 32 != 0 && 3 ≤ s.stageOf k && l.seenHdr
    && (rootJoin || ((l.state == 2 || l.state == 4 || l.state == 5) && l.depth ≤ 3))
    && (!depthRule || l.depth < own)
    && (joining || (l.rootId == s.rd Reg.BELL_ROOT_ID_ROOT_ID && l.epoch == s.rd Reg.BELL_STATUS_ROOT_EPOCH))
    && (st == 0 || (st == 1 && s.bell.joinPhase == 1) || l.agrees)

/-- The measured round trip of a lane, with a lane not yet measured ranking last (R41). -/
def State.roundTrip (s : State) (k : Nat) : Nat :=
  let r := s.rd (Reg.BELL_LANE_RTT_RTT k)
  if r = 0 then 2 ^ 32 else r

/-- The lane that a PARENT_PREF entry names, if the entry is valid and its lane meets `p` (R41, step 1). -/
def State.prefLane (s : State) (p : Nat → Bool) : Option Nat :=
  (List.range 4).findSome? (fun n =>
    let k := 32 * s.rd (Reg.BELL_PARENT_PREF_FERRY n) + s.rd (Reg.BELL_PARENT_PREF_LANE n)
    if s.is (Reg.BELL_PARENT_PREF_VALID n) && p k then some k else none)

/-- The best lane among those that meet `p`: lowest depth, then round trip, then ferry and lane (R41). -/
def State.bestLane (s : State) (p : Nat → Bool) : Option Nat :=
  (List.range 256).foldl (fun acc k =>
    if !p k then acc else
    match acc with
    | none => some k
    | some b =>
      let dk := (s.lane k).depth
      let db := (s.lane b).depth
      if dk < db ∨ (dk = db ∧ s.roundTrip k < s.roundTrip b) then some k else some b) none

/-- The parent that R41 chooses among the lanes that meet `p`. -/
def State.chooseAmong (s : State) (p : Nat → Bool) : Option Nat :=
  if s.is Reg.BELL_CTRL_PARENT_AUTO then s.bestLane p
  else match s.prefLane p with
    | some k => some k
    | none => s.bestLane p

/-- The parent that R41 chooses among the candidates. -/
def State.chooseParent (s : State) : Option Nat := s.chooseAmong s.candidate

/-- The parent lane now chosen. -/
def State.parent (s : State) : Option Nat :=
  if s.is Reg.BELL_STATUS_PARENT_VALID then
    some (32 * s.rd Reg.BELL_STATUS_PARENT_FERRY + s.rd Reg.BELL_STATUS_PARENT_LANE)
  else none

/-- Take lane `k` as parent; a parent different from the last counts a change. -/
def State.setParent (s : State) (k : Nat) : State :=
  let s1 := ((s.wr Reg.BELL_STATUS_PARENT_VALID 1).wr Reg.BELL_STATUS_PARENT_FERRY (k / 32)).wr
    Reg.BELL_STATUS_PARENT_LANE (k % 32)
  if s.parent = some k then s1 else s1.bump Ctr.BELL_PARENT_CHANGES 1

/-- No parent is chosen. -/
def State.dropParent (s : State) : State :=
  ((s.wr Reg.BELL_STATUS_PARENT_VALID 0).wr Reg.BELL_STATUS_PARENT_FERRY 0).wr Reg.BELL_STATUS_PARENT_LANE 0

/-- Follow the root that lane `k` names, one level below its far end. -/
def State.follow (s : State) (k : Nat) : State :=
  let l := s.lane k
  ((s.wr Reg.BELL_ROOT_ID_ROOT_ID l.rootId).wr Reg.BELL_STATUS_ROOT_EPOCH l.epoch).wr Reg.BELL_STATUS_DEPTH (l.depth + 1)

/-- Enter LOCKED under the parent on lane `k`; from JOINING the steer becomes the reference of R34. -/
def State.lockTo (s : State) (k : Nat) : State :=
  let s1 := ((s.setParent k).follow k).wr Reg.BELL_STATUS_STATE 2
  let ref := if s.bellState = 1 then s.rdI Reg.BELL_STEER_STEER else s.bell.steerRef
  { s1 with bell := { s1.bell with joinPhase := 0, joinFails := 0, steerRef := ref, holdBells := 0,
                                   longRaised := false, toHoldover := false } }

/-- Return to FREE: no parent, depth 7 (R39, R43). -/
def State.toFree (s : State) : State :=
  let s1 := ((s.dropParent).wr Reg.BELL_STATUS_STATE 0).wr Reg.BELL_STATUS_DEPTH 7
  { s1 with bell := { s1.bell with joinPhase := 0 } }

/-! ### Joining (R43) -/

/-- Start a lane's 64-bell measurement afresh. -/
def State.restartAvg (s : State) (k : Nat) : State :=
  s.setLane k { s.lane k with sum := 0, count := 0, avg := none }

/-- At a boundary, a chiplet in FREE that need not wait and has a candidate begins to join (R43 step 1; a configured
root joins a building that it sees, R52). -/
def State.tryJoin (s : State) : State :=
  if s.bellState ≠ 0 ∨ s.ticks < s.bell.joinAfter then s
  else match s.chooseParent with
    | none => s
    | some k =>
      let s1 := (((s.setParent k).wr Reg.BELL_STATUS_STATE 1).bump Ctr.BELL_JOIN_ATTEMPTS 1).restartAvg k
      { s1 with bell := { s1.bell with joinPhase := 1 } }

/-- BELL_JOIN_STEP (R43 steps 2 to 4): after 64 bells of measurement the steer takes the measured rate within ±100 ppm,
one bell is lengthened, and the boundary after it carries the parent's number. -/
def execBellJoinStep (lengthen num : Nat) (rate : Int) (s : State) : Out :=
  match s.parent with
  | none => ok s
  | some k =>
    if s.bellState = 1 ∧ s.bell.joinPhase = 1 ∧ (s.lane k).avg.isSome ∧ lengthen ≤ 54399 then
      let s1 := ((s.wrI Reg.BELL_STEER_STEER (clampI (-100000) 100000 rate)).bump Ctr.BELL_JOIN_STEPS 1).restartAvg k
      ok { s1 with bell := { s1.bell with joinPhase := 2, nextNum := some (num % bellMod), lengthen := lengthen } }
    else ok s

/-- BELL_JOIN_CHECK (R43 step 5): after 64 more bells the chiplet enters LOCKED, or repeats the join step. A configured
root that has joined takes the next epoch at the next boundary (R52). -/
def execBellJoinCheck (s : State) : Out :=
  match s.parent with
  | none => ok s
  | some k =>
    if s.bellState = 1 ∧ s.bell.joinPhase = 2 ∧ (s.lane k).avg.isSome then
      if within4 (s.lane k).avg then
        let s1 := s.lockTo k
        if s.is Reg.BELL_CTRL_ROOT then ok { s1 with bell := { s1.bell with rootReq := true } } else ok s1
      else ok { s with bell := { s.bell with joinPhase := 1 } }
    else ok s

/-! ### The servo (R34, R48, R49) -/

/-- A new steer within R34: at most 0.5 ppm from the last, ±10 ppm from the reference, ±100 ppm in all. -/
def State.boundSteer (s : State) (want : Int) : Int :=
  let old := s.rdI Reg.BELL_STEER_STEER
  clampI (-100000) 100000 (clampI (s.bell.steerRef - 10000) (s.bell.steerRef + 10000) (clampI (old - 500) (old + 500) want))

/-- Move the steer as the loop asks, within R34; it holds its last value while REFCLK is absent (R67). -/
def State.steer (s : State) : State :=
  if s.is Reg.CLK_STATUS_REFCLK_OK then
    { s with draws := s.draws + 1 }.wrI Reg.BELL_STEER_STEER (s.boundSteer (Config.servoSteer s.draws))
  else s

/-- Compare a lane that is not the parent: TIME_DISAGREE beyond ±12 ns where the far end is at or above this depth
(R48). -/
def State.checkDisagree (s : State) (k : Nat) : State :=
  let l := s.lane k
  match l.avg with
  | none => s
  | some a =>
    if s.stageOf k = 4 ∧ s.parent ≠ some k ∧ k % 32 ≠ 0 ∧ l.depth ≤ s.rd Reg.BELL_STATUS_DEPTH
        ∧ (a < -2611200 ∨ 2611200 < a) then
      ((s.wr Reg.BELL_DISAGREE_FERRY (k / 32)).wr Reg.BELL_DISAGREE_LANE (k % 32)).raise Err.BELL_TIME_DISAGREE
    else s

/-- BELL_SERVO_UPDATE (R48 to R50): once every 64 bells, from the parent lane's averaged θ. -/
def execBellServoUpdate (s : State) : Out :=
  match s.parent with
  | none => ok s
  | some k =>
    match (s.lane k).avg with
    | none => ok s
    | some a =>
      if s.bellState = 2 ∨ s.bellState = 3 then
        let s1 := (s.wrI Reg.BELL_OFFSET_THETA (Config.roundTheta a)).steer
        ok ((List.range 256).foldl (fun acc k' => acc.checkDisagree k') s1)
      else ok s

/-! ### Losing the parent; holdover (R50, R51, R54) -/

/-- PARENT_LOST (R50; from JOINING, R43): the parent is no longer a candidate. -/
def execParentLost (s : State) : Out :=
  match s.parent with
  | none => ok s
  | some k =>
    if s.candidate k then ok s
    else if s.bellState = 1 then
      let n := s.bell.joinFails + 1
      let s1 := s.toFree
      ok { s1 with bell := { s1.bell with joinFails := n, joinAfter := s.ticks + satAt 1048576 (2 ^ satAt 20 (n - 1)) } }
    else if s.bellState = 2 ∨ s.bellState = 3 then
      let s1 := s.dropParent.raise Err.BELL_PARENT_LOST
      ok { s1 with bell := { s1.bell with toHoldover := true } }
    else ok s

/-- HOLDOVER_LONG (R51): raised once a holdover. -/
def execHoldoverLong (s : State) : Out :=
  if s.bellState = 3 ∧ s.rd Reg.BELL_HOLDOVER_LIMIT_LIMIT ≤ s.bell.holdBells ∧ s.bell.longRaised = false then
    ok ({ s with bell := { s.bell with longRaised := true } }.raise Err.BELL_HOLDOVER_LONG)
  else ok s

/-- Act as root with epoch `e`: depth 0, no parent, this node's ID (R52, R54). -/
def State.becomeRoot (s : State) (e : Nat) : State :=
  let st := if s.is Reg.BELL_CTRL_TIME_IN_EN then 5 else 4
  let s1 := (((s.dropParent.wr Reg.BELL_STATUS_STATE st).wr Reg.BELL_STATUS_DEPTH 0).wr Reg.BELL_ROOT_ID_ROOT_ID
    (s.rd Reg.TOP_NODE_ID_NODE_ID)).wr Reg.BELL_STATUS_ROOT_EPOCH (e % 256)
  let s2 := s1.wr Reg.BELL_STATUS_ROOT_DEMOTED 0
  { s2 with bell := { s2.bell with joinPhase := 0, toHoldover := false, holdBells := 0, longRaised := false,
                                   rootReq := false, ppsLast := some s.ticks } }

/-- STANDBY_ROOT_TAKEOVER (R54). -/
def execStandbyRootTakeover (s : State) : Out :=
  if s.is Reg.BELL_CTRL_STANDBY_ROOT && !s.is Reg.BELL_CTRL_ROOT && s.bellState == 3
      && s.rd Reg.BELL_ROOT_WAIT_WAIT ≤ s.bell.holdBells && s.chooseParent.isNone then
    ok (s.becomeRoot (s.rd Reg.BELL_STATUS_ROOT_EPOCH + 1))
  else ok s

/-- ROOT_START_TIMEOUT (R52): a configured root that has seen no building bell within 4,096 bells after its first lane
reached EXCHANGE starts its own, at 0, or at the number the epoch rule gives where TIME_IN disciplines it. -/
def execRootStartTimeout (epochNum : Nat) (s : State) : Out :=
  match s.bell.firstExchange with
  | none => ok s
  | some t =>
    if s.is Reg.BELL_CTRL_ROOT && s.bellState == 0 && t + 4096 ≤ s.ticks
        && (List.range 256).all (fun k => !((s.lane k).building && 3 ≤ s.stageOf k)) then
      let n := if s.is Reg.BELL_CTRL_TIME_IN_EN && s.is Reg.BELL_TIME_EPOCH_HI_VALID then epochNum % bellMod else 0
      let s1 := s.becomeRoot 0
      ok { s1 with bell := { s1.bell with nextNum := some n, steerRef := s.rdI Reg.BELL_STEER_STEER } }
    else ok s

/-- A write of BELL_CTRL (R56): setting ROOT on a LOCKED or HOLDOVER chiplet makes it root at the next boundary;
clearing ROOT on an acting root ends the role there. -/
def State.writeBellCtrl (s : State) (v : Nat) : State :=
  let was := s.is Reg.BELL_CTRL_ROOT
  let s1 := ((((s.wrB Reg.BELL_CTRL_ROOT (bit v 0)).wrB Reg.BELL_CTRL_STANDBY_ROOT (bit v 1)).wrB
    Reg.BELL_CTRL_OUT_EN (bit v 2)).wrB Reg.BELL_CTRL_TIME_IN_EN (bit v 3)).wrB Reg.BELL_CTRL_PARENT_AUTO (bit v 4)
  if !was && bit v 0 && (s.bellState == 2 || s.bellState == 3) then
    { s1 with bell := { s1.bell with rootReq := true } }
  else if was && !bit v 0 then
    { s1 with bell := { s1.bell with rootReq := false, rootClear := s.actingRoot } }
  else s1

/-- BELL_ROOT_SET (R56). -/
def execBellRootSet (val : Word) (s : State) : Out := ok (s.writeBellCtrl val.toNat)

/-- BELL_ROOT_CLEAR (R56). -/
def execBellRootClear (val : Word) (s : State) : Out := ok (s.writeBellCtrl val.toNat)

/-- A write of BELL_PARENT_PREFn: the parent is chosen again (R41). -/
def State.writePref (s : State) (n v : Nat) : State :=
  let s1 := ((s.wrB (Reg.BELL_PARENT_PREF_VALID n) (bit v 31)).wr (Reg.BELL_PARENT_PREF_FERRY n) (bits v 5 3)).wr
    (Reg.BELL_PARENT_PREF_LANE n) (bits v 0 5)
  if s.bellState = 2 ∨ s.bellState = 3 then
    match s1.chooseParent with
    | none => s1
    | some k => if s.bellState = 2 then (s1.setParent k).follow k else s1.setParent k
  else s1

/-- PARENT_PREF_WRITE (R41). -/
def execParentPrefWrite (n : Nat) (val : Word) (s : State) : Out :=
  if n < 4 then ok (s.writePref n val.toNat) else ok s

/-! ### TIME_IN (R53) -/

/-- TIME_IN_EDGE (R53): used only by a root with TIME_IN_EN; an edge beyond ±1 µs of prediction is counted and
ignored. -/
def execTimeInEdge (phase : Int) (s : State) : Out :=
  if s.is Reg.BELL_CTRL_ROOT && s.is Reg.BELL_CTRL_TIME_IN_EN && s.actingRoot then
    let s1 := (s.bump Ctr.BELL_PPS_EDGES 1).wrI Reg.BELL_PPS_STAMP_PHASE phase
    if -13600 ≤ phase ∧ phase ≤ 13600 then
      let s2 := s1.steer.wr Reg.BELL_STATUS_STATE 5
      ok { s2 with bell := { s2.bell with ppsLast := some s.ticks } }
    else
      ok ({ s1 with bell := { s1.bell with ppsLast := some s.ticks } }.bump Ctr.BELL_PPS_REJECTED 1)
  else ok s

/-- TIME_IN_LOST (R53): no edge for 3 s (2,929,688 bells). -/
def execTimeInLost (s : State) : Out :=
  match s.bell.ppsLast with
  | none => ok s
  | some t =>
    if s.bellState = 5 ∧ t + 2929688 ≤ s.ticks then
      ok ((s.wr Reg.BELL_STATUS_STATE 4).raise Err.BELL_TIME_IN_LOST)
    else ok s

/-! ### Roots seen on the line (R55) -/

/-- A different root named by the far end of lane `k` (R55): a newer one whose numbers agree is followed, as is the
lower node ID at equal epochs; numbers that disagree mark two islands. -/
def State.seeRoot (s : State) (k : Nat) : State :=
  let l := s.lane k
  let own := s.rd Reg.BELL_STATUS_ROOT_EPOCH
  let id := s.rd Reg.BELL_ROOT_ID_ROOT_ID
  if k % 32 = 0 ∨ !l.building ∨ s.bellState < 2 then s
  else if l.theta.isNone then s
  else if !l.agrees then
    if l.conflict then s
    else (s.setLane k { l with conflict := true }).raise Err.BELL_BELL_NUMBER_CONFLICT
  else
    let s0 := if l.conflict then s.setLane k { l with conflict := false } else s
    let d := (l.epoch + 256 - own) % 256
    if (1 ≤ d ∧ d ≤ 127) ∨ (d = 0 ∧ l.rootId < id) then
      let names (q : Nat) : Bool :=
        let m := s.lane q
        q % 32 != 0 && 3 ≤ s.stageOf q && m.building && m.state != 3 && m.depth ≤ 3 && m.agrees
          && m.rootId == l.rootId && m.epoch == l.epoch
      match s0.chooseAmong names with
      | none => s0
      | some q =>
        let s1 := (s0.setParent q).follow q
        if s.actingRoot then
          let s2 := (s1.wr Reg.BELL_STATUS_STATE 2).wr Reg.BELL_STATUS_ROOT_DEMOTED 1
          ({ s2 with bell := { s2.bell with steerRef := s.rdI Reg.BELL_STEER_STEER } }).raise Err.BELL_ROOT_CONFLICT
        else s1
    else s0

/-- Two-way time transfer on one landed frame of lane `k` (R45): the measured apparent delay and the far end's TT_SEEN
give θ, its 64-frame sum and the round trip. -/
def State.measure (s : State) (k : Nat) (mine : Nat) (seen : Option Nat) : State :=
  let l := s.lane k
  let seen' := match seen with
    | some v => some v
    | none => l.seen
  match seen' with
  | none => s.setLane k { l with mine := some mine }
  | some v =>
    let own := s.rdI (Reg.BELL_FIBRE_SKEW_SKEW (k / 32))
    let t : Int := 125 * ((mine : Int) - v) - 17 * (l.farSkew - own)
    let sum := l.sum + t
    let l1 := { l with mine := some mine, seen := some v, theta := some t }
    let l2 := if l.count + 1 = 64 then { l1 with sum := 0, count := 0, avg := some sum }
      else { l1 with sum := sum, count := l.count + 1 }
    (s.setLane k l2).wr (Reg.BELL_LANE_RTT_RTT k) (mine + v)

/-- The time fields of a header received on lane `k` (R39, R40, R52). -/
def State.hearTime (s : State) (k st depth root epoch : Nat) : State :=
  let l := s.lane k
  let s1 := s.setLane k { l with seenHdr := true, state := st, depth := depth, rootId := root, epoch := epoch }
  let newer : Bool := match s.bell.highEpoch with
    | none => true
    | some h => let d := (epoch + 256 - h) % 256; 1 ≤ d && d ≤ 127
  let s2 := if 2 ≤ st ∧ st ≤ 5 ∧ newer then { s1 with bell := { s1.bell with highEpoch := some epoch } } else s1
  if s.parent = some k ∧ s.bellState = 2 ∧ root = s.rd Reg.BELL_ROOT_ID_ROOT_ID ∧ depth ≤ 3 then
    s2.wr Reg.BELL_STATUS_DEPTH (depth + 1)
  else s2

/-- What a lane knows of time is lost when it leaves its far end (R57: it returns to DETECT). -/
def State.forgetLane (s : State) (k : Nat) : State :=
  { s with bell := { s.bell with lanes := mdel s.bell.lanes k } }.wr (Reg.BELL_LANE_RTT_RTT k) 0

/-! ### The boundary's part (R35, R50, R52, R56, R60) -/

/-- The bell number and the bell state's changes at a boundary. -/
def State.bellTick (s : State) : State :=
  let num := match s.bell.nextNum with
    | some n => n % bellMod
    | none => (s.bellNum + 1) % bellMod
  let moved := s.bell.nextNum.isSome && num != (s.bellNum + 1) % bellMod
  let tel := if moved then { s.telem with joined := true, first := 1024 * (s.bellNum / 1024) } else s.telem
  let s0 := { s with bellNum := num, ticks := s.ticks + 1, telem := tel,
                     bell := { s.bell with nextNum := none, lengthen := 0 },
                     pins := { s.pins with bellOut := s.is Reg.BELL_CTRL_OUT_EN && s.is Reg.CLK_STATUS_CCK_LOCK } }
  if s0.bell.rootReq && (s0.bellState == 2 || s0.bellState == 3) then
    s0.becomeRoot (match s0.bell.highEpoch with
      | some h =>
        let d := (h + 256 - s0.rd Reg.BELL_STATUS_ROOT_EPOCH) % 256
        (if 1 ≤ d ∧ d ≤ 127 then h else s0.rd Reg.BELL_STATUS_ROOT_EPOCH) + 1
      | none => s0.rd Reg.BELL_STATUS_ROOT_EPOCH + 1)
  else if s0.bell.rootClear then
    let s1 := (s0.wr Reg.BELL_STATUS_STATE 3).dropParent
    { s1 with bell := { s1.bell with rootClear := false, holdBells := 0, longRaised := false,
                                     steerRef := s.rdI Reg.BELL_STEER_STEER } }
  else if s0.bell.toHoldover && (s0.bellState == 2 || s0.bellState == 3) then
    let s1 := s0.wr Reg.BELL_STATUS_STATE 3
    let s2 := { s1 with bell := { s1.bell with toHoldover := false,
                                               holdBells := if s0.bellState = 3 then s0.bell.holdBells else 0 } }
    match s2.chooseParent with
    | none => s2
    | some k => s2.setParent k
  else if s0.bellState = 3 then
    let s1 := { s0 with bell := { s0.bell with holdBells := s0.bell.holdBells + 1 } }.bump Ctr.BELL_HOLDOVER_BELLS 1
    if !s.is Reg.CLK_STATUS_REFCLK_OK then s1
    else match s1.parent with
      | some k => if s1.candidate k && within4 (s1.lane k).avg then s1.lockTo k else s1
      | none => match s1.chooseParent with
        | none => s1
        | some k => s1.setParent k
  else if s0.bellState = 0 then s0.tryJoin
  else s0

/-! ### Clock domains (R67) -/

/-- The lock bit of a domain. -/
def lockFld : ClockDomain → Fld
  | .cck => Reg.CLK_STATUS_CCK_LOCK
  | .lck => Reg.CLK_STATUS_LCK_LOCK
  | .hck => Reg.CLK_STATUS_HCK_LOCK

/-- REFCLK_LOSS (R67): the PLLs enter holdover, the steer is frozen, and a LOCKED chiplet enters HOLDOVER at the next
boundary without PARENT_LOST. -/
def execRefclkLoss (s : State) : Out :=
  if s.is Reg.CLK_STATUS_REFCLK_OK then
    let s1 := (((s.wr Reg.CLK_STATUS_REFCLK_OK 0).wr Reg.CLK_STATUS_CCK_LOCK 0).wr Reg.CLK_STATUS_LCK_LOCK 0).wr
      Reg.CLK_STATUS_HCK_LOCK 0
    let s2 := s1.raise Err.CLK_REFCLK_LOST
    if s.bellState = 2 then ok { s2 with bell := { s2.bell with toHoldover := true } } else ok s2
  else ok s

/-- REFCLK_RETURN (R67): REFCLK has been present for 1,024 consecutive bells. -/
def execRefclkReturn (s : State) : Out := ok (s.wr Reg.CLK_STATUS_REFCLK_OK 1)

/-- PLL_UNLOCK (R67): loss of lock while REFCLK is present. -/
def execPllUnlock (d : ClockDomain) (s : State) : Out :=
  if s.is Reg.CLK_STATUS_REFCLK_OK && s.is (lockFld d) then
    ok (((s.wr (lockFld d) 0).bump Ctr.CLK_PLL_UNLOCKS 1).raise Err.CLK_PLL_UNLOCK)
  else ok s

/-- PLL_RELOCK (R67): the lock bit sets as the PLL reports lock. -/
def execPllRelock (d : ClockDomain) (s : State) : Out :=
  if s.is Reg.CLK_STATUS_REFCLK_OK then ok (s.wr (lockFld d) 1) else ok s

end Sys2Proof.Machine
end

