-- ==== Sys2Proof/Machine/Sheaf.lean ====
section
/-! DEFINITION. Sys2Proof/Machine/Sheaf.lean: sheaves, frame headers and trailers byte by byte (spec/10 R270 to R277,
R284, R291), tallies (R275, R384) and the fields of the schedule tables (spec/12 R326 to R330, R337). -/

namespace Sys2Proof.Machine

/-! ### Sheaves -/

/-- Byte 6 of a sheaf (R274). -/
def flagByte (x : Sheaf) : Nat :=
  x.hops % 16 + 16 * b2n x.replay + 32 * b2n x.detoured + 64 * b2n x.hostTally + 128 * b2n x.last

/-- Pad bytes with zeros to `n`, and cut them there. -/
def padTo (n : Nat) (l : List Byte) : List Byte := l.take n ++ List.replicate (n - l.length) 0

/-- Sheaf bytes 0–5 (R274). -/
def headBytes (x : Sheaf) : List Byte := leBytes 3 (x.flow % 2 ^ 20 + 2 ^ 20 * (x.kind % 16)) ++ leBytes 3 x.seq

/-- Sheaf bytes 7–523 (R274). -/
def bodyBytes (x : Sheaf) : List Byte := leBytes 2 x.tag ++ leBytes 3 (x.dest % 2 ^ 20) ++ padTo 512 x.payload

/-- The tally of a sheaf: CRC-32C of bytes 0–5, a zero byte, and bytes 7–523 (R275). -/
def sheafTally (x : Sheaf) : Nat := crc32c (headBytes x ++ [0] ++ bodyBytes x)

/-- The 528 bytes of a sheaf (R274). -/
def sheafBytes (x : Sheaf) : List Byte :=
  headBytes x ++ leBytes 1 (flagByte x) ++ bodyBytes x ++ leBytes 4 x.tally

/-- A sheaf read from its 528 bytes (R274). -/
def parseSheaf (l : List Byte) : Sheaf :=
  let num (o n : Nat) : Nat := ofLe ((l.drop o).take n)
  let b6 := num 6 1
  { flow := num 0 3 % 2 ^ 20, kind := num 0 3 / 2 ^ 20, seq := num 3 3, hops := b6 % 16, replay := bit b6 4,
    detoured := bit b6 5, hostTally := bit b6 6, last := bit b6 7, tag := num 7 2, dest := num 9 3 % 2 ^ 20,
    payload := padTo 512 (l.drop 12 |>.take 512), tally := num 524 4 }

/-- A sheaf with its tally made (R381, R384). -/
def tallied (x : Sheaf) : Sheaf := { x with payload := padTo 512 x.payload, tally := sheafTally x }

/-- A sheaf with every field 0. -/
def Sheaf.empty : Sheaf :=
  { flow := 0, kind := 0, seq := 0, hops := 0, replay := false, detoured := false, hostTally := false, last := false,
    tag := 0, dest := 0, payload := [], tally := 0 }

/-- A field of a payload, little-endian. -/
def payNum (x : Sheaf) (o n : Nat) : Nat := ofLe ((x.payload.drop o).take n)

/-! ### Sequences (R305) -/

/-- `a` is ahead of `b` among 24-bit sequences (R305). -/
def seqAhead (a b : Nat) : Bool :=
  let d := (a + 2 ^ 24 - b % 2 ^ 24) % 2 ^ 24
  1 ≤ d && d < 2 ^ 23

/-- `new` is newer than `old` among 32-bit versions or counts (R328, R347). -/
def newer32 (new old : Nat) : Bool :=
  let d := (new + 2 ^ 32 - old % 2 ^ 32) % 2 ^ 32
  1 ≤ d && d < 2 ^ 31

/-! ### Headers and trailers -/

/-- A header or trailer field of `n` bytes at `o`. -/
def hdrNum (h : List Byte) (o n : Nat) : Nat := ofLe ((h.drop o).take n)

/-- Whether a header's HDR_CRC checks (R270). -/
def hdrOk (h : List Byte) : Bool := h.length == 96 && crc32c (h.take 92) == hdrNum h 92 4

/-- Whether a trailer's TRL_CRC checks (R272). -/
def trlOk (t : List Byte) : Bool := t.length == 64 && crc32c (t.take 60) == hdrNum t 60 4

/-- The link a byte names: [2:0] ferry, [7:3] link (R308). -/
def linkOfByte (b : Nat) : Nat := 32 * (b % 8) + b / 8 % 32

/-- The byte that names a link. -/
def byteOfLink (k : Nat) : Nat := k / 32 + 8 * (k % 32)

/-- An identity block's bytes are valid when their CRC checks (R284). -/
def idOk (b : List Byte) : Bool := b.length == 32 && crc32c (b.take 28) == hdrNum b 28 4

/-! ### Table entries (R326, R329, R337) -/

/-- A number of `n` bytes in a table view (R326). -/
def tblNum (t : Map Byte) (o n : Nat) : Nat := ofLe (readBytes t 0 o n)

/-- The VERSION of a set (R328). -/
def setVersion (t : Map Byte) : Nat := tblNum t 0 4

/-- One 8-byte entry of the receive table for link `k`, slot `n` (R326). -/
def rxEntry (t : Map Byte) (k n : Nat) : Nat := tblNum t (0x1000 + 8 * (24 * k + n)) 8

/-- One 8-byte entry of the transmit table (R326). -/
def txEntry (t : Map Byte) (k n : Nat) : Nat := tblNum t (0xD000 + 8 * (24 * k + n)) 8

/-- The detour entry of link `k` (R308). -/
def detourEntry (t : Map Byte) (k : Nat) : Nat := tblNum t (0x19000 + 8 * k) 8

/-- The open-route entry of a destination (R343). -/
def routeEntry (t : Map Byte) (i : Nat) : Nat := tblNum t (0x22000 + 4 * i) 4

/-- The group entry `g`, 64 bytes (R451). -/
def groupBytes (t : Map Byte) (g : Nat) : List Byte := readBytes t 0 (0x40000 + 64 * g) 64

/-- The fields of a schedule entry (R329). -/
def entAction (e : Nat) : Nat := bits e 20 4
def entFlow (e : Nat) : Nat := bits e 0 20
def entTag (e : Nat) : Nat := bits e 24 16
def entGroup (e : Nat) : Nat := bits e 40 12
def entLand (e : Nat) : Nat := bits e 52 10
/-- FORWARD on receive: the out link and out slot. -/
def entOutLink (e : Nat) : Nat := 32 * bits e 24 3 + bits e 27 5
def entOutSlot (e : Nat) : Nat := bits e 32 5

/-- A landing entry (R337). -/
structure LandEntry where
  base   : Nat
  valid  : Bool
  host   : Bool
  depth  : Nat
  flow   : Nat
  first  : Nat
  hostDepth : Nat
  window : Nat
  deriving DecidableEq, Repr

/-- The 32 bytes of a landing entry. -/
def landBytes (t : Map Byte) (i : Nat) : List Byte := readBytes t 0 (0x1A000 + 32 * i) 32

/-- Landing entry `i` of a set; an invalid one is not VALID (R330, R337). -/
def landEntry (t : Map Byte) (i : Nat) : LandEntry :=
  let b := landBytes t i
  let base := hdrNum b 0 4
  let fl := hdrNum b 4 1
  let depth := hdrNum b 5 1 % 16
  let window := hdrNum b 16 5
  let bad := depth < 1 || 12 < depth || base % 16 != 0 || base < 0x10000000 || 0x1A000000 < base + 528 * 2 ^ depth
    || (bit fl 1 && window % 512 != 0)
  { base := base, valid := bit fl 0 && !bad, host := bit fl 1, depth := depth, flow := hdrNum b 6 3 % 2 ^ 20,
    first := hdrNum b 9 3, hostDepth := hdrNum b 12 1 % 32, window := window }

/-- Whether landing entry `i` is marked VALID and invalid (R337). -/
def landBad (t : Map Byte) (i : Nat) : Bool := bit (hdrNum (landBytes t i) 4 1) 0 && !(landEntry t i).valid

/-- Whether receive entry `e` of link `k` is invalid (R330). -/
def rxBad (t : Map Byte) (k e : Nat) : Bool :=
  let a := entAction e
  5 < a || (k % 32 == 0 && a != 0) || ((a == 3 || a == 4) && !(landEntry t (entLand e)).valid)
    || (a == 5 && entOutLink e % 32 == 0)

/-- How many transmit entries of link `k` are REPLAY. -/
def replayEntries (t : Map Byte) (k : Nat) : Nat :=
  ((List.range 24).filter (fun n => entAction (txEntry t k n) == 2)).length

/-- Whether transmit entry `e` of link `k`, slot `n`, is invalid (R330). -/
def txBad (t : Map Byte) (k n e : Nat) : Bool :=
  let a := entAction e
  let r := replayEntries t k
  5 < a || a == 4 || (k % 32 == 0 && a != 0) || (a == 2 && (4 < r || n < 24 - r))

/-- The receive entry as the machine takes it: an invalid one is OFF (R330). -/
def rxOf (t : Map Byte) (k n : Nat) : Nat :=
  let e := rxEntry t k n
  if rxBad t k e then 0 else e

/-- The transmit entry as the machine takes it. -/
def txOf (t : Map Byte) (k n : Nat) : Nat :=
  let e := txEntry t k n
  if txBad t k n e then 0 else e

/-- Whether an open-route entry is invalid (R330). -/
def routeBad (e : Nat) : Bool :=
  bits e 18 14 != 0 || (bit e 16 && bits e 3 5 == 0) || (bit e 17 && bits e 11 5 == 0)

/-- Whether a detour entry may be used as written: VALID, not of L0, not over its own link (R308). -/
def detourBad (k e : Nat) : Bool := bit e 0 && (k % 32 == 0 || linkOfByte (bits e 8 8) == k)

end Sys2Proof.Machine
end

