-- ==== Sys2Proof/Machine/Tasks.lean ====
section
/-! DEFINITION. Sys2Proof/Machine/Tasks.lean: task slots and what every task's life needs: its descriptor's fields, its
sheaves in this node's stores, open sheaves of this node, the abort notice, finishing and stopping (spec/13 R358, R367,
R368; spec/11 R318, R319; spec/12 R343; spec/17 R468). -/

namespace Sys2Proof.Machine

/-! ### Slots and descriptors -/

/-- Task slot `n`. -/
def State.task (s : State) (n : Nat) : Task := mget s.tasks n Task.free

/-- The state with task slot `n` replaced. -/
def State.setTask (s : State) (n : Nat) (t : Task) : State := { s with tasks := mset s.tasks n t Task.free }

/-- The slots that are not FREE, in ascending order. -/
def State.liveSlots (s : State) : List Nat := (List.range 64).filter (fun n => (s.task n).st != 0)

/-- A field of `n` bytes at offset `o` of a descriptor (R358). -/
def descNum (d : List Byte) (o n : Nat) : Nat := ofLe ((d.drop o).take n)

/-- OPCODE, FLAGS, VECTOR, TAG, GROUP, TIMEOUT, START_BELL and the region of a descriptor (R358). -/
def descOp (d : List Byte) : Nat := descNum d 0 1
def descFlag (d : List Byte) (b : Nat) : Bool := bit (descNum d 1 1) b
def descVector (d : List Byte) : Nat := descNum d 2 1 % 32
def descTag (d : List Byte) : Nat := descNum d 4 4
def descGroup (d : List Byte) : Nat := descNum d 8 2 % 4096
def descTimeout (d : List Byte) : Nat := descNum d 12 4
def descStart (d : List Byte) : Nat := descNum d 16 6
def descRegion (d : List Byte) : Nat := descNum d 24 4
def descRegionSize (d : List Byte) : Nat := descNum d 28 4

/-- Whether an opcode's task uses GROUP (R359). -/
def usesGroup (op : Nat) : Bool := op == 2 || op == 6 || op == 7

/-- The tag of a slot's task, and its 16-bit task tag. -/
def State.tagOf (s : State) (n : Nat) : Nat := descTag (s.task n).desc
def State.taskTag (s : State) (n : Nat) : Nat := s.tagOf n % 65536

/-- The occurrence of a raise that concerns slot `n`'s task. -/
def State.occOf (s : State) (n : Nat) : Occ := { tag := .tag32 (s.tagOf n) }

/-- The slot of the live task with a task tag. -/
def State.slotOfTag (s : State) (tag : Nat) : Option Nat := s.liveSlots.find? (fun n => s.taskTag n == tag)

/-! ### This node's links and neighbours -/

/-- Bring-up and traffic of link `k`. -/
def State.link (s : State) (k : Nat) : Link := mget s.links k Link.blank
def State.setLink (s : State) (k : Nat) (l : Link) : State := { s with links := mset s.links k l Link.blank }
def State.hop (s : State) (k : Nat) : Hop := mget s.hops k Hop.blank
def State.setHop (s : State) (k : Nat) (h : Hop) : State := { s with hops := mset s.hops k h Hop.blank }
def State.credit (s : State) (k : Nat) : Credit := mget s.sched.credits k Credit.blank
def State.setCredit (s : State) (k : Nat) (c : Credit) : State :=
  { s with sched := { s.sched with credits := mset s.sched.credits k c Credit.blank } }

/-- This node's ID. -/
def State.nodeId (s : State) : Nat := s.rd Reg.TOP_NODE_ID_NODE_ID

/-- Whether link `k` is ACTIVE. -/
def State.isActive (s : State) (k : Nat) : Bool := s.stageOf k == 4

/-- The node at the far end of link `k`, as FERRY_FAR has it. -/
def State.farNode (s : State) (k : Nat) : Nat := s.rd (Reg.FERRY_FAR0_NODE (k / 32) (k % 32))

/-- The link on which an open sheaf for `dest` leaves (R343, steps 2 and 3). -/
def State.routeOpen (s : State) (dest : Nat) : Option Nat :=
  match (List.range 256).find? (fun k => k % 32 != 0 && s.isActive k && s.farNode k == dest) with
  | some k => some k
  | none =>
    let e := routeEntry s.active.sched (dest / 256 % 4096)
    if routeBad e then none
    else if bit e 16 && s.isActive (linkOfByte (bits e 0 8)) then some (linkOfByte (bits e 0 8))
    else if bit e 17 && s.isActive (linkOfByte (bits e 8 8)) then some (linkOfByte (bits e 8 8))
    else none

/-- An open sheaf for which there is no route is discarded (R343, step 4). -/
def State.noRoute (s : State) (x : Sheaf) : State :=
  (s.bump Ctr.WEIR_NO_ROUTE_DROPS 1).raise Err.WEIR_NO_ROUTE { tag := .tag16 x.tag }

/-- The piece that a sheaf of a PUT, GET or SEND carries (R360): its TARGET, or a GET_REQ's RETURN, from the task's. -/
def State.pieceOf (s : State) (n : Nat) (x : Sheaf) : Nat :=
  let d := (s.task n).desc
  match descOp d with
  | 3 => (payNum x 0 8 - descNum d 40 8) / 496
  | 4 => (payNum x (if x.kind = 4 then 0 else 16) 8 - descNum d 40 8) / 496
  | _ => (payNum x 0 8 - descNum d 48 8) / 496

/-- A sheaf that its origin discards: its task ends with OPEN_DROPPED once the others are acknowledged (R360). -/
def State.dropPiece (s : State) (own : Nat) (x : Sheaf) : State :=
  if own < 64 ∧ (s.task own).st = 2 then
    s.setTask own { s.task own with dropped := some ((s.task own).dropped.getD (s.pieceOf own x)) }
  else s

/-- Originate an open sheaf (R343, R384): the next SEQ of the node's counter, its tally, and its route. One for this
node goes to its own Weir cells, which hold it until it is applied. -/
def State.sendOpen (s : State) (own : Nat) (x : Sheaf) : State :=
  let y := tallied { x with flow := 0, seq := s.sched.openSeq }
  let s1 := { s with sched := { s.sched with openSeq := (s.sched.openSeq + 1) % 2 ^ 24 } }.bump Ctr.TALLY_TALLIES_MADE 1
  if x.dest = s.nodeId then
    { s1 with sched := { s1.sched with
      cells := s1.sched.cells ++ [{ link := 256, at' := s.ticks, out := none, sheaf := y }] } }
  else match s.routeOpen x.dest with
    | none => (s1.noRoute y).dropPiece own y
    | some k =>
      { s1 with sched := { s1.sched with opens := s1.sched.opens ++ [{ own := own, out := k, at' := s.ticks, sheaf := y }] } }

/-! ### The sheaves of a task in this node's stores (R318, R319, R368) -/

/-- Keep the sheaves of a list that slot `n` does not own. -/
def dropOwn (n : Nat) (l : List Held) : List Held := l.filter (fun h => h.own != n)

/-- A hop without the sheaves of slot `n`. -/
def Hop.flush (h : Hop) (n : Nat) : Hop :=
  { h with buf := dropOwn n h.buf, queue := dropOwn n h.queue, held := dropOwn n h.held, fwd := dropOwn n h.fwd,
           folded := dropOwn n h.folded, placed := h.placed.filter (fun p => p.2.own != n) }

/-- How many sheaves a hop holds. -/
def Hop.count (h : Hop) : Nat :=
  h.buf.length + h.queue.length + h.held.length + h.fwd.length + h.folded.length + h.placed.length

/-- Show a link's queues in FERRY_REPLAY (R324). -/
def State.showHop (s : State) (k : Nat) : State :=
  let h := s.hop k
  (s.wr (Reg.FERRY_REPLAY_QUEUED (k / 32) (k % 32)) (satAt 48 h.queue.length)).wr
    (Reg.FERRY_REPLAY_HELD (k / 32) (k % 32)) (satAt 288 (h.buf.length + h.held.length))

/-- Flush every sheaf of slot `n` from this node's stores, counting them (R318, R368). -/
def State.flushTask (s : State) (n : Nat) : State :=
  let t := s.task n
  let s1 := s.hops.foldl (fun (acc : State) q =>
    let h := acc.hop q.1
    let h' := h.flush n
    if h'.count = h.count then acc
    else ((acc.bump Ctr.SHEPHERD_FLUSHED_SHEAVES (h.count - h'.count)).setHop q.1 h').showHop q.1) s
  let opens := s1.sched.opens.filter (fun o => o.own != n)
  let gone := t.sendq.length + (s1.sched.opens.length - opens.length)
  ({ s1 with sched := { s1.sched with opens := opens } }.setTask n { s1.task n with sendq := [] }).bump
    Ctr.SHEPHERD_FLUSHED_SHEAVES gone

/-- The tags of the local tasks with sheaves on link `k`, in ascending slot order (R319). -/
def State.linkTags (s : State) (k : Nat) : List EntryTag :=
  let h := s.hop k
  let owns := (h.buf ++ h.queue ++ h.held ++ h.fwd ++ h.folded).map (·.own)
  (s.liveSlots.filter (fun n => owns.contains n)).map (fun n => .tag32 (s.tagOf n))

/-! ### Groups and the abort notice (R451, R454, R468) -/

/-- The capture area of slot `n` (R454). -/
def State.captured (s : State) (n : Nat) : List Byte := readBytes s.miller.dmem 0 (0x1E000 + 64 * n) 64

/-- Fields of a group entry (R451). -/
def grpRoot (g : List Byte) : Bool := bit (hdrNum g 0 1) 1
def grpChildren (g : List Byte) : Nat := hdrNum g 1 1 % 8
def grpSize (g : List Byte) : Nat := hdrNum g 2 3 % 2 ^ 19
def grpRank (g : List Byte) : Nat := hdrNum g 5 3 % 2 ^ 18
def grpParent (g : List Byte) : Nat := hdrNum g 8 3 % 2 ^ 20
def grpUpFlow (g : List Byte) : Nat := hdrNum g 11 3 % 2 ^ 20
def grpDownLand (g : List Byte) : Nat := hdrNum g 14 2 % 1024
def grpSuccFlow (g : List Byte) : Nat := hdrNum g 16 3 % 2 ^ 20
def grpPredLand (g : List Byte) : Nat := hdrNum g 19 2 % 1024
def grpChild (g : List Byte) (i : Nat) : Nat := hdrNum g (22 + 7 * i) 7
def grpChildNode (g : List Byte) (i : Nat) : Nat := grpChild g i % 2 ^ 20
def grpDownFlow (g : List Byte) (i : Nat) : Nat := bits (grpChild g i) 20 20
def grpUpLand (g : List Byte) (i : Nat) : Nat := bits (grpChild g i) 40 10

/-- The neighbours of a member in its tree: parent and children. -/
def grpNeighbours (g : List Byte) : List Nat :=
  (if grpRoot g then [] else [grpParent g]) ++ (List.range (min 6 (grpChildren g))).map (grpChildNode g)

/-- One abort notice as an ABORT sheaf (R468). -/
def abortSheaf (group inst origin reason tag dest : Nat) : Sheaf :=
  { Sheaf.empty with kind := 7, tag := tag, dest := dest,
                     payload := leBytes 2 group ++ leBytes 2 inst ++ leBytes 3 origin ++ leBytes 1 reason }

/-- Send the abort notice of slot `n`'s group task, once per group and instance, to every neighbour of the tree that
has not sent one (R468). A task that never started has captured no group and has no instance. -/
def State.abortNotice (s : State) (n origin reason : Nat) : State :=
  let t := s.task n
  let g := descGroup t.desc
  if !usesGroup (descOp t.desc) || t.st == 1 || s.groups.told.contains (g, t.inst) then s
  else
    let dests := (grpNeighbours (s.captured n)).filter (fun d => !s.groups.heard.contains (g, t.inst, d))
    let s1 := { s with groups := { s.groups with told := s.groups.told ++ [(g, t.inst)] } }
    dests.foldl (fun acc d => acc.sendOpen 64 (abortSheaf g t.inst origin reason (s.taskTag n) d)) s1

/-! ### Finishing (R368, R372, R378) -/

/-- The statuses after which a task's sheaves are flushed and its group is told (R368, R392). -/
def endsBadly (status : Nat) : Bool := 4 ≤ status && status ≤ 9

/-- Count a task's end on the TASK page and raise its error (R378). -/
def State.countEnd (s : State) (n status : Nat) : State :=
  match status with
  | 0 => s.bump Ctr.TASK_TASKS_OK 1
  | 1 => s.bump Ctr.TASK_TASKS_RECOVERED 1
  | 2 => s.bump Ctr.TASK_TASKS_DEGRADED 1
  | 4 => (s.bump Ctr.TASK_TASKS_ABORTED 1).raise Err.TASK_TASK_ABORTED (s.occOf n)
  | 5 => s.bump Ctr.TASK_TASKS_PEER_ABORTED 1
  | 6 => (s.bump Ctr.TASK_TASKS_TIMED_OUT 1).raise Err.TASK_TASK_TIMEOUT (s.occOf n)
  | _ => s

/-- The bytes of slot `n`'s Granary region become undefined (R142, R372, R444), each of them a free value. -/
def State.undefineRegion (s : State) (n : Nat) : State :=
  let d := (s.task n).desc
  let s1 := (List.range (descRegionSize d)).foldl (fun (acc : State) i =>
    acc.granaryPoke (descRegion d + i) [BitVec.ofNat 8 (Config.freeVec (acc.draws + i))]) s
  { s1 with draws := s1.draws + descRegionSize d }

/-- Whether a task writes results into a region: COLLECTIVE, GET, RUN, SCAN, SELECT. -/
def writesRegion (d : List Byte) : Bool :=
  [2, 4, 6, 7].contains (descOp d) || (descOp d == 5 && !bit (descNum d 56 1) 0)

/-- The results of a started task that ends with another status than OK, OK_RECOVERED or DEGRADED are undefined (R372). -/
def State.loseResults (s : State) (n status : Nat) : State :=
  if 3 ≤ status && (s.task n).st != 1 && writesRegion (s.task n).desc then s.undefineRegion n else s

/-- A task reaches DONE with a status; OK becomes OK_RECOVERED where a sheaf of it was replayed or detoured (R319,
R368). Its held accumulators are released with its slot. -/
def State.finish (s : State) (n status detail : Nat) : State :=
  let t := s.task n
  if t.st = 0 ∨ t.st = 4 then s
  else
    let st := if status = 0 ∧ t.recovered then 1 else status
    let origin := if st = 5 then detail % 2 ^ 20 else s.nodeId
    let s0 := s.loseResults n st
    let s1 := if endsBadly st then (s0.abortNotice n origin st).flushTask n else s0
    let s2 : State := { s1 with telem := { s1.telem with tasks := s1.telem.tasks + 1 } }
    (s2.setTask n { s2.task n with st := 4, status := st, detail := detail, stop := none }).countEnd n st

/-- Ask that a task be stopped at its next step point with a status; one that has not started stops at once (R369). A
task already stopping keeps its first reason. -/
def State.askStop (s : State) (n status detail : Nat) : State :=
  let t := s.task n
  if t.st = 1 then (s.setTask n { t with progress := 0 }).finish n status detail
  else if t.st = 2 then s.setTask n { t with st := 3, stop := some (status, detail) }
  else s

/-- Whether a descriptor is a PUT, a GET or a PROGRAM in SEND mode. -/
def isTransfer (d : List Byte) : Bool := descOp d == 3 || descOp d == 4 || (descOp d == 5 && bit (descNum d 56 1) 0)

/-- A failure of a task's data or arithmetic: DATA_ERROR or DATA_SUSPECT takes the place of an abort that is being
carried out (R392). A PUT, GET or SEND finishes with DATA_ERROR in the bell that finds it (R368, R383); the others at their
step point. -/
def State.failTask (s : State) (n status : Nat) : State :=
  let t := s.task n
  if (t.st = 2 ∨ t.st = 3) ∧ status = 9 ∧ isTransfer t.desc then s.finish n 9 0
  else if t.st = 2 ∨ t.st = 3 then s.setTask n { t with st := 3, stop := some (status, 0) } else s

/-- Whether a task's count has reached its TIMEOUT (R367). -/
def State.timedOut (s : State) (n : Nat) : Bool :=
  let t := s.task n
  !s.frozen && (t.st == 2 || t.st == 3) && descTimeout t.desc != 0 && descTimeout t.desc ≤ t.counted

/-- The step point of a task: a time-out comes before a stop that was asked for (R318, R369). Answers whether the task
ended. -/
def State.stepPoint (s : State) (n : Nat) : Bool × State :=
  match (s.task n).stop with
  | none => (false, s)
  | some (status, detail) =>
    if s.timedOut n && status != 8 && status != 9 then (true, s.finish n 6 (s.task n).counted)
    else (true, s.finish n status detail)

/-- TASK_TIMEOUT (R318): the task's sheaves are flushed, its group is told, and it completes with TIMEOUT. -/
def execTaskTimeout (slot : Nat) (s : State) : Out :=
  if slot < 64 ∧ s.timedOut slot then ok (s.finish slot 6 (s.task slot).counted) else ok s

/-! ### Regions (R415) -/

/-- Whether a write of `len` bytes at `a` lies wholly within slot `n`'s region. -/
def State.inRegion (s : State) (n a len : Nat) : Bool :=
  let d := (s.task n).desc
  descRegionSize d != 0 && descRegion d ≤ a && a + len ≤ descRegion d + descRegionSize d

/-- A write outside the region: not performed, recorded, and the task is aborted at its next step point with
DATA_SUSPECT (R415). -/
def State.regionViolation (s : State) (n core a : Nat) : State :=
  let s1 := (((s.wr Reg.MILL_REGION_LAST_VALID 1).wr Reg.MILL_REGION_LAST_SLOT n).wr Reg.MILL_REGION_LAST_CORE core).wr
    Reg.MILL_REGION_ADDR_ADDR a
  ((s1.bump Ctr.MILL_REGION_VIOLATIONS 1).raise Err.MILL_REGION_VIOLATION (s.occOf n)).failTask n 8

/-- A Granary write that a task makes or causes (R409, R415). Answers whether it was performed. -/
def State.taskWrite (s : State) (n core a : Nat) (d : List Byte) : Bool × State :=
  if !s.inRegion n a d.length then (false, s.regionViolation n core a)
  else
    let r := s.granaryWrite .mill a d (s.occOf n)
    if r.1 then r else (false, r.2.failTask n 9)

end Sys2Proof.Machine
end

