-- ==== Sys2Proof/Machine/Links.lean ====
section
/-! DEFINITION. Sys2Proof/Machine/Links.lean: bring-up of the links (spec/10 R263, R264, R280 to R296): loss of signal,
training frames, the equaliser, the stages and the ways back to DETECT. -/

namespace Sys2Proof.Machine

/-! ### Numbering (R263, R264) -/

/-- The transmit wavelength of link `j`: its own number, or its mirror on a reversed ferry. -/
def State.txWave (s : State) (f j : Nat) : Nat :=
  if s.is (Reg.FERRY_STATUS_REVERSED f) then (32 - j) % 32 else j

/-- The receive wavelength of link `j` (R264). -/
def State.rxWave (s : State) (f j : Nat) : Nat := (32 - s.txWave f j) % 32

/-- The link that receives on wavelength `w`. -/
def State.linkOfWave (s : State) (f w : Nat) : Nat :=
  if s.is (Reg.FERRY_STATUS_REVERSED f) then w else (32 - w) % 32

/-- The state of loop kind `q` of wavelength `w` in the owner Hearth: 3 LOCKED (R228). -/
def State.loopSt (s : State) (f w q : Nat) : Nat :=
  match s.owner with
  | none => 0
  | some h => ((s.hearth h).loop (4 * (32 * f + w) + q)).st

/-- The fields that are kept for each link of a ferry. -/
def linkFields (f j : Nat) : List Fld :=
  [Reg.FERRY_LANE_STATE_LAST_REASON f j, Reg.FERRY_LANE_STATE_FAR_STAGE f j, Reg.FERRY_LANE_STATE_EQ_CONVERGED f j,
   Reg.FERRY_LANE_STATE_SWAP f j, Reg.FERRY_LANE_STATE_ROT f j, Reg.FERRY_LANE_STATE_LOS f j,
   Reg.FERRY_LANE_STATE_BACKOFF f j, Reg.FERRY_LANE_STATE_STAGE f j, Reg.FERRY_LANE_ATTEMPTS_ATTEMPTS f j,
   Reg.FERRY_LANE_BACKOFF_BELLS f j, Reg.FERRY_EQ_TAPS0_I1_I4 f j, Reg.FERRY_EQ_TAPS1_Q1_Q4 f j,
   Reg.FERRY_EQ_TAPS2_I5 f j, Reg.FERRY_EQ_TAPS2_Q5 f j, Reg.FERRY_EQ_TAPS3_ERR_RMS f j,
   Reg.FERRY_EQ_TAPS3_PHASE f j]

/-- Exchange what links `j` and 32 − `j` hold: the wavelengths get each other's link number (R263, R286). -/
def State.mirrorPair (s : State) (f j : Nat) : State :=
  let i := 32 - j
  let vals := (linkFields f j).map s.rd
  let others := (linkFields f i).map s.rd
  let put (acc : State) (fs : List Fld) (vs : List Nat) : State :=
    (fs.zip vs).foldl (fun a p => a.wr p.1 p.2) acc
  let s1 := put (put s (linkFields f j) others) (linkFields f i) vals
  (s1.setLink (32 * f + j) (s.link (32 * f + i))).setLink (32 * f + i) (s.link (32 * f + j))

/-- Set REVERSED, renumbering the links of a ferry where it changes. -/
def State.setReversed (s : State) (f : Nat) (r : Bool) : State :=
  if s.is (Reg.FERRY_STATUS_REVERSED f) = r then s
  else ((List.range 15).foldl (fun acc j => acc.mirrorPair f (j + 1)) s).wrB (Reg.FERRY_STATUS_REVERSED f) r

/-- Settle the orientation of a ferry (R286). -/
def State.orient (s : State) (f : Nat) (r : Bool) : State := (s.setReversed f r).wr (Reg.FERRY_STATUS_REV_VALID f) 1

/-! ### Stages -/

/-- Enter a stage, and keep FERRY_ACTIVE. -/
def State.enter (s : State) (k st : Nat) : State :=
  let f := k / 32
  let j := k % 32
  let s1 := s.wr (Reg.FERRY_LANE_STATE_STAGE f j) st
  let m := s.rd (Reg.FERRY_ACTIVE_LINKS f)
  (s1.setLink k { s.link k with since := s.ticks }).wr (Reg.FERRY_ACTIVE_LINKS f)
    (if st = 4 then setBit m j else clearBit m j)

/-- With every link of a ferry in DETECT, its orientation is undecided again and CABLING clears (R286, R297). -/
def State.settle (s : State) (f : Nat) : State :=
  if (List.range 32).all (fun j => s.stageOf (32 * f + j) == 0) then
    ((s.setReversed f false).wr (Reg.FERRY_STATUS_REV_VALID f) 0).wr (Reg.FERRY_STATUS_CABLING f) 0
  else s

/-- What becomes of a back-off when a link returns to DETECT (R281, R294 to R296). -/
inductive BackOff where
  | doubled | same | one
  deriving DecidableEq, Repr

/-- The traffic of a link that leaves ACTIVE (R304, R310): its replay buffer and queue become held sheaves in the order
of their first sending, with no replays counted, and its credits end (R347). -/
def State.leaveActive (s : State) (k at' : Nat) : State :=
  let h := s.hop k
  let all := h.held ++ (h.buf ++ h.queue).mergeSort (fun a b => a.first ≤ b.first)
  let kept := all.map (fun x => { x with replays := 0, spared := false })
  let s1 := (s.setHop k { h with buf := [], queue := [], held := kept, landed := none, answers := none, acks := [],
                                 naks := [], nakNow := false, failing := false, leftAt := some at', backAt := none,
                                 decided := false }).showHop k
  s1.setCredit k { Credit.blank with cells := (s.credit k).cells }

/-- A link returns to DETECT (R281, R294). What it knew of its far end is forgotten; a link that was ACTIVE keeps its
sheaves. -/
def State.toDetect (s : State) (k reason : Nat) (b : BackOff) (at' : Nat) : State :=
  let f := k / 32
  let j := k % 32
  let l := s.link k
  let was := s.stageOf k
  let bells := match b with
    | .doubled => satAt 1048576 (2 ^ satAt 20 l.fails)
    | .same => s.rd (Reg.FERRY_LANE_BACKOFF_BELLS f j)
    | .one => 1
  let l1 : Link := { Link.blank with
    clear := l.clear, dark := l.dark, rmsRun := l.rmsRun, eq := l.eq
    fails := match b with
      | .doubled => l.fails + 1
      | .same => l.fails
      | .one => 1
    backoffTo := match b with
      | .same => none
      | _ => some (s.ticks + bells) }
  let s1 := ((s.setLink k l1).enter k 0).forgetLane k
  let s2 := [(Reg.FERRY_LANE_STATE_LAST_REASON f j, reason), (Reg.FERRY_LANE_STATE_EQ_CONVERGED f j, 0),
      (Reg.FERRY_LANE_STATE_SWAP f j, 0), (Reg.FERRY_LANE_STATE_ROT f j, 0),
      (Reg.FERRY_LANE_STATE_BACKOFF f j, b2n l1.backoffTo.isSome), (Reg.FERRY_LANE_BACKOFF_BELLS f j, bells)].foldl
    (fun (acc : State) (p : Fld × Nat) => acc.wr p.1 p.2) s1
  let land := Reg.BELL_LAND_H3_H0 (k / 4)
  let s3 := s2.wr land (s2.rd land - bits (s2.rd land) (8 * (k % 4)) 8 * 2 ^ (8 * (k % 4)))
  let s4 := if was = 4 then s3.leaveActive k at' else s3
  s4.settle f

/-- The occurrence of an error on a link: its Ledger entry names the link (R552). -/
def linkOcc (k : Nat) : Occ := { detail := k % 32 }

/-- Raise an error of a link with one Ledger entry for each local task with sheaves on it (R319). -/
def State.raiseLink (s : State) (e : Nat → ErrBit) (k : Nat) : State :=
  s.raiseTasks (e (k / 32)) (s.linkTags k) (linkOcc k)

/-- A stage fails with a reason from 1 to 12 (R280, R297). -/
def State.stageFail' (s : State) (k reason : Nat) : State :=
  let f := k / 32
  let st := s.stageOf k
  let s0 := s.wr (Reg.FERRY_LANE_STATE_LAST_REASON f (k % 32)) reason
  let s1 := if st = 1 then s0.bump (Ctr.CNT_TRAIN_FAILS f) 1 else if st = 2 then s0.bump (Ctr.CNT_LOCK_FAILS f) 1
    else s0.bump (Ctr.CNT_EXCHANGE_FAILS f) 1
  let s2 := s1.raise (Err.LANE_BRINGUP_FAIL f) (linkOcc k)
  let s3 := if reason = 5 then s2.raise (Err.LANE_CABLING_FAULT f) (linkOcc k)
    else if reason = 6 then s2.raise (Err.LANE_REVERSAL_CONFLICT f) (linkOcc k)
    else if reason = 11 then s2.raise (Err.LANE_FIBRE_LONG f) (linkOcc k) else s2
  let s4 := s3.toDetect k reason .doubled s.ticks
  if reason = 5 then s4.wr (Reg.FERRY_STATUS_CABLING f) 1 else s4

/-- An ACTIVE link, or one past TRAIN, leaves for DETECT by R294 to R296; LOCK_LOST and IDENTITY_CHANGE raise their
errors. -/
def State.activeExit (s : State) (k reason : Nat) (b : BackOff) : State :=
  let f := k / 32
  let s0 := s.wr (Reg.FERRY_LANE_STATE_LAST_REASON f (k % 32)) reason
  let s1 := if reason = 14 then (s0.bump (Ctr.CNT_LOCK_LOSSES f) 1).raiseLink Err.LANE_LOCK_LOST k
    else if reason = 16 then s0.raiseLink Err.LANE_IDENTITY_CHANGE k
    else if reason = 17 then
      (s0.bump Ctr.BELL_ELASTIC_SLIPS 1).raiseTasks Err.BELL_ELASTIC_SLIP (s0.linkTags k) {}
    else s0
  s1.toDetect k reason b s.ticks

/-! ### DETECT (R281, R282) -/

/-- LOS_EVALUATE (R282, R294): carrier at the hybrid in 0.1 dBm, asserted below −27.0 dBm and cleared above −25.0 dBm.
An ACTIVE link returns to DETECT after two bells of LOS. -/
def execLosEvaluate (f w : Nat) (carrier : Int) (s : State) : Out :=
  if 8 ≤ f ∨ 32 ≤ w then ok s
  else
    let j := s.linkOfWave f w
    let k := 32 * f + j
    let l := s.link k
    let los := if carrier < -270 then true else if -250 < carrier then false else s.is (Reg.FERRY_LANE_STATE_LOS f j)
    let l1 := if los then { l with clear := 0, dark := l.dark + 1 } else { l with clear := l.clear + 1, dark := 0 }
    let s1 := (s.setLink k l1).wrB (Reg.FERRY_LANE_STATE_LOS f j) los
    if s.stageOf k = 4 ∧ 2 ≤ l1.dark then ok (s1.activeExit k 13 .doubled) else ok s1

/-- LANE_DETECT_EXIT (R282): LOS clear for 16 bells, the drop lock and polarisation loops LOCKED, no back-off. The link
enters TRAIN with its taps at 0, unless it is frozen, which makes it converged at once (R288, R289). -/
def execLaneDetectExit (f j : Nat) (s : State) : Out :=
  if 8 ≤ f ∨ 32 ≤ j then ok s
  else
    let k := 32 * f + j
    let l := s.link k
    let w := s.rxWave f j
    if s.stageOf k = 0 ∧ bit s.boot.lanesStarted f ∧ 16 ≤ l.clear ∧ l.backoffTo = none ∧ s.loopSt f w 2 = 3
        ∧ s.loopSt f w 3 = 3 then
      let frozen := bit (s.rd (Reg.FERRY_EQ_FREEZE_LINKS f)) j
      let s1 := (s.bump (Ctr.CNT_BRINGUP_ATTEMPTS f) 1).addSat (Reg.FERRY_LANE_ATTEMPTS_ATTEMPTS f j) 1
      let s2 := if frozen then s1.wr (Reg.FERRY_LANE_STATE_EQ_CONVERGED f j) 1
        else (((s1.setLink k { l with eq := Equaliser.blank }).wr (Reg.FERRY_EQ_TAPS0_I1_I4 f j) 0).wr
          (Reg.FERRY_EQ_TAPS1_Q1_Q4 f j) 0).wr (Reg.FERRY_EQ_TAPS2_I5 f j) 0 |>.wr (Reg.FERRY_EQ_TAPS2_Q5 f j) 0
      ok (s2.enter k 1)
    else ok s

/-- LANE_BACKOFF_EXPIRY (R281). -/
def execLaneBackoffExpiry (f j : Nat) (s : State) : Out :=
  let k := 32 * f + j
  match (s.link k).backoffTo with
  | none => ok s
  | some t =>
    if f < 8 ∧ j < 32 ∧ t ≤ s.ticks then
      ok ((s.setLink k { s.link k with backoffTo := none }).wr (Reg.FERRY_LANE_STATE_BACKOFF f j) 0)
    else ok s

/-! ### The equaliser (R288, R289) -/

/-- The exposed value of an accumulator: its upper 8 bits, signed (R288). -/
def exposed (a : Int) : Int := a / 256

/-- One accumulator after one update; a value outside 16 bits is not stated (log entry 11). -/
def tapStep (draw : Nat) (mu : Int) (a err dec : Int) : Int :=
  let v := a + mu * err * dec
  if -32768 ≤ v ∧ v ≤ 32767 then v else Config.freeTap draw

/-- The ten accumulators after one update. -/
def Equaliser.adapt (e : Equaliser) (draw : Nat) (mu : Int) (u : LmsUpdate) : Equaliser :=
  let decs := (u.decI.take 5 ++ List.replicate (5 - u.decI.length) 0) ++
    (u.decQ.take 5 ++ List.replicate (5 - u.decQ.length) 0)
  let errs := List.replicate 5 u.errI ++ List.replicate 5 u.errQ
  let acc := (e.acc.zip (errs.zip decs)).map (fun p => tapStep draw mu p.1 p.2.1 p.2.2)
  let still := (acc.zip e.start).all (fun p => (exposed p.1 - p.2).natAbs ≤ 2)
  if still then { e with acc := acc, count := e.count + 1 }
  else { acc := acc, count := 0, start := acc.map exposed }

/-- Four signed bytes as a word, the first in [7:0]. -/
def tapWord (l : List Int) : Nat := ofLe (l.map (fun t => BitVec.ofInt 8 t))

/-- Show a link's taps in FERRY_EQ_TAPSj (R297). -/
def State.showTaps (s : State) (k : Nat) : State :=
  let f := k / 32
  let j := k % 32
  let t := (s.link k).eq.acc.map exposed
  (((s.wr (Reg.FERRY_EQ_TAPS0_I1_I4 f j) (tapWord (t.take 4))).wr (Reg.FERRY_EQ_TAPS1_Q1_Q4 f j)
    (tapWord ((t.drop 5).take 4))).wr (Reg.FERRY_EQ_TAPS2_I5 f j) (tapWord ((t.drop 4).take 1))).wr
    (Reg.FERRY_EQ_TAPS2_Q5 f j) (tapWord ((t.drop 9).take 1))

/-- One bell of adaptation and its line measures (R288, R297). A frozen link does not adapt. The equaliser is converged
once no exposed tap has moved by more than 2 over 16,384 updates. -/
def State.line (s : State) (k : Nat) (r : LineReport) : State :=
  let f := k / 32
  let j := k % 32
  let l := s.link k
  let mu : Int := (if s.stageOf k = 1 then s.rd (Reg.FERRY_EQ_MU_MU_TRAIN f) else s.rd (Reg.FERRY_EQ_MU_MU_TRACK f) : Nat)
  let frozen := bit (s.rd (Reg.FERRY_EQ_FREEZE_LINKS f)) j
  let eq := if frozen then l.eq else
    (r.updates.foldl (fun (p : Equaliser × Nat) u => (p.1.adapt p.2 mu u, p.2 + 1)) (l.eq, s.draws)).1
  let run := if s.rd Reg.SHEPHERD_DET_THRESH_ERR_RMS < r.rms then l.rmsRun + 1 else 0
  let s1 := ({ s with draws := s.draws + r.updates.length }.setLink k { l with eq := eq, rmsRun := run }).wr
    (Reg.FERRY_EQ_TAPS3_ERR_RMS f j) (satAt 65535 r.rms)
  let s2 := if frozen then s1 else s1.showTaps k
  let s3 := if s.stageOf k = 1 ∧ 16384 ≤ eq.count then s2.wr (Reg.FERRY_LANE_STATE_EQ_CONVERGED f j) 1 else s2
  s3.wrI (Reg.FERRY_EQ_TAPS3_PHASE f j) r.phase

/-- A write of FERRY_EQ_FREEZE (R289): a link in TRAIN that is not yet converged becomes converged with the taps it
holds. -/
def State.writeFreeze (s : State) (f v : Nat) : State :=
  let s1 := s.wr (Reg.FERRY_EQ_FREEZE_LINKS f) v
  (List.range 32).foldl (fun acc j =>
    if bit v j && !bit (s.rd (Reg.FERRY_EQ_FREEZE_LINKS f)) j && s.stageOf (32 * f + j) == 1 then
      acc.wr (Reg.FERRY_LANE_STATE_EQ_CONVERGED f j) 1
    else acc) s1

/-- EQ_FREEZE_WRITE (R289). -/
def execEqFreezeWrite (f : Nat) (val : Word) (s : State) : Out := if f < 8 then ok (s.writeFreeze f val.toNat) else ok s

/-- A write of a word of FERRY_EQ_TAPSj: taken only while the link is frozen (R289). -/
def State.writeTaps (s : State) (f j word v : Nat) : State :=
  if !bit (s.rd (Reg.FERRY_EQ_FREEZE_LINKS f)) j then s
  else
    let k := 32 * f + j
    let l := s.link k
    let at' (i b : Nat) (acc : List Int) : List Int := acc.set i (256 * toSigned 8 (bits v (8 * b) 8))
    let a := l.eq.acc
    let a1 := match word with
      | 0 => at' 0 0 (at' 1 1 (at' 2 2 (at' 3 3 a)))
      | 1 => at' 5 0 (at' 6 1 (at' 7 2 (at' 8 3 a)))
      | 2 => at' 9 0 (at' 4 1 a)
      | _ => a
    (s.setLink k { l with eq := { l.eq with acc := a1 } }).showTaps k

/-! ### Training frames (R283 to R286, R290, R295) -/

/-- The preamble sequences SA and SB (R283). -/
def preambleA : Nat := 0x96C35A0FE13B724D
def preambleB : Nat := 0x3E85C9B21D746FA0

/-- `n` bits inverted. -/
def invertBits (n v : Nat) : Nat := (2 ^ n - 1) ^^^ (v % 2 ^ n)

/-- Apply correction `c` = quarter turns counterclockwise + 4 × exchange to the decisions of two rails of `n` bits:
the exchange first, then the turns, each taking (I, Q) to (−Q, I) (R285; log entry 13). -/
def correct (n c i q : Nat) : Nat × Nat :=
  let p := if c / 4 = 1 then (q, i) else (i, q)
  match c % 4 with
  | 0 => p
  | 1 => (invertBits n p.2, p.1)
  | 2 => (invertBits n p.1, invertBits n p.2)
  | _ => (p.2, invertBits n p.1)

/-- Whether a correction fits a preamble: at most 4 bit errors on each rail (R285). -/
def preambleFits (c : Nat) (t : TrainFrame) : Bool :=
  let p := correct 64 c t.preI t.preQ
  popCount 64 (p.1 ^^^ preambleA) ≤ 4 && popCount 64 (p.2 ^^^ preambleB) ≤ 4

/-- The identity block under a correction: bit 2s on I, bit 2s + 1 on Q (R265, R283). The block is 256 bits, so each
rail carries 128 of them. -/
def identity (c : Nat) (t : TrainFrame) : List Byte :=
  let p := correct 128 c t.idI t.idQ
  let v := (List.range 128).foldl (fun acc n => acc + (b2n (bit p.1 n) + 2 * b2n (bit p.2 n)) * 4 ^ n) 0
  leBytes 32 v

/-- R286's classification of a valid identity block: none where it is not made, else normal, mirrored or neither. -/
inductive Orientation where
  | normal | mirrored | neither
  deriving DecidableEq, Repr

/-- Classify an identity block received at ferry `f` (R286). -/
def State.classify (s : State) (f : Nat) (b : List Byte) : Option Orientation :=
  let w := hdrNum b 3 1 % 32
  let i := hdrNum b 2 1 / 8
  let k := s.rd (Reg.FERRY_STATUS_PORT f)
  if !s.is (Reg.FERRY_STATUS_PORT_VALID f) || !bit (hdrNum b 1 1) 1 || w == 0 || w == 16 then none
  else if k % 32 = (i + w) % 32 then some .normal
  else if k % 32 = (i + 32 - w) % 32 then some .mirrored
  else some .neither

/-- Take a classification: the first settles the ferry, a differing one fails the link (R286). The answer names the
link's failure reason, if any. -/
def State.takeClass (s : State) (f : Nat) : Option Orientation → Option Nat × State
  | none => (none, s)
  | some .neither => (some 5, s)
  | some c =>
    let m := c == .mirrored
    if !s.is (Reg.FERRY_STATUS_REV_VALID f) then (none, s.orient f m)
    else if s.is (Reg.FERRY_STATUS_REVERSED f) = m then (none, s)
    else (some 6, s)

/-- One training frame on a link in TRAIN (R285 to R287). -/
def State.trainRx (s : State) (k : Nat) (t : TrainFrame) : State :=
  let f := k / 32
  let j := k % 32
  let s0 := (s.bump (Ctr.CNT_TRAINING_FRAMES_RX f) 1).line k t.line
  let l := s0.link k
  let conv := s0.is (Reg.FERRY_LANE_STATE_EQ_CONVERGED f j)
  let runs := (List.range 8).map (fun c => if preambleFits c t then l.runs.getD c 0 + 1 else 0)
  let corr := match l.corr with
    | some c => some c
    | none => (List.range 8).find? (fun c => 16 ≤ runs.getD c 0)
  let fits := corr.elim false (fun c => preambleFits c t)
  let b := corr.elim [] (fun c => identity c t)
  let valid := fits && idOk b
  let who := [hdrNum b 4 4 % 2 ^ 20, hdrNum b 2 1 % 8, hdrNum b 2 1 / 8, hdrNum b 3 1 % 32]
  let l1 := { l with
    runs := runs, corr := corr
    idRun := if !valid then 0 else if l.idRun = 0 ∨ l.idWho = who then l.idRun + 1 else 1
    idWho := if valid then who else l.idWho
    farDone := if valid then bit (hdrNum b 1 1) 0 else l.farDone
    symbols := if conv then l.symbols + 54208 else l.symbols
    errors := if conv then l.errors + t.errors else l.errors }
  let s1 := s0.setLink k l1
  let s2 := match corr with
    | none => s1
    | some c => (s1.wr (Reg.FERRY_LANE_STATE_ROT f j) (c % 4)).wr (Reg.FERRY_LANE_STATE_SWAP f j) (c / 4)
  let s3 := if valid then s2.wr (Reg.FERRY_LANE_STATE_FAR_STAGE f j) (hdrNum b 12 1 % 8) else s2
  if l.symbols < 2 ^ 24 ∧ 1024 < l1.errors then s3.stageFail' k 4
  else if !valid then s3
  else match s3.takeClass f (s3.classify f b) with
    | (none, s4) => s4
    | (some r, s4) => s4.stageFail' k r

/-- TRAINING_FRAME_RECEIVE (R285, R290, R295): in TRAIN it trains; in LOCK it is judged by its identity block; in
EXCHANGE and ACTIVE it says that the far end has restarted. A link in DETECT receives nothing. -/
def execTrainingFrameReceive (f j : Nat) (frame : TrainFrame) (s : State) : Out :=
  if 8 ≤ f ∨ 32 ≤ j then ok s
  else
    let k := 32 * f + j
    let l := s.link k
    let st := s.stageOf k
    if st = 0 then ok s
    else if st = 1 then ok (s.trainRx k frame)
    else
      match l.corr with
      | none => ok s
      | some c =>
        if !preambleFits c frame then ok s
        else
          let s1 := (s.bump (Ctr.CNT_TRAINING_FRAMES_RX f) 1).line k frame.line
          let b := identity c frame
          if st = 2 then
            if idOk b && !bit (hdrNum b 1 1) 0 then ok (s1.activeExit k 15 .same)
            else ok (s1.setLink k { s1.link k with good := 0 })
          else ok (s1.activeExit k 15 .same)

/-- Whether a link's receive has met R285 to R287 apart from the orientation and the far end's flag. A LANE_BIST holds
its TRAIN_DONE at 0 (R528). -/
def State.ownTrained (s : State) (k : Nat) : Bool :=
  let l := s.link k
  !s.calib.links.any (fun p => p.1 == k) && l.corr.isSome && 16 ≤ l.idRun && s.is (Reg.FERRY_LANE_STATE_EQ_CONVERGED (k / 32) (k % 32)) && 2 ^ 24 ≤ l.symbols
    && l.errors ≤ 1024

/-- Whether the orientation a link needs is settled: L0 and L16 need none (R286). -/
def State.oriented (s : State) (k : Nat) : Bool :=
  k % 32 == 0 || k % 32 == 16 || s.is (Reg.FERRY_STATUS_REV_VALID (k / 32))

/-- LANE_TRAIN_DONE (R286, R287): a link that has met every condition of its own settles an undecided ferry as normal;
with the far end's TRAIN_DONE it enters LOCK. -/
def execLaneTrainDone (f j : Nat) (s : State) : Out :=
  let k := 32 * f + j
  if 8 ≤ f ∨ 32 ≤ j ∨ s.stageOf k ≠ 1 ∨ s.ownTrained k = false then ok s
  else
    let s1 := if s.oriented k then s else s.orient f false
    if (s1.link k).farDone then
      let s2 := s1.enter k 2
      ok (s2.setLink k { s2.link k with trained := s.ticks, good := 0 })
    else ok s1

/-- LANE_LOCK_DONE (R290): four consecutive frames with the guard in place, every codeword decoded and the header good. -/
def execLaneLockDone (f j : Nat) (s : State) : Out :=
  let k := 32 * f + j
  if f < 8 ∧ j < 32 ∧ s.stageOf k = 2 ∧ 4 ≤ (s.link k).good then
    let s1 := s.enter k 3
    ok (match s.bell.firstExchange with
      | none => { s1 with bell := { s1.bell with firstExchange := some s.ticks } }
      | some _ => s1)
  else ok s

/-! ### EXCHANGE (R57, R58, R291, R292) -/

/-- A byte field of the far end's EXCHANGE message (R291). -/
def State.exNum (s : State) (k o n : Nat) : Nat := hdrNum (s.link k).far o n

/-- Whether the bell conditions of R42 hold on a link. -/
def State.bellFit (s : State) (k : Nat) : Bool :=
  let l := s.lane k
  2 ≤ s.bellState && l.seenHdr && 2 ≤ l.state && l.rootId == s.rd Reg.BELL_ROOT_ID_ROOT_ID
    && l.epoch == s.rd Reg.BELL_STATUS_ROOT_EPOCH && l.agrees

/-- The landing depth from an apparent delay in 1/256 symbol: the smallest H ≥ 1 with d + 160 ns ≤ H × 1.024 µs; 160 ns
are 2,176,000 of these units of 1/13,600 ns, a bell 13,926,400 (R57). -/
def landDepth (d : Nat) : Nat := max 1 ((d + 2176000 + 13926399) / 13926400)

/-- The landing depth fixed for a link's receive, 0 before it is (R57). -/
def State.landing (s : State) (k : Nat) : Nat := bits (s.rd (Reg.BELL_LAND_H3_H0 (k / 4))) (8 * (k % 4)) 3

/-- Fix the landing depth of a link (R57). -/
def State.fixLanding (s : State) (k h : Nat) : State :=
  let w := Reg.BELL_LAND_H3_H0 (k / 4)
  let old := s.rd w
  s.wr w (old - bits old (8 * (k % 4)) 8 * 2 ^ (8 * (k % 4)) + (128 + h) * 2 ^ (8 * (k % 4)))

/-- What EXCHANGE finds (R292): the reason of a failure, 0 to go on waiting, or readiness. -/
def State.exchangeVerdict (s : State) (k : Nat) : Option Nat :=
  let l := s.link k
  let f := k / 32
  let same := l.farWho.getD 0 0 == s.nodeId
  let sameFerry := l.farWho.getD 1 0 == f
  if l.far.isEmpty then some 0
  else if s.exNum k 12 1 ≠ 1 ∨ s.exNum k 13 1 ≠ 8 then some 9
  else if bit (s.exNum k 2 1) 1 ≠ s.is (Reg.FERRY_STATUS_REVERSED f) then some 6
  else if k % 32 = 0 ∧ !(same && sameFerry) then some 5
  else if k % 32 ≠ 0 ∧ same then some 5
  else if !bit (s.exNum k 2 1) 2 then some 0
  else if !s.bellFit k then some 0
  else if 5 < landDepth ((s.lane k).mine.getD 0) then some 11
  else if s.exNum k 18 1 % 8 = 0 then some 0
  else if k % 32 ≠ 0 ∧ s.stageOf (32 * f) ≠ 4 then some 0
  else none

/-- The Weir cells that a link holds reserved: an ACTIVE link's, or those of a link that has left ACTIVE while they
still hold sheaves (R345). -/
def State.cellsOf (s : State) (k : Nat) : Nat :=
  if s.isActive k || s.sched.cells.any (fun c => c.link == k) || s.sched.openReads.any (fun r => r.link == k) then
    (s.credit k).cells
  else 0

/-- Cells that links other than `k` have reserved of the Weir pool (R345). -/
def State.cellsTaken (s : State) (k : Nat) : Nat :=
  (s.sched.credits.filter (fun p => p.1 != k)).foldl (fun n p => n + s.cellsOf p.1) 0

/-- Reserve Weir cells for a link entering ACTIVE, or those that remain with POOL_SHORT (R345, R346). -/
def State.reserveCells (s : State) (k : Nat) : State :=
  if k % 32 = 0 then s else
  let want := s.rd Reg.WEIR_LINK_CREDIT_CELLS
  let left := s.rd Reg.WEIR_POOL_CELLS_CELLS - s.cellsTaken k
  let n := min want left
  let s1 := (s.setCredit k { Credit.blank with cells := n, granted := n, due := true }).bump Ctr.WEIR_CREDITS_GRANTED n
  if left < want then s1.raise Err.WEIR_POOL_SHORT else s1

/-- A link becomes ACTIVE (R281, R292, R298, R300, R315): its far-end records are filled, its round trip is fixed. -/
def State.becomeActive (s : State) (k : Nat) : State :=
  let f := k / 32
  let j := k % 32
  let l := s.link k
  let m := l.far
  let s1 := s.fixLanding k (landDepth ((s.lane k).mine.getD 0))
  let land := hdrNum m 18 1 % 8
  let s2 := [(Reg.FERRY_FAR0_VALID f j, 1), (Reg.FERRY_FAR0_PORT f j, hdrNum m 1 1 / 8),
      (Reg.FERRY_FAR0_FERRY f j, l.farWho.getD 1 0), (Reg.FERRY_FAR0_NODE f j, l.farWho.getD 0 0),
      (Reg.FERRY_FAR2_STEPPING f j, hdrNum m 3 1), (Reg.FERRY_FAR2_LAND f j, land),
      (Reg.FERRY_FAR2_SKEW f j, hdrNum m 10 2), (Reg.FERRY_FAR3_CAP f j, hdrNum m 12 4),
      (Reg.FERRY_LANE_BACKOFF_BELLS f j, 1), (Reg.FERRY_REPLAY_RT f j, s1.landing k + land),
      (Reg.FERRY_REPLAY_FAIL_CAUSE f j, 0)].foldl (fun (acc : State) (p : Fld × Nat) => acc.wr p.1 p.2) s1
  let s3 := (s2.setLink k { l with fails := 0, carries := false, misses := 0 }).enter k 4
  let h := s3.hop k
  let s4 := s3.setHop k (
    if h.detour.isSome then { h with backAt := some s.ticks }
    else { h with leftAt := none, backAt := none, decided := false })
  (s4.bump (Ctr.CNT_BRINGUPS_COMPLETED f) 1).reserveCells k

/-- LANE_EXCHANGE_DONE (R292): what the messages show fails the stage, keeps it waiting, or makes the link ACTIVE. The
landing depth is fixed as soon as the bell conditions hold (R57). -/
def execLaneExchangeDone (f j : Nat) (s : State) : Out :=
  let k := 32 * f + j
  if 8 ≤ f ∨ 32 ≤ j ∨ s.stageOf k ≠ 3 then ok s
  else
    match s.exchangeVerdict k with
    | none => ok (s.becomeActive k)
    | some 0 =>
      let h := landDepth ((s.lane k).mine.getD 0)
      if s.bellFit k && !(s.link k).far.isEmpty && decide (h ≤ 5) && s.landing k == 0 then ok (s.fixLanding k h) else ok s
    | some r => ok (s.stageFail' k r)

/-- LANE_STAGE_TIMEOUT (R280, R285, R288, R292). -/
def execLaneStageTimeout (f j : Nat) (s : State) : Out :=
  let k := 32 * f + j
  let l := s.link k
  let age := s.ticks - l.since
  if 8 ≤ f ∨ 32 ≤ j then ok s
  else match s.stageOf k with
    | 1 =>
      if 4096 ≤ age ∧ s.is (Reg.FERRY_LANE_STATE_EQ_CONVERGED f j) = false then ok (s.stageFail' k 3)
      else if 8192 ≤ age then ok (s.stageFail' k (if l.corr.isSome then 1 else 2))
      else ok s
    | 2 => if 64 ≤ age then ok (s.stageFail' k 7) else ok s
    | 3 =>
      if 8192 ≤ age then
        ok (s.stageFail' k (
          if l.far.isEmpty ∨ !bit (s.exNum k 2 1) 2 then 8
          else if !s.bellFit k then 10
          else if j ≠ 0 ∧ s.stageOf (32 * f) ≠ 4 then 12
          else 8))
      else ok s
    | _ => ok s

/-- A FERRY_LANE_RESET bit (R296): past TRAIN the link first sends RETRAIN for 8 bells; before, it returns at once. -/
def State.laneReset (s : State) (k : Nat) : State :=
  if 2 ≤ s.stageOf k then
    if (s.link k).retrain = 0 then s.setLink k { s.link k with retrain := 8 } else s
  else s.toDetect k 19 .one s.ticks

/-- FERRY_LANE_RESET (R296). -/
def execFerryLaneReset (f : Nat) (mask : Word) (s : State) : Out :=
  if f < 8 then
    ok ((List.range 32).foldl (fun acc j => if bit mask.toNat j then acc.laneReset (32 * f + j) else acc) s)
  else ok s

end Sys2Proof.Machine
end

