-- ==== Sys2Proof/Machine/Frames.lean ====
section
/-! DEFINITION. Sys2Proof/Machine/Frames.lean: the frames this node sends (spec/10 R270, R272, R279, R291, R293; spec/11
R299, R302, R303, R309, R311, R316; spec/12 R329, R335, R345 to R348), composed from the queues as they stand when the
bell closes (log entry 14), and the acknowledgements it takes (R301, R304). -/

namespace Sys2Proof.Machine

/-! ### Tally checks (R386, R387, R394, R395) -/

/-- Record a failed check on the TALLY page (R394): where, of which task tag, place, kind and flow. -/
def State.tallyNote (s : State) (wh tag place kind flow : Nat) (inj : Bool) : State :=
  [(Reg.TALLY_LAST_VALID, 1), (Reg.TALLY_LAST_WHERE, wh), (Reg.TALLY_LAST_INJECTED, b2n inj),
   (Reg.TALLY_LAST_BELL, s.bellNum), (Reg.TALLY_LAST_WHO_TASK_TAG, tag), (Reg.TALLY_LAST_WHO_PLACE, place),
   (Reg.TALLY_LAST_FLOW_KIND, kind), (Reg.TALLY_LAST_FLOW_FLOW, flow)].foldl
    (fun (acc : State) (p : Fld × Nat) => acc.wr p.1 p.2) s

/-- One use of a TALLY checker on a place, where its select names that place (R395): whether it inverts this check. -/
def State.tallyInject (s : State) (checker : Nat) (place : Option Nat) : Bool × State :=
  match place with
  | none => s.injectUse 0x54 checker
  | some p => if s.rd Reg.TALLY_INJ_SEL_TARGET = p then s.injectUse 0x54 checker else (false, s)

/-- The place of a link in TALLY_INJ_SEL and TALLY_LAST_WHO: [7:5] ferry, [4:0] link. -/
def linkPlace (k : Nat) : Nat := k

/-- A stored sheaf that fails its tally when it is read for sending (R387): not sent, its owner's data are in error. -/
def State.txTallyFail (s : State) (k own : Nat) (x : Sheaf) (inj : Bool) : State :=
  let s1 := ((s.tallyNote 1 x.tag (linkPlace k) x.kind x.flow inj).bump Ctr.TALLY_TX_TALLY_FAILS 1).raise
    Err.TALLY_TX_TALLY { tag := .tag16 x.tag, injected := inj }
  if own < 64 then s1.failTask own 9 else s1

/-- Whether a sheaf is one of a flow with the same sequence: the copies that a failed read flushes (R387). -/
def sameSheaf (x y : Sheaf) : Bool := x.flow == y.flow && x.kind == y.kind && x.seq == y.seq && x.tally == y.tally

/-! ### Composing a frame -/

/-- A frame being composed: its slots so far, its detour targets with their slot masks, and SLOT_REPLAY. -/
structure Draft where
  slots   : Map Sheaf
  targets : List (Target × Nat)
  replay  : Nat
  deriving DecidableEq, Repr

/-- Whether a frame can take a sheaf for a target: at most two targets a frame (R309). -/
def Draft.takes (d : Draft) : Option Target → Bool
  | none => true
  | some t => d.targets.any (fun p => p.1 == t) || d.targets.length < 2

/-- The draft with a sheaf in slot `n`. -/
def Draft.put (d : Draft) (n : Nat) (x : Sheaf) (t : Option Target) : Draft :=
  let tg := match t with
    | none => d.targets
    | some t =>
      if d.targets.any (fun p => p.1 == t) then d.targets.map (fun p => if p.1 == t then (p.1, setBit p.2 n) else p)
      else d.targets ++ [(t, setBit 0 n)]
  { slots := mput d.slots n x, targets := tg, replay := if x.replay then setBit d.replay n else d.replay }

/-- Read a sheaf for sending and send it in slot `n` of link `k` (R302, R386): it enters the replay buffer. `bad` says
that the stored copy fails its check. -/
def State.sendHeld (s : State) (d : Draft) (k n : Nat) (x : Held) (bad : Bool) : Draft × State :=
  let r := (s.bump Ctr.TALLY_TALLIES_CHECKED 1).tallyInject 1 (some (linkPlace k))
  if r.1 || bad then (d, r.2.txTallyFail k x.own x.sheaf r.1)
  else
    let y := { x with sent := s.ticks, slot := n, bell := s.bellNum % 65536,
                      first := if x.first = 0 then s.ticks else x.first }
    let h := r.2.hop k
    let s1 := (r.2.setHop k { h with buf := h.buf ++ [y] }).bump (Ctr.CNT_TX_SHEAVES (k / 32)) 1
    (d.put n y.sheaf y.target, s1.bump (Ctr.CNT_TX_SHEAF_BYTES (k / 32)) 528)

/-- Mark the task of a sheaf as recovered (R319). -/
def State.recovered (s : State) (own : Nat) : State :=
  if own < 64 then s.setTask own { s.task own with recovered := true } else s

/-- A sheaf as it is replayed (R302): REPLAY set, one replay more unless its refusal was not to count (R313). -/
def Held.again (x : Held) : Held :=
  { x with sheaf := { x.sheaf with replay := true }, replays := if x.spared then x.replays else x.replays + 1,
           spared := false }

/-- The first sheaf of a list that the frame can take, and the list without it. -/
def pick (d : Draft) : List Held → Option (Held × List Held)
  | [] => none
  | x :: t =>
    if d.takes x.target then some (x, t)
    else match pick d t with
      | none => none
      | some (y, r) => some (y, x :: r)

/-- The next sheaf of R303 steps 2 and 3 before open traffic, taken out of its queue: the replay queue, the link's own
held sheaves, the forward queue, then the sheaves of links whose detour runs over this link. -/
def State.nextRecovery (s : State) (d : Draft) (k : Nat) : Option (Held × State) :=
  let f := k / 32
  let h := s.hop k
  match pick d h.queue with
  | some (x, r) =>
    some (x.again, ((s.setHop k { h with queue := r }).bump (Ctr.CNT_REPLAYS_SENT f) 1).recovered x.own)
  | none =>
    match h.held with
    | x :: r => some ({ x with sheaf := { x.sheaf with replay := true } },
        ((s.setHop k { h with held := r }).bump (Ctr.CNT_REPLAYS_SENT f) 1).recovered x.own)
    | [] =>
      match pick d h.fwd with
      | some (x, r) =>
        let s1 := s.setHop k { h with fwd := r }
        some (x, if x.target.isSome then s1.bump (Ctr.CNT_DETOUR_FORWARDED f) 1 else s1)
      | none =>
        s.hops.findSome? (fun q =>
          if q.2.detour.elim false (fun t => t.via == k) then
            match pick d q.2.folded with
            | none => none
            | some (x, r) =>
              some (x, ((s.setHop q.1 { q.2 with folded := r }).bump (Ctr.CNT_DETOUR_SHEAVES_TX f) 1).recovered x.own)
          else none)

/-- Whether open slots may be used: not in bands 2 and 3 (R89, R348). -/
def State.openAllowed (s : State) : Bool := s.rd Reg.THERMAL_STATUS_BAND < 2

/-- Whether a BG sheaf may go on link `k` now: one in 16 bells (R347). -/
def State.bgAllowed (s : State) (k : Nat) : Bool :=
  let b := mget s.sched.bgSent k 0
  b == 0 || b + 15 ≤ s.ticks

/-- A CREDIT sheaf with a link's GRANTED (R346). -/
def creditSheaf (g : Nat) : Sheaf := tallied { Sheaf.empty with kind := 8, payload := leBytes 4 g }

/-- Give back a Weir cell: it counts as granted again (R345, R346). -/
def State.grantCell (s : State) (k : Nat) : State :=
  let c := s.credit k
  if k < 256 ∧ s.isActive k then
    (s.setCredit k { c with granted := (c.granted + 1) % 2 ^ 32 }).bump Ctr.WEIR_CREDITS_GRANTED 1
  else s

/-- A new sheaf to be held, sent for the first time. -/
def freshHeld (own : Nat) (x : Sheaf) (t : Option Target) : Held :=
  { sheaf := x, replays := 0, first := 0, sent := 0, slot := 0, bell := 0, own := own, target := t, spared := false }

/-- The next sheaf of open traffic on link `k`: CREDIT, then forwarded cells, then this node's own, under credit (R346,
R347). A forwarded sheaf's cell is freed as it enters the replay buffer. -/
def State.nextOpen (s : State) (k : Nat) : Option (Held × State) :=
  let c := s.credit k
  if k % 32 = 0 then none
  else if c.due then
    some (freshHeld 64 (creditSheaf c.granted) none,
      (s.setCredit k { c with due := false, told := true, reported := c.granted, reportAt := s.ticks }).bump
        Ctr.WEIR_CREDIT_SHEAVES_TX 1)
  else if (c.heard + 2 ^ 32 - c.spent) % 2 ^ 32 = 0 then none
  else
    let may (x : Sheaf) : Bool := x.kind != 9 || s.bgAllowed k
    let spend (acc : State) (x : Sheaf) : State :=
      let a := (acc.setCredit k { acc.credit k with spent := (c.spent + 1) % 2 ^ 32 }).bump Ctr.WEIR_OPEN_SHEAVES_TX 1
      if x.kind = 9 then { a with sched := { a.sched with bgSent := mset a.sched.bgSent k (s.ticks + 1) 0 } } else a
    match s.sched.cells.find? (fun q => q.out == some k && may q.sheaf) with
    | some q =>
      let s1 := ({ s with sched := { s.sched with cells := s.sched.cells.erase q } }.grantCell q.link).bump
        Ctr.WEIR_OPEN_FORWARDED 1
      some (freshHeld 64 { q.sheaf with hops := q.sheaf.hops + 1 } none, spend s1 q.sheaf)
    | none =>
      match s.sched.opens.find? (fun o => o.out == k && may o.sheaf) with
      | none => none
      | some o =>
        let s1 := { s with sched := { s.sched with opens := s.sched.opens.erase o } }
        some (freshHeld o.own o.sheaf none, spend s1 o.sheaf)

/-- Take the next sheaf of a flow from a task's send queue that joined before this bell (R329, R432). -/
def State.popSend (s : State) (slot flow : Nat) : Option (Sheaf × State) :=
  let t := s.task slot
  match t.sendq.find? (fun q => q.2.flow == flow && q.1 < s.ticks) with
  | none => none
  | some q =>
    some (q.2, s.setTask slot { t with sendq := t.sendq.erase q, flows := mset t.flows flow (q.2.seq + 1) 0 })

/-- The sheaf that the schedule assigns to transmit slot `n` of link `k` in this bell, taken from its queue (R329). -/
def State.scheduled (s : State) (k n : Nat) : Option (Held × State) :=
  let e := txOf s.active.sched k n
  if entAction e = 3 then
    match s.slotOfTag (entTag e) with
    | none => none
    | some t =>
      match s.popSend t (entFlow e) with
      | none => none
      | some (x, s1) => some (freshHeld t x none, s1)
  else if entAction e = 5 then
    let h := s.hop k
    match mfind h.placed n with
    | none => none
    | some x => some (x, s.setHop k { h with placed := mdel h.placed n })
  else none

/-- PRBS31 bits from a seed's register (R267, R523): each bit is the register's highest, fed back from bits 30 and 27. -/
def prbs31 : Nat → Nat → List Bool
  | 0, _ => []
  | n + 1, r =>
    let b := bit r 30
    b :: prbs31 n ((r * 2 + b2n (b != bit r 27)) % 2 ^ 31)

/-- Bytes of a bit list, bit 0 first. -/
def bitsToBytes : Nat → List Bool → List Byte
  | 0, _ => []
  | n + 1, l =>
    BitVec.ofNat 8 ((l.take 8).foldr (fun b acc => b2n b + 2 * acc) 0) :: bitsToBytes n (l.drop 8)

/-- The payload of an L0 check sheaf of a bell (R523). -/
def l0Payload (bell : Nat) : List Byte :=
  let b := bell % 2 ^ 32
  [1, 0, 0, 0] ++ leBytes 4 b ++ List.replicate 8 0 ++ bitsToBytes 496 (prbs31 3968 (setBit b 0 % 2 ^ 31))

/-- The L0 check sheaf of the running bell (R522). -/
def State.l0Sheaf (s : State) : Sheaf :=
  tallied { Sheaf.empty with kind := 9, dest := s.nodeId, payload := l0Payload s.bellNum }

/-- Whether a requested L0 check is under way on ferry `f`: check sheaves in all 24 slots (R525). -/
def State.l0Busy (s : State) (f : Nat) : Bool := bit s.calib.l0Ferries f

/-- Fill slots of a frame one by one with what `next` gives. -/
def State.fill (next : State → Draft → Nat → Option (Held × State)) (bad : Nat → Bool) (k : Nat) :
    List Nat → Draft × State → Draft × State
  | [], p => p
  | n :: t, p =>
    match next p.2 p.1 n with
    | none => State.fill next bad k t p
    | some (x, s1) => State.fill next bad k t (s1.sendHeld p.1 k n x (bad n))

/-- Fill the slots of link `k`'s frame in the order of R303; a frozen data plane sends them empty (R540). -/
def State.fillSlots (s : State) (k : Nat) (bad : Nat → Bool) : Draft × State :=
  let t := s.active.sched
  let act (n : Nat) : Nat := entAction (txOf t k n)
  let h := s.hop k
  let folds := h.detour.isSome && s.is (Reg.FERRY_REPLAY_DETOUR (k / 32) (k % 32))
  let d0 : Draft := { slots := [], targets := [], replay := 0 }
  if k % 32 = 0 then
    State.fill (fun st _ _ => some (freshHeld 64 st.l0Sheaf none, st.bump Ctr.TELEM_L0_CHECK_SHEAVES 1)) bad k
      (if s.l0Busy (k / 32) then List.range 24 else [0]) (d0, s)
  else if s.frozen then (d0, s)
  else
    let p1 := if folds then (d0, s)
      else State.fill (fun st _ n => st.scheduled k n) bad k (List.range 24) (d0, s)
    let p2 := State.fill (fun st d _ => st.nextRecovery d k) bad k ((List.range 24).filter (fun n => act n == 2)) p1
    if !s.openAllowed then p2
    else
      State.fill (fun st d _ => match st.nextRecovery d k with
        | some r => some r
        | none => st.nextOpen k) bad k ((List.range 24).filter (fun n => act n == 1)) p2

/-! ### Headers and trailers (R270, R272, R291, R309) -/

/-- The EXCHANGE message of a link (R291). -/
def State.exchangeMsg (s : State) (k : Nat) : List Byte :=
  let f := k / 32
  let flags := b2n (s.is (Reg.FERRY_STATUS_PORT_VALID f)) + 2 * b2n (s.is (Reg.FERRY_STATUS_REVERSED f))
    + 4 * b2n (!(s.link k).far.isEmpty)
  leBytes 1 1 ++ leBytes 1 (f + 8 * s.rd (Reg.FERRY_STATUS_PORT f)) ++ leBytes 1 flags
    ++ leBytes 1 (s.rd Reg.TOP_STEPPING_STEPPING) ++ leBytes 6 s.bellNum
    ++ leBytes 2 (s.rd (Reg.BELL_FIBRE_SKEW_SKEW f)) ++ leBytes 1 1 ++ leBytes 1 8 ++ leBytes 1 12 ++ leBytes 1 0
    ++ leBytes 2 0x3208 ++ leBytes 1 (s.landing k) ++ List.replicate 5 0

/-- The RETRAIN message (R291). -/
def retrainMsg : List Byte := leBytes 1 2 ++ List.replicate 23 0

/-- The lane message of a link's frame, and the state with it taken (R291, R296, R322). -/
def State.laneMsg (s : State) (k : Nat) : List Byte × State :=
  let l := s.link k
  let st := s.stageOf k
  let h := s.hop k
  if 0 < l.retrain then (retrainMsg, s)
  else if st = 3 ∨ (st = 4 ∧ s.ticks < l.since + 16) then (s.exchangeMsg k, s)
  else if st = 4 then
    match h.msgs with
    | m :: r => (m, s.setHop k { h with msgs := r })
    | [] => ([], s)
  else ([], s)

/-- The announcement in force: of the link whose detour changed last, the lowest among equals (R316). -/
def State.announcement (s : State) : Option (Nat × Hop) :=
  s.hops.foldl (fun acc q =>
    if q.2.ann != 0 && s.ticks < q.2.annAt + 16 then
      match acc with
      | none => some q
      | some b => if b.2.annAt < q.2.annAt then some q else acc
    else acc) none

/-- The 20-byte detour notice (R309). -/
def State.notice (s : State) (d : Draft) : List Byte :=
  let tgt (p : Target × Nat) : List Byte :=
    leBytes 3 p.2 ++ leBytes 1 p.1.next ++ leBytes 3 p.1.node ++ leBytes 1 p.1.last
  let one (i : Nat) : List Byte := (d.targets[i]?).elim (List.replicate 8 0) tgt
  let ann := match s.announcement with
    | none => List.replicate 4 0
    | some q => leBytes 1 q.2.ann ++ leBytes 1 (byteOfLink q.1) ++ leBytes 2 q.2.annBell
  one 0 ++ one 1 ++ ann

/-- A header of 92 bytes with its CRC (R270). -/
def sealHdr (h : List Byte) : List Byte := h ++ leBytes 4 (crc32c h)

/-- The frame header of link `k` (R270). -/
def State.header (s : State) (k : Nat) (d : Draft) (msg : List Byte) : List Byte :=
  let st := s.stageOf k
  let a := if st = 4 then (s.hop k).answers else none
  let fill := d.slots.foldl (fun m p => setBit m p.1) 0
  let dv := st == 4 && (!d.targets.isEmpty || s.announcement.isSome)
  let flags := s.rd Reg.THERMAL_STATUS_BAND + 4 * b2n dv + 8 * b2n (!msg.isEmpty)
  let l := s.lane k
  let tt := s.bellState * 2 ^ 61 + s.rd Reg.BELL_STATUS_DEPTH * 2 ^ 58 + s.rd Reg.BELL_ROOT_ID_ROOT_ID * 2 ^ 38
    + s.rd Reg.BELL_STATUS_ROOT_EPOCH * 2 ^ 30
  let ack := match a with
    | none => leBytes 4 0 ++ leBytes 8 0
    | some a => leBytes 2 a.bell ++ leBytes 2 1 ++ leBytes 4 a.good ++ leBytes 4 a.bad
  sealHdr (leBytes 1 st ++ leBytes 1 flags ++ leBytes 2 ((k / 32) * 8192 + (k % 32) * 256)
    ++ leBytes 4 s.bellNum ++ leBytes 4 s.nodeId ++ leBytes 4 (setVersion s.active.sched) ++ leBytes 8 tt
    ++ leBytes 4 (l.mine.getD 0) ++ ack ++ leBytes 4 fill ++ leBytes 4 d.replay ++ padTo 24 msg
    ++ (if dv then s.notice d else List.replicate 20 0))

/-- The trailer of link `k` (R272). -/
def State.trailer (s : State) (k : Nat) (hdr : List Byte) : List Byte :=
  let l := s.link k
  let conv := s.rd (Reg.FERRY_LANE_STATE_EQ_CONVERGED (k / 32) (k % 32))
  let body := (hdr.drop 28).take 12 ++ leBytes 4 l.fecCorr ++ leBytes 2 l.fecUnc ++ leBytes 2 (s.stageOf k + 8 * conv)
    ++ (hdr.drop 4).take 4 ++ List.replicate 36 0
  body ++ leBytes 4 (crc32c body)

/-- The identity block of the training frames of link `k` (R279, R284). -/
def State.identityBlock (s : State) (k : Nat) : List Byte :=
  let f := k / 32
  let j := k % 32
  let done := 2 ≤ s.stageOf k || (s.stageOf k == 1 && s.ownTrained k && s.oriented k)
  let body := leBytes 1 1 ++ leBytes 1 (b2n done + 2 * b2n (s.is (Reg.FERRY_STATUS_PORT_VALID f)))
    ++ leBytes 1 (f + 8 * s.rd (Reg.FERRY_STATUS_PORT f)) ++ leBytes 1 (s.txWave f j) ++ leBytes 4 s.nodeId
    ++ leBytes 4 s.bellNum ++ leBytes 1 (s.stageOf k) ++ List.replicate 15 0
  body ++ leBytes 4 (crc32c body)

/-- Whether link `k` sends FEC frames: past TRAIN for 16 bells, and not dark (R90, R279). -/
def State.sendsFec (s : State) (k : Nat) : Bool :=
  2 ≤ s.stageOf k && (s.link k).trained + 16 ≤ s.ticks && !s.thermal.txDark

/-- Whether link `k` may carry sheaves in this bell (R293, R296). -/
def State.carriesSheaves (s : State) (k : Nat) : Bool :=
  s.isActive k && (s.link k).carries && (s.link k).retrain == 0

/-- Compose and send the frame of link `k` for the running bell (R279). -/
def State.sendFrame (s : State) (k : Nat) (bad : Nat → Bool) : State :=
  if !s.sendsFec k then s
  else
    let p := if s.carriesSheaves k then s.fillSlots k bad
      else ({ slots := [], targets := [], replay := 0 }, s)
    let m := p.2.laneMsg k
    let hdr := m.2.header k p.1 m.1
    { m.2 with tx := mput m.2.tx k { header := hdr, slots := p.1.slots, trailer := m.2.trailer k hdr } }

/-! ### Detours: what a link on detour hands over in a bell (R310, R311, R314, R336) -/

/-- A sheaf as it goes on a detour (R311). -/
def detoured (t : Target) (x : Held) : Held :=
  { x with sheaf := { x.sheaf with detoured := true, replay := true }, target := some t }

/-- The sheaves that the schedule assigns to link `k` in this bell, in slot order, taken from their queues. -/
def State.takeScheduled (s : State) (k : Nat) : List Nat → List Held × State
  | [] => ([], s)
  | n :: t =>
    match s.scheduled k n with
    | none => s.takeScheduled k t
    | some (x, s1) =>
      let r := s1.takeScheduled k t
      (x :: r.1, r.2)

/-- What a link that may not send its schedule does with the bell's sheaves: with a detour in force they join it; else
the forwarded ones are held, and a task's stay in its send queue (R311, R314, R336). -/
def State.foldBell (s : State) (k : Nat) : State :=
  let h := s.hop k
  if s.frozen then s else
  match h.detour with
  | some d =>
    if s.is (Reg.FERRY_REPLAY_DETOUR (k / 32) (k % 32)) then
      let r := s.takeScheduled k (List.range 24)
      let h1 := r.2.hop k
      let late := h1.fwd.filter (fun x => x.target.isNone)
      r.2.setHop k { h1 with folded := h1.folded ++ (r.1 ++ late).map (detoured d.target),
                             fwd := h1.fwd.filter (fun x => x.target.isSome) }
    else s
  | none =>
    if s.isActive k then s
    else (s.setHop k { h with held := h.held ++ h.placed.map (·.2), placed := [] }).showHop k

/-! ### Placing transit sheaves (R313, R334 to R336) -/

/-- The transmit slot that takes a forwarded sheaf: the named one, else the lowest other of its flow that is free. -/
def State.forwardSlot (s : State) (t : Transit) : Option Nat :=
  let free (n : Nat) : Bool :=
    let e := txOf s.active.sched t.out n
    n < 24 && entAction e == 5 && entFlow e == t.sheaf.flow && (mfind (s.hop t.out).placed n).isNone
  if free t.outSlot then some t.outSlot else (List.range 24).find? free

/-- A sheaf that has made its last hop and would be forwarded is discarded (R334). -/
def State.hopLimit (s : State) (x : Sheaf) : State :=
  (s.bump Ctr.SCHED_HOPS_EXHAUSTED 1).raise Err.SCHED_HOP_LIMIT { tag := .tag16 x.tag }

/-- Place one transit sheaf: SHEAF_FORWARD's work for a FORWARD entry (R335), DETOUR_INTERMEDIATE's for a marked slot
(R313). -/
def State.place (s : State) (t : Transit) : State :=
  if 7 ≤ t.sheaf.hops then s.hopLimit t.sheaf
  else
    let y := freshHeld 64 { t.sheaf with hops := t.sheaf.hops + 1 } none
    let h := s.hop t.out
    match t.target with
    | some g => s.setHop t.out { h with fwd := h.fwd ++ [{ y with target := some { g with next := 0 } }] }
    | none =>
      let s0 := s.bump Ctr.SCHED_FORWARDED 1
      match (if t.late then none else s0.forwardSlot t) with
      | some n => s0.setHop t.out { h with placed := mput h.placed n y }
      | none =>
        let s1 := (s0.setHop t.out { h with fwd := h.fwd ++ [y] }).bump Ctr.SCHED_LATE_FORWARDED 1
        if t.noted || (t.late && t.sheaf.replay) then s1
        else (s1.bump Ctr.SCHED_MISMATCHES 1).raise Err.SCHED_SCHED_MISMATCH

/-- The first transit sheaf of an earlier bell that meets `p`, in the order of landing. -/
def State.dueTransit (s : State) (p : Transit → Bool) : Option Transit :=
  s.shepherd.transit.find? (fun t => t.at' < s.ticks && p t)

/-- Place the first due transit sheaf that meets `p`. -/
def State.placeNext (s : State) (p : Transit → Bool) : State :=
  match (if s.frozen then none else s.dueTransit p) with
  | none => s
  | some t => { s with shepherd := { s.shepherd with transit := s.shepherd.transit.erase t } }.place t

/-- SHEAF_FORWARD (R333 to R336). -/
def execSheafForward (s : State) : Out := ok (s.placeNext (fun t => t.target.isNone))

/-- DETOUR_INTERMEDIATE (R313). -/
def execDetourIntermediate (s : State) : Out := ok (s.placeNext (fun t => t.target.isSome))

/-- Place what is still due when the bell closes. -/
def State.placeAll : Nat → State → State
  | 0, s => s
  | k + 1, s => match s.dueTransit (fun _ => true) with
    | none => s
    | some _ => State.placeAll k (s.placeNext (fun _ => true))

/-! ### Closing a bell -/

/-- Count down RETRAIN; after the eighth bell the link returns to DETECT (R296). -/
def State.retrainTick (s : State) (k : Nat) : State :=
  let l := s.link k
  if l.retrain = 0 ∨ !s.sendsFec k then s
  else if l.retrain = 1 then
    (s.setLink k { l with retrain := 0 }).activeExit k 19 .one
  else s.setLink k { l with retrain := l.retrain - 1 }

/-- The part of the boundary that ends the bell: transit sheaves are placed, every link's frame of the bell is composed
and sent, and what landed in it is what the next header acknowledges (R279, R299, R303). `bad` says which reads for
send fail their check, 32 × link + slot. -/
def State.closeBell (s : State) (bad : List Nat) : State :=
  let s0 := { s.placeAll s.shepherd.transit.length with tx := [] }
  let s1 := (s0.hops.map (·.1)).foldl (fun (acc : State) k =>
    let folds := !acc.isActive k || (acc.hop k).detour.isSome
    if folds then acc.foldBell k else acc) s0
  let s2 := (List.range 256).foldl (fun (acc : State) k =>
    (acc.sendFrame k (fun n => bad.contains (32 * k + n))).retrainTick k) s1
  (s2.hops.map (·.1)).foldl (fun (acc : State) k =>
    let h := acc.hop k
    acc.setHop k { h with answers := h.landed, landed := none }) s2

/-! ### Acknowledgements (R301, R304) -/

/-- Declare a link failing (R304): it returns to DETECT at the next boundary. -/
def State.declareFailing (s : State) (k cause : Nat) : State :=
  let h := s.hop k
  if h.failing ∨ !s.isActive k then s
  else
    let f := k / 32
    let s1 := ((s.setHop k { h with failing := true }).wr (Reg.FERRY_REPLAY_FAIL_CAUSE f (k % 32)) cause).bump
      (Ctr.CNT_LINKS_FAILED f) 1
    s1.raiseLink Err.LANE_LANE_FAILING k

/-- What R301 decides for one sheaf of the replay buffer. -/
inductive AckFate where
  | freed | refused | missed | waits
  deriving DecidableEq, Repr

/-- The fate of a sheaf at this boundary (R300, R301). -/
def ackFate (acks : List Ack) (rt now : Nat) (x : Held) : AckFate :=
  let mine := acks.filter (fun a => a.bell == x.bell)
  if mine.any (fun a => bit a.bad x.slot) then .refused
  else if mine.any (fun a => bit a.good x.slot) then .freed
  else if x.sent + rt + 2 ≤ now then .missed else .waits

/-- A sheaf of a task has been acknowledged on its first hop (R360). -/
def State.pieceAcked (s : State) (own : Nat) : State :=
  if own < 64 then s.setTask own { s.task own with acked := (s.task own).acked + 1 } else s

/-- Take the acknowledgements of the previous bell on link `k` (R301), and judge the link (R302, R304). -/
def State.takeAcks (s : State) (k : Nat) : State :=
  let f := k / 32
  let h := s.hop k
  let rt := s.rd (Reg.FERRY_REPLAY_RT f (k % 32))
  let fate := ackFate h.acks rt s.ticks
  let freed := h.buf.filter (fun x => fate x == .freed)
  let refused := h.buf.filter (fun x => fate x == .refused)
  let missed := h.buf.filter (fun x => fate x == .missed)
  let back := (refused.map (fun x => if x.target.isSome then { x with spared := true } else x)) ++ missed
  let queue := h.queue ++ back
  let naks := (h.nakNow :: h.naks).take 16
  let s1 := (s.setHop k { h with buf := h.buf.filter (fun x => fate x == .waits), queue := queue.take 48, acks := [],
                                 naks := naks, nakNow := false,
                                 held := h.held ++ queue.drop 48 }).bump (Ctr.CNT_NAK_SHEAVES_RX f) refused.length
  let s2 := (s1.bump (Ctr.CNT_DEADLINE_MISSES f) missed.length).showHop k
  let s3 := freed.foldl (fun acc x => acc.pieceAcked x.own) s2
  let spent := refused.any (fun x => 3 ≤ x.replays && x.target.isNone) || missed.any (fun x => 3 ≤ x.replays)
  if spent then s3.declareFailing k 1 else if 48 < queue.length then s3.declareFailing k 3 else s3

/-- NAK_RATE (R304): 8 of the frames landed in the last 16 bells, this bell's among them. -/
def State.nakRate (s : State) (k : Nat) : State :=
  let h := s.hop k
  if 8 ≤ countTrue ((h.nakNow :: h.naks).take 16) then s.declareFailing k 2 else s

/-- Links declared failing in the bell that ended return to DETECT (R304). -/
def State.dropFailing (s : State) (k : Nat) : State :=
  if (s.hop k).failing ∧ s.isActive k then s.toDetect k 18 .doubled (s.ticks - 1) else s

/-- Whether link `k` is in detour transition in this bell (R310, R315). -/
def State.inTransition (s : State) (k : Nat) : Bool :=
  let h := s.hop k
  let leaving := h.leftAt.elim false (fun t => s.ticks == t + 1 || s.ticks == t + 2)
  let coming := h.backAt.isSome && (s.is (Reg.FERRY_REPLAY_DETOUR (k / 32) (k % 32)) || !h.folded.isEmpty)
  leaving || coming

/-- The hold of link `k` in this bell, and its episode (R317, R323, R324). -/
def State.holdTick (s : State) (k : Nat) : State :=
  let f := k / 32
  let j := k % 32
  let h := s.hop k
  let hold := !h.queue.isEmpty
  let tr := s.inTransition k
  let s1 := (s.wrB (Reg.FERRY_REPLAY_HOLD f j) hold).wrB (Reg.FERRY_REPLAY_TRANSIT f j) tr
  if hold || tr then (s1.setHop k { h with episode := h.episode + 1 }).bump Ctr.SHEPHERD_HOLD_BELLS 1
  else s1.setHop k { h with episode := 0, capped := false }

/-- HOLD_EPISODE_CAP (R317): an episode has reached 64 bells; the counts it suspended go on. -/
def execHoldEpisodeCap (f j : Nat) (s : State) : Out :=
  let h := s.hop (32 * f + j)
  if f < 8 ∧ j < 32 ∧ 64 ≤ h.episode ∧ h.capped = false then
    ok ((s.setHop (32 * f + j) { h with capped := true }).bump Ctr.SHEPHERD_HOLD_CAPS 1)
  else ok s

/-- Whether slot `n` has sheaves held, queued or scheduled on link `k` (R317). -/
def State.usesLink (s : State) (n k : Nat) : Bool :=
  let h := s.hop k
  (h.buf ++ h.queue ++ h.held ++ h.folded ++ h.fwd).any (fun x => x.own == n)
    || (List.range 24).any (fun i =>
      let e := txOf s.active.sched k i
      entAction e == 3 && entTag e == s.taskTag n)

/-- Whether slot `n`'s count is suspended in this bell (R317). -/
def State.suspended (s : State) (n : Nat) : Bool :=
  s.hops.any (fun q => 0 < q.2.episode && q.2.episode ≤ 64 && s.usesLink n q.1)

/-- Count the timeout bells of the running tasks; none is evaluated under a freeze (R317, R367, R540). -/
def State.countTimeouts (s : State) : State :=
  if s.frozen then s else
  s.liveSlots.foldl (fun (acc : State) n =>
    let t := acc.task n
    if (t.st = 2 ∨ t.st = 3) ∧ !acc.suspended n then acc.setTask n { t with counted := t.counted + 1 } else acc) s

/-- The Shepherd's part of a boundary: acknowledgements, failing links, holds and timeouts (R301, R304, R317). -/
def State.hopBoundary (s : State) : State :=
  let ks := s.hops.map (·.1)
  let s1 := ks.foldl (fun (acc : State) k => acc.dropFailing k) s
  let s2 := ks.foldl (fun (acc : State) k => if acc.isActive k then acc.takeAcks k else acc) s1
  let s3 := (s2.hops.map (·.1)).foldl (fun (acc : State) k => acc.holdTick k) s2
  s3.countTimeouts

end Sys2Proof.Machine
end

