-- ==== Sys2Proof/Machine/Land.lean ====
section
/-! DEFINITION. Sys2Proof/Machine/Land.lean: a frame lands (spec/10 R271, R276 to R278, R294; spec/11 R299, R305, R313,
R314, R316, R321, R322; spec/12 R331, R332, R338 to R340, R342 to R347; spec/17 R469; spec/20 R522, R523). -/

namespace Sys2Proof.Machine

/-! ### Landing and delivery (R305, R338, R339) -/

/-- The landing state of an index, for an entry of the set in use. -/
def State.landState (s : State) (i first : Nat) : Landing := mget s.sched.landings i { next := first, landed := [] }

/-- Replace the landing state of an index. -/
def State.setLand (s : State) (i : Nat) (l : Landing) : State :=
  { s with sched := { s.sched with landings := mput s.sched.landings i l } }

/-- Reset an index: FIRST_SEQ is expected, its cells are empty, and a halt ends (R340, R391). -/
def State.resetLand (s : State) (i : Nat) : State :=
  let w := Reg.TALLY_HALTED_ENTRIES (i / 32)
  { s with sched := { s.sched with landings := mdel s.sched.landings i } }.wr w (clearBit (s.rd w) (i % 32))

/-- Whether an index is halted (R391). -/
def State.halted (s : State) (i : Nat) : Bool := bit (s.rd (Reg.TALLY_HALTED_ENTRIES (i / 32))) (i % 32)

/-- Deliver to tasks as far as the sequence goes: a sheaf whose task holds no slot is an orphan (R305, R339). -/
def State.deliver (i : Nat) : Nat → State → Landing → State
  | 0, s, l => s.setLand i l
  | k + 1, s, l =>
    match l.landed.find? (fun p => p.1 == l.next) with
    | none => s.setLand i l
    | some p =>
      if p.2 = 0 then s.setLand i l
      else
        let l1 : Landing := { next := (l.next + 1) % 2 ^ 24, landed := l.landed.erase p }
        let tag := p.2 - 1
        let s1 := match s.slotOfTag tag with
          | some _ => { s with sched := { s.sched with
              delivered := s.sched.delivered ++ [{ land := i, seq := p.1, tag := tag }] } }
          | none => (s.bump Ctr.SCHED_ORPHAN_SHEAVES 1).raise Err.SCHED_ORPHAN { tag := .tag16 tag }
        State.deliver i k s1 l1

/-- A duplicate is acknowledged, discarded and counted (R305, R343). -/
def State.duplicate (s : State) (k : Nat) : State := s.bump (Ctr.CNT_DUPLICATES_RX (k / 32)) 1

/-- Land a sheaf through entry `i` of a set (R338): refused when it has no free cell. Answers whether it is accepted. -/
def State.landSheaf (s : State) (k i : Nat) (le : LandEntry) (x : Sheaf) (who : Nat) : Bool × State :=
  let l := s.landState i le.first
  let ahead := (x.seq + 2 ^ 24 - l.next) % 2 ^ 24
  if 2 ^ 23 ≤ ahead ∨ l.landed.any (fun p => p.1 == x.seq) then (true, s.duplicate k)
  else if 2 ^ le.depth ≤ ahead then (false, s)
  else
    let a := le.base + 528 * (x.seq % 2 ^ le.depth)
    let s1 := ((s.granaryWrite .line a (sheafBytes x)).2).linePort 528
    let l1 := { l with landed := l.landed ++ [(x.seq, who)] }
    (true, State.deliver i (l1.landed.length) s1 l1)

/-! ### The sheaf's action (R331, R332) -/

/-- What a slot of a landed frame comes to: acknowledged or refused. -/
abbrev Verdict := Bool × State

/-- The set that interprets a frame: active, or a shadow not written since the swap (R331). -/
def State.setFor (s : State) (v : Nat) : Option (Map Byte) :=
  if setVersion s.active.sched = v then some s.active.sched
  else if setVersion s.shadow.sched = v && !s.is (Hdr.SHADOW_WRITTEN 0x52) then some s.shadow.sched
  else none

/-- Whether an entry acts on a FLOW sheaf. -/
def acts (e : Nat) : Bool := entAction e == 3 || entAction e == 4 || entAction e == 5

/-- The flow lookup of R332: the first receive entry of a link with the flow. -/
def flowLookup (t : Map Byte) (k flow : Nat) : Option Nat :=
  ((List.range 24).map (rxOf t k)).find? (fun e => acts e && entFlow e == flow)

/-- How many sheaves wait for the forward queue of a link, or will (R313). -/
def State.forwardLoad (s : State) (k : Nat) : Nat :=
  (s.hop k).fwd.length + (s.shepherd.transit.filter (fun t => t.out == k && (t.late || t.target.isSome))).length

/-- Put a transit sheaf in its place: by landing bell, link, slot (R335). -/
def insTransit (t : Transit) : List Transit → List Transit
  | [] => [t]
  | x :: r =>
    if x.at' < t.at' ∨ (x.at' = t.at' ∧ (x.link < t.link ∨ (x.link = t.link ∧ x.slot ≤ t.slot))) then x :: insTransit t r
    else t :: x :: r

/-- Keep a transit sheaf for the next bell, unless the forward queue it needs is full (R313, R336). -/
def State.keepTransit (s : State) (t : Transit) : Verdict :=
  if (t.late || t.target.isSome) && 96 ≤ s.forwardLoad t.out then (false, s)
  else (true, { s with shepherd := { s.shepherd with transit := insTransit t s.shepherd.transit } })

/-- Act on a receive entry for a FLOW sheaf that came on link `k` in slot `n` (R329, R332, R335). -/
def State.actOn (s : State) (t : Map Byte) (k n e : Nat) (late noted : Bool) (x : Sheaf) : Verdict :=
  if entAction e = 5 then
    s.keepTransit { at' := s.ticks, link := k, slot := n, out := entOutLink e, outSlot := entOutSlot e, late := late,
                    noted := noted, target := none, sheaf := x }
  else
    s.landSheaf k (entLand e) (landEntry t (entLand e)) x (if entAction e = 3 then entTag e + 1 else 0)

/-- A sheaf for which no entry is found (R332). -/
def State.noEntry (s : State) (x : Sheaf) : State :=
  (s.bump Ctr.SCHED_NO_ENTRY_SHEAVES 1).raise Err.SCHED_NO_ENTRY { tag := .tag16 x.tag }

/-- A FLOW sheaf, by its slot's entry or by flow lookup (R332). -/
def State.flowSheaf (s : State) (t : Map Byte) (k n : Nat) (direct : Bool) (x : Sheaf) : Verdict :=
  let e := if direct then rxOf t k n else 0
  if !x.replay && entFlow e == x.flow && acts e then s.actOn t k n e false false x
  else
    let odd := !x.replay && acts e
    let s1 := if odd then (s.bump Ctr.SCHED_MISMATCHES 1).raise Err.SCHED_SCHED_MISMATCH { tag := .tag16 x.tag } else s
    match flowLookup t k x.flow with
    | none => (true, s1.noEntry x)
    | some e' => s1.actOn t k n e' true odd x

/-! ### Abort notices and background sheaves (R469, R522, R523) -/

/-- A Ledger record about an abort notice (R551). -/
def State.noticeRecord (s : State) (code : Nat) (n : Notice) : State := s.record 0x51 code (n.group + 65536 * n.inst)

/-- Keep a notice for an instance ahead; a seventeenth drops the oldest (R469). -/
def State.keepNotice (s : State) (n : Notice) : State :=
  match s.groups.pending with
  | [] => { s with groups := { s.groups with pending := [n] } }
  | old :: rest =>
    if s.groups.pending.length < 16 then { s with groups := { s.groups with pending := s.groups.pending ++ [n] } }
    else { s with groups := { s.groups with pending := rest ++ [n] } }.noticeRecord 3 old

/-- An ABORT sheaf for this node from neighbour `from'` (R468, R469). -/
def State.abortArrive (s : State) (from' : Nat) (x : Sheaf) : State :=
  let g := payNum x 0 2 % 4096
  let i := payNum x 2 2
  let origin := payNum x 4 3 % 2 ^ 20
  let s1 := { s with groups := { s.groups with heard := (s.groups.heard ++ [(g, i, from')]).eraseDups } }
  match s.liveSlots.find? (fun n => usesGroup (descOp (s.task n).desc) && descGroup (s.task n).desc == g
      && (s.task n).st != 1 && (s.task n).inst == i) with
  | some n => s1.askStop n 5 origin
  | none =>
    let d := (i + 65536 - mget s.groups.inst g 0) % 65536
    if 1 ≤ d ∧ d < 32768 then
      s1.keepNotice { group := g, inst := i, origin := origin, reason := payNum x 7 1, at' := s.ticks }
    else s1

/-- A failed L0 check on ferry `f`: counted, and L0_CHECK_FAIL once 8 fall within 1,024 bells (R522). -/
def State.l0Fail (s : State) (f : Nat) : State :=
  let s0 := if bit s.calib.l0Ferries f then { s with calib := { s.calib with l0Bad := true } } else s
  let s1 := s0.bump Ctr.TELEM_L0_CHECK_ERRORS 1
  let l := ((mget s.calib.l0Fails f []).filter (fun t => s.ticks < t + 1024)) ++ [s.ticks]
  let s2 := { s1 with calib := { s1.calib with l0Fails := mset s1.calib.l0Fails f l [] } }
  let r := mget s.calib.l0Raised f 0
  if 8 ≤ l.length ∧ (r = 0 ∨ r + 1023 ≤ s.ticks) then
    { s2 with calib := { s2.calib with l0Raised := mset s2.calib.l0Raised f (s.ticks + 1) 0 } }.raise Err.TELEM_L0_CHECK_FAIL
  else s2

/-- A BG sheaf that arrived on L0 (R21, R522, R523). -/
def State.l0Arrive (s : State) (f : Nat) (x : Sheaf) : State :=
  if payNum x 0 1 ≠ 1 then s.bump Ctr.TELEM_BG_DISCARDED 1
  else if x.payload = l0Payload (payNum x 4 4) then s else s.l0Fail f

/-- A BG sheaf for this node that arrived in an open slot: a DIGEST goes to the collect ring (R523). -/
def State.bgArrive (s : State) (x : Sheaf) : State :=
  let c := s.rd Reg.TELEM_COLLECT_CELLS_CELLS
  if payNum x 0 1 ≠ 2 ∨ c = 0 then s.bump Ctr.TELEM_BG_DISCARDED 1
  else
    let a := s.rd Reg.TELEM_COLLECT_BASE_ADDR + 256 * (s.rd Ctr.TELEM_DIGESTS_RECEIVED.fld % 2 ^ c)
    ((s.granaryWrite .line a ((x.payload.drop 16).take 256)).2).bump Ctr.TELEM_DIGESTS_RECEIVED 1

/-! ### Open sheaves (R343 to R347) -/

/-- Whether an applied sheaf matches one that arrives, within 1,024 bells (R343). -/
def State.seenOpen (s : State) (x : Sheaf) : Bool :=
  s.sched.applied.any (fun a => a.kind == x.kind && a.seq == x.seq && a.tag == x.tag && a.tally == x.tally
    && s.ticks ≤ a.at' + 1024)

/-- Keep an applied sheaf for duplicate detection (R343). -/
def State.markApplied (s : State) (x : Sheaf) : State :=
  { s with sched := { s.sched with
    applied := (s.sched.applied.filter (fun a => s.ticks ≤ a.at' + 1024))
      ++ [{ kind := x.kind, seq := x.seq, tag := x.tag, tally := x.tally, at' := s.ticks }] } }

/-- The cells of a link that hold sheaves, those of a GET_REQ that waits for its read among them (R345). -/
def State.cellsUsed (s : State) (k : Nat) : Nat :=
  (s.sched.cells.filter (fun c => c.link == k)).length + (s.sched.openReads.filter (fun r => r.link == k)).length

/-- A CREDIT sheaf: a newer GRANTED is taken (R347). -/
def State.creditArrive (s : State) (k : Nat) (x : Sheaf) : State :=
  let c := s.credit k
  let g := payNum x 0 4
  if newer32 g c.heard then s.setCredit k { c with heard := g } else s

/-- An open sheaf that arrived on link `k` (R343, R345). -/
def State.openSheaf (s : State) (k : Nat) (x : Sheaf) : Verdict :=
  if x.kind = 8 then (true, s.creditArrive k x)
  else if x.dest = s.nodeId ∧ s.seenOpen x then (true, s.duplicate k)
  else if (s.credit k).cells ≤ s.cellsUsed k then (false, s)
  else
    let s1 := s.bump Ctr.WEIR_OPEN_SHEAVES_RX 1
    if x.dest = s.nodeId then
      if x.kind = 7 then (true, ((s1.abortArrive (s.farNode k) x).markApplied x).grantCell k)
      else if x.kind = 9 then (true, ((s1.bgArrive x).markApplied x).grantCell k)
      else (true, { s1 with sched := { s1.sched with
        cells := s1.sched.cells ++ [{ link := k, at' := s.ticks, out := none, sheaf := x }] } })
    else if 7 ≤ x.hops then (true, (s1.hopLimit x).grantCell k)
    else match s1.routeOpen x.dest with
      | none => (true, (s1.noRoute x).grantCell k)
      | some q => (true, { s1 with sched := { s1.sched with
          cells := s1.sched.cells ++ [{ link := k, at' := s.ticks, out := some q, sheaf := x }] } })

/-! ### One slot (R21, R276, R313, R314, R332) -/

/-- A detour target of a landed notice for a slot (R309). -/
def targetOf (hdr : List Byte) (n : Nat) : Option Target :=
  if !bit (hdrNum hdr 1 1) 2 then none
  else if bit (hdrNum hdr 72 3) n then
    some { next := hdrNum hdr 75 1, node := hdrNum hdr 76 3 % 2 ^ 20, last := hdrNum hdr 79 1 }
  else if bit (hdrNum hdr 80 3) n then
    some { next := hdrNum hdr 83 1, node := hdrNum hdr 84 3 % 2 ^ 20, last := hdrNum hdr 87 1 }
  else none

/-- A sheaf of an unlisted kind, or another than BG on L0 (R21, R276). -/
def State.kindBad (s : State) (k : Nat) (x : Sheaf) : State :=
  (s.bump (Ctr.CNT_KIND_BAD_SHEAVES (k / 32)) 1).raise (Err.LANE_SHEAF_KIND_BAD (k / 32))
    { tag := .tag16 x.tag, detail := k % 32 }

/-- One filled slot of a frame landed on link `k` under a set, or under none (R332); a frozen data plane refuses it
(R540). -/
def State.slotLand (s : State) (set : Option (Map Byte)) (hdr : List Byte) (k n : Nat) (bytes : List Byte) : Verdict :=
  let f := k / 32
  let x := parseSheaf bytes
  if k % 32 != 0 && s.frozen then (false, s) else
  let s0 := ((s.bump (Ctr.CNT_RX_SHEAVES f) 1).bump (Ctr.CNT_RX_SHEAF_BYTES f) 528).bump Ctr.TALLY_TALLIES_CHECKED 1
  let r := s0.tallyInject 0 (some (linkPlace k))
  let s1 := r.2
  if r.1 || x.tally != sheafTally x || bytes.length != 528 then
    let s2 := ((s1.tallyNote 0 x.tag (linkPlace k) x.kind x.flow r.1).bump Ctr.TALLY_RX_TALLY_FAILS 1).raise
      Err.TALLY_RX_TALLY { tag := .tag16 x.tag, injected := r.1 }
    (false, if k % 32 = 0 then s2.l0Fail f else s2)
  else if k % 32 = 0 then
    (true, if x.kind = 9 then s1.l0Arrive f x else s1.kindBad k x)
  else if x.kind = 0 ∨ 9 < x.kind then (true, s1.kindBad k x)
  else match set with
    | none => (false, s1)
    | some t =>
      match targetOf hdr n with
      | some g =>
        if g.node ≠ s.nodeId then
          s1.keepTransit { at' := s.ticks, link := k, slot := n, out := linkOfByte g.next, outSlot := 0, late := true,
                           noted := true, target := some g, sheaf := x }
        else if x.kind = 1 then s1.flowSheaf t (linkOfByte g.last) n false x
        else s1.openSheaf (linkOfByte g.last) x
      | none => if x.kind = 1 then s1.flowSheaf t k n true x else s1.openSheaf k x

/-- All the filled slots of a frame in order; answers the good and the refused maps (R299, R332). -/
def State.slotsLand (set : Option (Map Byte)) (hdr : List Byte) (k : Nat) (slots : List (List Byte)) :
    List Nat → Nat × Nat × State → Nat × Nat × State
  | [], p => p
  | n :: t, p =>
    let r := p.2.2.slotLand set hdr k n (slots.getD n [])
    State.slotsLand set hdr k slots t
      (if r.1 then (setBit p.1 n, p.2.1, r.2) else (p.1, setBit p.2.1 n, r.2))

/-! ### Announcements, fences and the caught-up swap (R316, R322, R342) -/

/-- Record a new announcement (R316). -/
def State.announce (s : State) (hdr : List Byte) : State :=
  let a := hdrNum hdr 88 1 % 4
  let k := linkOfByte (hdrNum hdr 89 1)
  let node := hdrNum hdr 8 4 % 2 ^ 20
  if !bit (hdrNum hdr 1 1) 2 || a == 0 || a == 3 then s
  else if s.rd Reg.SHEPHERD_ANN_ANN = a ∧ s.rd Reg.SHEPHERD_ANN_FERRY = k / 32 ∧ s.rd Reg.SHEPHERD_ANN_LINK = k % 32
      ∧ s.rd Reg.SHEPHERD_ANN_NODE = node then s
  else
    let s1 := (((s.wr Reg.SHEPHERD_ANN_ANN a).wr Reg.SHEPHERD_ANN_FERRY (k / 32)).wr Reg.SHEPHERD_ANN_LINK (k % 32)).wr
      Reg.SHEPHERD_ANN_NODE node
    s1.record 0x55 1 (a * 2 ^ 30 + k / 32 * 2 ^ 27 + k % 32 * 2 ^ 22 + node)

/-- A fence message (R321): kind 0x10 mark or 0x11 receipt. -/
def fenceMsg (kind flow seq origin tag : Nat) (relay : Option Nat) : LaneMsg :=
  leBytes 1 kind ++ leBytes 3 flow ++ leBytes 3 seq ++ leBytes 3 origin ++ leBytes 2 tag
    ++ leBytes 1 (relay.getD 0) ++ leBytes 1 (b2n relay.isSome) ++ List.replicate 10 0

/-- Queue a lane message on a link. -/
def State.queueMsg (s : State) (k : Nat) (m : LaneMsg) : State :=
  s.setHop k { s.hop k with msgs := (s.hop k).msgs ++ [m] }

/-- Send a fence message over link `k`, or over its VIA link with RELAY set while it is on detour (R322). -/
def State.sendFence (s : State) (k kind flow seq origin tag : Nat) : State :=
  let s1 := if kind = 16 then s.bump Ctr.SHEPHERD_FENCE_MARKS 1 else s.bump Ctr.SHEPHERD_FENCE_RECEIPTS 1
  match (s.hop k).detour with
  | some d => if s.isActive k then s1.queueMsg k (fenceMsg kind flow seq origin tag none)
    else s1.queueMsg d.via (fenceMsg kind flow seq origin tag (some d.target.next))
  | none => s1.queueMsg k (fenceMsg kind flow seq origin tag none)

/-- The receive entry of a flow: on the link a mark came on, else on any (R322). -/
def State.flowEntry (s : State) (k flow : Nat) : Option Nat :=
  match flowLookup s.active.sched k flow with
  | some e => some e
  | none => (List.range 256).findSome? (fun q => flowLookup s.active.sched q flow)

/-- Whether this node still holds a sheaf of a flow at or behind a sequence (R322). -/
def State.holdsFlow (s : State) (flow seq : Nat) : Bool :=
  let p (x : Sheaf) : Bool := x.kind == 1 && x.flow == flow && !seqAhead x.seq seq
  s.hops.any (fun q => (q.2.buf ++ q.2.queue ++ q.2.held ++ q.2.fwd ++ q.2.folded ++ q.2.placed.map (·.2)).any
      (fun h => p h.sheaf))
    || s.shepherd.transit.any (fun t => p t.sheaf)
    || s.liveSlots.any (fun n => (s.task n).sendq.any (fun q => p q.2))

/-- Try to pass a mark on or to answer it (R322). -/
def State.tryMark (s : State) (m : Mark) : State :=
  let set (acc : State) (d : Option Mark) : State :=
    { acc with shepherd := { acc.shepherd with
      marks := match d with
        | none => acc.shepherd.marks.erase m
        | some d => acc.shepherd.marks.map (fun x => if x == m then d else x) } }
  if m.done then s
  else match s.flowEntry m.link m.flow with
    | none => s
    | some e =>
      if entAction e = 5 then
        if s.holdsFlow m.flow m.seq then s
        else set (s.sendFence (entOutLink e) 16 m.flow m.seq m.origin m.tag) (some { m with done := true })
      else
        let le := landEntry s.active.sched (entLand e)
        if seqAhead (s.landState (entLand e) le.first).next m.seq then
          set (s.sendFence m.link 17 m.flow m.seq m.origin m.tag) none
        else s

/-- Try the 64 oldest marks (R322). -/
def State.pushMarks (s : State) : State := (s.shepherd.marks.take 64).foldl (fun acc m => acc.tryMark m) s

/-- A receipt reaches the origin: the fence's flow has its receipt (R322). -/
def State.fenceGot (s : State) (flow tag : Nat) : State :=
  s.liveSlots.foldl (fun (acc : State) n =>
    let t := acc.task n
    if descOp t.desc = 8 ∧ acc.taskTag n = tag then
      acc.setTask n { t with fences := t.fences.map (fun q => if q.flow == flow then { q with got := true } else q) }
    else acc) s

/-- A fence message received on link `k` (R322). -/
def State.fenceArrive (s : State) (k : Nat) (m : List Byte) : State :=
  let kind := hdrNum m 0 1
  let flow := hdrNum m 1 3 % 2 ^ 20
  let seq := hdrNum m 4 3
  let origin := hdrNum m 7 3 % 2 ^ 20
  let tag := hdrNum m 10 2
  if bit (hdrNum m 13 1) 0 then s.queueMsg (linkOfByte (hdrNum m 12 1)) (fenceMsg kind flow seq origin tag none)
  else if kind = 16 then
    let m1 : Mark := { flow := flow, seq := seq, origin := origin, tag := tag, link := k, done := false }
    { s with shepherd := { s.shepherd with marks := s.shepherd.marks ++ [m1] } }.pushMarks
  else if origin = s.nodeId then s.fenceGot flow tag
  else match s.shepherd.marks.find? (fun m => m.flow == flow && m.origin == origin && m.tag == tag && m.done) with
    | none => s
    | some m' =>
      { s with shepherd := { s.shepherd with marks := s.shepherd.marks.erase m' } }.sendFence m'.link 17 flow seq origin tag

/-- R342: a frame carrying the shadow's newer version arms the device-wide swap two bells ahead. -/
def State.catchUp (s : State) (v : Nat) : State :=
  if s.is Reg.SCHED_CTRL_CATCH_UP && !s.armed 0x52 && v == setVersion s.shadow.sched
      && newer32 v (setVersion s.active.sched) then
    let b := (s.bellNum + 2) % bellMod
    let s1 := (s.wr (Hdr.SWAP_BELL_LO 0x52) b).wr (Hdr.SWAP_BELL_HI 0x52) (b / 2 ^ 32)
    (s1.setSwap s1.followers 1 (some 1)).raise Err.SCHED_SWAP_CAUGHT_UP
  else s

/-! ### The frame (R271, R278, R294, R299) -/

/-- A version miss (R331). -/
def State.versionMiss (s : State) (k v : Nat) : State :=
  ((((s.wr Reg.SCHED_MISS_VALID 1).wr Reg.SCHED_MISS_FERRY (k / 32)).wr Reg.SCHED_MISS_LINK (k % 32)).wr
    Reg.SCHED_MISS_VERSION_VERSION v).bump Ctr.SCHED_VERSION_MISSES 1 |>.raise Err.SCHED_VERSION_MISS

/-- Take the acknowledgements a frame carries: from its header, or from its trailer's copy (R271, R299, R304). -/
def State.hearAck (s : State) (k : Nat) (b : List Byte) : State :=
  if !bit (hdrNum b 2 2) 0 then s
  else
    let a : Ack := { bell := hdrNum b 0 2, good := hdrNum b 4 3, bad := hdrNum b 8 3 }
    let h := s.hop k
    let nak := h.buf.any (fun x => x.bell == a.bell && bit a.bad x.slot && x.target.isNone)
    (s.setHop k { h with acks := h.acks ++ [a], nakNow := h.nakNow || nak }).nakRate k

/-- The filled slots of a frame with a good header (R331, R332): what its acknowledgement will say. -/
def State.fillsLand (s : State) (k : Nat) (fr : RxFrame) : Nat × Nat × State :=
  let fill := hdrNum fr.header 40 3
  let v := hdrNum fr.header 12 4
  if fill = 0 then (0, 0, s)
  else
    let set := s.setFor v
    let s1 := if set.isNone && k % 32 != 0 then s.versionMiss k v else s
    State.slotsLand set fr.header k fr.slots ((List.range 24).filter (bit fill)) (0, 0, s1)

/-- The time fields of a good header (R39, R45, R55). -/
def State.headerTime (s : State) (k : Nat) (fr : RxFrame) : State :=
  let tt := hdrNum fr.header 16 8
  let seen := hdrNum fr.header 24 4
  let s1 := s.hearTime k (bits tt 61 3) (bits tt 58 3) (bits tt 38 20) (bits tt 30 8)
  (s1.measure k fr.delay (if seen = 0 then none else some seen)).seeRoot k

/-- The lane message of a header, empty without MSG_V (R291). -/
def msgOf (h : List Byte) : List Byte := if bit (hdrNum h 1 1) 3 then (h.drop 48).take 24 else []

/-- An ACTIVE link's part of a landed frame (R293, R294, R299). -/
def State.activeLand (s : State) (k : Nat) (fr : RxFrame) (hok : Bool) : State :=
  let f := k / 32
  let j := k % 32
  let h := fr.header
  let l := s.link k
  let who := [hdrNum h 8 4 % 2 ^ 20, hdrNum h 3 1 / 32, hdrNum h 3 1 % 32]
  let misses := if hok && fr.guard then 0 else l.misses + 1
  if hok ∧ who ≠ l.farWho then s.activeExit k 16 .doubled
  else if 4 ≤ misses then s.activeExit k 14 .doubled
  else
    let s1 := s.setLink k { l with misses := misses, carries := hok && hdrNum h 0 1 == 4 }
    let msg := if hok then msgOf h else []
    let land := hdrNum msg 18 1 % 8
    let s2 := if hdrNum msg 0 1 = 1 ∧ land ≠ 0 then
        (s1.wr (Reg.FERRY_FAR2_LAND f j) land).wr (Reg.FERRY_REPLAY_RT f j) (s1.landing k + land)
      else s1
    let s3 := if hok then s2.hearAck k ((h.drop 28).take 12)
      else if trlOk fr.trailer then s2.hearAck k (fr.trailer.take 12) else s2
    let bell := (s.bellNum + 2 ^ 48 - s.landing k) % 65536
    if !hok then
      s3.setHop k { s3.hop k with landed := some { bell := bell, good := 0, bad := 2 ^ 24 - 1 } }
    else
      let r := s3.fillsLand k fr
      let s4 := r.2.2.setHop k { r.2.2.hop k with landed := some { bell := bell, good := r.1, bad := r.2.1 } }
      let s5 := s4.announce h
      if hdrNum msg 0 1 = 16 ∨ hdrNum msg 0 1 = 17 then s5.fenceArrive k msg else s5

/-- A link past LOCK takes a landed frame (R93, R59, R291, R296). -/
def State.laterLand (s : State) (k : Nat) (fr : RxFrame) (hok : Bool) : State :=
  let f := k / 32
  let j := k % 32
  let h := fr.header
  if !hok then (if s.isActive k then s.activeLand k fr false else s)
  else
    let msg := msgOf h
    let l := s.link k
    let l1 := if hdrNum msg 0 1 = 1 then
        { l with far := msg, farWho := if s.isActive k then l.farWho
                                       else [hdrNum h 8 4 % 2 ^ 20, hdrNum h 3 1 / 32, hdrNum h 3 1 % 32] }
      else l
    let s1 := (s.setLink k l1).setLane k (
      if hdrNum msg 0 1 = 1 then { s.lane k with farSkew := toSigned 16 (hdrNum msg 10 2) } else s.lane k)
    let s2 := s1.headerTime k fr
    if s.isActive k ∧ (fr.wander < -4000 ∨ 4000 < fr.wander) then s2.activeExit k 17 .doubled
    else
      let s3 := ((s2.wr (Reg.FERRY_FAR0_BAND f j) (hdrNum h 1 1 % 4)).wr (Reg.FERRY_FAR1_SCHED_VERSION f j)
        (hdrNum h 12 4)).catchUp (hdrNum h 12 4)
      if hdrNum msg 0 1 = 2 then s3.activeExit k 19 .one
      else if s.isActive k then s3.activeLand k fr true
      else s3

/-- FRAME_LAND (R271, R278, R290): the codewords are decoded, the parts checked, and the link takes what its stage may
use; a link in DETECT or TRAIN decodes no FEC frame (R279). -/
def execFrameLand (f j : Nat) (frame : RxFrame) (s : State) : Out :=
  let k := 32 * f + j
  if 8 ≤ f ∨ 32 ≤ j ∨ s.stageOf k < 2 then ok s
  else
    let page := 0x20 + 4 * f
    let named := s.rd (Reg.FERRY_INJ_LANE_LINK f) == j
    let i0 := if named then s.injectUse page 0 else (false, s)
    let i1 := if named then i0.2.injectUse page 1 else (false, i0.2)
    let errs := frame.errors
    let unc := (errs.filter (fun e => 15 < e)).length + (if i0.1 ∧ errs.getD 0 0 ≤ 15 then 1 else 0)
    let corr := (errs.filter (fun e => e ≤ 15)).foldl (· + ·) 0
    let s1 := ((i1.2.bump (Ctr.CNT_FEC_CORRECTED_SYMBOLS f) corr).addSat (Reg.FERRY_FEC_CORR f j) corr).line k frame.line
    let s2 := if unc = 0 then s1
      else ((s1.bump (Ctr.CNT_FEC_UNCORRECTABLE_CODEWORDS f) unc).addSat (Reg.FERRY_FEC_UNC f j) unc).raise
        (Err.LANE_FEC_UNCORRECTABLE f) { detail := j, injected := i0.1 }
    let s3 := s2.setLink k { s2.link k with fecCorr := corr, fecUnc := unc }
    let hok := hdrOk frame.header && !i1.1
    let s4 := if hok then s3
      else (s3.bump (Ctr.CNT_HEADER_CRC_ERRORS f) 1).raise (Err.LANE_HEADER_CRC f) { detail := j, injected := i1.1 }
    let s5 := if trlOk frame.trailer then s4.wr (Reg.FERRY_LANE_STATE_FAR_STAGE f j) (hdrNum frame.trailer 18 1 % 8) else s4
    if s.stageOf k = 2 then
      if hok ∧ hdrNum (msgOf frame.header) 0 1 = 2 then ok (s5.activeExit k 19 .one)
      else
        let l := s5.link k
        ok (s5.setLink k { l with good := if hok ∧ frame.guard ∧ unc = 0 then l.good + 1 else 0 })
    else ok (s5.laterLand k frame hok)

end Sys2Proof.Machine
end

