-- ==== Sys2Proof/Machine/Background.lean ====
section
/-! DEFINITION. Sys2Proof/Machine/Background.lean: work beneath the work (spec/20): scrubbing, spare-row BIST, remap copies,
dither calibration, bias-ageing resets, and requested calibration and self-test. -/

namespace Sys2Proof.Machine

/-! ### Scrubbing, spare rows, remap copies (R410, R411, R518 to R520) -/

/-- A bank's background state. -/
def State.bank (s : State) (n : Nat) : BgBank := mget s.banks n BgBank.blank
def State.setBank (s : State) (n : Nat) (b : BgBank) : State := { s with banks := mset s.banks n b BgBank.blank }

/-- The Granary address of line `i` of bank `n`: near banks are whole megabytes, shared slices interleave by 4 KiB
(R405). -/
def lineAddr (n i : Nat) : Nat :=
  if n < 128 then granaryBase + n * 2 ^ 20 + 64 * i else 0x18000000 + (i / 64 * 32 + (n - 128)) * 4096 + 64 * (i % 64)

/-- Whether bank `n` has its background slot in this bell and has not used it (R518). -/
def State.slotDue (s : State) (n : Nat) : Bool :=
  n < 160 && s.bellNum % 16 == n % 16 && (s.bank n).taken != s.ticks + 1

/-- The slot of this bell is used; slots run in cycles of five. -/
def BgBank.next (b : BgBank) (ticks : Nat) : BgBank := { b with slot := (b.slot + 1) % 5, taken := ticks + 1 }

/-- Whether a spare row is tested: all its lines have passed, and it has never failed (R519). -/
def BgBank.tested (b : BgBank) (r : Nat) : Bool := mget b.passed r 0 == 2 ^ 128 - 1 && !bit b.failed r

/-- Tested spare rows that are not in use (R419, R519). -/
def BgBank.left (b : BgBank) : Nat :=
  ((List.range 16).filter (fun r => b.tested r && !bit b.used r && b.copy.elim true (fun c => c.2.1 != r))).length

/-- A remap copy starts for the row that waits longest, to the lowest tested spare row; without one the request is
refused (R411). -/
def State.startCopy (s : State) (n : Nat) : State :=
  let b := s.bank n
  match b.copy, b.queue with
  | none, row :: rest =>
    match (List.range 16).find? (fun r => b.tested r && !bit b.used r) with
    | none => (s.setBank n { b with queue := rest }).bump Ctr.GRANARY_REMAP_REFUSED 1
    | some r => s.setBank n { b with queue := rest, copy := some (row, r, 0), copied := 0 }
  | _, _ => s

/-- Errors corrected in a line count for its row in this pass; reaching the threshold asks for a remap (R411). -/
def State.rowErrors (s : State) (n row fixed : Nat) : State :=
  let b := s.bank n
  let old := mget b.errs row 0
  let new := old + fixed
  let t := max 1 (s.rd Reg.GRANARY_REMAP_THRESH_COUNT)
  let s1 := s.setBank n { b with errs := mset b.errs row new 0 }
  if old < t ∧ t ≤ new then (s1.setBank n { s1.bank n with queue := (s1.bank n).queue ++ [row] }).startCopy n else s1

/-- A scrub that finds an uncorrectable word, or a poisoned line (R410). -/
def State.scrubBad (s : State) (a : Nat) (inj : Bool) : State :=
  ((s.granaryNote .background a true true).poisonLine a).raise Err.GRANARY_SCRUB_UE { injected := inj }

/-- SCRUB_SLOT (R410, R518): the bank's next line; `fixed` words were corrected, `bad`: a word was uncorrectable. -/
def execScrubSlot (bank fixed : Nat) (bad : Bool) (s : State) : Out :=
  let b := s.bank bank
  if !s.slotDue bank || b.slot == 4 then ok s
  else
    let a := lineAddr bank b.line
    let row := b.line / 128
    let line := (b.line + 1) % 16384
    let s1 := (s.setBank bank { b.next s.ticks with line := line }).bump Ctr.GRANARY_SCRUB_LINES 1
    let inj := if s1.granaryArmed 0 a then (true, (s1.injectUse 0x62 0).2) else (false, s1)
    let s2 := inj.2
    let s3 :=
      if s.poisoned (a / 64) ∨ bad ∨ inj.1 then s2.scrubBad a inj.1
      else if fixed = 0 then s2
      else
        (((s2.granaryNote .background a false true).bump Ctr.GRANARY_SCRUB_CORRECTED fixed).raise Err.GRANARY_CE).rowErrors bank
          row fixed
    ok (if line = 0 then s3.setBank bank { s3.bank bank with errs := [] } else s3)

/-- The next line of the march: spare rows in use are passed over. -/
def BgBank.skipUsed (b : BgBank) : Nat → Nat → Nat
  | 0, l => l
  | k + 1, l => if bit b.used (l / 128) || b.copy.elim false (fun c => c.2.1 == l / 128) then
      b.skipUsed k ((l / 128 + 1) % 16 * 128) else l

/-- A requested BIST pass ends once every bank has marched its lines (R525, R526). -/
def State.bistDone (s : State) : State :=
  if s.calib.bist && (List.range 160).all (fun n => (s.bank n).asked == some 0) then
    let s1 := { s with calib := { s.calib with bist := false, bistBad := false } }.calibEnd 2 s.calib.bistBad
    (List.range 160).foldl (fun (acc : State) n => acc.setBank n { acc.bank n with asked := none }) s1
  else s

/-- SPARE_BIST_SLOT (R519): a fifth slot with no copy in progress marches one line of a spare row. -/
def execSpareBistSlot (bank : Nat) (good : Bool) (s : State) : Out :=
  let b := s.bank bank
  if !s.slotDue bank || b.slot != 4 || b.copy.isSome then ok s
  else
    let fresh := s.calib.bist && b.asked.isNone
    let at' := b.skipUsed 16 (if fresh then 0 else b.march)
    let r := at' / 128
    let next := (at' + 1) % 2048
    let asked := if fresh then some (2047 - at') else b.asked.map (fun n => if next = 0 then 0 else min n (2048 - next))
    let b1 := { b.next s.ticks with march := next, asked := if s.calib.bist then asked else none }
    let s1 := s.bump Ctr.TELEM_SPARE_BIST_LINES 1
    if good then
      ok ((s1.setBank bank { b1 with passed := mset b.passed r (setBit (mget b.passed r 0) (at' % 128)) 0 }).bistDone)
    else
      let s2 := s1.setBank bank { b1 with passed := mset b.passed r 0 0, failed := setBit b.failed r }
      ok ((({ s2 with calib := { s2.calib with bistBad := s2.calib.bist } }).raise Err.TELEM_SPARE_BIST_FAIL).bistDone)

/-- REMAP_COPY_SLOT (R520): a fifth slot copies the next line of the row. Addresses keep their contents, so the copy
shows only in the mapping. -/
def execRemapCopySlot (bank : Nat) (ecc : EccResult) (s : State) : Out :=
  let b := s.bank bank
  match b.copy with
  | none => ok s
  | some (row, r, l) =>
    if !s.slotDue bank || b.slot != 4 || 128 ≤ l then ok s
    else
      let s1 := s.setBank bank { b.next s.ticks with copy := some (row, r, l + 1),
                                                      copied := if l = 127 then s.ticks + 1 else 0 }
      ok (s1.granaryCheck .background (lineAddr bank (128 * row + l)) 64 ecc).2

/-- REMAP_SWITCH (R411, R520): at the boundary after the last copied line. -/
def execRemapSwitch (bank : Nat) (s : State) : Out :=
  let b := s.bank bank
  match b.copy with
  | none => ok s
  | some (row, r, l) =>
    if l = 128 ∧ b.copied ≤ s.ticks then
      let s1 := s.setBank bank { b with map := mput b.map row r, used := setBit b.used r, copy := none }
      ok (((s1.bump Ctr.GRANARY_REMAPS 1).raise Err.GRANARY_REMAP).startCopy bank)
    else ok s

/-- The bank or slice with the fewest tested spare rows left, the lowest of equals (R419). -/
def State.lowBank (s : State) : Nat :=
  (List.range 160).foldl (fun best n => if (s.bank n).left < (s.bank best).left then n else best) 0

/-! ### Dither calibration (R521) -/

/-- The ferries of a mask, ascending. -/
def ferriesOf (m : Nat) : List Nat := (List.range 8).filter (bit m)

/-- Begin a pass where none is in progress: a queued request first, then a periodic pass that is due. -/
def State.beginDither (s : State) : State :=
  let c := s.calib
  if c.dither.isSome then s
  else if c.dAsked ≠ 0 then
    { s with calib := { c with dither := some { left := ferriesOf c.dAsked, since := s.ticks, asked := true, odd := false },
                               dAsked := 0 } }
  else if c.dDue then
    { s with calib := { c with dither := some { left := List.range 8, since := s.ticks, asked := false, odd := false },
                               dDue := false } }
  else s

/-- The boundary's part: a pass over all ferries starts every 1,048,576 bells (R521). -/
def State.ditherTick (s : State) : State :=
  (if s.ticks % 1048576 = 0 then { s with calib := { s.calib with dDue := true } } else s).beginDither

/-- A pass's ferry is done. -/
def State.ditherNext (s : State) (p : DitherPass) (rest : List Nat) : State :=
  if rest.isEmpty then
    let s1 := { s with calib := { s.calib with dither := none } }.bump Ctr.TELEM_DITHER_CAL_PASSES 1
    (if p.asked then s1.calibEnd 0 p.odd else s1).beginDither
  else { s with calib := { s.calib with dither := some { p with left := rest, since := s.ticks } } }

/-- One element's new η: within 5 % it is ignored, within 25 % it takes the place of the value in force in the Almanac
working copy, beyond that it is not used (R521). Answers whether it was odd. -/
def State.takeEta (s : State) (h : Nat) (new : Int) : Bool × State :=
  let old := s.cal 1 h
  let d := (new - old).natAbs
  if 20 * d < old.natAbs then (false, s)
  else if 4 * d ≤ old.natAbs then
    let a := s.alm
    (false, { s with alm := a.withData { a.data with eta := (h, new) :: a.data.eta.filter (fun p => p.1 != h) } })
  else (true, s)

/-- Whether element `h`'s loop is LOCKED in the owning Hearth: heater number, ring elements only (R521). -/
def State.elementLocked (s : State) (h : Nat) : Bool :=
  let f := h / 256
  let j := h / 8 % 32
  let e := h % 8
  let q := if e = 0 then 0 else if e = 1 ∨ e = 2 then 1 else 2
  match s.owner with
  | none => false
  | some o => (e = 0 ∨ e = 1 ∨ e = 2 ∨ e = 4 ∨ e = 5) && e == s.drivenElem q f j
      && ((s.hearth o).loop (4 * (32 * f + j) + q)).st == 3

/-- DITHER_CAL_PASS (R521): the 512 bells of a ferry are over; `etas` are the new efficiencies by heater. -/
def execDitherCalPass (f : Nat) (etas : List (Nat × Int)) (s : State) : Out :=
  match s.calib.dither with
  | none => ok s
  | some p =>
    match p.left with
    | [] => ok s
    | g :: rest =>
      if g ≠ f ∨ s.ticks < p.since + 512 ∨ s.inLimp then ok s
      else
        let r := etas.foldl (fun (acc : Bool × State) e =>
          if e.1 / 256 = f ∧ acc.2.elementLocked e.1 then
            let q := acc.2.takeEta e.1 e.2
            if q.1 then (true, q.2.raise Err.TELEM_DITHER_CAL_ODD) else (acc.1, q.2)
          else acc) (false, s)
        ok (r.2.ditherNext { p with odd := p.odd || r.1 } rest)

/-! ### BG sheaves (R523) and bias ageing (R524) -/

/-- BG_SHEAF_RECEIVE (R523): a BG sheaf on L0, or one for this node in an open slot. -/
def execBgSheafReceive (link : Nat) (sheaf : Sheaf) (s : State) : Out :=
  if sheaf.kind ≠ 9 then ok s
  else if link % 32 = 0 then ok (s.l0Arrive (link / 32) sheaf)
  else if sheaf.dest = s.nodeId then ok (s.bgArrive sheaf)
  else ok s

/-- A write of TELEM_AGE_RESET: the next drawn-level poll of the line is its first bias (R524). -/
def State.ageReset (s : State) (v : Nat) : State :=
  let k := v % 64
  { s with ageing := mset s.ageing k { s.age k with renew := true } Ageing.blank }

/-- TELEM_AGE_RESET (R524). -/
def execTelemAgeReset (val : Word) (s : State) : Out := ok (s.ageReset val.toNat)

/-! ### Requested calibration (R525 to R528) -/

/-- An in-service request is accepted: QUEUED, its bit in PENDING (R526). -/
def State.accept (s : State) (kind : Nat) : State :=
  ((s.wr Reg.CALIB_STATUS_RESULT 1).wr Reg.CALIB_STATUS_PENDING (setBit (s.rd Reg.CALIB_STATUS_PENDING) kind)).bump
    Ctr.TELEM_CALIB_ACCEPTED 1

/-- Two scopes merged: an ALL absorbs a single ferry, and two different ferries become ALL (R526). -/
def mergeScope (a b : Nat) : Nat := if a = 0 then b else if a = b then a else 0xFF

/-- A write of CALIB_REQ (R525, R526). -/
def State.calibRequest (s : State) (v : Nat) : State :=
  let kind := v % 16
  let f := bits v 5 3
  let scope := if bit v 4 then 0xFF else 2 ^ f
  if bits v 8 8 ≠ 0xA5 ∨ 4 < kind then s.wr Reg.CALIB_STATUS_RESULT 5
  else
    let s1 := (s.wr Reg.CALIB_STATUS_KIND kind).wr Reg.CALIB_STATUS_FERRY f
    if kind = 0 then
      { s1.accept 0 with calib := { s1.calib with dAsked := mergeScope s1.calib.dAsked scope } }.beginDither
    else if kind = 1 then
      let running := s1.calib.l0Ferries
      { s1.accept 1 with calib := { s1.calib with l0Ferries := mergeScope running scope, l0Left := 1024,
                                                  l0Bad := running != 0 && s1.calib.l0Bad } }
    else if kind = 2 then
      let s2 := s1.accept 2
      if s2.calib.bist then s2 else { s2 with calib := { s2.calib with bist := true, bistBad := false } }
    else { s1 with calib := { s1.calib with decide := s1.calib.decide ++ [(kind, f)] } }

/-- CALIB_DITHER_CAL (R525). -/
def execCalibDitherCal (val : Word) (s : State) : Out := ok (s.calibRequest val.toNat)
/-- CALIB_L0_CHECK (R525). -/
def execCalibL0Check (val : Word) (s : State) : Out := ok (s.calibRequest val.toNat)
/-- CALIB_SPARE_BIST (R525). -/
def execCalibSpareBist (val : Word) (s : State) : Out := ok (s.calibRequest val.toNat)
/-- CALIB_FERRY_RELOCK (R526, R527): decided at the next boundary. -/
def execCalibFerryRelock (val : Word) (s : State) : Out := ok (s.calibRequest val.toNat)
/-- CALIB_LANE_BIST (R526, R528): decided at the next boundary. -/
def execCalibLaneBist (val : Word) (s : State) : Out := ok (s.calibRequest val.toNat)
/-- CALIB_REQ_BAD (R525). -/
def execCalibReqBad (val : Word) (s : State) : Out := ok (s.calibRequest val.toNat)

/-- CALIB_L0_CHECK_END (R525, R526): the 1,024 bells are over. -/
def execCalibL0CheckEnd (s : State) : Out :=
  if s.calib.l0Ferries ≠ 0 ∧ s.calib.l0Left = 0 then
    ok ({ s with calib := { s.calib with l0Ferries := 0, l0Bad := false } }.calibEnd 1 s.calib.l0Bad)
  else ok s

/-- Start an accepted FERRY_RELOCK: the DONE mark is cleared, the links return to DETECT, the loops go OFF and the sweep
begins (R527). -/
def State.startRelock (s : State) (f : Nat) : State :=
  let s1 := (List.range 32).foldl (fun (acc : State) j => acc.toDetect (32 * f + j) 19 .one s.ticks) (s.clearRelock f)
  let s2 := s1.loopsOff f
  { s2 with boot := { s2.boot with relockTodo := s2.boot.relockTodo ++ [f] } }.sweepNext

/-- Start an accepted LANE_BIST: the links named return to DETECT (R528). -/
def State.startBist (s : State) (f : Nat) : State :=
  let m := s.rd Reg.CALIB_LINKS_LINKS
  let js := (List.range 32).filter (fun j => j != 0 && bit m j)
  let s1 := js.foldl (fun (acc : State) j => acc.toDetect (32 * f + j) 19 .one s.ticks) s
  let s2 := { s1 with calib := { s1.calib with links := js.map (fun j => (32 * f + j, s.ticks)), errors := [] } }
  if js.isEmpty then { s2 with calib := { s2.calib with run := none } }.calibEnd 4 false else s2

/-- Whether a disruptive request on ferry `f` is accepted (R526). -/
def State.mayDisrupt (s : State) (f : Nat) : Bool :=
  bit (s.rd Reg.SCHED_DRAINED_FERRIES) f && s.rd Reg.DEVICE_STATE_STATE == 2 && s.calib.run.isNone
    && !s.is Reg.THERMAL_STATUS_TRIP && !s.is (Reg.HEARTH_OWNER_NONE 0) && !s.is (Reg.HEARTH_OWNER_DUAL 0)

/-- The boundary decides the disruptive requests made in the bell before it (R526). -/
def State.decideCalib (s : State) : State :=
  s.calib.decide.foldl (fun (acc : State) q =>
    if acc.mayDisrupt q.2 then
      let s1 := (acc.accept q.1).wr Reg.CALIB_STATUS_RESULT 2
      let s2 := { s1 with calib := { s1.calib with run := some q } }
      if q.1 = 3 then s2.startRelock q.2 else s2.startBist q.2
    else (acc.wr Reg.CALIB_STATUS_RESULT 4).bump Ctr.TELEM_CALIB_REFUSED 1)
    { s with calib := { s.calib with decide := [] } }

/-- LANE_BIST_END (R528): a link's count is stored, or 0xFFFF_FFFF where its equaliser has not converged within 4,096
bells; it returns to DETECT and comes up normally. -/
def execLaneBistEnd (f j : Nat) (errors : Option Nat) (s : State) : Out :=
  let k := 32 * f + j
  match s.calib.links.find? (fun p => p.1 == k) with
  | none => ok s
  | some p =>
    let conv := s.stageOf k = 1 ∧ s.is (Reg.FERRY_LANE_STATE_EQ_CONVERGED f j)
    let may := match errors with
      | some _ => decide conv
      | none => decide (p.2 + 4096 ≤ s.ticks)
    if !may then ok s
    else
      let links := s.calib.links.erase p
      let v := errors.elim 0xFFFFFFFF (satAt 0xFFFFFFFF)
      let s1 := { s with calib := { s.calib with links := links, errors := mset s.calib.errors j v 0,
                                                 run := if links.isEmpty then none else s.calib.run } }
      let s2 := s1.toDetect k 19 .one s.ticks
      ok (if links.isEmpty then s2.calibEnd 4 false else s2)

/-- The boundary's part of a requested L0 check: its bells count down (R525). -/
def State.l0Tick (s : State) : State :=
  if s.calib.l0Ferries = 0 then s else { s with calib := { s.calib with l0Left := s.calib.l0Left - 1 } }

end Sys2Proof.Machine
end

