-- ==== Sys2Proof/Machine/Alarm.lean ====
section
/-! DEFINITION. Sys2Proof/Machine/Alarm.lean: error occurrences, ALARM_N, and the Ledger with its own failure (spec/21
R533 to R558). The raise itself, with its reactions, stands in Ops. -/

namespace Sys2Proof.Machine

/-! ### Occurrences (R537) -/

/-- Whether a page has an error code of its own at a PG_ERR bit (R102). -/
def errListed (page code : Nat) : Bool := pagePresent page && (pageErrBits page).any (fun e => e.1 == code)

/-- ERROR_OCCURRENCE (R537): a block reports one of the errors its page lists. -/
def execErrorOccurrence (page code : Nat) (tag : EntryTag) (injected prefetch : Bool) (detail : Nat) (s : State) : Out :=
  if errListed page code then
    ok (s.raise { page := page, bit := code, cls := defaultClass page code }
      { tag := tag, injected := injected, prefetch := prefetch, detail := detail })
  else ok s

/-! ### ALARM_N (R543 to R545) -/

/-- ALARM_N_MINIMUM_END (R543): the minimum has ended; the assertion is released if a release is in force or HOLD is
0. -/
def execAlarmNMinimumEnd (s : State) : Out :=
  if s.is Reg.ALARM_STATUS_WOULD_DRIVE && s.is Reg.ALARM_STATUS_MIN_RUNNING && decide (s.alarm.minEnd ≤ s.ticks) then
    ok (s.wr Reg.ALARM_STATUS_MIN_RUNNING 0).alarmTryRelease
  else ok s

/-- A write of ALARM_RELEASE (R543, R544). -/
def State.alarmAskRelease (s : State) : State :=
  if !s.is Reg.ALARM_STATUS_WOULD_DRIVE then s
  else
    let s1 := { s with alarm := { s.alarm with released := true } }
    if s.is Reg.ALARM_STATUS_MIN_RUNNING then s1.wr Reg.ALARM_STATUS_RELEASE_PENDING 1 else s1.alarmTryRelease

/-- ALARM_RELEASE (R543). -/
def execAlarmRelease (s : State) : Out := ok s.alarmAskRelease

/-- A write of ALARM_CTRL (R543): DRIVE_EN starts or stops driving the assertion in force; HOLD = 0 may release it. -/
def State.writeAlarmCtrl (s : State) (v : Nat) : State :=
  let s1 := (s.wrB Reg.ALARM_CTRL_DRIVE_EN (bit v 0)).wrB Reg.ALARM_CTRL_HOLD (bit v 1)
  let s2 := if !bit v 0 then s1.wr Reg.ALARM_STATUS_DRIVING 0
    else if s1.is Reg.ALARM_STATUS_WOULD_DRIVE then s1.alarmDrive else s1
  s2.alarmTryRelease

/-- A sample while the IZ5 drives the pin (R545). -/
def State.pinDriven (s : State) (level : Bool) : State :=
  if s.ticks = s.alarm.driveStart then s
  else if !level then { s with alarm := { s.alarm with highRun := 0 } }
  else
    let s1 := { s with alarm := { s.alarm with highRun := s.alarm.highRun + 1 } }
    if 2 ≤ s1.alarm.highRun && !s.alarm.pinRaised then
      { s1 with alarm := { s1.alarm with pinRaised := true } }.raise Err.ALARM_ALARM_PIN_FAULT
    else s1

/-- A sample while the IZ5 does not drive the pin (R545). -/
def State.pinFree (s : State) (level : Bool) : State :=
  if s.alarm.relMark ≠ 0 ∧ (s.ticks + 1 = s.alarm.relMark ∨ s.ticks = s.alarm.relMark) then s
  else if level then
    { s.wr Reg.ALARM_STATUS_EXT_LOW 0 with alarm := { s.alarm with lowRun := 0, stuckRaised := false } }
  else
    let s1 := (s.wr Reg.ALARM_STATUS_EXT_LOW 1).bump Ctr.ALARM_ALARM_LOW_BELLS 1
    let s2 := { s1 with alarm := { s1.alarm with lowRun := s1.alarm.lowRun + 1 } }
    if max 1 (s.rd Reg.ALARM_STUCK_LIMIT_BELLS) ≤ s2.alarm.lowRun && !s.alarm.stuckRaised then
      ({ s2 with alarm := { s2.alarm with stuckRaised := true } }.bump Ctr.ALARM_STUCK_EPISODES 1).raise
        Err.ALARM_ALARM_STUCK
    else s2

/-- ALARM_PIN_SAMPLE (R545): the level of ALARM_N at CCK cycle 640. -/
def execAlarmPinSample (level : Bool) (s : State) : Out :=
  let s1 := s.wrB Reg.ALARM_STATUS_PIN level
  ok (if s.is Reg.ALARM_STATUS_DRIVING then s1.pinDriven level else s1.pinFree level)

/-- A write of ALARM_RESET: LIMIT, and CLEAR sets COUNT to 0 (R541). -/
def State.writeAlarmReset (s : State) (v : Nat) : State :=
  let s1 := s.wr Reg.ALARM_RESET_LIMIT (bits v 4 4)
  if bit v 8 then s1.wr Reg.ALARM_RESET_COUNT 0 else s1

/-- ALARM_RESET_CLEAR (R541). -/
def execAlarmResetClear (s : State) : Out := ok (s.wr Reg.ALARM_RESET_COUNT 0)

/-- The lines asserted now, as a mask (R533). -/
def State.lines (s : State) : Nat :=
  (List.range 30).foldl (fun m n => if s.lineAsserted n then setBit m n else m) 0

/-- A W1C write of ALARM_SUMMARY: the bit of an asserted line stays set (R534). -/
def State.clearSummary (s : State) (v : Nat) : State :=
  let b := s.rd Reg.ALARM_SUMMARY_BLOCKS
  let gone := b &&& v
  s.wr Reg.ALARM_SUMMARY_BLOCKS ((b - gone) ||| (gone &&& s.lines))

/-- ALARM_SUMMARY_CLEAR (R534). -/
def execAlarmSummaryClear (val : Word) (s : State) : Out := ok (s.clearSummary val.toNat)

/-! ### Entries (R550) -/

/-- The 32 bytes of an entry. -/
def entryBytes (e : Entry) : List Byte :=
  let t : Nat × Nat := match e.tag with
    | .none => (0, 0)
    | .tag32 t => (t, 1)
    | .tag16 t => (t % 65536, 2)
  leBytes 6 e.bell ++ leBytes 1 e.page ++ leBytes 1 (e.code % 32 + 32 * e.cls) ++ leBytes 4 t.1
    ++ leBytes 1 (t.2 + 4 * b2n e.masked + 8 * b2n e.injected + 16 * b2n e.prefetch + 32 * b2n e.record + 64 * b2n e.rep)
    ++ leBytes 1 0 ++ leBytes 2 e.cycle ++ leBytes 4 e.seq ++ leBytes 8 e.detail ++ leBytes 4 0

/-- Word `j` of an entry; an empty one is all zeros (R549). -/
def entryWord (e : Entry) (j : Nat) : Nat := if e.seq = 0 then 0 else ofLe (((entryBytes e).drop (4 * j)).take 4)

/-- Ring entry `i`. -/
def State.ledgerEntry (s : State) (i : Nat) : Entry := mget s.ledger.ring i Entry.empty

/-! ### Writing the ring (R553, R554) -/

/-- The sequence number after another; 0 is skipped (R550). -/
def nextSeqNo (n : Nat) : Nat := if (n + 1) % 2 ^ 32 = 0 then 1 else (n + 1) % 2 ^ 32

/-- Take the next sequence number for an entry. -/
def State.takeSeq (s : State) (e : Entry) : Entry × State :=
  let q := s.rd Reg.LEDGER_SEQ_SEQ
  ({ e with seq := q }, s.wr Reg.LEDGER_SEQ_SEQ (nextSeqNo q))

/-- Put an entry with its sequence number into the next free gasp entry, or drop it (R555). -/
def State.gaspPut (s : State) (e : Entry) : State :=
  if s.ledger.gasp.length < 8 then
    { s with ledger := { s.ledger with gasp := s.ledger.gasp ++ [e] } }.bump Ctr.LEDGER_GASP_WRITTEN 1
  else s.bump Ctr.LEDGER_LEDGER_DROPPED 1

/-- A new entry goes to the gasp file with the next sequence number; with no room it is dropped and takes none. -/
def State.gaspNew (s : State) (e : Entry) : State :=
  if s.ledger.gasp.length < 8 then
    let r := s.takeSeq e
    r.2.gaspPut r.1
  else s.gaspPut e

/-- The Ledger's memory fails at an entry; `moved` is the entry whose verify failed (R555). -/
def State.ledgerFail (s : State) (i : Nat) (moved : Option Entry) (injected : Bool) : State :=
  let s1 := ((s.wr Reg.LEDGER_STATUS_LOST 1).wr Reg.LEDGER_LOST_ADDR_INDEX i).wr Reg.LEDGER_STATUS_BIST_PASS 0
  let r := s1.markErr Err.LEDGER_LEDGER_LOST { injected := injected }
  let s2 := { r.1 with draws := r.1.draws + 1 }.gaspNew r.2
  match moved with
  | none => s2
  | some e => s2.gaspPut e

/-- A correctable error of the Ledger SRAM (R555). -/
def State.ledgerCe (s : State) : State := (s.bump Ctr.LEDGER_CE_EVENTS 1).raise Err.LEDGER_LEDGER_CE

/-- Whether the ring takes no entry: WRAP = 0 and the write pointer stands before the read pointer (R554). -/
def State.ringFull (s : State) : Bool :=
  !s.is Reg.LEDGER_CTRL_WRAP && (s.rd Reg.LEDGER_WP_INDEX + 1) % 2048 == s.rd Reg.LEDGER_RP_INDEX

/-- Write an entry at the write pointer and verify it; `verify` is what reading it back finds (R553, R555). -/
def State.ledgerWrite (s : State) (e : Entry) (verify : EccResult) : State :=
  if s.is Reg.LEDGER_STATUS_LOST then s.gaspNew e
  else if s.ringFull then (s.bump Ctr.LEDGER_LEDGER_DROPPED 1).wr Reg.LEDGER_STATUS_FULL 1
  else
    let w := s.rd Reg.LEDGER_WP_INDEX
    let r := s.takeSeq e
    let s1 := { r.2 with ledger := { r.2.ledger with ring := mset r.2.ledger.ring w r.1 Entry.empty } }
    let inj : Bool × State := s1.injectUse 0x06 0
    if inj.1 = true ∨ verify = EccResult.uncorrectable then inj.2.ledgerFail w (some r.1) inj.1
    else
      let s2 := (inj.2.wr Reg.LEDGER_WP_INDEX ((w + 1) % 2048)).bump Ctr.LEDGER_LEDGER_WRITTEN 1
      if verify = EccResult.corrected then s2.ledgerCe else s2

/-- LEDGER_ENTRY_WRITE (R553): the oldest occurrence of the write queue; the overflow episode ends when the queue
empties. -/
def execLedgerEntryWrite (verify : EccResult) (s : State) : Out :=
  match s.ledger.queue with
  | [] => ok s
  | e :: rest =>
    let s1 := { s with ledger := { s.ledger with queue := rest, overflow := s.ledger.overflow && !rest.isEmpty } }
    ok (s1.ledgerWrite e verify)

/-- A write of LEDGER_RP (R554). -/
def State.writeRp (s : State) (v : Nat) : State :=
  let s1 := s.wr Reg.LEDGER_RP_INDEX v
  if s1.ringFull then s1 else s1.wr Reg.LEDGER_STATUS_FULL 0

/-- LEDGER_RP_WRITE (R554). -/
def execLedgerRpWrite (val : Word) (s : State) : Out := ok (s.writeRp val.toNat)

/-! ### The Ledger's own failure (R555, R556) -/

/-- A write of LEDGER_CTRL.BIST: accepted while LOST = 1 and no BIST runs. -/
def State.ledgerBist (s : State) : State :=
  if s.is Reg.LEDGER_STATUS_LOST && !s.is Reg.LEDGER_STATUS_BIST_BUSY then
    (s.wr Reg.LEDGER_STATUS_BIST_BUSY 1).bump Ctr.LEDGER_BIST_RUNS 1
  else s

/-- LEDGER_BIST (R556). -/
def execLedgerBist (s : State) : Out := ok s.ledgerBist

/-- LEDGER_BIST_DONE (R556): the march is over. -/
def execLedgerBistDone (pass : Bool) (s : State) : Out :=
  if s.is Reg.LEDGER_STATUS_BIST_BUSY then
    ok ((s.wr Reg.LEDGER_STATUS_BIST_BUSY 0).wrB Reg.LEDGER_STATUS_BIST_PASS pass)
  else ok s

/-- A write of LEDGER_REARM (R556): with the key and BIST_PASS = 1, the ring is zeroed and a LEDGER_REARMED record is
written at entry 0; `verify` is what reading it back finds. -/
def State.ledgerRearm (s : State) (v : Nat) (verify : EccResult) : State :=
  if bits v 8 8 ≠ 0xA5 ∨ !bit v 0 ∨ !s.is Reg.LEDGER_STATUS_BIST_PASS then s
  else
    let last := (s.ledger.gasp.getLast?).elim 0 (·.seq)
    let s1 := [Reg.LEDGER_WP_INDEX, Reg.LEDGER_RP_INDEX, Reg.LEDGER_STATUS_LOST, Reg.LEDGER_STATUS_BIST_PASS,
      Reg.LEDGER_STATUS_FULL, Reg.LEDGER_STATUS_OVERFLOW].foldl (fun (acc : State) f => acc.wr f 0) s
    let s2 := { s1 with ledger := { s1.ledger with ring := [] }, draws := s1.draws + 1 }
    s2.ledgerWrite { Entry.empty with
      bell := s.bellNum, page := 0x06, code := 7, record := true, cycle := Config.freeCycle s.draws % 2048, detail := last }
      verify

/-- LEDGER_REARM (R556). -/
def execLedgerRearm (val : Word) (verify : EccResult) (s : State) : Out := ok (s.ledgerRearm val.toNat verify)

/-- A write of LEDGER_CTRL.GASP_CLEAR (R556). -/
def State.gaspClear (s : State) : State :=
  if s.is Reg.LEDGER_STATUS_LOST then s else { s with ledger := { s.ledger with gasp := [] } }

/-- GASP_CLEAR (R556). -/
def execGaspClear (s : State) : Out := ok s.gaspClear

/-- A write of LEDGER_CTRL (R554, R556): WRAP = 1 clears FULL. -/
def State.writeLedgerCtrl (s : State) (v : Nat) : State :=
  let s1 := s.wrB Reg.LEDGER_CTRL_WRAP (bit v 0)
  let s2 := if bit v 0 then s1.wr Reg.LEDGER_STATUS_FULL 0 else s1
  let s3 := if bit v 1 then s2.ledgerBist else s2
  if bit v 2 then s3.gaspClear else s3

/-- LEDGER_WRAP_WRITE (R554). -/
def execLedgerWrapWrite (val : Word) (s : State) : Out := ok (s.writeLedgerCtrl val.toNat)

end Sys2Proof.Machine
end

