-- ==== Sys2Proof/Machine/Params.lean ====
section
/-! DEFINITION. Sys2Proof/Machine/Params.lean: the checks that a descriptor meets at HEAD (spec/13 R365): its reserved
fields, its group entry (spec/17 R452), its PARAMS by opcode (R360, R361, R456, R478, R501) and its region. -/

namespace Sys2Proof.Machine

/-! ### Reserved fields (R358 to R363, R455, R477) -/

/-- The reserved bits of the common header, as (byte, mask). -/
def headerReserved : List (Nat × Nat) :=
  [(1, 0xE0), (2, 0xE0), (3, 0xFF), (9, 0xF0), (10, 0xFF), (11, 0xFF), (22, 0xFF), (23, 0xFF)]

/-- Whole bytes from `a` to `b` reserved. -/
def bytesReserved (a b : Nat) : List (Nat × Nat) := (List.range (b + 1 - a)).map (fun i => (a + i, 0xFF))

/-- The reserved bits of an opcode's PARAMS. A reserved FLAGS bit of SCAN is refused as PARAMS (R501). -/
def paramsReserved (op : Nat) : List (Nat × Nat) :=
  match op with
  | 1 => bytesReserved 32 63
  | 2 => [(35, 0xFC), (60, 0xE0)] ++ bytesReserved 61 63
  | 3 => (54, 0xF0) :: bytesReserved 55 63
  | 4 => (54, 0xF0) :: bytesReserved 55 63
  | 5 => [(56, 0xFE), (59, 0xF0)] ++ bytesReserved 60 63
  | 7 => [(32, 0xF0), (33, 0xE0), (63, 0xFF)]
  | 8 => (36, 0xFE) :: bytesReserved 37 63
  | 9 => bytesReserved 38 63
  | 10 => bytesReserved 32 63
  | _ => []

/-- Whether every reserved field of a descriptor is zero. -/
def reservedZero (d : List Byte) : Bool :=
  (headerReserved ++ paramsReserved (descOp d)).all (fun r => descNum d r.1 1 &&& r.2 == 0)

/-! ### Group entries (R451, R452) -/

/-- Whether landing entry `i` of a set is a valid TASK landing entry. -/
def taskLand (t : Map Byte) (i : Nat) : Bool := (landEntry t i).valid && !(landEntry t i).host

/-- The reserved bits of a group entry, as (byte, mask). -/
def groupReserved : List (Nat × Nat) :=
  [(0, 0xF0), (1, 0xF8), (4, 0xF8), (7, 0xFC), (10, 0xF0), (13, 0xF0), (15, 0xFC), (18, 0xF0), (20, 0xFC), (21, 0xFF)]
    ++ (List.range 6).map (fun i => (28 + 7 * i, 0xFC))

/-- Whether a group entry is valid (R452). -/
def groupValid (t : Map Byte) (g : List Byte) : Bool :=
  let size := grpSize g
  bit (hdrNum g 0 1) 0 && 1 ≤ size && size ≤ 262144 && grpRank g < size && grpChildren g ≤ 6
    && (grpRoot g || (grpUpFlow g != 0 && taskLand t (grpDownLand g)))
    && (List.range (grpChildren g)).all (fun i => taskLand t (grpUpLand g i))
    && groupReserved.all (fun r => hdrNum g r.1 1 &&& r.2 == 0)

/-- CHAIN_FIRST and CHAIN_LAST of a group entry. -/
def grpChainFirst (g : List Byte) : Bool := bit (hdrNum g 0 1) 2
def grpChainLast (g : List Byte) : Bool := bit (hdrNum g 0 1) 3

/-! ### Addresses and types -/

/-- A LOCAL address names a window (R360). -/
def localWindow (a : Nat) : Bool := bit a 63

/-- A LOCAL range that an opcode may name: in a window, which is checked at its access (R182), or within the Granary
(log entry 17). -/
def localOk (a n : Nat) : Bool := localWindow a || inGranary a n

/-- A Granary address is 64-byte aligned; a window address is not asked to be. -/
def aligned64 (a : Nat) : Bool := localWindow a || a % 64 == 0

/-- Bytes of one element of a type code (R455): FP32, BF16, FP16, FP8 E4M3, FP8 E5M2, INT32, INT8. -/
def typeBytes (t : Nat) : Nat :=
  match t with
  | 0 => 4
  | 1 => 2
  | 2 => 2
  | 5 => 4
  | _ => 1

/-- Whether a type code is a floating format. -/
def typeFloat (t : Nat) : Bool := t < 5

/-- The input and output type of a DTYPE byte; output 0xF is the input's. -/
def typeIn (b : Nat) : Nat := b % 16
def typeOut (b : Nat) : Nat := if b / 16 = 15 then b % 16 else b / 16

/-- The length of a source with its tally array, pieces of `p` bytes (R382). -/
def withArray (tally : Bool) (a n p : Nat) : Nat :=
  if tally then (a + n + 3) / 4 * 4 - a + 4 * ((n + p - 1) / p) else n

/-! ### PARAMS by opcode -/

/-- PUT and GET (R360). -/
def putGetOk (d : List Byte) : Bool :=
  let n := descNum d 48 4
  1 ≤ n && n ≤ 16777216
    && (descOp d == 4 || localOk (descNum d 32 8) (withArray (descFlag d 3) (descNum d 32 8) n 496))

/-- PROGRAM (R361). -/
def programOk (d : List Byte) : Bool :=
  let n := descNum d 40 4
  1 ≤ n && n ≤ 262144
    && localOk (descNum d 32 8)
      (withArray (descFlag d 3) (descNum d 32 8) n (if bit (descNum d 56 1) 0 then 496 else 512))

/-- COLLECTIVE (R456). -/
def collectiveOk (d g : List Byte) : Bool :=
  let op := descNum d 32 1
  let red := descNum d 33 1
  let ti := typeIn (descNum d 34 1)
  let to' := typeOut (descNum d 34 1)
  let mode := descNum d 35 1
  let count := descNum d 36 4
  let m := if op = 2 ∨ op = 3 ∨ op = 6 then grpSize g else 1
  1 ≤ op && op ≤ 7 && red ≤ 7 && ti ≤ 6 && to' ≤ 6
    && !(red == 4 && !typeFloat ti) && !(5 ≤ red && typeFloat ti)
    && !((op == 3 || op == 4 || op == 6) && (to' != ti || red != 0))
    && typeFloat ti == typeFloat to'
    && (op == 7) == (count == 0)
    && count * m ≤ 268435456
    && !(op == 6 && 4096 < grpSize g)
    && !(bit mode 0 && !typeFloat to') && !(bit mode 1 && op == 6)
    && aligned64 (descNum d 40 8) && aligned64 (descNum d 48 8)

/-- SELECT (R477, R478). -/
def selectOk (d : List Byte) : Bool :=
  let fl := descNum d 33 1
  let k := descNum d 34 2
  let n := descNum d 36 4
  descNum d 32 1 % 16 ≤ 6 && bits fl 1 2 != 3 && bits fl 3 2 != 3 && !(bits fl 1 2 == 1 && 16 < k)
    && 1 ≤ k && k ≤ 4096 && 1 ≤ n && n ≤ 16777216 && descNum d 56 5 + n ≤ 2 ^ 40 && 1 ≤ descNum d 61 2
    && aligned64 (descNum d 40 8) && aligned64 (descNum d 48 8)

/-- E of R499: elements a core holds. -/
def scanE (d : List Byte) : Nat :=
  let n := descNum d 34 2 * descNum d 36 2
  let c := 16 * popCount 8 (descNum d 39 1)
  if c = 0 then 0 else 64 * ((n + 64 * c - 1) / (64 * c))

/-- SCAN's refusals with DETAIL 4 (R501). -/
def scanOk (d : List Byte) : Bool :=
  let mode := descNum d 32 1
  let ty := descNum d 33 1
  let fl := descNum d 38 1
  let rows := descNum d 34 2
  let width := descNum d 36 2
  let steps := descNum d 56 4
  let init := descNum d 60 4
  mode ≤ 3 && ty % 16 ≤ 2 && (ty / 16 ≤ 2 || ty / 16 == 15) && fl < 4
    && !(mode == 0 && ty != 0 && ty != 0xF0)
    && 1 ≤ rows && rows ≤ 1024 && 1 ≤ width && descNum d 39 1 != 0
    && (if mode = 1 ∨ mode = 3 then steps != 0 else steps == 0)
    && (if mode ≤ 1 then scanE d ≤ 512 else if mode = 2 then scanE d ≤ 1024 else true)
    && aligned64 (descNum d 40 8) && aligned64 (descNum d 48 8)
    && (!bit fl 0 || (init % 64 == 0 && descRegion d ≤ init && init + 4 * rows * width ≤ descRegion d + descRegionSize d))

/-- SCAN's refusals with DETAIL 3 (R501). -/
def scanGroupOk (t : Map Byte) (d g : List Byte) : Bool :=
  if 2 ≤ descNum d 32 1 then grpSize g == 1
  else (grpChainFirst g || taskLand t (grpPredLand g)) && (grpChainLast g || grpSuccFlow g != 0)

/-! ### The checks in order (R365) -/

/-- Whether two ranges overlap. -/
def overlaps (a n b m : Nat) : Bool := n != 0 && m != 0 && a < b + m && b < a + n

/-- Whether a descriptor's region is good (R365). -/
def State.regionOk (s : State) (d : List Byte) : Bool :=
  let a := descRegion d
  let n := descRegionSize d
  n == 0 || (a % 64 == 0 && n % 64 == 0 && inGranary a n
    && !s.liveSlots.any (fun k => overlaps a n (descRegion (s.task k).desc) (descRegionSize (s.task k).desc))
    && !overlaps a n (s.rd Reg.WEIR_POOL_BASE_ADDR) (528 * s.rd Reg.WEIR_POOL_CELLS_CELLS)
    && !overlaps a n (s.rd Reg.CMD_PROG_STAGE_BASE_ADDR) (s.rd Reg.CMD_PROG_STAGE_SIZE_BYTES))

/-- What refuses a descriptor's PARAMS, as DETAIL. -/
def State.paramsBad (s : State) (d : List Byte) : Option Nat :=
  let g := groupBytes s.active.sched (descGroup d)
  let four (b : Bool) : Option Nat := if b then none else some 4
  match descOp d with
  | 2 => four (collectiveOk d g)
  | 3 => four (putGetOk d)
  | 4 => four (putGetOk d)
  | 5 => four (programOk d)
  | 6 => if !scanOk d then some 4 else if !scanGroupOk s.active.sched d g then some 3 else none
  | 7 => four (selectOk d)
  | _ => none

/-- The first check of R365 that a descriptor fails: the status and DETAIL it retires with. -/
def State.descBad (s : State) (d : List Byte) : Option (Nat × Nat) :=
  let op := descOp d
  if op = 0 ∨ 10 < op then some (12, 1)
  else if !reservedZero d then some (12, 2)
  else if usesGroup op && !groupValid s.active.sched (groupBytes s.active.sched (descGroup d)) then some (12, 3)
  else match s.paramsBad d with
    | some r => some (12, r)
    | none =>
      if op = 1 ∨ op = 10 then none
      else if !s.regionOk d then some (13, 0)
      else match s.slotOfTag (descTag d % 65536) with
        | some n => some (14, n)
        | none => none

end Sys2Proof.Machine
end

