-- ==== Sys2Proof/Machine/Rings.lean ====
section
/-! DEFINITION. Sys2Proof/Machine/Rings.lean: the command and event rings (spec/13): their registers, descriptor reads,
events and notices, interrupts, cancellation, admission and the start of tasks. -/

namespace Sys2Proof.Machine

/-! ### The rings' geometry (R352, R355, R371) -/

/-- Entries of the command and of the event ring. -/
def State.cmdSize (s : State) : Nat := 2 ^ s.rd Reg.CMD_SIZE_SIZE
def State.evtSize (s : State) : Nat := 2 ^ s.rd Reg.EVT_SIZE_SIZE

/-- The window addresses of an entry. -/
def State.cmdAddr (s : State) (i : Nat) : Nat :=
  (s.rd Reg.CMD_BASE_HI_BASE * 2 ^ 32 + s.rd Reg.CMD_BASE_LO_BASE * 64 + 64 * i) % 2 ^ 40
def State.evtAddr (s : State) (i : Nat) : Nat :=
  (s.rd Reg.EVT_BASE_HI_BASE * 2 ^ 32 + s.rd Reg.EVT_BASE_LO_BASE * 32 + 32 * i) % 2 ^ 40

/-- The distance from index `a` forward to index `b` in a ring of `n` entries. -/
def ringDist (n a b : Nat) : Nat := (b + n - a % n) % n

/-- Whether the event ring is full (R371). -/
def State.evtRingFull (s : State) : Bool :=
  (s.rd Reg.EVT_TAIL_TAIL + 1) % s.evtSize == s.rd Reg.EVT_HEAD_HEAD % s.evtSize

/-- Whether no event can be written now: the ring is full, or a failed write waits for RESUME (R357, R371). -/
def State.evtFull (s : State) : Bool := s.evtRingFull || !s.ring.retry.isEmpty

/-- Whether the rings are disabled: EN = 0, and nothing admitted while it was 1 is left (R144, R354). -/
def State.ringsDisabled (s : State) : Bool :=
  !s.is Reg.CMD_CTRL_EN && s.liveSlots.isEmpty && s.ring.allWait.isEmpty && s.ring.retry.isEmpty

/-- CMD_STATUS.QUIET (R354). -/
def State.quiet (s : State) : Bool :=
  !s.is Reg.CMD_CTRL_EN && s.liveSlots.isEmpty && s.ring.notices.isEmpty && s.ring.allWait.isEmpty && s.ring.retry.isEmpty

/-! ### Notices and faults (R357, R373) -/

/-- A notice that the next admission point writes. -/
def State.notice' (s : State) (code tag detail : Nat) : State :=
  let v := if s.is Reg.CMD_NOTICE_IRQ_EN then some (s.rd Reg.CMD_NOTICE_IRQ_VECTOR) else none
  { s with ring := { s.ring with
    notices := s.ring.notices ++ [{ tag := tag, opcode := 0xFF, status := code, detail := detail, vector := v }] } }

/-- RING_BAD: a ring register write is ignored. -/
def State.ringBad (s : State) : State := s.raise Err.CMD_RING_BAD

/-- The ring stops (R357); the first fault is kept until RESUME. -/
def State.ringFault (s : State) (reason entry : Nat) : State :=
  if s.is Reg.CMD_STATUS_FAULT then s
  else
    let s1 := ((s.wr Reg.CMD_STATUS_FAULT 1).wr Reg.CMD_FAULT_REASON reason).wr Reg.CMD_FAULT_ENTRY entry
    (s1.raise Err.CMD_RING_FAULT).notice' 1 0 (reason * 2 ^ 24 + entry % 65536)

/-! ### Descriptor reads (R355, R356) -/

/-- Read ahead: entries from HEAD to TAIL, at most 16, each once, in order. -/
def State.fetchAhead (s : State) : State :=
  let n := s.cmdSize
  let head := s.rd Reg.CMD_HEAD_HEAD
  let count := min 16 (ringDist n head (s.rd Reg.CMD_TAIL_TAIL))
  (List.range count).foldl (fun (acc : State) i =>
    let e := (head + i) % n
    if acc.is Reg.CMD_STATUS_FAULT || acc.frozen || (mfind acc.ring.fetched e).isSome || (mfind acc.ring.asked e).isSome
    then acc
    else
      let t := acc.uahus.nextTag
      let r := acc.hostRead 66 (acc.cmdAddr e) 64
      if r.1 then { r.2 with ring := { r.2.ring with asked := mput r.2.ring.asked e t } }
      else r.2.ringFault 1 e) s

/-- A covered descriptor has arrived. -/
def State.descriptorArrive (s : State) (e : Nat) (d : List Byte) : State :=
  ({ s with ring := { s.ring with asked := mdel s.ring.asked e, fetched := mput s.ring.fetched e (padTo 64 d) } }).bump
    Ctr.CMD_DESCRIPTORS_READ 1

/-- DESCRIPTOR_READ (R356): the read of a covered entry completes with its 64 bytes. -/
def execDescriptorRead (entry : Nat) (desc : List Byte) (s : State) : Out :=
  match mfind s.ring.asked entry with
  | none => ok s
  | some t =>
    if s.uahus.reads.any (fun r => r.tag == t && r.slot == 66) then
      let s1 := { s with uahus := { s.uahus with reads := s.uahus.reads.filter (fun r => !(r.tag == t && r.slot == 66)) } }
      ok (s1.memProgress.descriptorArrive entry desc)
    else ok s

/-- Whether the cause that RING_FAULT names is there (R357): 1 and 4 the window refuses the entry, 2 the entry's read is
outstanding, 3 its read was discarded, 5 an event write was discarded. -/
def State.faultCause (s : State) (reason entry : Nat) : Bool :=
  let asked := mfind s.ring.asked entry
  let reading := asked.elim false (fun t => s.uahus.reads.any (fun r => r.tag == t && r.slot == 66))
  match reason with
  | 1 => !(s.window (bits (s.cmdAddr entry) 32 8)).admits false (s.cmdAddr entry % 2 ^ 32) 64
  | 2 => reading
  | 3 => asked.isSome && !reading
  | 4 => !(s.window (bits (s.evtAddr entry) 32 8)).admits true (s.evtAddr entry % 2 ^ 32) 32
  | 5 => s.uahus.lost.contains 67 && (mfind s.ring.written entry).isSome
  | _ => false

/-- RING_FAULT (R357). -/
def execRingFault (reason entry : Nat) (s : State) : Out :=
  if !s.faultCause reason entry then ok s
  else
    let s1 := if reason = 5 then
        { s with ring := { s.ring with retry := s.ring.written, written := [] },
                 uahus := { s.uahus with lost := s.uahus.lost.filter (· != 67) } }
      else if reason = 2 then
        { s with uahus := { s.uahus with
          reads := s.uahus.reads.filter (fun r => some r.tag != mfind s.ring.asked entry || r.slot != 66) } }
      else s
    ok (s1.ringFault reason entry)

/-! ### Events (R371 to R374) -/

/-- The 32 bytes of an event (R371). -/
def eventBytes (tag op status flags slot bell progress detail result : Nat) : List Byte :=
  leBytes 4 tag ++ leBytes 1 op ++ leBytes 1 status ++ leBytes 1 flags ++ leBytes 1 slot ++ leBytes 6 bell ++ leBytes 2 0
    ++ leBytes 4 progress ++ leBytes 4 detail ++ leBytes 8 result

/-- Whether an event write may still be on the way. -/
def State.eventsOut (s : State) : Bool :=
  (s.uahus.held ++ s.uahus.sending).any (fun f => f.slot == 67) || s.uahus.waiting.any (fun t => t.slot == 67)

/-- An event's write has been issued at an entry. -/
def State.eventOut (s before : State) (e : Nat) (d : List Byte) : State :=
  { s with ring := { s.ring with written := mput (if before.eventsOut then before.ring.written else []) e d } }

/-- The event at EVT_TAIL has been issued: EVT_TAIL advances, PHASE is inverted at the wrap, the event is counted and
its vector marked (R371, R375). -/
def State.eventDone (s : State) (vector : Option Nat) : State :=
  let n := (s.rd Reg.EVT_TAIL_TAIL + 1) % s.evtSize
  let s1 := (s.wr Reg.EVT_TAIL_TAIL n).wr Reg.EVT_TAIL_PHASE
    (if n = 0 then 1 - s.rd Reg.EVT_TAIL_PHASE else s.rd Reg.EVT_TAIL_PHASE)
  let s2 := s1.bump Ctr.CMD_EVENTS_WRITTEN 1
  match vector with
  | none => s2
  | some v => { s2 with ring := { s2.ring with marked := s2.ring.marked ++ [v] } }

/-- Write one event at EVT_TAIL (R371, R375). `slot` is byte 7. A write that its window refuses stops the ring; the
event waits for RESUME, its bytes followed by one byte: the vector to mark, or 0xFF (R357). -/
def State.postEvent (s : State) (tag op status slot progress detail result : Nat) (late : Bool) (vector : Option Nat) :
    State :=
  let e := s.rd Reg.EVT_TAIL_TAIL
  let d := eventBytes tag op status (s.rd Reg.EVT_TAIL_PHASE + 2 * b2n late) slot s.bellNum progress detail result
  let r := s.hostWrite 67 (s.evtAddr e) d
  if r.1 then (r.2.eventOut s e d).eventDone vector
  else { r.2 with ring := { r.2.ring with retry := mput r.2.ring.retry e (d ++ leBytes 1 (vector.getD 255)) } }.ringFault 4 e

/-- The vector that a descriptor's event marks (R375). -/
def descMarks (d : List Byte) : Option Nat := if descFlag d 1 then some (descVector d) else none

/-- The event of a descriptor without a slot. -/
def State.postRetired (s : State) (d : List Byte) (status detail : Nat) : State :=
  s.postEvent (descTag d) (descOp d) status 0x80 0 detail 0 false (descMarks d)

/-- PROGRESS of a task (R360, R369). A PUT or SEND counts its acknowledged sheaves. -/
def taskProgress (t : Task) : Nat :=
  if descOp t.desc = 3 ∨ (descOp t.desc = 5 ∧ bit (descNum t.desc 56 1) 0) then max t.progress t.acked else t.progress

/-- Whether a task's completion writes an event (R358). -/
def wantsEvent (t : Task) : Bool := descFlag t.desc 0 || 1 < t.status

/-- Free a slot, and cross it off the CANCEL_ALLs that wait for it (R364). -/
def State.freeSlot (s : State) (n : Nat) : State :=
  let tag := s.taskTag n
  let s1 := s.setTask n Task.free
  let s2 : State := { s1 with
    ring := { s1.ring with allWait := s1.ring.allWait.map (fun p => (p.1, p.2.filter (· != n))) },
    sched := { s1.sched with delivered := s1.sched.delivered.filter (fun d => d.tag != tag) },
    mill := { s1.mill with progs := mdel s1.mill.progs n, images := mdel s1.mill.images n },
    miller := { s1.miller with imem := s1.miller.imem.filter (fun p => p.1 / 2 ^ 20 != n) },
    uahus := { s1.uahus with reads := s1.uahus.reads.map (fun r => if r.slot = n then { r with slot := 64 } else r) },
    routines := mdel s1.routines n }
  (List.range 8).foldl (fun (acc : State) r =>
    if acc.rd (Reg.MILL_ACC_HELD_VALID r) = 1 ∧ acc.rd (Reg.MILL_ACC_HELD_SLOT r) = n then acc.wr (Reg.MILL_ACC_HELD_VALID r) 0
    else acc) s2

/-- Write the event of a DONE task, if the ring takes it, and free its slot (R366, R368). -/
def State.completeSlot (s : State) (n : Nat) : State :=
  let t := s.task n
  if t.st ≠ 4 then s
  else if !wantsEvent t then s.freeSlot n
  else if s.evtFull then s
  else
    let s1 := s.postEvent (descTag t.desc) (descOp t.desc) t.status n (taskProgress t) t.detail t.result t.late
      (descMarks t.desc)
    if s1.ring.retry.isEmpty then s1.freeSlot n else s1

/-- The events of CANCEL_ALLs whose tasks are all gone (R364). -/
def State.allEvents (s : State) : State :=
  s.ring.allWait.foldl (fun (acc : State) p =>
    if !p.2.isEmpty then acc
    else if !descFlag p.1 0 then { acc with ring := { acc.ring with allWait := acc.ring.allWait.erase p } }
    else if acc.evtFull then acc
    else { acc with ring := { acc.ring with allWait := acc.ring.allWait.erase p } }.postRetired p.1 0 0) s

/-- Write the notices that wait. One that finds no free entry, or the rings disabled, is dropped (R144, R373); while a
failed event write waits for RESUME, the notices wait too, the RING_FAULT notice among them (R357). -/
def State.writeNotices (s : State) : State :=
  let off := s.ringsDisabled
  s.ring.notices.foldl (fun (acc : State) e =>
    if !acc.ring.retry.isEmpty then { acc with ring := { acc.ring with notices := acc.ring.notices ++ [e] } }
    else if off || acc.evtRingFull then
      (acc.bump Ctr.CMD_NOTICES_DROPPED 1).raise Err.CMD_NOTICE_DROPPED { tag := .tag32 e.tag }
    else acc.postEvent e.tag e.opcode e.status 0x80 0 e.detail 0 false e.vector)
    { s with ring := { s.ring with notices := [] } }

/-! ### Interrupts (R375) -/

/-- Send the MSG of a vector; while one of it waits for the link, a further mark joins it. -/
def State.interrupt (s : State) (v : Nat) : State :=
  if s.uahus.waiting.any (fun t => t.cls == 2 && t.addr == v) then s.bump Ctr.CMD_INTERRUPTS_COALESCED 1
  else (s.sendMsg v).bump Ctr.CMD_INTERRUPTS_SENT 1

/-- One MSG for each marked vector; a masked one becomes pending; pending ones unmasked since go out (R375). -/
def State.sendMarks (s : State) : State :=
  let vs := s.ring.marked.eraseDups
  let mask := s.rd Reg.CMD_IRQ_MASK_MASK
  let s0 := { s with ring := { s.ring with marked := [] } }.bump Ctr.CMD_INTERRUPTS_COALESCED (s.ring.marked.length - vs.length)
  let s1 := vs.foldl (fun (acc : State) v =>
    if bit mask v then acc.wr Reg.CMD_IRQ_PENDING_PENDING (setBit (acc.rd Reg.CMD_IRQ_PENDING_PENDING) v)
    else acc.interrupt v) s0
  (List.range 32).foldl (fun (acc : State) v =>
    let p := acc.rd Reg.CMD_IRQ_PENDING_PENDING
    if bit p v && !bit mask v then
      let a := acc.wr Reg.CMD_IRQ_PENDING_PENDING (clearBit p v)
      if vs.contains v then a else a.interrupt v
    else acc) s1

/-- IRQ_MASK_WRITE (R375): a pending vector that it unmasks goes out at the next admission point. -/
def execIrqMaskWrite (val : Word) (s : State) : Out := ok (s.wr Reg.CMD_IRQ_MASK_MASK val.toNat)

/-! ### Ring registers (R353 to R357, R371, R376) -/

/-- A write of CMD_CTRL.EN = 1 (R353). -/
def State.cmdEnable (s : State) : State :=
  let on := { s.wr Reg.CMD_CTRL_EN 1 with ring := { s.ring with enNext := true } }
  if s.quiet then
    let s1 := [(Reg.CMD_HEAD_HEAD, 0), (Reg.CMD_TAIL_TAIL, 0), (Reg.EVT_TAIL_TAIL, 0), (Reg.EVT_HEAD_HEAD, 0),
      (Reg.EVT_TAIL_PHASE, 1)].foldl (fun (acc : State) (p : Fld × Nat) => acc.wr p.1 p.2) on
    { s1 with ring := { s1.ring with fetched := [], asked := [] } }
  else on

/-- CMD_ENABLE (R353). -/
def execCmdEnable (s : State) : Out := ok s.cmdEnable

/-- A write of CMD_CTRL.EN = 0 (R354). -/
def State.cmdDisable (s : State) : State :=
  { s.wr Reg.CMD_CTRL_EN 0 with ring := { s.ring with enNext := false } }

/-- CMD_DISABLE (R354). -/
def execCmdDisable (s : State) : Out := ok s.cmdDisable

/-- A write of a ring's base or size, accepted only while QUIET (R353). -/
def State.ringRegister (s : State) (off v : Nat) : State :=
  if off ≠ 0x108 ∧ off ≠ 0x10C ∧ off ≠ 0x110 ∧ off ≠ 0x120 ∧ off ≠ 0x124 ∧ off ≠ 0x128 then s
  else if !s.quiet then s.ringBad
  else if off = 0x108 then s.wr Reg.CMD_BASE_LO_BASE (bits v 6 26)
  else if off = 0x10C then s.wr Reg.CMD_BASE_HI_BASE v
  else if off = 0x110 then s.wr Reg.CMD_SIZE_SIZE v
  else if off = 0x120 then s.wr Reg.EVT_BASE_LO_BASE (bits v 5 27)
  else if off = 0x124 then s.wr Reg.EVT_BASE_HI_BASE v
  else s.wr Reg.EVT_SIZE_SIZE v

/-- RING_REGISTER_WRITE (R353). -/
def execRingRegisterWrite (off : Nat) (val : Word) (s : State) : Out := ok (s.ringRegister off val.toNat)

/-- A write of CMD_TAIL (R355). -/
def State.writeTail (s : State) (v : Nat) : State :=
  let n := s.cmdSize
  let new := v % 65536
  let head := s.rd Reg.CMD_HEAD_HEAD
  if new < n ∧ ringDist n head (s.rd Reg.CMD_TAIL_TAIL) ≤ ringDist n head new then
    (s.wr Reg.CMD_TAIL_TAIL new).fetchAhead
  else s.ringBad

/-- CMD_TAIL_WRITE (R355). -/
def execCmdTailWrite (val : Word) (s : State) : Out := ok (s.writeTail val.toNat)

/-- A write of EVT_HEAD (R371). -/
def State.writeEvtHead (s : State) (v : Nat) : State :=
  let n := s.evtSize
  let new := v % 65536
  let head := s.rd Reg.EVT_HEAD_HEAD
  if new < n ∧ ringDist n head new ≤ ringDist n head (s.rd Reg.EVT_TAIL_TAIL) then s.wr Reg.EVT_HEAD_HEAD new else s.ringBad

/-- EVT_HEAD_WRITE (R371). -/
def execEvtHeadWrite (val : Word) (s : State) : Out := ok (s.writeEvtHead val.toNat)

/-- Write a failed event again (R357): one that was refused completes here what its first write would have done, and
its task's slot becomes free (R368); one that was discarded on its way (R185) is only written again. -/
def State.retryEvent (s : State) (e : Nat) (d : List Byte) : State :=
  if s.is Reg.CMD_STATUS_FAULT then { s with ring := { s.ring with retry := mput s.ring.retry e d } }
  else
    let r := s.hostWrite 67 (s.evtAddr e) (d.take 32)
    if !r.1 then { r.2 with ring := { r.2.ring with retry := mput r.2.ring.retry e d } }.ringFault 4 e
    else
      let s1 := r.2.eventOut s e (d.take 32)
      if d.length ≤ 32 then s1
      else
        let v := ofLe (d.drop 32)
        let n := ofLe ((d.drop 7).take 1)
        let s2 := s1.eventDone (if v = 255 then none else some v)
        if n < 64 then s2.freeSlot n else s2

/-- A write of CMD_CTRL.RESUME (R357): failed event writes are written again, the failed descriptor and those after it
are read again. -/
def State.ringResume (s : State) : State :=
  if !s.is Reg.CMD_STATUS_FAULT then s
  else
    let n := s.cmdSize
    let head := s.rd Reg.CMD_HEAD_HEAD
    let e := s.rd Reg.CMD_FAULT_ENTRY
    let keep (i : Nat) : Bool := 4 ≤ s.rd Reg.CMD_FAULT_REASON || ringDist n head i < ringDist n head e
    let s0 := s.wr Reg.CMD_STATUS_FAULT 0
    let s1 := { s0 with ring := { s0.ring with
      fetched := s.ring.fetched.filter (fun p => keep p.1), asked := s.ring.asked.filter (fun p => keep p.1), retry := [] } }
    (s.ring.retry.foldl (fun (acc : State) p => acc.retryEvent p.1 p.2) s1).fetchAhead

/-- CMD_RESUME (R357). -/
def execCmdResume (s : State) : Out := ok s.ringResume

/-- A write of CMD_CTRL.BREAK_RESUME (R376). -/
def State.breakResume (s : State) : State :=
  if s.is Reg.CMD_STATUS_BROKEN then { s.wr Reg.CMD_STATUS_BROKEN 0 with ring := { s.ring with noBreak := true } } else s

/-- CMD_BREAK_RESUME (R376). -/
def execCmdBreakResume (s : State) : Out := ok s.breakResume

/-- A write of CMD_CANCEL (R369). -/
def State.writeCancel (s : State) (tag : Nat) : State :=
  if s.ring.cancels.length < 16 then
    (({ s with ring := { s.ring with cancels := s.ring.cancels ++ [({ tag := tag, age := 0 } : Cancel)] } } : State)).bump
      Ctr.CMD_CANCELS_ACCEPTED 1
  else (s.raise Err.CMD_CANCEL_OVERFLOW { tag := .tag32 tag }).notice' 2 tag 0

/-- CMD_CANCEL_WRITE (R369). -/
def execCmdCancelWrite (tag : Word) (s : State) : Out := ok (s.writeCancel tag.toNat)

/-- CMD_CANCEL_TTL, with 0 taken as 1 (R370). -/
def State.cancelTtl (s : State) : Nat := max 1 (s.rd Reg.CMD_CANCEL_TTL_BELLS)

/-- CANCEL_EXPIRED (R370): the oldest entry of the tag that has seen its admission points is removed. -/
def execCancelExpired (tag : Word) (s : State) : Out :=
  match s.ring.cancels.find? (fun c => c.tag == tag.toNat && s.cancelTtl ≤ c.age) with
  | none => ok s
  | some c =>
    ok ((({ s with ring := { s.ring with cancels := s.ring.cancels.erase c } }).bump Ctr.CMD_CANCELS_EXPIRED 1).notice' 3
      tag.toNat 0)

/-! ### The start of a task (R362, R363, R367, R454) -/

/-- Whether an earlier COLLECTIVE, SCAN or SELECT of its group holds a slot (R454). -/
def State.groupBusy (s : State) (n : Nat) : Bool :=
  let t := s.task n
  usesGroup (descOp t.desc) && s.liveSlots.any (fun k =>
    let q := s.task k
    k != n && usesGroup (descOp q.desc) && descGroup q.desc == descGroup t.desc && q.order < t.order)

/-- The flows that a FENCE covers: of the tasks admitted before it that its SCOPE takes (R362). -/
def State.fenceFlows (s : State) (n : Nat) : List FenceFlow × State :=
  let t := s.task n
  let own := s.liveSlots.filter (fun k =>
    (s.task k).order < t.order && (bit (descNum t.desc 36 1) 0 || s.tagOf k == descNum t.desc 32 4))
  let fl := own.flatMap (fun k => (s.task k).flows.map (fun p =>
    ({ flow := p.1, seq := (p.2 + 2 ^ 24 - 1) % 2 ^ 24, tag := s.taskTag k, sent := false, got := false } : FenceFlow)))
  (fl, own.foldl (fun (acc : State) k => acc.setTask k { acc.task k with flows := [] }) s)

/-- SWAP acts as software would: the swap bell, then ARM (R363). -/
def State.swapStart (s : State) (n : Nat) : State :=
  let b := descNum (s.task n).desc 32 6
  if s.armed 0x52 then s.finish n 15 1
  else
    let s1 := ((s.writeSwapBell 0x52 false (b % 2 ^ 32)).writeSwapBell 0x52 true (b / 2 ^ 32)).writeSwap 0x52 1
    if s1.armed 0x52 then s1.setTask n { s1.task n with armed := true } else s1.finish n 15 3

/-- The source of a PUT or SEND as its whole range, tally array included (R182, R360, R361, R382). -/
def transferSource (d : List Byte) : Nat × Nat :=
  let n := if descOp d = 5 then descNum d 40 4 else descNum d 48 4
  let piece := if descOp d = 5 ∧ !bit (descNum d 56 1) 0 then 512 else 496
  (descNum d 32 8, withArray (descFlag d 3) (descNum d 32 8) n piece)

/-- A window source that R182 refuses ends the task before anything is read (R382). -/
def State.sourceStart (s : State) (n : Nat) : State :=
  let r := transferSource (s.task n).desc
  let w := bits r.1 32 8
  if localWindow r.1 && !(s.window w).admits false (r.1 % 2 ^ 32) r.2 then
    (s.windowFault w (s.occOf n)).finish n 10 w
  else s

/-- A group task captures its group entry and takes its instance number; a notice kept for that instance acts (R454,
R469). -/
def State.groupStart (s : State) (n : Nat) : State :=
  let g := descGroup (s.task n).desc
  let i := (mget s.groups.inst g 0 + 1) % 65536
  let s1 := { s with
    miller := { s.miller with dmem := writeBytes s.miller.dmem 0 (0x1E000 + 64 * n) (groupBytes s.active.sched g) },
    groups := { s.groups with inst := mset s.groups.inst g i 0,
                              heard := s.groups.heard.filter (fun h => h.1 != g || h.2.1 == i),
                              told := s.groups.told.filter (fun h => h.1 != g) } }
  let s2 := s1.setTask n { s1.task n with inst := i }
  match s2.groups.pending.find? (fun p => p.group == g && p.inst == i) with
  | none => s2
  | some p => { s2 with groups := { s2.groups with pending := s2.groups.pending.erase p } }.askStop n 5 p.origin

/-- The NaN policy of a SELECT is DROP: named by its NANPOL, or by SIEVE_CTRL.NAN (R475, R477). -/
def captureDrop (d : List Byte) (nan : Nat) : Bool :=
  let pol := bits (descNum d 33 1) 3 2
  descOp d == 7 && (if pol = 0 then nan == 1 else pol == 2)

/-- Start the task of slot `n` (R367). -/
def State.startTask (s : State) (n : Nat) : State :=
  let s1 := (s.setTask n { s.task n with st := 2, start := s.bellNum, sentAt := if isTransfer (s.task n).desc then s.ticks else 0,
                                         bank := s.rd Reg.LOOM_STATUS_ACTIVE_BANK,
                                         drop := captureDrop (s.task n).desc (s.rd Reg.SIEVE_CTRL_NAN) }).bump Ctr.TASK_TASKS_STARTED 1
  let d := (s.task n).desc
  match descOp d with
  | 3 => s1.sourceStart n
  | 5 => s1.sourceStart n
  | 8 =>
    let f := s1.fenceFlows n
    if f.1.isEmpty then s1.finish n 0 0 else f.2.setTask n { f.2.task n with fences := f.1 }
  | 9 => s1.swapStart n
  | 2 => s1.groupStart n
  | 6 => s1.groupStart n
  | 7 => s1.groupStart n
  | _ => s1

/-- Whether a WAITING task may start: its START_BELL has come and no group predecessor is in a slot (R367, R454). -/
def State.mayStart (s : State) (n : Nat) : Bool :=
  let t := s.task n
  t.st == 1 && !s.frozen && !(descFlag t.desc 2 && bellAfter (descStart t.desc) s.bellNum) && !s.groupBusy n

/-- TASK_START (R367, R454). -/
def execTaskStart (slot : Nat) (s : State) : Out :=
  if slot < 64 ∧ s.mayStart slot = true then ok (s.startTask slot) else ok s

/-! ### Admission (R364 to R366, R376) -/

/-- The lowest FREE slot (R367). -/
def State.freeSlotNo (s : State) : Option Nat := (List.range 64).find? (fun n => (s.task n).st == 0)

/-- Admission's standing conditions (R366). -/
def State.admits (s : State) : Bool :=
  s.is Reg.CMD_STATUS_ENABLED && s.rd Reg.DEVICE_STATE_STATE == 2 && !s.frozen && !s.is Reg.CMD_STATUS_FAULT
    && !s.is Reg.CMD_STATUS_BROKEN

/-- Whether admission breaks before a descriptor (R376). -/
def State.breaks (s : State) (d : List Byte) : Bool :=
  let mode := s.rd Reg.CMD_BREAK_CTRL_MODE
  !s.ring.noBreak && (descFlag d 4 || (mode == 1 && s.rd Ctr.CMD_ADMITTED.fld % 2 ^ 32 == s.rd Reg.CMD_BREAK_COUNT_COUNT)
    || (mode == 2 && descTag d == s.rd Reg.CMD_BREAK_TAG_TAG))

/-- HEAD moves past its descriptor. -/
def State.advanceHead (s : State) : State :=
  let h := s.rd Reg.CMD_HEAD_HEAD
  let s1 := s.wr Reg.CMD_HEAD_HEAD ((h + 1) % s.cmdSize)
  { s1 with ring := { s1.ring with fetched := mdel s1.ring.fetched h, taken := s1.ring.taken + 1, noBreak := false } }

/-- Retire a descriptor without a slot (R365, R366). -/
def State.retire (s : State) (d : List Byte) (status detail : Nat) : State :=
  let s1 := (s.bump Ctr.CMD_RETIRED_NO_SLOT 1).postRetired d status detail
  if status = 12 then s1.raise Err.CMD_BAD_DESCRIPTOR { tag := .tag32 (descTag d) }
  else if status = 14 then s1.raise Err.TASK_TAG_BUSY { tag := .tag32 (descTag d) }
  else s1

/-- Retire a descriptor that an entry of the cancel FIFO names (R369). -/
def State.retireCancelled (s : State) (d : List Byte) : State :=
  ({ s with ring := { s.ring with cancels := s.ring.cancels.filter (fun (c : Cancel) => c.tag != descTag d),
                                  sampled := s.ring.sampled.filter (· != descTag d) } }.bump Ctr.CMD_CANCELS_EARLY 1).retire
    d 3 0

/-- Cancel the task of a slot, as a late cancel does (R364, R369). -/
def State.cancelSlot (s : State) (n : Nat) : State :=
  let t := s.task n
  if t.st = 4 then s.setTask n { t with late := true } else s.askStop n 4 0

/-- Admit CANCEL_ALL (R364). -/
def State.admitCancelAll (s : State) (d : List Byte) : State :=
  let live := s.liveSlots
  let s1 := (live.foldl (fun (acc : State) n => acc.cancelSlot n) s).bump Ctr.CMD_ADMITTED 1
  if live.isEmpty then (if descFlag d 0 then s1.postRetired d 0 0 else s1)
  else { s1 with ring := { s1.ring with allWait := s1.ring.allWait ++ [(d, live)] } }

/-- Admit a descriptor to a slot (R367). -/
def State.admitTask (s : State) (n : Nat) (d : List Byte) : State :=
  let s1 := (s.setTask n { Task.free with st := 1, desc := d, start := descStart d, order := s.ring.order }).bump
    Ctr.CMD_ADMITTED 1
  let s2 := { s1 with ring := { s1.ring with order := s1.ring.order + 1 } }
  if s2.mayStart n then s2.startTask n else s2

/-- The descriptor at HEAD, if it has been read. -/
def State.headDesc (s : State) : Option (List Byte) :=
  let h := s.rd Reg.CMD_HEAD_HEAD
  if h = s.rd Reg.CMD_TAIL_TAIL then none else mfind s.ring.fetched h

/-- One turn of the admission loop: whether it goes on, and the state (R366). -/
def State.admitOne (s : State) : Bool × State :=
  match s.headDesc with
  | none => (false, s)
  | some d =>
    if !s.admits || 8 ≤ s.ring.taken then (false, s)
    else if s.breaks d then (false, (s.wr Reg.CMD_STATUS_BROKEN 1).notice' 4 (descTag d) (s.rd Reg.CMD_HEAD_HEAD))
    else if s.ring.sampled.contains (descTag d) then
      if s.evtFull then (false, s) else (true, (s.retireCancelled d).advanceHead)
    else match s.descBad d with
      | some r => if s.evtFull then (false, s) else (true, (s.retire d r.1 r.2).advanceHead)
      | none =>
        if descOp d = 1 then
          if descFlag d 0 && s.evtFull then (false, s)
          else
            let s1 := s.bump Ctr.CMD_ADMITTED 1
            (true, (if descFlag d 0 then s1.postRetired d 0 0 else s1).advanceHead)
        else if descOp d = 10 then
          if s.liveSlots.isEmpty && descFlag d 0 && s.evtFull then (false, s)
          else (true, (s.admitCancelAll d).advanceHead)
        else match s.freeSlotNo with
          | none => (false, (s.wr Reg.CMD_STATUS_WAIT_SLOT 1).bump Ctr.CMD_SLOT_WAIT_BELLS 1)
          | some n => (true, (s.admitTask n d).advanceHead)

/-- The admission loop: up to 8 descriptors (R366). -/
def State.admitLoop : Nat → State → State
  | 0, s => s
  | k + 1, s =>
    let r := s.admitOne
    if r.1 then State.admitLoop k r.2 else r.2

/-- OP_NOP (R364, R366): the turn of the admission loop that takes a NOP at HEAD. -/
def execOpNop (s : State) : Out :=
  match s.headDesc with
  | some d => if descOp d = 1 then ok s.admitOne.2 else ok s
  | none => ok s

/-- OP_CANCEL_ALL (R364, R366): the turn of the admission loop that takes a CANCEL_ALL at HEAD. -/
def execOpCancelAll (s : State) : Out :=
  match s.headDesc with
  | some d => if descOp d = 10 then ok s.admitOne.2 else ok s
  | none => ok s

/-- Whether a cancel entry acts on a task of its tag (R369). -/
def State.cancelTag (s : State) (tag : Nat) : State :=
  let hit := s.liveSlots.filter (fun n => s.tagOf n == tag)
  if hit.isEmpty then s
  else
    let s1 := (hit.foldl (fun (acc : State) n => acc.cancelSlot n) s).bump Ctr.CMD_CANCELS_LATE 1
    { s1 with ring := { s1.ring with cancels := s1.ring.cancels.filter (fun (c : Cancel) => c.tag != tag) } }

/-- The cancel entries that the admission point sampled grow older; those written since are not touched (R370). -/
def State.ageCancels (s : State) : State :=
  { s with ring := { s.ring with cancels := s.ring.cancels.map (fun c => { c with age := c.age + 1 }) } }

/-- The admission point (R366). Under a freeze only marked interrupts go out (R540). -/
def State.admission (s : State) : State :=
  let s0 : State := { s with ring := { s.ring with taken := 0, sampled := s.ring.cancels.map (fun (c : Cancel) => c.tag) } }
  if s.frozen then s0.sendMarks
  else
    let s1 := (s0.wrB Reg.CMD_STATUS_ENABLED (s0.is Reg.CMD_CTRL_EN && s0.ring.enNext)).wr Reg.CMD_STATUS_WAIT_SLOT 0
    let s2 := s1.ring.sampled.foldl (fun (acc : State) t => acc.cancelTag t) s1
    let s3 := (List.range 64).foldl (fun (acc : State) n => acc.completeSlot n) s2
    let s4 := (State.admitLoop 8 s3.allEvents).writeNotices.sendMarks.ageCancels
    let s5 := s4.wrB Reg.CMD_STATUS_EVT_FULL s4.evtRingFull
    (if s4.evtRingFull then s5.bump Ctr.CMD_EVT_FULL_BELLS 1 else s5).fetchAhead

end Sys2Proof.Machine
end

