-- ==== Sys2Proof/Machine/Reset.lean ====
section
/-! DEFINITION. Sys2Proof/Machine/Reset.lean: cold, warm and function reset, the pins that cause them, and the reactions
FREEZE and WARM (spec/03 R72, R73, R81, R84; spec/04 R122, R123; spec/05 R142 to R144; spec/21 R540, R541). -/

namespace Sys2Proof.Machine

/-! ### What resets keep (R83, R142) -/

/-- Fuses and the die's own numbers: no reset changes them. -/
def dieFields : List Fld :=
  [Reg.SEC_STATUS_SVN_FUSE, Reg.SEC_STATUS_REVOKED, Reg.TOP_SERIAL_LO_SERIAL_LO, Reg.TOP_SERIAL_HI_SERIAL_HI,
   Reg.TOP_STEPPING_STEPPING]

/-- What a warm reset keeps beside the keep-alive fields: sampled straps, the levels of PWR_OK and VDD_HTR, and which of
the two PWL banks is active. -/
def warmFields : List Fld :=
  dieFields ++ [Reg.MGMT_SMB_STATUS_ADDR, Reg.BOOT_SOURCE_BOOT_SRC, Reg.THERMAL_PWR_PWR_OK_PIN, Reg.THERMAL_PWR_HTR_OK,
    Reg.LOOM_STATUS_ACTIVE_BANK]

/-- The state with the fields of a list as they are in another state. -/
def State.keepFields (s old : State) (fs : List Fld) : State := fs.foldl (fun (acc : State) f => acc.wr f (old.rd f)) s

/-- The state after a cold reset (R81, R142): everything at its reset value but the flash, the fuses, the pins as they
stand, and the commands that wait. -/
def State.coldReset (s : State) : State :=
  let s1 : State := { State.reset with
    draws := s.draws, pins := { s.pins with thermN := false, bellOut := false }, lastRead := s.lastRead,
    boot := { State.reset.boot with flash := s.boot.flash }, pending := s.pending }
  (s1.keepFields s dieFields).newNonce

/-- COLD_RESET (R81). -/
def execColdReset (s : State) : Out := ok s.coldReset

/-- The alarm's keep-alive part (R544). -/
def AlarmState.keepAlive (a : AlarmState) : AlarmState :=
  { pend := [], freezeDue := false, warmDue := false, minEnd := a.minEnd, driveStart := a.driveStart, released := a.released,
    relMark := a.relMark, highRun := 0, pinRaised := a.pinRaised, lowRun := 0, stuckRaised := false }

/-- A bank over a warm reset: spare rows and the mapping stay, work in progress stops. -/
def BgBank.warm (b : BgBank) : BgBank :=
  { b with line := 0, slot := 0, taken := 0, errs := [], march := 0, asked := none, queue := [], copy := none, copied := 0 }

/-- What survives a warm reset (R83, R113, R114, R139, R142, R544, R549): the keep-alive fields and the rest of the
keep-alive domain; every other field and buffer is at its reset value. -/
def State.warmCore (s : State) : State :=
  let s1 : State := { State.reset with
    regs := s.regs.filter (fun p => p.1 % 2 == 1)
    ticks := s.ticks, draws := s.draws
    ledger := s.ledger, alarm := s.alarm.keepAlive
    pins := s.pins
    thermal := { State.reset.thermal with txDark := s.is Reg.THERMAL_STATUS_TRIP }
    active := s.active, shadow := s.shadow
    lastRead := s.lastRead
    alm := s.alm, scratch := s.scratch, ageing := s.ageing, codes := s.codes
    boot := { State.reset.boot with warm := true, flash := s.boot.flash }
    banks := s.banks.map (fun p => (p.1, p.2.warm))
    telem := { TelemState.reset with restarted := true, captured := s.ticks + 1 }
    pending := s.pending }
  (s1.keepFields s warmFields).wr Reg.THERMAL_STATUS_THERM_N_PIN (b2n !s.pins.thermN)

/-- The cause bit of a warm reset (R123). -/
def causeFld : ResetCause → Fld
  | .resetN => Reg.TOP_RESET_CAUSE_RESET_N
  | .pwrOk => Reg.TOP_RESET_CAUSE_PWR_OK
  | .topWarm => Reg.TOP_RESET_CAUSE_TOP_WARM
  | .reaction => Reg.TOP_RESET_CAUSE_ALARM_REACTION

/-- A warm reset (R120, R123, R143, R149, R557): the device's counters are cleared, then it is counted. -/
def State.warmReset (s : State) (c : ResetCause) : State :=
  let s1 := ((s.warmCore.bump Ctr.TOP_WARM_RESETS 1).wr (causeFld c) 1).newNonce
  if c = .reaction then s1.bump Ctr.ALARM_REACTION_RESETS 1 else s1

/-- Start-up begins once nothing holds the reset (R73, R81, R125). -/
def State.restart (s : State) : State :=
  if s.pins.resetN && s.pins.pwrOk && !s.pins.testEn && !s.boot.running then s.beginStart else s

/-- PWR_OK_LOW (R81): a warm reset held while PWR_OK stays low. -/
def execPwrOkLow (s : State) : Out :=
  if s.pins.pwrOk then
    ok (({ s with pins := { s.pins with pwrOk := false } }.warmReset .pwrOk).wr Reg.THERMAL_PWR_PWR_OK_PIN 0)
  else ok s

/-- PWR_OK_HIGH (R81): the hold ends; with RESET_N high start-up runs from step 0. -/
def execPwrOkHigh (s : State) : Out :=
  ok (({ s with pins := { s.pins with pwrOk := true } }.wr Reg.THERMAL_PWR_PWR_OK_PIN 1).restart)

/-- RESET_N_ASSERT (R142): a warm reset held while RESET_N stays low. -/
def execResetNAssert (s : State) : Out :=
  if s.pins.resetN then ok ({ s with pins := { s.pins with resetN := false } }.warmReset .resetN) else ok s

/-- WARM_RESET (R143): the reset itself, and start-up from step 0 once nothing holds it. -/
def execWarmReset (cause : ResetCause) (s : State) : Out := ok (s.warmReset cause).restart

/-- TEST_EN_HIGH (R73): the IZ5 holds itself in reset; no cause bit names this reset. -/
def execTestEnHigh (s : State) : Out :=
  if s.pins.testEn then ok s else ok { s.warmCore with pins := { s.pins with testEn := true } }

/-- TEST_EN_LOW (R73). -/
def execTestEnLow (s : State) : Out := ok { s with pins := { s.pins with testEn := false } }.restart

/-- VDD_HTR_LOST (R84, R95): the heaters carry no current, and every relock record loses its done mark. -/
def execVddHtrLost (s : State) : Out :=
  let s1 := (s.wr Reg.THERMAL_PWR_HTR_OK 0).wr Reg.THERMAL_PWR_HTR_LOST 1
  ok (((List.range 8).foldl (fun (acc : State) f => acc.clearRelock f) s1).raise Err.THERMAL_HTR_RAIL_LOST)

/-- VDD_HTR_RETURN (R84, R95). -/
def execVddHtrReturn (s : State) : Out := ok (s.wr Reg.THERMAL_PWR_HTR_OK 1)

/-! ### TOP_RESET (R122) -/

/-- A write of TOP_RESET: with the right key WARM comes before FUNCTION. -/
def State.writeTopReset (s : State) (v : Nat) : State :=
  if bits v 8 8 ≠ 0xA5 then s.raise Err.TOP_RESET_KEY_BAD
  else if bit v 0 then (s.warmReset .topWarm).restart
  else if bit v 1 then { s with pages := { s.pages with funcReq := true } }
  else s

/-- TOP_RESET_WARM (R122). -/
def execTopResetWarm (val : Word) (s : State) : Out := ok (s.writeTopReset val.toNat)
/-- TOP_RESET_FUNCTION (R122): taken at the next boundary. -/
def execTopResetFunction (val : Word) (s : State) : Out := ok (s.writeTopReset val.toNat)
/-- TOP_RESET_KEY_BAD (R122). -/
def execTopResetKeyBad (val : Word) (s : State) : Out := ok (s.writeTopReset val.toNat)

/-! ### The function reset (R144, R354) -/

/-- EVENT notices due at a function reset are dropped and counted (R144, R373). -/
def State.dropNotices (s : State) : State :=
  s.ring.notices.foldl (fun (acc : State) e =>
    (acc.bump Ctr.CMD_NOTICES_DROPPED 1).raise Err.CMD_NOTICE_DROPPED { tag := .tag32 e.tag })
    { s with ring := { s.ring with notices := [] } }

/-- Both rings are disabled and empty; bases and sizes are kept (R144, R354). -/
def State.ringsOff (s : State) : State :=
  let s1 := [Reg.CMD_CTRL_EN, Reg.CMD_HEAD_HEAD, Reg.CMD_TAIL_TAIL, Reg.EVT_TAIL_TAIL, Reg.EVT_HEAD_HEAD,
    Reg.CMD_STATUS_ENABLED, Reg.CMD_STATUS_WAIT_SLOT, Reg.CMD_STATUS_EVT_FULL, Reg.CMD_STATUS_FAULT,
    Reg.CMD_STATUS_BROKEN].foldl (fun (acc : State) f => acc.wr f 0) s
  { s1 with
    ring := { RingState.reset with marked := s.ring.marked, order := s.ring.order }
    uahus := { s1.uahus with reads := s1.uahus.reads.map (fun r => if r.slot = 66 then { r with slot := 64 } else r) } }

/-- A task is aborted without an event, and its slot is cleared; its group is told (R144). -/
def State.functionAbort (s : State) (n : Nat) : State := (s.finish n 4 0).freeSlot n

/-- The function reset (R106, R113, R144, R540). -/
def State.functionReset (s : State) : State :=
  let s1 := (({ s with pages := { s.pages with funcDue := false } }.wr Reg.TOP_RESET_CAUSE_TOP_FUNCTION 1).bump
    Ctr.TOP_FUNCTION_RESETS 1)
  let s2 := (s1.liveSlots.foldl (fun (acc : State) n => acc.functionAbort n) s1).dropNotices.ringsOff.cancelSwaps
  let s3 := presentPages.foldl (fun (acc : State) p => acc.wr (Hdr.INJ_COUNT p) 0) s2
  { s3.wr Reg.DEVICE_STATE_DATA_FROZEN 0 with
    mill := { MillState.reset with trace := s3.mill.trace }, miller := { imem := [], dmem := [] } }.sendMarks

/-- FUNCTION_RESET (R144): at the boundary at which it is due. -/
def execFunctionReset (s : State) : Out := if s.pages.funcDue then ok s.functionReset else ok s

/-! ### The reactions FREEZE and WARM (R540, R541) -/

/-- The data plane freezes: running steps are abandoned (R540). -/
def State.freeze (s : State) : State :=
  if s.frozen then s
  else
    let s1 := (s.wr Reg.DEVICE_STATE_DATA_FROZEN 1).bump Ctr.ALARM_FREEZES 1
    { s1 with mill := { s1.mill with
      progs := s1.mill.progs.map (fun q => (q.1, { q.2 with running := false, tail := false })) } }

/-- FREEZE_REACTION (R540, R144): due at the boundary just passed; after a function reset due there. -/
def execFreezeReaction (s : State) : Out :=
  if s.alarm.freezeDue && !s.pages.funcDue then
    ok { s with alarm := { s.alarm with freezeDue := false } }.freeze
  else ok s

/-- A warm-reset reaction: one more COUNT, or withheld with a freeze in its place once COUNT has reached LIMIT (R541). -/
def State.warmReact (s : State) : State :=
  let n := s.rd Reg.ALARM_RESET_COUNT
  if s.rd Reg.ALARM_RESET_LIMIT ≤ n then (s.raise Err.ALARM_RESET_WITHHELD).freeze
  else ((s.wr Reg.ALARM_RESET_COUNT (n + 1)).warmReset .reaction).restart

/-- WARM_REACTION (R541): due at the boundary just passed; after the function reset and the freeze due there. -/
def execWarmReaction (s : State) : Out :=
  if s.alarm.warmDue && !s.alarm.freezeDue && !s.pages.funcDue then
    ok { s with alarm := { s.alarm with warmDue := false } }.warmReact
  else ok s

end Sys2Proof.Machine
end

