-- ==== Sys2Proof/Machine/Float.lean ====
section
/-! DEFINITION. Sys2Proof/Machine/Float.lean: the arithmetic of the Mill's elements, bit for bit (spec/15 R400; spec/16
R433, R434; spec/17 R461, R462; spec/19 R511): floating-point formats as exact numbers rounded once, integers that wrap
or saturate, conversions, and curve evaluation. -/

namespace Sys2Proof.Machine

/-! ### Formats -/

/-- A binary floating-point format: its exponent and fraction widths, and whether it is E4M3, which has no infinity and
saturates (R433). -/
structure FFmt where
  eb  : Nat
  mb  : Nat
  sat : Bool
  deriving DecidableEq, Repr

/-- The five formats. -/
def FFmt.f32 : FFmt := { eb := 8, mb := 23, sat := false }
def FFmt.bf16 : FFmt := { eb := 8, mb := 7, sat := false }
def FFmt.f16 : FFmt := { eb := 5, mb := 10, sat := false }
def FFmt.e4m3 : FFmt := { eb := 4, mb := 3, sat := true }
def FFmt.e5m2 : FFmt := { eb := 5, mb := 2, sat := false }

/-- The exponent bias. -/
def FFmt.bias (f : FFmt) : Nat := 2 ^ (f.eb - 1) - 1

/-- The exponent of the format's largest finite value (R462). -/
def FFmt.emax (f : FFmt) : Int := if f.sat then f.bias + 1 else f.bias

/-- The exponent of the smallest normal value. -/
def FFmt.emin (f : FFmt) : Int := 1 - f.bias

/-- The canonical quiet NaN (R433). -/
def FFmt.nan (f : FFmt) : Nat := if f.sat then 0x7F else (2 ^ f.eb - 1) * 2 ^ f.mb + 2 ^ (f.mb - 1)

/-- The magnitude that overflow gives: infinity, or 448 in E4M3 (R433). -/
def FFmt.over (f : FFmt) : Nat := if f.sat then 0x7E else (2 ^ f.eb - 1) * 2 ^ f.mb

/-- A floating-point value taken apart: a NaN, an infinity, or the number ±m · 2^e, zeros with their sign. -/
inductive FVal where
  | nan
  | inf (neg : Bool)
  | num (neg : Bool) (m : Nat) (e : Int)
  deriving DecidableEq, Repr

/-- The value that a code of a format stands for; subnormals are kept (R433). -/
def FFmt.decode (f : FFmt) (v : Nat) : FVal :=
  let neg := bit v (f.eb + f.mb)
  let ex := bits v f.mb f.eb
  let fr := bits v 0 f.mb
  if ex = 2 ^ f.eb - 1 ∧ (if f.sat then fr = 2 ^ f.mb - 1 else fr ≠ 0) then .nan
  else if ex = 2 ^ f.eb - 1 ∧ f.sat = false then .inf neg
  else if ex = 0 then .num neg fr (f.emin - f.mb)
  else .num neg (2 ^ f.mb + fr) (ex - f.bias - f.mb)

/-- A sign bit before a magnitude. -/
def FFmt.signed (f : FFmt) (neg : Bool) (mag : Nat) : Nat := b2n neg * 2 ^ (f.eb + f.mb) + mag

/-- Round the magnitude m · 2^e to a format: to nearest even, or stochastically by the 32-bit `r` (R433, R462). -/
def FFmt.round (f : FFmt) (m : Nat) (e : Int) (r : Option Nat) : Nat :=
  if m = 0 then 0
  else
    let top := e + Nat.log2 m
    if f.emax < top then f.over
    else
      let q := max top f.emin - f.mb
      let base := (max top f.emin - f.emin).toNat * 2 ^ f.mb
      if q ≤ e then min f.over (base + m * 2 ^ (e - q).toNat)
      else
        let d := (q - e).toNat
        let hi := m / 2 ^ d
        let lo := m % 2 ^ d
        let up := match r with
          | none => 2 ^ d < 2 * lo || (2 * lo == 2 ^ d && hi % 2 == 1)
          | some r => 2 ^ (d + 32) ≤ lo * 2 ^ 32 + r * 2 ^ d
        min f.over (base + hi + b2n up)

/-- The code of a value in a format. -/
def FFmt.encode (f : FFmt) (v : FVal) (r : Option Nat := none) : Nat :=
  match v with
  | .nan => f.nan
  | .inf neg => f.signed neg f.over
  | .num neg m e => f.signed neg (f.round m e r)

/-! ### Exact arithmetic -/

/-- A signed significand at exponent `q`, for an exponent at or above it. -/
def scaled (neg : Bool) (m : Nat) (e q : Int) : Int :=
  let a : Int := (m * 2 ^ (e - q).toNat : Nat)
  if neg then -a else a

/-- The exact sum. An exact cancellation gives +0. -/
def FVal.add (a b : FVal) : FVal :=
  match a, b with
  | .nan, _ => .nan
  | _, .nan => .nan
  | .inf x, .inf y => if x = y then .inf x else .nan
  | .inf x, .num _ _ _ => .inf x
  | .num _ _ _, .inf y => .inf y
  | .num x m e, .num y n g =>
    if m = 0 ∧ n = 0 then .num (x && y) 0 0
    else
      let q := min e g
      let t := scaled x m e q + scaled y n g q
      .num (t < 0) t.natAbs q

/-- The exact product. -/
def FVal.mul (a b : FVal) : FVal :=
  match a, b with
  | .nan, _ => .nan
  | _, .nan => .nan
  | .inf x, .inf y => .inf (x != y)
  | .inf x, .num y n _ => if n = 0 then .nan else .inf (x != y)
  | .num x m _, .inf y => if m = 0 then .nan else .inf (x != y)
  | .num x m e, .num y n g => .num (x != y) (m * n) (e + g)

/-- The value with its sign changed. -/
def FVal.neg : FVal → FVal
  | .nan => .nan
  | .inf x => .inf (!x)
  | .num x m e => .num (!x) m e

/-- The magnitude. -/
def FVal.abs : FVal → FVal
  | .nan => .nan
  | .inf _ => .inf false
  | .num _ m e => .num false m e

/-- `a` is less than `b`; false where either is a NaN; −0 equals +0. -/
def FVal.lt (a b : FVal) : Bool :=
  match a, b with
  | .nan, _ => false
  | _, .nan => false
  | .inf x, .inf y => x && !y
  | .inf x, .num _ _ _ => x
  | .num _ _ _, .inf y => !y
  | .num x m e, .num y n g =>
    let q := min e g
    decide (scaled x m e q < scaled y n g q)

/-- `a` equals `b` as a number. -/
def FVal.eq (a b : FVal) : Bool :=
  match a, b with
  | .nan, _ => false
  | _, .nan => false
  | _, _ => !a.lt b && !b.lt a

/-- A NaN. -/
def FVal.isNan : FVal → Bool
  | .nan => true
  | _ => false

/-- A zero. -/
def FVal.isZero : FVal → Bool
  | .num _ m _ => m == 0
  | _ => false

/-- The sign of a value. -/
def FVal.sign : FVal → Bool
  | .nan => false
  | .inf x => x
  | .num x _ _ => x

/-! ### Operations on codes of one format, each rounded once (R433) -/

def FFmt.add (f : FFmt) (a b : Nat) : Nat := f.encode ((f.decode a).add (f.decode b))
def FFmt.sub (f : FFmt) (a b : Nat) : Nat := f.encode ((f.decode a).add (f.decode b).neg)
def FFmt.mul (f : FFmt) (a b : Nat) : Nat := f.encode ((f.decode a).mul (f.decode b))
def FFmt.fma (f : FFmt) (a b c : Nat) : Nat := f.encode (((f.decode a).mul (f.decode b)).add (f.decode c))
def FFmt.neg (f : FFmt) (a : Nat) : Nat := f.encode (f.decode a).neg
def FFmt.abs (f : FFmt) (a : Nat) : Nat := f.encode (f.decode a).abs

/-- Whether `a` orders below `b` for MAX and MIN: by value, −0 below +0 (R433). -/
def belowFor (a b : FVal) : Bool := a.lt b || (a.isZero && b.isZero && a.sign && !b.sign)

/-- V.MAX and V.MIN of one lane: a NaN if either operand is one (R433). -/
def FFmt.max (f : FFmt) (a b : Nat) : Nat :=
  let x := f.decode a
  let y := f.decode b
  if x.isNan || y.isNan then f.nan else if belowFor x y then b else a

def FFmt.min (f : FFmt) (a b : Nat) : Nat :=
  let x := f.decode a
  let y := f.decode b
  if x.isNan || y.isNan then f.nan else if belowFor y x then b else a

/-- The value nearest to 1 / n, rounded to nearest even (R461). -/
def FFmt.recip (f : FFmt) (n : Nat) : Nat :=
  if n = 0 then f.over
  else
    let k := 64 + Nat.log2 n
    f.round (2 * (2 ^ k / n) + b2n (2 ^ k % n != 0)) (-(k : Int) - 1) none

/-! ### Conversions (R433, R462) -/

/-- The format of a floating element; integers have none. -/
def fmtFloat : VFmt → Option FFmt
  | .f32 => some .f32
  | .bf16 => some .bf16
  | .f16 => some .f16
  | .e4m3 => some .e4m3
  | .e5m2 => some .e5m2
  | .i32 => none
  | .i8 => none

/-- Bits of one element. -/
def fmtWidth : VFmt → Nat
  | .f32 => 32
  | .bf16 => 16
  | .f16 => 16
  | .e4m3 => 8
  | .e5m2 => 8
  | .i32 => 32
  | .i8 => 8

/-- Lanes of a vector of 256 bytes (R433). -/
def fmtLanes (f : VFmt) : Nat := 2048 / fmtWidth f

/-- The format of a type code (R455). -/
def typeFmt : Nat → VFmt
  | 0 => .f32
  | 1 => .bf16
  | 2 => .f16
  | 3 => .e4m3
  | 4 => .e5m2
  | 5 => .i32
  | _ => .i8

/-- An integer as a value. -/
def FVal.ofInt (i : Int) : FVal := .num (i < 0) i.natAbs 0

/-- The value of an element, an integer taken as signed. -/
def fmtValue (f : VFmt) (v : Nat) : FVal :=
  match fmtFloat f with
  | some g => g.decode v
  | none => .ofInt (toSigned (fmtWidth f) v)

/-- m · 2^e rounded to an integer, to nearest even. -/
def roundInt (m : Nat) (e : Int) : Nat :=
  if 0 ≤ e then m * 2 ^ e.toNat
  else
    let d := (-e).toNat
    let hi := m / 2 ^ d
    let lo := m % 2 ^ d
    hi + b2n (2 ^ d < 2 * lo || (2 * lo == 2 ^ d && hi % 2 == 1))

/-- Conversion to an integer of `w` bits: to nearest even, saturating, 0 for NaN (R433). -/
def toInt (w : Nat) (v : FVal) : Nat :=
  let top : Int := 2 ^ (w - 1) - 1
  match v with
  | .nan => 0
  | .inf neg => ofSigned w (if neg then -top - 1 else top)
  | .num neg m e =>
    let a : Int := roundInt m e
    ofSigned w (clampI (-top - 1) top (if neg then -a else a))

/-- An element converted from one format to another (R433), stochastically where `r` is given (R462). -/
def convert (src dst : VFmt) (v : Nat) (r : Option Nat := none) : Nat :=
  match fmtFloat dst with
  | some g => g.encode (fmtValue src v) r
  | none => toInt (fmtWidth dst) (fmtValue src v)

/-- The 32-bit number that drives the stochastic rounding of element `k` under a seed (R462). -/
def srRandom (k seed : Nat) : Nat :=
  let z0 := (k + seed * 0x9E3779B97F4A7C15) % 2 ^ 64
  let z1 := ((z0 ^^^ (z0 >>> 30)) * 0xBF58476D1CE4E5B9) % 2 ^ 64
  let z2 := ((z1 ^^^ (z1 >>> 27)) * 0x94D049BB133111EB) % 2 ^ 64
  bits (z2 ^^^ (z2 >>> 31)) 32 32

/-! ### The accumulation type (R461) -/

/-- The accumulation type of a type code: FP32, or INT32 for integers. -/
def accFmt (t : VFmt) : VFmt :=
  match fmtFloat t with
  | some _ => .f32
  | none => .i32

/-- An input element widened into the accumulation type, exactly. -/
def widen (t : VFmt) (v : Nat) : Nat := convert t (accFmt t) v

/-- One combination of two operands in the accumulation type of input type `t`, by the code of REDOP: SUM, MAX, MIN,
PROD, AVG (as SUM), AND, OR, XOR (R455, R461). -/
def combine (t : VFmt) (redop a b : Nat) : Nat :=
  match fmtFloat t with
  | some _ =>
    match redop with
    | 1 => FFmt.f32.max a b
    | 2 => FFmt.f32.min a b
    | 3 => FFmt.f32.mul a b
    | _ => FFmt.f32.add a b
  | none =>
    match redop with
    | 1 => if toSigned 32 a < toSigned 32 b then b else a
    | 2 => if toSigned 32 b < toSigned 32 a then b else a
    | 3 => a * b % 2 ^ 32
    | 5 => a &&& b
    | 6 => a ||| b
    | 7 => a ^^^ b
    | _ => (a + b) % 2 ^ 32

/-! ### Curves (R511) -/

/-- A whole number below 2^32 as FP32; the curves need 0 to 32. -/
def f32OfNat (n : Nat) : Nat := FFmt.f32.encode (.num false n 0)

/-- Whether a table's INV_DX is finite and positive. -/
def curveOk (t : List Nat) : Bool :=
  match FFmt.f32.decode (t.getD 1 0) with
  | .num neg m _ => !neg && m != 0
  | _ => false

/-- The floor of a value at or above 0. -/
def FVal.floorNat : FVal → Nat
  | .num false m e => if 0 ≤ e then m * 2 ^ e.toNat else m / 2 ^ (-e).toNat
  | _ => 0

/-- A curve table of 80 FP32 words evaluated at `x` (R511). -/
def curve (t : List Nat) (x : Nat) : Nat :=
  let f := FFmt.f32
  let w (i : Nat) : Nat := t.getD i 0
  if !curveOk t || (f.decode x).isNan then f.nan
  else
    let off := f.sub x (w 0)
    let d := f.mul off (w 1)
    let dv := f.decode d
    if dv.isNan then f.nan
    else if dv.lt (.num false 0 0) then (if w 2 = 0 then w 4 else f.fma (w 2) off (w 4))
    else if !dv.lt (.num false 32 0) then
      (if w 3 = 0 then w 36 else f.fma (w 3) (f.sub d (f32OfNat 32)) (w 36))
    else
      let i := dv.floorNat
      f.fma (f.sub d (f32OfNat i)) (w (37 + i)) (w (4 + i))

/-! ### Lanes -/

/-- Lane `i` of a vector whose lanes have `w` bits. -/
def lane' (w v i : Nat) : Nat := bits v (w * i) w

/-- A vector from its lanes, lane 0 lowest. -/
def packLanes (w : Nat) : List Nat → Nat
  | [] => 0
  | x :: t => x % 2 ^ w + 2 ^ w * packLanes w t

/-- The first `n` lanes of a vector. -/
def unpack (w n v : Nat) : List Nat := (List.range n).map (lane' w v)

/-- Adjacent results combined in pairs: one level of the tree of V.RED (R433). -/
def pairUp (g : Nat → Nat → Nat) : List Nat → List Nat
  | a :: b :: t => g a b :: pairUp g t
  | l => l

/-- The fixed pairwise tree over a power of two of lanes, `k` levels (R433). -/
def treeFold (g : Nat → Nat → Nat) : Nat → List Nat → Nat
  | 0, l => l.headD 0
  | k + 1, l => treeFold g k (pairUp g l)

end Sys2Proof.Machine
end

