-- ==== Sys2Proof/Machine/Lanes.lean ====
section
/-! DEFINITION. Sys2Proof/Machine/Lanes.lean: the vector, matrix and Sieve operations of one core as functions of its
registers (spec/16 R433, R434; spec/18 R474, R475, R489). -/

namespace Sys2Proof.Machine

/-! ### Formats in lanes (R433) -/

/-- The format a lane computes in: FP8 is widened to FP16 on read, INT8 is carried out in INT32 (R433). -/
def calcFmt : VFmt → VFmt
  | .e4m3 => .f16
  | .e5m2 => .f16
  | .i8 => .i32
  | f => f

/-- Bits of a result lane: FP8 operands give FP16 results, INT8 results keep their low 8 bits (log entry 23). -/
def outWidth : VFmt → Nat
  | .e4m3 => 16
  | .e5m2 => 16
  | f => fmtWidth f

/-- Lanes of an operation in a format. -/
def opLanes (f : VFmt) : Nat := 2048 / outWidth f

/-- The lanes of an operand as its operation reads them, in the format it computes in. -/
def readLanes (f : VFmt) (v : Nat) : List Nat :=
  (List.range (opLanes f)).map (fun i => convert f (calcFmt f) (lane' (fmtWidth f) v i))

/-- A result vector from its lanes. -/
def writeLanes (f : VFmt) (l : List Nat) : Nat := packLanes (outWidth f) l

/-- Whether a format is an integer format. -/
def isInt (f : VFmt) : Bool := (fmtFloat f).isNone

/-! ### One lane -/

/-- The sum, difference, product and multiply-add of a lane: rounded once, or wrapping (R433). -/
def laneAdd (f : VFmt) (a b : Nat) : Nat :=
  match fmtFloat (calcFmt f) with
  | some g => g.add a b
  | none => (a + b) % 2 ^ 32

def laneSub (f : VFmt) (a b : Nat) : Nat :=
  match fmtFloat (calcFmt f) with
  | some g => g.sub a b
  | none => (a + 2 ^ 32 - b) % 2 ^ 32

def laneMul (f : VFmt) (a b : Nat) : Nat :=
  match fmtFloat (calcFmt f) with
  | some g => g.mul a b
  | none => a * b % 2 ^ 32

def laneFma (f : VFmt) (a b c : Nat) : Nat :=
  match fmtFloat (calcFmt f) with
  | some g => g.fma a b c
  | none => (a * b + c) % 2 ^ 32

/-- The greater and the lesser of two lanes (R433). -/
def laneMax (f : VFmt) (a b : Nat) : Nat :=
  match fmtFloat (calcFmt f) with
  | some g => g.max a b
  | none => if toSigned 32 a < toSigned 32 b then b else a

def laneMin (f : VFmt) (a b : Nat) : Nat :=
  match fmtFloat (calcFmt f) with
  | some g => g.min a b
  | none => if toSigned 32 b < toSigned 32 a then b else a

/-- The absolute value and the negation of a lane; integers wrap (R433). -/
def laneAbs (f : VFmt) (a : Nat) : Nat :=
  match fmtFloat (calcFmt f) with
  | some g => g.abs a
  | none => ofSigned 32 (toSigned 32 a).natAbs

def laneNeg (f : VFmt) (a : Nat) : Nat :=
  match fmtFloat (calcFmt f) with
  | some g => g.neg a
  | none => ofSigned 32 (-(toSigned 32 a))

/-- Shifts of a lane; the result of a count of 32 or more is free (log entry 24). -/
def laneShl (free a b : Nat) : Nat := if b < 32 then a <<< b % 2 ^ 32 else free
def laneShr (free a b : Nat) : Nat := if b < 32 then a >>> b else free
def laneSra (free a b : Nat) : Nat := if b < 32 then ofSigned 32 (toSigned 32 a / 2 ^ b) else free

/-- An operation of two operands on one lane; `free` stands for a result the spec leaves open. -/
def laneBin (k : VBin) (f : VFmt) (free a b : Nat) : Nat :=
  match k with
  | .add => laneAdd f a b
  | .sub => laneSub f a b
  | .mul => laneMul f a b
  | .max => laneMax f a b
  | .min => laneMin f a b
  | .and => a &&& b
  | .or => a ||| b
  | .xor => a ^^^ b
  | .shl => laneShl free a b
  | .shr => laneShr free a b
  | .sra => laneSra free a b

/-- An operation of one operand on one lane. -/
def laneUn (k : VUn) (f : VFmt) (a : Nat) : Nat :=
  match k with
  | .abs => laneAbs f a
  | .neg => laneNeg f a
  | .not => 2 ^ 32 - 1 - a % 2 ^ 32

/-- A comparison of two lanes: with a NaN, false for every one but NE (R433). -/
def laneCmp (cc : VCmp) (f : VFmt) (a b : Nat) : Bool :=
  let x := fmtValue (calcFmt f) a
  let y := fmtValue (calcFmt f) b
  match cc with
  | .eq => x.eq y
  | .ne => !x.eq y
  | .lt => x.lt y
  | .le => x.lt y || x.eq y
  | .gt => y.lt x
  | .ge => y.lt x || x.eq y

/-- Whether an operation is one of the integer formats only (R433). -/
def intOnly : VBin → Bool
  | .and => true
  | .or => true
  | .xor => true
  | .shl => true
  | .shr => true
  | .sra => true
  | _ => false

/-! ### Whole vectors -/

def vecBin (k : VBin) (f : VFmt) (free a b : Nat) : Nat :=
  writeLanes f ((List.zip (readLanes f a) (readLanes f b)).zipIdx.map (fun q =>
    laneBin k f (lane' 32 free (q.2 % 64)) q.1.1 q.1.2))

def vecFma (f : VFmt) (a b c : Nat) : Nat :=
  writeLanes f ((List.zip (readLanes f a) (List.zip (readLanes f b) (readLanes f c))).map (fun q =>
    laneFma f q.1 q.2.1 q.2.2))

def vecUn (k : VUn) (f : VFmt) (a : Nat) : Nat := writeLanes f ((readLanes f a).map (laneUn k f))

/-- V.CMP: bit j is the comparison of 32-bit lane j; where a lane holds several elements whose comparisons differ, the
bit is free (log entry 25). -/
def vecCmp (cc : VCmp) (f : VFmt) (free a b : Nat) : Nat :=
  let l := List.zipWith (laneCmp cc f) (readLanes f a) (readLanes f b)
  let n := 32 / outWidth f
  packLanes 1 ((List.range 64).map (fun j =>
    let g := (l.drop (n * j)).take n
    if g.all id then 1 else if g.any id then lane' 1 free j else 0))

/-- Lane `i` of each 32-bit lane from `new` where the predicate's bit is 1, from `old` elsewhere (R433). -/
def masked (p : Option Nat) (old new : Nat) : Nat :=
  match p with
  | none => new % 2 ^ 2048
  | some m => packLanes 32 ((List.range 64).map (fun j => if bit m j then lane' 32 new j else lane' 32 old j))

/-- V.BCAST, V.IOTA and V.PERM (R433). -/
def vecBcast (f : VFmt) (x : Nat) : Nat := packLanes (fmtWidth f) (List.replicate (fmtLanes f) x)
def vecIota (f : VFmt) : Nat := packLanes (fmtWidth f) (List.range (fmtLanes f))
def vecPerm (f : VFmt) (a i : Nat) : Nat :=
  packLanes (fmtWidth f) ((List.range (fmtLanes f)).map (fun k =>
    lane' (fmtWidth f) a (lane' (fmtWidth f) i k % fmtLanes f)))

/-- V.RED: the fixed pairwise tree over all lanes (R433). -/
def redLane : VRed → VFmt → Nat → Nat → Nat
  | .add, f => laneAdd f
  | .max, f => laneMax f
  | .min, f => laneMin f

def vecRed (k : VRed) (f : VFmt) (old a : Nat) : Nat :=
  let w := outWidth f
  let r := treeFold (redLane k f) 8 (readLanes f a)
  old - lane' w old 0 + r % 2 ^ w

/-- V.CVT: lane i from lane i; lanes of the result with no source lane are free (log entry 23). `r` gives the random
number of a lane where the rounding is stochastic (R462). -/
def vecCvt (src dst : VFmt) (free a : Nat) (r : Nat → Option Nat) : Nat :=
  packLanes (fmtWidth dst) ((List.range (fmtLanes dst)).map (fun i =>
    if i < fmtLanes src then convert src dst (lane' (fmtWidth src) a i) (r i) else lane' (fmtWidth dst) free i))

/-- V.PWL on 64 FP32 lanes (R511). -/
def vecPwl (t : List Nat) (a : Nat) : Nat := packLanes 32 ((unpack 32 64 a).map (curve t))

/-! ### A core's registers (R400) -/

/-- The key under which a register of core `c` finds its free value (R401). -/
def freeKey (c kind i : Nat) : Nat := (c * 8 + kind) * 4096 + i

def Core.vec (k : Core) (c n : Nat) : Nat := mget k.v (n % 32) (Config.freeReg k.epoch (freeKey c 0 (n % 32)) % 2 ^ 2048)
def Core.pred (k : Core) (c n : Nat) : Nat := mget k.p (n % 8) (Config.freeReg k.epoch (freeKey c 1 (n % 8)) % 2 ^ 64)
def Core.addr (k : Core) (c n : Nat) : Nat := mget k.a (n % 16) (Config.freeReg k.epoch (freeKey c 2 (n % 16)) % 2 ^ 32)
def Core.token (k : Core) (c n : Nat) : Nat := mget k.tok (n % 8) (Config.freeReg k.epoch (freeKey c 3 (n % 8)) % 16)
def Core.accAt (k : Core) (c i : Nat) : Nat :=
  mget k.acc (i % 1024) (Config.freeReg k.accEpoch (freeKey c 4 (i % 1024)) % 2 ^ 32)

def Core.setVec (k : Core) (n v : Nat) : Core := { k with v := mput k.v (n % 32) (v % 2 ^ 2048) }
def Core.setPred (k : Core) (n v : Nat) : Core := { k with p := mput k.p (n % 8) (v % 2 ^ 64) }
def Core.setAddr (k : Core) (n v : Nat) : Core := { k with a := mput k.a (n % 16) (v % 2 ^ 32) }
def Core.setToken (k : Core) (n v : Nat) : Core := { k with tok := mput k.tok (n % 8) (v % 16) }
def Core.setAcc (k : Core) (i v : Nat) : Core := { k with acc := mput k.acc (i % 1024) (v % 2 ^ 32) }

/-- A data queue. -/
def Core.queue (k : Core) (n : Nat) : List Nat := mget k.q (n % 4) []

/-- Push a vector onto a data queue. -/
def Core.push (k : Core) (n v : Nat) : Core := { k with q := mput k.q (n % 4) (k.queue n ++ [v % 2 ^ 2048]) }

/-- Read a source: a register, or the vector popped from a queue (R433). -/
def Core.take (k : Core) (c : Nat) : VReg → Nat × Core
  | .v n => (k.vec c n, k)
  | .q n => ((k.queue n).headD 0, { k with q := mput k.q (n % 4) (k.queue n).tail })
  | .sq => (0, k)

/-- What a masked write leaves in place: the register, or a free value on its way to the store queue. -/
def Core.old (k : Core) (c : Nat) (free : Nat) : VReg → Nat
  | .v n => k.vec c n
  | _ => free

/-- Write a destination: a register, or a push onto the store queue (R433). -/
def Core.give (k : Core) (d : VReg) (v : Nat) : Core :=
  match d with
  | .v n => k.setVec n v
  | .q n => k.push n v
  | .sq => { k with sq := k.sq ++ [v % 2 ^ 2048] }

/-- The predicate of an operation. -/
def Core.mask (k : Core) (c : Nat) (p : Option Nat) : Option Nat := p.map (k.pred c)

/-- Write a result under the operation's predicate. -/
def Core.result (k : Core) (c : Nat) (free : Nat) (d : VReg) (p : Option Nat) (v : Nat) : Core :=
  k.give d (masked (k.mask c p) (k.old c free d) v)

/-- The 64 elements of rows 4r to 4r + 3 of an accumulator, by their index (R434). -/
def accRows (n r : Nat) : List Nat := (List.range 64).map (fun i => 256 * n + 64 * (r % 4) + i)

/-- M.OPA: acc[i][j] += a[i] × b[j], each product exact and each addition rounded (R434). -/
def Core.outer (k : Core) (c n a b e : Nat) : Core :=
  (List.range 256).foldl (fun (acc : Core) i =>
    let x := lane' 16 a (16 * (e % 8) + i / 16)
    let y := lane' 16 b (16 * (e % 8) + i % 16)
    acc.setAcc (256 * n + i)
      (FFmt.f32.encode (((FFmt.bf16.decode x).mul (FFmt.bf16.decode y)).add (FFmt.f32.decode (acc.accAt c (256 * n + i)))))) k

/-! ### Ranking (R473 to R475, R489) -/

/-- Whether a key value is a NaN. -/
def keyNan (int : Bool) (v : Nat) : Bool := !int && (FFmt.f32.decode v).isNan

/-- Whether a key value is greater than another: NaNs are equal and above every number (R474). -/
def keyGt (int : Bool) (a b : Nat) : Bool :=
  if int then decide (toSigned 32 b < toSigned 32 a)
  else if keyNan int a then !keyNan int b
  else (FFmt.f32.decode b).lt (FFmt.f32.decode a)

/-- Whether key `a`, a value and an index, ranks above key `b` (R474). SMALLEST reverses the comparison of numbers; a NaN
then ranks below every number. -/
def ranksAbove (int smallest : Bool) (a b : Nat × Nat) : Bool :=
  let up := if smallest then keyGt int b.1 a.1 else keyGt int a.1 b.1
  let down := if smallest then keyGt int a.1 b.1 else keyGt int b.1 a.1
  up || (!down && decide (a.2 < b.2))

/-- The pair that stands at an empty position of a sorted vector (R480, R489; log entry 26). -/
def sentinel : Nat × Nat := (0x7FC00000, 0xFFFFFFFF)

/-- Ranking among the pairs of vectors, where sentinels rank below every key. -/
def pairAbove (int smallest : Bool) (a b : Nat × Nat) : Bool :=
  if a.2 = sentinel.2 then false else if b.2 = sentinel.2 then true else ranksAbove int smallest a b

/-- Insert a key into a list in ranking order. -/
def rankInsert (int smallest : Bool) (x : Nat × Nat) : List (Nat × Nat) → List (Nat × Nat)
  | [] => [x]
  | y :: t => if pairAbove int smallest y x then y :: rankInsert int smallest x t else x :: y :: t

/-- Keys in ranking order. -/
def rankSort (int smallest : Bool) (l : List (Nat × Nat)) : List (Nat × Nat) :=
  l.foldl (fun acc x => rankInsert int smallest x acc) []

/-- The flags of S.INIT. -/
def sDir (f : Nat) : Bool := bit f 0
def sInt (f : Nat) : Bool := bit f 1
def sDrop (f : Nat) : Bool := bit f 2

/-- Insert one key into the insertion list, under its policy; at most the capacity is kept (R475, R482, R489). -/
def SieveList.insert (l : SieveList) (x : Nat × Nat) : SieveList :=
  if sDrop l.flags && keyNan (sInt l.flags) x.1 then { l with nans := l.nans + 1 }
  else if x.2 = sentinel.2 then l
  else { l with keys := (rankInsert (sInt l.flags) (sDir l.flags) x l.keys).take l.cap }

/-- The pairs of a key vector and an index vector. -/
def pairsOf (k i : Nat) : List (Nat × Nat) := List.zip (unpack 32 64 k) (unpack 32 64 i)

/-- Key and index vectors from pairs, sentinels after the last. -/
def vectorsOf (l : List (Nat × Nat)) : Nat × Nat :=
  let q := l.take 64 ++ List.replicate (64 - l.length) sentinel
  (packLanes 32 (q.map (·.1)), packLanes 32 (q.map (·.2)))

/-- Drop the NaNs of a list of pairs under DROP: what is left, and how many went (R475, R489). -/
def dropNans (flags : Nat) (l : List (Nat × Nat)) : List (Nat × Nat) × Nat :=
  if sDrop flags then
    let r := l.filter (fun x => x.2 == sentinel.2 || !keyNan (sInt flags) x.1)
    (r, l.length - r.length)
  else (l, 0)

end Sys2Proof.Machine
end

