-- ==== Sys2Proof/Machine/Shepherd.lean ====
section
/-! DEFINITION. Sys2Proof/Machine/Shepherd.lean: components moved to their spares, detours started and withdrawn, and
fence marks sent by their origin (spec/11 R306 to R311, R315, R316, R322). -/

namespace Sys2Proof.Machine

/-- Record an act of the Shepherd (R323). -/
def State.shepherdNote (s : State) (kind f wl : Nat) : State :=
  (((s.wr Reg.SHEPHERD_LAST_KIND kind).wr Reg.SHEPHERD_LAST_WAVE_LINK wl).wr Reg.SHEPHERD_LAST_FERRY f).wr
    Reg.SHEPHERD_LAST_BELL s.bellNum

/-! ### Sparing (R306, R307) -/

/-- The loop of a lane as the Hearth that writes codes has it. -/
def State.laneLoop (s : State) (f w q : Nat) : Loop := (s.hearth (s.writer.getD 0)).loop (4 * (32 * f + w) + q)

/-- Whether the trigger of a unit holds: 0 modulator ring, 1 drop ring, 2 detector pair (R306). -/
def State.spareTrigger (s : State) (f w kind : Nat) : Bool :=
  if kind < 2 then
    let l := s.laneLoop f w (kind + 1)
    l.st == 5 || l.failed
  else
    let k := 32 * f + s.linkOfWave f w
    (s.laneLoop f w 2).st == 3 && (s.laneLoop f w 3).st == 3 && (16 ≤ (s.link k).dark || 64 ≤ (s.link k).rmsRun)

/-- Whether the spare of a unit is free: not in use by this or another lane (R210, R307). -/
def State.spareFree (s : State) (f w kind : Nat) : Bool :=
  if kind = 0 then !s.spareMod f w
  else if kind = 1 then !s.spareDrop f w
  else if w < 16 then !s.is (Reg.HTR_SPARE_DET_VALID0 f) else !s.is (Reg.HTR_SPARE_DET_VALID1 f)

/-- Move a unit to its spare: the Hearth acts on a ring (R241), the hybrid's switch on a detector pair (R210). -/
def State.moveSpare (s : State) (f w kind : Nat) : State :=
  if kind = 0 then
    (((s.wr (Reg.HTR_SPARE_MOD_LANES f) (setBit (s.rd (Reg.HTR_SPARE_MOD_LANES f)) w)).spareLoop f w 1).bump
      Ctr.SHEPHERD_SPARES_MOD 1).raise Err.SHEPHERD_SPARE_MOD
  else if kind = 1 then
    (((s.wr (Reg.HTR_SPARE_DROP_LANES f) (setBit (s.rd (Reg.HTR_SPARE_DROP_LANES f)) w)).spareLoop f w 2).bump
      Ctr.SHEPHERD_SPARES_DROP 1).raise Err.SHEPHERD_SPARE_DROP
  else
    let k := 32 * f + s.linkOfWave f w
    let s1 := if w < 16 then (s.wr (Reg.HTR_SPARE_DET_VALID0 f) 1).wr (Reg.HTR_SPARE_DET_LANE0 f) w
      else (s.wr (Reg.HTR_SPARE_DET_VALID1 f) 1).wr (Reg.HTR_SPARE_DET_LANE1 f) w
    ((s1.setLink k { s1.link k with dark := 0, rmsRun := 0 }).bump Ctr.SHEPHERD_SPARES_DET 1).raise
      Err.SHEPHERD_SPARE_DET

/-- COMPONENT_SPARE (R306, R307): kind 0 modulator ring, 1 drop ring, 2 detector pair of wavelength `w` of ferry `f`. -/
def execComponentSpare (f w kind : Nat) (s : State) : Out :=
  if 8 ≤ f ∨ 32 ≤ w ∨ 3 ≤ kind ∨ !s.spareTrigger f w kind then ok s
  else if !s.is Reg.SHEPHERD_CTRL_AUTO_SPARE then ok (s.shepherdNote (kind + 1) f w)
  else if s.spareFree f w kind then ok ((s.shepherdNote (kind + 1) f w).moveSpare f w kind)
  else
    let u := 96 * f + 3 * w + kind
    if s.shepherd.exhausted.contains u then ok s
    else
      ok (({ s with shepherd := { s.shepherd with exhausted := s.shepherd.exhausted ++ [u] } }.shepherdNote 4 f w).raise
        Err.SHEPHERD_SPARE_EXHAUSTED)

/-- A write of SHEPHERD_CTRL.SPARE_REARM (R307). -/
def State.askRearm (s : State) : State := { s with shepherd := { s.shepherd with rearm := true } }

/-- SPARE_REARM (R307): the primaries are taken back at the next boundary. -/
def execSpareRearm (s : State) : Out := ok s.askRearm

/-- Take back the primaries of one ferry (R307). -/
def State.takeBackFerry (s : State) (f : Nat) : State :=
  let mods := (List.range 32).filter (s.spareMod f)
  let drops := (List.range 32).filter (s.spareDrop f)
  let s1 := [(Reg.HTR_SPARE_MOD_LANES f), (Reg.HTR_SPARE_DROP_LANES f), (Reg.HTR_SPARE_DET_VALID0 f),
    (Reg.HTR_SPARE_DET_LANE0 f), (Reg.HTR_SPARE_DET_VALID1 f), (Reg.HTR_SPARE_DET_LANE1 f)].foldl
      (fun (acc : State) r => acc.wr r 0) s
  let s2 := mods.foldl (fun (acc : State) w => acc.spareLoop f w 1) s1
  drops.foldl (fun (acc : State) w => acc.spareLoop f w 2) s2

/-- A boundary's part of SPARE_REARM (R307). -/
def State.rearmBoundary (s : State) : State :=
  if !s.shepherd.rearm then s
  else
    let s1 := (List.range 8).foldl (fun (acc : State) f => acc.takeBackFerry f) s
    { s1 with shepherd := { s1.shepherd with rearm := false, exhausted := [] } }

/-! ### Detours (R308, R310, R311, R315, R316) -/

/-- Show on which ferries a detour is active. -/
def State.showDetours (s : State) : State :=
  s.wr Reg.SHEPHERD_DETOURS_FERRIES ((List.range 8).foldl (fun m f =>
    if (List.range 32).any (fun j => s.is (Reg.FERRY_REPLAY_DETOUR f j)) then setBit m f else m) 0)

/-- The detour that the active entry of link `k` gives, where R310's conditions hold. -/
def State.detourOf (s : State) (k : Nat) : Option Detour :=
  let e := detourEntry s.active.sched k
  let via := linkOfByte (bits e 8 8)
  if bit e 0 && !detourBad k e && s.is Reg.SHEPHERD_CTRL_AUTO_DETOUR && s.isActive via && s.farNode via == bits e 16 20 then
    some { via := via, target := { next := bits e 40 8, node := s.farNode k, last := bits e 48 8 } }
  else none

/-- Begin an announcement (R316). -/
def State.announceDetour (s : State) (k ann : Nat) : State :=
  s.setHop k { s.hop k with ann := ann, annAt := s.ticks, annBell := s.bellNum % 65536 }

/-- DETOUR_START (R310, R311, R314, R316). -/
def execDetourStart (f j : Nat) (s : State) : Out :=
  let k := 32 * f + j
  let h := s.hop k
  match h.leftAt with
  | none => ok s
  | some t =>
    if 8 ≤ f ∨ 32 ≤ j ∨ s.ticks < t + 2 ∨ s.isActive k ∨ h.decided then ok s
    else
      let s1 := s.setHop k { h with decided := true }
      if s.is (Reg.FERRY_REPLAY_DETOUR f j) then ok s1
      else match s.detourOf k with
        | none => ok ((s1.shepherdNote 7 f j).raiseLink Err.LANE_DETOUR_NONE k)
        | some d =>
          let stay := h.held.filter (fun x => x.sheaf.detoured)
          let go := (h.held.filter (fun x => !x.sheaf.detoured)).map (detoured d.target)
          let s2 := ((s1.setHop k { s1.hop k with detour := some d, held := stay, folded := h.folded ++ go }).showHop k).wr
            (Reg.FERRY_REPLAY_DETOUR f j) 1
          ok ((((s2.bump Ctr.SHEPHERD_DETOURS_STARTED 1).shepherdNote 5 f j).announceDetour k 1).showDetours.raiseLink
            Err.LANE_DETOUR_ACTIVE k)

/-- DETOUR_WITHDRAW (R315, R316). -/
def execDetourWithdraw (f j : Nat) (s : State) : Out :=
  let k := 32 * f + j
  let h := s.hop k
  match h.backAt with
  | none => ok s
  | some r =>
    if 8 ≤ f ∨ 32 ≤ j ∨ s.ticks < r + 2 ∨ !s.isActive k ∨ !s.is (Reg.FERRY_REPLAY_DETOUR f j) then ok s
    else
      let s1 := (s.setHop k { h with leftAt := none, decided := false }).wr (Reg.FERRY_REPLAY_DETOUR f j) 0
      ok ((((s1.bump Ctr.SHEPHERD_DETOURS_WITHDRAWN 1).shepherdNote 6 f j).announceDetour k 2).showDetours)

/-- A withdrawn detour whose queue has run empty is forgotten (R315). -/
def State.endDetour (s : State) (k : Nat) : State :=
  let h := s.hop k
  if h.detour.isSome && !s.is (Reg.FERRY_REPLAY_DETOUR (k / 32) (k % 32)) && h.folded.isEmpty then
    s.setHop k { h with detour := none, backAt := none }
  else s

/-! ### Fence marks (R321, R322) -/

/-- The link that a task's flow leaves on: the lowest whose active transmit table has a TASK entry of it (R322). -/
def State.flowLink (s : State) (flow : Nat) : Option Nat :=
  (List.range 256).find? (fun k => (List.range 24).any (fun n =>
    let e := txOf s.active.sched k n
    entAction e == 3 && entFlow e == flow))

/-- FENCE_MARK_SEND (R322): the mark goes out once none of the flow's sheaves is held here. -/
def execFenceMarkSend (slot flow : Nat) (s : State) : Out :=
  let t := s.task slot
  match t.fences.find? (fun q => q.flow == flow && !q.sent) with
  | none => ok s
  | some q =>
    if 64 ≤ slot ∨ t.st ≠ 2 ∨ descOp t.desc ≠ 8 ∨ s.holdsFlow flow q.seq then ok s
    else match s.flowLink flow with
      | none => ok s
      | some k =>
        let s1 := s.setTask slot { t with fences := t.fences.map (fun x => if x.flow == flow then { x with sent := true } else x) }
        ok (s1.sendFence k 16 flow q.seq s.nodeId (s.taskTag slot))

end Sys2Proof.Machine
end

