-- ==== Sys2Proof/Machine/Transfer.lean ====
section
/-! DEFINITION. Sys2Proof/Machine/Transfer.lean: PUT, GET, PROGRAM in SEND mode, FENCE and SWAP as they run, one bell's
work a command, and their end (spec/13 R360 to R363, spec/14 R382, R383). -/

namespace Sys2Proof.Machine

/-- Whether slot `n` runs an opcode. -/
def State.runs (s : State) (n op : Nat) : Bool := n < 64 && (s.task n).st == 2 && descOp (s.task n).desc == op && !s.frozen

/-- Whether an opcode-5 descriptor is in SEND mode (R361). -/
def isSend (d : List Byte) : Bool := descOp d == 5 && bit (descNum d 56 1) 0

/-- LENGTH of a PUT, GET or SEND, and its pieces (R360, R361). -/
def xferLen (d : List Byte) : Nat := if descOp d = 5 then descNum d 40 4 else descNum d 48 4
def xferPieces (d : List Byte) : Nat := (xferLen d + 495) / 496

/-- DEST, and the TARGET of piece 0. -/
def xferDest (d : List Byte) : Nat := (if descOp d = 5 then descNum d 57 3 else descNum d 52 3) % 2 ^ 20
def xferTarget (d : List Byte) : Nat := if descOp d = 5 then descNum d 48 8 else descNum d 40 8

/-- Bytes of piece `p`. -/
def pieceLen (d : List Byte) (p : Nat) : Nat := min 496 (xferLen d - 496 * p)

/-- The payload of a PUT, GET_REQ or PROGRAM sheaf (R344). -/
def openPayload (target len origin : Nat) (tail : List Byte) : List Byte :=
  leBytes 8 target ++ leBytes 2 len ++ leBytes 3 origin ++ leBytes 3 0 ++ tail

/-- Send one piece in an open slot (R360, R361, R382). -/
def State.sendPiece (s : State) (n kind p : Nat) (tail : List Byte) : State :=
  let t := s.task n
  let d := t.desc
  let a := (if kind = 3 then descNum d 32 8 else xferTarget d) + 496 * p
  let x := { Sheaf.empty with
    kind := kind, tag := s.taskTag n, dest := xferDest d, hostTally := kind != 3 && descFlag d 3,
    payload := openPayload (a % 2 ^ 64) (pieceLen d p) s.nodeId tail }
  (s.setTask n { t with made := p + 1, sentAt := s.ticks }).sendOpen n x

/-- Whether a sheaf of slot `n` is still in this node's stores, unacknowledged. -/
def State.sheavesOut (s : State) (n : Nat) : Bool :=
  s.sched.opens.any (fun o => o.own == n) || s.hops.any (fun q => (q.2.flush n).count != q.2.count)
    || s.sched.cells.any (fun c => c.link == 256 && c.sheaf.tag == s.taskTag n)

/-- End a PUT, GET or SEND that is through (R360): every sheaf acknowledged, every reply written, or the others
acknowledged after one was discarded. -/
def State.transferEnd (s : State) (n : Nat) : State :=
  let t := s.task n
  let d := t.desc
  let pieces := xferPieces d
  if t.st ≠ 2 ∨ s.frozen then s
  else match t.dropped with
    | some p => if s.sheavesOut n then s else s.finish n 16 p
    | none =>
      if descOp d = 4 then (if t.replies.length = pieces then s.finish n 0 0 else s)
      else if (descOp d = 3 ∨ isSend d) ∧ t.made = pieces ∧ pieces ≤ t.acked then s.finish n 0 0
      else s

/-- Whether a task may send in this bell: once, and not in the bell of its start (R360). -/
def State.maySend (s : State) (n : Nat) : Bool :=
  (s.task n).sentAt != s.ticks && (s.task n).dropped.isNone && (s.task n).made < xferPieces (s.task n).desc

/-! ### The source (R381 to R383) -/

/-- The address of the tally array's entry for piece `p` (R382). -/
def arrayAt (d : List Byte) (p : Nat) : Nat := (descNum d 32 8 + xferLen d + 3) / 4 * 4 + 4 * p

/-- Bytes that reads have brought, if all are there. -/
def inbufBytes (m : Map Byte) (a n : Nat) : Option (List Byte) :=
  let l := (List.range n).filterMap (fun i => mfind m (a + i))
  if l.length = n then some l else none

/-- Read the next pieces of a window source, once the pieces read before have been sent: at most 24, and their tallies. -/
def State.askSource (s : State) (n : Nat) : State :=
  let t := s.task n
  let d := t.desc
  let src := descNum d 32 8
  if !localWindow src || t.asked != t.made || xferPieces d ≤ t.made then s
  else
    let m := min 24 (xferPieces d - t.made)
    let off := 496 * t.made
    let len := min (xferLen d - off) (496 * m)
    let e := s.window (bits src 32 8)
    let o := s.occOf n
    let r := s.hostRead n ((src + off) % 2 ^ 40) len o
    let q := if r.1 && descFlag d 3 then r.2.hostRead n (arrayAt d t.made % 2 ^ 40) (4 * m) o else r
    if q.1 then q.2.setTask n { q.2.task n with asked := t.made + m, inbuf := [], hostAt := e.base }
    else q.2.finish n 10 (bits src 32 8)

/-- The bytes of the source at an offset from its LOCAL address `a`: from the Granary with what its check finds, or
from the reads that have come in. `none`: not there yet; `some none`: the check failed. -/
def State.sourceBytes (s : State) (n a len : Nat) (ecc : EccResult) : Option (Option (List Byte)) × State :=
  if localWindow a then
    ((inbufBytes (s.task n).inbuf (((s.task n).hostAt + a % 2 ^ 32) % 2 ^ 64) len).map some, s)
  else
    let r := (s.linePort len).granaryRead .line a len ecc (s.occOf n)
    (some r.1, r.2)

/-- Compare a source piece with its host tally (R383); answers whether it may be used. -/
def State.hostTally (s : State) (n : Nat) (piece : List Byte) (want : Nat) : Bool × State :=
  let r := (s.bump Ctr.TALLY_TALLIES_CHECKED 1).tallyInject 5 none
  if r.1 || crc32c piece != want then
    let s1 := ((r.2.tallyNote 4 (s.taskTag n) 0 0 0 r.1).bump Ctr.TALLY_HOST_TALLY_MISMATCHES 1).raise
      Err.TALLY_HOST_TALLY_MISMATCH { tag := .tag32 (s.tagOf n), injected := r.1 }
    (false, s1)
  else (true, r.2)

/-- Send the next piece of a PUT or SEND if its bytes are there: whether to go on, and the state. -/
def State.sendNext (s : State) (n kind : Nat) (ecc : EccResult) : Bool × State :=
  let t := s.task n
  let d := t.desc
  let p := t.made
  if t.st ≠ 2 ∨ t.dropped.isSome ∨ xferPieces d ≤ p then (false, s)
  else
    let len := pieceLen d p
    let arr := if descFlag d 3 then s.sourceBytes n (arrayAt d p) 4 .ok else (some (some []), s)
    match arr.1 with
    | none => (false, s)
    | some none => (false, arr.2.failTask n 9)
    | some (some w) =>
      let r := arr.2.sourceBytes n (descNum d 32 8 + 496 * p) len ecc
      match r.1 with
      | none => (false, s)
      | some none => (false, r.2.failTask n 9)
      | some (some b) =>
        if !descFlag d 3 then (true, r.2.sendPiece n kind p b)
        else
          let h := r.2.hostTally n b (ofLe w)
          if h.1 then (true, h.2.sendPiece n kind p b)
          else (false, (h.2.setTask n { h.2.task n with progress := p }).failTask n 9)

/-- Send up to as many pieces as there are ECC results. -/
def State.sendPieces (s : State) (n kind : Nat) : List EccResult → State
  | [] => s
  | e :: r =>
    let q := s.sendNext n kind e
    if q.1 then q.2.sendPieces n kind r else q.2

/-- The ECC results of a bell's 24 pieces; those not given are good. -/
def padEcc (l : List EccResult) : List EccResult := l.take 24 ++ List.replicate (24 - l.length) .ok

/-- One bell's work of a PUT or SEND (R360, R361). -/
def State.putBell (s : State) (n kind : Nat) (eccs : List EccResult) : State :=
  if s.maySend n then ((s.askSource n).sendPieces n kind (padEcc eccs)).transferEnd n else s.transferEnd n

/-- OP_PUT (R360): one bell's work; `eccs` is what reading each piece from the Granary finds. -/
def execOpPut (slot : Nat) (eccs : List EccResult) (s : State) : Out :=
  if s.runs slot 3 then ok (s.putBell slot 2 eccs) else ok s

/-- OP_PROGRAM_SEND (R361): one bell's work of a PROGRAM in SEND mode. -/
def execOpProgramSend (slot : Nat) (eccs : List EccResult) (s : State) : Out :=
  if s.runs slot 5 && isSend (s.task slot).desc then ok (s.putBell slot 6 eccs) else ok s

/-- Send the next GET_REQs, one a count (R360). -/
def State.getPieces : Nat → Nat → State → State
  | 0, _, s => s
  | k + 1, n, s =>
    let t := s.task n
    if t.st ≠ 2 ∨ t.dropped.isSome ∨ xferPieces t.desc ≤ t.made then s
    else State.getPieces k n (s.sendPiece n 3 t.made (leBytes 8 ((descNum t.desc 40 8 + 496 * t.made) % 2 ^ 64)))

/-- OP_GET (R360): one bell's GET_REQs, and the end once every reply is written. -/
def execOpGet (slot : Nat) (s : State) : Out :=
  if !s.runs slot 4 then ok s
  else if s.maySend slot then ok ((State.getPieces 24 slot s).transferEnd slot)
  else ok (s.transferEnd slot)

/-! ### FENCE and SWAP (R321, R362, R363) -/

/-- A FENCE whose receipts have all come completes (R321, R362). -/
def State.fenceEnd (s : State) (n : Nat) : State :=
  if (s.task n).st = 2 ∧ (s.task n).fences.all (fun q => q.got) then s.finish n 0 0 else s

/-- OP_FENCE (R362). -/
def execOpFence (slot : Nat) (s : State) : Out := if s.runs slot 8 then ok (s.fenceEnd slot) else ok s

/-- A SWAP that armed the device-wide swap completes once it is done, or is aborted once it is disarmed (R363). -/
def State.swapEnd (s : State) (n : Nat) : State :=
  let st := s.rd (Hdr.SWAP_STATE 0x52)
  if (s.task n).st ≠ 2 ∨ !(s.task n).armed then s
  else if st = 2 then s.finish n 0 0
  else if st = 0 then s.finish n 4 0
  else s

/-- OP_SWAP (R363). -/
def execOpSwap (slot : Nat) (s : State) : Out := if s.runs slot 9 then ok (s.swapEnd slot) else ok s

/-! ### The boundary (R318, R368) -/

/-- The late cancel of a SWAP writes DISARM; too late, it completes OK with CANCEL_LATE (R369). -/
def State.swapStop (s : State) (n : Nat) : State :=
  let s1 := s.writeSwap 0x52 2
  if s1.rd (Hdr.SWAP_STATE 0x52) = 2 then (s1.setTask n { s1.task n with late := true }).finish n 0 0
  else s1.finish n 4 0

/-- The step points of the tasks that were asked to stop before the boundary: every task but one whose program step is
running is at a step point there (R368, R369). -/
def State.boundaryStops (s : State) (before : List Nat) : State :=
  before.foldl (fun (acc : State) n =>
    let t := acc.task n
    if acc.frozen || (mfind acc.mill.progs n).elim false (·.running) then acc
    else if descOp t.desc = 9 ∧ t.armed ∧ t.stop = some (4, 0) ∧ !acc.timedOut n then acc.swapStop n
    else (acc.stepPoint n).2) s

/-- The slots whose task was asked to stop. -/
def State.stopping (s : State) : List Nat := s.liveSlots.filter (fun n => (s.task n).stop.isSome && (s.task n).st == 3)

/-- Tasks that lost a MEM transaction complete once the link is back (R185). -/
def State.lostTasks (s : State) : State :=
  if !s.linkActive then s
  else
    let own := s.uahus.lost.filter (· < 64)
    own.foldl (fun (acc : State) n => if (acc.task n).st = 2 ∨ (acc.task n).st = 3 then acc.finish n 11 0 else acc)
      { s with uahus := { s.uahus with lost := s.uahus.lost.filter (fun n => !(n < 64)) } }

/-- What every boundary ends of itself: transfers, fences and swaps that are through (R360 to R363). -/
def State.boundaryEnds (s : State) : State :=
  s.liveSlots.foldl (fun (acc : State) n =>
    let d := (acc.task n).desc
    if acc.frozen then acc
    else if descOp d = 3 ∨ descOp d = 4 ∨ isSend d then acc.transferEnd n
    else if descOp d = 8 then acc.fenceEnd n
    else if descOp d = 9 then acc.swapEnd n
    else acc) s

end Sys2Proof.Machine
end

