-- ==== Sys2Proof/Machine/Mill.lean ====
section
/-! DEFINITION. Sys2Proof/Machine/Mill.lean: the Miller's contexts, images, steps and windows, the issue of long words,
faults and the trace buffer (spec/15 R397 to R404, R412, R413, R417; spec/16 R420 to R424, R441 to R449; spec/02 R62 to
R65). -/

namespace Sys2Proof.Machine

/-! ### Contexts -/

/-- The program of a task slot. -/
def State.prog (s : State) (n : Nat) : Option Prog := mfind s.mill.progs n

/-- The state with a slot's program replaced. -/
def State.setProg (s : State) (n : Nat) (p : Prog) : State :=
  { s with mill := { s.mill with progs := mput s.mill.progs n p } }

/-- A core. -/
def State.core (s : State) (c : Nat) : Core := mget s.mill.cores c Core.blank

/-- The state with a core replaced. -/
def State.setCore (s : State) (c : Nat) (k : Core) : State :=
  { s with mill := { s.mill with cores := mput s.mill.cores c k } }

/-- A row. -/
def State.rowUnit (s : State) (r : Nat) : RowUnit := mget s.mill.rows r { cfg := [], streams := [] }

/-- The state with a row replaced. -/
def State.setRow (s : State) (r : Nat) (u : RowUnit) : State :=
  { s with mill := { s.mill with rows := mput s.mill.rows r u } }

/-- A stream of a row. -/
def State.stream (s : State) (r k : Nat) : StreamQ := mget (s.rowUnit r).streams k StreamQ.blank

/-- The state with a stream replaced. -/
def State.setStream (s : State) (r k : Nat) (q : StreamQ) : State :=
  s.setRow r { s.rowUnit r with streams := mput (s.rowUnit r).streams k q }

/-- The rows of a mask, ascending. -/
def rowsOf (mask : Nat) : List Nat := (List.range 8).filter (bit mask)

/-- The cores of a row, ascending (R396). -/
def coresOf (r : Nat) : List Nat := (List.range 16).map (16 * r + ·)

/-- The rank of core `c` among the cores that a row mask selects (R425). -/
def rankOf (mask c : Nat) : Nat := 16 * popCount (c / 16) (mask % 2 ^ (c / 16)) + c % 16

/-- Slots whose step runs. -/
def State.steps (s : State) : List Nat := (s.mill.progs.filter (fun p => p.2.running)).map (·.1)

/-- Rows that running steps hold (MILLER_STATUS.ROWS_BUSY, R413). -/
def State.rowsBusy (s : State) : Nat :=
  (s.mill.progs.filter (fun p => p.2.running)).foldl (fun a p => a ||| p.2.rows) 0

/-- Whether another task holds the accumulators of row `r` (R401). -/
def State.heldByOther (s : State) (n r : Nat) : Bool :=
  s.is (Reg.MILL_ACC_HELD_VALID r) && s.rd (Reg.MILL_ACC_HELD_SLOT r) != n

/-- Hold the accumulators of the rows of a mask that no task holds (R401, R422). -/
def State.holdRows (s : State) (n mask : Nat) : State :=
  (rowsOf mask).foldl (fun (acc : State) r =>
    if acc.is (Reg.MILL_ACC_HELD_VALID r) then acc
    else (acc.wr (Reg.MILL_ACC_HELD_VALID r) 1).wr (Reg.MILL_ACC_HELD_SLOT r) n) s

/-- The code of a row mode (R418). -/
def modeCode : RowMode → Nat
  | .engine => 1
  | .decoupled => 2

/-- MILL_ROW_MODE as it reads (R418). -/
def State.rowModes (s : State) : Nat :=
  (s.mill.progs.filter (fun p => p.2.running)).foldl (fun a p =>
    (rowsOf p.2.rows).foldl (fun b r => b ||| (modeCode p.2.mode * 4 ^ r)) a) 0

/-! ### The trace buffer (R447, R448) -/

/-- The 16 bytes of a trace record (R447). -/
def traceBytes (bell cycle kind : Nat) (tail : Bool) (slot : Nat) (pb : Bool) (tag step word rows data : Nat) : List Byte :=
  leBytes 3 bell ++ leBytes 2 (cycle % 2048 + 2048 * b2n tail + 4096 * kind) ++ leBytes 1 (slot + 64 * b2n pb)
    ++ leBytes 2 tag ++ leBytes 2 step ++ leBytes 3 (word % 2 ^ 20) ++ leBytes 1 rows ++ leBytes 2 data

/-- Recording stops for good at the trigger's end (R448). -/
def State.traceFreeze (s : State) : State := s.wr Reg.TRACE_STATUS_FROZEN 1

/-- Store one record at the write pointer; each 256th completes a group (R448, R449). -/
def State.traceStore (s : State) (d : List Byte) : State :=
  if s.is Reg.TRACE_STATUS_FROZEN then s
  else if s.is Reg.TRACE_STATUS_FULL then (s.bump Ctr.TRACE_RECORDS_DROPPED 1).raise Err.TRACE_TRACE_DROPPED
  else
    let w := s.rd Reg.TRACE_STATUS_WRITE_PTR
    let t := s.mill.trace
    let full := !s.is Reg.TRACE_CTRL_WRAP && t.count + 1 == 1024
    let lost := s.is Reg.TRACE_CTRL_STREAM && s.farDbg && w % 256 == 0 && t.groups.contains (w / 256)
    let gs := if lost then t.groups.erase (w / 256) else t.groups
    let gs' := if s.is Reg.TRACE_CTRL_STREAM && s.farDbg && w % 256 == 255 then gs ++ [w / 256] else gs
    let s1 := (s.wr Reg.TRACE_STATUS_WRITE_PTR ((w + 1) % 1024)).wrB Reg.TRACE_STATUS_FULL full
    let s2 : State := { s1 with draws := s1.draws + 1, mill := { s1.mill with trace :=
      { t with recs := mput t.recs w d, count := t.count + 1, after := t.after.map (· - 1), groups := gs' } } }
    let s3 := s2.bump Ctr.TRACE_RECORDS_WRITTEN 1
    let s4 := if lost then (s3.bump Ctr.TRACE_RECORDS_DROPPED 256).raise Err.TRACE_TRACE_DROPPED else s3
    if t.after = some 1 then s4.traceFreeze else s4

/-- Record an event of the Miller if it passes the filters, and the trigger's own record after it (R448). -/
def State.trace (s : State) (kind n : Nat) (tail pb : Bool) (word rows data : Nat) : State :=
  let tag := s.taskTag n
  let step := (s.task n).progress % 65536
  let one (k : Nat) (a : State) : State :=
    a.traceStore (traceBytes (a.bellNum % 2 ^ 24) (Config.freeCycle a.draws) k tail n pb tag step word rows
      (if k = 10 then 0 else data % 65536))
  if !s.is Reg.TRACE_CTRL_EN || !bit (s.rd Reg.TRACE_KINDS_KINDS) (kind - 1)
      || (s.is Reg.TRACE_CTRL_TAG_FILTER && s.rd Reg.TRACE_TAG_TAG != tag)
      || (s.is Reg.TRACE_CTRL_ROW_FILTER && s.rd Reg.TRACE_ROWS_ROWS &&& rows == 0) then s
  else
    let s1 := one kind s
    if kind = 1 && s.is Reg.TRACE_CTRL_TRIG_EN && !s.mill.trace.fired && !s.is Reg.TRACE_STATUS_FROZEN
        && s.rd Reg.TRACE_TRIGGER_TAG == tag && s.rd Reg.TRACE_TRIG_STEP_STEP == step then
      let s2 := (one 10 s1).bump Ctr.TRACE_TRIGGERS 1
      let k := s.rd Reg.TRACE_TRIGGER_AFTER
      let s3 : State := { s2 with mill := { s2.mill with trace :=
        { s2.mill.trace with fired := true, after := if k = 0 then none else some k } } }
      if k = 0 then s3.traceFreeze else s3
    else s1

/-! ### Faults (R442 to R446) -/

/-- Record the word tag of a Mill fault (R446). -/
def State.noteWord (s : State) (n word : Nat) (pb : Bool) : State :=
  [(Reg.TRACE_FAULT_LO_STEP, (s.task n).progress), (Reg.TRACE_FAULT_LO_TASK_TAG, s.taskTag n), (Reg.TRACE_FAULT_HI_VALID, 1),
   (Reg.TRACE_FAULT_HI_PB, b2n pb), (Reg.TRACE_FAULT_HI_SLOT, n), (Reg.TRACE_FAULT_HI_WORD, word)].foldl
    (fun (acc : State) (p : Fld × Nat) => acc.wr p.1 p.2) s

/-- Whether slot `n`'s step runs on port T. -/
def State.onTail (s : State) (n : Nat) : Bool := (s.prog n).elim false (·.tail)

/-- A fault's trace record (R447). -/
def State.traceFault (s : State) (n word : Nat) (pb : Bool) (rows : Nat) (e : ErrBit) : State :=
  s.trace 5 n (s.onTail n) pb word rows (e.bit + 256 * e.page)

/-- An illegal operation: no operation; the task is aborted at its next step point with DATA_SUSPECT (R443). -/
def State.illegalOp (s : State) (n word : Nat) (pb : Bool) (rows : Nat) : State :=
  (((s.noteWord n word pb).raise Err.MILL_ILLEGAL_OP (s.occOf n)).traceFault n word pb rows Err.MILL_ILLEGAL_OP).failTask n 8

/-- An operation naming an accumulator that another task holds (R401, R443). -/
def State.heldConflict (s : State) (n word : Nat) (pb : Bool) (rows : Nat) : State :=
  (((s.noteWord n word pb).raise Err.MILL_ACC_HELD_CONFLICT (s.occOf n)).traceFault n word pb rows
    Err.MILL_ACC_HELD_CONFLICT).failTask n 8

/-- A residue mismatch (R389, R394). -/
def State.residueFail (s : State) (n core : Nat) (inj : Bool) : State :=
  let s1 := ((s.tallyNote 5 (s.taskTag n) core 0 0 inj).bump Ctr.TALLY_RESIDUE_FAILS 1).raise Err.TALLY_RESIDUE
    { s.occOf n with injected := inj }
  s1.failTask n 8

/-- One residue check of a result in core `c` (R389, R395). -/
def State.residue (s : State) (n c : Nat) : State :=
  let r := s.tallyInject 4 (some c)
  if r.1 then r.2.residueFail n c true else s

/-- Record an ECC error of the Miller's memories (R417): 0 instruction, 1 data, 2 Pattern Book ROM, 3 overlay. -/
def State.millerErr (s : State) (memory : Nat) (ue : Bool) (addr : Nat) : State :=
  (((s.wr Reg.MILLER_ERR_ADDR_VALID 1).wr Reg.MILLER_ERR_ADDR_MEMORY memory).wrB Reg.MILLER_ERR_ADDR_UE ue).wr
    Reg.MILLER_ERR_ADDR_ADDR addr

/-- The memory that a word is read from, and the address that MILLER_ERR_ADDR names for it: the place of a word within
its memory is the loader's, so the address is free (log entry 20). -/
def State.wordMemory (s : State) (pb : Bool) (word : Nat) : Nat × Nat :=
  let a := Config.freeVec (s.draws + word) % 2 ^ 20
  (if !pb then 0 else if bit (s.rd (Reg.MILLER_PB_OVERLAY_BLOCKS (a / 2 ^ 17 % 4))) (a / 2 ^ 12 % 32) then 3 else 2, a)

/-- What the fetch of one long word finds: whether it may issue (R398, R442, R546). -/
def State.fetchWord (s : State) (n word : Nat) (pb : Bool) (ecc : EccResult) (prefetch : Bool) : Bool × State :=
  let s0 := s.bump Ctr.MILLER_MILLER_FETCH_WORDS 1
  let r : Bool × State := if pb then (false, s0) else s0.injectUse 0x60 0
  let o : Occ := { s.occOf n with injected := r.1, prefetch := prefetch }
  let m := s.wordMemory pb word
  if r.1 || ecc == .uncorrectable then
    let s1 := { r.2 with draws := r.2.draws + 1 }.millerErr m.1 true m.2
    let e := if pb then Err.MILLER_PB_UE else Err.MILLER_IMEM_UE
    let s2 := if prefetch then s1 else s1.noteWord n word pb
    (false, if prefetch then s2.raise e o else (s2.raise e o).traceFault n word pb 0 e)
  else if ecc = .corrected then
    let s1 := { r.2 with draws := r.2.draws + 1 }.millerErr m.1 false m.2
    (true, if pb then s1 else s1.raise Err.MILLER_IMEM_CE o)
  else (true, r.2)

/-! ### The issue of a word (R397, R425, R426) -/

/-- The program of an operation that may issue now: the slot's step runs, and the operation is at its program counter. -/
def State.issuing (s : State) (o : OpAt) : Option Prog :=
  match s.prog o.slot with
  | none => none
  | some p =>
    let t := s.task o.slot
    if o.slot < 64 && (t.st == 2 || t.st == 3) && !s.millerStopped && p.running && p.ended.isNone && p.pc == o.word && p.pb == o.pb
    then some p else none

/-- Begin the word of an operation, if it has not begun: it is fetched and counted. A word that cannot be read ends the
step, and its task with DATA_ERROR (R398). Answers whether the operation may go on. -/
def State.beginWord (s : State) (o : OpAt) (p : Prog) : Bool × State :=
  if p.inWord then (true, s)
  else
    let r := s.fetchWord o.slot o.word o.pb o.ecc false
    if r.1 then
      let s1 := (r.2.bump Ctr.MILLER_LONG_WORDS_ISSUED 1).setProg o.slot { p with inWord := true }
      (true, if p.tail then s1.bump Ctr.MILLER_TAIL_WORDS_ISSUED 1 else s1)
    else (false, (r.2.setProg o.slot { p with ended := some .broken }).failTask o.slot 9)

/-- Where control goes that arrives at a word: past the end of a Miller loop's body, the body starts again while
iterations are left (R428). -/
def loopTo (pb : Bool) (target : Nat) : List MLoop → Nat × List MLoop
  | [] => (target, [])
  | l :: r =>
    if l.pb == pb && l.stop == target then
      if 1 < l.left then (l.start, { l with left := l.left - 1 } :: r) else loopTo pb target r
    else (target, l :: r)

/-- A program whose word is done: control goes to `target`. -/
def Prog.goto (p : Prog) (target : Nat) : Prog :=
  let r := loopTo p.pb target p.loops
  { p with pc := r.1, loops := r.2, inWord := false }

/-- Finish a word: its trace record, with the low bits of its scalar result where the unlock allows them (R447). -/
def State.wordDone (s : State) (o : OpAt) (result : Nat) : State :=
  let s1 := if (s.unit 3).step then s.setUnit 3 { s.unit 3 with step := false } else s
  s1.trace 1 o.slot (s.onTail o.slot) o.pb o.word o.rows (if bit (s.rd Reg.SEC_STATUS_PERMS) 2 then result else 0)

/-- Finish a word and go on to the next. -/
def State.nextWord (s : State) (o : OpAt) (result : Nat) : State :=
  let s1 := s.wordDone o result
  match s1.prog o.slot with
  | none => s1
  | some p => s1.setProg o.slot (p.goto (o.word + 1))

/-- An x register: x0 reads 0 (R421). -/
def Prog.xr (p : Prog) (n : Nat) : Nat := if n % 32 = 0 then 0 else mget p.x (n % 32) 0

/-- A program with an x register written; writes to x0 are discarded (R421). -/
def Prog.setX (p : Prog) (n v : Nat) : Prog :=
  if n % 32 = 0 then p else { p with x := mset p.x (n % 32) (v % 2 ^ 64) 0 }

/-- The state with an x register of a slot's program written. -/
def State.setX (s : State) (n r v : Nat) : State :=
  match s.prog n with
  | none => s
  | some p => s.setProg n (p.setX r v)

/-- A scalar operation that answers one value for an x register. -/
def State.scalar (s : State) (o : OpAt) (xd : Nat) (f : Prog → Nat) : State :=
  match s.issuing o with
  | none => s
  | some p =>
    let r := s.beginWord o p
    if r.1 then (r.2.setX o.slot xd (f p % 2 ^ 64)).nextWord o (f p) else r.2

/-- Fetch the words beyond a taken branch, at most two, and discard them (R441, R442). -/
def State.discardWords (s : State) (o : OpAt) : State :=
  (o.past.take 2).foldl (fun (acc : State) e => (acc.fetchWord o.slot (o.word + 1) o.pb e true).2) s

/-- A branch. -/
def State.branch (s : State) (o : OpAt) (label : Nat) (f : Prog → Bool) : State :=
  match s.issuing o with
  | none => s
  | some p =>
    let r := s.beginWord o p
    if !r.1 then r.2
    else if !f p then r.2.nextWord o 0
    else
      let s1 := (r.2.wordDone o 0).discardWords o
      match s1.prog o.slot with
      | none => s1
      | some q => s1.setProg o.slot (q.goto label)

/-! ### Images (R399, R420, R421, R439) -/

/-- 4 KiB blocks that the words of an image take: IMAGE_LENGTH rounded up. -/
def imageBlocks (d : List Byte) : Nat := (descNum d 40 4 + 4095) / 4096

/-- The lowest start of `n` free units among `total`, given the ranges taken. -/
def lowestFree (total n : Nat) (taken : List (Nat × Nat)) : Option Nat :=
  (List.range (total + 1 - n)).find? (fun a => taken.all (fun t => a + n ≤ t.1 || t.1 + t.2 ≤ a))

/-- The largest free range of instruction memory in KiB (R417). -/
def State.freeKib (s : State) : Nat :=
  let taken := s.mill.progs.map (fun p => (p.2.base, p.2.blocks))
  4 * ((List.range 65).filter (fun n => n = 0 ∨ (lowestFree 64 n taken).isSome)).foldl max 0

/-- Whether slot `n` runs a PROGRAM in RUN mode. -/
def State.runsProgram (s : State) (n : Nat) : Bool := s.runs n 5 && !isSend (s.task n).desc

/-- A RUN task's image is placed where both its instruction range and its data space fit (R399, R421); otherwise the
task waits, counting the bell. -/
def State.loadImage (s : State) (n : Nat) (img : Image) : State :=
  let d := (s.task n).desc
  let blocks := imageBlocks d
  let size := 2 + img.data / 256
  match lowestFree 64 blocks (s.mill.progs.map (fun p => (p.2.base, p.2.blocks))),
      lowestFree 0x1E0 size (s.mill.progs.map (fun p => (p.2.save / 256, 2 + p.2.data / 256))) with
  | some b, some m =>
    let x := [(1, descNum d 48 8), (2, descTag d), (3, descRegion d), (4, descRegionSize d)].foldl
      (fun (acc : Map Nat) q => mset acc q.1 q.2 0) ([] : Map Nat)
    let p : Prog :=
      { base := b, blocks := blocks, save := 256 * m, data := img.data, words := img.words.length, patches := img.patches,
        x := x, pc := img.entry, pb := false, loops := [], rets := [], saved := false, running := false, tail := false,
        window := 0, turn := 0, deferred := false, rows := img.rows % 256, mode := img.mode, nextRows := img.rows % 256,
        nextMode := img.mode, hold := false, inWord := false, ended := none, stale := [], issued := 0 }
    let im := img.words.zipIdx.foldl (fun (acc : Map Nat) q => mset acc (2 ^ 20 * n + q.2) q.1 0) s.miller.imem
    let dm := writeBytes s.miller.dmem 0 p.save (List.replicate (512 + img.data) 0)
    { s with miller := { imem := im, dmem := dm } }.setProg n p
  | _, _ => s.bump Ctr.MILLER_IMEM_WAIT_BELLS 1

/-- PROGRAM_IMAGE_LOAD (R399, R421): an image that has been read is placed. -/
def execProgramImageLoad (slot : Nat) (s : State) : Out :=
  match mfind s.mill.images slot with
  | none => ok s
  | some img =>
    if !s.runsProgram slot || (s.prog slot).isSome then ok s
    else
      let s1 := s.loadImage slot img
      if (s1.prog slot).isSome then ok { s1 with mill := { s1.mill with images := mdel s1.mill.images slot } } else ok s1

/-! ### Steps (R401, R413, R421 to R424) -/

/-- The save block of a program (R424). -/
def saveBytes (p : Prog) : List Byte :=
  ((List.range 32).flatMap (fun i => leBytes 8 (p.xr i))) ++ leBytes 8 p.pc
    ++ ((List.range 4).flatMap (fun i =>
      match p.loops.reverse[i]? with
      | some l => leBytes 4 l.left ++ leBytes 4 l.start ++ leBytes 4 l.stop ++ leBytes 4 0
      | none => leBytes 16 0))
    ++ leBytes 184 0

/-- A program restored from its save block (R424). -/
def restore (p : Prog) (b : List Byte) : Prog :=
  let num (o n : Nat) : Nat := ofLe ((b.drop o).take n)
  let x := (List.range 31).foldl (fun (acc : Map Nat) i => mset acc (i + 1) (num (8 * (i + 1)) 8) 0) ([] : Map Nat)
  let ls := (List.range 4).filterMap (fun i =>
    let o := 264 + 16 * i
    if num o 12 = 0 then none
    else some ({ left := num o 4, start := num (o + 4) 4, stop := num (o + 8) 4, pb := false } : MLoop))
  { p with x := x, pc := num 256 8, pb := false, loops := ls.reverse, rets := [] }

/-- Whether slot `n` has a step due in this window (R413). -/
def State.stepDue (s : State) (n : Nat) : Bool :=
  match s.prog n with
  | none => false
  | some p => s.runsProgram n && !p.running && p.turn != s.ticks + 1

/-- Whether slot `k` comes before slot `n` in the window's order: deferred steps first, then by slot (R413). -/
def State.stepBefore (s : State) (k n : Nat) : Bool :=
  let dk := (s.prog k).elim false (·.deferred)
  let dn := (s.prog n).elim false (·.deferred)
  if dk == dn then decide (k < n) else dk

/-- Whether the step of slot `n` may start now (R413). -/
def State.stepMayStart (s : State) (n : Nat) : Bool :=
  match s.prog n with
  | none => false
  | some p => s.stepDue n && s.rowsBusy &&& p.rows == 0
      && s.mill.progs.all (fun q => q.1 == n || !s.stepDue q.1 || !s.stepBefore q.1 n)

/-- The cores of a row at the start of a step: every register undefined but accumulators that are held (R401). -/
def State.freshRow (s : State) (r : Nat) : State :=
  let keep := s.is (Reg.MILL_ACC_HELD_VALID r)
  let s1 := (coresOf r).foldl (fun (acc : State) c =>
    let k := acc.core c
    acc.setCore c { Core.blank with epoch := acc.draws, acc := if keep then k.acc else [],
                                    accEpoch := if keep then k.accEpoch else acc.draws }) s
  s1.setRow r { cfg := [], streams := [] }

/-- The rows of a step at its start. -/
def State.freshRows (s : State) (rows : Nat) : State :=
  let s1 := (rowsOf rows).foldl (fun (acc : State) r => acc.freshRow r) s
  { s1 with draws := s1.draws + 1 }

/-- Start the step of slot `n`. -/
def State.startStep (s : State) (n : Nat) (p : Prog) : State :=
  let q := if p.saved then restore p (readBytes s.miller.dmem 0 p.save 512) else p
  let s1 := (s.freshRows p.rows).setProg n
    { q with running := true, tail := false, window := (s.bellNum + bellMod - 1) % bellMod, turn := s.ticks + 1,
             deferred := false, inWord := false, ended := none, issued := 0 }
  (s1.bump Ctr.MILLER_STEPS_RUN 1).trace 2 n false false q.pc p.rows (p.rows + 256 * modeCode p.mode)

/-- An ECC error in a word of data memory that a task reads (R398, R417, R546): whether the word may be used. -/
def State.dmemRead (s : State) (n addr : Nat) (ecc : EccResult) : Bool × State :=
  let r := s.injectUse 0x60 1
  let o : Occ := { s.occOf n with injected := r.1 }
  if r.1 || ecc == .uncorrectable then (false, ((r.2.millerErr 1 true addr).raise Err.MILLER_DMEM_UE o).failTask n 9)
  else if ecc = .corrected then (true, (r.2.millerErr 1 false addr).raise Err.MILLER_DMEM_CE o)
  else (true, s)

/-- MILL_STEP_START (R413, R424): `ecc` is what reading the save block finds. -/
def execMillStepStart (slot : Nat) (ecc : EccResult) (s : State) : Out :=
  match s.prog slot with
  | none => ok s
  | some p =>
    if !s.stepMayStart slot then ok s
    else if !p.saved then ok (s.startStep slot p)
    else
      let r := s.dmemRead slot p.save ecc
      if r.1 then ok (r.2.startStep slot p) else ok (r.2.stepPoint slot).2

/-- Whether every operation issued in the step has completed and every engine loop has run out (R422). -/
def State.stepQuiet (s : State) (p : Prog) : Bool :=
  (rowsOf p.rows).all (fun r => (s.rowUnit r).streams.all (fun q => q.2.queue.isEmpty && q.2.run.isEmpty))

/-- The state at a step point: the program is saved and its rows are free (R422, R424). -/
def State.savePoint (s : State) (n : Nat) (p : Prog) : State :=
  let q := match p.ended with
    | some .step => { p with rows := p.nextRows, mode := p.nextMode, hold := false }
    | _ => p
  let s1 := if p.ended = some .step ∧ p.hold then s.holdRows n p.nextRows else s
  let s2 := { s1 with miller := { s1.miller with dmem := writeBytes s1.miller.dmem 0 p.save (saveBytes p) } }
  (s2.setProg n { q with running := false, tail := false, saved := true, inWord := false }).trace 3 n p.tail p.pb p.pc p.rows
    (Config.freeCycle s2.draws)

/-- The step of slot `n` ends at its step point: an abort that waits acts there, and END finishes the task (R422,
R423). -/
def State.finishStep (s : State) (n : Nat) (p : Prog) : State :=
  let r := (s.savePoint n p).stepPoint n
  if r.1 then r.2
  else match p.ended with
    | some (.endOp v) => (r.2.setTask n { r.2.task n with result := v }).finish n 0 0
    | _ => r.2

/-- MILL_STEP_FINISH (R422). -/
def execMillStepFinish (slot : Nat) (s : State) : Out :=
  match s.prog slot with
  | none => ok s
  | some p => if p.running && p.ended.isSome && !s.millerStopped && s.stepQuiet p then ok (s.finishStep slot p) else ok s

/-- Whether slot `n` runs a routine of the Pattern Book, whose steps the model takes whole (R466). -/
def State.runsRoutine (s : State) (n : Nat) : Bool :=
  n < 64 && (s.task n).st == 2 && usesGroup (descOp (s.task n).desc) && !s.millerStopped

/-- STEP_DEFERRED (R413): a step not started when the own part ends. -/
def execStepDeferred (slot : Nat) (s : State) : Out :=
  match s.prog slot with
  | some p =>
    if s.stepDue slot then
      ok (((s.setProg slot { p with deferred := true, turn := s.ticks + 1 }).bump Ctr.MILLER_STEPS_DEFERRED 1).trace 4 slot
        false p.pb p.pc p.rows 0)
    else ok s
  | none =>
    if s.runsRoutine slot && (s.task slot).sentAt != s.ticks then
      ok (((s.setTask slot { s.task slot with sentAt := s.ticks }).bump Ctr.MILLER_STEPS_DEFERRED 1).trace 4 slot false true 0 0 0)
    else ok s

/-- A step that has not finished by cycle 160 of its overlap (R65): its task ends with OVERRUN, unless an error was found
first (R392). -/
def State.overrun (s : State) (n : Nat) (p : Prog) : State :=
  let s1 := ((s.setProg n { p with running := false, tail := false }).bump Ctr.BELL_OVERRUN_STEPS 1).raise Err.BELL_OVERRUN
    (s.occOf n)
  match (s.task n).stop with
  | some (8, d) => s1.finish n 8 d
  | some (9, d) => s1.finish n 9 d
  | _ => s1.finish n 7 (p.window % 2 ^ 32)

/-- BELL_OVERRUN (R65). -/
def execBellOverrun (slot : Nat) (s : State) : Out :=
  match s.prog slot with
  | none => ok s
  | some p => if p.running && p.tail && !s.frozen then ok (s.overrun slot p) else ok s

/-- What a bell boundary does to the windows: a step that is still in its tail overruns, the head's steps continue on
port T, and a freeze abandons every running step (R412, R540). -/
def State.millBoundary (s : State) : State :=
  s.mill.progs.foldl (fun (acc : State) q =>
    match acc.prog q.1 with
    | none => acc
    | some p =>
      if !p.running then acc
      else if acc.frozen then acc.setProg q.1 { p with running := false, tail := false }
      else if p.tail then acc.overrun q.1 p
      else acc.setProg q.1 { p with tail := true }) s

end Sys2Proof.Machine
end

