-- ==== Sys2Proof/Machine/Scalar.lean ====
section
/-! DEFINITION. Sys2Proof/Machine/Scalar.lean: the Miller's own operations (spec/16 R421, R422, R426, R428, R429, R431,
R436, R438 to R440). -/

namespace Sys2Proof.Machine

/-- A 64-bit value as a signed number. -/
def sx (v : Nat) : Int := toSigned 64 v

/-! ### Integer and compare (R426) -/

def execAdd (o : OpAt) (xd xa xb : Nat) (s : State) : Out := ok (s.scalar o xd (fun p => p.xr xa + p.xr xb))

def execSub (o : OpAt) (xd xa xb : Nat) (s : State) : Out := ok (s.scalar o xd (fun p => p.xr xa + (2 ^ 64 - p.xr xb % 2 ^ 64)))

def execMul (o : OpAt) (xd xa xb : Nat) (s : State) : Out := ok (s.scalar o xd (fun p => p.xr xa * p.xr xb))

def execAnd (o : OpAt) (xd xa xb : Nat) (s : State) : Out := ok (s.scalar o xd (fun p => p.xr xa &&& p.xr xb))

def execOr (o : OpAt) (xd xa xb : Nat) (s : State) : Out := ok (s.scalar o xd (fun p => p.xr xa ||| p.xr xb))

def execXor (o : OpAt) (xd xa xb : Nat) (s : State) : Out := ok (s.scalar o xd (fun p => p.xr xa ^^^ p.xr xb))

/-- SHL: the low 6 bits of the count. -/
def execShl (o : OpAt) (xd xa xb : Nat) (s : State) : Out := ok (s.scalar o xd (fun p => p.xr xa <<< (p.xr xb % 64)))

/-- SHR: the low 6 bits of the count. -/
def execShr (o : OpAt) (xd xa xb : Nat) (s : State) : Out := ok (s.scalar o xd (fun p => p.xr xa >>> (p.xr xb % 64)))

/-- SRA: the low 6 bits of the count. -/
def execSra (o : OpAt) (xd xa xb : Nat) (s : State) : Out :=
  ok (s.scalar o xd (fun p => ofSigned 64 (sx (p.xr xa) / 2 ^ (p.xr xb % 64))))

def execLi (o : OpAt) (xd imm : Nat) (s : State) : Out := ok (s.scalar o xd (fun _ => imm))

def execSlt (o : OpAt) (xd xa xb : Nat) (s : State) : Out :=
  ok (s.scalar o xd (fun p => b2n (decide (sx (p.xr xa) < sx (p.xr xb)))))

def execSltu (o : OpAt) (xd xa xb : Nat) (s : State) : Out := ok (s.scalar o xd (fun p => b2n (decide (p.xr xa < p.xr xb))))

def execSeq (o : OpAt) (xd xa xb : Nat) (s : State) : Out := ok (s.scalar o xd (fun p => b2n (p.xr xa == p.xr xb)))

/-! ### Branches (R426, R441) -/

def execBeq (o : OpAt) (xa xb label : Nat) (s : State) : Out := ok (s.branch o label (fun p => p.xr xa == p.xr xb))

def execBne (o : OpAt) (xa xb label : Nat) (s : State) : Out := ok (s.branch o label (fun p => p.xr xa != p.xr xb))

def execBlt (o : OpAt) (xa xb label : Nat) (s : State) : Out :=
  ok (s.branch o label (fun p => decide (sx (p.xr xa) < sx (p.xr xb))))

def execBge (o : OpAt) (xa xb label : Nat) (s : State) : Out :=
  ok (s.branch o label (fun p => decide (sx (p.xr xb) ≤ sx (p.xr xa))))

def execBltu (o : OpAt) (xa xb label : Nat) (s : State) : Out := ok (s.branch o label (fun p => decide (p.xr xa < p.xr xb)))

def execJmp (o : OpAt) (label : Nat) (s : State) : Out := ok (s.branch o label (fun _ => true))

/-! ### A word's control -/

/-- A scalar operation with an effect of its own: `f` answers the state after it and its result. -/
def State.control (s : State) (o : OpAt) (f : Prog → State → Nat × State) : State :=
  match s.issuing o with
  | none => s
  | some p =>
    let r := s.beginWord o p
    if !r.1 then r.2
    else
      let q := f p r.2
      q.2.nextWord o q.1

/-- Change a slot's program. -/
def State.withProg (s : State) (n : Nat) (f : Prog → Prog) : State :=
  match s.prog n with
  | none => s
  | some p => s.setProg n (f p)

/-! ### Data memory (R424, R426, R443) -/

/-- The data-memory address of an access, if it is an 8-byte aligned offset within the task's data area (log entry 21). -/
def Prog.dataAt (p : Prog) (xa : Nat) (imm : Int) : Option Nat :=
  let off := ((p.xr xa : Int) + imm) % 2 ^ 64
  let a := off.toNat
  if a % 8 = 0 ∧ a + 8 ≤ p.data then some (p.save + 512 + a) else none

/-- LD.D: `ecc` is what the read of the data word finds. -/
def execLdD (o : OpAt) (xd xa : Nat) (imm : Int) (ecc : EccResult) (s : State) : Out :=
  ok (s.control o (fun p a =>
    match p.dataAt xa imm with
    | none => (0, a.illegalOp o.slot o.word o.pb o.rows)
    | some addr =>
      let r := a.dmemRead o.slot addr ecc
      if r.1 then
        let v := ofLe (readBytes s.miller.dmem 0 addr 8)
        (v, r.2.setX o.slot xd v)
      else (0, r.2.noteWord o.slot o.word o.pb)))

/-- ST.D. -/
def execStD (o : OpAt) (xa : Nat) (imm : Int) (xs : Nat) (s : State) : Out :=
  ok (s.control o (fun p a =>
    match p.dataAt xa imm with
    | none => (0, a.illegalOp o.slot o.word o.pb o.rows)
    | some addr =>
      (0, { a with miller := { a.miller with dmem := writeBytes a.miller.dmem 0 addr (leBytes 8 (p.xr xs)) } })))

/-! ### Loops and calls (R428, R429) -/

/-- LOOP.M: the words from the next up to the label, `xc` times; a fifth level is illegal (R443). -/
def execLoopM (o : OpAt) (xc stop : Nat) (s : State) : Out :=
  ok (match s.issuing o with
    | none => s
    | some p =>
      let r := s.beginWord o p
      let c := p.xr xc % 2 ^ 32
      if !r.1 then r.2
      else if 4 ≤ p.loops.length then (r.2.illegalOp o.slot o.word o.pb o.rows).nextWord o 0
      else if c = 0 then (r.2.wordDone o 0).withProg o.slot (fun q => q.goto stop)
      else
        (r.2.withProg o.slot (fun q =>
          { q with loops := { left := c, start := o.word + 1, stop := stop, pb := o.pb } :: q.loops })).nextWord o 0)

/-- CALL.PB: `entry` is the routine's first word, none where it is not callable in the Pattern Book in force; a ninth
level is illegal (R429, R443). -/
def execCallPb (o : OpAt) (routine : Nat) (entry : Option Nat) (s : State) : Out :=
  ok (match s.issuing o with
    | none => s
    | some p =>
      let r := s.beginWord o p
      if !r.1 then r.2
      else match entry with
        | none => (r.2.illegalOp o.slot o.word o.pb o.rows).nextWord o 0
        | some e =>
          if 8 ≤ p.rets.length then (r.2.illegalOp o.slot o.word o.pb o.rows).nextWord o 0
          else
            let s1 := (r.2.wordDone o 0).trace 7 o.slot p.tail o.pb o.word o.rows routine
            s1.withProg o.slot (fun q =>
              { q with pc := e, pb := true, inWord := false, rets := (o.pb, o.word + 1) :: q.rets }))

/-- RET: control returns to the word after the call; without a call it goes on to the next word (log entry 21). -/
def execRet (o : OpAt) (s : State) : Out :=
  ok (match s.issuing o with
    | none => s
    | some p =>
      let r := s.beginWord o p
      if !r.1 then r.2
      else match p.rets with
        | [] => r.2.nextWord o 0
        | (b, w) :: rest =>
          (r.2.wordDone o 0).withProg o.slot (fun q => { q with pb := b, rets := rest }.goto w))

/-! ### Steps (R422, R423, R431) -/

/-- STEP: the current step finishes; the next takes the rows and mode named. PROGRESS counts it (R423). -/
def execStep (o : OpAt) (rows : Nat) (mode : RowMode) (hold : Bool) (s : State) : Out :=
  ok (s.control o (fun _ a =>
    (0, (a.withProg o.slot (fun q =>
        { q with nextRows := rows % 256, nextMode := mode, hold := hold, ended := some .step })).setTask o.slot
          { a.task o.slot with progress := (a.task o.slot).progress + 1 })))

/-- Whether a sheaf has been delivered to the task of slot `n` (R431). -/
def State.isDelivered (s : State) (n land seq : Nat) : Bool :=
  s.sched.delivered.any (fun d => d.land == land && d.seq == seq && d.tag == s.taskTag n)

/-- WAIT.L: the step goes on if the sheaf has been delivered to the task; otherwise it ends here, and the next step
starts with the same WAIT.L. -/
def execWaitL (o : OpAt) (xland xseq : Nat) (s : State) : Out :=
  ok (match s.issuing o with
    | none => s
    | some p =>
      let r := s.beginWord o p
      if !r.1 then r.2
      else if r.2.isDelivered o.slot (p.xr xland % 1024) (p.xr xseq % 2 ^ 24) then r.2.nextWord o 0
      else (r.2.wordDone o 0).withProg o.slot (fun q => { q with ended := some .waitL }))

/-- END: the task finishes with RESULT once the step is quiet (R422). -/
def execEndOp (o : OpAt) (xs : Nat) (s : State) : Out :=
  ok (s.control o (fun p a => (0, a.withProg o.slot (fun q => { q with ended := some (.endOp (p.xr xs)) }))))

/-! ### Ordering (R436, R437) -/

/-- FENCE.G: it issues once no store of the step waits in an access stream. -/
def execFenceG (o : OpAt) (s : State) : Out :=
  ok (match s.issuing o with
    | none => s
    | some p =>
      if (rowsOf p.rows).all (fun r => (s.stream r 0).queue.isEmpty && (s.stream r 0).run.isEmpty) then
        s.control o (fun _ a => (0, a))
      else s)

/-- GO.WAIT: layers run whole at their GO, so none is left to wait for (log entry 22). -/
def execGoWait (o : OpAt) (s : State) : Out := ok (s.control o (fun _ a => (0, a)))

/-! ### Instruction memory (R439, R440) -/

/-- ST.I: word `wi` of the task's own image becomes patch word `pi`. -/
def execStI (o : OpAt) (wi pi : Nat) (s : State) : Out :=
  ok (s.control o (fun p a =>
    if wi < p.words ∧ pi < p.patches.length then
      let m := { a.miller with imem := mset a.miller.imem (2 ^ 20 * o.slot + wi) (p.patches.getD pi 0) 0 }
      (0, ({ a with miller := m }).withProg o.slot (fun q => { q with stale := (wi :: q.stale).eraseDups }))
    else (0, a.illegalOp o.slot o.word o.pb o.rows)))

/-- SYNC.I: every earlier ST.I is complete; every fetch after it sees the new content. -/
def execSyncI (o : OpAt) (s : State) : Out :=
  ok (s.control o (fun p a =>
    (0, (a.withProg o.slot (fun q => { q with stale := [] })).trace 8 o.slot p.tail o.pb o.word o.rows 0)))

/-! ### Timing-dependent operations (R438) -/

/-- RD.BELL: the bell number of the window in which the step runs. -/
def execRdBell (o : OpAt) (xd : Nat) (s : State) : Out :=
  ok (s.control o (fun p a => (p.window, (a.setX o.slot xd p.window).trace 9 o.slot p.tail o.pb o.word o.rows 0)))

/-- RD.ARR: open sheaves of kinds PUT, GET_DATA and PROGRAM applied with the task's tag since its admission. -/
def execRdArr (o : OpAt) (xd : Nat) (s : State) : Out :=
  ok (s.control o (fun p a =>
    let v := (a.task o.slot).arr
    (v, (a.setX o.slot xd v).trace 9 o.slot p.tail o.pb o.word o.rows 1)))

end Sys2Proof.Machine
end

