-- ==== Sys2Proof/Machine/Weir.lean ====
section
/-! DEFINITION. Sys2Proof/Machine/Weir.lean: delivery to the host ring and its halt (spec/12 R339, R340, R391), the scan
of the shadow set (R330), and the open sheaves applied here (R343 to R348, R361). -/

namespace Sys2Proof.Machine

/-! ### HOST delivery (R339, R386, R391) -/

/-- Record a failed delivery (R387, R394). -/
def State.deliveryFail (s : State) (place : Nat) (x : Sheaf) (inj : Bool) : State :=
  ((s.tallyNote 3 x.tag place x.kind x.flow inj).bump Ctr.TALLY_DELIVERY_FAILS 1).raise Err.TALLY_DELIVERY_FAIL
    { tag := .tag16 x.tag, injected := inj }

/-- Halt a landing entry at a sheaf: its bit is set and a Ledger record names entry, flow and sequence (R391, R551). -/
def State.haltLand (s : State) (i flow seq : Nat) : State :=
  let w := Reg.TALLY_HALTED_ENTRIES (i / 32)
  (s.wr w (setBit (s.rd w) (i % 32))).record 0x54 4 (i + flow * 2 ^ 20 + seq * 2 ^ 40)

/-- The sheaf that a HOST entry delivers next: landed, at the expected sequence, and not halted. -/
def State.hostNext (s : State) (i : Nat) : Option (LandEntry × Landing × (Nat × Nat)) :=
  let le := landEntry s.active.sched i
  let l := s.landState i le.first
  if s.frozen || !le.valid || !le.host || s.halted i then none
  else match l.landed.find? (fun p => p.1 == l.next && p.2 == 0) with
    | none => none
    | some p => some (le, l, p)

/-- Carry out one HOST delivery; `ecc` is what reading the landing cell finds. -/
def State.hostDeliver (s : State) (i : Nat) (le : LandEntry) (l : Landing) (p : Nat × Nat) (ecc : EccResult) : State :=
  let a := le.base + 528 * (p.1 % 2 ^ le.depth)
  let x := parseSheaf (s.granaryBytes a 528)
  let o : Occ := { tag := .tag16 x.tag }
  let r := s.granaryRead .line a 528 ecc o
  let t := ((r.2.linePort 528).bump Ctr.TALLY_TALLIES_CHECKED 1).tallyInject 3 none
  if r.1.isNone || t.1 || x.tally != sheafTally x then
    (t.2.deliveryFail 0 x t.1).haltLand i le.flow p.1
  else
    let off := 512 * (((p.1 + 2 ^ 24 - le.first) % 2 ^ 24) % 2 ^ le.hostDepth)
    let w := t.2.hostWrite 64 (le.window + off) (padTo 512 x.payload) o
    if !w.1 then w.2.haltLand i le.flow p.1
    else
      let l1 : Landing := { next := (l.next + 1) % 2 ^ 24, landed := l.landed.erase p }
      State.deliver i l1.landed.length w.2 l1

/-- HOST_DELIVERY (R339, R386, R391): one MEM write of the payload, or the entry halts. -/
def execHostDelivery (land : Nat) (ecc : EccResult) (s : State) : Out :=
  match s.hostNext land with
  | none => ok s
  | some (le, l, p) => if land < 1024 then ok (s.hostDeliver land le l p ecc) else ok s

/-- A write of SCHED_LAND_RESET (R340): the entry is reset at the next boundary. -/
def State.askLandReset (s : State) (i : Nat) : State :=
  { s with sched := { s.sched with landReset := s.sched.landReset ++ [i % 1024] } }

/-- LANDING_RESET (R340). -/
def execLandingReset (idx : Nat) (s : State) : Out := ok (s.askLandReset idx)

/-! ### The scan of the shadow set (R330) -/

/-- The first of a table's entries that is invalid, as (TABLE, INDEX). -/
def firstBad (table count : Nat) (bad : Nat → Bool) : Option (Nat × Nat) :=
  ((List.range count).find? bad).map (fun i => (table, i))

/-- The first invalid entry of a set, table by table in the order of SCHED_BAD's codes (R330). -/
def scanSet (t : Map Byte) : Option (Nat × Nat) :=
  [firstBad 0 6144 (fun i => rxBad t (i / 24) (rxEntry t (i / 24) (i % 24))),
   firstBad 1 6144 (fun i => txBad t (i / 24) (i % 24) (txEntry t (i / 24) (i % 24))),
   firstBad 2 256 (fun i => detourBad i (detourEntry t i)),
   firstBad 3 1024 (landBad t),
   firstBad 4 4096 (fun i => routeBad (routeEntry t i))].findSome? id

/-- SCHED_SHADOW_SCAN (R330): the first invalid entry is recorded. -/
def execSchedShadowScan (s : State) : Out :=
  if !s.armed 0x52 || s.sched.scanned then ok s
  else
    let s1 := { s with sched := { s.sched with scanned := true } }
    match scanSet s.shadow.sched with
    | none => ok s1
    | some b =>
      ok ((((s1.wr Reg.SCHED_BAD_VALID 1).wr Reg.SCHED_BAD_TABLE b.1).wr Reg.SCHED_BAD_INDEX b.2).raise
        Err.SCHED_ENTRY_BAD)

/-! ### Applying an open sheaf (R343, R344, R361, R386, R387) -/

/-- A sheaf that may not be applied here (R344). -/
def State.targetFault (s : State) (x : Sheaf) : State := s.raise Err.WEIR_OPEN_TARGET_FAULT { tag := .tag16 x.tag }

/-- Give back the cell of an applied sheaf. One that this node sent to itself is thereby acknowledged (R360). -/
def State.cellDone (s : State) (k : Nat) (x : Sheaf) : State :=
  if k < 256 then s.grantCell k
  else match s.slotOfTag x.tag with
    | none => s
    | some n => if x.kind = 2 ∨ x.kind = 3 ∨ x.kind = 6 then s.pieceAcked n else s

/-- Read the first waiting cell of a kind for apply: the sheaf if it may be applied. `ecc` is what the read finds, and
`bad` the address that it finds it at. -/
def State.readCell (s : State) (kind : Nat) (ecc : EccResult) (bad : Nat) : Option Cell × State :=
  match (if s.frozen then none else s.sched.cells.find? (fun c => c.out.isNone && c.sheaf.kind == kind)) with
  | none => (none, s)
  | some c =>
    let x := c.sheaf
    let o : Occ := { tag := .tag16 x.tag }
    let s1 := { s with sched := { s.sched with cells := s.sched.cells.erase c } }.bump Ctr.TALLY_TALLIES_CHECKED 1
    let s2 := match ecc with
      | .ok => s1
      | .corrected => s1.granaryCe .line bad o
      | .uncorrectable => s1.granaryUe .line bad o
    if ecc = .uncorrectable ∨ x.tally ≠ sheafTally x then
      let s3 := (s2.deliveryFail (c.link % 256) x false).cellDone c.link x
      (none, if kind = 4 then (match s3.slotOfTag x.tag with | some n => s3.failTask n 9 | none => s3) else s3)
    else (some c, s2.markApplied x)

/-- Whether a Granary range lies in the part open to PUT and GET (R344). -/
def State.openRange (s : State) (a n : Nat) : Bool :=
  s.rd Reg.WEIR_OPEN_BASE_ADDR ≤ a && a + n ≤ s.rd Reg.WEIR_OPEN_LIMIT_ADDR && inGranary a n

/-- TARGET, SOURCE or RETURN names a window (R344). -/
def isWindow (a : Nat) : Bool := bit a 63

/-- The LENGTH of an open sheaf, and whether it is one that R344 gives. -/
def openLen (x : Sheaf) : Nat := payNum x 8 2
def openLenOk (x : Sheaf) : Bool := 1 ≤ openLen x && openLen x ≤ 496

/-- An applied PUT, GET_DATA or PROGRAM sheaf counts for the task of its tag (R438). -/
def State.arrived (s : State) (x : Sheaf) : State :=
  match s.slotOfTag x.tag with
  | some n => s.setTask n { s.task n with arr := (s.task n).arr + 1 }
  | none => s

/-- Write an open sheaf's data at an address of this node (R344). Answers whether they were written. -/
def State.openWrite (s : State) (x : Sheaf) (a : Nat) : Bool × State :=
  let d := (x.payload.drop 16).take (openLen x)
  let o : Occ := { tag := .tag16 x.tag }
  if !openLenOk x then (false, s.targetFault x)
  else if isWindow a then
    let r := s.hostWrite 64 (a % 2 ^ 40) d o
    (r.1, if r.1 then r.2.arrived x else r.2.targetFault x)
  else if !s.openRange a d.length then (false, s.targetFault x)
  else (true, (((s.granaryWrite .line a d o).2).linePort d.length).arrived x)

/-- PUT_APPLY (R344). -/
def execPutApply (ecc : EccResult) (bad : Nat) (s : State) : Out :=
  let r := s.readCell 2 ecc bad
  match r.1 with
  | none => ok r.2
  | some c => ok ((r.2.openWrite c.sheaf (payNum c.sheaf 0 8)).2.cellDone c.link c.sheaf)

/-- The GET_DATA that answers a GET_REQ (R344). -/
def State.getReply (s : State) (x : Sheaf) (d : List Byte) : State :=
  s.sendOpen 64 { Sheaf.empty with
    kind := 4, tag := x.tag, dest := payNum x 10 3 % 2 ^ 20,
    payload := leBytes 8 (payNum x 16 8) ++ leBytes 2 d.length ++ leBytes 3 s.nodeId ++ leBytes 3 0 ++ d }

/-- GET_REQ_APPLY (R344): the reply goes out, or waits for the window read; `src` is what a Granary read of SOURCE
finds. -/
def execGetReqApply (ecc : EccResult) (bad : Nat) (src : EccResult) (s : State) : Out :=
  let r := s.readCell 3 ecc bad
  match r.1 with
  | none => ok r.2
  | some c =>
    let x := c.sheaf
    let a := payNum x 0 8
    let n := openLen x
    let o : Occ := { tag := .tag16 x.tag }
    if !openLenOk x then ok ((r.2.targetFault x).cellDone c.link x)
    else if isWindow a then
      let t0 := r.2.uahus.nextTag
      let e := r.2.window (bits a 32 8)
      let q := r.2.hostRead 64 (a % 2 ^ 40) n o
      if !q.1 then ok ((q.2.targetFault x).cellDone c.link x)
      else
        let tags := (List.range ((q.2.uahus.nextTag + 65536 - t0) % 65536)).map (fun i => (t0 + i) % 65536)
        let w : OpenRead := { link := c.link, tags := tags, base := (e.base + a % 2 ^ 32) % 2 ^ 64, got := [], sheaf := x }
        ok { q.2 with sched := { q.2.sched with openReads := q.2.sched.openReads ++ [w] } }
    else if !r.2.openRange a n then ok ((r.2.targetFault x).cellDone c.link x)
    else
      let g := (r.2.linePort n).granaryRead .line a n src o
      match g.1 with
      | some d => ok ((g.2.getReply x d).cellDone c.link x)
      | none => ok ((g.2.targetFault x).cellDone c.link x)

/-- Complete a GET whose replies are all written (R360). -/
def State.getDone (s : State) (n : Nat) : State :=
  let t := s.task n
  let pieces := (descNum t.desc 48 4 + 495) / 496
  if t.st = 2 ∧ descOp t.desc = 4 ∧ t.replies.length = pieces then s.finish n 0 0 else s

/-- Write a GET's reply at RETURN, within the task's region (R344, R360, R415), and count it. -/
def State.getWrite (s : State) (n : Nat) (x : Sheaf) : State :=
  let a := payNum x 0 8
  let t := s.task n
  let d := (x.payload.drop 16).take (openLen x)
  if isWindow a || !openLenOk x || !s.openRange a (openLen x) then
    let r := s.openWrite x a
    if r.1 then
      let p := r.2.pieceOf n x
      if t.replies.contains p then r.2
      else (r.2.setTask n { r.2.task n with replies := t.replies ++ [p], progress := t.progress + openLen x }).getDone n
    else if isWindow a ∧ t.st = 2 then r.2.finish n 10 (bits a 32 8)
    else r.2
  else
    let r := s.taskWrite n (Config.freeCore s.draws) a d
    let s1 := r.2.linePort d.length
    if !r.1 then s1
    else
      let s2 := s1.arrived x
      let p := s2.pieceOf n x
      if t.replies.contains p then s2
      else (s2.setTask n { s2.task n with replies := t.replies ++ [p], progress := t.progress + openLen x }).getDone n

/-- GET_DATA_APPLY (R344, R360): the bytes go to TARGET; a GET of the tag that runs here counts them. -/
def execGetDataApply (ecc : EccResult) (bad : Nat) (s : State) : Out :=
  let r := s.readCell 4 ecc bad
  match r.1 with
  | none => ok r.2
  | some c =>
    let x := c.sheaf
    let s1 := match r.2.slotOfTag x.tag with
      | some n => if descOp (r.2.task n).desc = 4 ∧ ((r.2.task n).st = 2 ∨ (r.2.task n).st = 3) then r.2.getWrite n x
          else (r.2.openWrite x (payNum x 0 8)).2
      | none => (r.2.openWrite x (payNum x 0 8)).2
    ok (s1.cellDone c.link x)

/-- PROGRAM_SHEAF_APPLY (R361): the piece goes into the staging region, or is not applied. -/
def execProgramSheafApply (ecc : EccResult) (bad : Nat) (s : State) : Out :=
  let r := s.readCell 6 ecc bad
  match r.1 with
  | none => ok r.2
  | some c =>
    let x := c.sheaf
    let off := payNum x 0 8
    let n := openLen x
    let a := r.2.rd Reg.CMD_PROG_STAGE_BASE_ADDR + off
    if openLenOk x && off + n ≤ r.2.rd Reg.CMD_PROG_STAGE_SIZE_BYTES && inGranary a n then
      ok (((((r.2.granaryWrite .line a ((x.payload.drop 16).take n) { tag := .tag16 x.tag }).2).linePort n).arrived
        x).cellDone c.link x)
    else ok ((r.2.targetFault x).cellDone c.link x)

/-- MGMT_SHEAF_APPLY (R276): the sheaf leaves its cell; the spec gives a MGMT sheaf no further effect. -/
def execMgmtSheafApply (ecc : EccResult) (bad : Nat) (s : State) : Out :=
  let r := s.readCell 5 ecc bad
  match r.1 with
  | none => ok r.2
  | some c => ok (r.2.cellDone c.link c.sheaf)

/-! ### Credits and staleness (R346, R348) -/

/-- Whether a link's receiver owes a CREDIT sheaf (R346). -/
def State.creditDue (s : State) (k : Nat) : Bool :=
  let c := s.credit k
  let grown := (c.granted + 2 ^ 32 - c.reported) % 2 ^ 32
  s.isActive k && k % 32 != 0
    && (!c.told || decide (max 1 (s.rd Reg.WEIR_BATCH_CELLS) ≤ grown) || (decide (c.reportAt + 64 ≤ s.ticks) && grown != 0))

/-- Let a CREDIT sheaf wait for a link's next open slot. -/
def State.askCredit (s : State) (k : Nat) : State :=
  if s.creditDue k then s.setCredit k { s.credit k with due := true } else s

/-- CREDIT_SHEAF_SEND (R346). -/
def execCreditSheafSend (f j : Nat) (s : State) : Out := if f < 8 ∧ j < 32 then ok (s.askCredit (32 * f + j)) else ok s

/-- WEIR_STALE (R348): the oldest sheaf that has waited too long is discarded. -/
def execWeirStale (s : State) : Out :=
  match s.sched.cells.find? (fun c => c.at' + s.rd Reg.WEIR_STALE_BELLS ≤ s.ticks) with
  | none => ok s
  | some c =>
    let s1 := ({ s with sched := { s.sched with cells := s.sched.cells.erase c } }.bump Ctr.WEIR_STALE_DROPS 1).raise
      Err.WEIR_WEIR_STALE { tag := .tag16 c.sheaf.tag }
    if c.link < 256 then ok (s1.grantCell c.link)
    else match s1.slotOfTag c.sheaf.tag with
      | none => ok s1
      | some n => ok (s1.dropPiece n c.sheaf)

end Sys2Proof.Machine
end

