-- ==== Sys2Proof/Machine/Cores.lean ====
section
/-! DEFINITION. Sys2Proof/Machine/Cores.lean: the engine queues and the operations of the cores (spec/15 R401 to R403,
R407, R415, R416; spec/16 R425, R427, R430 to R435, R443; spec/18 R489). An operation joins its row's queue at issue, and
the streams then run as far as their queues and tokens let them. -/

namespace Sys2Proof.Machine

/-! ### The streams -/

/-- The stream that an engine's operations join: in decoupled mode vector, matrix and Sieve share the execute stream
(R402). 0 access, 1 vector, 2 matrix, 3 Sieve. -/
def streamOf (m : RowMode) (engine : Nat) : Nat :=
  match m with
  | .engine => engine
  | .decoupled => if engine = 0 then 0 else 1

/-- The stream an engine loop names, if its mode has it (R427). -/
def loopStream (m : RowMode) : Stream → Option Nat
  | .access => some 0
  | .vector => if m = .engine then some 1 else none
  | .matrix => if m = .engine then some 2 else none
  | .sieve => if m = .engine then some 3 else none
  | .execute => if m = .decoupled then some 1 else none

/-- Entries that a stream's queue holds, the body of a loop in progress included. -/
def StreamQ.used (q : StreamQ) : Nat := q.queue.length + q.held

/-- One more operation has been issued to a stream: the open loop bodies await one less. -/
def countOpens (l : List Nat) : List Nat := (l.map (· - 1)).filter (· != 0)

/-- The entries of a loop's next iterations: loads repeat with no ECC finding (log entry 22). -/
def again (l : List QEntry) : List QEntry := l.map (fun e => { e with eccs := [], fin := 0 })

/-- Write back a stream whose front entry is gone: a loop's body leaves the queue when its last operation has run. -/
def StreamQ.settle (q : StreamQ) : StreamQ := if q.run.isEmpty then { q with held := 0 } else q

/-- Unroll one iteration of the loop at the front of a list: the iteration, what remains of the loop, and the rest. -/
def unroll (e : QEntry) (count n : Nat) (rest : List QEntry) : List QEntry :=
  let body := rest.take n
  if count = 0 then []
  else body ++ (if 1 < count then { e with op := .loop (count - 1) n } :: again body else [])

/-! ### What an operation needs (R403) -/

/-- How many vectors an operation pops from queue `n`. -/
def pops (n : Nat) (l : List VReg) : Nat := (l.filter (fun r => match r with | .q m => m % 4 == n | _ => false)).length

/-- The vector sources of an operation. -/
def COp.sources : COp → List VReg
  | .vbin _ _ _ a b _ => [a, b]
  | .vfma _ _ a b c _ => [a, b, c]
  | .vun _ _ _ a _ => [a]
  | .vcmp _ _ _ a b _ => [a, b]
  | .vsel _ _ a b => [a, b]
  | .vmov _ a _ => [a]
  | .vperm _ _ a i _ => [a, i]
  | .vred _ _ _ a _ => [a]
  | .vcvt _ _ _ a _ => [a]
  | .vcvtSr _ _ _ a _ _ _ => [a]
  | .vpwl _ a _ _ => [a]
  | .mOpa _ a b _ => [a, b]
  | .mWr _ v _ => [v]
  | .mAdd _ v _ => [v]
  | _ => []

/-- The vector destination of an operation. -/
def COp.dest : COp → Option VReg
  | .vbin _ _ d _ _ _ => some d
  | .vfma _ d _ _ _ _ => some d
  | .vun _ _ d _ _ => some d
  | .vsel d _ _ _ => some d
  | .vmov d _ _ => some d
  | .vbcast _ d _ _ => some d
  | .viota _ d _ => some d
  | .vperm _ d _ _ _ => some d
  | .vred _ _ d _ _ => some d
  | .vcvt _ _ d _ _ => some d
  | .vcvtSr _ _ d _ _ _ _ => some d
  | .vpwl d _ _ _ => some d
  | .mRd d _ _ => some d
  | _ => none

/-- The accumulator an operation names. -/
def COp.acc : COp → Option Nat
  | .mZero c => some c
  | .mOpa c _ _ _ => some c
  | .mRd _ c _ => some c
  | .mWr c _ _ => some c
  | .mAdd c _ _ => some c
  | .accLd c _ => some c
  | .accSt _ c => some c
  | _ => none

/-- Whether core `c` can perform an operation now, or stalls (R403). -/
def Core.ready (k : Core) (c : Nat) (op : COp) : Bool :=
  (List.range 4).all (fun n => pops n op.sources ≤ (k.queue n).length)
    && (op.dest != some .sq || k.sq.length < 8)
    && (match op with
      | .ldQ q _ _ => (k.queue q).length < 8
      | .ldSh q _ _ => (k.queue q).length + 2 ≤ 8
      | .sqSt _ _ => 1 ≤ k.sq.length
      | .sig t => k.token c t < 15
      | .wait t => 0 < k.token c t
      | _ => true)

/-- Whether an operation is legal in a mode as far as its queues and tokens go (R435, R443). -/
def COp.legal (m : RowMode) (op : COp) : Bool :=
  let qs := op.sources.any (fun r => match r with | .q _ => true | _ => false)
  match m with
  | .engine => !qs && (match op with | .ldQ _ _ _ => false | .ldSh _ _ _ => false | _ => true)
  | .decoupled => match op with | .sig _ => false | .wait _ => false | _ => true

/-- Whether the operands of an operation make it one of the Coruk form: no queue as a destination of a vector, no store
queue as a source, integer operations on integer formats (R433). -/
def COp.formed (op : COp) : Bool :=
  op.sources.all (· != .sq) && (match op.dest with | some (.q _) => false | _ => true)
    && (match op with
      | .vbin k f _ _ _ _ => !intOnly k || isInt f
      | .vun .not f _ _ _ => isInt f
      | _ => true)

/-! ### Granary accesses of a core -/

/-- The address of an access, and the core with its register advanced (R430). -/
def Core.step (k : Core) (c a : Nat) (inc : Int) : Nat × Core :=
  let x := k.addr c a
  (x, k.setAddr a (ofSigned 32 (x + inc)))

/-- A value the spec leaves open, cut to `w` bits. -/
def State.freeBits (s : State) (w : Nat) : Nat × State := (Config.freeVec s.draws % 2 ^ w, { s with draws := s.draws + 1 })

/-- What a load of `n` bytes gives core `c`: the bytes as a number; a free value where the access is inconsistent, not
aligned to 64 bytes or outside the Granary (R430, R444); nothing where the check fails, which ends the task with
DATA_ERROR (R409). -/
def State.coreLoad (s : State) (n a len : Nat) (ecc : EccResult) : Option Nat × State :=
  if a % 64 ≠ 0 ∨ !inGranary a len then
    let r := s.freeBits (8 * len)
    (some r.1, r.2)
  else
    let r := s.granaryRead .mill a len ecc (s.occOf n)
    match r.1 with
    | some b => (some (ofLe b), r.2)
    | none => (none, r.2.failTask n 9)

/-- A store of core `c` (R415). An address not aligned to 64 bytes is inconsistent, and what it stores is free (R444). -/
def State.coreStore (s : State) (n c : Nat) (e : QEntry) (a len v : Nat) : State :=
  let s1 := if s.inRegion n a len then s else s.noteWord n e.word e.pb
  let r := if a % 64 = 0 then (v, s1) else s1.freeBits (8 * len)
  let s2 := (r.2.taskWrite n c a (leBytes len r.1)).2
  if s.inRegion n a len then s2 else s2.traceFault n e.word e.pb e.rows Err.MILL_REGION_VIOLATION

/-- The landing entry in force at an index. -/
def State.landOf (s : State) (i : Nat) : LandEntry := landEntry s.active.sched i

/-- The cell of a sheaf of a landing entry (R338). -/
def cellAddr (l : LandEntry) (seq : Nat) : Nat := l.base + 528 * (seq % 2 ^ l.depth)

/-- Whether LD.SH of a sheaf is legal: it has been delivered to the task, and the cell holds its FLOW and SEQ (R431). -/
def State.shLegal (s : State) (n land seq : Nat) : Bool :=
  let l := s.landOf land
  let x := parseSheaf (s.granaryBytes (cellAddr l seq) 528)
  s.isDelivered n land seq && x.flow == l.flow && x.seq == seq

/-- Read a delivered sheaf from its cell and verify its tally (R386 to R388): a failure ends the task with DATA_ERROR.
Answers the sheaf if it may be used. -/
def State.loadSheaf (s : State) (n core land seq : Nat) (ecc : EccResult) : Option Sheaf × State :=
  let l := s.landOf land
  let r := s.granaryRead .mill (cellAddr l seq) 528 ecc (s.occOf n)
  let x := parseSheaf (s.granaryBytes (cellAddr l seq) 528)
  let q := (r.2.bump Ctr.TALLY_TALLIES_CHECKED 1).tallyInject 2 (some core)
  if r.1.isNone || q.1 || x.tally != sheafTally x then
    let s1 := (q.2.tallyNote 2 x.tag core x.kind x.flow q.1).bump Ctr.TALLY_VERIFY_FAILS 1
    (none, (s1.raise Err.TALLY_VERIFY_FAIL { s.occOf n with injected := q.1 }).failTask n 9)
  else (some x, q.2)

/-- A sheaf joins a task's send queue (R390, R432). -/
def State.queueSheaf (s : State) (n flow seq : Nat) (last : Bool) (payload : List Byte) : State :=
  let t := s.task n
  let x := tallied { Sheaf.empty with flow := flow % 2 ^ 20, kind := 1, seq := seq % 2 ^ 24, last := last, tag := s.taskTag n,
                                      payload := payload }
  s.setTask n { t with sendq := t.sendq ++ [(s.ticks, x)] }

/-- Room in a task's send queue for a flow: 32 sheaves (R432). -/
def State.sendRoom (s : State) (n flow : Nat) : Nat :=
  32 - ((s.task n).sendq.filter (fun q => q.2.flow == flow % 2 ^ 20)).length

/-! ### Performing an operation in a core -/

/-- The words of curve table `t` in bank `b` (R513). -/
def State.curveTable (s : State) (b t : Nat) : List Nat :=
  let m := if b = s.rd Reg.LOOM_STATUS_ACTIVE_BANK then s.active.pwl else s.shadow.pwl
  (List.range 80).map (fun k => mget m (80 * (t % 16) + k) 0)

/-- Record an error of the LOOM page (R516): 0 PWL_BAD, 1 CURVE_BUSY, 2 CHAIN_BAD. -/
def State.loomNote (s : State) (kind slot : Nat) : State :=
  ((s.wr Reg.LOOM_LAST_VALID 1).wr Reg.LOOM_LAST_KIND kind).wr Reg.LOOM_LAST_SLOT slot

/-- A curve table that is not valid (R511). -/
def State.pwlBad (s : State) (n : Nat) : State := (s.loomNote 0 n).raise Err.LOOM_PWL_BAD (s.occOf n)

/-- A result of arithmetic is written, and its residue checked (R389). -/
def State.arith (s : State) (n c : Nat) (k : Core) : State := (s.setCore c k).residue n c

/-- The list of a core's Sieve unit; without S.INIT the unit has none. -/
def Core.withList (k : Core) (f : SieveList → SieveList) : Core := { k with sieve := k.sieve.map f }

/-- The flags of S.INIT in force; without it they are free. -/
def Core.sFlags (k : Core) (c : Nat) : Nat := k.sieve.elim (Config.freeReg k.epoch (freeKey c 5 0)) (·.flags)

/-- A vector operation in core `c` (R433). -/
def State.vectorOp (s : State) (n c : Nat) (op : COp) : State :=
  let k := s.core c
  let fr := Config.freeVec (s.draws + c) % 2 ^ 2048
  match op with
  | .vbin b f d x y p =>
    let r := k.take c x
    let q := r.2.take c y
    let k' := q.2.result c fr d p (vecBin b f fr r.1 q.1)
    if intOnly b then s.setCore c k' else s.arith n c k'
  | .vfma f d x y z p =>
    let r := k.take c x
    let q := r.2.take c y
    let w := q.2.take c z
    s.arith n c (w.2.result c fr d p (vecFma f r.1 q.1 w.1))
  | .vun u f d x p =>
    let r := k.take c x
    s.arith n c (r.2.result c fr d p (vecUn u f r.1))
  | .vcmp cc f d x y p =>
    let r := k.take c x
    let q := r.2.take c y
    let new := vecCmp cc f fr r.1 q.1
    let m := (k.mask c p).getD (2 ^ 64 - 1)
    let old := q.2.pred c d
    s.setCore c (q.2.setPred d (packLanes 1 ((List.range 64).map (fun j => if bit m j then lane' 1 new j else lane' 1 old j))))
  | .vsel d p x y =>
    let r := k.take c x
    let q := r.2.take c y
    s.setCore c (q.2.give d (masked (some (k.pred c p)) q.1 r.1))
  | .vmov d x p =>
    let r := k.take c x
    s.setCore c (r.2.result c fr d p r.1)
  | .vbcast f d x p => s.setCore c (k.result c fr d p (vecBcast f x))
  | .viota f d p => s.setCore c (k.result c fr d p (vecIota f))
  | .vperm f d x i p =>
    let r := k.take c x
    let q := r.2.take c i
    s.setCore c (q.2.result c fr d p (vecPerm f r.1 q.1))
  | .vred u f d x p =>
    let r := k.take c x
    s.arith n c (r.2.result c fr d p (vecRed u f (r.2.old c fr d) r.1))
  | .vcvt a b d x p =>
    let r := k.take c x
    s.arith n c (r.2.result c fr d p (vecCvt a b fr r.1 (fun _ => none)))
  | .vcvtSr a b d x seed idx p =>
    let r := k.take c x
    s.arith n c (r.2.result c fr d p (vecCvt a b fr r.1 (fun i => some (srRandom ((idx + i) % 2 ^ 64) seed))))
  | .vpwl d x t p =>
    let r := k.take c x
    let tb := s.curveTable (s.task n).bank t
    let s1 := s.bump Ctr.LOOM_PWL_EVALS 64
    (if curveOk tb then s1 else s1.pwlBad n).arith n c (r.2.result c fr d p (vecPwl tb r.1))
  | _ => s

/-- A matrix operation in core `c` (R434). -/
def State.matrixOp (s : State) (n c : Nat) (op : COp) : State :=
  let k := s.core c
  match op with
  | .mZero a => s.setCore c ((List.range 256).foldl (fun (acc : Core) i => acc.setAcc (256 * (a % 4) + i) 0) k)
  | .mOpa a x y e =>
    let r := k.take c x
    let q := r.2.take c y
    s.arith n c (q.2.outer c (a % 4) r.1 q.1 e)
  | .mRd d a r => s.setCore c (k.give d (packLanes 32 ((accRows (a % 4) r).map (k.accAt c))))
  | .mWr a v r =>
    let q := k.take c v
    s.setCore c ((accRows (a % 4) r).zipIdx.foldl (fun (acc : Core) i => acc.setAcc i.1 (lane' 32 q.1 i.2)) q.2)
  | .mAdd a v r =>
    let q := k.take c v
    s.arith n c ((accRows (a % 4) r).zipIdx.foldl (fun (acc : Core) i =>
      acc.setAcc i.1 (FFmt.f32.add (acc.accAt c i.1) (lane' 32 q.1 i.2))) q.2)
  | _ => s

/-- A Sieve operation in core `c` (R489). -/
def State.sieveOp (s : State) (n c : Nat) (op : COp) : State :=
  let k := s.core c
  let f := k.sFlags c
  match op with
  | .sInit cap flags => s.setCore c { k with sieve := some { cap := cap, flags := flags, keys := [], nans := 0 } }
  | .sIns v i p =>
    let m := (k.mask c p).getD (2 ^ 64 - 1)
    let ps := ((pairsOf (k.vec c v) (k.vec c i)).zipIdx.filter (fun q => bit m q.2)).map (·.1)
    s.arith n c (k.withList (fun l => ps.foldl SieveList.insert l))
  | .sMrg v i num =>
    s.arith n c (k.withList (fun l => ((pairsOf (k.vec c v) (k.vec c i)).take num).foldl SieveList.insert l))
  | .sSort v i =>
    let d := dropNans f (pairsOf (k.vec c v) (k.vec c i))
    let o := vectorsOf (rankSort (sInt f) (sDir f) d.1)
    s.arith n c (((k.withList (fun l => { l with nans := l.nans + d.2 })).setVec v o.1).setVec i o.2)
  | .sMerge v i v2 i2 =>
    let d := dropNans f (pairsOf (k.vec c v) (k.vec c i) ++ pairsOf (k.vec c v2) (k.vec c i2))
    let o := vectorsOf (rankSort (sInt f) (sDir f) d.1)
    s.arith n c (((k.withList (fun l => { l with nans := l.nans + d.2 })).setVec v o.1).setVec i o.2)
  | .sExcl d v i x xi =>
    s.arith n c (k.setPred d (packLanes 1 ((pairsOf (k.vec c v) (k.vec c i)).map (fun q =>
      b2n (pairAbove (sInt f) (sDir f) (x, xi) q && !(sDrop f && keyNan (sInt f) q.1))))))
  | .sGet v i =>
    match k.sieve with
    | some l =>
      let o := vectorsOf (l.keys.take 16)
      s.arith n c ((k.setVec v o.1).setVec i o.2)
    | none => s.setCore c { k with v := mdel (mdel k.v (v % 32)) (i % 32) }
  | _ => s

/-- An access operation in core `c` of rank `rank`, but for SQ.SH (R430, R431). -/
def State.accessOp (s : State) (n c rank : Nat) (e : QEntry) : State :=
  let k := s.core c
  let ecc := e.eccs.getD rank .ok
  match e.op with
  | .aSet a v => s.setCore c (k.setAddr a v)
  | .aSetc a v st => s.setCore c (k.setAddr a (v + rank * st))
  | .aAdd a i => s.setCore c (k.setAddr a (ofSigned 32 (k.addr c a + i)))
  | .ldV d a i =>
    let t := k.step c a i
    let r := (s.setCore c t.2).coreLoad n t.1 256 ecc
    r.1.elim r.2 (fun v => r.2.setCore c (t.2.setVec d v))
  | .stV a i v =>
    let t := k.step c a i
    (s.setCore c t.2).coreStore n c e t.1 256 (k.vec c v)
  | .ldQ q a i =>
    let t := k.step c a i
    let r := (s.setCore c t.2).coreLoad n t.1 256 ecc
    r.1.elim r.2 (fun v => r.2.setCore c (t.2.push q v))
  | .sqSt a i =>
    let t := k.step c a i
    (s.setCore c { t.2 with sq := t.2.sq.tail }).coreStore n c e t.1 256 (k.sq.headD 0)
  | .ldSh q l sq =>
    let r := s.loadSheaf n c l sq ecc
    r.1.elim (r.2.noteWord n e.word e.pb) (fun x =>
      r.2.setCore c (((k.push q (ofLe (x.payload.take 256))).push q (ofLe (x.payload.drop 256)))))
  | .accLd a b =>
    let r := s.coreLoad n (k.addr c b) 1024 ecc
    r.1.elim r.2 (fun v => r.2.setCore c ((List.range 256).foldl (fun (acc : Core) i =>
      acc.setAcc (256 * (a % 4) + i) (lane' 32 v i)) k))
  | .accSt a b =>
    s.coreStore n c e (k.addr c a) 1024 (packLanes 32 ((List.range 256).map (fun i => k.accAt c (256 * (b % 4) + i))))
  | .sig t => s.setCore c (k.setToken t (k.token c t + 1))
  | .wait t => s.setCore c (k.setToken t (k.token c t - 1))
  | _ => s

/-- Perform an operation in core `c`. -/
def State.coreOp (s : State) (n c : Nat) (e : QEntry) : State :=
  ((s.accessOp n c (rankOf e.rows c) e).vectorOp n c e.op).matrixOp n c e.op |>.sieveOp n c e.op

/-! ### Running a row -/

/-- Perform an operation in every core of a row. An LD.SH whose checks fail is illegal (R443). -/
def State.rowOp (s : State) (n r : Nat) (e : QEntry) : State :=
  match e.op with
  | .ldSh _ l q =>
    if s.shLegal n l q then (coresOf r).foldl (fun (acc : State) c => acc.coreOp n c e) s
    else s.illegalOp n e.word e.pb e.rows
  | _ =>
    let s1 := (coresOf r).foldl (fun (acc : State) c => acc.coreOp n c e) s
    { s1 with draws := s1.draws + 128 }

/-- Whether a lower row of the same word still has sheaves to queue for this SQ.SH (R432). -/
def State.shWaits (s : State) (r : Nat) (e : QEntry) : Bool :=
  (rowsOf e.rows).any (fun q => decide (q < r) && ((s.stream q 0).queue ++ (s.stream q 0).run).any (fun x => x.id == e.id))

/-- SQ.SH in the cores of a row that have not performed it, in rank order, while the send queue has room and their store
queues hold 512 bytes (R432). Answers how many cores have performed it. -/
def State.sendCores (s : State) (n r : Nat) (e : QEntry) (flow seq : Nat) (last : Bool) : Nat → Nat → Nat × State
  | 0, d => (d, s)
  | f + 1, d =>
    let c := 16 * r + d
    let k := s.core c
    if 16 ≤ d ∨ k.sq.length < 2 ∨ s.sendRoom n flow = 0 then (d, s)
    else
      let payload := leBytes 256 (k.sq.getD 0 0) ++ leBytes 256 (k.sq.getD 1 0)
      let s1 := (s.setCore c { k with sq := k.sq.drop 2 }).residue n c
      (s1.queueSheaf n flow (seq + rankOf e.rows c) last payload).sendCores n r e flow seq last f (d + 1)

/-- Run the entry at the front of a stream, given what stands behind it and how to put the stream back. Answers whether
anything happened. -/
def State.runEntry (s : State) (n r : Nat) (e : QEntry) (rest : List QEntry)
    (put : List QEntry → List QEntry → Nat → StreamQ) : Option (State × StreamQ) :=
  match e.op with
  | .loop count k =>
    if rest.length < k then none else some (s, put (unroll e count k rest) (rest.drop k) (k + 1))
  | .sqSh flow seq last =>
    if s.shWaits r e then none
    else
      let q := s.sendCores n r e flow seq last 16 e.fin
      if q.1 = e.fin then none
      else if q.1 = 16 then some (q.2, put [] rest 0)
      else some (q.2, put [] ({ e with fin := q.1 } :: rest) 0)
  | _ =>
    if (coresOf r).all (fun c => (s.core c).ready c e.op) then some (s.rowOp n r e, put [] rest 0) else none

/-- Run one entry of a stream, if it can run. -/
def State.runStream (s : State) (n r k : Nat) : Option State :=
  let q := s.stream r k
  let out := match q.run, q.queue with
    | e :: rest, _ => s.runEntry n r e rest (fun new left _ => { q with run := new ++ left })
    | [], e :: rest => s.runEntry n r e rest (fun new left h => { q with run := new, queue := left, held := h })
    | [], [] => none
  out.map (fun p => p.1.setStream r k p.2.settle)

/-- One turn over the streams of a program's rows: whether anything ran. -/
def State.runTurn (s : State) (n rows : Nat) : Bool × State :=
  ((rowsOf rows).flatMap (fun r => (List.range 4).map (fun k => (r, k)))).foldl (fun (acc : Bool × State) q =>
    match acc.2.runStream n q.1 q.2 with
    | some s' => (true, s')
    | none => acc) (false, s)

/-- Run turns until none does anything; `fuel` is more turns than any step can take. -/
def State.runFor : Nat → Nat → Nat → State → State
  | 0, _, _, s => s
  | f + 1, n, rows, s =>
    let r := s.runTurn n rows
    if r.1 then State.runFor f n rows r.2 else r.2

/-- Run a program's streams as far as they go. -/
def State.runStreams (s : State) (n : Nat) : State :=
  match s.prog n with
  | none => s
  | some p => if p.running && !s.millerStopped then State.runFor (2 ^ 80) n p.rows s else s

/-! ### Issue (R397, R403, R425, R443) -/

/-- Whether a loop of `n` operations may open in a stream: at most two deep, the inner body inside the outer (R427). -/
def loopFits (q : StreamQ) (n : Nat) : Bool :=
  1 ≤ n && n ≤ 16 && (match q.opens with
    | [] => true
    | [o] => n + 1 ≤ o
    | _ => false)

/-- Push an operation into a row's stream. -/
def State.pushOp (s : State) (k : Nat) (e : QEntry) (r : Nat) : State :=
  let q := s.stream r k
  let opens := match e.op with
    | .loop _ n => countOpens q.opens ++ [n]
    | _ => countOpens q.opens
  s.setStream r k { q with queue := q.queue ++ [e], opens := opens }

/-- After a core operation: the word is done if this was its last. -/
def State.closeWord (s : State) (o : OpAt) : State := if o.last then s.nextWord o 0 else s

/-- Issue a core operation to the stream `k` of the rows of its mask: illegal operations are performed as none, and a
full queue in any row stalls the Miller, so that nothing happens yet. -/
def State.issueCore (s : State) (o : OpAt) (k : Option Nat) (op : COp) (eccs : List EccResult) : State :=
  match s.issuing o with
  | none => s
  | some p =>
    let rs := rowsOf o.rows
    let bad := o.rows % 256 &&& p.rows != o.rows % 256 || !op.legal p.mode || !op.formed || k.isNone
      || (match op with
        | .loop _ n => rs.any (fun r => !loopFits (s.stream r (k.getD 0)) n)
        | _ => false)
    let held := op.acc.isSome && rs.any (s.heldByOther o.slot)
    if !bad && !held && rs.any (fun r => 16 ≤ (s.stream r (k.getD 0)).used) then s
    else
      let b := s.beginWord o p
      if !b.1 then b.2
      else if bad then (b.2.illegalOp o.slot o.word o.pb o.rows).closeWord o
      else if held then (b.2.heldConflict o.slot o.word o.pb o.rows).closeWord o
      else
        let e : QEntry := { op := op, id := p.issued, word := o.word, pb := o.pb, rows := o.rows % 256, eccs := eccs, fin := 0 }
        let s1 := rs.foldl (fun (acc : State) r => acc.pushOp (k.getD 0) e r)
          (b.2.withProg o.slot (fun q => { q with issued := q.issued + 1 }))
        (s1.runStreams o.slot).closeWord o

/-- Issue to an engine of the step's mode: 0 access, 1 vector, 2 matrix, 3 Sieve. -/
def State.issueTo (s : State) (o : OpAt) (engine : Nat) (eccs : List EccResult) (op : Prog → COp) : State :=
  match s.prog o.slot with
  | none => s
  | some p => s.issueCore o (some (streamOf p.mode engine)) (op p) eccs

/-! ### Loops and tokens (R427, R435) -/

/-- LOOP.E: the count is the low 32 bits of xc at issue. -/
def execLoopE (o : OpAt) (st : Stream) (xc n : Nat) (s : State) : Out :=
  ok (match s.prog o.slot with
    | none => s
    | some p => s.issueCore o (loopStream p.mode st) (.loop (p.xr xc % 2 ^ 32) n) [])

/-- SIG, in the stream named. -/
def execSig (o : OpAt) (st : Stream) (t : Nat) (s : State) : Out :=
  ok (match s.prog o.slot with
    | none => s
    | some p => s.issueCore o (loopStream p.mode st) (.sig t) [])

/-- WAIT, in the stream named. -/
def execWait (o : OpAt) (st : Stream) (t : Nat) (s : State) : Out :=
  ok (match s.prog o.slot with
    | none => s
    | some p => s.issueCore o (loopStream p.mode st) (.wait t) [])

/-! ### Access (R430 to R432) -/

def execASet (o : OpAt) (an xs : Nat) (s : State) : Out := ok (s.issueTo o 0 [] (fun p => .aSet an (p.xr xs)))

def execASetc (o : OpAt) (an xs stride : Nat) (s : State) : Out := ok (s.issueTo o 0 [] (fun p => .aSetc an (p.xr xs) stride))

def execAAdd (o : OpAt) (an : Nat) (imm : Int) (s : State) : Out := ok (s.issueTo o 0 [] (fun _ => .aAdd an imm))

def execLdV (o : OpAt) (vd an : Nat) (k : Int) (eccs : List EccResult) (s : State) : Out :=
  ok (s.issueTo o 0 eccs (fun _ => .ldV vd an k))

def execStV (o : OpAt) (an : Nat) (k : Int) (vs : Nat) (s : State) : Out := ok (s.issueTo o 0 [] (fun _ => .stV an k vs))

def execLdQ (o : OpAt) (qn an : Nat) (k : Int) (eccs : List EccResult) (s : State) : Out :=
  ok (s.issueTo o 0 eccs (fun _ => .ldQ qn an k))

def execSqSt (o : OpAt) (an : Nat) (k : Int) (s : State) : Out := ok (s.issueTo o 0 [] (fun _ => .sqSt an k))

def execSqSh (o : OpAt) (xflow xseq : Nat) (lastSheaf : Bool) (s : State) : Out :=
  ok (s.issueTo o 0 [] (fun p => .sqSh (p.xr xflow % 2 ^ 20) (p.xr xseq % 2 ^ 24) lastSheaf))

def execLdSh (o : OpAt) (qn xland xseq : Nat) (eccs : List EccResult) (s : State) : Out :=
  ok (s.issueTo o 0 eccs (fun p => .ldSh qn (p.xr xland % 1024) (p.xr xseq % 2 ^ 24)))

def execAccLd (o : OpAt) (cn an : Nat) (eccs : List EccResult) (s : State) : Out :=
  ok (s.issueTo o 0 eccs (fun _ => .accLd cn an))

def execAccSt (o : OpAt) (an cn : Nat) (s : State) : Out := ok (s.issueTo o 0 [] (fun _ => .accSt an cn))

/-! ### Vector (R433) -/

def execVAdd (o : OpAt) (f : VFmt) (d a b : VReg) (p : Option Nat) (s : State) : Out :=
  ok (s.issueTo o 1 [] (fun _ => .vbin .add f d a b p))

def execVSub (o : OpAt) (f : VFmt) (d a b : VReg) (p : Option Nat) (s : State) : Out :=
  ok (s.issueTo o 1 [] (fun _ => .vbin .sub f d a b p))

def execVMul (o : OpAt) (f : VFmt) (d a b : VReg) (p : Option Nat) (s : State) : Out :=
  ok (s.issueTo o 1 [] (fun _ => .vbin .mul f d a b p))

def execVFma (o : OpAt) (f : VFmt) (d a b c : VReg) (p : Option Nat) (s : State) : Out :=
  ok (s.issueTo o 1 [] (fun _ => .vfma f d a b c p))

def execVMax (o : OpAt) (f : VFmt) (d a b : VReg) (p : Option Nat) (s : State) : Out :=
  ok (s.issueTo o 1 [] (fun _ => .vbin .max f d a b p))

def execVMin (o : OpAt) (f : VFmt) (d a b : VReg) (p : Option Nat) (s : State) : Out :=
  ok (s.issueTo o 1 [] (fun _ => .vbin .min f d a b p))

def execVAbs (o : OpAt) (f : VFmt) (d a : VReg) (p : Option Nat) (s : State) : Out :=
  ok (s.issueTo o 1 [] (fun _ => .vun .abs f d a p))

def execVNeg (o : OpAt) (f : VFmt) (d a : VReg) (p : Option Nat) (s : State) : Out :=
  ok (s.issueTo o 1 [] (fun _ => .vun .neg f d a p))

def execVAnd (o : OpAt) (f : VFmt) (d a b : VReg) (p : Option Nat) (s : State) : Out :=
  ok (s.issueTo o 1 [] (fun _ => .vbin .and f d a b p))

def execVOr (o : OpAt) (f : VFmt) (d a b : VReg) (p : Option Nat) (s : State) : Out :=
  ok (s.issueTo o 1 [] (fun _ => .vbin .or f d a b p))

def execVXor (o : OpAt) (f : VFmt) (d a b : VReg) (p : Option Nat) (s : State) : Out :=
  ok (s.issueTo o 1 [] (fun _ => .vbin .xor f d a b p))

def execVNot (o : OpAt) (f : VFmt) (d a : VReg) (p : Option Nat) (s : State) : Out :=
  ok (s.issueTo o 1 [] (fun _ => .vun .not f d a p))

def execVShl (o : OpAt) (f : VFmt) (d a b : VReg) (p : Option Nat) (s : State) : Out :=
  ok (s.issueTo o 1 [] (fun _ => .vbin .shl f d a b p))

def execVShr (o : OpAt) (f : VFmt) (d a b : VReg) (p : Option Nat) (s : State) : Out :=
  ok (s.issueTo o 1 [] (fun _ => .vbin .shr f d a b p))

def execVSra (o : OpAt) (f : VFmt) (d a b : VReg) (p : Option Nat) (s : State) : Out :=
  ok (s.issueTo o 1 [] (fun _ => .vbin .sra f d a b p))

def execVCmp (o : OpAt) (cc : VCmp) (f : VFmt) (pd : Nat) (a b : VReg) (p : Option Nat) (s : State) : Out :=
  ok (s.issueTo o 1 [] (fun _ => .vcmp cc f pd a b p))

def execVSel (o : OpAt) (d : VReg) (p : Nat) (a b : VReg) (s : State) : Out :=
  ok (s.issueTo o 1 [] (fun _ => .vsel d p a b))

def execVMov (o : OpAt) (d a : VReg) (p : Option Nat) (s : State) : Out :=
  ok (s.issueTo o 1 [] (fun _ => .vmov d a p))

def execVBcast (o : OpAt) (f : VFmt) (d : VReg) (xs : Nat) (p : Option Nat) (s : State) : Out :=
  ok (s.issueTo o 1 [] (fun q => .vbcast f d (q.xr xs) p))

def execVIota (o : OpAt) (f : VFmt) (d : VReg) (p : Option Nat) (s : State) : Out :=
  ok (s.issueTo o 1 [] (fun _ => .viota f d p))

def execVPerm (o : OpAt) (f : VFmt) (d a i : VReg) (p : Option Nat) (s : State) : Out :=
  ok (s.issueTo o 1 [] (fun _ => .vperm f d a i p))

def execVRed (o : OpAt) (op : VRed) (f : VFmt) (d a : VReg) (p : Option Nat) (s : State) : Out :=
  ok (s.issueTo o 1 [] (fun _ => .vred op f d a p))

def execVCvt (o : OpAt) (src dst : VFmt) (d a : VReg) (p : Option Nat) (s : State) : Out :=
  ok (s.issueTo o 1 [] (fun _ => .vcvt src dst d a p))

def execVCvtSr (o : OpAt) (src dst : VFmt) (d a : VReg) (xseed xidx : Nat) (p : Option Nat) (s : State) : Out :=
  ok (s.issueTo o 1 [] (fun q => .vcvtSr src dst d a (q.xr xseed) (q.xr xidx) p))

def execVPwl (o : OpAt) (d a : VReg) (table : Nat) (p : Option Nat) (s : State) : Out :=
  ok (s.issueTo o 1 [] (fun _ => .vpwl d a table p))

/-! ### Matrix (R434) -/

def execMZero (o : OpAt) (cn : Nat) (s : State) : Out := ok (s.issueTo o 2 [] (fun _ => .mZero cn))

def execMOpa (o : OpAt) (cn : Nat) (a b : VReg) (k : Nat) (s : State) : Out :=
  ok (s.issueTo o 2 [] (fun _ => .mOpa cn a b k))

def execMRd (o : OpAt) (d : VReg) (cn r : Nat) (s : State) : Out := ok (s.issueTo o 2 [] (fun _ => .mRd d cn r))

def execMWr (o : OpAt) (cn : Nat) (v : VReg) (r : Nat) (s : State) : Out := ok (s.issueTo o 2 [] (fun _ => .mWr cn v r))

def execMAdd (o : OpAt) (cn : Nat) (v : VReg) (r : Nat) (s : State) : Out := ok (s.issueTo o 2 [] (fun _ => .mAdd cn v r))

/-! ### Sieve (R489) -/

def execSInit (o : OpAt) (xk xflags : Nat) (s : State) : Out :=
  ok (s.issueTo o 3 [] (fun p => .sInit (p.xr xk) (p.xr xflags)))

def execSIns (o : OpAt) (vk vi : Nat) (p : Option Nat) (s : State) : Out :=
  ok (s.issueTo o 3 [] (fun _ => .sIns vk vi p))

def execSBitSort (o : OpAt) (vk vi : Nat) (s : State) : Out := ok (s.issueTo o 3 [] (fun _ => .sSort vk vi))

def execSBitMerge (o : OpAt) (vk vi vk2 vi2 : Nat) (s : State) : Out :=
  ok (s.issueTo o 3 [] (fun _ => .sMerge vk vi vk2 vi2))

def execSExcl (o : OpAt) (pd vk vi xv xi : Nat) (s : State) : Out :=
  ok (s.issueTo o 3 [] (fun p => .sExcl pd vk vi (p.xr xv % 2 ^ 32) (p.xr xi % 2 ^ 32)))

def execSMrg (o : OpAt) (vk vi xn : Nat) (s : State) : Out := ok (s.issueTo o 3 [] (fun p => .sMrg vk vi (p.xr xn)))

def execSGet (o : OpAt) (vk vi : Nat) (s : State) : Out := ok (s.issueTo o 3 [] (fun _ => .sGet vk vi))

/-- An operation that carries a value from the cores to the Miller: it waits until the stream it reads has run dry in
every row of its mask (R426). `f` answers the value; none is an illegal operation. -/
def State.toMiller (s : State) (o : OpAt) (engine xd : Nat) (f : Prog → State → Option Nat) : State :=
  match s.issuing o with
  | none => s
  | some p =>
    if o.rows % 256 &&& p.rows != o.rows % 256 then
      let b := s.beginWord o p
      if b.1 then (b.2.illegalOp o.slot o.word o.pb o.rows).nextWord o 0 else b.2
    else if (rowsOf p.rows).any (fun r =>
        let q := s.stream r (streamOf p.mode engine)
        !q.queue.isEmpty || !q.run.isEmpty) then s
    else
      let b := s.beginWord o p
      if !b.1 then b.2
      else match f p b.2 with
        | none => (b.2.illegalOp o.slot o.word o.pb o.rows).nextWord o 0
        | some v => ({ b.2 with draws := b.2.draws + 1 }.setX o.slot xd v).nextWord o v

/-- S.CNT: the NaNs that the word's cores have dropped since S.INIT; a free value where they differ or none was
initialised (log entry 27). -/
def execSCnt (o : OpAt) (xd : Nat) (s : State) : Out :=
  ok (s.toMiller o 3 xd (fun _ a =>
    let l := ((rowsOf o.rows).flatMap coresOf).map (fun c => (a.core c).sieve.map (·.nans))
    match l.eraseDups with
    | [some v] => some v
    | _ => some (Config.freeVec a.draws % 2 ^ 64)))

/-- MV.XV: a 32-bit lane of a core's vector, zero-extended; a core outside the step's rows is illegal (R426, R443). -/
def execMvXv (o : OpAt) (xd vs lane core : Nat) (s : State) : Out :=
  ok (s.toMiller o 1 xd (fun p a =>
    if core < 128 ∧ bit p.rows (core / 16) then some (lane' 32 ((a.core core).vec core vs) (lane % 64)) else none))

end Sys2Proof.Machine
end

