-- ==== Sys2Proof/Machine/Loom.lean ====
section
/-! DEFINITION. Sys2Proof/Machine/Loom.lean: the Loom's arithmetic and the placement of its state in the accumulators
(spec/19 R496 to R499, R508, R509, R511). -/

namespace Sys2Proof.Machine

/-! ### Triples (R496, R497) -/

/-- A summary of one element and its row's cut bit. -/
structure Triple where
  a : Nat
  b : Nat
  c : Bool
  deriving DecidableEq, Repr

/-- 1.0 in FP32. -/
def f32One : Nat := 0x3F800000

/-- The identity (1.0, +0, 0). -/
def Triple.one : Triple := { a := f32One, b := 0, c := false }

/-- The combination of a later triple with an earlier one (R496). -/
def Triple.after (x y : Triple) : Triple :=
  if x.c then { a := x.a, b := x.b, c := true }
  else { a := FFmt.f32.mul x.a y.a, b := FFmt.f32.fma x.a y.b x.b, c := y.c }

/-- The triple of one step: a reset step is (+0, b, 1) (R497). -/
def stepTriple (a b : Nat) (reset : Bool) : Triple :=
  if reset then { a := 0, b := b, c := true } else { a := a, b := b, c := false }

/-- One step of the state pass (R498): a reset row takes b by selection. -/
def stateStep (a b h : Nat) (reset : Bool) : Nat := if reset then b else FFmt.f32.fma a h b

/-! ### Placement (R499) -/

/-- The cores of a row mask, ascending. -/
def coresIn (mask : Nat) : List Nat := (rowsOf mask).flatMap coresOf

/-- E of R499 for N elements on the rows of a mask. -/
def perCore (mask n : Nat) : Nat :=
  let c := 16 * popCount 8 mask
  if c = 0 then 64 else 64 * ((n + 64 * c - 1) / (64 * c))

/-- The core that holds element `e`, and its local index there. -/
def placeOf (mask n e : Nat) : Nat × Nat := ((coresIn mask).getD (e / perCore mask n) 0, e % perCore mask n)

/-- Read and write element `e` of a range that begins at accumulator index `base` (R499). -/
def State.loomGet (s : State) (mask n base e : Nat) : Nat :=
  let p := placeOf mask n e
  (s.core p.1).accAt p.1 (base + p.2)

def State.loomPut (s : State) (mask n base e v : Nat) : State :=
  let p := placeOf mask n e
  s.setCore p.1 ((s.core p.1).setAcc (base + p.2) v)

/-- Write elements 0 up from a list. -/
def State.loomFill (s : State) (mask n base : Nat) (l : List Nat) : State :=
  l.zipIdx.foldl (fun (acc : State) q => acc.loomPut mask n base q.2 q.1) s

/-- Read all N elements. -/
def State.loomAll (s : State) (mask n base : Nat) : List Nat := (List.range n).map (s.loomGet mask n base)

/-! ### Step records (R497, R500) -/

/-- Bytes rounded up to a multiple of 64. -/
def pad64 (n : Nat) : Nat := (n + 63) / 64 * 64

/-- Bytes of a reset mask: a bit a row, in 64-bit words, padded to 64 bytes (R497). -/
def maskBytes (rows : Nat) : Nat := pad64 (8 * ((rows + 63) / 64))

/-- Bytes of a step record (R500). -/
def recordBytes (rows width tin : Nat) (reset : Bool) : Nat :=
  2 * pad64 (rows * width * typeBytes tin) + (if reset then maskBytes rows else 0)

/-- Elements of `w` bytes from bytes. -/
def elemsOf (w n : Nat) (b : List Byte) : List Nat := (List.range n).map (fun i => ofLe ((b.drop (w * i)).take w))

/-- The pairs and the reset mask of a step record, widened to FP32 (R496). -/
def parseRecord (rows width tin : Nat) (reset : Bool) (b : List Byte) : List (Nat × Nat) × Nat :=
  let n := rows * width
  let w := typeBytes tin
  let at' := pad64 (n * w)
  let wide (l : List Nat) : List Nat := l.map (widen (typeFmt tin))
  (List.zip (wide (elemsOf w n b)) (wide (elemsOf w n (b.drop at'))),
    if reset then ofLe ((b.drop (2 * at')).take (maskBytes rows)) else 0)

/-- The bytes of one state: N elements in the output type, padded to 64 bytes (R498, R503). -/
def stateBytes (tout : Nat) (l : List Nat) : List Byte :=
  let b := l.flatMap (fun v => leBytes (typeBytes tout) (convert .f32 (typeFmt tout) v))
  padTo (pad64 b.length) b

/-- The summary pass over one record: B at `0`, A at `512`; the cut bits by row (R498, R499). -/
def State.summaryRecord (s : State) (mask rows width : Nat) (cuts : Map Nat) (rec' : List (Nat × Nat) × Nat) :
    Map Nat × State :=
  let n := rows * width
  let s1 := rec'.1.zipIdx.foldl (fun (acc : State) q =>
    let row := q.2 / width
    let old : Triple := { a := acc.loomGet mask n 512 q.2, b := acc.loomGet mask n 0 q.2, c := mget cuts row 0 == 1 }
    let new := (stepTriple q.1.1 q.1.2 (bit rec'.2 row)).after old
    (acc.loomPut mask n 512 q.2 new.a).loomPut mask n 0 q.2 new.b) s
  ((List.range rows).foldl (fun (acc : Map Nat) r => if bit rec'.2 r then mset acc r 1 0 else acc) cuts, s1)

/-- The state pass over one record, the state at `0` (R498). -/
def State.stateRecord (s : State) (mask rows width : Nat) (rec' : List (Nat × Nat) × Nat) : State :=
  let n := rows * width
  rec'.1.zipIdx.foldl (fun (acc : State) q =>
    acc.loomPut mask n 0 q.2 (stateStep q.1.1 q.1.2 (acc.loomGet mask n 0 q.2) (bit rec'.2 (q.2 / width)))) s

/-- Resets that a record applies, counted once a row (R516). -/
def resetsIn (rows mask : Nat) : Nat := popCount rows mask

/-! ### PIPE (R508, R509) -/

/-- One layer of a PIPE block: W, BIAS and the four curve tables (R508). -/
structure PipeLayer where
  w    : Nat
  bias : Nat
  f    : Nat
  c    : Nat
  o    : Nat
  y    : Nat
  deriving DecidableEq, Repr

/-- A PIPE block (R508). -/
structure PipeBlock where
  g      : Nat
  blk    : Nat
  inp    : Nat
  x      : Nat
  buf    : Nat
  layers : List PipeLayer
  deriving DecidableEq, Repr

/-- A PIPE block from its bytes. -/
def parsePipe (b : List Byte) : PipeBlock :=
  let num (o n : Nat) : Nat := ofLe ((b.drop o).take n)
  { g := num 0 1, blk := num 1 1, inp := num 2 2, x := num 8 8, buf := num 16 4,
    layers := (List.range 8).map (fun i =>
      let o := 64 + 32 * i
      { w := num o 4, bias := num (o + 4) 4, f := num (o + 8) 1, c := num (o + 9) 1, o := num (o + 10) 1, y := num (o + 11) 1 }) }

/-- Whether a PIPE block keeps its rules, for a task of these ROWS, WIDTH, ROW_MASK and region (R508). -/
def PipeBlock.good (b : PipeBlock) (rows width mask base size : Nat) : Bool :=
  1 ≤ b.g && b.g ≤ 8 && b.g == popCount 8 mask && 1 ≤ b.blk && b.blk ≤ 16 && b.inp % 16 == 0 && 16 ≤ b.inp && b.inp ≤ 256
    && width % 16 == 0 && 16 ≤ width && width ≤ 256 && rows * width ≤ 8192
    && base ≤ b.buf && b.buf + (2 * b.blk + 1) * b.g * rows * width * 2 ≤ base + size
    && (b.layers.take b.g).all (fun l => l.f ≤ 15 && l.c ≤ 15 && l.o ≤ 15 && l.y ≤ 15)

/-- A dot product on top of a bias: terms in ascending column order, each product exact and each addition rounded
(R509, R434). -/
def dotFrom (bias : Nat) (w x : List Nat) : Nat :=
  (List.zip w x).foldl (fun acc q =>
    FFmt.f32.encode (((FFmt.bf16.decode q.1).mul (FFmt.bf16.decode q.2)).add (FFmt.f32.decode acc))) bias

/-- One element of a layer's step: the new state and the output, in FP32 (R509). -/
def pipeCell (tf tc to' ty : List Nat) (uf uc uo s : Nat) : Nat × Nat :=
  let f := curve tf uf
  let c := curve tc uc
  let o := curve to' uo
  let st := FFmt.f32.fma f (FFmt.f32.sub s c) c
  (st, FFmt.f32.mul o (curve ty st))

/-- One batch row of a layer's step: `wide` the IN_g + WIDTH inputs in BF16, `ss` the WIDTH states (R509). -/
def pipeRow (tf tc to' ty : List Nat) (w : List (List Nat)) (bias : List Nat) (width : Nat) (wide ss : List Nat) :
    List (Nat × Nat) :=
  let u := (List.zip bias w).map (fun q => dotFrom q.1 q.2 wide)
  (List.range width).map (fun i =>
    pipeCell tf tc to' ty (u.getD i 0) (u.getD (width + i) 0) (u.getD (2 * width + i) 0) (ss.getD i 0))

/-- A value in BF16, as the recurrence and the next layer take it (R509). -/
def toBf16 (v : Nat) : Nat := convert .f32 .bf16 v

end Sys2Proof.Machine
end

