-- ==== Sys2Proof/Machine/Layers.lean ====
section
/-! DEFINITION. Sys2Proof/Machine/Layers.lean: descriptor mode: the configuration words and the layers COPY, REDUCE, SIEVE,
SCAN and PIPE (spec/16 R437, R444; spec/17 R463; spec/18 R481, R482, R490; spec/19 R498, R509). -/

namespace Sys2Proof.Machine

/-! ### Access for layers and routines -/

/-- A write that a layer or a routine makes for a task (R415): which core makes it is not given (log entry 15). -/
def State.layerWrite (s : State) (n a : Nat) (d : List Byte) : Bool × State :=
  let c := Config.freeCore s.draws % 128
  ({ s with draws := s.draws + 1 }).taskWrite n c a d

/-- A Granary read for a task; a failed check ends the task with DATA_ERROR (R409). -/
def State.layerRead (s : State) (n a len : Nat) (ecc : EccResult) : Option (List Byte) × State :=
  let r := s.granaryRead .mill a len ecc (s.occOf n)
  match r.1 with
  | some b => (some b, r.2)
  | none => (none, r.2.failTask n 9)

/-! ### Configuration (R437) -/

/-- A configuration word of a row; one not written in the step is free (R401). -/
def State.cfgWord (s : State) (r k : Nat) : Nat :=
  mget (s.rowUnit r).cfg k (Config.freeReg (s.core (16 * r)).epoch (freeKey (16 * r) 6 k) % 2 ^ 64)

/-- The configuration of a row. -/
def State.cfgOf (s : State) (r : Nat) : List Nat := (List.range 16).map (s.cfgWord r)

/-- CFG.L: the value of xs at issue into cfgn of the rows in the mask. -/
def execCfgL (o : OpAt) (n xs : Nat) (s : State) : Out :=
  ok (s.control o (fun p a =>
    if o.rows % 256 &&& p.rows != o.rows % 256 then (0, a.illegalOp o.slot o.word o.pb o.rows)
    else (0, (rowsOf o.rows).foldl (fun (acc : State) r =>
      let u := acc.rowUnit r
      acc.setRow r { u with cfg := mput u.cfg (n % 16) (p.xr xs) }) a)))

/-- GO: a layer starts once for each configuration that the rows of the mask hold, in ascending row order (log entry 22).
It runs whole, and what it does is `f` of its configuration. -/
def State.goLayer (s : State) (o : OpAt) (f : State → Nat → List Nat → State) : State :=
  s.control o (fun p a =>
    if o.rows % 256 &&& p.rows != o.rows % 256 then (0, a.illegalOp o.slot o.word o.pb o.rows)
    else
      let cs := ((rowsOf o.rows).map (fun r => (r, a.cfgOf r))).foldl (fun (acc : List (Nat × List Nat)) q =>
        if acc.any (fun x => x.2 == q.2) then acc else acc ++ [q]) []
      (0, cs.foldl (fun (acc : State) q => f acc q.1 q.2) a))

/-! ### COPY (R437) -/

/-- Copy line by line, ascending; the last line may be partial. A read or write that fails ends the copy. -/
def State.copyLines (s : State) (n src dst len : Nat) (eccs : List EccResult) : State :=
  ((List.range ((len + 63) / 64)).foldl (fun (acc : Bool × State) i =>
    if !acc.1 then acc
    else
      let r := acc.2.layerRead n (src + 64 * i) (min 64 (len - 64 * i)) (eccs.getD i .ok)
      match r.1 with
      | some b => r.2.layerWrite n (dst + 64 * i) b
      | none => (false, r.2)) (true, s)).2

/-- A COPY layer: cfg2 bytes from cfg0 to cfg1, both 64-byte aligned (R437). -/
def State.copyLayer (s : State) (n : Nat) (cfg : List Nat) (eccs : List EccResult) : State :=
  let src := cfg.getD 0 0
  let dst := cfg.getD 1 0
  let len := cfg.getD 2 0
  if src % 64 = 0 ∧ dst % 64 = 0 ∧ inGranary src len then s.copyLines n src dst len eccs else s.undefineRegion n

/-- GO COPY: `eccs` is what reading each line finds. -/
def execGoCopy (o : OpAt) (eccs : List EccResult) (s : State) : Out :=
  ok (s.goLayer o (fun a _ cfg => a.copyLayer o.slot cfg eccs))

/-! ### REDUCE (R463) -/

/-- The elements of one input of a REDUCE layer: an array in the Granary, or the payload of a delivered sheaf (R463).
`none`: the configuration is inconsistent; `some none`: a check failed. -/
def State.reduceInput (s : State) (n core e : Nat) (t : VFmt) (len : Nat) (ecc : EccResult) :
    Option (Option (List Nat)) × State :=
  let w := fmtWidth t / 8
  let wide (b : List Byte) : List Nat := (elemsOf w len b).map (widen t)
  if bit e 63 then
    let l := e % 1024
    let q := bits e 10 24
    if !s.shLegal n l q || 512 < len * w then (none, s)
    else
      let r := s.loadSheaf n core l q ecc
      (some (r.1.map (fun x => wide x.payload)), r.2)
  else if e % 64 ≠ 0 ∨ !inGranary e (len * w) then (none, s)
  else
    let r := s.layerRead n e (len * w) ecc
    (some (r.1.map wide), r.2)

/-- Fold the inputs of a REDUCE layer in list order, element by element (R461, R463). `none`: inconsistent. -/
def State.reduceInputs (s : State) (n core redop : Nat) (t : VFmt) (len : Nat) :
    List (Nat × EccResult) → Option (List Nat) → Option (Option (List Nat)) × State
  | [], acc => (some acc, s)
  | (e, ecc) :: rest, acc =>
    let r := s.reduceInput n core e t len ecc
    match r.1 with
    | none => (none, r.2)
    | some none => (some none, r.2)
    | some (some l) =>
      r.2.reduceInputs n core redop t len rest
        (some (match acc with
          | none => l
          | some a => List.zipWith (combine t redop) a l))

/-- An element of a result in its output type: converted where that is not the accumulation type (R462, R463). -/
def outElem (tin tout : VFmt) (sr : Bool) (seed k v : Nat) : Nat :=
  if tout = accFmt tin then v else convert (accFmt tin) tout v (if sr then some (srRandom k seed) else none)

/-- A REDUCE layer (R463). -/
def State.reduceLayer (s : State) (n row : Nat) (cfg : List Nat) (eccs : List EccResult) : State :=
  let c := cfg.getD 2 0
  let num := c % 16
  let redop := bits c 8 4
  let ti := bits c 12 4
  let to' := bits c 16 4
  let len := cfg.getD 3 0
  let dst := cfg.getD 0 0
  let core := 16 * row
  if num = 0 ∨ 8 < num ∨ 7 < redop ∨ 6 < ti ∨ 6 < to' ∨ dst % 64 ≠ 0 ∨ !inGranary (cfg.getD 1 0) (8 * num) then
    s.undefineRegion n
  else
    let l := s.layerRead n (cfg.getD 1 0) (8 * num) (eccs.headD .ok)
    match l.1 with
    | none => l.2
    | some b =>
      let r := l.2.reduceInputs n core redop (typeFmt ti) len
        ((elemsOf 8 num b).zipIdx.map (fun q => (q.1, eccs.getD (q.2 + 1) .ok))) none
      match r.1 with
      | none => r.2.undefineRegion n
      | some none => r.2
      | some (some v) =>
        let w := fmtWidth (typeFmt to') / 8
        (r.2.layerWrite n dst (v.zipIdx.flatMap (fun q =>
          leBytes w (outElem (typeFmt ti) (typeFmt to') (bit c 20) (cfg.getD 4 0) (cfg.getD 5 0 + q.2) q.1)))).2

/-- GO REDUCE: `eccs` is what reading the input list and each input finds. -/
def execGoReduce (o : OpAt) (eccs : List EccResult) (s : State) : Out :=
  ok (s.goLayer o (fun a r cfg => a.reduceLayer o.slot r cfg eccs))

/-! ### SIEVE (R481, R482, R490) -/

/-- Insert a key with its global index into a list in ranking order (R474). -/
def keyInsert (int smallest : Bool) (x : Nat × Nat) : List (Nat × Nat) → List (Nat × Nat)
  | [] => [x]
  | y :: t => if ranksAbove int smallest y x then y :: keyInsert int smallest x t else x :: y :: t

/-- The partial list of a piece: its keys in ranking order, at most K, and the NaNs dropped (R475, R481). -/
def partialList (int smallest drop : Bool) (k : Nat) (l : List (Nat × Nat)) : List (Nat × Nat) × Nat :=
  let f := if drop then l.filter (fun x => !keyNan int x.1) else l
  ((f.foldl (fun acc x => keyInsert int smallest x acc) []).take k, l.length - f.length)

/-- The keys of a piece: each element's key value with its global index (R473). -/
def pieceKeys (t : VFmt) (first : Nat) (l : List Nat) : List (Nat × Nat) :=
  l.zipIdx.map (fun q => (widen t q.1, first + q.2))

/-- Passes that a list of `k` keys takes by the BITONIC method (R482). -/
def passesFor (k : Nat) : Nat := max 1 ((k + 63) / 64)

/-- One LIST or BOUND entry (R485); `flags` is its byte 11. -/
def listEntry (row flags : Nat) (x : Nat × Nat) : List Byte :=
  leBytes 4 x.1 ++ leBytes 5 x.2 ++ leBytes 2 row ++ leBytes 1 flags ++ leBytes 4 0

/-- Byte 11 of a LIST entry: [0] NAN. -/
def nanFlag (int : Bool) (v : Nat) : Nat := b2n (keyNan int v)

/-- A SIEVE layer (R490). -/
def State.sieveLayer (s : State) (n : Nat) (cfg : List Nat) (ecc : EccResult) : State :=
  let c := cfg.getD 2 0
  let k := c % 4096 + 1
  let ti := bits c 12 4
  let meth := bits c 18 2
  let m := cfg.getD 1 0
  let t := typeFmt ti
  let w := fmtWidth t / 8
  let src := cfg.getD 0 0
  let dst := cfg.getD 5 0
  if m = 0 ∨ 4096 < m ∨ 6 < ti ∨ meth = 0 ∨ meth = 3 ∨ (meth = 1 ∧ 16 < k) ∨ dst % 64 ≠ 0 ∨ !inGranary src (m * w) then
    s.undefineRegion n
  else
    let r := s.layerRead n src (m * w) ecc
    match r.1 with
    | none => r.2
    | some b =>
      let int := isInt t
      let l := partialList int (bit c 16) (bit c 17) k (pieceKeys t (cfg.getD 3 0 % 2 ^ 40) (elemsOf w m b))
      let s1 := (r.2.bump Ctr.SIEVE_ELEMENTS_SCANNED m).bump Ctr.SIEVE_NAN_COUNT l.2
      let s2 := if meth = 2 then s1.bump Ctr.SIEVE_PASSES (passesFor l.1.length) else s1
      (s2.layerWrite n dst (l.1.flatMap (fun x => listEntry (cfg.getD 4 0 % 65536) (nanFlag int x.1) x) ++ leBytes 16 0)).2

/-- GO SIEVE: `eccs` is what reading the piece finds. -/
def execGoSieve (o : OpAt) (eccs : List EccResult) (s : State) : Out :=
  ok (s.goLayer o (fun a _ cfg => a.sieveLayer o.slot cfg (eccs.headD .ok)))

/-! ### SCAN (R498) -/

/-- A SCAN layer: a summary pass or a state pass over step records in the Granary, the state in the accumulators of the
row (R498, R499). The layout of its configuration is not given (log entry 28). -/
def State.scanLayer (s : State) (n row : Nat) (cfg : List Nat) (eccs : List EccResult) : State :=
  let c := Config.scanCfg cfg
  let len := recordBytes c.rows c.width c.tin c.reset
  let out := pad64 (c.rows * c.width * typeBytes c.tout)
  let mask := 2 ^ row
  if !inGranary c.src (c.steps * len) || 2 < c.tin || 2 < c.tout then s.undefineRegion n
  else
    (List.range c.steps).foldl (fun (acc : State) i =>
      let r := acc.layerRead n (c.src + i * len) len (eccs.getD i .ok)
      match r.1 with
      | none => r.2
      | some b =>
        let rec' := parseRecord c.rows c.width c.tin c.reset b
        if c.summary then (r.2.summaryRecord mask c.rows c.width [] rec').2
        else
          let s1 := r.2.stateRecord mask c.rows c.width rec'
          (s1.layerWrite n (c.dst + i * out) (stateBytes c.tout (s1.loomAll mask (c.rows * c.width) 0))).2) s

/-- GO SCAN: `eccs` is what reading each step record finds. -/
def execGoScan (o : OpAt) (eccs : List EccResult) (s : State) : Out :=
  ok (s.goLayer o (fun a r cfg =>
    if a.heldByOther o.slot r then a.heldConflict o.slot o.word o.pb o.rows else a.scanLayer o.slot r cfg eccs))

/-! ### PIPE (R508 to R510) -/

/-- Where BUF keeps the outputs of layer `g` at step `i` of a block, in the half that `half` names, and the last y of a
layer (log entry 29). -/
def PipeBlock.outAt (b : PipeBlock) (n half g i : Nat) : Nat := b.buf + 2 * n * ((half * b.g + g) * b.blk + i)
def PipeBlock.yAt (b : PipeBlock) (n g : Nat) : Nat := b.buf + 2 * n * (2 * b.blk * b.g + g)

/-- W, BIAS and the curves of a layer, read from the Granary: W as rows of IN_g + WIDTH columns. -/
def State.pipeWeights (s : State) (n cols width : Nat) (l : PipeLayer) (ecc : EccResult) :
    Option (List (List Nat) × List Nat) × State :=
  let r := s.layerRead n l.w (2 * 3 * width * cols) ecc
  match r.1 with
  | none => (none, r.2)
  | some b =>
    let q := r.2.layerRead n l.bias (4 * 3 * width) .ok
    match q.1 with
    | none => (none, q.2)
    | some c =>
      (some ((List.range (3 * width)).map (fun i => elemsOf 2 cols (b.drop (2 * cols * i))), elemsOf 4 (3 * width) c), q.2)

/-- One time step of a layer over every batch row (R509): `x` its inputs in BF16 by row, `ys` the last outputs in BF16,
`m` the reset mask. Answers the outputs in FP32. The state s stands at accumulator index 0 of the layer's row. -/
def State.pipeStep (s : State) (n row rows width : Nat) (l : PipeLayer) (w : List (List Nat)) (bias : List Nat) (inp : Nat)
    (x ys : List Nat) (m : Nat) : List Nat × State :=
  let bank := (s.task n).bank
  let tf := s.curveTable bank l.f
  let tc := s.curveTable bank l.c
  let to' := s.curveTable bank l.o
  let ty := s.curveTable bank l.y
  let mask := 2 ^ row
  let nn := rows * width
  let s0 := if [tf, tc, to', ty].all curveOk then s else s.pwlBad n
  (List.range rows).foldl (fun (acc : List Nat × State) r =>
    let reset := bit m r
    let y := if reset then List.replicate width 0 else (ys.drop (r * width)).take width
    let ss := (List.range width).map (fun i => if reset then 0 else acc.2.loomGet mask nn 0 (r * width + i))
    let out := pipeRow tf tc to' ty w bias width ((x.drop (r * inp)).take inp ++ y) ss
    (acc.1 ++ out.map (·.2),
      out.zipIdx.foldl (fun (a : State) q => a.loomPut mask nn 0 (r * width + q.2) q.1.1) acc.2))
    ([], s0.bump Ctr.LOOM_PWL_EVALS (4 * nn))

/-- Steps `first` to `first + count − 1` of layer `g`, in block `first / BLK` (R509, R510): layer 0 takes its inputs
from `xs`, one (BF16 row-major, mask) a step, and every layer its reset mask; a later layer from the half of BUF that the layer before it wrote. The
outputs go into BUF for the next layer. Answers the outputs of each step in FP32; none where a read or write failed. -/
def State.pipeRun (s : State) (n row : Nat) (b : PipeBlock) (g rows width first count : Nat) (xs : List (List Nat × Nat))
    (ecc : EccResult) : Option (List (List Nat)) × State :=
  let nn := rows * width
  let inp := if g = 0 then b.inp else width
  let l := b.layers.getD g { w := 0, bias := 0, f := 0, c := 0, o := 0, y := 0 }
  let half := (first / b.blk + g) % 2
  let wr := s.pipeWeights n (inp + width) width l ecc
  match wr.1 with
  | none => (none, wr.2)
  | some (w, bias) =>
    let y0 := if first = 0 then (some (List.replicate (2 * nn) (0 : Byte)), wr.2)
      else wr.2.layerRead n (b.yAt nn g) (2 * nn) .ok
    match y0.1 with
    | none => (none, y0.2)
    | some yb =>
      let r := (List.range count).foldl (fun (acc : Option (List (List Nat) × List Nat) × State) i =>
        match acc.1 with
        | none => acc
        | some (outs, ys) =>
          let xm := xs.getD i ([], 0)
          let q : Option (List Nat) × State :=
            if g = 0 then (some xm.1, acc.2)
            else
              let r := acc.2.layerRead n (b.outAt nn (1 - half) (g - 1) i) (2 * nn) .ok
              (r.1.map (elemsOf 2 nn), r.2)
          match q.1 with
          | none => (none, q.2)
          | some x =>
            let o := q.2.pipeStep n row rows width l w bias inp x ys xm.2
            let ybf := o.1.map toBf16
            let wq := o.2.layerWrite n (b.outAt nn half g i) (ybf.flatMap (leBytes 2))
            if wq.1 then (some (outs ++ [o.1], ybf), wq.2) else (none, wq.2))
        (some ([], elemsOf 2 nn yb), y0.2)
      match r.1 with
      | none => (none, r.2)
      | some (outs, ys) =>
        let wq := r.2.layerWrite n (b.yAt nn g) (ys.flatMap (leBytes 2))
        if wq.1 then (some outs, wq.2) else (none, wq.2)

/-- The x records of a PIPE block, from their bytes: inputs in BF16 and masks (R508). -/
def pipeX (rows inp tin : Nat) (reset : Bool) (count : Nat) (d : List Byte) : List (List Nat × Nat) :=
  let xb := pad64 (rows * inp * typeBytes tin)
  let len := xb + (if reset then maskBytes rows else 0)
  (List.range count).map (fun i =>
    let rec' := d.drop (i * len)
    ((elemsOf (typeBytes tin) (rows * inp) rec').map (convert (typeFmt tin) .bf16),
      if reset then ofLe ((rec'.drop xb).take (maskBytes rows)) else 0))

/-- Bytes of one x record. -/
def pipeXBytes (rows inp tin : Nat) (reset : Bool) : Nat :=
  pad64 (rows * inp * typeBytes tin) + (if reset then maskBytes rows else 0)

/-- A PIPE layer that a program starts (R437, R509). The layout of its configuration is not given (log entry 28). -/
def State.pipeLayer (s : State) (n row : Nat) (cfg : List Nat) (eccs : List EccResult) : State :=
  let c := Config.pipeCfg cfg
  let d := (s.task n).desc
  let r := s.layerRead n c.block 320 (eccs.headD .ok)
  match r.1 with
  | none => r.2
  | some bb =>
    let b := parsePipe bb
    let len := pipeXBytes c.rows b.inp c.tin c.reset
    if !b.good c.rows c.width (2 ^ b.g - 1) (descRegion d) (descRegionSize d) || b.g ≤ c.layer || b.blk < c.steps
        || 2 < c.tin || 2 < c.tout || ((c.layer == 0 || c.reset) && !inGranary (b.x + c.first * len) (c.steps * len)) then
      r.2.undefineRegion n
    else
      let x := if c.layer = 0 ∨ c.reset then r.2.layerRead n (b.x + c.first * len) (c.steps * len) (eccs.getD 1 .ok) else (some [], r.2)
      match x.1 with
      | none => x.2
      | some xb =>
        let o := x.2.pipeRun n row b c.layer c.rows c.width c.first c.steps (pipeX c.rows b.inp c.tin c.reset c.steps xb)
          (eccs.getD 2 .ok)
        match o.1 with
        | none => o.2
        | some outs =>
          if c.layer + 1 = b.g then (o.2.layerWrite n c.dst (outs.flatMap (stateBytes c.tout))).2 else o.2

/-- GO PIPE: `eccs` is what reading the PIPE block, the x records and the weights finds. -/
def execGoPipe (o : OpAt) (eccs : List EccResult) (s : State) : Out :=
  ok (s.goLayer o (fun a r cfg =>
    if a.heldByOther o.slot r then a.heldConflict o.slot o.word o.pb o.rows else a.pipeLayer o.slot r cfg eccs))

end Sys2Proof.Machine
end

