-- ==== Sys2Proof/Machine/Routines.lean ====
section
/-! DEFINITION. Sys2Proof/Machine/Routines.lean: what the Pattern Book routines share (spec/13 R361, R382, R383; spec/17
R454, R459, R460, R466 to R469, R472): the routine record, streams of sheaves between members, the census, access to LOCAL
ranges, and the turn of a routine step. How much work a step's budget holds is an operand (log entry 30). -/

namespace Sys2Proof.Machine

/-! ### The routine and its record (R466) -/

/-- The routine of a slot. -/
def State.routine (s : State) (n : Nat) : Routine := mget s.routines n Routine.blank

/-- The state with a slot's routine replaced. -/
def State.setRoutine (s : State) (n : Nat) (r : Routine) : State := { s with routines := mput s.routines n r }

/-- Change a slot's routine. -/
def State.withRoutine (s : State) (n : Nat) (f : Routine → Routine) : State := s.setRoutine n (f (s.routine n))

/-- A field of the routine record: its offset and its bytes (R466). -/
structure RecFld where
  off : Nat
  len : Nat
  deriving DecidableEq, Repr

def RecFld.step : RecFld := { off := 0, len := 4 }
def RecFld.phase : RecFld := { off := 4, len := 1 }
def RecFld.child : RecFld := { off := 5, len := 1 }
def RecFld.excluded : RecFld := { off := 6, len := 1 }
def RecFld.block : RecFld := { off := 8, len := 4 }
def RecFld.sent : RecFld := { off := 12, len := 4 }
def RecFld.included : RecFld := { off := 16, len := 4 }
def RecFld.instance' : RecFld := { off := 20, len := 2 }
def RecFld.peer : RecFld := { off := 22, len := 2 }
def RecFld.waitStart : RecFld := { off := 24, len := 4 }

/-- The record of slot `n` in the Miller's data memory. -/
def recAddr (n : Nat) : Nat := 0x1F000 + 64 * n

def State.recd (s : State) (n : Nat) (f : RecFld) : Nat := ofLe (readBytes s.miller.dmem 0 (recAddr n + f.off) f.len)

def State.setRec (s : State) (n : Nat) (f : RecFld) (v : Nat) : State :=
  { s with miller := { s.miller with dmem := writeBytes s.miller.dmem 0 (recAddr n + f.off) (leBytes f.len v) } }

/-- A fresh record: own input next, INCLUDED 1 (R466). -/
def State.newRecord (s : State) (n phase : Nat) : State :=
  let s1 := { s with miller := { s.miller with dmem := writeBytes s.miller.dmem 0 (recAddr n) (List.replicate 64 0) } }
  ((((s1.setRec n .phase phase).setRec n .child 6).setRec n .included 1).setRec n .instance' (s.task n).inst).setRoutine n
    Routine.blank

/-! ### LOCAL ranges (R360, R381 to R383) -/

/-- Bytes of a LOCAL range: from the Granary with what its check finds, or from host memory, once a read of them that is
asked for has come in. `none`: not there yet; `some none`: a check failed or the window refused, and the task ends. -/
def State.localBytes (s : State) (n a len : Nat) (ecc : EccResult) : Option (Option (List Byte)) × State :=
  if !localWindow a then
    if inGranary a len then
      let r := s.layerRead n a len ecc
      (some r.1, r.2)
    else (some none, s.failTask n 9)
  else
    let h := ((s.window (bits a 32 8)).base + a % 2 ^ 32) % 2 ^ 64
    let t := s.task n
    match inbufBytes t.inbuf h len with
    | some b =>
      let s1 := s.setTask n { t with inbuf := t.inbuf.filter (fun q => q.1 < h || h + len ≤ q.1) }
      (some (some b), s1.withRoutine n (fun r => { r with wants := r.wants.erase (h, len) }))
    | none =>
      if (s.routine n).wants.contains (h, len) then (none, s)
      else
        let r := s.hostRead n (a % 2 ^ 40) len (s.occOf n)
        if r.1 then (none, r.2.withRoutine n (fun q => { q with wants := q.wants ++ [(h, len)] }))
        else (some none, r.2.finish n 10 (bits a 32 8))

/-- Bytes `off` to `off + len − 1` of a source of `total` bytes at `src`, its host tallies checked piece by piece, 512
bytes each, where the descriptor names them (R382, R383, R388). -/
def State.sourcePart (s : State) (n src total off len : Nat) (ecc : EccResult) : Option (Option (List Byte)) × State :=
  if !descFlag (s.task n).desc 3 then s.localBytes n (src + off) len ecc
  else
    let first := off / 512
    let last := (off + len - 1) / 512
    let from' := 512 * first
    let upto := min total (512 * (last + 1))
    let k := last + 1 - first
    let arr := (src + total + 3) / 4 * 4 + 4 * first
    let w := s.localBytes n arr (4 * k) .ok
    let b := w.2.localBytes n (src + from') (upto - from') ecc
    match w.1, b.1 with
    | some (some ts), some (some d) =>
      let r := (List.range k).foldl (fun (acc : Bool × State) i =>
        if !acc.1 then acc
        else acc.2.hostTally n ((d.drop (512 * i)).take 512) (ofLe ((ts.drop (4 * i)).take 4))) (true, b.2)
      if r.1 then (some (some ((d.drop (off - from')).take len)), r.2) else (some none, r.2.failTask n 9)
    | some none, _ => (some none, w.2)
    | _, some none => (some none, b.2)
    | _, _ => (none, b.2)

/-- Write bytes at an offset from a LOCAL address; a refusal ends the task with DATA_SUSPECT or WINDOW_FAULT (R456). -/
def State.localWrite (s : State) (n a off : Nat) (d : List Byte) : State :=
  if d.isEmpty then s
  else if !localWindow a then (s.layerWrite n (a + off) d).2
  else
    let r := s.hostWrite n ((a + off) % 2 ^ 40) d (s.occOf n)
    if r.1 then r.2 else r.2.finish n 10 (bits a 32 8)

/-! ### Streams (R459, R460) -/

/-- The sequence of the next sheaf of a TASK landing entry that has been delivered to the task and not taken. -/
def State.nextSeq (s : State) (n land : Nat) : Option Nat :=
  (s.sched.delivered.find? (fun d => d.land == land && d.tag == s.taskTag n)).map (·.seq)

/-- How many sheaves of a landing entry wait for the task. -/
def State.sheavesIn (s : State) (n land : Nat) : Nat :=
  (s.sched.delivered.filter (fun d => d.land == land && d.tag == s.taskTag n)).length

/-- The core that a routine step verifies a sheaf in: which core takes it is not given (log entry 15). -/
def State.anyCore (s : State) : Nat := Config.freeCore s.draws % 128

/-- Take the next sheaf of a landing entry, its tally verified (R388). A sheaf whose FLOW or SEQ is not the entry's ends
the task with DATA_ERROR, as a failed tally does. -/
def State.takeSheaf (s : State) (n land : Nat) (ecc : EccResult) : Option Sheaf × State :=
  match s.nextSeq n land with
  | none => (none, s)
  | some q =>
    let legal := s.shLegal n land q
    let r := s.loadSheaf n s.anyCore land q ecc
    let s1 : State := { r.2 with draws := r.2.draws + 1, sched := { r.2.sched with
      delivered := r.2.sched.delivered.filter (fun d => !(d.land == land && d.seq == q && d.tag == s.taskTag n)) } }
    match r.1 with
    | none => (none, s1)
    | some x => if legal then (some x, s1) else (none, s1.failTask n 9)

/-- A sheaf that a routine makes waits for room in its send queue, behind those before it. -/
def State.emit (s : State) (n flow : Nat) (last : Bool) (payload : List Byte) : State :=
  s.withRoutine n (fun r => { r with out := r.out ++ [{ flow := flow, last := last, payload := padTo 512 payload }] })

/-- Queue what waits, in order, while there is room; sequences of a flow are consecutive (R305, R459). -/
def State.flushOut (n : Nat) : Nat → State → State
  | 0, s => s
  | f + 1, s =>
    match (s.routine n).out with
    | [] => s
    | x :: rest =>
      if s.sendRoom n x.flow = 0 then s
      else
        let q := mget s.groups.flowSeq x.flow 0
        let s1 := (s.withRoutine n (fun r => { r with out := rest })).queueSheaf n x.flow q x.last x.payload
        let s2 := { s1 with groups := { s1.groups with flowSeq := mset s1.groups.flowSeq x.flow ((q + 1) % 2 ^ 24) 0 } }
        State.flushOut n f (s2.setRec n .sent (s2.recd n .sent + 1))

/-- The payload of a census sheaf (R460). -/
def censusBytes (included inst op elements : Nat) : List Byte :=
  leBytes 4 included ++ leBytes 2 inst ++ leBytes 1 op ++ leBytes 1 0 ++ leBytes 4 elements

def cenIncluded (x : Sheaf) : Nat := payNum x 0 4
def cenInstance (x : Sheaf) : Nat := payNum x 4 2
def cenOp (x : Sheaf) : Nat := payNum x 6 1
def cenElements (x : Sheaf) : Nat := payNum x 8 4

/-- Whether a census is that of the task's instance and operation, with the elements its receiver expects (R460). -/
def State.censusOk (s : State) (n op elements : Nat) (x : Sheaf) : Bool :=
  x.last && cenInstance x == (s.task n).inst && cenOp x == op && cenElements x == elements

/-- A stream that is not as the receiver expects: the task completes with DATA_ERROR (R460). -/
def State.streamBad (s : State) (n : Nat) : State := s.failTask n 9

/-- Send the same payload on every child's down flow. -/
def State.emitDown (s : State) (n : Nat) (last : Bool) (payload : List Byte) : State :=
  let g := s.captured n
  (List.range (min 6 (grpChildren g))).foldl (fun (acc : State) i => acc.emit n (grpDownFlow g i) last payload) s

/-! ### Elements -/

/-- Bytes of elements of `w` bytes each. -/
def packElems (w : Nat) (l : List Nat) : List Byte := l.flatMap (leBytes w)

/-- Whether every sheaf that a task sent has been acknowledged on its first hop (R458). -/
def State.allAcked (s : State) (n : Nat) : Bool :=
  (s.routine n).out.isEmpty && (s.task n).sendq.isEmpty && !s.sheavesOut n

/-- End a group task: RESULT holds `low` in [31:0] and the instance in [47:32] (R472, R494, R505). -/
def State.endGroup (s : State) (n status detail low : Nat) : State :=
  let t := s.task n
  (s.setTask n { t with result := low % 2 ^ 32 + 2 ^ 32 * t.inst }).finish n status detail

/-! ### The turn of a step -/

/-- Do pieces of work while the budget holds and something can be done; sheaves made first join their send queues. -/
def State.workLoop (work : State → EccResult → Option State) (n : Nat) : Nat → List EccResult → State → State
  | 0, _, s => State.flushOut n 64 s
  | f + 1, eccs, s =>
    let s1 := State.flushOut n 64 s
    if (s1.task n).st ≠ 2 ∨ !(s1.routine n).out.isEmpty then s1
    else match work s1 (eccs.headD .ok) with
      | none => s1
      | some s2 => State.workLoop work n f eccs.tail s2

/-- Whether slot `n` may take a routine step now: one a window, for a task of this opcode (R413, R466). -/
def State.routineDue (s : State) (n op : Nat) : Bool := s.runsRoutine n && descOp (s.task n).desc == op && (s.task n).sentAt != s.ticks

/-- One routine step: its work, its record and its step point (R466). -/
def State.routineStep (s : State) (n blocks : Nat) (eccs : List EccResult) (work : State → EccResult → Option State) : State :=
  let s1 := ((s.setTask n { s.task n with sentAt := s.ticks }).bump Ctr.MILLER_STEPS_RUN 1).trace 2 n false true 0 0 0
  let s2 := State.workLoop work n blocks eccs s1
  if (s2.task n).st = 4 then s2
  else
    let k := s2.recd n .step + 1
    let s3 := (s2.setRec n .step k).setTask n { s2.task n with progress := k }
    ((s3.trace 3 n false true 0 0 (Config.freeCycle s3.draws)).stepPoint n).2

/-! ### PROGRAM in RUN mode (R361, R383, R420) -/

/-- OP_PROGRAM_RUN: the image is read, checked and placed; `img` is what its bytes hold, `ecc` what reading them finds. An
image of another Pattern Book version ends the task with BAD_DESCRIPTOR (R420). -/
def execOpProgramRun (slot : Nat) (img : Image) (ecc : EccResult) (s : State) : Out :=
  if !s.runsProgram slot || (s.prog slot).isSome || (mfind s.mill.images slot).isSome then ok s
  else
    let d := (s.task slot).desc
    let len := descNum d 40 4
    let r := s.sourcePart slot (descNum d 32 8) len 0 len ecc
    match r.1 with
    | none => ok r.2
    | some none => ok (r.2.stepPoint slot).2
    | some (some _) =>
      if img.pbMajor ≠ s.rd Reg.TOP_PB_VERSION_MAJOR then ok (r.2.finish slot 12 4)
      else
        let s1 := r.2.loadImage slot img
        if (s1.prog slot).isSome then ok s1
        else ok { s1 with mill := { s1.mill with images := mput s1.mill.images slot img } }

/-! ### Abort notices (R469) -/

/-- ABORT_NOTICE_RECEIVE (R469): an ABORT sheaf for this node from a neighbour. -/
def execAbortNoticeReceive (src : Nat) (sheaf : Sheaf) (s : State) : Out :=
  if sheaf.kind = 7 then ok (s.abortArrive src sheaf) else ok s

/-- ABORT_NOTICE_EXPIRED (R469): a notice kept for 65,536 bells expires with a Ledger record. -/
def execAbortNoticeExpired (group inst : Nat) (s : State) : Out :=
  match s.groups.pending.find? (fun p => p.group == group && p.inst == inst && p.at' + 65536 ≤ s.ticks) with
  | none => ok s
  | some p => ok ({ s with groups := { s.groups with pending := s.groups.pending.erase p } }.noticeRecord 2 p)

end Sys2Proof.Machine
end

