-- ==== Sys2Proof/Machine/Collect.lean ====
section
/-! DEFINITION. Sys2Proof/Machine/Collect.lean: COLLECTIVE, one routine step a command (spec/17 R455 to R467, R472). -/

namespace Sys2Proof.Machine

/-! ### The descriptor (R455) -/

def colOp (d : List Byte) : Nat := descNum d 32 1
def colRedop (d : List Byte) : Nat := descNum d 33 1
def colIn (d : List Byte) : VFmt := typeFmt (typeIn (descNum d 34 1))
def colOut (d : List Byte) : VFmt := typeFmt (typeOut (descNum d 34 1))
def colSr (d : List Byte) : Bool := bit (descNum d 35 1) 0
def colPartial (d : List Byte) : Bool := bit (descNum d 35 1) 1
def colCount (d : List Byte) : Nat := descNum d 36 4
def colSrc (d : List Byte) : Nat := descNum d 40 8
def colDst (d : List Byte) : Nat := descNum d 48 8
def colSeed (d : List Byte) : Nat := descNum d 56 4
def colWait (d : List Byte) : Nat := 2 ^ (descNum d 60 1 % 32)

/-- Bytes of an input and of an output element. -/
def inBytes (d : List Byte) : Nat := fmtWidth (colIn d) / 8
def outBytes (d : List Byte) : Nat := fmtWidth (colOut d) / 8

/-- Elements of the output type in one sheaf (R459). -/
def perSheaf (d : List Byte) : Nat := 512 / outBytes d

/-- Elements that are folded: COUNT, or COUNT × SIZE for REDUCE_SCATTER, none for BARRIER (R457). -/
def foldTotal (d g : List Byte) : Nat := if colOp d = 2 then colCount d * grpSize g else colCount d

/-- Whether an operation has a down phase (R457). -/
def hasDown (op : Nat) : Bool := op != 5 && op != 6

/-! ### The next child (R464, R465) -/

/-- Leave out child `i` for the rest of the instance (R465). -/
def State.exclude (s : State) (n i : Nat) : State :=
  let s1 := (s.setRec n .excluded (setBit (s.recd n .excluded) i)).setRec n .child (i + 1)
  s1.withRoutine n (fun r => { r with waitAt := none })

/-- Whether an exclusion is due: PARTIAL, the fold has stood at child `i` for 2^PARTIAL_WAIT bells, and no sheaf of its
stream has come (R465). -/
def State.exclusionDue (s : State) (n i : Nat) : Bool :=
  let d := (s.task n).desc
  let r := s.routine n
  colPartial d && s.recd n .child == i && mget r.got i 0 == 0 && (s.nextSeq n (grpUpLand (s.captured n) i)).isNone
    && r.waitAt.elim false (fun w => decide (w + colWait d ≤ s.ticks))

/-- The fold waits for child `i`: the wait begins when the fold first stands there, and ends in an exclusion (R465).
Nothing else can be done. -/
def State.waitChild (s : State) (n i : Nat) : Option State :=
  let d := (s.task n).desc
  let r := s.routine n
  if !colPartial d || mget r.got i 0 != 0 then none
  else if s.exclusionDue n i then some (s.exclude n i)
  else if r.waitAt.isSome then none
  else some ((s.setRec n .waitStart s.bellNum).withRoutine n (fun q => { q with waitAt := some s.ticks }))

/-- Take the next sheaf of child `i`. -/
def State.takeChild (s : State) (n i : Nat) (ecc : EccResult) : Option Sheaf × State :=
  let r := s.takeSheaf n (grpUpLand (s.captured n) i) ecc
  (r.1, r.2.withRoutine n (fun q => { q with got := mset q.got i (mget q.got i 0 + 1) 0, waitAt := none }))

/-- A child's census is added to INCLUDED and the fold goes on to the next child (R460). -/
def State.childCensus (s : State) (n i op elements : Nat) (x : Sheaf) : State :=
  if s.censusOk n op elements x then
    (s.setRec n .included (s.recd n .included + cenIncluded x)).setRec n .child (i + 1)
  else s.streamBad n

/-! ### The root's result (R461, R462) -/

/-- Result elements from accumulation-type values, from index `k` on: AVG is multiplied once by 1 / INCLUDED, and every
element is converted once. -/
def rootElems (d : List Byte) (included k : Nat) (l : List Nat) : List Nat :=
  l.zipIdx.map (fun q =>
    let v := if colRedop d = 4 then FFmt.f32.mul q.1 (FFmt.f32.recip included) else q.1
    outElem (colIn d) (colOut d) (colSr d) (colSeed d) (k + q.2) v)

/-- Write the part of result elements `k` on that this member keeps at DST (R457). -/
def State.keepElems (s : State) (n k : Nat) (l : List Nat) : State :=
  let d := (s.task n).desc
  let g := s.captured n
  let w := outBytes d
  if colOp d = 2 then
    let lo := grpRank g * colCount d
    let keep := (l.zipIdx.filter (fun q => decide (lo ≤ k + q.2 ∧ k + q.2 < lo + colCount d))).map (·.1)
    s.localWrite n (colDst d) ((max k lo - lo) * w) (packElems w keep)
  else s.localWrite n (colDst d) (k * w) (packElems w l)

/-- Send elements down: whole sheaves go out, the rest waits in the buffer; `flush` sends what is left. -/
def State.sendElems (n : Nat) (flush : Bool) : Nat → State → State
  | 0, s => s
  | f + 1, s =>
    let d := (s.task n).desc
    let b := (s.routine n).buf
    let e := perSheaf d
    if e ≤ b.length ∨ (flush ∧ !b.isEmpty) then
      State.sendElems n flush f
        ((s.emitDown n false (packElems (outBytes d) (b.take e))).withRoutine n (fun r => { r with buf := b.drop e }))
    else s

/-- The root has result elements `k` on (R457). -/
def State.rootEmit (s : State) (n k : Nat) (l : List Nat) : State :=
  let s1 := s.keepElems n k l
  if hasDown (colOp (s.task n).desc) then
    State.sendElems n false (l.length + 1) (s1.withRoutine n (fun r => { r with buf := r.buf ++ l }))
  else s1

/-- The root's down stream ends with its census (R460). -/
def State.rootCensus (s : State) (n elements : Nat) : State :=
  let d := (s.task n).desc
  let s1 := State.sendElems n true 2 s
  (if hasDown (colOp d) then
    s1.emitDown n true (censusBytes (s.recd n .included) (s.task n).inst (colOp d) elements)
  else s1).setRec n .phase 3

/-! ### Up, for the reducing operations and BARRIER (R457, R464) -/

/-- A folded block is done: the root turns it into results, another member sends it up. AVG waits at the root for the
final INCLUDED (R461). -/
def State.blockDone (s : State) (n b : Nat) : State :=
  let d := (s.task n).desc
  let g := s.captured n
  let a := (s.routine n).acc
  let s1 := ((s.setRec n .block (b + 1)).setRec n .child 6).withRoutine n (fun r => { r with acc := [] })
  if !grpRoot g then s1.emit n (grpUpFlow g) false (packElems 4 a)
  else if colRedop d = 4 then s1.withRoutine n (fun r => { r with sumsUp := r.sumsUp ++ a })
  else s1.rootEmit n (128 * b) (rootElems d 1 (128 * b) a)

/-- One piece of work of the up phase. -/
def State.upWork (s : State) (n : Nat) (ecc : EccResult) : Option State :=
  let d := (s.task n).desc
  let g := s.captured n
  let total := foldTotal d g
  let nb := (total + 127) / 128
  let b := s.recd n .block
  let c := s.recd n .child
  let nc := min 6 (grpChildren g)
  if b < nb then
    let len := min 128 (total - 128 * b)
    if c = 6 then
      let w := inBytes d
      let r := s.sourcePart n (colSrc d) (total * w) (128 * b * w) (len * w) ecc
      match r.1 with
      | none => if r.2 = s then none else some r.2
      | some none => some r.2
      | some (some x) =>
        some ((r.2.setRec n .child 0).withRoutine n (fun q => { q with acc := (elemsOf w len x).map (widen (colIn d)) }))
    else if nc ≤ c then some (s.blockDone n b)
    else if bit (s.recd n .excluded) c then some (s.setRec n .child (c + 1))
    else if (s.nextSeq n (grpUpLand g c)).isNone then s.waitChild n c
    else
      let r := s.takeChild n c ecc
      match r.1 with
      | none => some r.2
      | some x =>
        if x.last then some (r.2.streamBad n)
        else some ((r.2.setRec n .child (c + 1)).withRoutine n (fun q =>
          { q with acc := List.zipWith (combine (colIn d) (colRedop d)) q.acc (elemsOf 4 len x.payload) }))
  else if c = 6 then some (s.setRec n .child 0)
  else if c < nc then
    if bit (s.recd n .excluded) c then some (s.setRec n .child (c + 1))
    else if (s.nextSeq n (grpUpLand g c)).isNone then s.waitChild n c
    else
      let r := s.takeChild n c ecc
      match r.1 with
      | none => some r.2
      | some x => some (r.2.childCensus n c (colOp d) total x)
  else if grpRoot g then
    let s1 := if colRedop d = 4 then s.rootEmit n 0 (rootElems d (s.recd n .included) 0 (s.routine n).sumsUp) else s
    some (s1.rootCensus n total)
  else
    let s1 := s.emit n (grpUpFlow g) true (censusBytes (s.recd n .included) (s.task n).inst (colOp d) total)
    some (s1.setRec n .phase (if hasDown (colOp d) then 1 else 3))

/-! ### Down (R457, R460) -/

/-- Elements that a down stream brings where that is known beforehand; ALL_GATHER's is COUNT × INCLUDED. -/
def downTotal (d g : List Byte) : Nat :=
  if colOp d = 2 then colCount d * grpSize g else colCount d

/-- A member's part of the down stream: elements `k` on go to DST. -/
def State.downKeep (s : State) (n k : Nat) (l : List Nat) : State :=
  (s.keepElems n k l).withRoutine n (fun r => { r with elems := k + l.length })

/-- One piece of work of the down phase at a member other than the root: the next sheaf of the parent is kept and passed
on. A stream of unknown length holds back its last sheaf until the next one says whether it is whole. -/
def State.downWork (s : State) (n : Nat) (ecc : EccResult) : Option State :=
  let d := (s.task n).desc
  let g := s.captured n
  if (s.nextSeq n (grpDownLand g)).isNone then none
  else
    let r := s.takeSheaf n (grpDownLand g) ecc
    match r.1 with
    | none => some r.2
    | some x =>
      let s1 := r.2.emitDown n x.last x.payload
      let e := perSheaf d
      let k := (s.routine n).elems
      let held := (s.routine n).acc
      let gather := colOp d = 3
      if !x.last then
        let l := elemsOf (outBytes d) e x.payload
        if gather then some ((s1.downKeep n k held).withRoutine n (fun q => { q with acc := l }))
        else
          let total := downTotal d g
          if total ≤ k then some (s1.streamBad n) else some (s1.downKeep n k (l.take (total - k)))
      else
        let total := if gather then colCount d * cenIncluded x else downTotal d g
        let s2 := if gather then s1.downKeep n k (held.take (total - k)) else s1
        if s2.censusOk n (colOp d) total x && (s2.routine n).elems == total && (!gather || total ≤ k + e) then
          some (((s2.setRec n .included (cenIncluded x)).setRec n .phase 3).withRoutine n (fun q => { q with acc := [] }))
        else some (s2.streamBad n)

/-- BROADCAST at the root: its input is kept and sent down (R457). INCLUDED is every rank (log entry 31). -/
def State.broadcastWork (s : State) (n : Nat) (ecc : EccResult) : Option State :=
  let d := (s.task n).desc
  let k := (s.routine n).elems
  let w := inBytes d
  let len := min (perSheaf d) (colCount d - k)
  if len = 0 then some ((s.setRec n .included (grpSize (s.captured n))).rootCensus n (colCount d))
  else
    let r := s.sourcePart n (colSrc d) (colCount d * w) (k * w) (len * w) ecc
    match r.1 with
    | none => if r.2 = s then none else some r.2
    | some none => some r.2
    | some (some x) =>
      some ((r.2.rootEmit n k (elemsOf w len x)).withRoutine n (fun q => { q with elems := k + len }))

/-! ### ALL_GATHER up (R457, R459) -/

/-- Elements join the member's own up stream, which the root keeps and sends down. -/
def State.gatherPut (s : State) (n : Nat) (l : List Nat) : State :=
  let d := (s.task n).desc
  let g := s.captured n
  let k := (s.routine n).elems
  let s1 := s.withRoutine n (fun r => { r with elems := k + l.length })
  if grpRoot g then s1.rootEmit n k l
  else
    let b := (s.routine n).buf ++ l
    let e := perSheaf d
    let whole := b.length / e
    let s2 := (List.range whole).foldl (fun (acc : State) i =>
      acc.emit n (grpUpFlow g) false (packElems (outBytes d) ((b.drop (e * i)).take e))) s1
    s2.withRoutine n (fun r => { r with buf := b.drop (e * whole) })

/-- One piece of work of ALL_GATHER's up phase: the own block, then each child's stream, in child order. The last sheaf
of a child's stream is held back until its census tells how much of it is data. -/
def State.gatherWork (s : State) (n : Nat) (ecc : EccResult) : Option State :=
  let d := (s.task n).desc
  let g := s.captured n
  let c := s.recd n .child
  let nc := min 6 (grpChildren g)
  let e := perSheaf d
  let w := inBytes d
  if c = 6 then
    let k := (s.routine n).elems
    let len := min e (colCount d - k)
    if len = 0 then some (s.setRec n .child 0)
    else
      let r := s.sourcePart n (colSrc d) (colCount d * w) (k * w) (len * w) ecc
      match r.1 with
      | none => if r.2 = s then none else some r.2
      | some none => some r.2
      | some (some x) => some (r.2.gatherPut n (elemsOf w len x))
  else if c < nc then
    if bit (s.recd n .excluded) c then some (s.setRec n .child (c + 1))
    else if (s.nextSeq n (grpUpLand g c)).isNone then s.waitChild n c
    else
      let got := mget (s.routine n).got c 0
      let held := (s.routine n).acc
      let r := s.takeChild n c ecc
      match r.1 with
      | none => some r.2
      | some x =>
        if !x.last then
          some ((r.2.gatherPut n held).withRoutine n (fun q => { q with acc := elemsOf w e x.payload }))
        else
          let total := colCount d * cenIncluded x
          let before := e * (got - 1)
          if total ≤ e * got ∧ (got = 0 ∨ before < total) then
            some (((r.2.gatherPut n (held.take (total - before))).withRoutine n (fun q => { q with acc := [] })).childCensus n c
              3 total x)
          else some (r.2.streamBad n)
  else
    let total := (s.routine n).elems
    if grpRoot g then some (s.rootCensus n total)
    else
      let b := (s.routine n).buf
      let s1 := if b.isEmpty then s else s.emit n (grpUpFlow g) false (packElems (outBytes d) b)
      let s2 := s1.emit n (grpUpFlow g) true (censusBytes (s.recd n .included) (s.task n).inst 3 total)
      some ((s2.setRec n .phase 1).withRoutine n (fun q => { q with buf := [], elems := 0 }))

/-! ### ALL_TO_ALL (R458) -/

/-- Entry `j` of the peer table: the flow to rank j and the landing entry from it. -/
def State.peerEntry (s : State) (n j : Nat) : Option (Nat × Nat) × State :=
  let r := s.layerRead n (colSeed (s.task n).desc + 8 * j) 8 .ok
  (r.1.map (fun b => (ofLe b % 2 ^ 20, bits (ofLe b) 20 10)), r.2)

/-- Bytes of one block and its sheaves. -/
def blockBytes (d : List Byte) : Nat := colCount d * inBytes d
def blockSheaves (d : List Byte) : Nat := (blockBytes d + 511) / 512

/-- Send the next sheaf: sheaf `BLOCK` of the block for rank `PEER`, one sheaf a peer in turn; the own block is copied. -/
def State.peerSend (s : State) (n : Nat) (ecc : EccResult) : Option State :=
  let d := (s.task n).desc
  let g := s.captured n
  let k := s.recd n .block
  let j := s.recd n .peer
  let len := min 512 (blockBytes d - 512 * k)
  let next (a : State) : State :=
    if j + 1 < grpSize g then a.setRec n .peer (j + 1) else (a.setRec n .peer 0).setRec n .block (k + 1)
  let r := s.sourcePart n (colSrc d) (grpSize g * blockBytes d) (j * blockBytes d + 512 * k) len ecc
  match r.1 with
  | none => if r.2 = s then none else some r.2
  | some none => some r.2
  | some (some x) =>
    if j = grpRank g then some (next (r.2.localWrite n (colDst d) (j * blockBytes d + 512 * k) x))
    else
      let p := r.2.peerEntry n j
      match p.1 with
      | none => some p.2
      | some e => some (next (p.2.emit n e.1 false x))

/-- Take one sheaf of the lowest peer that has one: it is written in its place in that peer's block. -/
def State.peerTake (s : State) (n : Nat) (ecc : EccResult) : Option State :=
  let d := (s.task n).desc
  let g := s.captured n
  let found := (List.range (grpSize g)).findSome? (fun j =>
    if j = grpRank g ∨ blockSheaves d ≤ mget (s.routine n).got (16 + j) 0 then none
    else
      match (s.peerEntry n j).1 with
      | none => none
      | some e => if (s.nextSeq n e.2).isSome then some (j, e.2) else none)
  match found with
  | none => none
  | some (j, land) =>
    let k := mget (s.routine n).got (16 + j) 0
    let r := s.takeSheaf n land ecc
    match r.1 with
    | none => some r.2
    | some x =>
      let s1 := r.2.localWrite n (colDst d) (j * blockBytes d + 512 * k) (x.payload.take (min 512 (blockBytes d - 512 * k)))
      some (s1.withRoutine n (fun q => { q with got := mset q.got (16 + j) (k + 1) 0 }))

/-- One piece of ALL_TO_ALL's work: a sheaf that has come, else a sheaf to send, else the end. -/
def State.peerWork (s : State) (n : Nat) (ecc : EccResult) : Option State :=
  let d := (s.task n).desc
  let g := s.captured n
  match s.peerTake n ecc with
  | some s1 => some s1
  | none =>
    if s.recd n .block < blockSheaves d then s.peerSend n ecc
    else if (List.range (grpSize g)).all (fun j => j == grpRank g || mget (s.routine n).got (16 + j) 0 == blockSheaves d) then
      some ((s.setRec n .included (grpSize g)).setRec n .phase 3)
    else none

/-! ### Closing (R458, R465, R472) -/

/-- The end, once everything sent is acknowledged: DEGRADED where ranks are missing from the final result (R465). -/
def State.colEnd (s : State) (n : Nat) : Option State :=
  let d := (s.task n).desc
  let g := s.captured n
  let inc := s.recd n .included
  if !s.allAcked n then none
  else if inc < grpSize g ∧ (grpRoot g ∨ hasDown (colOp d)) then some (s.endGroup n 2 (grpSize g - inc) inc)
  else some (s.endGroup n 0 0 inc)

/-- The work of a reducing operation or BARRIER, by phase. -/
def State.reduceWork (s : State) (n : Nat) (ecc : EccResult) : Option State :=
  match s.recd n .phase with
  | 0 => s.upWork n ecc
  | 1 => s.downWork n ecc
  | _ => s.colEnd n

/-- The work of BROADCAST, by phase. -/
def State.bcastWork (s : State) (n : Nat) (ecc : EccResult) : Option State :=
  match s.recd n .phase with
  | 0 => s.broadcastWork n ecc
  | 1 => s.downWork n ecc
  | _ => s.colEnd n

/-- The work of ALL_GATHER, by phase. -/
def State.allGatherWork (s : State) (n : Nat) (ecc : EccResult) : Option State :=
  match s.recd n .phase with
  | 0 => s.gatherWork n ecc
  | 1 => s.downWork n ecc
  | _ => s.colEnd n

/-- The work of ALL_TO_ALL, by phase. -/
def State.allToAllWork (s : State) (n : Nat) (ecc : EccResult) : Option State :=
  match s.recd n .phase with
  | 2 => s.peerWork n ecc
  | _ => s.colEnd n

/-- A collective's record at its first step (R466): BROADCAST's members begin with the down phase, ALL_TO_ALL is direct. -/
def State.colStart (s : State) (n : Nat) : State :=
  if (mfind s.routines n).isSome then s
  else
    let op := colOp (s.task n).desc
    s.newRecord n (if op = 6 then 2 else if op = 4 ∧ !grpRoot (s.captured n) then 1 else 0)

/-- Whether slot `n` may take a step of collective operation `op`. -/
def State.colDue (s : State) (n op : Nat) : Bool := s.routineDue n 2 && colOp (s.task n).desc == op

/-- OP_ALL_REDUCE (R457): one routine step of at most `blocks` pieces of work; `eccs` is what the reads find. -/
def execOpAllReduce (slot blocks : Nat) (eccs : List EccResult) (s : State) : Out :=
  if s.colDue slot 1 then ok ((s.colStart slot).routineStep slot blocks eccs (fun a e => a.reduceWork slot e)) else ok s

/-- OP_REDUCE (R457). -/
def execOpReduce (slot blocks : Nat) (eccs : List EccResult) (s : State) : Out :=
  if s.colDue slot 5 then ok ((s.colStart slot).routineStep slot blocks eccs (fun a e => a.reduceWork slot e)) else ok s

/-- OP_REDUCE_SCATTER (R457). -/
def execOpReduceScatter (slot blocks : Nat) (eccs : List EccResult) (s : State) : Out :=
  if s.colDue slot 2 then ok ((s.colStart slot).routineStep slot blocks eccs (fun a e => a.reduceWork slot e)) else ok s

/-- OP_BROADCAST (R457). -/
def execOpBroadcast (slot blocks : Nat) (eccs : List EccResult) (s : State) : Out :=
  if s.colDue slot 4 then ok ((s.colStart slot).routineStep slot blocks eccs (fun a e => a.bcastWork slot e)) else ok s

/-- OP_ALL_GATHER (R457). -/
def execOpAllGather (slot blocks : Nat) (eccs : List EccResult) (s : State) : Out :=
  if s.colDue slot 3 then ok ((s.colStart slot).routineStep slot blocks eccs (fun a e => a.allGatherWork slot e)) else ok s

/-- OP_ALL_TO_ALL (R458). -/
def execOpAllToAll (slot blocks : Nat) (eccs : List EccResult) (s : State) : Out :=
  if s.colDue slot 6 then ok ((s.colStart slot).routineStep slot blocks eccs (fun a e => a.allToAllWork slot e)) else ok s

/-- OP_BARRIER (R457). -/
def execOpBarrier (slot blocks : Nat) (eccs : List EccResult) (s : State) : Out :=
  if s.colDue slot 7 then ok ((s.colStart slot).routineStep slot blocks eccs (fun a e => a.reduceWork slot e)) else ok s

/-- PARTIAL_EXCLUSION (R465): a child whose stream has not begun within the wait is excluded. -/
def execPartialExclusion (slot child : Nat) (s : State) : Out :=
  if s.runsRoutine slot && descOp (s.task slot).desc == 2 && (mfind s.routines slot).isSome
      && decide (child < grpChildren (s.captured slot)) && s.recd slot .phase == 0 && s.exclusionDue slot child then
    ok (s.exclude slot child)
  else ok s

end Sys2Proof.Machine
end

