-- ==== Sys2Proof/Machine/Select.lean ====
section
/-! DEFINITION. Sys2Proof/Machine/Select.lean: SELECT, one routine step a command (spec/18 R473 to R488, R491, R494, R495). -/

namespace Sys2Proof.Machine

/-! ### The descriptor (R477) -/

def selType (d : List Byte) : VFmt := typeFmt (descNum d 32 1 % 16)
def selInt (d : List Byte) : Bool := isInt (selType d)
def selSmallest (d : List Byte) : Bool := bit (descNum d 33 1) 0
def selMethod (d : List Byte) : Nat := bits (descNum d 33 1) 1 2
def selK (d : List Byte) : Nat := descNum d 34 2
def selLen (d : List Byte) : Nat := descNum d 36 4
def selSrc (d : List Byte) : Nat := descNum d 40 8
def selDst (d : List Byte) : Nat := descNum d 48 8
def selBase (d : List Byte) : Nat := descNum d 56 5
def selRows (d : List Byte) : Nat := descNum d 61 2

/-- Bytes of an element, the row stride S and the record stride Q (R477, R480). -/
def selWidth (d : List Byte) : Nat := fmtWidth (selType d) / 8
def selStride (d : List Byte) : Nat := pad64 (selLen d * selWidth d)
def selRecord (d : List Byte) : Nat := pad64 (12 * selK d + 12)

/-- Whether the method in use is BITONIC: named, or by AUTO with K above 16 (R478). -/
def selBitonic (d : List Byte) : Bool := selMethod d == 2 || (selMethod d == 0 && 16 < selK d)

/-- Pieces of a row (R481). -/
def selPieces (d : List Byte) : Nat := (selLen d + 4095) / 4096

/-- The elements of piece `j` of row `r`, read with its tallies. The source area is ROWS rows of S bytes (log entry 32). -/
def State.selPiece (s : State) (n r j : Nat) (ecc : EccResult) : Option (Option (List Nat)) × State :=
  let d := (s.task n).desc
  let w := selWidth d
  let len := min 4096 (selLen d - 4096 * j)
  let q := s.sourcePart n (selSrc d) (selRows d * selStride d) (r * selStride d + 4096 * j * w) (len * w) ecc
  (q.1.map (Option.map (elemsOf w len)), q.2)

/-! ### Errors (R495) -/

/-- Record an error of the SIEVE page: 0 LIST_ORDER, 1 CENSUS_BAD. -/
def State.sieveNote (s : State) (n kind row : Nat) : State :=
  let s1 := (((s.wr Reg.SIEVE_LAST_VALID 1).wr Reg.SIEVE_LAST_KIND kind).wr Reg.SIEVE_LAST_SLOT n).wr Reg.SIEVE_LAST_ROW row
  s1.raise (if kind = 0 then Err.SIEVE_LIST_ORDER else Err.SIEVE_CENSUS_BAD) (s.occOf n)

/-- A LIST stream out of order (R486), and a census that does not match (R460, R495). -/
def State.listOrderBad (s : State) (n row : Nat) : State := (s.sieveNote n 0 row).failTask n 9
def State.sieveCensusBad (s : State) (n : Nat) : State := (s.sieveNote n 1 (s.recd n .block % 65536)).failTask n 9

/-! ### Entries (R485) -/

/-- The 32 entries of a payload, each a 16-byte number. -/
def entriesOf (x : Sheaf) : List Nat := elemsOf 16 32 x.payload

/-- Value and index, row, and byte 11 of a LIST or BOUND entry. -/
def entKey (e : Nat) : Nat × Nat := (e % 2 ^ 32, bits e 32 40)
def entRow (e : Nat) : Nat := bits e 72 16
def entFlags (e : Nat) : Nat := bits e 88 8

/-- Merge two lists in ranking order (R487). -/
def keyMerge (int smallest : Bool) (a b : List (Nat × Nat)) : List (Nat × Nat) :=
  b.foldl (fun acc x => keyInsert int smallest x acc) a

/-- The first row at which entries break the order that R486 asks for; `held` is the row and key of the entry before,
and how many entries its row has had. -/
def orderBreak (int smallest : Bool) (k : Nat) : Option (Nat × (Nat × Nat) × Nat) → List Nat → Option Nat
  | _, [] => none
  | none, e :: t => orderBreak int smallest k (some (entRow e, entKey e, 1)) t
  | some (r, x, m), e :: t =>
    if entRow e < r then some (entRow e)
    else if entRow e = r then
      if k ≤ m ∨ !ranksAbove int smallest x (entKey e) then some r
      else orderBreak int smallest k (some (r, entKey e, m + 1)) t
    else orderBreak int smallest k (some (entRow e, entKey e, 1)) t

/-- Whether a stream that brought `m` data sheaves of 32 entries holds `count` entries. -/
def sheavesMatch (m count : Nat) : Bool := count ≤ 32 * m && 32 * m < count + 32

/-! ### Phase 0: local (R481 to R483) -/

/-- Keep the top K of a row after merging keys into it. -/
def State.mergeRow (s : State) (n r : Nat) (l : List (Nat × Nat)) : State :=
  let d := (s.task n).desc
  s.withRoutine n (fun q => { q with
    keys := mset q.keys r ((keyMerge (selInt d) (selSmallest d) (mget q.keys r []) l).take (selK d)) [] })

/-- One piece of the local phase. -/
def State.selLocal (s : State) (n : Nat) (ecc : EccResult) : Option State :=
  let d := (s.task n).desc
  let r := s.recd n .block
  let j := s.recd n .peer
  if selRows d ≤ r then some (((s.setRec n .phase 1).setRec n .block 0).setRec n .child 0)
  else
    let p := s.selPiece n r j ecc
    match p.1 with
    | none => if p.2 = s then none else some p.2
    | some none => some p.2
    | some (some l) =>
      let q := partialList (selInt d) (selSmallest d) (s.task n).drop (selK d)
        (pieceKeys (selType d) (selBase d + 4096 * j) l)
      let s1 := (p.2.bump Ctr.SIEVE_ELEMENTS_SCANNED l.length).bump Ctr.SIEVE_NAN_COUNT q.2
      let s2 := if selBitonic d then s1.bump Ctr.SIEVE_PASSES (passesFor q.1.length) else s1
      let s3 := s2.mergeRow n r q.1
      some (if j + 1 < selPieces d then s3.setRec n .peer (j + 1) else (s3.setRec n .peer 0).setRec n .block (r + 1))

/-! ### Phase 1: list up (R484 to R487) -/

/-- The census of a child's LIST stream: its entries are merged, and the next child follows. -/
def State.listCensus (s : State) (n c : Nat) (x : Sheaf) : State :=
  let d := (s.task n).desc
  let m := mget (s.routine n).got c 0 - 1
  let count := cenElements x
  let l := (s.routine n).buf.take count
  if !s.censusOk n 0x21 count x || !sheavesMatch m count then s.sieveCensusBad n
  else match orderBreak (selInt d) (selSmallest d) (selK d) none l with
    | some r => s.listOrderBad n r
    | none =>
      let s1 := l.foldl (fun (acc : State) e => acc.mergeRow n (entRow e) [entKey e]) s
      (((s1.bump Ctr.SIEVE_LIST_ENTRIES_MERGED count).setRec n .included (s.recd n .included + cenIncluded x)).setRec n .child
        (c + 1)).withRoutine n (fun q => { q with buf := [] })

/-- The own list as LIST entries, rows ascending. -/
def State.listEntries (s : State) (n : Nat) : List (List Byte) :=
  let d := (s.task n).desc
  (List.range (selRows d)).flatMap (fun r =>
    (mget (s.routine n).keys r []).map (fun x => listEntry r (nanFlag (selInt d) x.1) x))

/-- The root's boundaries: the last key of each row's final list (R484). -/
def State.setBounds (s : State) (n : Nat) : State :=
  s.withRoutine n (fun q => { q with bounds := q.keys.map (fun p => (p.1, p.2.getLast?.toList)) })

/-- One piece of the list phase: a sheaf of the next child, or a sheaf of the own stream. -/
def State.selList (s : State) (n : Nat) (ecc : EccResult) : Option State :=
  let d := (s.task n).desc
  let g := s.captured n
  let c := s.recd n .child
  if c < min 6 (grpChildren g) then
    if (s.nextSeq n (grpUpLand g c)).isNone then none
    else
      let r := s.takeChild n c ecc
      match r.1 with
      | none => some r.2
      | some x =>
        if x.last then some (r.2.listCensus n c x)
        else
          match orderBreak (selInt d) (selSmallest d) (selK d) none (r.2.routine n).buf with
          | some row => some (r.2.listOrderBad n row)
          | none => some (r.2.withRoutine n (fun q => { q with buf := q.buf ++ entriesOf x }))
  else if grpRoot g then some (((s.setBounds n).setRec n .phase 2).setRec n .block 0)
  else
    let l := s.listEntries n
    let i := (s.routine n).entry
    if 32 * i < l.length then
      some ((s.emit n (grpUpFlow g) false ((l.drop (32 * i)).take 32).flatten).withRoutine n (fun q => { q with entry := i + 1 }))
    else
      some (((s.emit n (grpUpFlow g) true (censusBytes (s.recd n .included) (s.task n).inst 0x21 l.length)).setRec n .phase 2).withRoutine
        n (fun q => { q with entry := 0, elems := 0 }))

/-! ### Phase 2: boundary down (R484, R485) -/

/-- The BOUND entry of a row. -/
def boundEntry (int : Bool) (r : Nat) (b : List (Nat × Nat)) : List Byte :=
  match b with
  | [] => listEntry r 2 (0, 0)
  | x :: _ => listEntry r (nanFlag int x.1) x

/-- The sums phase begins: own pieces first, INCLUDED anew for its stream (R460, R484). -/
def State.beginSums (s : State) (n : Nat) : State :=
  (((((s.setRec n .phase 3).setRec n .block 0).setRec n .peer 0).setRec n .child 6).setRec n .included 1).withRoutine n
    (fun q => { q with elems := 0, got := [], acc := [], buf := [] })

/-- One piece of the boundary phase: a sheaf sent by the root, or a sheaf taken and passed on. -/
def State.selBound (s : State) (n : Nat) (ecc : EccResult) : Option State :=
  let d := (s.task n).desc
  let g := s.captured n
  let rows := selRows d
  if grpRoot g then
    let b := s.recd n .block
    if b < rows then
      let l := (List.range (min 32 (rows - b))).map (fun i => boundEntry (selInt d) (b + i) (mget (s.routine n).bounds (b + i) []))
      some ((s.emitDown n false l.flatten).setRec n .block (b + 32))
    else
      let inc := s.recd n .included
      some (((s.emitDown n true (censusBytes inc (s.task n).inst 0x22 rows)).withRoutine n (fun q => { q with pos := inc })).beginSums n)
  else if (s.nextSeq n (grpDownLand g)).isNone then none
  else
    let r := s.takeSheaf n (grpDownLand g) ecc
    match r.1 with
    | none => some r.2
    | some x =>
      let s1 := r.2.emitDown n x.last x.payload
      let k := (s.routine n).elems
      if x.last then
        if s1.censusOk n 0x22 rows x && sheavesMatch (k / 32) rows then some (s1.beginSums n) else some (s1.sieveCensusBad n)
      else
        some (s1.withRoutine n (fun q => { q with
          elems := k + 32
          bounds := ((entriesOf x).take (rows - k)).zipIdx.foldl (fun (acc : Map (List (Nat × Nat))) p =>
            mset acc (k + p.2) (if bit (entFlags p.1) 1 then [] else [entKey p.1]) []) q.bounds }))

/-! ### Phase 3: sums up (R488) -/

/-- FP32 addition of the sums. -/
def sumAdd (a b : Nat) : Nat := FFmt.f32.add a b

/-- A key value as the sums take it: FP32, or INT32 converted (R488). -/
def sumValue (int : Bool) (v : Nat) : Nat := if int then convert .i32 .f32 v else v

/-- Whether a key ranks at or above its row's boundary (R484). -/
def selected (int smallest : Bool) (b : List (Nat × Nat)) (x : Nat × Nat) : Bool :=
  match b with
  | [] => false
  | y :: _ => !ranksAbove int smallest y x

/-- The sums of a piece: SUM_SEL, SUM_REST and the NaNs dropped, a left fold from +0 in index order (R488). -/
def pieceSums (int smallest drop : Bool) (b : List (Nat × Nat)) (l : List (Nat × Nat)) : List Nat :=
  let r := l.foldl (fun (acc : Nat × Nat × Nat) x =>
    if drop && keyNan int x.1 then (acc.1, acc.2.1, acc.2.2 + 1)
    else if selected int smallest b x then (sumAdd acc.1 (sumValue int x.1), acc.2.1, acc.2.2)
    else (acc.1, sumAdd acc.2.1 (sumValue int x.1), acc.2.2)) (0, 0, 0)
  [r.1, r.2.1, r.2.2]

/-- Two rows of sums folded (R488). -/
def foldSums (a b : List Nat) : List Nat :=
  [sumAdd (a.getD 0 0) (b.getD 0 0), sumAdd (a.getD 1 0) (b.getD 1 0), (a.getD 2 0 + b.getD 2 0) % 2 ^ 32]

/-- The SUMS entry of a row. -/
def sumsEntry (r : Nat) (l : List Nat) : List Byte :=
  leBytes 4 (l.getD 0 0) ++ leBytes 4 (l.getD 1 0) ++ leBytes 4 (l.getD 2 0) ++ leBytes 2 r ++ leBytes 2 0

/-- The sums of a SUMS entry. -/
def entSums (e : Nat) : List Nat := [e % 2 ^ 32, bits e 32 32, bits e 64 32]

/-- One piece of the sums phase: own pieces row by row, then each child's stream, then the own stream. -/
def State.selSums (s : State) (n : Nat) (ecc : EccResult) : Option State :=
  let d := (s.task n).desc
  let g := s.captured n
  let rows := selRows d
  let c := s.recd n .child
  let r := s.recd n .block
  let j := s.recd n .peer
  if c = 6 then
    if rows ≤ r then some ((s.setRec n .block 0).setRec n .child 0)
    else
      let p := s.selPiece n r j ecc
      match p.1 with
      | none => if p.2 = s then none else some p.2
      | some none => some p.2
      | some (some l) =>
        let q := pieceSums (selInt d) (selSmallest d) (s.task n).drop (mget (s.routine n).bounds r [])
          (pieceKeys (selType d) (selBase d + 4096 * j) l)
        let s1 := p.2.withRoutine n (fun x => { x with
          sums := mput x.sums r (if j = 0 then q else foldSums (mget x.sums r [0, 0, 0]) q) })
        some (if j + 1 < selPieces d then s1.setRec n .peer (j + 1) else (s1.setRec n .peer 0).setRec n .block (r + 1))
  else if c < min 6 (grpChildren g) then
    if (s.nextSeq n (grpUpLand g c)).isNone then none
    else
      let k := 32 * mget (s.routine n).got c 0
      let q := s.takeChild n c ecc
      match q.1 with
      | none => some q.2
      | some x =>
        if x.last then
          if q.2.censusOk n 0x23 rows x && sheavesMatch (k / 32) rows then
            some ((q.2.setRec n .included (s.recd n .included + cenIncluded x)).setRec n .child (c + 1))
          else some (q.2.sieveCensusBad n)
        else
          some (q.2.withRoutine n (fun y => { y with
            sums := ((entriesOf x).take (rows - k)).zipIdx.foldl (fun (acc : Map (List Nat)) p =>
              mput acc (k + p.2) (foldSums (mget acc (k + p.2) [0, 0, 0]) (entSums p.1))) y.sums }))
  else if grpRoot g then
    some ((((s.setRec n .phase 4).setRec n .block 0).setRec n .included (s.routine n).pos).withRoutine n (fun q => { q with buf := [] }))
  else if r < rows then
    let l := (List.range (min 32 (rows - r))).map (fun i => sumsEntry (r + i) (mget (s.routine n).sums (r + i) [0, 0, 0]))
    some ((s.emit n (grpUpFlow g) false l.flatten).setRec n .block (r + 32))
  else
    some (((s.emit n (grpUpFlow g) true (censusBytes (s.recd n .included) (s.task n).inst 0x23 rows)).setRec n .phase 4).setRec n
      .block 0)

/-! ### Phase 4: records down (R480, R484, R485) -/

/-- The value as a record reports it: a selected NaN is the canonical one (R480). -/
def recordValue (int : Bool) (v : Nat) : Nat := if keyNan int v then 0x7FC00000 else v

/-- The row record of R480. -/
def rowRecord (int : Bool) (k : Nat) (keys : List (Nat × Nat)) (sums : List Nat) : List Byte :=
  let l := keys.take k
  let gap := k - l.length
  padTo (pad64 (12 * k + 12))
    (l.flatMap (fun x => leBytes 8 (x.2 % 2 ^ 40)) ++ (List.replicate gap (leBytes 8 0xFFFFFFFFFF)).flatten
      ++ l.flatMap (fun x => leBytes 4 (recordValue int x.1)) ++ (List.replicate gap (leBytes 4 0x7FC00000)).flatten
      ++ (List.range 3).flatMap (fun i => leBytes 4 (sums.getD i 0)))

/-- Send record bytes down in whole payloads; `flush` sends what is left. -/
def State.sendRecord (n : Nat) (flush : Bool) : Nat → State → State
  | 0, s => s
  | f + 1, s =>
    let b := (s.routine n).buf
    if 512 ≤ b.length ∨ (flush ∧ !b.isEmpty) then
      State.sendRecord n flush f
        ((s.emitDown n false ((b.take 512).map (BitVec.ofNat 8))).withRoutine n (fun q => { q with buf := b.drop 512 }))
    else s

/-- The NANS fields of whole records at the front of the bytes in hand are added up (R494). -/
def State.countRecords (n q k : Nat) : Nat → State → State
  | 0, s => s
  | f + 1, s =>
    let b := (s.routine n).buf
    if q ≤ b.length then
      let v := ofLe (((b.drop (12 * k + 8)).take 4).map (BitVec.ofNat 8))
      State.countRecords n q k f (s.withRoutine n (fun r => { r with buf := b.drop q, nans := r.nans + v }))
    else s

/-- One piece of the records phase. -/
def State.selRecords (s : State) (n : Nat) (ecc : EccResult) : Option State :=
  let d := (s.task n).desc
  let g := s.captured n
  let rows := selRows d
  let q := selRecord d
  if (s.routine n).closing then
    if s.allAcked n then some (s.endGroup n 0 0 (s.routine n).nans) else none
  else if grpRoot g then
    let r := s.recd n .block
    if r < rows then
      let rec' := rowRecord (selInt d) (selK d) (mget (s.routine n).keys r []) (mget (s.routine n).sums r [0, 0, 0])
      let s1 := (s.localWrite n (selDst d) (r * q) rec').withRoutine n (fun x => { x with
        buf := x.buf ++ rec'.map (·.toNat), nans := x.nans + (mget x.sums r [0, 0, 0]).getD 2 0 })
      some (((State.sendRecord n false (q / 512 + 2) s1).setRec n .block (r + 1)).bump Ctr.SIEVE_ROWS_SELECTED 1)
    else
      let s1 := State.sendRecord n true 2 s
      some ((s1.emitDown n true (censusBytes (s.recd n .included) (s.task n).inst 0x24 rows)).withRoutine n
        (fun x => { x with closing := true }))
  else if (s.nextSeq n (grpDownLand g)).isNone then none
  else
    let r := s.takeSheaf n (grpDownLand g) ecc
    match r.1 with
    | none => some r.2
    | some x =>
      let s1 := r.2.emitDown n x.last x.payload
      let k := (s.routine n).elems
      let total := rows * q
      if x.last then
        if s1.censusOk n 0x24 rows x && decide (total ≤ 512 * k ∧ 512 * k < total + 512) then
          some (((s1.setRec n .included (cenIncluded x)).bump Ctr.SIEVE_ROWS_SELECTED rows).withRoutine n
            (fun y => { y with closing := true }))
        else some (s1.sieveCensusBad n)
      else
        let b := x.payload.take (total - 512 * k)
        let s2 := (s1.localWrite n (selDst d) (512 * k) b).withRoutine n (fun y => { y with
          elems := k + 1, buf := y.buf ++ b.map (·.toNat) })
        let s3 := State.countRecords n q (selK d) 10 s2
        some (s3.setRec n .block (min rows (512 * (k + 1) / q)))

/-- The work of a SELECT, by phase (R484, R491). -/
def State.selWork (s : State) (n : Nat) (ecc : EccResult) : Option State :=
  match s.recd n .phase with
  | 0 => s.selLocal n ecc
  | 1 => s.selList n ecc
  | 2 => s.selBound n ecc
  | 3 => s.selSums n ecc
  | _ => s.selRecords n ecc

/-- A SELECT's record at its first step. -/
def State.selStart (s : State) (n : Nat) : State :=
  if (mfind s.routines n).isSome then s else (s.newRecord n 0).bump Ctr.SIEVE_SELECTS_STARTED 1

/-- OP_SELECT (R484, R491): one routine step of at most `blocks` pieces of work; `eccs` is what the reads find. -/
def execOpSelect (slot blocks : Nat) (eccs : List EccResult) (s : State) : Out :=
  if s.routineDue slot 7 then ok ((s.selStart slot).routineStep slot blocks eccs (fun a e => a.selWork slot e)) else ok s

end Sys2Proof.Machine
end

