-- ==== Sys2Proof/Machine/Scan.lean ====
section
/-! DEFINITION. Sys2Proof/Machine/Scan.lean: SCAN in its four modes, one routine step a command (spec/19 R496 to R510, R514 to
R516), and writes to the curve tables (R513). -/

namespace Sys2Proof.Machine

/-! ### The descriptor (R500) -/

def scMode (d : List Byte) : Nat := descNum d 32 1
def scIn (d : List Byte) : Nat := typeIn (descNum d 33 1)
def scOut (d : List Byte) : Nat := typeOut (descNum d 33 1)
def scRows (d : List Byte) : Nat := descNum d 34 2
def scWidth (d : List Byte) : Nat := descNum d 36 2
def scInit (d : List Byte) : Bool := bit (descNum d 38 1) 0
def scReset (d : List Byte) : Bool := bit (descNum d 38 1) 1
def scMask (d : List Byte) : Nat := descNum d 39 1
def scSrc (d : List Byte) : Nat := descNum d 40 8
def scDst (d : List Byte) : Nat := descNum d 48 8
def scSteps (d : List Byte) : Nat := descNum d 56 4
def scInitAt (d : List Byte) : Nat := descNum d 60 4

/-- N of R500, and the sheaves of 128 values that hold N. -/
def scN (d : List Byte) : Nat := scRows d * scWidth d
def scSheaves (d : List Byte) : Nat := (scN d + 127) / 128

/-- Bytes of a block of N FP32 values, of the cut bits and of one h_t (R502, R503). -/
def scBlock (d : List Byte) : Nat := pad64 (4 * scN d)
def scCutBytes (d : List Byte) : Nat := 8 * ((scRows d + 63) / 64)
def scStateBytes (d : List Byte) : Nat := pad64 (scN d * typeBytes (scOut d))
def scRecord (d : List Byte) : Nat := recordBytes (scRows d) (scWidth d) (scIn d) (scReset d)

/-- Where B, A and h begin among the accumulator elements of a core (R499). -/
def accB : Nat := 0
def accA : Nat := 512

/-! ### Errors and ends -/

/-- A chain stream that breaks R504: CHAIN_BAD, and the task completes with DATA_ERROR. -/
def State.chainBad (s : State) (n : Nat) : State :=
  ((s.loomNote 2 n).raise Err.LOOM_CHAIN_BAD (s.occOf n)).failTask n 9

/-- A SCAN's end: everything sent is acknowledged; RESULT holds its time steps (R505). -/
def State.scanEnd (s : State) (n : Nat) : Option State :=
  if s.allAcked n then some (s.endGroup n 0 0 (s.routine n).steps) else none

/-- Nothing but the acknowledgements is left. -/
def State.scanClose (s : State) (n : Nat) : State := s.withRoutine n (fun r => { r with closing := true })

/-- The INIT values, or +0 (R500, R502, R507). -/
def State.scanInit (s : State) (n : Nat) (ecc : EccResult) : Option (List Nat) × State :=
  let d := (s.task n).desc
  if scInit d then
    let r := s.layerRead n (scInitAt d) (4 * scN d) ecc
    (r.1.map (elemsOf 4 (scN d)), r.2)
  else (some (List.replicate (scN d) 0), s)

/-- Elements of a list into a map from index `k` on. -/
def fillMap (m : Map Nat) (k : Nat) (l : List Nat) : Map Nat :=
  l.zipIdx.foldl (fun (acc : Map Nat) p => mset acc (k + p.2) p.1 0) m

/-- Cut bits by row from bytes (R497), and the bytes again. -/
def cutsOf (rows v : Nat) : Map Nat := (List.range rows).foldl (fun (acc : Map Nat) r => if bit v r then mset acc r 1 0 else acc) []
def cutsNum (rows : Nat) (m : Map Nat) : Nat := (List.range rows).foldl (fun a r => a + mget m r 0 * 2 ^ r) 0

/-! ### Phase 0: the own summary (R498, R502) -/

/-- Read a piece of a source; the work goes on with what `f` makes of its bytes. -/
def State.withPiece (s : State) (n src total off len : Nat) (ecc : EccResult) (f : State → List Byte → State) : Option State :=
  let p := s.sourcePart n src total off len ecc
  match p.1 with
  | none => if p.2 = s then none else some p.2
  | some none => some p.2
  | some (some x) => some (f p.2 x)

/-- One piece of CARRY's summary: 128 values of A, of B, or the cut bits. -/
def State.carryOwn (s : State) (n : Nat) (ecc : EccResult) : Option State :=
  let d := (s.task n).desc
  let na := scSheaves d
  let b := s.recd n .block
  let total := 2 * scBlock d + scCutBytes d
  if b < 2 * na then
    let i := b % na
    let len := min 128 (scN d - 128 * i)
    let base := if b < na then accA else accB
    s.withPiece n (scSrc d) total ((b / na) * scBlock d + 512 * i) (4 * len) ecc (fun a x =>
      ((elemsOf 4 len x).zipIdx.foldl (fun (acc : State) q => acc.loomPut (scMask d) (scN d) base (128 * i + q.2) q.1) a).setRec n
        .block (b + 1))
  else
    s.withPiece n (scSrc d) total (2 * scBlock d) (scCutBytes d) ecc (fun a x =>
      ((a.withRoutine n (fun r => { r with cuts := cutsOf (scRows d) (ofLe x) })).setRec n .block 0).setRec n .phase 1)

/-- One time step of CHUNK's summary pass. -/
def State.chunkOwn (s : State) (n : Nat) (ecc : EccResult) : Option State :=
  let d := (s.task n).desc
  let t := s.recd n .block
  if t < scSteps d then
    s.withPiece n (scSrc d) (scSteps d * scRecord d) (t * scRecord d) (scRecord d) ecc (fun a x =>
      let r := a.summaryRecord (scMask d) (scRows d) (scWidth d) (a.routine n).cuts
        (parseRecord (scRows d) (scWidth d) (scIn d) (scReset d) x)
      (r.2.withRoutine n (fun q => { q with cuts := r.1 })).setRec n .block (t + 1))
  else some ((s.setRec n .block 0).setRec n .phase 1)

/-! ### Phase 1: the incoming triple, and the stream to the successor (R502, R504) -/

/-- The position of this member in the chain; 0 before it is known. -/
def State.chainPos (s : State) (n : Nat) : Nat := (s.routine n).pos

/-- A chain position is taken; one that cannot be right raises CHAIN_BAD (R504). -/
def State.takePos (s : State) (n p : Nat) : State :=
  let g := s.captured n
  if (grpChainLast g ∧ p ≠ grpSize g) ∨ (!grpChainLast g ∧ grpSize g ≤ p) then s.chainBad n
  else s.withRoutine n (fun r => { r with pos := p, entry := 0 })

/-- A sheaf of the predecessor's stream. -/
def State.chainIn (s : State) (n : Nat) (x : Sheaf) : State :=
  let d := (s.task n).desc
  let na := scSheaves d
  let i := mget (s.routine n).got 6 0
  let s1 := s.withRoutine n (fun r => { r with got := mset r.got 6 (i + 1) 0 })
  if x.last then
    if i = 2 * na + 1 ∧ s.censusOk n 0x31 (scN d) x ∧ cenIncluded x ≠ 0 then s1.takePos n (cenIncluded x + 1) else s.chainBad n
  else if i < na then
    s1.withRoutine n (fun r => { r with inA := fillMap r.inA (128 * i) (elemsOf 4 (min 128 (scN d - 128 * i)) x.payload) })
  else if i < 2 * na then
    s1.withRoutine n (fun r => { r with
      inB := fillMap r.inB (128 * (i - na)) (elemsOf 4 (min 128 (scN d - 128 * (i - na))) x.payload) })
  else if i = 2 * na then
    s1.withRoutine n (fun r => { r with inCuts := cutsOf (scRows d) (ofLe (x.payload.take 128)) })
  else s1.chainBad n

/-- P_in and P_out of element `e`: P_out = S_own ∘ P_in (R502). -/
def State.tripleIn (s : State) (n e : Nat) : Triple :=
  let r := s.routine n
  { a := mget r.inA e 0, b := mget r.inB e 0, c := mget r.inCuts (e / scWidth (s.task n).desc) 0 == 1 }
def State.tripleOut (s : State) (n e : Nat) : Triple :=
  let d := (s.task n).desc
  let own : Triple := { a := s.loomGet (scMask d) (scN d) accA e, b := s.loomGet (scMask d) (scN d) accB e,
                        c := mget (s.routine n).cuts (e / scWidth d) 0 == 1 }
  own.after (s.tripleIn n e)

/-- A piece of 128 values of A or B, or the cut bits, of P_in or P_out: piece `i` of the stream of R504. -/
def State.chainPiece (s : State) (n : Nat) (out : Bool) (i : Nat) : List Byte :=
  let d := (s.task n).desc
  let na := scSheaves d
  let get (e : Nat) : Triple := if out then s.tripleOut n e else s.tripleIn n e
  if i < 2 * na then
    let k := 128 * (i % na)
    (List.range (min 128 (scN d - k))).flatMap (fun j => leBytes 4 (if i < na then (get (k + j)).a else (get (k + j)).b))
  else
    let cut (r : Nat) : Nat := b2n (get (r * scWidth d)).c
    leBytes (scCutBytes d) ((List.range (scRows d)).foldl (fun a r => a + cut r * 2 ^ r) 0)

/-- One piece of the chain phase: a sheaf of the predecessor, then a sheaf to the successor. -/
def State.chainWork (s : State) (n : Nat) (ecc : EccResult) : Option State :=
  let d := (s.task n).desc
  let g := s.captured n
  let na := scSheaves d
  if s.chainPos n = 0 then
    if grpChainFirst g then
      let h := s.scanInit n ecc
      match h.1 with
      | none => some h.2
      | some l =>
        some ((h.2.withRoutine n (fun r => { r with
          inA := fillMap [] 0 (List.replicate (scN d) f32One), inB := fillMap [] 0 l })).takePos n 1)
    else if (s.nextSeq n (grpPredLand g)).isNone then none
    else
      let r := s.takeSheaf n (grpPredLand g) ecc
      match r.1 with
      | none => some r.2
      | some x => some (r.2.chainIn n x)
  else
    let i := (s.routine n).entry
    let next := s.withRoutine n (fun r => { r with entry := i + 1 })
    if grpChainLast g ∨ 2 * na + 2 ≤ i then some ((s.setRec n .phase 2).setRec n .block 0)
    else if i = 2 * na + 1 then
      some ((next.emit n (grpSuccFlow g) true (censusBytes (s.chainPos n) (s.task n).inst 0x31 (scN d))).bump
        Ctr.LOOM_CHAIN_SHEAVES_SENT 1)
    else some ((next.emit n (grpSuccFlow g) false (s.chainPiece n true i)).bump Ctr.LOOM_CHAIN_SHEAVES_SENT 1)

/-! ### Phase 2: outputs (R498, R503) -/

/-- Time steps of a state pass are counted, with the resets they apply (R516). -/
def State.countSteps (s : State) (n mask : Nat) : State :=
  let d := (s.task n).desc
  ((s.bump Ctr.LOOM_TIME_STEPS 1).bump Ctr.LOOM_RESETS_APPLIED (resetsIn (scRows d) mask)).withRoutine n
    (fun r => { r with steps := r.steps + 1 })

/-- One piece of CARRY's output: P_in's blocks, then P_out's. -/
def State.carryOut (s : State) (n : Nat) : Option State :=
  let d := (s.task n).desc
  let na := scSheaves d
  let b := s.recd n .block
  let per := 2 * na + 1
  if b < 2 * per then
    let out := decide (per ≤ b)
    let i := b % per
    let at' := (b / per) * (2 * scBlock d + pad64 (scCutBytes d)) + (if i < 2 * na then (i / na) * scBlock d + 512 * (i % na) else 2 * scBlock d)
    some ((s.localWrite n (scDst d) at' (s.chainPiece n out i)).setRec n .block (b + 1))
  else some (s.scanClose n)

/-- One time step of CHUNK's state pass, from the carry. -/
def State.chunkOut (s : State) (n : Nat) (ecc : EccResult) : Option State :=
  let d := (s.task n).desc
  let t := s.recd n .block
  if t < scSteps d then
    s.withPiece n (scSrc d) (scSteps d * scRecord d) (t * scRecord d) (scRecord d) ecc (fun a x =>
      let r := parseRecord (scRows d) (scWidth d) (scIn d) (scReset d) x
      let a0 := if t = 0 then a.loomFill (scMask d) (scN d) accB ((List.range (scN d)).map (fun e => mget (a.routine n).inB e 0)) else a
      let a1 := a0.stateRecord (scMask d) (scRows d) (scWidth d) r
      let a2 := a1.localWrite n (scDst d) (t * scStateBytes d) (stateBytes (scOut d) (a1.loomAll (scMask d) (scN d) accB))
      (a2.countSteps n r.2).setRec n .block (t + 1))
  else some (s.scanClose n)

/-- The work of CARRY and of CHUNK, by phase. -/
def State.carryWork (s : State) (n : Nat) (ecc : EccResult) : Option State :=
  if (s.routine n).closing then s.scanEnd n
  else match s.recd n .phase with
    | 0 => s.carryOwn n ecc
    | 1 => s.chainWork n ecc
    | _ => s.carryOut n

def State.chunkWork (s : State) (n : Nat) (ecc : EccResult) : Option State :=
  if (s.routine n).closing then s.scanEnd n
  else match s.recd n .phase with
    | 0 => s.chunkOwn n ecc
    | 1 => s.chainWork n ecc
    | _ => s.chunkOut n ecc

/-! ### STREAM (R506, R507) -/

/-- Fields of a chunk entry. -/
def entryReady (b : List Byte) : Bool := bit (descNum b 0 1) 0
def entryLast (b : List Byte) : Bool := bit (descNum b 0 1) 1
def entryLink (b : List Byte) : Bool := bit (descNum b 0 1) 2

/-- The window's work on the stream is over. -/
def State.windowOver (s : State) (n : Nat) : State := s.withRoutine n (fun r => { r with pos := 1 })

/-- A chunk is done: the stream ends, or goes on with the next entry in the next window. -/
def State.chunkDone (s : State) (n : Nat) (b : List Byte) : State :=
  let d := (s.task n).desc
  if entryLast b then
    (s.localWrite n (scDst d) 0 (packElems 4 (s.loomAll (scMask d) (scN d) accB))).scanClose n
  else
    (s.windowOver n).withRoutine n (fun r => { r with entry := r.entry + 32, inStep := 0 })

/-- One piece of STREAM's work: the entry that it has reached, or one time step of its chunk. -/
def State.streamWork (s : State) (n : Nat) (ecc : EccResult) : Option State :=
  let d := (s.task n).desc
  let r := s.routine n
  if r.closing then s.scanEnd n
  else if r.pos = 1 then none
  else if r.buf.isEmpty then
    let p := s.localBytes n r.entry 32 ecc
    match p.1 with
    | none => if p.2 = s then none else some p.2
    | some none => some p.2
    | some (some b) =>
      if !entryReady b then some ((p.2.bump Ctr.LOOM_CHUNK_WAIT_BELLS 1).windowOver n)
      else if entryLink b then some (p.2.withRoutine n (fun q => { q with entry := descNum b 8 8, inStep := 0 }))
      else some (p.2.withRoutine n (fun q => { q with buf := b.map (·.toNat) }))
  else
    let b := r.buf.map (BitVec.ofNat 8)
    let steps := descNum b 4 4
    let t := r.inStep
    if steps ≤ t then some (s.chunkDone n b)
    else
      s.withPiece n (descNum b 8 8) (steps * scRecord d) (t * scRecord d) (scRecord d) ecc (fun a x =>
        let rec' := parseRecord (scRows d) (scWidth d) (scIn d) (scReset d) x
        let a1 := a.stateRecord (scMask d) (scRows d) (scWidth d) rec'
        let a2 := a1.localWrite n (descNum b 16 8) (t * scStateBytes d) (stateBytes (scOut d) (a1.loomAll (scMask d) (scN d) accB))
        ((a2.countSteps n rec'.2).withRoutine n (fun q => { q with inStep := t + 1 })).setRec n .block (a2.recd n .block + 1))

/-! ### PIPE (R508 to R510) -/

/-- The PIPE block that a task checked at its first step. -/
def State.pipeBlock (s : State) (n : Nat) : PipeBlock := parsePipe ((s.routine n).buf.map (BitVec.ofNat 8))

/-- The reset masks that x records brought, by time step. -/
def State.pipeMask (s : State) (n t : Nat) : Nat := mget (s.routine n).inCuts t 0

/-- Layer `g` over block `j`; the last layer writes its outputs (R509). -/
def State.pipeLayerWork (s : State) (n g j : Nat) (ecc : EccResult) : State :=
  let d := (s.task n).desc
  let b := s.pipeBlock n
  let first := j * b.blk
  let count := min b.blk (scSteps d - first)
  let row := (rowsOf (scMask d)).getD g 0
  let xs := (List.range count).map (fun i =>
    (((List.range (scRows d * b.inp)).map (fun e => mget (s.routine n).inA (i * scRows d * b.inp + e) 0)), s.pipeMask n (first + i)))
  let o := s.pipeRun n row b g (scRows d) (scWidth d) first count xs ecc
  match o.1 with
  | none => o.2
  | some outs =>
    if g + 1 = b.g then
      outs.zipIdx.foldl (fun (acc : State) q =>
        (acc.localWrite n (scDst d) ((first + q.2) * scStateBytes d) (stateBytes (scOut d) q.1)).countSteps n (s.pipeMask n (first + q.2))) o.2
    else o.2

/-- PIPE step `k`: every layer whose block exists (R510). -/
def State.pipeStepWork (s : State) (n k : Nat) (ecc : EccResult) : State :=
  let d := (s.task n).desc
  let b := s.pipeBlock n
  let blocks := (scSteps d + b.blk - 1) / b.blk
  ((List.range b.g).foldl (fun (acc : State) g =>
    if (acc.task n).st = 2 ∧ g ≤ k ∧ k - g < blocks then acc.pipeLayerWork n g (k - g) ecc else acc) s).setRec n .block (k + 1)

/-- A PIPE block that breaks its rules ends the task with BAD_DESCRIPTOR and DETAIL 5, and a Ledger entry (R508, R551). -/
def State.pipeBad (s : State) (n : Nat) : State :=
  (s.record 0x64 6 (scSrc (s.task n).desc % 2 ^ 32) (.tag32 (s.tagOf n))).finish n 12 5

/-- One PIPE step: the x records of block k, then the layers. -/
def State.pipeWork (s : State) (n : Nat) (ecc : EccResult) : Option State :=
  let d := (s.task n).desc
  let r := s.routine n
  if r.closing then s.scanEnd n
  else if r.buf.isEmpty then
    let p := s.localBytes n (scSrc d) 320 ecc
    match p.1 with
    | none => if p.2 = s then none else some p.2
    | some none => some p.2
    | some (some x) =>
      if (parsePipe x).good (scRows d) (scWidth d) (scMask d) (descRegion d) (descRegionSize d) then
        some (p.2.withRoutine n (fun q => { q with buf := x.map (·.toNat) }))
      else some (p.2.pipeBad n)
  else
    let b := s.pipeBlock n
    let k := s.recd n .block
    let blocks := (scSteps d + b.blk - 1) / b.blk
    if blocks + b.g - 1 ≤ k then some (s.scanClose n)
    else if blocks ≤ k then some (s.pipeStepWork n k ecc)
    else
      let first := k * b.blk
      let count := min b.blk (scSteps d - first)
      let len := pipeXBytes (scRows d) b.inp (scIn d) (scReset d)
      s.withPiece n b.x (scSteps d * len) (first * len) (count * len) ecc (fun a x =>
        let xs := pipeX (scRows d) b.inp (scIn d) (scReset d) count x
        let a1 := a.withRoutine n (fun q => { q with
          inA := fillMap [] 0 (xs.flatMap (·.1))
          inCuts := xs.zipIdx.foldl (fun (acc : Map Nat) p => mset acc (first + p.2) p.1.2 0) q.inCuts })
        a1.pipeStepWork n k .ok)

/-! ### Starting (R499) -/

/-- Whether slot `n` may take a step of a SCAN of this mode: no row of its mask is busy or held by another task. -/
def State.scanDue (s : State) (n mode : Nat) : Bool :=
  let d := (s.task n).desc
  s.routineDue n 6 && scMode d == mode && (s.rowsBusy &&& scMask d) == 0 && (rowsOf (scMask d)).all (fun r => !s.heldByOther n r)

/-- A SCAN's record at its first step: it holds its rows, and its accumulators take their first values: the identity, the
initial state, or +0. The window's entry is unread at the start of every step (R498, R499, R507, R509). -/
def State.scanStart (s : State) (n : Nat) (ecc : EccResult) : State :=
  let d := (s.task n).desc
  let mode := scMode d
  if (mfind s.routines n).isSome then
    if mode = 2 then s.withRoutine n (fun r => { r with buf := [], pos := 0 }) else s
  else
    let s1 := ((s.newRecord n (if mode = 2 then 3 else if mode = 3 then 4 else 0)).bump Ctr.LOOM_SCANS_STARTED 1).holdRows n (scMask d)
    let zero := List.replicate (scN d) 0
    if mode = 2 then
      let h := s1.scanInit n ecc
      (h.2.loomFill (scMask d) (scN d) accB (h.1.getD zero)).withRoutine n (fun r => { r with entry := scSrc d })
    else if mode = 3 then
      (rowsOf (scMask d)).foldl (fun (acc : State) r => acc.loomFill (2 ^ r) (scN d) accB zero) s1
    else (s1.loomFill (scMask d) (scN d) accA (List.replicate (scN d) f32One)).loomFill (scMask d) (scN d) accB zero

/-- OP_SCAN_CARRY (R502, R503): one routine step of at most `blocks` pieces of work; `eccs` is what the reads find. -/
def execOpScanCarry (slot blocks : Nat) (eccs : List EccResult) (s : State) : Out :=
  if s.scanDue slot 0 then ok ((s.scanStart slot .ok).routineStep slot blocks eccs (fun a e => a.carryWork slot e)) else ok s

/-- OP_SCAN_CHUNK (R502, R503). -/
def execOpScanChunk (slot blocks : Nat) (eccs : List EccResult) (s : State) : Out :=
  if s.scanDue slot 1 then ok ((s.scanStart slot .ok).routineStep slot blocks eccs (fun a e => a.chunkWork slot e)) else ok s

/-- OP_SCAN_STREAM (R506, R507); at the first step the first finding is that of the initial state. -/
def execOpScanStream (slot blocks : Nat) (eccs : List EccResult) (s : State) : Out :=
  if s.scanDue slot 2 then
    ok ((s.scanStart slot (eccs.headD .ok)).routineStep slot blocks
      (if (mfind s.routines slot).isSome then eccs else eccs.tail) (fun a e => a.streamWork slot e))
  else ok s

/-- OP_SCAN_PIPE (R508 to R510). -/
def execOpScanPipe (slot blocks : Nat) (eccs : List EccResult) (s : State) : Out :=
  if s.scanDue slot 3 then ok ((s.scanStart slot .ok).routineStep slot blocks eccs (fun a e => a.pipeWork slot e)) else ok s

/-! ### Curve tables (R513) -/

/-- Whether a live task holds a capture of a curve bank. -/
def State.bankHeld (s : State) (bank : Nat) : Bool :=
  s.liveSlots.any (fun n => decide (2 ≤ (s.task n).st) && (s.task n).bank == bank)

/-- A write of word `k` of the table that a path has selected: to the shadow bank, dropped while a swap is armed (R112)
or a live task holds a capture of that bank (R513). -/
def State.writeCurve (s : State) (path : Path) (k v : Nat) : State :=
  let t := s.rd (Reg.LOOM_PWL_SEL_TABLE path.num)
  if s.armed 0x64 then s.dropShadow 0x64
  else if s.bankHeld (1 - s.rd Reg.LOOM_STATUS_ACTIVE_BANK) then
    ((s.loomNote 1 0).bump Ctr.LOOM_CURVE_WRITES_DROPPED 1).raise Err.LOOM_CURVE_BUSY
  else
    { s with shadow := { s.shadow with pwl := mset s.shadow.pwl (80 * t + k) (v % 2 ^ 32) 0 } }.wr (Hdr.SHADOW_WRITTEN 0x64) 1

/-- CURVE_SHADOW_WRITE (R513). -/
def execCurveShadowWrite (path : Path) (k : Nat) (val : Word) (s : State) : Out :=
  if k < 80 then ok (s.writeCurve path k val.toNat) else ok s

end Sys2Proof.Machine
end

