-- ==== Sys2Proof/Machine/Trace.lean ====
section
/-! DEFINITION. Sys2Proof/Machine/Trace.lean: control of the trace buffer and its stream to the host (spec/16 R447 to R449). -/

namespace Sys2Proof.Machine

/-- A write of TRACE_CTRL; writing EN = 1 clears FULL and FROZEN and restarts at the current write pointer (R448). -/
def State.writeTraceCtrl (s : State) (v : Nat) : State :=
  let s1 := (((((s.wrB Reg.TRACE_CTRL_TRIG_EN (bit v 5)).wrB Reg.TRACE_CTRL_ROW_FILTER (bit v 4)).wrB
    Reg.TRACE_CTRL_TAG_FILTER (bit v 3)).wrB Reg.TRACE_CTRL_STREAM (bit v 2)).wrB Reg.TRACE_CTRL_WRAP (bit v 1)).wrB
    Reg.TRACE_CTRL_EN (bit v 0)
  if bit v 0 then
    let s2 := (s1.wr Reg.TRACE_STATUS_FULL 0).wr Reg.TRACE_STATUS_FROZEN 0
    { s2 with mill := { s2.mill with trace := { s2.mill.trace with count := 0, after := none, fired := false } } }
  else s1

/-- TRACE_CTRL_WRITE (R448). -/
def execTraceCtrlWrite (val : Word) (s : State) : Out := ok (s.writeTraceCtrl val.toNat)

/-- The bytes of a group of 256 records. -/
def State.traceGroup (s : State) (g : Nat) : List Byte :=
  (List.range 256).flatMap (fun i => padTo 16 (mget s.mill.trace.recs (256 * g + i) []))

/-- The window address of the next group: successive 4 KiB offsets within TRACE_STREAM_SIZE (R449). -/
def State.traceAddr (s : State) : Nat :=
  2 ^ 32 * s.rd Reg.TRACE_STREAM_HI_ADDR + 4096 * (s.rd Reg.TRACE_STREAM_LO_ADDR + s.mill.trace.sent % s.rd Reg.TRACE_STREAM_SIZE_KIB4)

/-- Send the oldest group that waits, as one DBG transaction; a window that refuses it drops it (R182, R449). -/
def State.streamGroup (s : State) (g : Nat) (rest : List Nat) : State :=
  let a := s.traceAddr
  let w := bits a 32 8
  let e := s.window w
  let s1 : State := { s with mill := { s.mill with trace :=
    { s.mill.trace with groups := rest, sent := (s.mill.trace.sent + 1) % s.rd Reg.TRACE_STREAM_SIZE_KIB4 } } }
  if e.admits true (a % 2 ^ 32) 4096 then
    (s1.hostTx { cls := 3, op := 0x31, byte1 := e.attr, tag := 0, addr := (e.base + a % 2 ^ 32) % 2 ^ 64, len := 4096,
                 data := s.traceGroup g, slot := 64 }).bump Ctr.TRACE_GROUPS_STREAMED 1
  else ((s1.windowFault w).bump Ctr.TRACE_RECORDS_DROPPED 256).raise Err.TRACE_TRACE_DROPPED

/-- TRACE_GROUP_STREAM (R449): where DBG is advertised and credit lets a group out. -/
def execTraceGroupStream (s : State) : Out :=
  match s.mill.trace.groups with
  | [] => ok s
  | g :: rest =>
    if s.is Reg.TRACE_CTRL_STREAM && s.farDbg && s.rd Reg.TRACE_STREAM_SIZE_KIB4 != 0 && mget s.uahus.credits 3 0 != 0 then
      ok (s.streamGroup g rest)
    else ok s

end Sys2Proof.Machine
end

