-- ==== Sys2Proof/Machine/Access.lean ====
section
/-! DEFINITION. Sys2Proof/Machine/Access.lean: word access to the address space of R96: the register pages with the
access codes of R9, the table views (R326), the Ledger ring and the trace buffer (R549). -/

namespace Sys2Proof.Machine

/-! ### Fields that are computed when read -/

/-- A truth value at a place. -/
def optIf (c : Bool) (v : Nat) : Option Nat := if c then some v else none

/-- BOOT, ALARM, LEDGER and TELEM fields (R147, R534, R555, R524, R528). -/
def State.viewLow (s : State) (path : Path) (page off lo : Nat) : Option Nat :=
  if page = 0x03 ∧ off = 0x118 ∧ lo = 0 then
    some ((List.range 8).foldl (fun m f => if s.relockDone f then setBit m f else m) 0)
  else if page = 0x05 ∧ off = 0x100 ∧ lo = 30 then some (b2n (s.anyErr (· == 1)))
  else if page = 0x05 ∧ off = 0x100 ∧ lo = 31 then some (b2n (s.anyErr (2 ≤ ·)))
  else if page = 0x06 ∧ off = 0x108 ∧ lo = 5 then some s.ledger.gasp.length
  else if page = 0x06 ∧ 0x800 ≤ off then
    some (entryWord (s.ledger.gasp.getD ((off - 0x800) / 32) Entry.empty) ((off - 0x800) / 4 % 8))
  else if page = 0x07 ∧ off = 0x128 then
    let a := s.age (32 * s.rd (Reg.TELEM_AGE_SEL_SOURCE path.num) + s.rd (Reg.TELEM_AGE_SEL_LINE path.num))
    some (if lo = 16 then a.first.getD 0 else ofSigned 16 a.rise)
  else if page = 0x07 ∧ off = 0x144 then some (mget s.calib.errors (s.rd (Reg.TELEM_BIST_SEL_LINK path.num)) 0)
  else none

/-- Whether SMB_ALERT_N is driven (R565). -/
def State.smbAlert (s : State) : Bool :=
  (s.is Reg.MGMT_SMB_CTRL_ALERT_EN && s.mgmt.rose) || (s.is Reg.MGMT_SMB_CTRL_ALERT_MBX && s.mgmt.ready)

/-- Requests that a mailbox channel has queued (R576). -/
def State.queued (s : State) (chan : Nat) : Nat := (s.mgmt.queue.filter (fun r => r.chan == chan)).length

/-- MGMT fields (R580). -/
def State.viewMgmt (s : State) (off lo : Nat) : Option Nat :=
  if off = 0x104 ∧ lo = 8 then some (b2n s.smbAlert)
  else if off = 0x110 then
    some (if lo = 24 then satAt 255 s.mgmt.tx.length else if lo = 8 then s.mgmt.rx.length
      else if lo = 1 then b2n (s.mgmt.needHigh == 16) else b2n s.mgmt.broken)
  else if off = 0x114 ∧ lo < 16 then some (s.queued (lo / 4))
  else none

/-- The error of a loop's last update as signed Q1.15 (R244; log entry 10). -/
def Loop.errQ15 (l : Loop) : Nat := ofSigned 16 (clampI (-32768) 32767 (32768 * l.eNum / l.eDen))

/-- The word of a loop's state (R244): field at bit `lo`. -/
def State.viewLoop (s : State) (h i off lo : Nat) : Nat :=
  let l := (s.hearth h).loop i
  let q := i % 4
  if off = 0x144 then
    if lo = 29 then l.st
    else if lo = 28 then b2n l.sign
    else if lo = 27 then b2n ((q == 1 && s.spareMod (i / 128) (i % 128 / 4)) || (q == 2 && s.spareDrop (i / 128) (i % 128 / 4)))
    else l.errQ15
  else if lo = 16 then (if q = 1 ∨ q = 3 then ofSigned 16 l.second else 0)
  else ofSigned 16 l.base

/-- The row of the crosstalk matrices that a path has selected on a Hearth page (R233). -/
def State.xtRow (s : State) (path : Path) (h : Nat) : Nat :=
  256 * s.rd (Reg.HEARTH_XT_SEL_FERRY h path.num) + s.rd (Reg.HEARTH_XT_SEL_ROW h path.num)

/-- Fields of a Hearth page (R233, R244). -/
def State.viewHearth (s : State) (path : Path) (h off lo : Nat) : Option Nat :=
  let inState (q : Nat → Bool) : Nat := ((s.hearth h).loops.filter (fun p => q p.2.st)).length
  if off = 0x104 then some (if lo = 0 then inState (· == 3) else inState (fun n => n == 2 || n == 5))
  else if off = 0x144 ∨ off = 0x148 then some (s.viewLoop h (s.rd (Reg.HEARTH_LOOP_SEL_LOOP h path.num)) off lo)
  else if 0x184 ≤ off ∧ off ≤ 0x194 then
    some (xtElem (s.active.xt h) (s.xtRow path h) (2 * ((off - 0x184) / 4) + lo / 16))
  else none

/-- HTR fields: the code of the selected heater, the sample of the selected channel (R211, R217). -/
def State.viewHtr (s : State) (path : Path) (off : Nat) : Option Nat :=
  if off = 0x108 then some (s.code (s.rd (Reg.HTR_HTR_SEL_HEATER path.num)))
  else if off = 0x110 then some (s.sampleWord (s.rd (Reg.HTR_MON_SEL_CHANNEL path.num)))
  else none

/-- The selected window entry of the active table (R183). -/
def State.viewWindow (s : State) (path : Path) (off lo : Nat) : Option Nat :=
  let e := s.window (s.rd (Reg.UAHUS_WIN_SEL_WIN path.num))
  if off = 0x144 then some (bits e.base 12 20)
  else if off = 0x148 then some (e.base / 2 ^ 32)
  else if off = 0x14C then
    some (if lo = 24 then e.attr else if lo = 23 then b2n e.write else if lo = 22 then b2n e.read else e.pages)
  else none

/-- TASK fields (R378). -/
def State.viewTask (s : State) (path : Path) (off lo : Nat) : Option Nat :=
  let n := s.rd (Reg.TASK_SEL_SLOT path.num)
  let t := s.task n
  let live (base : Nat) : Nat :=
    (List.range 32).foldl (fun m i => if (s.task (base + i)).st = 0 then m else setBit m i) 0
  if off = 0x100 then some (64 - s.liveSlots.length)
  else if off = 0x104 then some (live 0)
  else if off = 0x108 then some (live 32)
  else if off = 0x114 then some (if lo = 28 then t.st else if lo = 16 then descOp t.desc else descGroup t.desc)
  else if off = 0x118 then some (descTag t.desc)
  else if off = 0x11C then some t.progress
  else if off = 0x120 then some t.start
  else if off = 0x124 then some t.counted
  else none

/-- WEIR_LINKk (R349). -/
def State.viewWeir (s : State) (k lo : Nat) : Nat :=
  let c := s.credit k
  if lo = 24 then satAt 255 ((c.heard + 2 ^ 32 - c.spent) % 2 ^ 32)
  else if lo = 16 then s.cellsOf k
  else if lo = 8 then
    (s.sched.cells.filter (fun x => x.link == k)).length + (s.sched.openReads.filter (fun r => r.link == k)).length
  else satAt 255 ((s.sched.opens.filter (fun x => x.out == k)).length
    + (s.sched.cells.filter (fun x => x.out == some k)).length)

/-- MILLER_STATUS (R417). -/
def State.viewMiller (s : State) (lo : Nat) : Nat :=
  let on (tail : Bool) : List Nat := (s.mill.progs.filter (fun p => p.2.running && p.2.tail == tail)).map (·.1)
  if lo = 31 then b2n !(on true).isEmpty
  else if lo = 30 then b2n !(on false).isEmpty
  else if lo = 16 then (on true).headD 0
  else if lo = 8 then (on false).headD 0
  else s.rowsBusy

/-- MILL_CORE_STATUS of a core (R418). -/
def State.viewCore (s : State) (c lo : Nat) : Nat :=
  let k := s.core c
  let len (i : Nat) : Nat := (s.stream (c / 16) i).queue.length
  if lo = 28 then k.sq.length
  else if lo = 24 then ((List.range 4).map (fun i => (mget k.q i []).length)).foldl max 0
  else if lo = 15 then len 3 else if lo = 10 then len 2 else if lo = 5 then len 1 else len 0

/-- Data-plane fields: CMD, TASK, SCHED, WEIR and the Mill's pages. -/
def State.viewHigh (s : State) (path : Path) (page off lo : Nat) : Option Nat :=
  if page = 0x50 ∧ off = 0x104 ∧ lo = 16 then some s.ring.cancels.length
  else if page = 0x50 ∧ off = 0x104 ∧ lo = 1 then some (b2n s.quiet)
  else if page = 0x51 then s.viewTask path off lo
  else if page = 0x52 ∧ off = 0x104 then some (setVersion s.active.sched)
  else if page = 0x52 ∧ off = 0x108 then some (setVersion s.shadow.sched)
  else if page = 0x53 ∧ 0x200 ≤ off ∧ off < 0x600 then some (s.viewWeir ((off - 0x200) / 4) lo)
  else if page = 0x60 ∧ off = 0x100 then some (s.viewMiller lo)
  else if page = 0x60 ∧ off = 0x104 then some s.freeKib
  else if page = 0x61 ∧ off = 0x104 then some s.rowModes
  else if page = 0x61 ∧ off = 0x144 then some (s.viewCore (s.rd (Reg.MILL_CORE_SEL_CORE path.num)) lo)
  else if page = 0x62 ∧ off = 0x110 then some s.lowBank
  else if page = 0x62 ∧ off = 0x114 then some (s.bank s.lowBank).left
  else if page = 0x64 ∧ off = 0x100 ∧ lo ≠ 0 then
    some ((s.liveSlots.filter (fun n => 2 ≤ (s.task n).st && (s.task n).bank == lo / 16)).length)
  else if page = 0x64 ∧ 0x400 ≤ off ∧ off < 0x540 then
    some (mget s.active.pwl (80 * s.rd (Reg.LOOM_PWL_SEL_TABLE path.num) + (off - 0x400) / 4) 0)
  else none

/-- What a field that is computed when read shows; none: the stored value. -/
def State.viewed (s : State) (path : Path) (page off lo : Nat) : Option Nat :=
  if page < 8 then s.viewLow path page off lo
  else if page = 0x08 then s.viewMgmt off lo
  else if page = 0x0A ∨ page = 0x0B then s.viewHearth path (page - 0x0A) off lo
  else if page = 0x0C then s.viewHtr path off
  else if page = 0x40 then s.viewWindow path off lo
  else if 0x50 ≤ page then s.viewHigh path page off lo
  else none

/-! ### Reading a page -/

/-- What a field shows to a path (R9, R105). -/
def State.fieldValue (s : State) (path : Path) (f : Fld) (a : Acc) : Nat :=
  match a with
  | .wo => 0
  | .sel => s.rd (f.at (2 + path.num))
  | _ => (s.viewed path f.page f.off f.lo).elim (s.rd f) (· % 2 ^ f.width)

/-- A word of a page's block-specific registers: its fields at their places; reserved bits and offsets read 0. -/
def State.blockWord (s : State) (path : Path) (page off : Nat) : Nat :=
  (fieldsAt page off).foldl (fun w p => w + s.fieldValue path p.1 p.2 * 2 ^ p.1.lo) 0

/-- PG_STATUS (R101): BLOCK_STATUS is 0 on every page. -/
def State.pgStatus (s : State) (p : Nat) : Nat :=
  s.rd (Hdr.READY p) + 2 * s.rd (Hdr.SRST_BUSY p) + 4 * b2n (s.frozen && dataPlanePage p) + 8 * b2n (s.unmasked p != 0)

/-- PG_SWAP; a page without shadowed state reads 0 (R97, R108). -/
def State.pgSwap (s : State) (p : Nat) : Nat :=
  if !shadowOk p then 0
  else s.rd (Hdr.SWAPS p) * 2 ^ 24 + s.rd (Hdr.SWAP_STATE p) * 64 + (if p = 0x52 then 1 else s.rd (Hdr.FOLLOW p)) * 32
    + s.rd (Hdr.DEV p) * 16 + s.rd (Hdr.SHADOW_WRITTEN p) * 8

/-- PG_ERR_CLASS as a path reads it (R105). -/
def State.pgClass (s : State) (path : Path) (p : Nat) : Nat :=
  let b := s.rd (Hdr.CLASS_SEL p path.num)
  s.rd (Hdr.CLASS p b) + 256 * b + 2 ^ 16 * b2n (classFixed p b)

/-- A word of the common header or tail, counters apart (R97 to R119). -/
def State.headerWord (s : State) (path : Path) (p off : Nat) : Nat :=
  if off = 0x00 then blockType p * 2 ^ 16 + blockInstance p * 256 + 1
  else if off = 0x04 then 0x100
  else if off = 0x08 then
    numCounters p + 256 * b2n (shadowOk p) + 512 * b2n (injectOk p) + 1024 * b2n (srstOk p)
  else if off = 0x0C then 1 + 4 * s.rd (Hdr.SNAP_VIEW p)
  else if off = 0x10 then s.pgStatus p
  else if off = 0x14 then s.rd (Hdr.PG_ERR p)
  else if off = 0x18 then s.rd (Hdr.PG_ERR_MASK p)
  else if off = 0x1C then
    s.rd (Hdr.PG_ERR_FIRST_VALID p) * 2 ^ 31 + s.rd (Hdr.PG_ERR_FIRST_CODE p) * 2 ^ 26 + s.rd (Hdr.PG_ERR_FIRST_BELL p)
  else if off = 0x20 then s.rd (Hdr.INJ_CHECKER p) * 2 ^ 24 + s.rd (Hdr.INJ_COUNT p)
  else if off = 0x24 then s.pgClass path p
  else if off = 0x28 then s.pgSwap p
  else if off = 0x2C then (if shadowOk p then s.swapBell p % 2 ^ 32 else 0)
  else if off = 0x30 then (if shadowOk p then s.swapBell p / 2 ^ 32 else 0)
  else if off = 0x38 then s.rd (Hdr.SNAP_BELL p) % 2 ^ 32
  else if off = 0x3C then s.rd (Hdr.SNAP_BELL p) / 2 ^ 32
  else if off = 0xFF0 then s.rd (Hdr.CNT_OVF p)
  else 0

/-- A read of a counter half (R115, R119); offsets beyond the page's counters read 0. -/
def State.counterWord (s : State) (path : Path) (p off : Nat) : Nat × State :=
  let n := (off - 0x40) / 8
  if numCounters p ≤ n then (0, s)
  else if off % 8 = 0 then s.ctrReadLo path p n
  else (s.ctrReadHi path p n, s)

/-- The RC fields of a word clear when it is read (R9, R298). -/
def State.clearRc (s : State) (page off : Nat) : State :=
  (fieldsAt page off).foldl (fun (acc : State) p => if p.2 = .rc then acc.wr p.1 0 else acc) s

/-- A read of an aligned word of a present page. -/
def State.readPage (s : State) (path : Path) (page off : Nat) : Nat × State :=
  if off < 0x40 ∨ 0xFF0 ≤ off then (s.headerWord path page off, s)
  else if off < 0x100 then s.counterWord path page off
  else if page = 0x01 ∧ off = 0x108 then s.bellNumLo path
  else if page = 0x01 ∧ off = 0x10C then (s.bellNumHi path % 65536, s)
  else if page = 0x04 ∧ off = 0x108 then
    (s.boot.nonce % 2 ^ 32, { s with boot := { s.boot with
      nonceHold := mset s.boot.nonceHold path.num (s.boot.nonce / 2 ^ 32) 0 } })
  else if page = 0x04 ∧ off = 0x10C then (mget s.boot.nonceHold path.num 0, s)
  else (s.blockWord path page off, s.clearRc page off)

/-! ### Writing a page -/

/-- The page fields of the two Hearth pages that a write through either reaches on both (R229, R233, R261). -/
def hearthShared (off : Nat) : Bool :=
  [0x100, 0x110, 0x114, 0x118, 0x11C, 0x120, 0x124, 0x128, 0x12C, 0x130, 0x134, 0x138, 0x1A0, 0x1A4, 0x308, 0x30C].contains off

/-- The pages that a write of a block-specific register reaches. -/
def reachedPages (page off : Nat) : List Nat :=
  if (page = 0x0A ∨ page = 0x0B) ∧ hearthShared off then [0x0A, 0x0B] else [page]

/-- The effect of a word on one field by its access code (R9). -/
def State.writeField (s : State) (path : Path) (v : Nat) (f : Fld) (a : Acc) : State :=
  let x := bits v f.lo f.width
  match a with
  | .rw => s.wr f x
  | .w1c => s.wr f (s.rd f - (s.rd f &&& x))
  | .rws => (s.wr (f.at 1) x).wr (Hdr.SHADOW_WRITTEN f.page) 1
  | .sel => s.wr (f.at (2 + path.num)) x
  | .ro | .wo | .rc | .view => s

/-- Every field of a word (R9); a write of RWS fields while a swap is armed is dropped (R112). -/
def State.writeFields (s : State) (path : Path) (page off v : Nat) : State :=
  if (fieldsAt page off).any (fun p => p.2 = .rws) && s.armed page then s.dropShadow page
  else
    (reachedPages page off).foldl (fun (acc : State) q =>
      (fieldsAt q off).foldl (fun (a : State) p => a.writeField path v p.1 p.2) acc) s

/-- A write of a word of the selected crosstalk row: to the shadow of both Hearths (R233). -/
def State.writeXt (s : State) (path : Path) (h m v : Nat) : State :=
  if s.armed (0x0A + h) then s.dropShadow (0x0A + h)
  else
    let k := 9 * s.xtRow path h + 2 * m
    let put (t : Map Nat) : Map Nat :=
      let t1 := mset t k (v % 65536) (xtReset (2 * m))
      if m = 4 then t1 else mset t1 (k + 1) (v / 65536 % 65536) (xtReset (2 * m + 1))
    let s1 : State := { s with shadow := { s.shadow with xtA := put s.shadow.xtA, xtB := put s.shadow.xtB } }
    (s1.wr (Hdr.SHADOW_WRITTEN 0x0A) 1).wr (Hdr.SHADOW_WRITTEN 0x0B) 1

/-- A write of a word of the selected window entry: to the shadow (R183). -/
def State.writeWindow (s : State) (path : Path) (off v : Nat) : State :=
  if s.armed 0x40 then s.dropShadow 0x40
  else
    let w := s.rd (Reg.UAHUS_WIN_SEL_WIN path.num)
    let e := mget s.shadow.win w Window.blank
    let e' : Window :=
      if off = 0x144 then { e with base := e.base / 2 ^ 32 * 2 ^ 32 + bits v 12 20 * 4096 }
      else if off = 0x148 then { e with base := v % 2 ^ 32 * 2 ^ 32 + e.base % 2 ^ 32 }
      else { e with attr := bits v 24 8, write := bit v 23, read := bit v 22, pages := bits v 0 21 }
    { s with shadow := { s.shadow with win := mset s.shadow.win w e' Window.blank } }.wr (Hdr.SHADOW_WRITTEN 0x40) 1

/-- A write of CMD_CTRL (R353, R354, R357, R376). -/
def State.writeCmdCtrl (s : State) (v : Nat) : State :=
  let s1 := if bit v 0 then s.cmdEnable else s.cmdDisable
  let s2 := if bit v 1 then s1.ringResume else s1
  if bit v 2 then s2.breakResume else s2

/-- Registers whose write is an operation of its own, control plane. -/
def State.ownLow (s : State) (page off v : Nat) : Option State :=
  if page = 0x00 ∧ off = Reg.TOP_RESET_KEY.off then some (s.writeTopReset v)
  else if page = 0x00 ∧ off = Reg.TOP_SNAP_ALL.off then
    some (if bit v 0 then presentPages.foldl (fun (acc : State) p => acc.requestSnap p) s else s)
  else if page = 0x01 ∧ off = Reg.BELL_CTRL_ROOT.off then some (s.writeBellCtrl v)
  else if page = 0x01 ∧ 0x124 ≤ off ∧ off < 0x134 then some (s.writePref ((off - 0x124) / 4) v)
  else if page = 0x03 ∧ off = Reg.BOOT_ALM_CTRL_KEY.off then some (s.almCtrl v)
  else if page = 0x03 ∧ off = Reg.BOOT_FLASH_CMD_OP.off then some (s.flashCmd (v % 4))
  else if page = 0x04 ∧ off = Reg.SEC_DEBUG_CTRL_LOCK.off then some (s.debugLock v)
  else if page = 0x04 ∧ off = Reg.SEC_TOKEN_CTRL_SUBMIT.off then some (s.submitToken v)
  else if page = 0x04 ∧ off = Reg.SEC_SVN_CTRL_KEY.off then some (s.svnCtrl v)
  else if page = 0x05 ∧ off = Reg.ALARM_SUMMARY_BLOCKS.off then some (s.clearSummary v)
  else if page = 0x05 ∧ off = Reg.ALARM_CTRL_HOLD.off then some (s.writeAlarmCtrl v)
  else if page = 0x05 ∧ off = Reg.ALARM_RELEASE_RELEASE.off then some (if bit v 0 then s.alarmAskRelease else s)
  else if page = 0x05 ∧ off = Reg.ALARM_RESET_CLEAR.off then some (s.writeAlarmReset v)
  else if page = 0x06 ∧ off = Reg.LEDGER_CTRL_WRAP.off then some (s.writeLedgerCtrl v)
  else if page = 0x06 ∧ off = Reg.LEDGER_REARM_KEY.off then some (s.ledgerRearm v .ok)
  else if page = 0x06 ∧ off = Reg.LEDGER_RP_INDEX.off then some (s.writeRp v)
  else if page = 0x07 ∧ off = Reg.TELEM_AGE_RESET_SEL.off then some (s.ageReset v)
  else if page = 0x07 ∧ off = Reg.CALIB_REQ_KEY.off then some (s.calibRequest v)
  else if page = 0x08 ∧ off = Reg.MGMT_UART_DIV_DIV.off then
    some (if 20 ≤ v % 2048 then s.wr Reg.MGMT_UART_DIV_DIV v else s)
  else none

/-- Registers whose write is an operation of its own, light and data plane. -/
def State.ownHigh (s : State) (path : Path) (page off v : Nat) : Option State :=
  if page = 0x09 ∧ (Reg.LANTERN_SEL_LINE 0).off ≤ off ∧ off < (Reg.LANTERN_SEL_LINE 0).off + 64 then
    some (s.writeSel ((off - (Reg.LANTERN_SEL_LINE 0).off) / 4) v)
  else if (page = 0x0A ∨ page = 0x0B) ∧ 0x184 ≤ off ∧ off ≤ 0x194 then
    some (s.writeXt path (page - 0x0A) ((off - 0x184) / 4) v)
  else if (page = 0x0A ∨ page = 0x0B) ∧ off = 0x320 then some (s.switchRequest v)
  else if 0x20 ≤ page ∧ page < 0x40 ∧ page % 4 = 0 ∧ off = (Reg.FERRY_LANE_RESET_LINKS 0).off then
    some ((List.range 32).foldl (fun (acc : State) j =>
      if bit v j then acc.laneReset (32 * ((page - 0x20) / 4) + j) else acc) s)
  else if 0x20 ≤ page ∧ page < 0x40 ∧ page % 4 = 1 ∧ off = (Reg.FERRY_EQ_FREEZE_LINKS 0).off then
    some (s.writeFreeze ((page - 0x20) / 4) v)
  else if 0x20 ≤ page ∧ page < 0x40 ∧ page % 4 = 1 ∧ 0x200 ≤ off ∧ off < 0x400 then
    some (s.writeTaps ((page - 0x20) / 4) ((off - 0x200) / 16) (off % 16 / 4) v)
  else if page = 0x40 ∧ 0x144 ≤ off ∧ off ≤ 0x14C then some (s.writeWindow path off v)
  else if page = 0x50 ∧ off = Reg.CMD_CTRL_EN.off then some (s.writeCmdCtrl v)
  else if page = 0x50 ∧ off = Reg.CMD_TAIL_TAIL.off then some (s.writeTail v)
  else if page = 0x50 ∧ off = Reg.EVT_HEAD_HEAD.off then some (s.writeEvtHead v)
  else if page = 0x50 ∧ off = Reg.CMD_CANCEL_TAG.off then some (s.writeCancel v)
  else if page = 0x50 ∧ (off = 0x108 ∨ off = 0x10C ∨ off = 0x110 ∨ off = 0x120 ∨ off = 0x124 ∨ off = 0x128) then
    some (s.ringRegister off v)
  else if page = 0x52 ∧ off = Reg.SCHED_LAND_RESET_INDEX.off then some (s.askLandReset (v % 1024))
  else if page = 0x64 ∧ 0x400 ≤ off ∧ off < 0x540 then some (s.writeCurve path ((off - 0x400) / 4) v)
  else if page = 0x65 ∧ off = Reg.TRACE_CTRL_EN.off then some (s.writeTraceCtrl v)
  else none

/-- The one-bit actions that stand beside stored fields: TRIP_CLEAR, LINE_REARM, RETRAIN_ALL, RETRAIN, SPARE_REARM. -/
def State.actionBits (s : State) (page off v : Nat) : State :=
  if page = 0x0D ∧ off = Reg.THERMAL_CTRL_TRIP_CLEAR.off ∧ bit v 1 then s.tripClear
  else if page = 0x09 ∧ off = Reg.LANTERN_CTRL_LINE_REARM.off ∧ bit v 2 then s.lineRearm
  else if page = 0x40 ∧ off = Reg.UAHUS_CTRL_RETRAIN_ALL.off ∧ bit v 0 then s.retrainAll
  else if 0x41 ≤ page ∧ page ≤ 0x46 ∧ off = (Reg.BUNDLE_CTRL_RETRAIN 0).off ∧ bit v 0 then s.bundleRetrain (page - 0x41) 11
  else if page = 0x55 ∧ off = Reg.SHEPHERD_CTRL_SPARE_REARM.off ∧ bit v 2 then s.askRearm
  else s

/-- A write of a block-specific word. -/
def State.writeBlock (s : State) (path : Path) (page off v : Nat) : State :=
  match s.ownLow page off v with
  | some s1 => s1
  | none =>
    match s.ownHigh path page off v with
    | some s1 => s1
    | none => (s.writeFields path page off v).actionBits page off v

/-- A write of PG_CTRL: SNAP_VIEW, and SOFT_RESET on the Hearth pages (R100, R119). -/
def State.writePgCtrl (s : State) (p v : Nat) : State :=
  let s1 := s.wrB (Hdr.SNAP_VIEW p) (bit v 2)
  if bit v 1 && srstOk p then s1.softResetHearth (p - 0x0A) else s1

/-- A write of a word of the common header or tail. -/
def State.writeHeader (s : State) (path : Path) (p off v : Nat) : State :=
  if off = 0x0C then s.writePgCtrl p v
  else if off = 0x14 then s.clearErr p v
  else if off = 0x18 then s.writeMask p v
  else if off = 0x20 then s.writeInject p v
  else if off = 0x24 then s.writeClass path p v
  else if off = 0x28 then s.writeSwap p v
  else if off = 0x2C then s.writeSwapBell p false v
  else if off = 0x30 then s.writeSwapBell p true v
  else if off = 0x34 then (if bit v 0 then s.requestSnap p else s)
  else if off = 0xFF0 then s.wr (Hdr.CNT_OVF p) (s.rd (Hdr.CNT_OVF p) - (s.rd (Hdr.CNT_OVF p) &&& v))
  else s

/-- A write of an aligned word of a present page. -/
def State.writePage (s : State) (path : Path) (page off v : Nat) : State :=
  if off < 0x40 ∨ 0xFF0 ≤ off then s.writeHeader path page off v
  else if off < 0x100 then
    let n := (off - 0x40) / 8
    if numCounters page ≤ n then s
    else if off % 8 = 0 then s.ctrWriteLo path page n v else s.ctrWriteHi path page v
  else s.writeBlock path page off v

/-! ### The address space (R96, R98, R549) -/

/-- Whether a word address is mapped below the Granary: a present page, a table view, the Ledger ring or the trace
buffer. -/
def mappedCtl (a : Nat) : Bool :=
  if a < 0x100000 then pagePresent (a / 4096)
  else a < 0x210000 || (0x280000 ≤ a && a < 0x284000)

/-- An access to an absent page or an unmapped range (R98). -/
def State.unmapped (s : State) : State := (s.bump Ctr.TOP_UNMAPPED_ACCESSES 1).raise Err.TOP_UNMAPPED_ACCESS

/-- Whether an offset of a view belongs to one of the tables of R326. -/
def tableOffset (o : Nat) : Bool :=
  o < 4 || (0x1000 ≤ o && o < 0x19800) || (0x1A000 ≤ o && o < 0x26000) || (0x40000 ≤ o && o < 0x80000)

/-- A word of a schedule set (R326); reserved offsets read 0. -/
def schedWord (m : Map Byte) (o : Nat) : Nat := if tableOffset o then ofLe (readBytes m 0 o 4) else 0

/-- A write of a table view word: the active view ignores it and counts it; the shadow view takes it unless a swap is
armed (R112, R326). -/
def State.writeTable (s : State) (a v : Nat) : State :=
  if a < 0x180000 then s.bump Ctr.SCHED_TABLE_WRITES_IGNORED 1
  else if !tableOffset (a - 0x180000) then s
  else if s.armed 0x52 then s.dropShadow 0x52
  else
    { s with shadow := { s.shadow with sched := writeBytes s.shadow.sched 0 (a - 0x180000) (leBytes 4 v) } }.wr
      (Hdr.SHADOW_WRITTEN 0x52) 1

/-- A read of an aligned word below the Granary on a path; `ecc` is what the Ledger SRAM's check finds, where the ring
is read (R555). Answers the word, or none where the Ledger's read fails. -/
def State.readWord (s : State) (path : Path) (a : Nat) (ecc : EccResult := .ok) : Option Nat × State :=
  if !mappedCtl a then (some 0, s.unmapped)
  else if a < 0x100000 then
    let r := s.readPage path (a / 4096) (a % 4096)
    (some r.1, r.2)
  else if a < 0x180000 then (some (schedWord s.active.sched (a - 0x100000)), s)
  else if a < 0x200000 then (some (schedWord s.shadow.sched (a - 0x180000)), s)
  else if a < 0x210000 then
    let i := (a - 0x200000) / 32
    match ecc with
    | .uncorrectable => (none, s.ledgerFail i none false)
    | .corrected => (some (entryWord (s.ledgerEntry i) (a % 32 / 4)), s.ledgerCe)
    | .ok => (some (entryWord (s.ledgerEntry i) (a % 32 / 4)), s)
  else
    let r := padTo 16 (mget s.mill.trace.recs ((a - 0x280000) / 16) [])
    (some (ofLe ((r.drop (a % 16)).take 4)), s)

/-- A write of an aligned word below the Granary on a path; the Ledger ring and the trace buffer are read-only. -/
def State.writeWord (s : State) (path : Path) (a v : Nat) : State :=
  if !mappedCtl a then s.unmapped
  else if a < 0x100000 then s.writePage path (a / 4096) (a % 4096) v
  else if a < 0x200000 then s.writeTable a v
  else s

/-! ### The commands (R9, R98, R112, R298, R326) -/

/-- UNMAPPED_ACCESS (R98). -/
def execUnmappedAccess (path : Path) (addr : Nat) (s : State) : Out :=
  if mappedCtl addr ∨ (granaryBase ≤ addr ∧ addr < granaryEnd) then ok s else ok (s.unmapped.answer path 0)

/-- REGISTER_WRITE (R9): a write of an aligned word. -/
def execRegisterWrite (path : Path) (addr : Nat) (val : Word) (s : State) : Out :=
  if addr % 4 = 0 ∧ addr < 0x300000 then ok (s.writeWord path addr val.toNat) else ok s

/-- RC_REGISTER_READ (R9, R298): the value is returned and then cleared. -/
def execRcRegisterRead (path : Path) (addr : Nat) (s : State) : Out :=
  if addr % 4 = 0 ∧ addr < 0x300000 then
    let r := s.readWord path addr
    ok (r.2.answer path (r.1.getD 0))
  else ok s

/-- SHADOW_WRITE (R112): a write to shadowed state of a page. -/
def execShadowWrite (path : Path) (page off : Nat) (val : Word) (s : State) : Out :=
  if shadowOk page ∧ off % 4 = 0 ∧ off < 0x1000 then ok (s.writePage path page off val.toNat) else ok s

/-- TABLE_VIEW_WRITE (R326). -/
def execTableViewWrite (addr : Nat) (val : Word) (s : State) : Out :=
  if addr % 4 = 0 ∧ 0x100000 ≤ addr ∧ addr < 0x200000 then ok (s.writeTable addr val.toNat) else ok s

end Sys2Proof.Machine
end

