-- ==== Sys2Proof/Machine/Telemetry.lean ====
section
/-! DEFINITION. Sys2Proof/Machine/Telemetry.lean: the telemetry record and its routes (spec/20 R529 to R531, spec/22
R579). -/

namespace Sys2Proof.Machine

/-- What a telemetry epoch gathers bell by bell, at the end of the running bell (R529). -/
def State.telemTick (s : State) : State :=
  let t := s.telem
  let reading := s.rdI Reg.THERMAL_HOTTEST_TEMP
  let hotter := t.hottest.elim true (fun h => decide (h < reading))
  let st := s.rd Reg.BELL_STATUS_STATE
  { s with telem := { t with
      band := max t.band (s.rd Reg.THERMAL_STATUS_BAND)
      sensor := if hotter then s.rd Reg.THERMAL_STATUS_HOT_SENSOR else t.sensor
      hottest := if hotter then some reading else t.hottest
      power := max t.power (s.rd Reg.HTR_STATUS_POWER)
      timed := t.timed && (st == 2 || st == 4 || st == 5) } }

/-- The counters whose increase a record carries, in the order of R529. -/
def trackedCtrs : List Ctr :=
  (List.range 8).map (fun f => Ctr.CNT_FEC_CORRECTED_SYMBOLS f)
    ++ (List.range 8).map (fun f => Ctr.CNT_FEC_UNCORRECTABLE_CODEWORDS f)
    ++ (List.range 8).map (fun f => Ctr.CNT_REPLAYS_SENT f)
    ++ [Ctr.UAHUS_REPLAYS, Ctr.GRANARY_CE_EVENTS, Ctr.GRANARY_UE_EVENTS, Ctr.GRANARY_SCRUB_LINES,
        Ctr.LEDGER_LEDGER_WRITTEN, Ctr.LEDGER_LEDGER_DROPPED]

/-- The increase of tracked counter `i` since the last capture, saturating at `m` (R529). -/
def State.sinceCapture (s : State) (i m : Nat) : Nat :=
  satAt m ((s.rd (trackedCtrs.getD i Ctr.UAHUS_REPLAYS).fld + 2 ^ 64 - mget s.telem.base i 0) % 2 ^ 64)

/-- The rise of a line in 0.1 %, if it has a first bias (R524). -/
def Ageing.permille (a : Ageing) : Option Nat :=
  match a.first with
  | none => none
  | some b => if b = 0 then none else some (satAt 65535 (1000 * a.rise / b).toNat)

/-- The AGE word: the largest rise, the lowest line of equals (R529). -/
def State.ageWord (s : State) : Nat :=
  let best := (List.range 64).foldl (fun (acc : Nat × Nat) k =>
    match (s.age k).permille with
    | none => acc
    | some r => if acc.1 < r then (r, k) else acc) (0, 0)
  best.1 + 2 ^ 16 * best.2

/-- The word that a register field belongs to, as the Reeve reads it. -/
def State.wordOf (s : State) (f : Fld) : List Byte := leBytes 4 (s.blockWord .reeve f.page f.off)

/-- The first bell of the epoch that has ended: the one before the running bell's, or the one that a join step cut
short (R529, R531). -/
def State.epochBell (s : State) : Nat :=
  if s.telem.joined then s.telem.first else 1024 * ((s.bellNum - 1) / 1024)

/-- Bytes 0–251 of the record (R529). -/
def State.telemBody (s : State) : List Byte :=
  let t := s.telem
  let n (k m i : Nat) : List Byte := leBytes k (s.sinceCapture i m)
  let w32 := 2 ^ 32 - 1
  let flags := s.rd Reg.DEVICE_STATE_UNTESTED + 2 * b2n (t.timed && !t.joined) + 4 * b2n t.restarted
  let ferries (g : Nat → List Byte) : List Byte := (List.range 8).flatMap g
  leBytes 6 s.epochBell ++ leBytes 1 1 ++ leBytes 1 flags ++ s.wordOf Reg.DEVICE_STATE_STATE ++ leBytes 4 s.nodeId
    ++ s.wordOf Reg.ALARM_SUMMARY_BLOCKS ++ s.wordOf (Reg.HEARTH_HEALTH_ROLE 0) ++ s.wordOf (Reg.HEARTH_HEALTH_ROLE 1)
    ++ s.wordOf (Reg.HEARTH_OWNER_OWNER 0) ++ s.wordOf Reg.BELL_STATUS_STATE ++ s.wordOf Reg.BELL_OFFSET_THETA
    ++ leBytes 1 (t.band + 4 * s.rd Reg.THERMAL_STATUS_TRIP) ++ leBytes 1 t.sensor
    ++ leBytes 2 (ofSigned 16 (t.hottest.getD 0)) ++ leBytes 2 t.power ++ leBytes 2 0
    ++ ferries (fun f => s.wordOf (Reg.FERRY_ACTIVE_LINKS f))
    ++ ferries (n 4 w32) ++ ferries (fun f => n 2 65535 (8 + f)) ++ ferries (fun f => n 2 65535 (16 + f))
    ++ s.wordOf Reg.UAHUS_STATUS_LINK ++ n 4 w32 24 ++ s.wordOf Reg.LANTERN_STATUS_A_LIGHT ++ leBytes 4 s.ageWord
    ++ n 4 w32 25 ++ n 4 w32 26 ++ n 4 w32 27 ++ leBytes 4 t.tasks ++ n 4 w32 28 ++ n 4 w32 29
    ++ s.wordOf Reg.CALIB_STATUS_KIND ++ List.replicate 64 0

/-- The record of the epoch that has ended (R529). -/
def State.telemRecord (s : State) : List Byte := s.telemBody ++ leBytes 4 (crc32c s.telemBody)

/-- A mailbox message (R575). -/
def mbxMessage (command seq status flags : Nat) (body : List Byte) : List Byte :=
  leBytes 2 command ++ leBytes 2 seq ++ leBytes 2 body.length ++ leBytes 1 status ++ leBytes 1 flags ++ leBytes 8 0 ++ body

/-- A message of the Reeve on the MGMT class (R175, R575). -/
def mgmtTx (m : List Byte) : HostTx :=
  { cls := 4, op := 0x41, byte1 := 0, tag := 0, addr := 0, len := m.length, data := m, slot := 64 }

/-- Whether a waiting transaction is a telemetry push: FLAGS.PUSH (R575). -/
def isPush (t : HostTx) : Bool := t.cls == 4 && t.op == 0x41 && bit (t.data.getD 7 0).toNat 1

/-- Push a record to the subscriber; one that still waits for MGMT credit is replaced and counted (R579). -/
def State.pushRecord (s : State) (r : List Byte) : State :=
  let m := mbxMessage 0x0002 (s.rd Reg.TELEM_STATUS_SEQ) 0 2 r
  match s.uahus.waiting.find? isPush with
  | some old =>
    { s with uahus := { s.uahus with waiting := s.uahus.waiting.map (fun t => if t = old then mgmtTx m else t) } }.bump
      Ctr.MGMT_TELEM_PUSHES_SKIPPED 1
  | none => (s.hostTx (mgmtTx m)).bump Ctr.MGMT_TELEM_PUSHES 1

/-- Write a record into the telemetry ring (R530). -/
def State.ringRecord (s : State) (e : Nat) (r : List Byte) : State :=
  if !s.is Reg.TELEM_CTRL_RING_EN then s
  else
    let a := 2 ^ 32 * s.rd Reg.TELEM_RING_HI_ADDR + 256 * s.rd Reg.TELEM_RING_LO_ADDR
      + 256 * (e % 2 ^ s.rd Reg.TELEM_RING_SIZE_SIZE)
    let w : Bool × State := s.hostWrite 64 (a % 2 ^ 40) r
    if w.1 then { w.2 with telem := { w.2.telem with refused := false } }.bump Ctr.TELEM_RECORDS_WRITTEN 1
    else if s.telem.refused then w.2
    else { w.2 with telem := { w.2.telem with refused := true } }.raise Err.TELEM_TELEM_DELIVERY

/-- Every d-th record goes out as a DIGEST (R523, R530). -/
def State.sendDigest (s : State) (r : List Byte) : State :=
  let d := s.rd Reg.TELEM_CTRL_DIGEST_EPOCHS
  if d = 0 ∨ s.rd Reg.TELEM_STATUS_SEQ % d ≠ 0 then s
  else
    let p := padTo 512 (leBytes 1 2 ++ leBytes 3 s.nodeId ++ leBytes 12 0 ++ r)
    (s.sendOpen 64 { Sheaf.empty with kind := 9, dest := s.rd Reg.TELEM_COLLECTOR_NODE, payload := p }).bump
      Ctr.TELEM_DIGESTS_SENT 1

/-- Every EVERY-th record is pushed to the subscriber (R577, R579). -/
def State.subscription (s : State) (r : List Byte) : State :=
  let n := s.rd Reg.MGMT_MBX_STATUS_SUB_EVERY
  if n = 0 then s
  else if s.telem.since + 1 < n then { s with telem := { s.telem with since := s.telem.since + 1 } }
  else { s with telem := { s.telem with since := 0 } }.pushRecord r

/-- Begin the next epoch: the counters as captured, nothing gathered (R529). -/
def State.newEpoch (s : State) : State :=
  let base := (List.range trackedCtrs.length).foldl (fun (m : Map Nat) i =>
    mset m i (s.rd (trackedCtrs.getD i Ctr.UAHUS_REPLAYS).fld) 0) []
  { s with telem := { s.telem with
      base := base, band := 0, sensor := 0, hottest := none, power := 0, timed := true, tasks := 0, restarted := false,
      joined := false, captured := s.ticks + 1 } }

/-- The record is complete in TELEM_REC, and the Reeve keeps it with the latest 16 (R530, R579). -/
def State.storeRecord (s : State) (r : List Byte) : State :=
  let s1 := (List.range 64).foldl (fun (acc : State) j =>
    acc.wr (Reg.TELEM_REC_WORD j) (ofLe ((r.drop (4 * j)).take 4))) s
  let s2 := { s1 with telem := { s1.telem with recs := (r :: s1.telem.recs).take 16 } }
  (s2.wr Reg.TELEM_STATUS_SEQ (s.rd Reg.TELEM_STATUS_SEQ + 1)).bump Ctr.TELEM_EPOCHS 1

/-- Whether a capture is due: the first bell of an epoch, or the bell of a join step, in service (R529, R531). -/
def State.captureDue (s : State) : Bool :=
  s.boot.running && (s.bellNum % 1024 == 0 || s.telem.joined) && s.telem.captured != s.ticks + 1

/-- TELEMETRY_CAPTURE (R529 to R531, R579). -/
def execTelemetryCapture (s : State) : Out :=
  if !s.captureDue then ok s
  else
    let r := s.telemRecord
    let e := s.epochBell / 1024
    ok ((((s.newEpoch.storeRecord r).ringRecord e r).sendDigest r).subscription r)

end Sys2Proof.Machine
end

