-- ==== Sys2Proof/Machine/Host.lean ====
section
/-! DEFINITION. Sys2Proof/Machine/Host.lean: transactions of the host as they are carried out (spec/06 R175 to R179):
Granary accesses, register accesses, completions of DMA reads, and debug requests. -/

namespace Sys2Proof.Machine

/-- `n` data bytes that the spec leaves open (log entry 34). -/
def State.freeBytes (s : State) (n : Nat) : List Byte × State :=
  ((List.range n).map (fun i => Config.freeByte (s.draws + i)), { s with draws := s.draws + n })

/-- CTL_UNSUPPORTED (R177). -/
def State.ctlUnsupported (s : State) : State :=
  (s.bump Ctr.UAHUS_CTL_UNSUPPORTED_ACCESSES 1).raise Err.UAHUS_CTL_UNSUPPORTED

/-- Answer a host read with a status and data that the spec leaves open (R177). -/
def State.completeBad (s : State) (cls op tag status addr len : Nat) : State :=
  let r := s.freeBytes len
  r.2.complete cls op tag status addr r.1

/-- Whether an access touches the register, table, Ledger or trace ranges. -/
def inCtlRange (addr : Nat) : Bool := addr < 0x300000

/-- A host's write into the Granary: a part refused for poison is recorded in the Ledger (R409, R551). -/
def State.hostStore (s : State) (a : Nat) (d : List Byte) : Bool × State :=
  (linePieces (d.length + 1) a d).foldl (fun (acc : Bool × State) q =>
    let r : Bool × State := acc.2.granaryWriteLine .host q.1 q.2 {}
    if r.1 then (acc.1, r.2) else (false, r.2.record 0x62 5 (64 * (q.1 / 64)))) (true, s)

/-- HOST_MEM_WRITE (R177, R409). An access that leaves the Granary counts as one of an unmapped range. -/
def execHostMemWrite (addr : Nat) (data : List Byte) (s : State) : Out :=
  let s1 := s.takeInbox 0 0x01 addr
  if inGranary addr data.length then ok ((s1.hostPort data.length).hostStore addr data).2
  else if inCtlRange addr then ok s1.ctlUnsupported
  else ok s1.unmapped

/-- HOST_MEM_READ (R177). -/
def execHostMemRead (tag addr len : Nat) (ecc : EccResult) (s : State) : Out :=
  let s1 := s.takeInbox 0 0x02 addr
  if inGranary addr len then
    let r := (s1.hostPort len).granaryRead .host addr len ecc
    match r.1 with
    | some d => ok (r.2.complete 0 0x03 tag 0 addr d)
    | none => ok (r.2.completeBad 0 0x03 tag 3 addr len)
  else if inCtlRange addr then ok (s1.ctlUnsupported.completeBad 0 0x03 tag 1 addr len)
  else ok (s1.unmapped.complete 0 0x03 tag 0 addr (List.replicate len 0))

/-- Whether a CTL access has no effect and is unsupported: not an aligned word, or the Granary (R8, R177). -/
def ctlRefused (addr len : Nat) : Bool := len != 4 || addr % 4 != 0 || (granaryBase ≤ addr && addr < granaryEnd)

/-- CTL_WRITE (R177): the Ledger ring is read-only. -/
def execCtlWrite (addr len : Nat) (val : Word) (s : State) : Out :=
  let s1 := s.takeInbox 1 0x11 addr
  if ctlRefused addr len ∨ (0x200000 ≤ addr ∧ addr < 0x210000) then ok s1.ctlUnsupported
  else ok (s1.writeWord .ctl addr val.toNat)

/-- CTL_READ (R177, R555): commands are carried out in order, so every earlier CTL write has taken effect. -/
def execCtlRead (tag addr len : Nat) (ecc : EccResult) (s : State) : Out :=
  let s1 := s.takeInbox 1 0x12 addr
  if ctlRefused addr len then ok (s1.ctlUnsupported.completeBad 1 0x13 tag 1 addr 4)
  else
    let r := s1.readWord .ctl addr ecc
    match r.1 with
    | some v => ok ((r.2.answer .ctl v).complete 1 0x13 tag 0 addr (leBytes 4 v))
    | none => ok (r.2.completeBad 1 0x13 tag 3 addr 4)

/-! ### Completions of DMA reads (R179, R344, R357) -/

/-- The bytes of a completion at their host addresses. -/
def putBytes (m : Map Byte) : Nat → List Byte → Map Byte
  | _, [] => m
  | a, b :: t => putBytes (mput m a b) (a + 1) t

/-- A completion for a GET_REQ that reads a window: the reply goes out when all its bytes are there (R344). -/
def State.openReadDone (s : State) (r : DmaRead) (good : Bool) (data : List Byte) : State :=
  match s.sched.openReads.find? (fun w => w.tags.contains r.tag) with
  | none => s
  | some w =>
    let drop (st : State) : State :=
      { st with sched := { st.sched with openReads := st.sched.openReads.erase w } }
    if !good then ((drop s).targetFault w.sheaf).cellDone w.link w.sheaf
    else
      let w' : OpenRead := { w with tags := w.tags.erase r.tag, got := putBytes w.got r.addr data }
      if w'.tags.isEmpty then
        ((drop s).getReply w.sheaf (readBytes w'.got 0 w.base (openLen w.sheaf))).cellDone w.link w.sheaf
      else { s with sched := { s.sched with openReads := s.sched.openReads.map (fun x => if x = w then w' else x) } }

/-- A completion for a descriptor read (R356, R357). -/
def State.ringReadDone (s : State) (r : DmaRead) (good : Bool) (data : List Byte) : State :=
  match s.ring.asked.find? (fun p => p.2 == r.tag) with
  | none => s
  | some p => if good then s.descriptorArrive p.1 data else s.ringFault 2 p.1

/-- A completion for a task's read: its bytes, or its end with DATA_ERROR. -/
def State.taskReadDone (s : State) (r : DmaRead) (good : Bool) (data : List Byte) : State :=
  if good then s.setTask r.slot { s.task r.slot with inbuf := putBytes (s.task r.slot).inbuf r.addr data }
  else s.failTask r.slot 9

/-- A MEM completion leaves the inbox. -/
def State.takeCompletion (s : State) (tag : Nat) : State :=
  match s.uahus.inbox.find? (fun t => t.cls == 0 && t.op == 0x03 && t.tag == tag) with
  | none => s
  | some t => { s with uahus := { s.uahus with inbox := s.uahus.inbox.erase t } }

/-- DMA_READ_COMPLETION (R179): one that no outstanding read awaits has no effect. -/
def execDmaReadCompletion (tag status : Nat) (data : List Byte) (s : State) : Out :=
  match s.uahus.reads.find? (fun r => r.tag == tag) with
  | none => ok (s.takeCompletion tag)
  | some r =>
    let s1 := (s.takeCompletion tag).memProgress
    let s2 : State := { s1 with uahus := { s1.uahus with reads := s1.uahus.reads.erase r } }
    let d := padTo r.len data
    let good := status == 0
    if r.slot < 64 then ok (s2.taskReadDone r good d)
    else if r.slot = 66 then ok (s2.ringReadDone r good d)
    else ok (s2.openReadDone r good d)

/-- DBG_REQUEST (R149, R175, R176): refused with ACCESS_FAULT before the unlock; after it answered with a debug
completion, whose data the spec does not give (log entry 34). -/
def execDbgRequest (tag addr len : Nat) (s : State) : Out :=
  let s1 := s.takeInbox 3 0x32 addr
  if s1.is Reg.SEC_STATUS_DEBUG_UNLOCKED then ok (s1.completeBad 3 0x33 tag 0 addr len)
  else ok (s1.completeBad 3 0x33 tag 2 addr len)

end Sys2Proof.Machine
end

