-- ==== Sys2Proof/Machine/Mailbox.lean ====
section
/-! DEFINITION. Sys2Proof/Machine/Mailbox.lean: the Reeve mailbox (spec/22 R575 to R579): arrival, the queue of the three
channels, and the commands. -/

namespace Sys2Proof.Machine

/-- SMBus and UART are served: no reset is held and TEST_EN is low (R560). -/
def State.portsUp (s : State) : Bool := s.boot.running && !s.pins.testEn

/-- The Reeve firmware serves the ports: from step 3 on, unless it is halted (R560, R574). -/
def State.reeveUp (s : State) : Bool := s.portsUp && decide (3 ≤ s.bootStep) && !s.reeveHalted

/-- A field of a message or of its body. -/
def msgNum (m : List Byte) (o n : Nat) : Nat := ofLe ((m.drop o).take n)

/-- The body of a message. -/
def msgBody (m : List Byte) : List Byte := m.drop 16

/-- Answer a request on its channel: a MGMT message, or the SMBus response buffer (R575, R576). -/
def State.mbxAnswer (s : State) (chan : Nat) (req : List Byte) (status : Nat) (body : List Byte) : State :=
  let m := mbxMessage (msgNum req 0 2) (msgNum req 2 2) status 1 body
  if chan = 0 then s.hostTx (mgmtTx m)
  else { s with mgmt := { s.mgmt with response := m, ready := true } }

/-- The commands of R577. -/
def knownCommand (c : Nat) : Bool := [0x0001, 0x0002, 0x0003, 0x0010, 0x0011, 0x0012, 0x0020].contains c

/-- Requests with an unknown command that have come to the front are answered UNKNOWN_COMMAND (R575). -/
def State.serveUnknown : Nat → State → State
  | 0, s => s
  | k + 1, s =>
    match s.mgmt.queue with
    | [] => s
    | r :: rest =>
      if s.reeveUp && r.chan != 2 && !knownCommand (msgNum r.bytes 0 2) then
        State.serveUnknown k ({ s with mgmt := { s.mgmt with queue := rest } }.mbxAnswer r.chan r.bytes 1 [])
      else s

/-- A request joins its channel's queue; false: four are queued already (R576). -/
def State.mbxQueue (s : State) (chan : Nat) (m : List Byte) : Bool × State :=
  if 4 ≤ s.queued chan then (false, (s.bump Ctr.MGMT_MBX_REFUSED 1).raise Err.MGMT_MBX_BUSY)
  else
    let s1 := { s with mgmt := { s.mgmt with queue := s.mgmt.queue ++ [({ chan := chan, bytes := m } : MbxReq)] } }
    (true, State.serveUnknown 16 (s1.bump Ctr.MGMT_MBX_REQUESTS 1))

/-- A request of the MGMT or the SMBus channel arrives (R576). -/
def State.mbxArrive (s : State) (chan : Nat) (m : List Byte) (tooBig : Bool) : State :=
  let refuse (status : Nat) : State := (s.bump Ctr.MGMT_MBX_REFUSED 1).mbxAnswer chan m status []
  if tooBig ∨ 1024 < m.length then refuse 6
  else if m.length < 16 ∨ m.length ≠ 16 + msgNum m 4 2 then refuse 2
  else
    let r := s.mbxQueue chan m
    if r.1 then r.2 else r.2.mbxAnswer chan m 3 []

/-- MGMT_MESSAGE (R575, R576). -/
def execMgmtMessage (msg : List Byte) (s : State) : Out := ok ((s.takeInbox 4 0x41 0).mbxArrive 0 msg false)

/-! ### The commands (R577, R578) -/

/-- The outcome of a request: STATUS, response body, and the state. -/
abbrev MbxOut := Nat × List Byte × State

/-- The Reeve serves the oldest request, if it is this command: `f` is given its channel and its body. -/
def State.serve (s : State) (command : Nat) (f : Nat → List Byte → State → MbxOut) : State :=
  match s.mgmt.queue with
  | [] => s
  | r :: rest =>
    if s.reeveUp && r.chan != 2 && msgNum r.bytes 0 2 == command then
      let o := f r.chan (msgBody r.bytes) { s with mgmt := { s.mgmt with queue := rest } }
      State.serveUnknown 16 (o.2.2.mbxAnswer r.chan r.bytes o.1 o.2.1)
    else s

/-- The 36 bytes of GET_INFO. -/
def State.infoBytes (s : State) : List Byte :=
  s.wordOf Reg.TOP_VENDOR_PART_PART ++ s.wordOf Reg.TOP_STEPPING_STEPPING ++ s.wordOf Reg.TOP_SERIAL_LO_SERIAL_LO
    ++ s.wordOf Reg.TOP_SERIAL_HI_SERIAL_HI ++ s.wordOf Reg.TOP_NODE_ID_NODE_ID ++ s.wordOf Reg.TOP_FW_REEVE_VERSION
    ++ s.wordOf Reg.TOP_FW_HEARTH_VERSION ++ s.wordOf Reg.TOP_PB_VERSION_MAJOR ++ s.wordOf Reg.DEVICE_STATE_STATE

/-- GET_INFO (R577). -/
def execGetInfo (s : State) : Out :=
  ok (s.serve 0x0001 (fun _ b st => if b.isEmpty then (0, st.infoBytes, st) else (2, [], st)))

/-- GET_TELEM (R577, R579). -/
def execGetTelem (s : State) : Out :=
  ok (s.serve 0x0002 (fun _ b st =>
    if b.length ≠ 2 ∨ 15 < msgNum b 0 2 then (2, [], st)
    else match st.telem.recs[msgNum b 0 2]? with
      | some r => (0, r, st)
      | none => (5, [], st)))

/-- SUB_TELEM (R577, R579). -/
def execSubTelem (s : State) : Out :=
  ok (s.serve 0x0003 (fun chan b st =>
    if chan ≠ 0 then (4, [], st)
    else if b.length ≠ 2 then (2, [], st)
    else (0, [], { st.wr Reg.MGMT_MBX_STATUS_SUB_EVERY (msgNum b 0 2) with telem := { st.telem with since := 0 } })))

/-- The length of the working copy's body; nothing where no copy is held. -/
def State.almLen (s : State) : Nat := if s.alm.held then s.alm.len else 0

/-- ALM_READ (R577). -/
def execAlmRead (s : State) : Out :=
  ok (s.serve 0x0010 (fun _ b st =>
    let o := msgNum b 0 4
    let n := msgNum b 4 2
    if b.length ≠ 6 ∨ n = 0 ∨ 1000 < n ∨ st.almLen < o + n then (2, [], st)
    else (0, readBytes st.alm.body 0 o n, st)))

/-- The working copy with bytes written at an offset: the body grows as needed, the gap is 0, and the CRC follows
(R578). -/
def State.almEdit (s : State) (o : Nat) (d : List Byte) : State :=
  let old : Map Byte := if s.alm.held then s.alm.body else []
  let len := max s.almLen (o + d.length)
  let body := writeBytes old 0 o d
  { s with alm := { s.alm with body := body, len := len, crc := crc32c (readBytes body 0 0 len), held := true, edited := true } }

/-- ALM_WRITE (R577, R578). -/
def execAlmWrite (s : State) : Out :=
  ok (s.serve 0x0011 (fun _ b st =>
    let o := msgNum b 2 4
    let d := b.drop 6
    if st.is Reg.BOOT_ALM_STATUS_COMMIT_BUSY then (3, [], st)
    else if b.length < 7 ∨ 1000 < d.length ∨ 2093056 < o + d.length then (2, [], st)
    else if msgNum b 0 1 ≠ 0xA5 then (4, [], st)
    else (0, [], st.almEdit o d)))

/-- ALM_COMMIT (R577, R578). -/
def execAlmCommit (s : State) : Out :=
  ok (s.serve 0x0012 (fun _ b st =>
    if st.is Reg.BOOT_ALM_STATUS_COMMIT_BUSY then (3, [], st)
    else if b.length ≠ 1 then (2, [], st)
    else if msgNum b 0 1 ≠ 0xA5 then (4, [], st)
    else (0, [], st.startCommit)))

/-- LEDGER_READ (R577): ring entries, or gasp entries from 0x8000. -/
def execLedgerRead (s : State) : Out :=
  ok (s.serve 0x0020 (fun _ b st =>
    let i := msgNum b 0 2
    let n := msgNum b 2 1
    let bytes (e : Entry) : List Byte := if e.seq = 0 then List.replicate 32 0 else entryBytes e
    if b.length ≠ 3 ∨ n = 0 ∨ 31 < n then (2, [], st)
    else if i + n ≤ 2048 then (0, (List.range n).flatMap (fun k => bytes (st.ledgerEntry (i + k))), st)
    else if 0x8000 ≤ i ∧ i + n ≤ 0x8008 then
      (0, (List.range n).flatMap (fun k => bytes (st.ledger.gasp.getD (i - 0x8000 + k) Entry.empty)), st)
    else (2, [], st)))

end Sys2Proof.Machine
end

