-- ==== Sys2Proof/Machine/Smbus.lean ====
section
/-! DEFINITION. Sys2Proof/Machine/Smbus.lean: the SMBus target and its register access (spec/22 R561 to R565). -/

namespace Sys2Proof.Machine

/-- The pages that the boot ROM serves in steps 0 to 2: TOP, BOOT and SEC (R128). -/
def romServes (a : Nat) : Bool := a / 4096 == 0 || a / 4096 == 3 || a / 4096 == 4

/-- STATUS of an access over SMBus, JTAG or the console before it is performed: 0 it may be, 2 REFUSED, 3 BUSY (R128,
R563). -/
def State.portStatus (s : State) (a : Nat) (write : Bool) : Nat :=
  if a % 4 ≠ 0 ∨ 0x300000 ≤ a ∨ (write ∧ 0x200000 ≤ a ∧ a < 0x210000) then 2
  else if s.bootStep < 3 ∧ !romServes a then 3
  else if mappedCtl a then 0 else 1

/-- A read by the rules of R563: STATUS, the word, and the state. -/
def State.portRead (s : State) (path : Path) (a : Nat) : Nat × Nat × State :=
  let st := s.portStatus a false
  if 2 ≤ st then (st, 0, s)
  else
    let r := s.readWord path a
    (st, r.1.getD 0, r.2)

/-- A write by the rules of R563: its STATUS and the state. -/
def State.portWrite (s : State) (path : Path) (a v : Nat) : Nat × State :=
  let st := s.portStatus a true
  if 2 ≤ st then (st, s) else (st, s.writeWord path a v)

/-- The bytes that the target returns. -/
def State.smbReturn (s : State) (d : List Byte) : State := { s with mgmt := { s.mgmt with smbOut := d } }

/-- A transaction that the target serves. -/
def State.smbServe (s : State) (f : State → State) : State :=
  if s.portsUp then f (s.bump Ctr.MGMT_SMB_TRANSACTIONS 1) else s

/-- A write command: a wrong PEC, or none where PEC_REQ asks for it, discards it (R561). -/
def State.smbWrite (s : State) (pec : Option Bool) (f : State → State) : State :=
  s.smbServe (fun st =>
    if pec = some false then
      ((st.bump Ctr.MGMT_SMB_NACKS 1).bump Ctr.MGMT_SMB_PEC_ERRORS 1).raise Err.MGMT_SMB_PEC
    else if pec = none ∧ st.is Reg.MGMT_SMB_CTRL_PEC_REQ then
      (st.bump Ctr.MGMT_SMB_PEC_ERRORS 1).raise Err.MGMT_SMB_PEC
    else f st)

/-- A mailbox command: the boot ROM does not serve it in steps 0 to 2 (R560). -/
def State.mbxServed (s : State) (f : State → State) : State :=
  if 3 ≤ s.bootStep then f s else s.bump Ctr.MGMT_SMB_NACKS 1

/-- READ_REG (R562, R563). -/
def execReadReg (addr : Nat) (s : State) : Out :=
  ok (s.smbServe (fun st =>
    let r := st.portRead .smbus addr
    (r.2.2.answer .smbus r.2.1).smbReturn (leBytes 1 r.1 ++ leBytes 4 r.2.1)))

/-- WRITE_REG (R562, R563). -/
def execWriteReg (addr : Nat) (val : Word) (pec : Option Bool) (s : State) : Out :=
  ok (s.smbWrite pec (fun st =>
    let r := st.portWrite .smbus addr val.toNat
    { r.2 with mgmt := { r.2.mgmt with wrote := r.1 } }))

/-- GET_STATUS (R562). -/
def execGetStatus (s : State) : Out :=
  ok (s.smbServe (fun st => st.smbReturn (st.wordOf Reg.DEVICE_STATE_STATE ++ st.wordOf Reg.ALARM_SUMMARY_BLOCKS
    ++ st.wordOf Reg.BOOT_STATUS_STEP ++ leBytes 1 st.mgmt.wrote)))

/-- MBX_WRITE (R562, R576): bytes beyond the buffer are NACKed. -/
def execMbxWrite (data : List Byte) (pec : Option Bool) (s : State) : Out :=
  ok (s.smbWrite pec (fun st => st.mbxServed (fun t =>
    let all := t.mgmt.request ++ data
    let t1 : State := { t with mgmt := { t.mgmt with request := all.take 1024, tooBig := t.mgmt.tooBig || decide (1024 < all.length) } }
    t1.bump Ctr.MGMT_SMB_NACKS (all.length - 1024))))

/-- MBX_SEND (R562, R576): the buffered request is sent and its buffer is empty. -/
def execMbxSend (pec : Option Bool) (s : State) : Out :=
  ok (s.smbWrite pec (fun st => st.mbxServed (fun t =>
    { t with mgmt := { t.mgmt with request := [], tooBig := false } }.mbxArrive 1 t.mgmt.request t.mgmt.tooBig)))

/-- MBX_READ (R562, R565): at most 32 bytes of the response from an offset. -/
def execMbxRead (off : Nat) (s : State) : Out :=
  ok (s.smbServe (fun st => st.mbxServed (fun t =>
    { t with mgmt := { t.mgmt with ready := false } }.smbReturn ((t.mgmt.response.drop off).take 32))))

/-- MBX_CLEAR (R562). -/
def execMbxClear (pec : Option Bool) (s : State) : Out :=
  ok (s.smbWrite pec (fun st => st.mbxServed (fun t =>
    { t with mgmt := { t.mgmt with request := [], tooBig := false } })))

/-- SMB_ALERT_RESPONSE (R565): a target that drives the pin and wins arbitration returns its address and releases it. -/
def execSmbAlertResponse (wins : Bool) (s : State) : Out :=
  ok (if s.portsUp && s.smbAlert && wins then
    { s with mgmt := { s.mgmt with rose := false, ready := false } }.smbReturn (leBytes 1 (s.rd Reg.MGMT_SMB_STATUS_ADDR))
  else s)

/-- SMB_TIMEOUT (R564): the bus is released and the command in progress discarded. -/
def execSmbTimeout (s : State) : Out :=
  ok (if s.portsUp then (s.bump Ctr.MGMT_SMB_TIMEOUTS 1).raise Err.MGMT_SMB_TIMEOUT else s)

end Sys2Proof.Machine
end

