-- ==== Sys2Proof/Machine/Console.lean ====
section
/-! DEFINITION. Sys2Proof/Machine/Console.lean: the UART and its console (spec/22 R566 to R570). Texts are written as
their ASCII codes. -/

namespace Sys2Proof.Machine

/-! ### Texts -/

def txtOk : List Byte := [0x6F, 0x6B]
def txtErr : List Byte := [0x65, 0x72, 0x72]
def txtHelp : List Byte := [0x68, 0x65, 0x6C, 0x70]
def txtVer : List Byte := [0x76, 0x65, 0x72]
def txtState : List Byte := [0x73, 0x74, 0x61, 0x74, 0x65]
def txtRd : List Byte := [0x72, 0x64]
def txtWr : List Byte := [0x77, 0x72]
def txtLedger : List Byte := [0x6C, 0x65, 0x64, 0x67, 0x65, 0x72]
def txtTelem : List Byte := [0x74, 0x65, 0x6C, 0x65, 0x6D]
/-- `iz5> `. -/
def txtPrompt : List Byte := [0x69, 0x7A, 0x35, 0x3E, 0x20]
/-- `SYNTAX`, `TOO_LONG`, `DENIED`, `BUSY`, `UNMAPPED`, `REFUSED`, `NOT_FOUND`. -/
def txtSyntax : List Byte := [0x53, 0x59, 0x4E, 0x54, 0x41, 0x58]
def txtTooLong : List Byte := [0x54, 0x4F, 0x4F, 0x5F, 0x4C, 0x4F, 0x4E, 0x47]
def txtDenied : List Byte := [0x44, 0x45, 0x4E, 0x49, 0x45, 0x44]
def txtBusy : List Byte := [0x42, 0x55, 0x53, 0x59]
def txtUnmapped : List Byte := [0x55, 0x4E, 0x4D, 0x41, 0x50, 0x50, 0x45, 0x44]
def txtRefused : List Byte := [0x52, 0x45, 0x46, 0x55, 0x53, 0x45, 0x44]
def txtNotFound : List Byte := [0x4E, 0x4F, 0x54, 0x5F, 0x46, 0x4F, 0x55, 0x4E, 0x44]

/-- An error line. -/
def errLine (code : List Byte) : List (List Byte) := [joinWords [txtErr, code]]

/-- Two hexadecimal digits of a byte. -/
def hexByte (b : Byte) : List Byte := [hexDigit (b.toNat / 16), hexDigit (b.toNat % 16)]

/-- A line of bytes in hexadecimal. -/
def hexLine (d : List Byte) : List Byte := d.flatMap hexByte

/-! ### Lines (R570) -/

/-- The words of a line, split at spaces. -/
def lineWords (l : List Byte) : List (List Byte) :=
  (l.foldr (fun (c : Byte) (acc : List (List Byte)) =>
    if c = 0x20 then [] :: acc
    else match acc with
      | [] => [[c]]
      | w :: r => (c :: w) :: r) [[]]).filter (fun w => !w.isEmpty)

/-- The value of a hexadecimal digit. -/
def hexValue (c : Byte) : Option Nat :=
  let n := c.toNat
  if 0x30 ≤ n ∧ n ≤ 0x39 then some (n - 0x30)
  else if 0x61 ≤ n ∧ n ≤ 0x66 then some (n - 0x57)
  else if 0x41 ≤ n ∧ n ≤ 0x46 then some (n - 0x37)
  else none

/-- A number: 0x, then digits with underscores allowed, at most 32 bits. -/
def lineNum (w : List Byte) : Option Nat :=
  match w with
  | 0x30 :: 0x78 :: r =>
    let ds := r.filter (· != 0x5F)
    match ds.mapM hexValue with
    | none => none
    | some vs =>
      let n := vs.foldl (fun a d => 16 * a + d) 0
      if vs.isEmpty ∨ 2 ^ 32 ≤ n then none else some n
  | _ => none

/-- A console command. -/
inductive ConCmd where
  | help | ver | state
  | rd (a : Nat)
  | wr (a v : Nat)
  | ledger (n : Nat)
  | telem
  | tooLong | bad
  deriving DecidableEq, Repr

/-- What a line says (R570). -/
def conCmd (l : List Byte) : ConCmd :=
  if 127 < l.length then .tooLong
  else match lineWords l with
    | [w] =>
      if w = txtHelp then .help else if w = txtVer then .ver else if w = txtState then .state
      else if w = txtTelem then .telem else .bad
    | [w, a] =>
      match lineNum a with
      | none => .bad
      | some n => if w = txtRd then .rd n else if w = txtLedger ∧ 1 ≤ n ∧ n ≤ 16 then .ledger n else .bad
    | [w, a, v] =>
      match lineNum a, lineNum v with
      | some n, some x => if w = txtWr then .wr n x else .bad
      | _, _ => .bad
    | _ => .bad

/-- A console response: its lines, then the prompt. -/
def State.respond (s : State) (lines : List (List Byte)) : State :=
  s.say (lines.flatMap (fun l => l ++ crlf) ++ txtPrompt)

/-- A complete line: a request of the UART channel; a fifth is answered BUSY (R570, R576). -/
def State.lineDone (s : State) : State :=
  let l := if s.mgmt.tooLong then List.replicate 128 0x20 else s.mgmt.line
  let s1 : State := { s with mgmt := { s.mgmt with line := [], tooLong := false } }
  if l.isEmpty then s1
  else
    let r := s1.mbxQueue 2 l
    if r.1 then r.2 else r.2.respond (errLine txtBusy)

/-- The Reeve takes one character: echo, then the line (R570). -/
def State.takeChar (s : State) (c : Byte) : State :=
  let s1 := if s.is Reg.MGMT_UART_CTRL_ECHO then s.say [c] else s
  if c = 0x0D ∨ c = 0x0A then s1.lineDone
  else if s1.mgmt.line.length < 127 then { s1 with mgmt := { s1.mgmt with line := s1.mgmt.line ++ [c] } }
  else { s1 with mgmt := { s1.mgmt with tooLong := true } }

/-- The Reeve empties the receive FIFO, if it runs. -/
def State.drainRx (s : State) : State :=
  if s.reeveUp then s.mgmt.rx.foldl (fun (acc : State) c => acc.takeChar c) { s with mgmt := { s.mgmt with rx := [] } }
  else s

/-! ### The receiver (R567 to R569) -/

/-- The UART receives: not in a held reset, and not while the boot ROM runs (R560). -/
def State.uartHears (s : State) : Bool := s.portsUp && decide (3 ≤ s.bootStep) && s.is Reg.MGMT_UART_CTRL_EN

/-- The majority of samples n, n + 1 and n + 2. -/
def majority (samples : List Bool) (n : Nat) : Bool :=
  2 ≤ b2n (samples.getD n true) + b2n (samples.getD (n + 1) true) + b2n (samples.getD (n + 2) true)

/-- The eight data bits of a character (R567). -/
def uartByte (samples : List Bool) : Byte :=
  BitVec.ofNat 8 ((List.range 8).foldl (fun n k => n + b2n (majority samples (16 * (k + 1) + 7)) * 2 ^ k) 0)

/-- A character joins the receive FIFO, or is dropped (R569). -/
def State.deliverChar (s : State) (c : Byte) : State :=
  let s1 := s.bump Ctr.MGMT_UART_RX_CHARS 1
  if 64 ≤ s.mgmt.rx.length then (s1.bump Ctr.MGMT_UART_OVERRUNS 1).raise Err.MGMT_UART_OVERRUN
  else { s1 with mgmt := { s1.mgmt with rx := s1.mgmt.rx ++ [c] } }.drainRx

/-- UART_CHAR_RECEIVE (R567 to R569): a start edge `edge` samples after the last character's, after `high` consecutive
high samples, and the samples from it on. -/
def execUartCharReceive (edge high : Nat) (samples : List Bool) (s : State) : Out :=
  if !s.uartHears || decide (edge < 154) || decide (high < s.mgmt.needHigh) then ok s
  else
    let s1 : State := { s with mgmt := { s.mgmt with needHigh := 0, broken := false } }
    if majority samples 7 then ok s1
    else if !majority samples 151 then
      ok (({ s1 with mgmt := { s1.mgmt with needHigh := 1 } }.bump Ctr.MGMT_UART_FRAMING_ERRORS 1).raise Err.MGMT_UART_FRAMING)
    else ok (s1.deliverChar (uartByte samples))

/-- UART_BREAK (R568): UART_RX low for `low` samples, and high for `high` since, so far. -/
def execUartBreak (low high : Nat) (s : State) : Out :=
  if !s.uartHears || decide (low ≤ 320) then ok s
  else
    let s1 : State := if s.mgmt.broken then s else
      ({ s with mgmt := { s.mgmt with line := [], tooLong := false } }.bump Ctr.MGMT_UART_BREAKS 1).raise Err.MGMT_UART_BREAK
    ok { s1 with mgmt := { s1.mgmt with broken := high == 0, needHigh := if 16 ≤ high then 0 else 16 } }

/-- A bell's part of the transmitter: 320 sample times, 160 × DIV of them a character (R566). -/
def State.uartTick (s : State) : State :=
  if s.mgmt.tx.isEmpty ∨ !s.portsUp ∨ !s.is Reg.MGMT_UART_CTRL_EN then { s with mgmt := { s.mgmt with txTime := 0 } }
  else
    let t := s.mgmt.txTime + 320
    let per := 160 * max 1 (s.rd Reg.MGMT_UART_DIV_DIV)
    let n := min (t / per) s.mgmt.tx.length
    { s with mgmt := { s.mgmt with txTime := t - n * per, tx := s.mgmt.tx.drop n } }.bump Ctr.MGMT_UART_TX_CHARS n

/-! ### The commands (R570) -/

/-- The Reeve serves the oldest request, if it is a console line that `f` answers. -/
def State.console (s : State) (f : ConCmd → State → Option (List (List Byte) × State)) : State :=
  match s.mgmt.queue with
  | [] => s
  | r :: rest =>
    if s.reeveUp && r.chan == 2 then
      match f (conCmd r.bytes) { s with mgmt := { s.mgmt with queue := rest } } with
      | some o => State.serveUnknown 16 (o.2.respond o.1)
      | none => s
    else s

/-- CONSOLE_LINE_BAD (R570). -/
def execConsoleLineBad (s : State) : Out :=
  ok (s.console (fun c st => match c with
    | .tooLong => some (errLine txtTooLong, st)
    | .bad => some (errLine txtSyntax, st)
    | _ => none))

/-- CONSOLE_HELP (R570). -/
def execConsoleHelp (s : State) : Out :=
  ok (s.console (fun c st =>
    if c = .help then some ([joinWords [txtOk, txtHelp, txtVer, txtState, txtRd, txtWr, txtLedger, txtTelem]], st) else none))

/-- Register words of a console line. -/
def State.wordTexts (s : State) (fs : List Fld) : List (List Byte) :=
  fs.map (fun f => hexText (s.blockWord .reeve f.page f.off))

/-- CONSOLE_VER (R570). -/
def execConsoleVer (s : State) : Out :=
  ok (s.console (fun c st =>
    if c = .ver then some ([joinWords (txtOk :: st.wordTexts [Reg.TOP_VENDOR_PART_PART, Reg.TOP_STEPPING_STEPPING,
      Reg.TOP_FW_REEVE_VERSION, Reg.TOP_FW_HEARTH_VERSION, Reg.TOP_PB_VERSION_MAJOR])], st) else none))

/-- CONSOLE_STATE (R570). -/
def execConsoleState (s : State) : Out :=
  ok (s.console (fun c st =>
    if c = .state then some ([joinWords (txtOk :: st.wordTexts [Reg.DEVICE_STATE_STATE, Reg.BOOT_STATUS_STEP,
      Reg.BOOT_ATTEMPTS_ATTEMPTS, Reg.ALARM_SUMMARY_BLOCKS, Reg.BELL_STATUS_STATE])], st) else none))

/-- The line of an access that R563 does not perform as OK. -/
def statusLine (st : Nat) : List (List Byte) :=
  errLine (if st = 1 then txtUnmapped else if st = 2 then txtRefused else txtBusy)

/-- CONSOLE_RD (R563, R570). -/
def execConsoleRd (s : State) : Out :=
  ok (s.console (fun c st => match c with
    | .rd a =>
      let r := st.portRead .reeve a
      let s1 := r.2.2.answer .reeve r.2.1
      some (if r.1 = 0 then [joinWords [txtOk, hexText r.2.1]] else statusLine r.1, s1)
    | _ => none))

/-- CONSOLE_WR (R563, R570): MGMT_UART_CTRL itself is never written from the console. -/
def execConsoleWr (s : State) : Out :=
  ok (s.console (fun c st => match c with
    | .wr a v =>
      if !st.is Reg.MGMT_UART_CTRL_WRITE_EN || a == 0x8108 then some (errLine txtDenied, st)
      else
        let r := st.portWrite .reeve a v
        some (if r.1 = 0 then [txtOk] else statusLine r.1, r.2)
    | _ => none))

/-- CONSOLE_LEDGER (R570): the newest N ring entries, newest first. -/
def execConsoleLedger (s : State) : Out :=
  ok (s.console (fun c st => match c with
    | .ledger n =>
      let line (i : Nat) : List Byte :=
        let e := st.ledgerEntry ((st.rd Reg.LEDGER_WP_INDEX + 2047 - i) % 2048)
        hexLine (if e.seq = 0 then List.replicate 32 0 else entryBytes e)
      some (txtOk :: (List.range n).map line, st)
    | _ => none))

/-- CONSOLE_TELEM (R570). -/
def execConsoleTelem (s : State) : Out :=
  ok (s.console (fun c st => match c with
    | .telem =>
      match st.telem.recs with
      | [] => some (errLine txtNotFound, st)
      | r :: _ => some (txtOk :: (List.range 16).map (fun i => hexLine ((r.drop (16 * i)).take 16)), st)
    | _ => none))

end Sys2Proof.Machine
end

