-- ==== Sys2Proof/Machine/Boundary.lean ====
section
/-! DEFINITION. Sys2Proof/Machine/Boundary.lean: the bell boundary: the close of the bell that ends, and the four steps
of R61 in their order (spec/02 R61; with R88, R107, R118, R144, R212, R340, R349, R366, R418, R454, R537 to R541). -/

namespace Sys2Proof.Machine

/-! ### What a swap of the schedule tables brings with it (R340, R454) -/

/-- The indices of the entries of one table that differ between two sets, by the offsets that either set lists. -/
def changedEntries (a b : Map Byte) (base size count : Nat) : List Nat :=
  let offs := (a.map (·.1) ++ b.map (·.1)).filter (fun o => decide (base ≤ o) && decide (o < base + size * count))
  let idx := (offs.map (fun o => (o - base) / size)).eraseDups
  idx.filter (fun i => readBytes a 0 (base + size * i) size != readBytes b 0 (base + size * i) size)

/-- A device-wide swap resets the landing state of each entry that it changes, and the instance number of each group
(R340, R454). -/
def State.afterSchedSwap (s : State) : State :=
  let s1 := (changedEntries s.active.sched s.shadow.sched 0x1A000 32 1024).foldl
    (fun (acc : State) i => acc.resetLand i) s
  let gs := changedEntries s.active.sched s.shadow.sched 0x40000 64 4096
  { s1 with
    groups := { s1.groups with inst := gs.foldl (fun m g => mdel m g) s1.groups.inst }
    sched := { s1.sched with scanned := false } }

/-- Step 1 of R61 with its consequences: R107, R111, R233, R340, R454. -/
def State.boundarySwaps (s : State) : State :=
  let due (p : Nat) : Bool := s.armed p && s.swapBell p == s.bellNum
  let s1 := s.doSwaps s.bellNum
  let s2 := if due 0x52 then s1.afterSchedSwap else s1
  if due 0x0A || due 0x0B then s2.matrixRecompute else s2

/-! ### Landing entries reset by software (R340) -/

/-- The landing entries written to SCHED_LAND_RESET since the last boundary are reset. -/
def State.landResets (s : State) : State :=
  s.sched.landReset.foldl (fun (acc : State) i => acc.resetLand i) { s with sched := { s.sched with landReset := [] } }

/-! ### Reactions of the bell that ended (R537 to R541) -/

/-- The 32-bit TAG of an ALARM notice: the Ledger entry's tag, or 0 without one (R538). -/
def noticeTag : EntryTag → Nat
  | .none => 0
  | .tag32 t => t
  | .tag16 t => t

/-- One rising: its notice, its vector's mark, and the reactions that become due after step 4. -/
def State.takeRising (s : State) (r : Rising) : State :=
  let detail := r.bit + 2 ^ 8 * r.page + 2 ^ 16 * r.cls
  let s1 := if bit r.react 0 then
      { s with ring := { s.ring with notices := s.ring.notices ++
          [{ tag := noticeTag r.tag, opcode := 0xFF, status := 0x05, detail := detail, vector := none }] } }
    else s
  let s2 := if bit r.react 1 && s1.is Reg.ALARM_IRQ_EN then
      { s1 with ring := { s1.ring with marked := s1.ring.marked ++ [s1.rd Reg.ALARM_IRQ_VECTOR] } }
    else s1
  { s2 with alarm := { s2.alarm with
      freezeDue := s2.alarm.freezeDue || bit r.react 2, warmDue := s2.alarm.warmDue || bit r.react 3 } }

/-- Every rising that waited for this boundary, in page and bit order (R537). -/
def State.takeRisings (s : State) : State :=
  s.alarm.pend.foldl (fun (acc : State) r => acc.takeRising r) { s with alarm := { s.alarm with pend := [] } }

/-! ### Reports of a boundary -/

/-- The entries of one 6,144 × 8 B table of a set that list a byte; every other entry is 0, so OFF (R326). -/
def listedEntries (t : Map Byte) (base : Nat) : List Nat :=
  ((t.filter (fun q => decide (base ≤ q.1) && decide (q.1 < base + 0xC000))).map (fun q => (q.1 - base) / 8)).eraseDups

/-- Whether an entry's action keeps a ferry from being DRAINED: links 1 to 31, any action but OFF and REPLAY (R349). -/
def entryBusy (f i action : Nat) : Bool := i / 768 == f && i / 24 % 32 != 0 && action != 0 && action != 2

/-- Whether ferry `f` is DRAINED: links 1 to 31 have only OFF and REPLAY entries in the active set, and hold no sheaf
(R349). -/
def State.ferryDrained (s : State) (f : Nat) : Bool :=
  let t := s.active.sched
  s.hops.all (fun q => q.1 / 32 != f || q.1 % 32 == 0
      || (q.2.buf.isEmpty && q.2.queue.isEmpty && q.2.held.isEmpty && q.2.fwd.isEmpty))
    && (listedEntries t 0x1000).all (fun i => !entryBusy f i (entAction (rxOf t (i / 24) (i % 24))))
    && (listedEntries t 0xD000).all (fun i => !entryBusy f i (entAction (txOf t (i / 24) (i % 24))))

/-- SCHED_DRAINED, once per bell (R349). -/
def State.reportDrained (s : State) : State :=
  s.wr Reg.SCHED_DRAINED_FERRIES ((List.range 8).foldl (fun m f => if s.ferryDrained f then setBit m f else m) 0)

/-- MILL_BUDGET shows the band of the head window, which opens now, and its own part: 1,280, 960 or 640 cycles
(R64, R418). -/
def State.reportBudget (s : State) : State :=
  let b := s.rd Reg.THERMAL_STATUS_BAND
  (s.wr Reg.MILL_BUDGET_BAND b).wr Reg.MILL_BUDGET_OWN_CYCLES (if b = 0 then 1280 else if b = 1 then 960 else 640)

/-! ### The boundary (R61) -/

/-- The end of the bell: its counts, the marks that may now pass on or be answered, and the frames that its links send
(R279, R322, R378, R529). -/
def State.endBell (s : State) (bad : List Nat) : State :=
  (s.telemTick.bump Ctr.TASK_SLOT_BELLS s.liveSlots.length).pushMarks.closeBell bad

/-- Links at a boundary: acknowledgements, detours that end, spares taken back, landing entries reset and credits that
are due (R301, R307, R315, R340, R346). -/
def State.linksBoundary (s : State) : State :=
  let s1 := s.hopBoundary
  let s2 := (s1.hops.map (·.1)).foldl (fun (acc : State) k => acc.endDetour k) s1
  let s3 := s2.landResets.rearmBoundary
  (s3.sched.credits.map (·.1)).foldl (fun (acc : State) k => acc.askCredit k) s3

/-- Step 4 of R61, and the step points that the boundary is (R366, R368, R369); a function reset that is requested
becomes due in its place (R144). -/
def State.tasksBoundary (s : State) : State :=
  let before := s.stopping
  let s1 := s.lostTasks.boundaryEnds
  let s2 := if s1.pages.funcReq then
      { s1 with pages := { s1.pages with funcReq := false, funcDue := true } }
    else s1.admission
  s2.boundaryStops before

/-- The Miller at a boundary: windows move on, and the engine queues run on (R62, R65, R412). -/
def State.windowsBoundary (s : State) : State :=
  let s1 := s.millBoundary.reportBudget
  (s1.mill.progs.map (·.1)).foldl (fun (acc : State) n => acc.runStreams n) s1

/-- BELL_BOUNDARY (R61): cycle 0 of the next bell. The reactions of the bell that ended are taken here; an error that the
boundary itself raises reacts at the next one (R537). `bad` lists the send positions (32 × link number + slot) whose stored
sheaf fails its tally when the closing bell's frame reads it (R387). While a reset is held only time passes (log
entry 4). -/
def execBellBoundary (bad : List Nat) (s : State) : Out :=
  if !s.boot.running then ok { s with ticks := s.ticks + 1 }
  else
    let ended := s.bellNum
    let s1 := (s.endBell bad).takeRisings.bellTick.boundarySwaps
    let s2 := s1.applyBand.driveThermN.lanternBoundary.hearthBoundary
    let s3 := (s2.takeSnaps ended).linksBoundary.tasksBoundary.windowsBoundary
    ok s3.sumPower.reportDrained.decideCalib.ditherTick.l0Tick.uartTick

end Sys2Proof.Machine
end

