-- ==== Sys2Proof/Machine/Jtag.lean ====
section
/-! DEFINITION. Sys2Proof/Machine/Jtag.lean: the test access port and debug (spec/22 R571 to R574). -/

namespace Sys2Proof.Machine

/-- JTAG answers: always but in a cold reset (R560). -/
def State.jtagUp (s : State) : Bool := s.boot.running || s.boot.warm || s.pins.testEn

/-- An instruction is loaded and in force. -/
def State.loadIr (s : State) (ir : Nat) : State := (s.wr Reg.MGMT_JTAG_STATUS_IR ir).wr Reg.MGMT_JTAG_STATUS_TLR 0

/-- The instruction codes of R571, BYPASS apart. -/
def knownIr (ir : Nat) : Bool := [0x01, 0x02, 0x03, 0x04, 0x05, 0x10, 0x20, 0x21, 0x22, 0x23].contains ir

/-- A TAP command that needs no permission. -/
def State.tap (s : State) (f : State → State) : State := if s.jtagUp then f s else s

/-- TAP_RESET (R571): the TAP controller and nothing else. -/
def execTapReset (s : State) : Out :=
  ok (s.tap (fun st => (st.wr Reg.MGMT_JTAG_STATUS_IR 1).wr Reg.MGMT_JTAG_STATUS_TLR 1))

/-- BYPASS (R571): 0xFF, and every IR value that is not listed. -/
def execBypass (ir : Nat) (s : State) : Out := ok (if knownIr ir then s else s.tap (fun st => st.loadIr 0xFF))

/-- IDCODE's data register (R571). -/
def State.idcode (s : State) : Nat :=
  (if s.rd Reg.TOP_STEPPING_STEPPING = 0xB0 then 0 else 1) * 2 ^ 28 + 0x3208 * 2 ^ 12 + 0x2A7 * 2 + 1

/-- IDCODE (R571). -/
def execIdcode (s : State) : Out := ok (s.tap (fun st => (st.loadIr 0x01).answer .jtag s.idcode))

/-- SAMPLE_PRELOAD (R571): the boundary-scan register takes the shifted values. -/
def execSamplePreload (data : List Bool) (s : State) : Out :=
  ok (s.tap (fun st => { st.loadIr 0x02 with mgmt := { st.mgmt with bscan := data } }))

/-- EXTEST (R571): the pins are driven from the boundary-scan register. -/
def execExtest (data : List Bool) (s : State) : Out :=
  ok (s.tap (fun st => { st.loadIr 0x03 with mgmt := { st.mgmt with bscan := data } }))

/-- CLAMP (R571): the outputs are held from the boundary-scan register. -/
def execClamp (s : State) : Out := ok (s.tap (fun st => st.loadIr 0x04))

/-- HIGHZ (R571): the outputs are in high impedance. -/
def execHighz (s : State) : Out := ok (s.tap (fun st => st.loadIr 0x05))

/-! ### The ACCESS register (R573) -/

/-- Note the last operation: status, address and read data. -/
def State.opDone (s : State) (status addr data : Nat) : State :=
  { s with mgmt := { s.mgmt with opStatus := status, opAddr := addr, opData := data } }.answer .jtag data

/-- ACCESS's status for a STATUS of R563: OK, UNMAPPED, REFUSED, BUSY. -/
def accessStatus (st : Nat) : Nat := if st = 1 then 3 else if st = 3 then 1 else st

/-- An operation at Update-DR: OP 1 reads, 2 writes; both answer status, data and state. -/
def State.access (s : State) (op addr : Nat) (read write : State → Nat × Nat × State) : State :=
  if op = 1 then let r := read s; r.2.2.opDone r.1 addr r.2.1
  else if op = 2 then let r := write s; r.2.2.opDone r.1 addr r.2.1
  else s

/-- REG_ACCESS (R573). -/
def execRegAccess (op addr : Nat) (val : Word) (s : State) : Out :=
  ok (s.tap (fun st => (st.loadIr 0x10).access op addr
    (fun t => let r := t.portRead .jtag addr; (accessStatus r.1, r.2.1, r.2.2))
    (fun t => let r := t.portWrite .jtag addr val.toNat; (accessStatus r.1, 0, r.2))))

/-- A debug instruction at Update-DR: performed with its permission, else refused; it then acts as BYPASS (R572). -/
def State.debug (s : State) (perm ir : Nat) (f : State → State) : State :=
  s.tap (fun st =>
    if bit (st.rd Reg.SEC_STATUS_PERMS) perm then f ((st.loadIr ir).wr Reg.MGMT_JTAG_STATUS_REFUSED 0)
    else (((st.loadIr 0xFF).wr Reg.MGMT_JTAG_STATUS_REFUSED 1).bump Ctr.MGMT_JTAG_REFUSALS 1).raise Err.MGMT_JTAG_REFUSED)

/-! ### A processor's debug space (R573, R574) -/

/-- The Miller program whose x registers a debug address names: bit 12 is its context, 0 the head, 1 the tail. -/
def State.dbgProg (s : State) (a : Nat) : Option (Nat × Prog) :=
  s.mill.progs.find? (fun p => p.2.running && p.2.tail == bit a 12)

/-- Whether a debug address names a Miller x register. -/
def isXReg (a : Nat) : Bool := let b := clearBit a 12; 0x100 ≤ b && b < 0x180

/-- Whether a debug address names the Miller's data memory, 128 KiB. -/
def isDmem (a : Nat) : Bool := 0x10000 ≤ a && a < 0x30000

/-- Whether an address has content in a debug space. -/
def dbgMapped (u a : Nat) : Bool :=
  a == 0 || (0x100 ≤ a && a < 0x10000) || (0x10000 ≤ a && a < (if u = 3 then 0x30000 else 0x1000000))
    || (0x1000000 ≤ a && a < 0x80000000)

/-- A word that the model does not know (log entry 33): stable while the processor is halted. -/
def State.dbgUnknown (s : State) (u a : Nat) : Nat × State :=
  let d := s.unit u
  if d.halted then ((mfind d.words a).getD (Config.freeDbg u d.epoch a) % 2 ^ 32, s)
  else (Config.freeDbg (u + 4) s.draws a % 2 ^ 32, { s with draws := s.draws + 1 })

/-- Read a word of a processor's debug space: status, data and state. -/
def State.dbgRead (s : State) (u a : Nat) : Nat × Nat × State :=
  if a % 4 ≠ 0 then (2, 0, s)
  else if !dbgMapped u a then (3, 0, s)
  else if a = 0 then (0, b2n (s.unit u).halted, s)
  else if u = 3 ∧ isDmem a then (0, ofLe (readBytes s.miller.dmem 0 (a - 0x10000) 4), s)
  else
    match (if u = 3 ∧ isXReg a then s.dbgProg a else none) with
    | some p => (0, p.2.xr ((clearBit a 12 - 0x100) / 4) % 2 ^ 32, s)
    | none => (0, s.dbgUnknown u a)

/-- HALT: the processor stops; a halted Hearth's controller is a stopped one (R574). -/
def State.dbgHalt (s : State) (u : Nat) : State :=
  let s1 := s.setUnit u { s.unit u with halted := true, step := false }
  if u = 1 ∨ u = 2 then s1.setHearth (u - 1) { s1.hearth (u - 1) with stopped := true } else s1

/-- STEP: a halted processor executes one instruction; what its space then holds is not known. -/
def State.dbgStep (s : State) (u : Nat) : State :=
  let d := s.unit u
  if d.halted then s.setUnit u { d with step := u == 3, epoch := d.epoch + 1, words := [] } else s

/-- RESUME: the processor runs on. -/
def State.dbgResume (s : State) (u : Nat) : State :=
  let d := s.unit u
  if !d.halted then s
  else
    let s1 := s.setUnit u { d with halted := false, step := false, epoch := d.epoch + 1, words := [] }
    if u = 1 ∨ u = 2 then s1.setHearth (u - 1) { s1.hearth (u - 1) with stopped := false }
    else if u = 0 then State.serveUnknown 16 s1.drainRx
    else s1

/-- A write of the control word: HALT, STEP, RESUME. -/
def State.dbgControl (s : State) (u v : Nat) : State :=
  let s1 := if bit v 0 then s.dbgHalt u else s
  let s2 := if bit v 1 then s1.dbgStep u else s1
  if bit v 2 then s2.dbgResume u else s2

/-- Write a word of a processor's debug space: status, no data, and state. -/
def State.dbgWrite (s : State) (u a v : Nat) : Nat × Nat × State :=
  if a % 4 ≠ 0 then (2, 0, s)
  else if !dbgMapped u a then (3, 0, s)
  else if a = 0 then (0, 0, s.dbgControl u v)
  else if u = 3 ∧ isDmem a then
    (0, 0, { s with miller := { s.miller with dmem := writeBytes s.miller.dmem 0 (a - 0x10000) (leBytes 4 v) } })
  else
    match (if u = 3 ∧ isXReg a then s.dbgProg a else none) with
    | some p =>
      let n := (clearBit a 12 - 0x100) / 4
      (0, 0, s.setProg p.1 (p.2.setX n (p.2.xr n / 2 ^ 32 * 2 ^ 32 + v % 2 ^ 32)))
    | none =>
      let d := s.unit u
      (0, 0, if d.halted then s.setUnit u { d with words := mput d.words a (v % 2 ^ 32) } else s)

/-- An operation on a processor's debug space. -/
def State.dbgAccess (s : State) (u op addr a v : Nat) : State :=
  s.access op addr (fun t => t.dbgRead u a) (fun t => t.dbgWrite u a v)

/-- REEVE_DBG (R573). -/
def execReeveDbg (op addr : Nat) (val : Word) (s : State) : Out :=
  ok (s.debug 0 0x20 (fun st => st.dbgAccess 0 op addr addr val.toNat))

/-- HEARTH_DBG (R573): address bit 31 selects Hearth B. -/
def execHearthDbg (op addr : Nat) (val : Word) (s : State) : Out :=
  ok (s.debug 1 0x21 (fun st => st.dbgAccess (1 + b2n (bit addr 31)) op addr (addr % 2 ^ 31) val.toNat))

/-- MILLER_DBG (R573). -/
def execMillerDbg (op addr : Nat) (val : Word) (s : State) : Out :=
  ok (s.debug 2 0x22 (fun st => st.dbgAccess 3 op addr addr val.toNat))

/-- Read a Granary word through the host port; one that ECC cannot correct is refused, its data open (R409, R573). -/
def State.memRead (s : State) (a : Nat) (ecc : EccResult) : Nat × Nat × State :=
  if a % 4 ≠ 0 then (2, 0, s)
  else if !inGranary a 4 then (3, 0, s)
  else
    let r := (s.hostPort 4).granaryRead .host a 4 ecc
    match r.1 with
    | some d => (0, ofLe d, r.2)
    | none => let f := r.2.freeBytes 4; (2, ofLe f.1, f.2)

/-- Write a Granary word through the host port. -/
def State.memWrite (s : State) (a v : Nat) : Nat × Nat × State :=
  if a % 4 ≠ 0 then (2, 0, s)
  else if !inGranary a 4 then (3, 0, s)
  else
    let r := (s.hostPort 4).hostStore a (leBytes 4 v)
    (if r.1 then 0 else 2, 0, r.2)

/-- MEM_ACCESS (R573). -/
def execMemAccess (op addr : Nat) (val : Word) (ecc : EccResult) (s : State) : Out :=
  ok (s.debug 3 0x23 (fun st => st.access op addr (fun t => t.memRead addr ecc) (fun t => t.memWrite addr val.toNat)))

/-- A control write of a processor, 0 Reeve, 1 Hearth A, 2 Hearth B, 3 Miller, through the instruction that reaches it. -/
def State.debugControl (s : State) (u v : Nat) : State :=
  if u = 0 then s.debug 0 0x20 (fun st => st.dbgAccess 0 2 0 0 v)
  else if u = 1 then s.debug 1 0x21 (fun st => st.dbgAccess 1 2 0 0 v)
  else if u = 2 then s.debug 1 0x21 (fun st => st.dbgAccess 2 2 (2 ^ 31) 0 v)
  else if u = 3 then s.debug 2 0x22 (fun st => st.dbgAccess 3 2 0 0 v)
  else s

/-- DEBUG_HALT (R574). -/
def execDebugHalt (unit : Nat) (s : State) : Out := ok (s.debugControl unit 1)
/-- DEBUG_STEP (R573). -/
def execDebugStep (unit : Nat) (s : State) : Out := ok (s.debugControl unit 2)
/-- DEBUG_RESUME (R573). -/
def execDebugResume (unit : Nat) (s : State) : Out := ok (s.debugControl unit 4)

end Sys2Proof.Machine
end

