-- ==== Sys2Proof/Machine/Dispatch.lean ====
section
/-! DEFINITION. Sys2Proof/Machine/Dispatch.lean: one arm per command, each one direct call of its meaning. -/

namespace Sys2Proof.Machine

/-- The effect of a command on everything but the queue. -/
def exec (i : Instr) (s : State) : Host.Outcome State Fault Refusal :=
  match i with
  | .warmReset cause => Sys2Proof.Machine.execWarmReset cause s
  | .pllUnlock d => Sys2Proof.Machine.execPllUnlock d s
  | .pllRelock d => Sys2Proof.Machine.execPllRelock d s
  | .stepFlash answers => Sys2Proof.Machine.execStepFlash answers s
  | .stepLoadHearth bistA bistB digestA digestB => Sys2Proof.Machine.execStepLoadHearth bistA bistB digestA digestB s
  | .stepLantern a b => Sys2Proof.Machine.execStepLantern a b s
  | .coldRelockFerry f res => Sys2Proof.Machine.execColdRelockFerry f res s
  | .hearthImageRetry bistA bistB digestA digestB => Sys2Proof.Machine.execHearthImageRetry bistA bistB digestA digestB s
  | .flashOpComplete good => Sys2Proof.Machine.execFlashOpComplete good s
  | .almanacCommit val => Sys2Proof.Machine.execAlmanacCommit val s
  | .almanacCommitDone good => Sys2Proof.Machine.execAlmanacCommitDone good s
  | .svnAdvance val => Sys2Proof.Machine.execSvnAdvance val s
  | .tokenSubmit val => Sys2Proof.Machine.execTokenSubmit val s
  | .debugLock val => Sys2Proof.Machine.execDebugLock val s
  | .nonceLoRead path => Sys2Proof.Machine.execNonceLoRead path s
  | .bellBoundary bad => Sys2Proof.Machine.execBellBoundary bad s
  | .bellNumLoRead path => Sys2Proof.Machine.execBellNumLoRead path s
  | .bellJoinStep lengthen num rate => Sys2Proof.Machine.execBellJoinStep lengthen num rate s
  | .rootStartTimeout epochNum => Sys2Proof.Machine.execRootStartTimeout epochNum s
  | .bellRootSet val => Sys2Proof.Machine.execBellRootSet val s
  | .bellRootClear val => Sys2Proof.Machine.execBellRootClear val s
  | .parentPrefWrite n val => Sys2Proof.Machine.execParentPrefWrite n val s
  | .timeInEdge phase => Sys2Proof.Machine.execTimeInEdge phase s
  | .sensorSample a b => Sys2Proof.Machine.execSensorSample a b s
  | .unmappedAccess path addr => Sys2Proof.Machine.execUnmappedAccess path addr s
  | .registerWrite path addr val => Sys2Proof.Machine.execRegisterWrite path addr val s
  | .counterLoRead path page n => Sys2Proof.Machine.execCounterLoRead path page n s
  | .counterHiWrite path page n val => Sys2Proof.Machine.execCounterHiWrite path page n val s
  | .counterLoWrite path page n val => Sys2Proof.Machine.execCounterLoWrite path page n val s
  | .rcRegisterRead path addr => Sys2Proof.Machine.execRcRegisterRead path addr s
  | .pgErrClassWrite path page val => Sys2Proof.Machine.execPgErrClassWrite path page val s
  | .pgErrInjectWrite page val => Sys2Proof.Machine.execPgErrInjectWrite page val s
  | .swapArm page val => Sys2Proof.Machine.execSwapArm page val s
  | .swapDisarm page val => Sys2Proof.Machine.execSwapDisarm page val s
  | .swapFollowWrite page val => Sys2Proof.Machine.execSwapFollowWrite page val s
  | .shadowWrite path page off val => Sys2Proof.Machine.execShadowWrite path page off val s
  | .tableViewWrite addr val => Sys2Proof.Machine.execTableViewWrite addr val s
  | .pgSnapTake page => Sys2Proof.Machine.execPgSnapTake page s
  | .topResetWarm val => Sys2Proof.Machine.execTopResetWarm val s
  | .topResetFunction val => Sys2Proof.Machine.execTopResetFunction val s
  | .topResetKeyBad val => Sys2Proof.Machine.execTopResetKeyBad val s
  | .bundleDetectExit n => Sys2Proof.Machine.execBundleDetectExit n s
  | .bundleTrainDone n lanes => Sys2Proof.Machine.execBundleTrainDone n lanes s
  | .bundleLockDone n skewOk farSpared => Sys2Proof.Machine.execBundleLockDone n skewOk farSpared s
  | .bundleExchangeDone n caps => Sys2Proof.Machine.execBundleExchangeDone n caps s
  | .bundleStageTimeout n => Sys2Proof.Machine.execBundleStageTimeout n s
  | .bundleBackoffExpiry n => Sys2Proof.Machine.execBundleBackoffExpiry n s
  | .bundleRetrain n => Sys2Proof.Machine.execBundleRetrain n s
  | .flitReceive n flit => Sys2Proof.Machine.execFlitReceive n flit s
  | .nakFlitReceive ack => Sys2Proof.Machine.execNakFlitReceive ack s
  | .elasticOverrun n => Sys2Proof.Machine.execElasticOverrun n s
  | .hostMemWrite addr data => Sys2Proof.Machine.execHostMemWrite addr data s
  | .hostMemRead tag addr len ecc => Sys2Proof.Machine.execHostMemRead tag addr len ecc s
  | .dmaReadCompletion tag status data => Sys2Proof.Machine.execDmaReadCompletion tag status data s
  | .ctlWrite addr len val => Sys2Proof.Machine.execCtlWrite addr len val s
  | .ctlRead tag addr len ecc => Sys2Proof.Machine.execCtlRead tag addr len ecc s
  | .mgmtMessage msg => Sys2Proof.Machine.execMgmtMessage msg s
  | .dbgRequest tag addr len => Sys2Proof.Machine.execDbgRequest tag addr len s
  | .selectSwitchWrite word val => Sys2Proof.Machine.execSelectSwitchWrite word val s
  | .inputLoss src tap => Sys2Proof.Machine.execInputLoss src tap s
  | .inputReturn src tap identity => Sys2Proof.Machine.execInputReturn src tap identity s
  | .lineFail src line monitors => Sys2Proof.Machine.execLineFail src line monitors s
  | .lineMove line dst => Sys2Proof.Machine.execLineMove line dst s
  | .lanternAlert src => Sys2Proof.Machine.execLanternAlert src s
  | .lanternBusStuck stillLow => Sys2Proof.Machine.execLanternBusStuck stillLow s
  | .setLinePower src line power ack => Sys2Proof.Machine.execSetLinePower src line power ack s
  | .readLinePower src line r => Sys2Proof.Machine.execReadLinePower src line r s
  | .readHours src powered emitting => Sys2Proof.Machine.execReadHours src powered emitting s
  | .setStandby src on => Sys2Proof.Machine.execSetStandby src on s
  | .readIdentity src identity => Sys2Proof.Machine.execReadIdentity src identity s
  | .lanternTransactionFail src => Sys2Proof.Machine.execLanternTransactionFail src s
  | .monitorSample ch code loop => Sys2Proof.Machine.execMonitorSample ch code loop s
  | .rangePinEnd ch => Sys2Proof.Machine.execRangePinEnd ch s
  | .adcReferenceCheck adc pass => Sys2Proof.Machine.execAdcReferenceCheck adc pass s
  | .hearthLoopUpdate loop phase dacFault => Sys2Proof.Machine.execHearthLoopUpdate loop phase dacFault s
  | .parkMove loop => Sys2Proof.Machine.execParkMove loop s
  | .mirrorFrame present crcGood upsets => Sys2Proof.Machine.execMirrorFrame present crcGood upsets s
  | .heartbeatSend lineA wordA lineB wordB => Sys2Proof.Machine.execHeartbeatSend lineA wordA lineB wordB s
  | .hearthBist passA passB => Sys2Proof.Machine.execHearthBist passA passB s
  | .hearthMarchBlock h pass => Sys2Proof.Machine.execHearthMarchBlock h pass s
  | .reeveArbitration agreesA agreesB => Sys2Proof.Machine.execReeveArbitration agreesA agreesB s
  | .hearthRepair h good => Sys2Proof.Machine.execHearthRepair h good s
  | .resyncCopy h crcEqual => Sys2Proof.Machine.execResyncCopy h crcEqual s
  | .resyncComplete h => Sys2Proof.Machine.execResyncComplete h s
  | .resyncTimeout h => Sys2Proof.Machine.execResyncTimeout h s
  | .hearthSwitchRequest val => Sys2Proof.Machine.execHearthSwitchRequest val s
  | .hearthSoftReset h => Sys2Proof.Machine.execHearthSoftReset h s
  | .losEvaluate f w carrier => Sys2Proof.Machine.execLosEvaluate f w carrier s
  | .laneDetectExit f j => Sys2Proof.Machine.execLaneDetectExit f j s
  | .trainingFrameReceive f j frame => Sys2Proof.Machine.execTrainingFrameReceive f j frame s
  | .eqFreezeWrite f val => Sys2Proof.Machine.execEqFreezeWrite f val s
  | .laneTrainDone f j => Sys2Proof.Machine.execLaneTrainDone f j s
  | .laneLockDone f j => Sys2Proof.Machine.execLaneLockDone f j s
  | .laneExchangeDone f j => Sys2Proof.Machine.execLaneExchangeDone f j s
  | .laneStageTimeout f j => Sys2Proof.Machine.execLaneStageTimeout f j s
  | .laneBackoffExpiry f j => Sys2Proof.Machine.execLaneBackoffExpiry f j s
  | .ferryLaneReset f mask => Sys2Proof.Machine.execFerryLaneReset f mask s
  | .frameLand f j frame => Sys2Proof.Machine.execFrameLand f j frame s
  | .hostDelivery land ecc => Sys2Proof.Machine.execHostDelivery land ecc s
  | .landingReset idx => Sys2Proof.Machine.execLandingReset idx s
  | .putApply ecc bad => Sys2Proof.Machine.execPutApply ecc bad s
  | .getReqApply ecc bad src => Sys2Proof.Machine.execGetReqApply ecc bad src s
  | .getDataApply ecc bad => Sys2Proof.Machine.execGetDataApply ecc bad s
  | .programSheafApply ecc bad => Sys2Proof.Machine.execProgramSheafApply ecc bad s
  | .mgmtSheafApply ecc bad => Sys2Proof.Machine.execMgmtSheafApply ecc bad s
  | .creditSheafSend f j => Sys2Proof.Machine.execCreditSheafSend f j s
  | .componentSpare f w kind => Sys2Proof.Machine.execComponentSpare f w kind s
  | .detourStart f j => Sys2Proof.Machine.execDetourStart f j s
  | .detourWithdraw f j => Sys2Proof.Machine.execDetourWithdraw f j s
  | .holdEpisodeCap f j => Sys2Proof.Machine.execHoldEpisodeCap f j s
  | .taskTimeout slot => Sys2Proof.Machine.execTaskTimeout slot s
  | .fenceMarkSend slot flow => Sys2Proof.Machine.execFenceMarkSend slot flow s
  | .ringRegisterWrite off val => Sys2Proof.Machine.execRingRegisterWrite off val s
  | .cmdTailWrite val => Sys2Proof.Machine.execCmdTailWrite val s
  | .descriptorRead entry desc => Sys2Proof.Machine.execDescriptorRead entry desc s
  | .ringFault reason entry => Sys2Proof.Machine.execRingFault reason entry s
  | .evtHeadWrite val => Sys2Proof.Machine.execEvtHeadWrite val s
  | .cmdCancelWrite tag => Sys2Proof.Machine.execCmdCancelWrite tag s
  | .cancelExpired tag => Sys2Proof.Machine.execCancelExpired tag s
  | .opPut slot eccs => Sys2Proof.Machine.execOpPut slot eccs s
  | .opGet slot => Sys2Proof.Machine.execOpGet slot s
  | .opProgramRun slot img ecc => Sys2Proof.Machine.execOpProgramRun slot img ecc s
  | .opProgramSend slot eccs => Sys2Proof.Machine.execOpProgramSend slot eccs s
  | .opFence slot => Sys2Proof.Machine.execOpFence slot s
  | .opSwap slot => Sys2Proof.Machine.execOpSwap slot s
  | .opAllReduce slot blocks eccs => Sys2Proof.Machine.execOpAllReduce slot blocks eccs s
  | .opReduce slot blocks eccs => Sys2Proof.Machine.execOpReduce slot blocks eccs s
  | .opReduceScatter slot blocks eccs => Sys2Proof.Machine.execOpReduceScatter slot blocks eccs s
  | .opBroadcast slot blocks eccs => Sys2Proof.Machine.execOpBroadcast slot blocks eccs s
  | .opAllGather slot blocks eccs => Sys2Proof.Machine.execOpAllGather slot blocks eccs s
  | .opAllToAll slot blocks eccs => Sys2Proof.Machine.execOpAllToAll slot blocks eccs s
  | .opBarrier slot blocks eccs => Sys2Proof.Machine.execOpBarrier slot blocks eccs s
  | .opSelect slot blocks eccs => Sys2Proof.Machine.execOpSelect slot blocks eccs s
  | .opScanCarry slot blocks eccs => Sys2Proof.Machine.execOpScanCarry slot blocks eccs s
  | .opScanChunk slot blocks eccs => Sys2Proof.Machine.execOpScanChunk slot blocks eccs s
  | .opScanStream slot blocks eccs => Sys2Proof.Machine.execOpScanStream slot blocks eccs s
  | .opScanPipe slot blocks eccs => Sys2Proof.Machine.execOpScanPipe slot blocks eccs s
  | .taskStart slot => Sys2Proof.Machine.execTaskStart slot s
  | .irqMaskWrite val => Sys2Proof.Machine.execIrqMaskWrite val s
  | .programImageLoad slot => Sys2Proof.Machine.execProgramImageLoad slot s
  | .millStepStart slot ecc => Sys2Proof.Machine.execMillStepStart slot ecc s
  | .millStepFinish slot => Sys2Proof.Machine.execMillStepFinish slot s
  | .stepDeferred slot => Sys2Proof.Machine.execStepDeferred slot s
  | .bellOverrun slot => Sys2Proof.Machine.execBellOverrun slot s
  | .scrubSlot bank fixed bad => Sys2Proof.Machine.execScrubSlot bank fixed bad s
  | .spareBistSlot bank good => Sys2Proof.Machine.execSpareBistSlot bank good s
  | .remapCopySlot bank ecc => Sys2Proof.Machine.execRemapCopySlot bank ecc s
  | .remapSwitch bank => Sys2Proof.Machine.execRemapSwitch bank s
  | .traceCtrlWrite val => Sys2Proof.Machine.execTraceCtrlWrite val s
  | .partialExclusion slot child => Sys2Proof.Machine.execPartialExclusion slot child s
  | .curveShadowWrite path k val => Sys2Proof.Machine.execCurveShadowWrite path k val s
  | .abortNoticeReceive src sheaf => Sys2Proof.Machine.execAbortNoticeReceive src sheaf s
  | .abortNoticeExpired group inst => Sys2Proof.Machine.execAbortNoticeExpired group inst s
  | .ditherCalPass f etas => Sys2Proof.Machine.execDitherCalPass f etas s
  | .bgSheafReceive link sheaf => Sys2Proof.Machine.execBgSheafReceive link sheaf s
  | .calibDitherCal val => Sys2Proof.Machine.execCalibDitherCal val s
  | .calibL0Check val => Sys2Proof.Machine.execCalibL0Check val s
  | .calibSpareBist val => Sys2Proof.Machine.execCalibSpareBist val s
  | .calibFerryRelock val => Sys2Proof.Machine.execCalibFerryRelock val s
  | .calibLaneBist val => Sys2Proof.Machine.execCalibLaneBist val s
  | .laneBistEnd f j errors => Sys2Proof.Machine.execLaneBistEnd f j errors s
  | .calibReqBad val => Sys2Proof.Machine.execCalibReqBad val s
  | .telemAgeReset val => Sys2Proof.Machine.execTelemAgeReset val s
  | .errorOccurrence page code tag injected prefetch detail => Sys2Proof.Machine.execErrorOccurrence page code tag injected prefetch detail s
  | .alarmPinSample level => Sys2Proof.Machine.execAlarmPinSample level s
  | .alarmSummaryClear val => Sys2Proof.Machine.execAlarmSummaryClear val s
  | .ledgerEntryWrite verify => Sys2Proof.Machine.execLedgerEntryWrite verify s
  | .ledgerBistDone pass => Sys2Proof.Machine.execLedgerBistDone pass s
  | .ledgerRearm val verify => Sys2Proof.Machine.execLedgerRearm val verify s
  | .readReg addr => Sys2Proof.Machine.execReadReg addr s
  | .writeReg addr val pec => Sys2Proof.Machine.execWriteReg addr val pec s
  | .mbxWrite data pec => Sys2Proof.Machine.execMbxWrite data pec s
  | .mbxSend pec => Sys2Proof.Machine.execMbxSend pec s
  | .mbxRead off => Sys2Proof.Machine.execMbxRead off s
  | .mbxClear pec => Sys2Proof.Machine.execMbxClear pec s
  | .smbAlertResponse wins => Sys2Proof.Machine.execSmbAlertResponse wins s
  | .uartCharReceive edge high samples => Sys2Proof.Machine.execUartCharReceive edge high samples s
  | .uartBreak low high => Sys2Proof.Machine.execUartBreak low high s
  | .bypass ir => Sys2Proof.Machine.execBypass ir s
  | .samplePreload data => Sys2Proof.Machine.execSamplePreload data s
  | .extest data => Sys2Proof.Machine.execExtest data s
  | .regAccess op addr val => Sys2Proof.Machine.execRegAccess op addr val s
  | .reeveDbg op addr val => Sys2Proof.Machine.execReeveDbg op addr val s
  | .hearthDbg op addr val => Sys2Proof.Machine.execHearthDbg op addr val s
  | .millerDbg op addr val => Sys2Proof.Machine.execMillerDbg op addr val s
  | .memAccess op addr val ecc => Sys2Proof.Machine.execMemAccess op addr val ecc s
  | .debugHalt unit => Sys2Proof.Machine.execDebugHalt unit s
  | .debugStep unit => Sys2Proof.Machine.execDebugStep unit s
  | .debugResume unit => Sys2Proof.Machine.execDebugResume unit s
  | .hearthControllerStop h => Sys2Proof.Machine.execHearthControllerStop h s
  | .pgErrClear page val => Sys2Proof.Machine.execPgErrClear page val s
  | .pgErrMaskWrite page val => Sys2Proof.Machine.execPgErrMaskWrite page val s
  | .ledgerRpWrite val => Sys2Proof.Machine.execLedgerRpWrite val s
  | .ledgerWrapWrite val => Sys2Proof.Machine.execLedgerWrapWrite val s
  | .add o xd xa xb => Sys2Proof.Machine.execAdd o xd xa xb s
  | .sub o xd xa xb => Sys2Proof.Machine.execSub o xd xa xb s
  | .mul o xd xa xb => Sys2Proof.Machine.execMul o xd xa xb s
  | .and o xd xa xb => Sys2Proof.Machine.execAnd o xd xa xb s
  | .or o xd xa xb => Sys2Proof.Machine.execOr o xd xa xb s
  | .xor o xd xa xb => Sys2Proof.Machine.execXor o xd xa xb s
  | .shl o xd xa xb => Sys2Proof.Machine.execShl o xd xa xb s
  | .shr o xd xa xb => Sys2Proof.Machine.execShr o xd xa xb s
  | .sra o xd xa xb => Sys2Proof.Machine.execSra o xd xa xb s
  | .li o xd imm => Sys2Proof.Machine.execLi o xd imm s
  | .slt o xd xa xb => Sys2Proof.Machine.execSlt o xd xa xb s
  | .sltu o xd xa xb => Sys2Proof.Machine.execSltu o xd xa xb s
  | .seq o xd xa xb => Sys2Proof.Machine.execSeq o xd xa xb s
  | .beq o xa xb label => Sys2Proof.Machine.execBeq o xa xb label s
  | .bne o xa xb label => Sys2Proof.Machine.execBne o xa xb label s
  | .blt o xa xb label => Sys2Proof.Machine.execBlt o xa xb label s
  | .bge o xa xb label => Sys2Proof.Machine.execBge o xa xb label s
  | .bltu o xa xb label => Sys2Proof.Machine.execBltu o xa xb label s
  | .jmp o label => Sys2Proof.Machine.execJmp o label s
  | .ldD o xd xa imm ecc => Sys2Proof.Machine.execLdD o xd xa imm ecc s
  | .stD o xa imm xs => Sys2Proof.Machine.execStD o xa imm xs s
  | .loopM o xc stop => Sys2Proof.Machine.execLoopM o xc stop s
  | .callPb o routine entry => Sys2Proof.Machine.execCallPb o routine entry s
  | .ret o => Sys2Proof.Machine.execRet o s
  | .step o rows mode hold => Sys2Proof.Machine.execStep o rows mode hold s
  | .waitL o xland xseq => Sys2Proof.Machine.execWaitL o xland xseq s
  | .endOp o xs => Sys2Proof.Machine.execEndOp o xs s
  | .fenceG o => Sys2Proof.Machine.execFenceG o s
  | .cfgL o n xs => Sys2Proof.Machine.execCfgL o n xs s
  | .goCopy o eccs => Sys2Proof.Machine.execGoCopy o eccs s
  | .goReduce o eccs => Sys2Proof.Machine.execGoReduce o eccs s
  | .goSieve o eccs => Sys2Proof.Machine.execGoSieve o eccs s
  | .goScan o eccs => Sys2Proof.Machine.execGoScan o eccs s
  | .goPipe o eccs => Sys2Proof.Machine.execGoPipe o eccs s
  | .goWait o => Sys2Proof.Machine.execGoWait o s
  | .mvXv o xd vs lane core => Sys2Proof.Machine.execMvXv o xd vs lane core s
  | .stI o wi pi => Sys2Proof.Machine.execStI o wi pi s
  | .syncI o => Sys2Proof.Machine.execSyncI o s
  | .rdBell o xd => Sys2Proof.Machine.execRdBell o xd s
  | .rdArr o xd => Sys2Proof.Machine.execRdArr o xd s
  | .loopE o st xc n => Sys2Proof.Machine.execLoopE o st xc n s
  | .aSet o an xs => Sys2Proof.Machine.execASet o an xs s
  | .aSetc o an xs stride => Sys2Proof.Machine.execASetc o an xs stride s
  | .aAdd o an imm => Sys2Proof.Machine.execAAdd o an imm s
  | .ldV o vd an k eccs => Sys2Proof.Machine.execLdV o vd an k eccs s
  | .stV o an k vs => Sys2Proof.Machine.execStV o an k vs s
  | .ldQ o qn an k eccs => Sys2Proof.Machine.execLdQ o qn an k eccs s
  | .sqSt o an k => Sys2Proof.Machine.execSqSt o an k s
  | .sqSh o xflow xseq lastSheaf => Sys2Proof.Machine.execSqSh o xflow xseq lastSheaf s
  | .ldSh o qn xland xseq eccs => Sys2Proof.Machine.execLdSh o qn xland xseq eccs s
  | .accLd o cn an eccs => Sys2Proof.Machine.execAccLd o cn an eccs s
  | .accSt o an cn => Sys2Proof.Machine.execAccSt o an cn s
  | .vAdd o f d a b p => Sys2Proof.Machine.execVAdd o f d a b p s
  | .vSub o f d a b p => Sys2Proof.Machine.execVSub o f d a b p s
  | .vMul o f d a b p => Sys2Proof.Machine.execVMul o f d a b p s
  | .vFma o f d a b c p => Sys2Proof.Machine.execVFma o f d a b c p s
  | .vMax o f d a b p => Sys2Proof.Machine.execVMax o f d a b p s
  | .vMin o f d a b p => Sys2Proof.Machine.execVMin o f d a b p s
  | .vAbs o f d a p => Sys2Proof.Machine.execVAbs o f d a p s
  | .vNeg o f d a p => Sys2Proof.Machine.execVNeg o f d a p s
  | .vAnd o f d a b p => Sys2Proof.Machine.execVAnd o f d a b p s
  | .vOr o f d a b p => Sys2Proof.Machine.execVOr o f d a b p s
  | .vXor o f d a b p => Sys2Proof.Machine.execVXor o f d a b p s
  | .vNot o f d a p => Sys2Proof.Machine.execVNot o f d a p s
  | .vShl o f d a b p => Sys2Proof.Machine.execVShl o f d a b p s
  | .vShr o f d a b p => Sys2Proof.Machine.execVShr o f d a b p s
  | .vSra o f d a b p => Sys2Proof.Machine.execVSra o f d a b p s
  | .vCmp o cc f pd a b p => Sys2Proof.Machine.execVCmp o cc f pd a b p s
  | .vSel o d p a b => Sys2Proof.Machine.execVSel o d p a b s
  | .vMov o d a p => Sys2Proof.Machine.execVMov o d a p s
  | .vBcast o f d xs p => Sys2Proof.Machine.execVBcast o f d xs p s
  | .vIota o f d p => Sys2Proof.Machine.execVIota o f d p s
  | .vPerm o f d a x p => Sys2Proof.Machine.execVPerm o f d a x p s
  | .vRed o op f d a p => Sys2Proof.Machine.execVRed o op f d a p s
  | .vCvt o src dst d a p => Sys2Proof.Machine.execVCvt o src dst d a p s
  | .vCvtSr o src dst d a xseed xidx p => Sys2Proof.Machine.execVCvtSr o src dst d a xseed xidx p s
  | .vPwl o d a table p => Sys2Proof.Machine.execVPwl o d a table p s
  | .mZero o cn => Sys2Proof.Machine.execMZero o cn s
  | .mOpa o cn a b k => Sys2Proof.Machine.execMOpa o cn a b k s
  | .mRd o d cn r => Sys2Proof.Machine.execMRd o d cn r s
  | .mWr o cn v r => Sys2Proof.Machine.execMWr o cn v r s
  | .mAdd o cn v r => Sys2Proof.Machine.execMAdd o cn v r s
  | .sInit o xk xflags => Sys2Proof.Machine.execSInit o xk xflags s
  | .sIns o vk vi p => Sys2Proof.Machine.execSIns o vk vi p s
  | .sBitSort o vk vi => Sys2Proof.Machine.execSBitSort o vk vi s
  | .sBitMerge o vk vi vk2 vi2 => Sys2Proof.Machine.execSBitMerge o vk vi vk2 vi2 s
  | .sExcl o pd vk vi xv xi => Sys2Proof.Machine.execSExcl o pd vk vi xv xi s
  | .sMrg o vk vi xn => Sys2Proof.Machine.execSMrg o vk vi xn s
  | .sGet o vk vi => Sys2Proof.Machine.execSGet o vk vi s
  | .sCnt o xd => Sys2Proof.Machine.execSCnt o xd s
  | .sig o st t => Sys2Proof.Machine.execSig o st t s
  | .wait o st t => Sys2Proof.Machine.execWait o st t s
  | .coldReset => Sys2Proof.Machine.execColdReset s
  | .pwrOkLow => Sys2Proof.Machine.execPwrOkLow s
  | .resetNAssert => Sys2Proof.Machine.execResetNAssert s
  | .testEnHigh => Sys2Proof.Machine.execTestEnHigh s
  | .vddHtrLost => Sys2Proof.Machine.execVddHtrLost s
  | .refclkLoss => Sys2Proof.Machine.execRefclkLoss s
  | .refclkReturn => Sys2Proof.Machine.execRefclkReturn s
  | .startupBegin => Sys2Proof.Machine.execStartupBegin s
  | .stepClocks => Sys2Proof.Machine.execStepClocks s
  | .stepAuthReeve => Sys2Proof.Machine.execStepAuthReeve s
  | .stepPairing => Sys2Proof.Machine.execStepPairing s
  | .stepAlmanac => Sys2Proof.Machine.execStepAlmanac s
  | .stepLink => Sys2Proof.Machine.execStepLink s
  | .stepRelock => Sys2Proof.Machine.execStepRelock s
  | .stepLanes => Sys2Proof.Machine.execStepLanes s
  | .stepBellJoin => Sys2Proof.Machine.execStepBellJoin s
  | .stepReport => Sys2Proof.Machine.execStepReport s
  | .bootStepTimeout => Sys2Proof.Machine.execBootStepTimeout s
  | .bootBackoffExpiry => Sys2Proof.Machine.execBootBackoffExpiry s
  | .flashRead => Sys2Proof.Machine.execFlashRead s
  | .flashProgram => Sys2Proof.Machine.execFlashProgram s
  | .flashErase => Sys2Proof.Machine.execFlashErase s
  | .bellJoinCheck => Sys2Proof.Machine.execBellJoinCheck s
  | .bellServoUpdate => Sys2Proof.Machine.execBellServoUpdate s
  | .parentLost => Sys2Proof.Machine.execParentLost s
  | .holdoverLong => Sys2Proof.Machine.execHoldoverLong s
  | .standbyRootTakeover => Sys2Proof.Machine.execStandbyRootTakeover s
  | .timeInLost => Sys2Proof.Machine.execTimeInLost s
  | .bandFall => Sys2Proof.Machine.execBandFall s
  | .tripClear => Sys2Proof.Machine.execTripClear s
  | .topSnapAll => Sys2Proof.Machine.execTopSnapAll s
  | .functionReset => Sys2Proof.Machine.execFunctionReset s
  | .retrainAll => Sys2Proof.Machine.execRetrainAll s
  | .flitGapTimeout => Sys2Proof.Machine.execFlitGapTimeout s
  | .flitAckTimeout => Sys2Proof.Machine.execFlitAckTimeout s
  | .linkStall => Sys2Proof.Machine.execLinkStall s
  | .linkDownLimit => Sys2Proof.Machine.execLinkDownLimit s
  | .hostStall => Sys2Proof.Machine.execHostStall s
  | .lineRearm => Sys2Proof.Machine.execLineRearm s
  | .lanternPoll => Sys2Proof.Machine.execLanternPoll s
  | .wearPeriod => Sys2Proof.Machine.execWearPeriod s
  | .heartbeatCheck => Sys2Proof.Machine.execHeartbeatCheck s
  | .healthCapture => Sys2Proof.Machine.execHealthCapture s
  | .failoverGrant => Sys2Proof.Machine.execFailoverGrant s
  | .failoverCut => Sys2Proof.Machine.execFailoverCut s
  | .plannedHandover => Sys2Proof.Machine.execPlannedHandover s
  | .reclaim => Sys2Proof.Machine.execReclaim s
  | .sheafForward => Sys2Proof.Machine.execSheafForward s
  | .schedShadowScan => Sys2Proof.Machine.execSchedShadowScan s
  | .weirStale => Sys2Proof.Machine.execWeirStale s
  | .spareRearm => Sys2Proof.Machine.execSpareRearm s
  | .detourIntermediate => Sys2Proof.Machine.execDetourIntermediate s
  | .cmdEnable => Sys2Proof.Machine.execCmdEnable s
  | .cmdDisable => Sys2Proof.Machine.execCmdDisable s
  | .cmdResume => Sys2Proof.Machine.execCmdResume s
  | .cmdBreakResume => Sys2Proof.Machine.execCmdBreakResume s
  | .opNop => Sys2Proof.Machine.execOpNop s
  | .opCancelAll => Sys2Proof.Machine.execOpCancelAll s
  | .traceGroupStream => Sys2Proof.Machine.execTraceGroupStream s
  | .calibL0CheckEnd => Sys2Proof.Machine.execCalibL0CheckEnd s
  | .telemetryCapture => Sys2Proof.Machine.execTelemetryCapture s
  | .freezeReaction => Sys2Proof.Machine.execFreezeReaction s
  | .warmReaction => Sys2Proof.Machine.execWarmReaction s
  | .alarmNMinimumEnd => Sys2Proof.Machine.execAlarmNMinimumEnd s
  | .alarmRelease => Sys2Proof.Machine.execAlarmRelease s
  | .alarmResetClear => Sys2Proof.Machine.execAlarmResetClear s
  | .ledgerBist => Sys2Proof.Machine.execLedgerBist s
  | .gaspClear => Sys2Proof.Machine.execGaspClear s
  | .getStatus => Sys2Proof.Machine.execGetStatus s
  | .smbTimeout => Sys2Proof.Machine.execSmbTimeout s
  | .consoleLineBad => Sys2Proof.Machine.execConsoleLineBad s
  | .consoleHelp => Sys2Proof.Machine.execConsoleHelp s
  | .consoleVer => Sys2Proof.Machine.execConsoleVer s
  | .consoleState => Sys2Proof.Machine.execConsoleState s
  | .consoleRd => Sys2Proof.Machine.execConsoleRd s
  | .consoleWr => Sys2Proof.Machine.execConsoleWr s
  | .consoleLedger => Sys2Proof.Machine.execConsoleLedger s
  | .consoleTelem => Sys2Proof.Machine.execConsoleTelem s
  | .tapReset => Sys2Proof.Machine.execTapReset s
  | .idcode => Sys2Proof.Machine.execIdcode s
  | .clamp => Sys2Proof.Machine.execClamp s
  | .highz => Sys2Proof.Machine.execHighz s
  | .getInfo => Sys2Proof.Machine.execGetInfo s
  | .getTelem => Sys2Proof.Machine.execGetTelem s
  | .subTelem => Sys2Proof.Machine.execSubTelem s
  | .almRead => Sys2Proof.Machine.execAlmRead s
  | .almWrite => Sys2Proof.Machine.execAlmWrite s
  | .almCommit => Sys2Proof.Machine.execAlmCommit s
  | .ledgerRead => Sys2Proof.Machine.execLedgerRead s
  | .pwrOkHigh => Sys2Proof.Machine.execPwrOkHigh s
  | .testEnLow => Sys2Proof.Machine.execTestEnLow s
  | .vddHtrReturn => Sys2Proof.Machine.execVddHtrReturn s

end Sys2Proof.Machine
end

