-- ==== Sys2Proof/WellFormed.lean ====
section
/-! DEFINITION. Sys2Proof/WellFormed.lean: which terms of `Instr` are commands that the interface can carry: every index
inside the range that the spec gives the thing it names. `exec` is total beyond them; nothing outside sends one. -/

namespace Sys2Proof

/-- Where an operation of the Mill stands: slots 0 to 63, eight rows, 20-bit word numbers (R396, R398, R412). -/
def OpAt.wf (o : OpAt) : Bool := decide (o.slot < 64) && decide (o.rows < 256) && decide (o.word < 2 ^ 20)

/-- Vector registers v0 to v31, queues q0 to q3 (R400). -/
def VReg.wf : VReg → Bool
  | .v n => decide (n < 32)
  | .q n => decide (n < 4)
  | .sq => true

/-- A predicate suffix names p0 to p7 (R400, R433). -/
def predOk (p : Option Nat) : Bool := p.all (fun n => decide (n < 8))

/-- A sheaf's fields fit its header (R274) and its payload has 512 bytes. -/
def Sheaf.wf (h : Sheaf) : Bool :=
  decide (h.flow < 2 ^ 20) && decide (h.kind < 16) && decide (h.seq < 2 ^ 24) && decide (h.hops < 16)
    && decide (h.tag < 2 ^ 16) && decide (h.dest < 2 ^ 24) && decide (h.payload.length = 512) && decide (h.tally < 2 ^ 32)

/-- A received frame has 20 codewords, a 96-byte header, 24 slots and a 64-byte trailer (R266). -/
def RxFrame.wf (x : RxFrame) : Bool :=
  decide (x.errors.length = 20) && decide (x.header.length = 96) && decide (x.slots.length = 24)
    && decide (x.trailer.length = 64)

/-- The commands that the interface can carry. -/
def Instr.wf : Instr → Bool
  | .warmReset _ => true
  | .pllUnlock _ => true
  | .pllRelock _ => true
  | .stepFlash _ => true
  | .stepLoadHearth _ _ _ _ => true
  | .stepLantern _ _ => true
  | .coldRelockFerry f _ => decide (f < 8)
  | .hearthImageRetry _ _ _ _ => true
  | .flashOpComplete _ => true
  | .almanacCommit _ => true
  | .almanacCommitDone _ => true
  | .svnAdvance _ => true
  | .tokenSubmit _ => true
  | .debugLock _ => true
  | .nonceLoRead _ => true
  | .bellBoundary _ => true
  | .bellNumLoRead _ => true
  | .bellJoinStep lengthen num _ => decide (lengthen < 2 ^ 32) && decide (num < 2 ^ 48)
  | .rootStartTimeout epochNum => decide (epochNum < 256)
  | .bellRootSet _ => true
  | .bellRootClear _ => true
  | .parentPrefWrite n _ => decide (n < 4)
  | .timeInEdge _ => true
  | .sensorSample _ _ => true
  | .unmappedAccess _ addr => decide (addr < 2 ^ 32)
  | .registerWrite _ addr _ => decide (addr < 2 ^ 32)
  | .counterLoRead _ page n => decide (page < 256) && decide (n < 32)
  | .counterHiWrite _ page n _ => decide (page < 256) && decide (n < 32)
  | .counterLoWrite _ page n _ => decide (page < 256) && decide (n < 32)
  | .rcRegisterRead _ addr => decide (addr < 2 ^ 32)
  | .pgErrClassWrite _ page _ => decide (page < 256)
  | .pgErrInjectWrite page _ => decide (page < 256)
  | .swapArm page _ => decide (page < 256)
  | .swapDisarm page _ => decide (page < 256)
  | .swapFollowWrite page _ => decide (page < 256)
  | .shadowWrite _ page off _ => decide (page < 256) && decide (off < 4096)
  | .tableViewWrite addr _ => decide (addr < 2 ^ 32)
  | .pgSnapTake page => decide (page < 256)
  | .topResetWarm _ => true
  | .topResetFunction _ => true
  | .topResetKeyBad _ => true
  | .bundleDetectExit n => decide (n < 6)
  | .bundleTrainDone n _ => decide (n < 6)
  | .bundleLockDone n _ _ => decide (n < 6)
  | .bundleExchangeDone n caps => decide (n < 6) && decide (caps.length = 5)
  | .bundleStageTimeout n => decide (n < 6)
  | .bundleBackoffExpiry n => decide (n < 6)
  | .bundleRetrain n => decide (n < 6)
  | .flitReceive n flit => decide (n < 6) && decide (flit.length = 256)
  | .nakFlitReceive ack => decide (ack < 65536)
  | .elasticOverrun n => decide (n < 6)
  | .hostMemWrite addr _ => decide (addr < 2 ^ 32)
  | .hostMemRead _ addr _ _ => decide (addr < 2 ^ 32)
  | .dmaReadCompletion _ status _ => decide (status < 256)
  | .ctlWrite addr _ _ => decide (addr < 2 ^ 32)
  | .ctlRead _ addr _ _ => decide (addr < 2 ^ 32)
  | .mgmtMessage _ => true
  | .dbgRequest _ addr _ => decide (addr < 2 ^ 32)
  | .selectSwitchWrite word _ => decide (word < 16)
  | .inputLoss _ _ => true
  | .inputReturn _ _ _ => true
  | .lineFail _ line _ => decide (line < 32)
  | .lineMove line _ => decide (line < 32)
  | .lanternAlert _ => true
  | .lanternBusStuck _ => true
  | .setLinePower _ line _ _ => line.all (fun l => decide (l < 32))
  | .readLinePower _ line _ => decide (line < 32)
  | .readHours _ powered emitting => decide (powered < 2 ^ 32) && decide (emitting < 2 ^ 32)
  | .setStandby _ _ => true
  | .readIdentity _ _ => true
  | .lanternTransactionFail _ => true
  | .monitorSample ch code _ => decide (ch < 1536) && decide (code < 4096)
  | .rangePinEnd ch => decide (ch < 1536)
  | .adcReferenceCheck adc _ => decide (adc < 64)
  | .hearthLoopUpdate loop _ _ => decide (loop < 1024)
  | .parkMove loop => decide (loop < 1024)
  | .mirrorFrame _ _ _ => true
  | .heartbeatSend _ _ _ _ => true
  | .hearthBist _ _ => true
  | .hearthMarchBlock h _ => decide (h < 2)
  | .reeveArbitration _ _ => true
  | .hearthRepair h _ => decide (h < 2)
  | .resyncCopy h _ => decide (h < 2)
  | .resyncComplete h => decide (h < 2)
  | .resyncTimeout h => decide (h < 2)
  | .hearthSwitchRequest _ => true
  | .hearthSoftReset h => decide (h < 2)
  | .losEvaluate f w _ => decide (f < 8) && decide (w < 32)
  | .laneDetectExit f j => decide (f < 8) && decide (j < 32)
  | .trainingFrameReceive f j _ => decide (f < 8) && decide (j < 32)
  | .eqFreezeWrite f _ => decide (f < 8)
  | .laneTrainDone f j => decide (f < 8) && decide (j < 32)
  | .laneLockDone f j => decide (f < 8) && decide (j < 32)
  | .laneExchangeDone f j => decide (f < 8) && decide (j < 32)
  | .laneStageTimeout f j => decide (f < 8) && decide (j < 32)
  | .laneBackoffExpiry f j => decide (f < 8) && decide (j < 32)
  | .ferryLaneReset f _ => decide (f < 8)
  | .frameLand f j frame => decide (f < 8) && decide (j < 32) && frame.wf
  | .hostDelivery land _ => decide (land < 1024)
  | .landingReset idx => decide (idx < 1024)
  | .putApply _ _ => true
  | .getReqApply _ _ _ => true
  | .getDataApply _ _ => true
  | .programSheafApply _ _ => true
  | .mgmtSheafApply _ _ => true
  | .creditSheafSend f j => decide (f < 8) && decide (j < 32)
  | .componentSpare f w kind => decide (f < 8) && decide (w < 32) && decide (kind < 3)
  | .detourStart f j => decide (f < 8) && decide (j < 32)
  | .detourWithdraw f j => decide (f < 8) && decide (j < 32)
  | .holdEpisodeCap f j => decide (f < 8) && decide (j < 32)
  | .taskTimeout slot => decide (slot < 64)
  | .fenceMarkSend slot flow => decide (slot < 64) && decide (flow < 2 ^ 20)
  | .ringRegisterWrite off _ => decide (off < 4096)
  | .cmdTailWrite _ => true
  | .descriptorRead entry desc => decide (entry < 65536) && decide (desc.length = 64)
  | .ringFault reason entry => decide (reason < 8) && decide (entry < 65536)
  | .evtHeadWrite _ => true
  | .cmdCancelWrite _ => true
  | .cancelExpired _ => true
  | .opPut slot _ => decide (slot < 64)
  | .opGet slot => decide (slot < 64)
  | .opProgramRun slot _ _ => decide (slot < 64)
  | .opProgramSend slot _ => decide (slot < 64)
  | .opFence slot => decide (slot < 64)
  | .opSwap slot => decide (slot < 64)
  | .opAllReduce slot _ _ => decide (slot < 64)
  | .opReduce slot _ _ => decide (slot < 64)
  | .opReduceScatter slot _ _ => decide (slot < 64)
  | .opBroadcast slot _ _ => decide (slot < 64)
  | .opAllGather slot _ _ => decide (slot < 64)
  | .opAllToAll slot _ _ => decide (slot < 64)
  | .opBarrier slot _ _ => decide (slot < 64)
  | .opSelect slot _ _ => decide (slot < 64)
  | .opScanCarry slot _ _ => decide (slot < 64)
  | .opScanChunk slot _ _ => decide (slot < 64)
  | .opScanStream slot _ _ => decide (slot < 64)
  | .opScanPipe slot _ _ => decide (slot < 64)
  | .taskStart slot => decide (slot < 64)
  | .irqMaskWrite _ => true
  | .programImageLoad slot => decide (slot < 64)
  | .millStepStart slot _ => decide (slot < 64)
  | .millStepFinish slot => decide (slot < 64)
  | .stepDeferred slot => decide (slot < 64)
  | .bellOverrun slot => decide (slot < 64)
  | .scrubSlot bank fixed _ => decide (bank < 160) && decide (fixed < 2 ^ 8)
  | .spareBistSlot bank _ => decide (bank < 160)
  | .remapCopySlot bank _ => decide (bank < 160)
  | .remapSwitch bank => decide (bank < 160)
  | .traceCtrlWrite _ => true
  | .partialExclusion slot child => decide (slot < 64) && decide (child < 6)
  | .curveShadowWrite _ k _ => decide (k < 80)
  | .abortNoticeReceive src sheaf => decide (src < 2 ^ 24) && sheaf.wf
  | .abortNoticeExpired group inst => decide (group < 4096) && decide (inst < 65536)
  | .ditherCalPass f _ => decide (f < 8)
  | .bgSheafReceive link sheaf => decide (link < 256) && sheaf.wf
  | .calibDitherCal _ => true
  | .calibL0Check _ => true
  | .calibSpareBist _ => true
  | .calibFerryRelock _ => true
  | .calibLaneBist _ => true
  | .laneBistEnd f j _ => decide (f < 8) && decide (j < 32)
  | .calibReqBad _ => true
  | .telemAgeReset _ => true
  | .errorOccurrence page code _ _ _ detail => decide (page < 256) && decide (code < 32) && decide (detail < 2 ^ 64)
  | .alarmPinSample _ => true
  | .alarmSummaryClear _ => true
  | .ledgerEntryWrite _ => true
  | .ledgerBistDone _ => true
  | .ledgerRearm _ _ => true
  | .readReg addr => decide (addr < 2 ^ 32)
  | .writeReg addr _ _ => decide (addr < 2 ^ 32)
  | .mbxWrite _ _ => true
  | .mbxSend _ => true
  | .mbxRead off => decide (off < 2 ^ 16)
  | .mbxClear _ => true
  | .smbAlertResponse _ => true
  | .uartCharReceive _ _ _ => true
  | .uartBreak _ _ => true
  | .bypass ir => decide (ir < 256)
  | .samplePreload _ => true
  | .extest _ => true
  | .regAccess op addr _ => decide (op < 4) && decide (addr < 2 ^ 32)
  | .reeveDbg op addr _ => decide (op < 4) && decide (addr < 2 ^ 32)
  | .hearthDbg op addr _ => decide (op < 4) && decide (addr < 2 ^ 32)
  | .millerDbg op addr _ => decide (op < 4) && decide (addr < 2 ^ 32)
  | .memAccess op addr _ _ => decide (op < 4) && decide (addr < 2 ^ 32)
  | .debugHalt unit => decide (unit < 4)
  | .debugStep unit => decide (unit < 4)
  | .debugResume unit => decide (unit < 4)
  | .hearthControllerStop h => decide (h < 2)
  | .pgErrClear page _ => decide (page < 256)
  | .pgErrMaskWrite page _ => decide (page < 256)
  | .ledgerRpWrite _ => true
  | .ledgerWrapWrite _ => true
  | .add o xd xa xb => o.wf && decide (xd < 32) && decide (xa < 32) && decide (xb < 32)
  | .sub o xd xa xb => o.wf && decide (xd < 32) && decide (xa < 32) && decide (xb < 32)
  | .mul o xd xa xb => o.wf && decide (xd < 32) && decide (xa < 32) && decide (xb < 32)
  | .and o xd xa xb => o.wf && decide (xd < 32) && decide (xa < 32) && decide (xb < 32)
  | .or o xd xa xb => o.wf && decide (xd < 32) && decide (xa < 32) && decide (xb < 32)
  | .xor o xd xa xb => o.wf && decide (xd < 32) && decide (xa < 32) && decide (xb < 32)
  | .shl o xd xa xb => o.wf && decide (xd < 32) && decide (xa < 32) && decide (xb < 32)
  | .shr o xd xa xb => o.wf && decide (xd < 32) && decide (xa < 32) && decide (xb < 32)
  | .sra o xd xa xb => o.wf && decide (xd < 32) && decide (xa < 32) && decide (xb < 32)
  | .li o xd imm => o.wf && decide (xd < 32) && decide (imm < 2 ^ 64)
  | .slt o xd xa xb => o.wf && decide (xd < 32) && decide (xa < 32) && decide (xb < 32)
  | .sltu o xd xa xb => o.wf && decide (xd < 32) && decide (xa < 32) && decide (xb < 32)
  | .seq o xd xa xb => o.wf && decide (xd < 32) && decide (xa < 32) && decide (xb < 32)
  | .beq o xa xb label => o.wf && decide (xa < 32) && decide (xb < 32) && decide (label < 2 ^ 20)
  | .bne o xa xb label => o.wf && decide (xa < 32) && decide (xb < 32) && decide (label < 2 ^ 20)
  | .blt o xa xb label => o.wf && decide (xa < 32) && decide (xb < 32) && decide (label < 2 ^ 20)
  | .bge o xa xb label => o.wf && decide (xa < 32) && decide (xb < 32) && decide (label < 2 ^ 20)
  | .bltu o xa xb label => o.wf && decide (xa < 32) && decide (xb < 32) && decide (label < 2 ^ 20)
  | .jmp o label => o.wf && decide (label < 2 ^ 20)
  | .ldD o xd xa _ _ => o.wf && decide (xd < 32) && decide (xa < 32)
  | .stD o xa _ xs => o.wf && decide (xa < 32) && decide (xs < 32)
  | .loopM o xc _ => o.wf && decide (xc < 32)
  | .callPb o routine _ => o.wf && decide (routine < 2 ^ 20)
  | .ret o => o.wf
  | .step o rows _ _ => o.wf && decide (rows < 256)
  | .waitL o xland xseq => o.wf && decide (xland < 32) && decide (xseq < 32)
  | .endOp o xs => o.wf && decide (xs < 32)
  | .fenceG o => o.wf
  | .cfgL o n xs => o.wf && decide (n < 16) && decide (xs < 32)
  | .goCopy o _ => o.wf
  | .goReduce o _ => o.wf
  | .goSieve o _ => o.wf
  | .goScan o _ => o.wf
  | .goPipe o _ => o.wf
  | .goWait o => o.wf
  | .mvXv o xd vs lane core => o.wf && decide (xd < 32) && decide (vs < 32) && decide (lane < 64) && decide (core < 128)
  | .stI o _ _ => o.wf
  | .syncI o => o.wf
  | .rdBell o xd => o.wf && decide (xd < 32)
  | .rdArr o xd => o.wf && decide (xd < 32)
  | .loopE o _ xc n => o.wf && decide (xc < 32) && decide (n < 17)
  | .aSet o an xs => o.wf && decide (an < 16) && decide (xs < 32)
  | .aSetc o an xs _ => o.wf && decide (an < 16) && decide (xs < 32)
  | .aAdd o an _ => o.wf && decide (an < 16)
  | .ldV o vd an _ _ => o.wf && decide (vd < 32) && decide (an < 16)
  | .stV o an _ vs => o.wf && decide (an < 16) && decide (vs < 32)
  | .ldQ o qn an _ _ => o.wf && decide (qn < 4) && decide (an < 16)
  | .sqSt o an _ => o.wf && decide (an < 16)
  | .sqSh o xflow xseq _ => o.wf && decide (xflow < 32) && decide (xseq < 32)
  | .ldSh o qn xland xseq _ => o.wf && decide (qn < 4) && decide (xland < 32) && decide (xseq < 32)
  | .accLd o cn an _ => o.wf && decide (cn < 4) && decide (an < 16)
  | .accSt o an cn => o.wf && decide (an < 16) && decide (cn < 4)
  | .vAdd o _ d a b p => o.wf && d.wf && a.wf && b.wf && predOk p
  | .vSub o _ d a b p => o.wf && d.wf && a.wf && b.wf && predOk p
  | .vMul o _ d a b p => o.wf && d.wf && a.wf && b.wf && predOk p
  | .vFma o _ d a b c p => o.wf && d.wf && a.wf && b.wf && c.wf && predOk p
  | .vMax o _ d a b p => o.wf && d.wf && a.wf && b.wf && predOk p
  | .vMin o _ d a b p => o.wf && d.wf && a.wf && b.wf && predOk p
  | .vAbs o _ d a p => o.wf && d.wf && a.wf && predOk p
  | .vNeg o _ d a p => o.wf && d.wf && a.wf && predOk p
  | .vAnd o _ d a b p => o.wf && d.wf && a.wf && b.wf && predOk p
  | .vOr o _ d a b p => o.wf && d.wf && a.wf && b.wf && predOk p
  | .vXor o _ d a b p => o.wf && d.wf && a.wf && b.wf && predOk p
  | .vNot o _ d a p => o.wf && d.wf && a.wf && predOk p
  | .vShl o _ d a b p => o.wf && d.wf && a.wf && b.wf && predOk p
  | .vShr o _ d a b p => o.wf && d.wf && a.wf && b.wf && predOk p
  | .vSra o _ d a b p => o.wf && d.wf && a.wf && b.wf && predOk p
  | .vCmp o _ _ pd a b p => o.wf && decide (pd < 8) && a.wf && b.wf && predOk p
  | .vSel o d p a b => o.wf && d.wf && decide (p < 8) && a.wf && b.wf
  | .vMov o d a p => o.wf && d.wf && a.wf && predOk p
  | .vBcast o _ d xs p => o.wf && d.wf && decide (xs < 32) && predOk p
  | .vIota o _ d p => o.wf && d.wf && predOk p
  | .vPerm o _ d a i p => o.wf && d.wf && a.wf && i.wf && predOk p
  | .vRed o _ _ d a p => o.wf && d.wf && a.wf && predOk p
  | .vCvt o _ _ d a p => o.wf && d.wf && a.wf && predOk p
  | .vCvtSr o _ _ d a xseed xidx p => o.wf && d.wf && a.wf && decide (xseed < 32) && decide (xidx < 32) && predOk p
  | .vPwl o d a table p => o.wf && d.wf && a.wf && decide (table < 16) && predOk p
  | .mZero o cn => o.wf && decide (cn < 4)
  | .mOpa o cn a b k => o.wf && decide (cn < 4) && a.wf && b.wf && decide (k < 8)
  | .mRd o d cn r => o.wf && d.wf && decide (cn < 4) && decide (r < 4)
  | .mWr o cn v r => o.wf && decide (cn < 4) && v.wf && decide (r < 4)
  | .mAdd o cn v r => o.wf && decide (cn < 4) && v.wf && decide (r < 4)
  | .sInit o xk xflags => o.wf && decide (xk < 32) && decide (xflags < 32)
  | .sIns o vk vi p => o.wf && decide (vk < 32) && decide (vi < 32) && predOk p
  | .sBitSort o vk vi => o.wf && decide (vk < 32) && decide (vi < 32)
  | .sBitMerge o vk vi vk2 vi2 => o.wf && decide (vk < 32) && decide (vi < 32) && decide (vk2 < 32) && decide (vi2 < 32)
  | .sExcl o pd vk vi xv xi => o.wf && decide (pd < 8) && decide (vk < 32) && decide (vi < 32) && decide (xv < 32) && decide (xi < 32)
  | .sMrg o vk vi xn => o.wf && decide (vk < 32) && decide (vi < 32) && decide (xn < 32)
  | .sGet o vk vi => o.wf && decide (vk < 32) && decide (vi < 32)
  | .sCnt o xd => o.wf && decide (xd < 32)
  | .sig o _ t => o.wf && decide (t < 8)
  | .wait o _ t => o.wf && decide (t < 8)
  | .coldReset => true
  | .pwrOkLow => true
  | .resetNAssert => true
  | .testEnHigh => true
  | .vddHtrLost => true
  | .refclkLoss => true
  | .refclkReturn => true
  | .startupBegin => true
  | .stepClocks => true
  | .stepAuthReeve => true
  | .stepPairing => true
  | .stepAlmanac => true
  | .stepLink => true
  | .stepRelock => true
  | .stepLanes => true
  | .stepBellJoin => true
  | .stepReport => true
  | .bootStepTimeout => true
  | .bootBackoffExpiry => true
  | .flashRead => true
  | .flashProgram => true
  | .flashErase => true
  | .bellJoinCheck => true
  | .bellServoUpdate => true
  | .parentLost => true
  | .holdoverLong => true
  | .standbyRootTakeover => true
  | .timeInLost => true
  | .bandFall => true
  | .tripClear => true
  | .topSnapAll => true
  | .functionReset => true
  | .retrainAll => true
  | .flitGapTimeout => true
  | .flitAckTimeout => true
  | .linkStall => true
  | .linkDownLimit => true
  | .hostStall => true
  | .lineRearm => true
  | .lanternPoll => true
  | .wearPeriod => true
  | .heartbeatCheck => true
  | .healthCapture => true
  | .failoverGrant => true
  | .failoverCut => true
  | .plannedHandover => true
  | .reclaim => true
  | .sheafForward => true
  | .schedShadowScan => true
  | .weirStale => true
  | .spareRearm => true
  | .detourIntermediate => true
  | .cmdEnable => true
  | .cmdDisable => true
  | .cmdResume => true
  | .cmdBreakResume => true
  | .opNop => true
  | .opCancelAll => true
  | .traceGroupStream => true
  | .calibL0CheckEnd => true
  | .telemetryCapture => true
  | .freezeReaction => true
  | .warmReaction => true
  | .alarmNMinimumEnd => true
  | .alarmRelease => true
  | .alarmResetClear => true
  | .ledgerBist => true
  | .gaspClear => true
  | .getStatus => true
  | .smbTimeout => true
  | .consoleLineBad => true
  | .consoleHelp => true
  | .consoleVer => true
  | .consoleState => true
  | .consoleRd => true
  | .consoleWr => true
  | .consoleLedger => true
  | .consoleTelem => true
  | .tapReset => true
  | .idcode => true
  | .clamp => true
  | .highz => true
  | .getInfo => true
  | .getTelem => true
  | .subTelem => true
  | .almRead => true
  | .almWrite => true
  | .almCommit => true
  | .ledgerRead => true
  | .pwrOkHigh => true
  | .testEnLow => true
  | .vddHtrReturn => true

end Sys2Proof
end

