-- ==== Sys2Proof/Safety.lean ====
section
/-! DEFINITION. Sys2Proof/Safety.lean: the terms that statements about the block are made in: that a command completes,
what it leaves unchanged, and what holds of every well-formed state. -/

namespace Sys2Proof.Machine

/-- The command completes in a next state of which `P` holds. -/
def completes (i : Instr) (s : State) (P : State → Prop) : Prop := ∃ t, exec i s = .next t ∧ P t

/-- The parts of the state, one for each field of `State`. -/
inductive Part where
  | regs | bellNum | ticks | draws | pages | ledger | alarm | bell | pins | thermal | active | shadow | lastRead
  | alm | scratch | boot | uahus | lantern | ageing | codes | monitors | adcFault | twins | links | hops | tx |
  shepherd | sched | tasks | ring | granary | miller | mill | groups | routines | banks | calib | telem | mgmt |
  pending
  deriving DecidableEq, Repr

/-- The part is the same in both states. -/
@[reducible] def Part.same (s t : State) : Part → Prop
  | .regs => t.regs = s.regs
  | .bellNum => t.bellNum = s.bellNum
  | .ticks => t.ticks = s.ticks
  | .draws => t.draws = s.draws
  | .pages => t.pages = s.pages
  | .ledger => t.ledger = s.ledger
  | .alarm => t.alarm = s.alarm
  | .bell => t.bell = s.bell
  | .pins => t.pins = s.pins
  | .thermal => t.thermal = s.thermal
  | .active => t.active = s.active
  | .shadow => t.shadow = s.shadow
  | .lastRead => t.lastRead = s.lastRead
  | .alm => t.alm = s.alm
  | .scratch => t.scratch = s.scratch
  | .boot => t.boot = s.boot
  | .uahus => t.uahus = s.uahus
  | .lantern => t.lantern = s.lantern
  | .ageing => t.ageing = s.ageing
  | .codes => t.codes = s.codes
  | .monitors => t.monitors = s.monitors
  | .adcFault => t.adcFault = s.adcFault
  | .twins => t.twins = s.twins
  | .links => t.links = s.links
  | .hops => t.hops = s.hops
  | .tx => t.tx = s.tx
  | .shepherd => t.shepherd = s.shepherd
  | .sched => t.sched = s.sched
  | .tasks => t.tasks = s.tasks
  | .ring => t.ring = s.ring
  | .granary => t.granary = s.granary
  | .miller => t.miller = s.miller
  | .mill => t.mill = s.mill
  | .groups => t.groups = s.groups
  | .routines => t.routines = s.routines
  | .banks => t.banks = s.banks
  | .calib => t.calib = s.calib
  | .telem => t.telem = s.telem
  | .mgmt => t.mgmt = s.mgmt
  | .pending => t.pending = s.pending

/-- Every part but those listed is the same in both states. -/
def frame (ps : List Part) (s t : State) : Prop := ∀ p : Part, p ∉ ps → p.same s t

/-- Every register field whose key is none of those listed reads the same in both states. -/
def regsKept (s t : State) (fs : List Fld) : Prop := ∀ f : Fld, (∀ g ∈ fs, f.key ≠ g.key) → t.rd f = s.rd f

/-- The error header fields of page `p` that an occurrence of an error writes (R103, R104). -/
def errFields (p : Nat) : List Fld :=
  [Hdr.PG_ERR p, Hdr.PG_ERR_FIRST_VALID p, Hdr.PG_ERR_FIRST_CODE p, Hdr.PG_ERR_FIRST_BELL p]

/-- The fields of the Alarm collector that an occurrence of an error may write (R533 to R543). -/
def alarmFields : List Fld :=
  [Ctr.ALARM_OCCURRENCES.fld, Ctr.ALARM_RISINGS.fld, Ctr.ALARM_ALARM_ASSERTIONS.fld, Hdr.CNT_OVF 5,
   Reg.ALARM_SUMMARY_BLOCKS, Reg.ALARM_LAST_VALID, Reg.ALARM_LAST_CLASS, Reg.ALARM_LAST_BIT, Reg.ALARM_LAST_PAGE,
   Reg.ALARM_LAST_BELL, Reg.ALARM_STATUS_WOULD_DRIVE, Reg.ALARM_STATUS_MIN_RUNNING, Reg.ALARM_STATUS_RELEASE_PENDING,
   Reg.ALARM_STATUS_DRIVING, Reg.ALARM_STATUS_EXT_LOW]

/-- The fields that an entry written to a full Ledger queue changes (R553). -/
def ledgerFields : List Fld :=
  [Ctr.LEDGER_LEDGER_DROPPED.fld, Hdr.CNT_OVF 6, Reg.LEDGER_STATUS_OVERFLOW] ++ errFields 6

/-- The register fields that one occurrence of an error may change: the page's own error header, the Alarm collector's,
and the Ledger's where its write queue is full. -/
def raiseFields (p : Nat) : List Fld := errFields p ++ (alarmFields ++ ledgerFields)

/-- The error's bit of PG_ERR is set (R103). -/
def errUp (t : State) (e : ErrBit) : Prop := bit (t.rd (Hdr.PG_ERR e.page)) e.bit = true

/-- The command's error is raised: its PG_ERR bit is set, and no register field changes but those listed, and those that
an occurrence of the error may change (R103, R537). -/
def raises (s t : State) (e : ErrBit) (fs : List Fld) : Prop := errUp t e ∧ regsKept s t (fs ++ raiseFields e.page)

/-- The operation is at its slot's program counter, its step runs, and its word reads good, with no error injected
(R397, R398). -/
def State.issues (s : State) (o : OpAt) (p : Prog) : Prop :=
  s.issuing o = some p ∧ o.ecc = .ok ∧ s.rd (Hdr.INJ_COUNT 0x60) = 0

/-- The slot's program is now `q`; every other program, the cores and rows, the Granary, the Miller's memories, the tasks
and the schedule's state are as before. -/
def ran (s t : State) (o : OpAt) (q : Prog) : Prop :=
  t.prog o.slot = some q ∧ (∀ n, n ≠ o.slot → t.prog n = s.prog n) ∧ t.mill.cores = s.mill.cores ∧
  t.mill.rows = s.mill.rows ∧ t.granary = s.granary ∧ t.miller = s.miller ∧ t.tasks = s.tasks ∧ t.sched = s.sched

/-- The operation was illegal (R443): no operation, an error, and the task is to stop with DATA_SUSPECT. -/
def wasIllegal (s t : State) (o : OpAt) : Prop :=
  errUp t Err.MILL_ILLEGAL_OP ∧ (t.task o.slot).stop = some (8, 0) ∧ t.mill.cores = s.mill.cores ∧ t.granary = s.granary ∧
  t.miller = s.miller

/-- A core operation issues and can run at once: its rows are rows of its step, it is legal there, no other task holds the
accumulator it names, every stream of the step is empty, its cores are ready (R403), and no error is injected. -/
def State.issuesCore (s : State) (o : OpAt) (p : Prog) (op : COp) : Prop :=
  s.issues o p ∧ o.rows % 256 &&& p.rows = o.rows % 256 ∧ op.legal p.mode = true ∧ op.formed = true ∧
  (op.acc.isSome = true → ∀ r ∈ rowsOf o.rows, s.heldByOther o.slot r = false) ∧
  (∀ r ∈ rowsOf p.rows, ∀ k < 4, s.stream r k = StreamQ.blank) ∧
  (∀ r ∈ rowsOf o.rows, ∀ c ∈ coresOf r, (s.core c).ready c op = true) ∧
  s.rd (Hdr.INJ_COUNT 0x54) = 0 ∧ s.rd (Hdr.INJ_COUNT 0x62) = 0

/-- After a core operation: it is counted in the program, which goes on to the next word if the operation was its word's
last; the streams of the step are empty again, and no core outside the operation's rows has changed. -/
def coreRan (s t : State) (o : OpAt) (p : Prog) : Prop :=
  t.prog o.slot = some (
    if o.last then { p with issued := p.issued + 1 }.goto (o.word + 1) else { p with issued := p.issued + 1, inWord := true }) ∧
  (∀ r ∈ rowsOf p.rows, ∀ k < 4, t.stream r k = StreamQ.blank) ∧ (∀ c, c / 16 ∉ rowsOf o.rows → t.core c = s.core c)

/-- Wherever the command's operation `op` can run at once, the command completes, and in every core of the operation's
rows the core is afterwards what `f` gives from it; `fr` stands for the values the spec leaves open. -/
def runsInCores (i : Instr) (o : OpAt) (op : Prog → COp) (f : State → Prog → Core → Nat → Nat → Core) : Prop :=
  ∀ (p : Prog) (s : State), s.issuesCore o p (op p) → completes i s fun t =>
    coreRan s t o p ∧ t.granary = s.granary ∧ ∀ r ∈ rowsOf o.rows, ∀ c ∈ coresOf r, ∃ fr, t.core c = f s p (s.core c) c fr

/-- The values of two and of three sources, taken in order, and the core after it. -/
def Core.two (k : Core) (c : Nat) (a b : VReg) : Nat × Nat × Core :=
  ((k.take c a).1, ((k.take c a).2.take c b).1, ((k.take c a).2.take c b).2)
def Core.three (k : Core) (c : Nat) (x y z : VReg) : Nat × Nat × Nat × Core :=
  ((k.two c x y).1, (k.two c x y).2.1, ((k.two c x y).2.2.take c z).1, ((k.two c x y).2.2.take c z).2)

/-- Every byte of the Granary outside the ranges of `n` bytes at the addresses of `l` reads as before. -/
def memKeptBut (s t : State) (n : Nat) (l : List Nat) : Prop :=
  ∀ b, (∀ a ∈ l, b < a ∨ a + n ≤ b) → t.granaryBytes b 1 = s.granaryBytes b 1

/-- A range of `len` bytes at the LOCAL address `a` that slot `n`'s task reads without a host tally: in the Granary, not
poisoned, with no error injected; and the task has not been asked to stop. -/
def State.plainSource (s : State) (n a len : Nat) : Prop :=
  descFlag (s.task n).desc 3 = false ∧ localWindow a = false ∧ inGranary a len = true ∧
  (∀ l ∈ linesOf a len, s.poisoned l = false) ∧ s.rd (Hdr.INJ_COUNT 0x62) = 0 ∧ (s.task n).stop = none

/-- The task of a slot ended with OK, or with OK_RECOVERED where a sheaf of it was replayed, and RESULT holds `low` and
its instance number (R319, R472, R494, R505). -/
def groupEnded (s t : State) (n low : Nat) : Prop :=
  (t.task n).st = 4 ∧ (t.task n).status = b2n (s.task n).recovered ∧
  (t.task n).result = low % 2 ^ 32 + 2 ^ 32 * (s.task n).inst

/-- A collective of operation `op` is due a step, has only its end left to do, with every rank included, and everything it
sent is acknowledged (R458, R465). -/
def State.colClosing (s : State) (n op : Nat) : Prop :=
  s.colDue n op = true ∧ (mfind s.routines n).isSome = true ∧ s.recd n .phase = 3 ∧ s.allAcked n = true ∧
  s.recd n .included = grpSize (s.captured n)

/-- The first step of a task's routine counts as its step 1. -/
def firstStep (s t : State) (n : Nat) : Prop :=
  t.recd n .step = 1 ∧ (t.task n).progress = 1 ∧ (t.task n).sentAt = s.ticks ∧ t.recd n .instance' = (s.task n).inst % 65536

/-- The register fields that a warm reset or the start-up it begins writes whatever they held: the cause bits and counts
of resets (R114, R123, R541), the thermal and power pins, and the start-up progress (R125, R127). -/
def restartFields : List Fld :=
  [Reg.THERMAL_STATUS_THERM_N_PIN, Ctr.TOP_WARM_RESETS.fld, Hdr.CNT_OVF 0, Reg.TOP_RESET_CAUSE_RESET_N,
   Reg.TOP_RESET_CAUSE_PWR_OK, Reg.TOP_RESET_CAUSE_TOP_WARM, Reg.TOP_RESET_CAUSE_ALARM_REACTION,
   Ctr.ALARM_REACTION_RESETS.fld, Hdr.CNT_OVF 5, Reg.ALARM_RESET_COUNT, Reg.BOOT_STATUS_STEP,
   Reg.BOOT_ATTEMPTS_ATTEMPTS, Reg.BOOT_BACKOFF_BELLS, Reg.DEVICE_STATE_STATE, Reg.BOOT_STARTS_STARTS]

/-- What a warm reset keeps (R83, R142): the Ledger, the Almanac working copy, the keep-alive scratch, the heater codes,
the bias records, the shadowed state and the flash; and every keep-alive field, where every other field is at its reset
value. Tasks are gone. -/
def warmKept (s t : State) : Prop :=
  t.ledger = s.ledger ∧ t.alm = s.alm ∧ t.scratch = s.scratch ∧ t.codes = s.codes ∧ t.ageing = s.ageing ∧
  t.active = s.active ∧ t.shadow = s.shadow ∧ t.boot.flash = s.boot.flash ∧ t.tasks = [] ∧ t.pending = s.pending ∧
  ∀ f : Fld, (∀ g ∈ restartFields ++ warmFields, f.key ≠ g.key) →
    t.rd f = if f.ka then s.rd f else f.reset % 2 ^ f.width

/-- The canonical form of a byte memory: addresses rising, and no entry equal to what an unlisted address reads as. -/
def memWf (m : Map Byte) (d : Byte) : Bool := mapSorted m && m.all (fun e => e.2 != d)

/-- What holds of the state after every step: the register store, the Granary and the keep-alive scratch are in
canonical form, the bell number has 48 bits (R35) and the Ledger's write queue holds at most 64 entries (R553). -/
structure State.Inv (s : State) : Prop where
  regs    : mapSorted s.regs = true
  granary : memWf s.granary.mem granaryDefault = true
  scratch : memWf s.scratch 0 = true
  bell    : s.bellNum < bellMod
  queue   : s.ledger.queue.length ≤ 64

end Sys2Proof.Machine
end

