-- ==== Sys2Proof/Certificates/Slice0/Obligations.lean ====
section
/-! DEFINITION. Sys2Proof/Certificates/Slice0/Obligations.lean: the statements about the block, for the provers. -/

open Sys2Proof Sys2Proof.Machine

/-- For every state whose queue of waiting commands has a front, step is exec of that command on the state with the
queue's rest. On an empty queue the block idles and step answers the same state (the model's choice, log entry 4).
(spec/95_what_each_step_holds.md) -/
def Obligations.StepRunsFrontCommand : Prop :=
  (∀ (c : Instr) (rest : List Instr) (s : State), s.pending = c :: rest → step s = exec c { s with pending := rest }) ∧
  (∀ s : State, s.pending = [] → step s = .next s)

/-- For every command and every state, exec answers a next state, and the queue of waiting commands there is the one
before. A command given where its condition does not hold changes nothing (the model's choice, log entry 35).
(spec/95_what_each_step_holds.md, R101, R365) -/
def Obligations.EveryCommandAnswersAState : Prop :=
  ∀ (c : Instr) (s : State), completes c s fun t => t.pending = s.pending

/-- At the state after reset the register store, the Granary and the keep-alive scratch are in canonical form, the
bell number is below 2^48 and the Ledger's write queue holds at most 64 entries. (R35, R142, R553) -/
def Obligations.ResetStateIsWellFormed : Prop :=
  State.reset.Inv

/-- From every state, reachable or not, whose register store, Granary and keep-alive scratch are in canonical form,
whose bell number is below 2^48 and whose Ledger write queue holds at most 64 entries, a step that answers a next
state answers one with the same properties. (R35, R409, R553, spec/21_faults_alarm_ledger.md) -/
def Obligations.EveryStepKeepsStateWellFormed : Prop :=
  ∀ (s t : State), s.Inv → step s = .next t → t.Inv

/-- COLD_RESET completes from every state. After it every register field but the fuses and the die's own numbers reads
its reset value, those read as before, the flash, the levels of RESET_N and PWR_OK and the queue of waiting commands
are as before, and the keep-alive scratch, the Almanac working copy, the Ledger and the task slots are as the reset
state has them. (R81, R142, R149) -/
def Obligations.ColdResetLeaves : Prop :=
  ∀ (s : State), completes .coldReset s fun t =>
    (∀ f : Fld, (∀ g ∈ dieFields, f.key ≠ g.key) → t.rd f = f.reset % 2 ^ f.width) ∧
    (∀ f ∈ dieFields, t.rd f = s.rd f) ∧ t.boot.flash = s.boot.flash ∧
    t.pins.resetN = s.pins.resetN ∧ t.pins.pwrOk = s.pins.pwrOk ∧
    t.scratch = [] ∧ t.alm = State.reset.alm ∧ t.ledger = State.reset.ledger ∧ t.tasks = [] ∧
    t.pending = s.pending

/-- WARM_RESET by every cause, PWR_OK_LOW and RESET_N_ASSERT while the pin is high, TOP_RESET_WARM with the key 0xA5
and its bit, TEST_EN_HIGH while the pin is low, and WARM_REACTION where it alone is due and the count of such resets
is below the limit, complete. Each keeps the keep-alive domain, the shadowed state, the Ledger and the flash, ends
every task, and leaves every other register field at its reset value but those that the reset and the start-up it
begins write. Each but TEST_EN_HIGH sets its own cause bit; the pins' commands leave the pin at its new level and the
device held; the reaction counts itself in ALARM_RESET.COUNT. With the pin already at that level the pins' commands
change nothing. (R73, R81, R83, R122, R123, R142, R541) -/
def Obligations.WarmResetsKeepTheKeepAliveDomain : Prop :=
  (∀ c (s : State), completes (.warmReset c) s fun t => warmKept s t ∧ t.rd (causeFld c) = 1) ∧
  (∀ (s : State), s.pins.pwrOk = true → completes .pwrOkLow s fun t =>
    warmKept s t ∧ t.rd Reg.TOP_RESET_CAUSE_PWR_OK = 1 ∧ t.pins = { s.pins with pwrOk := false } ∧
    t.boot.running = false ∧ t.rd Reg.THERMAL_PWR_PWR_OK_PIN = 0) ∧
  (∀ (s : State), s.pins.pwrOk = false → exec .pwrOkLow s = .next s) ∧
  (∀ (s : State), s.pins.resetN = true → completes .resetNAssert s fun t =>
    warmKept s t ∧ t.rd Reg.TOP_RESET_CAUSE_RESET_N = 1 ∧ t.pins = { s.pins with resetN := false } ∧
    t.boot.running = false) ∧
  (∀ (s : State), s.pins.resetN = false → exec .resetNAssert s = .next s) ∧
  (∀ (val : Word) (s : State), bits val.toNat 8 8 = 0xA5 → bit val.toNat 0 = true → completes (.topResetWarm val) s fun t =>
    warmKept s t ∧ t.rd Reg.TOP_RESET_CAUSE_TOP_WARM = 1) ∧
  (∀ (s : State), s.pins.testEn = false → completes .testEnHigh s fun t =>
    warmKept s t ∧ t.pins = { s.pins with testEn := true } ∧ t.boot.running = false) ∧
  (∀ (s : State), s.pins.testEn = true → exec .testEnHigh s = .next s) ∧
  (∀ (s : State), s.alarm.warmDue = true → s.alarm.freezeDue = false → s.pages.funcDue = false →
    s.rd Reg.ALARM_RESET_COUNT < s.rd Reg.ALARM_RESET_LIMIT → completes .warmReaction s fun t =>
      t.rd Reg.TOP_RESET_CAUSE_ALARM_REACTION = 1 ∧ t.rd Reg.ALARM_RESET_COUNT = s.rd Reg.ALARM_RESET_COUNT + 1 ∧
      t.scratch = s.scratch ∧ t.alm = s.alm ∧ t.codes = s.codes ∧ t.tasks = [] ∧ t.ledger.ring = s.ledger.ring)

/-- STARTUP_BEGIN, PWR_OK_HIGH and TEST_EN_LOW complete. Where the other two pins let the device run and start-up is
not running, each begins start-up at step 0 in BOOTING, counts the start, and starts the first attempt; STARTUP_BEGIN
also samples the straps. VDD_HTR_RETURN only sets HTR_OK. VDD_HTR_LOST clears HTR_OK, sets HTR_LOST, takes the done
mark of all eight relock records away and raises HTR_RAIL_LOST. (R72, R73, R81, R84, R95, R125) -/
def Obligations.StartupAndSupplyPins : Prop :=
  (∀ (s : State), s.pins.testEn = false → s.boot.running = false → completes .startupBegin s fun t =>
    t.pins = { s.pins with resetN := true, pwrOk := true } ∧ t.boot.running = true ∧
    t.rd Reg.BOOT_STATUS_STEP = 0 ∧ t.rd Reg.BOOT_ATTEMPTS_ATTEMPTS = 1 ∧ t.rd Reg.DEVICE_STATE_STATE = 0 ∧
    t.rd Reg.BOOT_STARTS_STARTS = (s.rd Reg.BOOT_STARTS_STARTS + 1) % 2 ^ Reg.BOOT_STARTS_STARTS.width ∧
    t.rd Reg.MGMT_SMB_STATUS_ADDR = 0x60 + s.pins.smbStrap % 8 ∧ t.rd Reg.BOOT_SOURCE_BOOT_SRC = s.pins.bootStrap % 4) ∧
  (∀ (s : State), s.pins.resetN = true → s.pins.testEn = false → s.boot.running = false → completes .pwrOkHigh s fun t =>
    t.pins = { s.pins with pwrOk := true } ∧ t.boot.running = true ∧ t.rd Reg.BOOT_STATUS_STEP = 0 ∧
    t.rd Reg.THERMAL_PWR_PWR_OK_PIN = 1) ∧
  (∀ (s : State), s.pins.resetN = true → s.pins.pwrOk = true → s.boot.running = false → completes .testEnLow s fun t =>
    t.pins = { s.pins with testEn := false } ∧ t.boot.running = true ∧ t.rd Reg.BOOT_STATUS_STEP = 0) ∧
  (∀ (s : State), completes .vddHtrLost s fun t => t.rd Reg.THERMAL_PWR_HTR_OK = 0 ∧ t.rd Reg.THERMAL_PWR_HTR_LOST = 1 ∧
    (∀ f < 8, readBytes t.scratch 0 (0x400 * f) 4 = [0, 0, 0, 0]) ∧
    raises s t Err.THERMAL_HTR_RAIL_LOST [Reg.THERMAL_PWR_HTR_OK, Reg.THERMAL_PWR_HTR_LOST]) ∧
  (∀ (s : State), completes .vddHtrReturn s fun t => t = s.wr Reg.THERMAL_PWR_HTR_OK 1)

/-- TOP_RESET_FUNCTION with the key 0xA5, WARM 0 and FUNCTION 1 only asks for a function reset at the next boundary.
TOP_RESET_KEY_BAD with another key raises RESET_KEY_BAD and changes no other register. FUNCTION_RESET, where due, ends
the freeze, clears the rings' enables and the Miller's memories, sets the cause bit and leaves no reset due.
FREEZE_REACTION, where it is due without a function reset, freezes the data plane, stops every running step, and
counts one freeze more where the plane was not frozen. WARM_REACTION at the limit raises RESET_WITHHELD and freezes
instead. (R122, R144, R540, R541) -/
def Obligations.FunctionResetAndReactions : Prop :=
  (∀ (val : Word) (s : State), bits val.toNat 8 8 = 0xA5 → bit val.toNat 0 = false → bit val.toNat 1 = true →
    exec (.topResetFunction val) s = .next { s with pages := { s.pages with funcReq := true } }) ∧
  (∀ (val : Word) (s : State), bits val.toNat 8 8 ≠ 0xA5 → completes (.topResetKeyBad val) s fun t =>
    raises s t Err.TOP_RESET_KEY_BAD []) ∧
  (∀ (s : State), s.pages.funcDue = true → completes .functionReset s fun t =>
    t.rd Reg.DEVICE_STATE_DATA_FROZEN = 0 ∧ t.pages.funcDue = false ∧ t.miller = { imem := [], dmem := [] } ∧
    t.rd Reg.CMD_CTRL_EN = 0 ∧ t.ring.notices = []) ∧
  (∀ (s : State), s.pages.funcDue = false → s.alarm.freezeDue = true → completes .freezeReaction s fun t =>
    t.rd Reg.DEVICE_STATE_DATA_FROZEN = 1 ∧ t.alarm = { s.alarm with freezeDue := false } ∧
    (s.frozen = false → (∀ p ∈ t.mill.progs, p.2.running = false) ∧
      t.rd Ctr.ALARM_FREEZES.fld = (s.rd Ctr.ALARM_FREEZES.fld + 1) % 2 ^ 64)) ∧
  (∀ (s : State), s.alarm.warmDue = true → s.alarm.freezeDue = false → s.pages.funcDue = false →
    s.rd Reg.ALARM_RESET_LIMIT ≤ s.rd Reg.ALARM_RESET_COUNT → completes .warmReaction s fun t =>
      errUp t Err.ALARM_RESET_WITHHELD ∧ t.rd Reg.DEVICE_STATE_DATA_FROZEN = 1)

/-- At their own step, outside a back-off and with the Reeve not halted where it is needed: STEP_CLOCKS reports REFCLK
and the three locks and begins step 1; STEP_FLASH with an answer begins step 2; STEP_PAIRING begins step 5; STEP_LINK
with the link ACTIVE and no LIMP begins step 7; STEP_BELL_JOIN in LOCKED or as root begins step 11; STEP_REPORT makes
the device READY and every present page READY. The first attempt of a step begins with ATTEMPTS 1 and BACKOFF 1.
(R125, R126, R127) -/
def Obligations.BootStepsAdvance : Prop :=
  (∀ (s : State), s.atStep 0 = true → completes .stepClocks s fun t =>
    t.rd Reg.CLK_STATUS_REFCLK_OK = 1 ∧ t.rd Reg.CLK_STATUS_CCK_LOCK = 1 ∧ t.rd Reg.CLK_STATUS_LCK_LOCK = 1 ∧
    t.rd Reg.CLK_STATUS_HCK_LOCK = 1 ∧ t.rd Reg.BOOT_STATUS_STEP = 1 ∧ t.rd Reg.BOOT_ATTEMPTS_ATTEMPTS = 1 ∧
    regsKept s t [Reg.CLK_STATUS_REFCLK_OK, Reg.CLK_STATUS_CCK_LOCK, Reg.CLK_STATUS_LCK_LOCK, Reg.CLK_STATUS_HCK_LOCK,
      Reg.BOOT_STATUS_STEP, Reg.BOOT_ATTEMPTS_ATTEMPTS, Reg.BOOT_BACKOFF_BELLS]) ∧
  (∀ (s : State), s.atStep 1 = true → completes (.stepFlash true) s fun t =>
    t.rd Reg.BOOT_STATUS_STEP = 2 ∧ t.rd Reg.BOOT_ATTEMPTS_ATTEMPTS = 1 ∧ t.boot.fails = 0 ∧
    regsKept s t [Reg.BOOT_STATUS_STEP, Reg.BOOT_ATTEMPTS_ATTEMPTS, Reg.BOOT_BACKOFF_BELLS]) ∧
  (∀ (s : State), s.atStep 4 = true → completes .stepPairing s fun t =>
    t.rd Reg.BOOT_STATUS_STEP = 5 ∧ t.rd Reg.BOOT_ATTEMPTS_ATTEMPTS = 1) ∧
  (∀ (s : State), s.atStep 6 = true → s.rd Reg.UAHUS_STATUS_LINK = 2 → s.inLimp = false → completes .stepLink s fun t =>
    t.rd Reg.BOOT_STATUS_STEP = 7 ∧ t.rd Reg.BOOT_BACKOFF_BELLS = 1 ∧
    regsKept s t [Reg.BOOT_STATUS_STEP, Reg.BOOT_ATTEMPTS_ATTEMPTS, Reg.BOOT_BACKOFF_BELLS]) ∧
  (∀ (s : State), s.atStep 10 = true → s.rd Reg.BELL_STATUS_STATE ∈ [2, 4, 5] → completes .stepBellJoin s fun t =>
    t.rd Reg.BOOT_STATUS_STEP = 11 ∧
    regsKept s t [Reg.BOOT_STATUS_STEP, Reg.BOOT_ATTEMPTS_ATTEMPTS, Reg.BOOT_BACKOFF_BELLS]) ∧
  (∀ (s : State), s.atStep 11 = true → completes .stepReport s fun t =>
    t.rd Reg.DEVICE_STATE_STATE = 2 ∧ (∀ p ∈ presentPages, t.rd (Hdr.READY p) = 1))

/-- STEP_FLASH with no answer at step 1 counts a failure, gives reason 0x01, sets the back-off and raises
FLASH_READ_FAIL. BOOT_STEP_TIMEOUT at step 6 does the same with reason 0x07 and LINK_RETRY. The n-th failure in a row
backs off 2^(n - 1) bells, at most 1,048,576. BOOT_BACKOFF_EXPIRY ends the back-off and begins one attempt more,
ATTEMPTS saturating. (R125, R127, R129) -/
def Obligations.BootRetriesAndTimeouts : Prop :=
  (∀ (s : State), s.atStep 1 = true → completes (.stepFlash false) s fun t =>
    t.rd Reg.BOOT_STATUS_LAST_REASON = 0x01 ∧ t.rd Reg.BOOT_STATUS_STEP = s.rd Reg.BOOT_STATUS_STEP ∧
    t.boot.fails = s.boot.fails + 1 ∧ t.boot.inBackoff = true ∧ errUp t Err.BOOT_FLASH_READ_FAIL) ∧
  (∀ (s : State), s.atStep 6 = true → completes .bootStepTimeout s fun t =>
    t.rd Reg.BOOT_STATUS_LAST_REASON = 0x07 ∧ t.boot.inBackoff = true ∧ errUp t Err.BOOT_LINK_RETRY ∧
    t.rd Reg.BOOT_BACKOFF_BELLS = min 1048576 (2 ^ min 20 s.boot.fails)) ∧
  (∀ (s : State), s.boot.running = true → s.boot.inBackoff = true → completes .bootBackoffExpiry s fun t =>
    t.boot = { s.boot with inBackoff := false } ∧
    t.rd Reg.BOOT_ATTEMPTS_ATTEMPTS
      = min (2 ^ Reg.BOOT_ATTEMPTS_ATTEMPTS.width - 1) (s.rd Reg.BOOT_ATTEMPTS_ATTEMPTS + 1) ∧
    regsKept s t [Reg.BOOT_ATTEMPTS_ATTEMPTS])

/-- With a Reeve copy that authenticates STEP_AUTH_REEVE records it and begins step 3. STEP_LOAD_HEARTH and
STEP_LANTERN begin steps 4 and 8 where the load or the modules succeed. STEP_ALMANAC goes on to step 6 from every
copy, and with none in LIMP. STEP_RELOCK takes up the ferries without a record of this Hearth firmware,
COLD_RELOCK_FERRY with a matrix takes the ferry off the list, STEP_LANES at step 9 begins step 10, and
HEARTH_IMAGE_RETRY in LIMP with no image keeps LIMP for that reason with the Hearths off. (R125, R131, R133, R136,
R138, R146, R202) -/
def Obligations.BootImagesAndModules : Prop :=
  (∀ (s : State) c u, s.atStep 2 = true → s.pickCopy 1 = (some c, u) → completes .stepAuthReeve s fun t =>
    t.rd Reg.BOOT_STATUS_STEP = 3 ∧ t.rd Reg.BOOT_SOURCE_REEVE_COPY = (c + 1) % 2 ^ Reg.BOOT_SOURCE_REEVE_COPY.width ∧
    t.boot.reeve.isSome = true) ∧
  (∀ a b da db (s : State) u, s.atStep 3 = true → s.loadHearth a b da db = (none, u) → completes (.stepLoadHearth a b da db) s
    fun t => t = u.nextStep 4) ∧
  (∀ (s : State), s.atStep 5 = true → completes .stepAlmanac s fun t => t.rd Reg.BOOT_STATUS_STEP = 6) ∧
  (∀ a b (s : State) u, s.atStep 7 = true → s.lanternStart a b = (some true, u) → completes (.stepLantern a b) s
    fun t => t = u.nextStep 8) ∧
  (∀ (s : State), s.atStep 8 = true → s.boot.relockTodo = [] → s.is Reg.BOOT_RELOCK_ACTIVE = false → completes .stepRelock s
    fun t => ∀ f ∈ t.boot.relockTodo, f < 8 ∧
      ¬ (s.relockDone f = true ∧ some (s.relockVersion f) = s.boot.hearthVer)) ∧
  (∀ f codes xt rest (s : State), f < 8 → s.boot.relockTodo = f :: rest → completes (.coldRelockFerry f (.done codes xt)) s fun t =>
    t.rd Ctr.BOOT_RELOCK_FERRIES.fld = (s.rd Ctr.BOOT_RELOCK_FERRIES.fld + 1) % 2 ^ 64) ∧
  (∀ (s : State), s.boot.running = true → s.inLimp = false → s.bootStep = 9 → completes .stepLanes s fun t =>
    t.rd Reg.BOOT_STATUS_STEP = 10) ∧
  (∀ a b da db (s : State) u, s.inLimp = true → bit (s.rd Reg.BOOT_LIMP_REASONS) 4 = true → s.loadHearth a b da db = (some 4, u) →
    completes (.hearthImageRetry a b da db) s fun t =>
      t = (((u.wr Reg.BOOT_LIMP_REASONS (clearBit (u.rd Reg.BOOT_LIMP_REASONS) 4)).addLimp 4).hearthsOff))

/-- FLASH_READ, FLASH_PROGRAM and FLASH_ERASE, while no operation is busy, set RESULT 1 and note the operation with
its address, or set RESULT 2 where the address is refused, and then change no other register. While busy they change
nothing. FLASH_OP_COMPLETE sets RESULT 3 where the operation failed; a good READ fills the 64 data words from the
flash, a good PROGRAM writes the data at the address and a good ERASE erases 4,096 bytes, and no other flash byte
changes. (R129, R152) -/
def Obligations.FlashWindowCommands : Prop :=
  (∀ (s : State), s.rd Reg.BOOT_FLASH_CMD_RESULT ≠ 1 →
    ∀ c ∈ [(Instr.flashRead, 1), (Instr.flashProgram, 2), (Instr.flashErase, 3)], completes c.1 s fun t =>
      (s.flashRefuses c.2 (s.rd Reg.BOOT_FLASH_ADDR_ADDR) = true → t = s.wr Reg.BOOT_FLASH_CMD_RESULT 2) ∧
      (s.flashRefuses c.2 (s.rd Reg.BOOT_FLASH_ADDR_ADDR) = false →
        t.rd Reg.BOOT_FLASH_CMD_RESULT = 1 ∧ t.boot = { s.boot with flashOp := some (c.2, s.rd Reg.BOOT_FLASH_ADDR_ADDR) })) ∧
  (∀ (s : State), s.rd Reg.BOOT_FLASH_CMD_RESULT = 1 → ∀ c ∈ [Instr.flashRead, .flashProgram, .flashErase], exec c s = .next s) ∧
  (∀ op a (s : State), s.boot.flashOp = some (op, a) → completes (.flashOpComplete false) s fun t =>
    t.rd Reg.BOOT_FLASH_CMD_RESULT = 3 ∧ t.boot = { s.boot with flashOp := none } ∧
    regsKept s t [Reg.BOOT_FLASH_CMD_RESULT]) ∧
  (∀ a (s : State), s.boot.flashOp = some (1, a) → completes (.flashOpComplete true) s fun t =>
    t.rd Reg.BOOT_FLASH_CMD_RESULT = 0 ∧ t.boot = { s.boot with flashOp := none } ∧
    ∀ k < 64, t.rd (Reg.BOOT_FLASH_DATA k) = s.flashNum (a + 4 * k) 4) ∧
  (∀ op a (s : State), s.boot.flashOp = some (op, a) → op = 2 ∨ op = 3 → completes (.flashOpComplete true) s fun t =>
    t.rd Reg.BOOT_FLASH_CMD_RESULT = 0 ∧ t.boot.flashOp = none ∧
    ∀ b, b < a ∨ a + 4096 ≤ b → mget t.boot.flash b 0xFF = mget s.boot.flash b 0xFF)

/-- ALMANAC_COMMIT without the key 0xA5 and its bit changes nothing. ALMANAC_COMMIT_DONE after a good read-back counts
a commit and reports it; after a bad one it raises COMMIT_FAIL; COMMIT_BUSY ends in both. NONCE_LO_READ answers the
low half of the nonce and latches the upper half for its path. TOKEN_SUBMIT with its bit accepts a good token or
raises TOKEN_BAD, clears the token buffer and draws a new nonce. DEBUG_LOCK with its bit locks. SVN_ADVANCE with the
key raises the fuse to the running image's SVN. (R134, R140, R150) -/
def Obligations.AlmanacAndSecurityCommands : Prop :=
  (∀ (val : Word) (s : State), ¬ (bits val.toNat 8 8 = 0xA5 ∧ bit val.toNat 0 = true) → exec (.almanacCommit val) s = .next s) ∧
  (∀ (val : Word) (s : State), bits val.toNat 8 8 = 0xA5 → bit val.toNat 0 = true → exec (.almanacCommit val) s = .next s.startCommit) ∧
  (∀ x (s : State), s.boot.commit = some x → completes (.almanacCommitDone true) s fun t =>
    t.rd Reg.BOOT_ALM_STATUS_COMMIT_BUSY = 0 ∧ t.rd Reg.BOOT_ALM_STATUS_LAST_COMMIT_OK = 1 ∧ t.boot.commit = none ∧
    t.rd Ctr.BOOT_ALMANAC_COMMITS.fld = (s.rd Ctr.BOOT_ALMANAC_COMMITS.fld + 1) % 2 ^ 64) ∧
  (∀ x (s : State), s.boot.commit = some x → completes (.almanacCommitDone false) s fun t =>
    t.boot.commit = none ∧ t.rd Reg.BOOT_ALM_STATUS_LAST_COMMIT_OK = 0 ∧
    raises s t Err.BOOT_COMMIT_FAIL [Reg.BOOT_ALM_STATUS_COMMIT_BUSY, Reg.BOOT_ALM_STATUS_LAST_COMMIT_OK]) ∧
  (∀ path (s : State), completes (.nonceLoRead path) s fun t =>
    mget t.lastRead path.num 0 = s.boot.nonce % 2 ^ 32 ∧ mget t.boot.nonceHold path.num 0 = s.boot.nonce / 2 ^ 32 ∧
    t.regs = s.regs ∧ t.boot.nonce = s.boot.nonce) ∧
  (∀ (val : Word) (s : State), bit val.toNat 0 = true → completes (.tokenSubmit val) s fun t =>
    (s.tokenGood = true → t.rd Reg.SEC_STATUS_DEBUG_UNLOCKED = 1 ∧ t.rd Reg.SEC_TOKEN_STATUS_RESULT = 1) ∧
    (s.tokenGood = false → t.rd Reg.SEC_TOKEN_STATUS_RESULT = 2 ∧ errUp t Err.SEC_TOKEN_BAD ∧
      t.rd Reg.SEC_STATUS_DEBUG_UNLOCKED = s.rd Reg.SEC_STATUS_DEBUG_UNLOCKED) ∧
    ∀ k < 32, t.rd (Reg.SEC_TOKEN_BUF_DATA k) = 0) ∧
  (∀ (val : Word) (s : State), bit val.toNat 0 = true → completes (.debugLock val) s fun t =>
    t.rd Reg.SEC_STATUS_PERMS = 0 ∧ t.rd Reg.SEC_STATUS_DEBUG_UNLOCKED = 0 ∧
    regsKept s t [Reg.SEC_STATUS_PERMS, Reg.SEC_STATUS_DEBUG_UNLOCKED]) ∧
  (∀ r (val : Word) (s : State), s.boot.reeve = some r → bits val.toNat 8 8 = 0xA5 → bit val.toNat 0 = true →
    s.rd Reg.SEC_STATUS_SVN_FUSE < r.svn → exec (.svnAdvance val) s = .next (s.wr Reg.SEC_STATUS_SVN_FUSE r.svn))

/-- With STANDBY_ROOT = 1 and ROOT = 0, in HOLDOVER for BELL_ROOT_WAIT consecutive bells or more and with no
candidate, STANDBY_ROOT_TAKEOVER completes: the bell number and the phase are as before, the root epoch (8 bits) is
one more, and the state is ROOT_REF (5) where TIME_IN_EN = 1 and ROOT_FREE (4) otherwise. (R54) -/
def Obligations.StandbyRootTakesOver : Prop :=
  ∀ s : State, s.rd Reg.BELL_CTRL_STANDBY_ROOT = 1 → s.rd Reg.BELL_CTRL_ROOT = 0 → s.rd Reg.BELL_STATUS_STATE = 3 →
    s.rd Reg.BELL_ROOT_WAIT_WAIT ≤ s.bell.holdBells → s.chooseParent = none →
    completes .standbyRootTakeover s fun t =>
      t.bellNum = s.bellNum ∧ t.ticks = s.ticks ∧ t.bell.lengthen = s.bell.lengthen ∧ t.bell.nextNum = s.bell.nextNum ∧
      t.rd Reg.BELL_STATUS_ROOT_EPOCH = (s.rd Reg.BELL_STATUS_ROOT_EPOCH + 1) % 256 ∧
      t.rd Reg.BELL_STATUS_STATE = if s.rd Reg.BELL_CTRL_TIME_IN_EN = 1 then 5 else 4

/-- BELL_JOIN_STEP in JOINING with a measured parent takes the rate within ±100 ppm as steer, lengthens one bell and
sets the number that the next boundary takes. BELL_JOIN_CHECK enters LOCKED where the average is within bounds, or
repeats the join step. BELL_SERVO_UPDATE in LOCKED or HOLDOVER shows the average. PARENT_LOST in LOCKED raises
PARENT_LOST and asks for HOLDOVER. HOLDOVER_LONG is raised once a holdover. ROOT_START_TIMEOUT makes a configured root
begin its own bell. (R43, R48, R50, R51, R52) -/
def Obligations.BellJoinsAndLocks : Prop :=
  (∀ lengthen num (rate : Int) k (s : State), s.parent = some k → s.bellState = 1 → s.bell.joinPhase = 1 →
    (s.lane k).avg.isSome = true → lengthen ≤ 54399 → completes (.bellJoinStep lengthen num rate) s fun t =>
      t.bell.joinPhase = 2 ∧ t.bell.lengthen = lengthen ∧ t.bell.nextNum = some (num % 2 ^ 48) ∧ t.bellNum = s.bellNum ∧
      t.rdI Reg.BELL_STEER_STEER = max (-100000) (min 100000 rate)) ∧
  (∀ k (s : State), s.parent = some k → s.bellState = 1 → s.bell.joinPhase = 2 → (s.lane k).avg.isSome = true →
    completes .bellJoinCheck s fun t =>
      (within4 (s.lane k).avg = true → t.rd Reg.BELL_STATUS_STATE = 2 ∧ t.bell.joinPhase = 0) ∧
      (within4 (s.lane k).avg = false → t = { s with bell := { s.bell with joinPhase := 1 } })) ∧
  (∀ k a (s : State), s.parent = some k → (s.lane k).avg = some a → s.bellState = 2 ∨ s.bellState = 3 →
    completes .bellServoUpdate s fun t =>
      t.rd Reg.BELL_OFFSET_THETA = ofSigned Reg.BELL_OFFSET_THETA.width (Config.roundTheta a) ∧ t.bellNum = s.bellNum) ∧
  (∀ k (s : State), s.parent = some k → s.candidate k = false → s.bellState = 2 ∨ s.bellState = 3 → completes .parentLost s fun t =>
    t.bell.toHoldover = true ∧ t.rd Reg.BELL_STATUS_PARENT_VALID = 0 ∧ errUp t Err.BELL_PARENT_LOST) ∧
  (∀ (s : State), s.bellState = 3 → s.rd Reg.BELL_HOLDOVER_LIMIT_LIMIT ≤ s.bell.holdBells → s.bell.longRaised = false →
    completes .holdoverLong s fun t => t.bell = { s.bell with longRaised := true } ∧ raises s t Err.BELL_HOLDOVER_LONG []) ∧
  (∀ n first (s : State), s.bell.firstExchange = some first → first + 4096 ≤ s.ticks → s.rd Reg.BELL_CTRL_ROOT = 1 → s.bellState = 0 →
    (∀ k < 256, ¬ ((s.lane k).building = true ∧ 3 ≤ s.stageOf k)) → completes (.rootStartTimeout n) s fun t =>
      t.rd Reg.BELL_STATUS_STATE = (if s.rd Reg.BELL_CTRL_TIME_IN_EN = 1 then 5 else 4) ∧
      t.rd Reg.BELL_STATUS_ROOT_EPOCH = 0 ∧
      t.bell.nextNum = some (if s.rd Reg.BELL_CTRL_TIME_IN_EN = 1 ∧ s.rd Reg.BELL_TIME_EPOCH_HI_VALID = 1
        then n % 2 ^ 48 else 0))

/-- BELL_NUM_LO_READ answers the low half of the bell number and changes no register. BELL_ROOT_SET and
BELL_ROOT_CLEAR store the five control bits; setting ROOT in LOCKED or HOLDOVER asks to become root, clearing it while
acting asks to step down. PARENT_PREF_WRITE stores the preference. TIME_IN_EDGE at an acting root within 1 µs counts
and enters ROOT_REF, TIME_IN_LOST after 2,929,688 bells falls to ROOT_FREE with an error. REFCLK_LOSS and PLL_UNLOCK
clear the lock bits and raise their errors; REFCLK_RETURN and PLL_RELOCK set them. (R36, R41, R53, R56, R67) -/
def Obligations.BellControlsAndClocks : Prop :=
  (∀ path (s : State), completes (.bellNumLoRead path) s fun t =>
    mget t.lastRead path.num 0 = s.bellNum % 2 ^ 32 ∧ t.regs = s.regs ∧ t.bellNum = s.bellNum) ∧
  (∀ (val : Word) (s : State), s.rd Reg.BELL_CTRL_ROOT = 0 → bit val.toNat 0 = true → s.bellState = 2 ∨ s.bellState = 3 →
    completes (.bellRootSet val) s fun t => t.rd Reg.BELL_CTRL_ROOT = 1 ∧ t.bell = { s.bell with rootReq := true } ∧
      t.rd Reg.BELL_CTRL_STANDBY_ROOT = b2n (bit val.toNat 1) ∧ t.rd Reg.BELL_CTRL_OUT_EN = b2n (bit val.toNat 2)) ∧
  (∀ (val : Word) (s : State), s.rd Reg.BELL_CTRL_ROOT = 1 → bit val.toNat 0 = false → completes (.bellRootClear val) s fun t =>
    t.rd Reg.BELL_CTRL_ROOT = 0 ∧ t.bell = { s.bell with rootReq := false, rootClear := s.actingRoot }) ∧
  (∀ n (val : Word) (s : State), n < 4 → s.bellState ≠ 2 → s.bellState ≠ 3 → completes (.parentPrefWrite n val) s fun t =>
    t.rd (Reg.BELL_PARENT_PREF_VALID n) = b2n (bit val.toNat 31) ∧
    t.rd (Reg.BELL_PARENT_PREF_FERRY n) = bits val.toNat 5 3 ∧ t.rd (Reg.BELL_PARENT_PREF_LANE n) = bits val.toNat 0 5 ∧
    regsKept s t [Reg.BELL_PARENT_PREF_VALID n, Reg.BELL_PARENT_PREF_FERRY n, Reg.BELL_PARENT_PREF_LANE n]) ∧
  (∀ (phase : Int) (s : State), s.rd Reg.BELL_CTRL_ROOT = 1 → s.rd Reg.BELL_CTRL_TIME_IN_EN = 1 → s.actingRoot = true →
    -13600 ≤ phase → phase ≤ 13600 → completes (.timeInEdge phase) s fun t =>
      t.rd Reg.BELL_STATUS_STATE = 5 ∧ t.bell.ppsLast = some s.ticks ∧
      t.rd Ctr.BELL_PPS_EDGES.fld = (s.rd Ctr.BELL_PPS_EDGES.fld + 1) % 2 ^ 64) ∧
  (∀ last (s : State), s.bell.ppsLast = some last → s.bellState = 5 → last + 2929688 ≤ s.ticks → completes .timeInLost s fun t =>
    t.rd Reg.BELL_STATUS_STATE = 4 ∧ raises s t Err.BELL_TIME_IN_LOST [Reg.BELL_STATUS_STATE]) ∧
  (∀ (s : State), s.rd Reg.CLK_STATUS_REFCLK_OK = 1 → completes .refclkLoss s fun t =>
    t.rd Reg.CLK_STATUS_REFCLK_OK = 0 ∧ t.rd Reg.CLK_STATUS_CCK_LOCK = 0 ∧ t.rd Reg.CLK_STATUS_LCK_LOCK = 0 ∧
    t.rd Reg.CLK_STATUS_HCK_LOCK = 0 ∧ errUp t Err.CLK_REFCLK_LOST ∧
    (s.bellState = 2 → t.bell.toHoldover = true)) ∧
  (∀ (s : State), completes .refclkReturn s fun t => t = s.wr Reg.CLK_STATUS_REFCLK_OK 1) ∧
  (∀ d (s : State), s.rd Reg.CLK_STATUS_REFCLK_OK = 1 → s.rd (lockFld d) = 1 → completes (.pllUnlock d) s fun t =>
    t.rd (lockFld d) = 0 ∧ raises s t Err.CLK_PLL_UNLOCK [lockFld d, Ctr.CLK_PLL_UNLOCKS.fld, Hdr.CNT_OVF 2]) ∧
  (∀ d (s : State), s.rd Reg.CLK_STATUS_REFCLK_OK = 1 → exec (.pllRelock d) s = .next (s.wr (lockFld d) 1))

/-- SENSOR_SAMPLE with two valid temperatures in bell b shows them as sensors 2k and 2k + 1, k = b mod 8, valid and
not faulted; with none it marks the sensor faulted, counts it and raises SENSOR_FAULT. BAND_FALL after 64 bells below
the threshold asks for the band one lower. TRIP_CLEAR in band 0 or 1 clears a trip. (R85, R86, R87, R91) -/
def Obligations.ThermalCommands : Prop :=
  (∀ a b (s : State), sampleValid (some a) = true → sampleValid (some b) = true → completes (.sensorSample (some a) (some b)) s fun t =>
    let k := s.bellNum % 8
    t.rdI (Reg.THERMAL_SENSOR_TEMP (2 * k)) = a ∧ t.rdI (Reg.THERMAL_SENSOR_TEMP (2 * k + 1)) = b ∧
    t.rd (Reg.THERMAL_SENSOR_VALID (2 * k)) = 1 ∧ t.rd (Reg.THERMAL_SENSOR_VALID (2 * k + 1)) = 1 ∧
    bit (t.rd Reg.THERMAL_FAULTED_FAULTED) (2 * k) = false ∧ bit (t.rd Reg.THERMAL_FAULTED_FAULTED) (2 * k + 1) = false) ∧
  (∀ (s : State), completes (.sensorSample none none) s fun t =>
    let k := s.bellNum % 8
    t.rd (Reg.THERMAL_SENSOR_VALID (2 * k)) = 0 ∧ bit (t.rd Reg.THERMAL_FAULTED_FAULTED) (2 * k) = true ∧
    (bit (s.rd Reg.THERMAL_FAULTED_FAULTED) (2 * k) = false → errUp t Err.THERMAL_SENSOR_FAULT)) ∧
  (∀ (s : State), s.thermal.fallCount = 64 → 0 < s.rd Reg.THERMAL_STATUS_BAND → exec .bandFall s =
    .next { s with thermal := { s.thermal with fallCount := 0, pendBand := some (s.rd Reg.THERMAL_STATUS_BAND - 1) } }) ∧
  (∀ (s : State), s.rd Reg.THERMAL_STATUS_BAND ≤ 1 → s.rd Reg.THERMAL_STATUS_TRIP = 1 → completes .tripClear s fun t =>
    t.rd Reg.THERMAL_STATUS_TRIP = 0 ∧ t.thermal = { s.thermal with clearPend := true } ∧
    regsKept s t [Reg.THERMAL_STATUS_TRIP])

/-- COUNTER_LO_READ of a counter that the page has answers the low half of the value in view, holds the upper half for
the path, and changes no register; of another number it answers 0. COUNTER_HI_WRITE holds the value for the path.
COUNTER_LO_WRITE sets the counter to the held upper half and the value written, and empties the hold. (R115, R116,
R117) -/
def Obligations.CounterAccess : Prop :=
  (∀ path page n (s : State), n < numCounters page → completes (.counterLoRead path page n) s fun t =>
    mget t.lastRead path.num 0 = s.ctrView page n % 2 ^ 32 ∧ t.regs = s.regs ∧
    mget t.pages.hold (s.holdKey path page) 0 = (n + 1) * 2 ^ 32 + s.ctrView page n / 2 ^ 32 % 2 ^ 32) ∧
  (∀ path page n (s : State), numCounters page ≤ n → completes (.counterLoRead path page n) s fun t =>
    mget t.lastRead path.num 0 = 0 ∧ t.regs = s.regs ∧ t.pages = s.pages) ∧
  (∀ path page n (val : Word) (s : State), n < numCounters page → completes (.counterHiWrite path page n val) s fun t =>
    mget t.pages.whold (256 * path.num + page) 0 = val.toNat ∧ t.regs = s.regs) ∧
  (∀ path page n (val : Word) (s : State), n < numCounters page → mget s.pages.whold (256 * path.num + page) 0 < 2 ^ 32 →
    completes (.counterLoWrite path page n val) s fun t =>
      t.rd (pageCtr page n).fld = mget s.pages.whold (256 * path.num + page) 0 * 2 ^ 32 + val.toNat ∧
      mget t.pages.whold (256 * path.num + page) 0 = 0 ∧ regsKept s t [(pageCtr page n).fld])

/-- For every ferry f the seven counters stand on page 0x22 + 4f as counters 15 to 21 in this order, and a word read
of the page at offset 0x0B8 + 8k by any path answers the low half of the k-th of them where no snapshot is in view.
(R325) -/
def Obligations.ReplayCountersStandInOrder : Prop :=
  ∀ f < 8, ∀ k < 7, ∀ path (s : State), s.is (Hdr.SNAP_VIEW (0x22 + 4 * f)) = false →
    let c := ([Ctr.CNT_REPLAYS_SENT f, Ctr.CNT_NAK_SHEAVES_RX f, Ctr.CNT_DEADLINE_MISSES f, Ctr.CNT_DUPLICATES_RX f,
      Ctr.CNT_DETOUR_SHEAVES_TX f, Ctr.CNT_DETOUR_FORWARDED f, Ctr.CNT_LINKS_FAILED f] : List Ctr).getD k ⟨0, 0, false⟩
    c.page = 0x22 + 4 * f ∧ c.n = 15 + k ∧
    (s.readPage path (0x22 + 4 * f) (0x0B8 + 8 * k)).1 = s.rd c.fld % 2 ^ 32

/-- PG_SNAP_TAKE asks for the page's snapshot and TOP_SNAP_ALL for every present page's; neither changes a register.
PG_ERR_CLEAR clears the bits written as 1 and no other, and clears the FIRST record where none is left.
PG_ERR_MASK_WRITE stores the mask. PG_ERR_CLASS_WRITE with bit 15 stores a class of at most 4 for a bit whose class is
not fixed. PG_ERR_INJECT_WRITE stores checker and count on a page that has a checker, and changes nothing on another.
(R103, R104, R105, R106, R118) -/
def Obligations.HeaderControls : Prop :=
  (∀ page (s : State), pagePresent page = true → completes (.pgSnapTake page) s fun t =>
    page ∈ t.pages.snapReq ∧ t.regs = s.regs ∧ ∀ p ∈ s.pages.snapReq, p ∈ t.pages.snapReq) ∧
  (∀ (s : State), completes .topSnapAll s fun t => (∀ p ∈ presentPages, p ∈ t.pages.snapReq) ∧ t.regs = s.regs) ∧
  (∀ page (val : Word) (s : State), pagePresent page = true → completes (.pgErrClear page val) s fun t =>
    (∀ b < 32, bit (t.rd (Hdr.PG_ERR page)) b = (bit (s.rd (Hdr.PG_ERR page)) b && !bit val.toNat b)) ∧
    (t.rd (Hdr.PG_ERR page) = 0 → t.rd (Hdr.PG_ERR_FIRST_VALID page) = 0) ∧ regsKept s t (errFields page)) ∧
  (∀ page (val : Word) (s : State), pagePresent page = true → completes (.pgErrMaskWrite page val) s fun t =>
    t.rd (Hdr.PG_ERR_MASK page) = val.toNat ∧ regsKept s t [Hdr.PG_ERR_MASK page, Reg.ALARM_SUMMARY_BLOCKS]) ∧
  (∀ path page (val : Word) (s : State), pagePresent page = true → bit val.toNat 15 = true →
    classFixed page (bits val.toNat 8 5) = false → bits val.toNat 0 3 ≤ 4 →
    completes (.pgErrClassWrite path page val) s fun t => t.errClass page (bits val.toNat 8 5) = bits val.toNat 0 3) ∧
  (∀ page (val : Word) (s : State), injectOk page = true → completes (.pgErrInjectWrite page val) s fun t =>
    t.rd (Hdr.INJ_CHECKER page) = bits val.toNat 24 4 ∧ t.rd (Hdr.INJ_COUNT page) = bits val.toNat 0 16 ∧
    regsKept s t [Hdr.INJ_CHECKER page, Hdr.INJ_COUNT page]) ∧
  (∀ page (val : Word) (s : State), injectOk page = false → exec (.pgErrInjectWrite page val) s = .next s)

/-- On the SCHED page a write with ARM and no DISARM while not ARMED makes every following page ARMED where the swap
bell is still to come, and ERROR with its error where it has passed; a write with DISARM alone while ARMED makes SCHED
IDLE. On a page other than SCHED that is not armed SWAP_FOLLOW_WRITE with no ARM or DISARM stores FOLLOW.
TABLE_VIEW_WRITE to the active views is ignored and counted, and to a mapped shadow word stores it and sets
SHADOW_WRITTEN. SHADOW_WRITE acts as a word write of the page. (R107, R108, R110, R111, R112, R326) -/
def Obligations.ShadowSwapControls : Prop :=
  (∀ (val : Word) (s : State), bit val.toNat 0 = true → bit val.toNat 1 = false → s.armed 0x52 = false → s.is (Hdr.FOLLOW 0x52) = true →
    bellAfter (s.swapBell 0x52) s.bellNum = true → completes (.swapArm 0x52 val) s fun t => t.armed 0x52 = true) ∧
  (∀ (val : Word) (s : State), bit val.toNat 0 = true → bit val.toNat 1 = false → s.armed 0x52 = false → s.is (Hdr.FOLLOW 0x52) = true →
    bellAfter (s.swapBell 0x52) s.bellNum = false → completes (.swapArm 0x52 val) s fun t =>
      t.rd (Hdr.SWAP_STATE 0x52) = 3 ∧ errUp t { page := 0x52, bit := 31, cls := 1 }) ∧
  (∀ (val : Word) (s : State), bit val.toNat 0 = false → bit val.toNat 1 = true → s.armed 0x52 = true → s.is (Hdr.FOLLOW 0x52) = true →
    completes (.swapDisarm 0x52 val) s fun t => t.rd (Hdr.SWAP_STATE 0x52) = 0) ∧
  (∀ page (val : Word) (s : State), page = 0x40 ∨ page = 0x64 → bit val.toNat 0 = false → bit val.toNat 1 = false →
    s.armed page = false → s.armed 0x52 = false → completes (.swapFollowWrite page val) s fun t =>
      t.rd (Hdr.FOLLOW page) = b2n (bit val.toNat 5)) ∧
  (∀ addr (val : Word) (s : State), addr % 4 = 0 → 0x100000 ≤ addr → addr < 0x180000 → exec (.tableViewWrite addr val) s =
    .next (s.bump Ctr.SCHED_TABLE_WRITES_IGNORED 1)) ∧
  (∀ addr (val : Word) (s : State), addr % 4 = 0 → 0x180000 ≤ addr → addr < 0x200000 → tableOffset (addr - 0x180000) = true →
    s.armed 0x52 = false → completes (.tableViewWrite addr val) s fun t =>
      readBytes t.shadow.sched 0 (addr - 0x180000) 4 = leBytes 4 val.toNat ∧ t.rd (Hdr.SHADOW_WRITTEN 0x52) = 1 ∧
      t.active = s.active ∧ regsKept s t [Hdr.SHADOW_WRITTEN 0x52]) ∧
  (∀ path page off (val : Word) (s : State), shadowOk page = true → off % 4 = 0 → off < 0x1000 →
    exec (.shadowWrite path page off val) s = exec (.registerWrite path (4096 * page + off) val) s)

/-- REGISTER_WRITE, UNMAPPED_ACCESS and RC_REGISTER_READ of a word that nothing maps raise UNMAPPED_ACCESS and count
it; the two reads answer 0. A misaligned address is not accessed at all. A write of the read-write register
UAHUS_STALL_LIMIT stores its value and changes no other register field, and a write of the read-only TOP_NODE_ID
changes nothing. RC_REGISTER_READ of the ledger's and tables' words answers them and changes no register. (R8, R9,
R96, R98) -/
def Obligations.WordAccess : Prop :=
  (∀ path addr (val : Word) (s : State), addr % 4 = 0 → addr < 0x300000 → mappedCtl addr = false →
    completes (.registerWrite path addr val) s fun t =>
      raises s t Err.TOP_UNMAPPED_ACCESS [Ctr.TOP_UNMAPPED_ACCESSES.fld, Hdr.CNT_OVF 0] ∧
      t.rd Ctr.TOP_UNMAPPED_ACCESSES.fld = (s.rd Ctr.TOP_UNMAPPED_ACCESSES.fld + 1) % 2 ^ 64) ∧
  (∀ path addr (s : State), mappedCtl addr = false → ¬ (granaryBase ≤ addr ∧ addr < granaryEnd) →
    completes (.unmappedAccess path addr) s fun t => mget t.lastRead path.num 0 = 0 ∧
      raises s t Err.TOP_UNMAPPED_ACCESS [Ctr.TOP_UNMAPPED_ACCESSES.fld, Hdr.CNT_OVF 0]) ∧
  (∀ path addr (s : State), addr % 4 = 0 → addr < 0x300000 → mappedCtl addr = false → completes (.rcRegisterRead path addr) s fun t =>
    mget t.lastRead path.num 0 = 0 ∧ errUp t Err.TOP_UNMAPPED_ACCESS) ∧
  (∀ path addr (val : Word) (s : State), addr % 4 ≠ 0 → exec (.registerWrite path addr val) s = .next s) ∧
  (∀ path (val : Word) (s : State), completes (.registerWrite path (4096 * 0x40 + Reg.UAHUS_STALL_LIMIT_BELLS.off) val) s fun t =>
    t.rd Reg.UAHUS_STALL_LIMIT_BELLS = val.toNat ∧ regsKept s t [Reg.UAHUS_STALL_LIMIT_BELLS]) ∧
  (∀ path (val : Word) (s : State), exec (.registerWrite path Reg.TOP_NODE_ID_NODE_ID.off val) s = .next s) ∧
  (∀ path addr (s : State), addr % 4 = 0 → 0x100000 ≤ addr → addr < 0x180000 → completes (.rcRegisterRead path addr) s fun t =>
    mget t.lastRead path.num 0 = schedWord s.active.sched (addr - 0x100000) % 2 ^ 32 ∧ t.regs = s.regs ∧
    t.active = s.active)

/-- For bundle n below 6: DETECT_EXIT outside a back-off enters TRAIN; TRAIN_DONE with every lane's marker in order
and no error enters the next stage with no lane spared; LOCK_DONE with the skew in range enters EXCHANGE, and out of
range returns to DETECT; EXCHANGE_DONE with capabilities that fit makes the bundle ACTIVE and keeps them, and with
ones that do not raises CAP_MISMATCH. A stage's time-out, RETRAIN, RETRAIN_ALL and an elastic overrun return to DETECT
with their reasons. The end of the back-off lets a new attempt begin. (R159, R160, R161, R164, R170, R180, R184) -/
def Obligations.BundlesComeUpAndBackOff : Prop :=
  (∀ n (s : State), n < 6 → s.bundleStage n = 0 → (s.bundle n).backoffTo = none → s.boot.running = true →
    completes (.bundleDetectExit n) s fun t => t.bundleStage n = 1) ∧
  (∀ n (s : State), n < 6 → s.bundleStage n = 1 →
    completes (.bundleTrainDone n ((List.range 17).map fun p => { marker := some (n, p), inverted := false, errors := 0 })) s
      fun t => t.bundleStage n = 2 ∧ t.rd (Reg.BUNDLE_LANE_MAP_RX_SPARE_USED n) = 0 ∧
        t.rd (Reg.BUNDLE_FAILED_LANES n) = 0) ∧
  (∀ n far (s : State), n < 6 → s.bundleStage n = 2 → completes (.bundleLockDone n true far) s fun t =>
    t.bundleStage n = 3 ∧ t.rd (Reg.BUNDLE_LANE_MAP_TX_SPARE_USED n) = b2n far.isSome) ∧
  (∀ n far (s : State), n < 6 → s.bundleStage n = 2 → completes (.bundleLockDone n false far) s fun t =>
    t.bundleStage n = 0 ∧ t.rd (Reg.BUNDLE_STATE_LAST_REASON n) = 5) ∧
  (∀ n (caps : List Word) (s : State), n < 6 → s.bundleStage n = 3 → capsOk (caps.map (·.toNat)) = true → s.uahus.caps = none →
    completes (.bundleExchangeDone n caps) s fun t =>
      t.bundleStage n = 4 ∧ t.uahus.caps = some (caps.map (·.toNat))) ∧
  (∀ n (caps : List Word) (s : State), n < 6 → s.bundleStage n = 3 → capsOk (caps.map (·.toNat)) = false →
    completes (.bundleExchangeDone n caps) s fun t => t.bundleStage n = 0 ∧ errUp t Err.UAHUS_CAP_MISMATCH) ∧
  (∀ n limit reason (s : State), n < 6 → stageLimit (s.bundleStage n) = some (limit, reason) → (s.bundle n).since + limit ≤ s.ticks →
    completes (.bundleStageTimeout n) s fun t =>
      t.bundleStage n = 0 ∧ t.rd (Reg.BUNDLE_STATE_LAST_REASON n) = reason) ∧
  (∀ n last (s : State), (s.bundle n).backoffTo = some last → last ≤ s.ticks → completes (.bundleBackoffExpiry n) s fun t =>
    (t.bundle n).backoffTo = none ∧ t.regs = s.regs) ∧
  (∀ n (s : State), n < 6 → completes (.bundleRetrain n) s fun t =>
    t.bundleStage n = 0 ∧ t.rd (Reg.BUNDLE_STATE_LAST_REASON n) = 11) ∧
  (∀ (s : State), completes .retrainAll s fun t => ∀ n < 6, t.bundleStage n = 0 ∧ t.rd (Reg.BUNDLE_STATE_LAST_REASON n) = 11) ∧
  (∀ n (s : State), n < 6 → s.bundleStage n = 4 → completes (.elasticOverrun n) s fun t =>
    t.bundleStage n = 0 ∧ t.rd (Reg.BUNDLE_STATE_LAST_REASON n) = 9 ∧ errUp t (Err.BUNDLE_ELASTIC_OVERRUN n))

/-- FLIT_RECEIVE of 256 bytes on an ACTIVE bundle counts the flit. NAK_FLIT_RECEIVE counts the NAK. FLIT_GAP_TIMEOUT
in a gap with no NAK outstanding sends one and empties the reorder buffer. FLIT_ACK_TIMEOUT with flits held counts a
replay. LINK_STALL after 1,024 bells retrains every bundle and raises LINK_STALL. LINK_DOWN_LIMIT empties the replay
buffer and the waiting transactions, restarts SEQ and raises LINK_DOWN once. HOST_STALL is raised once a stall and
takes no other action. (R166, R171, R172, R173, R185, R186) -/
def Obligations.FlitsAndLinkLimits : Prop :=
  (∀ n flit (s : State), n < 6 → s.bundleStage n = 4 → flit.length = 256 → completes (.flitReceive n flit) s fun t =>
    t.rd Ctr.UAHUS_FLITS_RX.fld = (s.rd Ctr.UAHUS_FLITS_RX.fld + 1) % 2 ^ 64) ∧
  (∀ ack (s : State), completes (.nakFlitReceive ack) s fun t =>
    t.rd Ctr.UAHUS_NAKS_RX.fld = (s.rd Ctr.UAHUS_NAKS_RX.fld + 1) % 2 ^ 64) ∧
  (∀ (s : State), s.uahus.reorder ≠ [] → s.uahus.nakWait = false → completes .flitGapTimeout s fun t =>
    t.uahus = { s.uahus with nakWait := true, reorder := [] } ∧
    t.rd Ctr.UAHUS_NAKS_TX.fld = (s.rd Ctr.UAHUS_NAKS_TX.fld + 1) % 2 ^ 64) ∧
  (∀ (s : State), s.uahus.held ≠ [] → completes .flitAckTimeout s fun t => t.uahus = s.uahus ∧
    t.rd Ctr.UAHUS_REPLAYS.fld = (s.rd Ctr.UAHUS_REPLAYS.fld + 1) % 2 ^ 64) ∧
  (∀ (s : State), s.uahus.held ≠ [] → s.uahus.ackAt + 1024 ≤ s.ticks → completes .linkStall s fun t =>
    t.uahus.ackAt = s.ticks ∧ (∀ n < 6, t.bundleStage n = 0) ∧ errUp t Err.UAHUS_LINK_STALL) ∧
  (∀ down (s : State), s.uahus.downAt = some down → s.uahus.downRaised = false → down + s.rd Reg.UAHUS_DOWN_LIMIT_BELLS ≤ s.ticks →
    completes .linkDownLimit s fun t => t.uahus.held = [] ∧ t.uahus.waiting = [] ∧ t.uahus.nextSeq = 0 ∧
      t.uahus.caps = none ∧ t.uahus.downRaised = true ∧ errUp t Err.UAHUS_LINK_DOWN) ∧
  (∀ (s : State), s.uahus.reads ≠ [] → s.uahus.stallRaised = false → s.uahus.memAt + s.rd Reg.UAHUS_STALL_LIMIT_BELLS ≤ s.ticks →
    completes .hostStall s fun t => t.uahus = { s.uahus with stallRaised := true } ∧ raises s t Err.UAHUS_HOST_STALL [])

/-- HOST_MEM_WRITE of up to 64 bytes within a line of the Granary that is not poisoned stores exactly these bytes.
HOST_MEM_WRITE and HOST_MEM_READ of an address outside the Granary and the CTL range raise UNMAPPED_ACCESS. CTL_WRITE
and CTL_READ of a refused address raise CTL_UNSUPPORTED; a CTL_WRITE that is not refused acts as a word write by the
CTL path, and a CTL_READ of the schedule answers its word. DMA_READ_COMPLETION of an outstanding read restarts the
stall count. DBG_REQUEST only answers. A MGMT_MESSAGE shorter than its header is refused and counted. (R149, R175,
R177, R179, R409, R575, R576) -/
def Obligations.HostTransactions : Prop :=
  (∀ addr data (s : State), inGranary addr data.length = true → data ≠ [] → addr % 64 + data.length ≤ 64 →
    s.poisoned (addr / 64) = false → completes (.hostMemWrite addr data) s fun t =>
      t.granary = { s.granary with mem := writeBytes s.granary.mem granaryDefault addr data }) ∧
  (∀ addr data (s : State), inGranary addr data.length = false → inCtlRange addr = false →
    completes (.hostMemWrite addr data) s fun t => errUp t Err.TOP_UNMAPPED_ACCESS ∧ t.granary = s.granary) ∧
  (∀ tag addr len ecc (s : State), inGranary addr len = false → inCtlRange addr = false →
    completes (.hostMemRead tag addr len ecc) s fun t => errUp t Err.TOP_UNMAPPED_ACCESS ∧ t.granary = s.granary) ∧
  (∀ addr len (val : Word) (s : State), ctlRefused addr len = true → completes (.ctlWrite addr len val) s fun t =>
    raises s t Err.UAHUS_CTL_UNSUPPORTED [Ctr.UAHUS_CTL_UNSUPPORTED_ACCESSES.fld, Hdr.CNT_OVF 0x40]) ∧
  (∀ addr (val : Word) (s : State), ctlRefused addr 4 = false → addr < 0x200000 → exec (.ctlWrite addr 4 val) s =
    .next ((s.takeInbox 1 0x11 addr).writeWord .ctl addr val.toNat)) ∧
  (∀ tag addr (s : State), addr % 4 = 0 → 0x100000 ≤ addr → addr < 0x180000 → completes (.ctlRead tag addr 4 .ok) s fun t =>
    mget t.lastRead Path.ctl.num 0 = schedWord s.active.sched (addr - 0x100000) % 2 ^ 32 ∧ t.active = s.active) ∧
  (∀ tag status data r (s : State), s.uahus.reads.find? (fun r => r.tag == tag) = some r →
    completes (.dmaReadCompletion tag status data) s fun t => t.uahus.memAt = s.ticks) ∧
  (∀ tag addr len (s : State), completes (.dbgRequest tag addr len) s fun t => frame [.regs, .draws, .uahus] s t) ∧
  (∀ msg (s : State), msg.length < 16 → completes (.mgmtMessage msg) s fun t =>
    t.rd Ctr.MGMT_MBX_REFUSED.fld = (s.rd Ctr.MGMT_MBX_REFUSED.fld + 1) % 2 ^ 64 ∧ t.mgmt.queue = s.mgmt.queue)

/-- ERROR_OCCURRENCE of an error that the page lists sets its bit of PG_ERR whether or not it is masked, clears no bit
of PG_ERR, writes the FIRST record only where no bit was set, counts the occurrence, and joins an entry to the
Ledger's write queue where there is room. No register changes but those that an occurrence may change. Of an unlisted
code it changes nothing (log entry 35). (R103, R104, R533, R537, R553) -/
def Obligations.RaisingAnError : Prop :=
  (∀ page code tag injected prefetch detail (s : State), errListed page code = true →
    completes (.errorOccurrence page code tag injected prefetch detail) s fun t =>
      bit (t.rd (Hdr.PG_ERR page)) code = true ∧
      (∀ b < 32, bit (s.rd (Hdr.PG_ERR page)) b = true → bit (t.rd (Hdr.PG_ERR page)) b = true) ∧
      regsKept s t (raiseFields page) ∧ t.bellNum = s.bellNum ∧
      (s.ledger.queue.length < 64 → t.ledger.queue.length = s.ledger.queue.length + 1 ∧
        t.rd Ctr.ALARM_OCCURRENCES.fld = (s.rd Ctr.ALARM_OCCURRENCES.fld + 1) % 2 ^ 64 ∧
        (s.rd (Hdr.PG_ERR page) ≠ 0 → t.rd (Hdr.PG_ERR_FIRST_CODE page) = s.rd (Hdr.PG_ERR_FIRST_CODE page)) ∧
        (s.rd (Hdr.PG_ERR page) = 0 → t.rd (Hdr.PG_ERR_FIRST_CODE page) = code ∧
          t.rd (Hdr.PG_ERR_FIRST_VALID page) = 1))) ∧
  (∀ page code tag injected prefetch detail (s : State), errListed page code = false →
    exec (.errorOccurrence page code tag injected prefetch detail) s = .next s)

/-- ALARM_N_MINIMUM_END after the minimum ends it. ALARM_RELEASE of an assertion past its minimum ends the assertion,
and within its minimum marks the release pending; with none it changes nothing. ALARM_PIN_SAMPLE shows the sampled
level. ALARM_SUMMARY_CLEAR clears the bits written whose lines are not asserted. ALARM_RESET_CLEAR zeroes the count.
(R534, R541, R543, R545) -/
def Obligations.AlarmPinCommands : Prop :=
  (∀ (s : State), s.rd Reg.ALARM_STATUS_WOULD_DRIVE = 1 → s.rd Reg.ALARM_STATUS_MIN_RUNNING = 1 → s.alarm.minEnd ≤ s.ticks →
    completes .alarmNMinimumEnd s fun t => t.rd Reg.ALARM_STATUS_MIN_RUNNING = 0 ∧
      (s.rd Reg.ALARM_CTRL_HOLD ≠ 1 ∨ s.alarm.released = true → t.rd Reg.ALARM_STATUS_WOULD_DRIVE = 0 ∧
        t.rd Reg.ALARM_STATUS_DRIVING = 0)) ∧
  (∀ (s : State), s.rd Reg.ALARM_STATUS_WOULD_DRIVE = 1 → s.rd Reg.ALARM_STATUS_MIN_RUNNING ≠ 1 → completes .alarmRelease s fun t =>
    t.rd Reg.ALARM_STATUS_WOULD_DRIVE = 0 ∧ t.rd Reg.ALARM_STATUS_DRIVING = 0) ∧
  (∀ (s : State), s.rd Reg.ALARM_STATUS_WOULD_DRIVE = 1 → s.rd Reg.ALARM_STATUS_MIN_RUNNING = 1 → completes .alarmRelease s fun t =>
    t.rd Reg.ALARM_STATUS_RELEASE_PENDING = 1 ∧ t.alarm = { s.alarm with released := true } ∧
    regsKept s t [Reg.ALARM_STATUS_RELEASE_PENDING]) ∧
  (∀ (s : State), s.rd Reg.ALARM_STATUS_WOULD_DRIVE ≠ 1 → exec .alarmRelease s = .next s) ∧
  (∀ level (s : State), completes (.alarmPinSample level) s fun t => t.rd Reg.ALARM_STATUS_PIN = b2n level) ∧
  (∀ (val : Word) (s : State), completes (.alarmSummaryClear val) s fun t =>
    (∀ b < 32, bit val.toNat b = false → bit (t.rd Reg.ALARM_SUMMARY_BLOCKS) b = bit (s.rd Reg.ALARM_SUMMARY_BLOCKS) b) ∧
    regsKept s t [Reg.ALARM_SUMMARY_BLOCKS]) ∧
  (∀ (s : State), exec .alarmResetClear s = .next (s.wr Reg.ALARM_RESET_COUNT 0))

/-- LEDGER_ENTRY_WRITE that verifies takes the oldest entry off the queue, stores it at WP with the current SEQ and
advances WP modulo 2,048. LEDGER_RP_WRITE stores RP. LEDGER_BIST in LOST starts a test; LEDGER_BIST_DONE reports it.
LEDGER_REARM with its key after a passed test leaves LOST. LEDGER_WRAP_WRITE stores WRAP. (R553, R554, R555, R556) -/
def Obligations.LedgerCommands : Prop :=
  (∀ e rest (s : State), s.ledger.queue = e :: rest → s.rd Reg.LEDGER_STATUS_LOST = 0 → s.ringFull = false →
    s.rd (Hdr.INJ_COUNT 0x06) = 0 → completes (.ledgerEntryWrite .ok) s fun t =>
      t.ledger.queue = rest ∧ t.rd Reg.LEDGER_WP_INDEX = (s.rd Reg.LEDGER_WP_INDEX + 1) % 2048 ∧
      mget t.ledger.ring (s.rd Reg.LEDGER_WP_INDEX) Entry.empty = { e with seq := s.rd Reg.LEDGER_SEQ_SEQ } ∧
      ∀ i, i ≠ s.rd Reg.LEDGER_WP_INDEX → mget t.ledger.ring i Entry.empty = mget s.ledger.ring i Entry.empty) ∧
  (∀ (val : Word) (s : State), completes (.ledgerRpWrite val) s fun t =>
    t.rd Reg.LEDGER_RP_INDEX = val.toNat % 2 ^ Reg.LEDGER_RP_INDEX.width ∧
    regsKept s t [Reg.LEDGER_RP_INDEX, Reg.LEDGER_STATUS_FULL]) ∧
  (∀ (s : State), s.rd Reg.LEDGER_STATUS_LOST = 1 → s.rd Reg.LEDGER_STATUS_BIST_BUSY ≠ 1 → completes .ledgerBist s fun t =>
    t.rd Reg.LEDGER_STATUS_BIST_BUSY = 1 ∧ t.ledger = s.ledger) ∧
  (∀ pass (s : State), s.rd Reg.LEDGER_STATUS_BIST_BUSY = 1 → completes (.ledgerBistDone pass) s fun t =>
    t.rd Reg.LEDGER_STATUS_BIST_BUSY = 0 ∧ t.rd Reg.LEDGER_STATUS_BIST_PASS = b2n pass ∧
    regsKept s t [Reg.LEDGER_STATUS_BIST_BUSY, Reg.LEDGER_STATUS_BIST_PASS]) ∧
  (∀ (val : Word) (s : State), bits val.toNat 8 8 = 0xA5 → bit val.toNat 0 = true → s.rd Reg.LEDGER_STATUS_BIST_PASS = 1 →
    s.rd (Hdr.INJ_COUNT 0x06) = 0 → completes (.ledgerRearm val .ok) s fun t =>
      t.rd Reg.LEDGER_STATUS_LOST = 0 ∧ t.rd Reg.LEDGER_RP_INDEX = 0 ∧ t.ledger.queue = s.ledger.queue) ∧
  (∀ (val : Word) (s : State), completes (.ledgerWrapWrite val) s fun t => t.rd Reg.LEDGER_CTRL_WRAP = b2n (bit val.toNat 0))

/-- INPUT_LOSS of one input with AUTO takes its lines over to the other, enters single mode, counts the takeover and
raises INPUT_LOST; of the second it enters MODE 3 and raises BOTH_INPUTS_LOST too. INPUT_RETURN after 65,536 bells
with an acceptable identity ends the loss and marks the source returning outside dual mode; with another identity it
raises IDENTITY_BAD and the loss stays. LINE_MOVE within its conditions begins the move. LINE_FAIL marks the line,
counts and raises. LINE_REARM clears every mark. SELECT_SWITCH_WRITE stores the word, or is refused while a line
moves. (R189, R191, R192, R193, R194, R195, R196) -/
def Obligations.LaserInputsAndLines : Prop :=
  (∀ src tap (s : State), s.inputLost src = false → s.inputLost src.other = false → s.rd Reg.LANTERN_CTRL_AUTO = 1 →
    completes (.inputLoss src tap) s fun t => t.inputLost src = true ∧ t.rd (Reg.LANTERN_IN_LOL src.num) = 1 ∧
      t.rd Reg.LANTERN_STATUS_MODE = srcSel src.other ∧ t.lantern.move = none ∧ errUp t Err.LANTERN_INPUT_LOST ∧
      t.rd Ctr.LANTERN_TAKEOVERS.fld = (s.rd Ctr.LANTERN_TAKEOVERS.fld + 1) % 2 ^ 64) ∧
  (∀ src tap (s : State), s.inputLost src = false → s.inputLost src.other = true → completes (.inputLoss src tap) s fun t =>
    t.rd Reg.LANTERN_STATUS_MODE = 3 ∧ errUp t Err.LANTERN_INPUT_LOST ∧ errUp t Err.LANTERN_BOTH_INPUTS_LOST) ∧
  (∀ src tap identity (s : State), s.inputLost src = true → mget s.lantern.lostAt src.num 0 + 65536 ≤ s.ticks →
    identityOk identity = true → s.inputLost src.other = false → s.lightMode ≠ 0 →
    completes (.inputReturn src tap identity) s fun t =>
      t.inputLost src = false ∧ t.rd (Reg.LANTERN_IN_LOL src.num) = 0 ∧ t.lantern.returning = some src) ∧
  (∀ src tap identity (s : State), s.inputLost src = true → mget s.lantern.lostAt src.num 0 + 65536 ≤ s.ticks →
    identityOk identity = false → completes (.inputReturn src tap identity) s fun t =>
      t.inputLost src = true ∧ errUp t Err.LANTERN_IDENTITY_BAD) ∧
  (∀ line dst (s : State), line < 32 → s.lantern.move = none → s.lineUsable dst line = true → s.drawnBy dst.other line = true →
    s.lightMode = 0 ∨ s.lantern.returning = some dst → s.drawnCount dst < 17 ∨ s.askedLevel dst line = s.drawnLevel →
    completes (.lineMove line dst) s fun t =>
      t.lantern.move = some { line := line, dst := dst, level := false } ∧ t.regs = s.regs) ∧
  (∀ src line (s : State), line < 32 → s.lineFailed src line = false → completes (.lineFail src line true) s fun t =>
    t.lineFailed src line = true ∧ errUp t Err.LANTERN_LINE_FAIL ∧
    t.rd Ctr.LANTERN_LINE_FAILS.fld = (s.rd Ctr.LANTERN_LINE_FAILS.fld + 1) % 2 ^ 64) ∧
  (∀ (s : State), exec .lineRearm s = .next { s with lantern := { s.lantern with failed := 0 } }) ∧
  (∀ word (val : Word) (s : State), word < 16 → s.lantern.move = none → exec (.selectSwitchWrite word val) s =
    .next (s.wr (Reg.LANTERN_SEL_LINE word) val.toNat)) ∧
  (∀ word (val : Word) (s : State), word < 16 → s.lantern.move.isSome = true → completes (.selectSwitchWrite word val) s fun t =>
    raises s t Err.LANTERN_MODULE_COMM [])

/-- LANTERN_POLL puts a reading of every line of each accepted emitting source on the bus; LANTERN_ALERT does so for
its source, counts and raises. A stuck bus is marked and raised, and its back-off doubles while it stays low.
SET_LINE_POWER acknowledged stores the setpoint, refused raises MODULE_COMM and stores none. READ_LINE_POWER shows the
report, and more than 1.0 dB off the setpoint raises POWER_READBACK. READ_HOURS and SET_STANDBY show their values.
READ_IDENTITY accepts the module or raises IDENTITY_BAD. A failed transaction is retried three times, then MODULE_COMM
is raised. (R197, R198, R199, R200, R201, R202) -/
def Obligations.LanternBusCommands : Prop :=
  (∀ (s : State), completes .lanternPoll s fun t => t.regs = s.regs ∧ ∀ src : Source, bit s.lantern.accepted src.num = true →
    s.rd (standbyFld src) ≠ 1 → ∀ l < 32, BusWork.readPower src l ∈ t.lantern.work) ∧
  (∀ src (s : State), completes (.lanternAlert src) s fun t => (∀ l < 32, BusWork.readPower src l ∈ t.lantern.work) ∧
    errUp t Err.LANTERN_MODULE_ALERT ∧ t.rd Ctr.LANTERN_ALERTS.fld = (s.rd Ctr.LANTERN_ALERTS.fld + 1) % 2 ^ 64) ∧
  (∀ (s : State), s.lantern.retryAt ≤ s.ticks → s.rd Reg.LANTERN_STATUS_BUS_STUCK ≠ 1 → completes (.lanternBusStuck true) s fun t =>
    t.rd Reg.LANTERN_STATUS_BUS_STUCK = 1 ∧ errUp t Err.LANTERN_LANTERN_BUS_STUCK ∧
    t.lantern.retryAt = s.ticks + s.lantern.backoff ∧ t.lantern.backoff = min 1048576 (2 * s.lantern.backoff)) ∧
  (∀ src l power (s : State), l < 32 → completes (.setLinePower src (some l) power true) s fun t =>
    t.rd (Reg.LANTERN_LINE_SETPOINT src.num l) = ofSigned (Reg.LANTERN_LINE_SETPOINT src.num l).width power %
      2 ^ (Reg.LANTERN_LINE_SETPOINT src.num l).width) ∧
  (∀ src line power (s : State), completes (.setLinePower src line power false) s fun t => errUp t Err.LANTERN_MODULE_COMM ∧
    ∀ l < 32, t.rd (Reg.LANTERN_LINE_SETPOINT src.num l) = s.rd (Reg.LANTERN_LINE_SETPOINT src.num l)) ∧
  (∀ src line r (s : State), line < 32 → completes (.readLinePower src line r) s fun t =>
    t.rd (Reg.LANTERN_BIAS_STATUS src.num line) = r.status % 2 ^ (Reg.LANTERN_BIAS_STATUS src.num line).width ∧
    t.rd (Reg.LANTERN_BIAS_BIAS src.num line) = r.bias % 2 ^ (Reg.LANTERN_BIAS_BIAS src.num line).width ∧
    (r.power < s.rdI (Reg.LANTERN_LINE_SETPOINT src.num line) - 100 ∨
      s.rdI (Reg.LANTERN_LINE_SETPOINT src.num line) + 100 < r.power → errUp t Err.LANTERN_POWER_READBACK)) ∧
  (∀ src powered emitting (s : State), completes (.readHours src powered emitting) s fun t =>
    t.rd (Reg.LANTERN_HOURS_EMITTING src.num) = emitting % 2 ^ (Reg.LANTERN_HOURS_EMITTING src.num).width) ∧
  (∀ src on (s : State), completes (.setStandby src on) s fun t => t.rd (standbyFld src) = b2n on) ∧
  (∀ src identity (s : State), completes (.readIdentity src identity) s fun t =>
    bit t.lantern.accepted src.num = identityOk identity ∧
    (identityOk identity = false → errUp t Err.LANTERN_IDENTITY_BAD)) ∧
  (∀ src (s : State), s.lantern.retries < 3 → completes (.lanternTransactionFail src) s fun t =>
    t.lantern = { s.lantern with retries := s.lantern.retries + 1 } ∧
    t.rd Ctr.LANTERN_BUS_RETRIES.fld = (s.rd Ctr.LANTERN_BUS_RETRIES.fld + 1) % 2 ^ 64) ∧
  (∀ src (s : State), 3 ≤ s.lantern.retries → completes (.lanternTransactionFail src) s fun t =>
    t.lantern.retries = 0 ∧ raises s t Err.LANTERN_MODULE_COMM [])

/-- MONITOR_SAMPLE of an unpinned channel that did not just move stores the sample in the range it was taken in and
moves the range by the code; the fourth sample of a run of moves pins the range for 64 samples. RANGE_PIN_END ends a
pin that is used up. ADC_REFERENCE_CHECK shows a failing converter and raises MON_ADC_FAULT. HEARTH_LOOP_UPDATE in the
loop's bell makes the update in Hearth A where it computes, and outside it changes nothing. PARK_MOVE moves the parked
unit by half a line spacing. WEAR_PERIOD begins the chosen move and records it. (R214, R215, R216, R219, R222, R224,
R227, R240) -/
def Obligations.MonitorsAndLoops : Prop :=
  (∀ ch code loop (s : State), ch < 1536 → code < 4096 → (s.monitor ch).pin = none → (s.monitor ch).moved = false →
    completes (.monitorSample ch code loop) s fun t => t.monitor ch =
      { range := nextRange (s.monitor ch).range code, word := sampleOf (s.monitor ch).range code false false,
        moved := nextRange (s.monitor ch).range code != (s.monitor ch).range, run := 0, pin := none }) ∧
  (∀ ch code loop (s : State), ch < 1536 → code < 4096 → (s.monitor ch).pin = none → (s.monitor ch).moved = true →
    (s.monitor ch).run = 2 → completes (.monitorSample ch code loop) s fun t =>
      (t.monitor ch).pin = some 64 ∧ (t.monitor ch).range = (s.monitor ch).range ∧ errUp t Err.HTR_RANGE_PIN) ∧
  (∀ ch (s : State), (s.monitor ch).pin = some 0 → completes (.rangePinEnd ch) s fun t =>
    t.monitor ch = { s.monitor ch with pin := none } ∧ t.regs = s.regs) ∧
  (∀ adc (s : State), adc < 64 → completes (.adcReferenceCheck adc false) s fun t =>
    bit t.adcFault adc = true ∧ raises s t Err.HTR_MON_ADC_FAULT []) ∧
  (∀ adc (s : State), adc < 64 → exec (.adcReferenceCheck adc true) s = .next { s with adcFault := clearBit s.adcFault adc }) ∧
  (∀ loop phase fault (s : State), loop < 1024 → s.bellNum % 8 = 4 * (loop / 4 % 32 % 2) + loop % 4 → s.owner.isSome = true →
    s.computes 0 = true → ((s.hearth 0).loop loop).st ≠ 0 → completes (.hearthLoopUpdate loop phase fault) s fun t =>
      { (t.hearth 0).loop loop with headLow := false } = { (s.loopStep 0 loop phase).loop with headLow := false } ∧
      (fault = true → errUp t Err.HTR_HTR_DAC_FAULT)) ∧
  (∀ loop phase fault (s : State), s.bellNum % 8 ≠ 4 * (loop / 4 % 32 % 2) + loop % 4 →
    exec (.hearthLoopUpdate loop phase fault) s = .next s) ∧
  (∀ loop o e (s : State), s.owner = some o → s.parkedElem (loop % 4) (loop / 128) (loop / 4 % 32) = some e → loop < 1024 →
    ((s.hearth o).loop loop).parkNear = true → completes (.parkMove loop) s fun t =>
      mget t.twins.parkAdj (heaterNo (loop / 128) (loop / 4 % 32) e) 0 =
        mget s.twins.parkAdj (heaterNo (loop / 128) (loop / 4 % 32) e) 0 +
          Config.parkDelta (s.cal 1 (heaterNo (loop / 128) (loop / 4 % 32) e)) ∧ t.regs = s.regs) ∧
  (∀ o src l (s : State), s.owner = some o → s.wearChoice = some (src, l) → s.rd (Reg.HEARTH_CTRL_WEAR_EN 0) = 1 → s.lightMode = 0 →
    s.lantern.move = none → s.lineFailed src.other l = false → s.drawnCount src.other < 17 →
    completes .wearPeriod s fun t => t.lantern.move = some { line := l, dst := src.other, level := false } ∧
      t.rd (Reg.HEARTH_WEAR_LAST_VALID o) = 1)

/-- MIRROR_FRAME that is present and good from a running owner is compared and kept; one that is missing while the
owner's heart is present is counted and raised. HEARTBEAT_SEND inverts the toggle and writes the word of a running
Hearth. HEARTBEAT_CHECK leaves no both-failed mark while one Hearth serves. HEARTH_BIST in an even bell counts a run
and records its result. HEARTH_MARCH_BLOCK that passes goes to the next block of 256. HEALTH_CAPTURE in the epoch's
last bell shows the record and starts a new one. REEVE_ARBITRATION of a mismatch removes the Hearth that alone
disagrees, and of two raises CMP_UNRESOLVED on both pages. (R248, R249, R250, R251, R252, R253, R254) -/
def Obligations.HearthsWatchEachOther : Prop :=
  (∀ o ups (s : State), s.owner = some o → s.role (1 - o) = 2 ∨ s.role (1 - o) = 3 → (s.hearth o).stopped = false →
    completes (.mirrorFrame true true ups) s fun t => t.twins.mirrorAt = s.ticks ∧ (t.hearth (1 - o)).compared = true) ∧
  (∀ o crc ups (s : State), s.owner = some o → s.role (1 - o) = 2 ∨ s.role (1 - o) = 3 → s.heartPresent o = true →
    completes (.mirrorFrame false crc ups) s fun t =>
      (t.hearth (1 - o)).mirrorMisses = (s.hearth (1 - o)).mirrorMisses + 1 ∧ errUp t (Err.HEARTH_MIRROR_MISS (1 - o))) ∧
  (∀ lineB wordB (s : State), (s.hearth 0).stopped = false → s.role 0 ≠ 0 → s.role 0 ≠ 4 →
    completes (.heartbeatSend true true lineB wordB) s fun t => t.regs = s.regs ∧ t.hearth 0 = { s.hearth 0 with
      toggle := !(s.hearth 0).toggle, wordBell := s.bellNum % 2 ^ 24, wordRole := s.role 0,
      wordSeq := (s.hearth 0).wordSeq + 1 }) ∧
  (∀ (s : State), completes .heartbeatCheck s fun t =>
    (∃ h < 2, bit t.twins.failNext h = false ∧ t.role h ∈ [1, 2, 3]) → t.twins.bothFailed = false) ∧
  (∀ (s : State), s.bellNum % 2 = 0 → s.role 0 ≠ 0 → s.role 0 ≠ 4 → completes (.hearthBist true true) s fun t =>
    (t.hearth 0).bistBad = false ∧
    t.rd (Ctr.HEARTH_BIST_RUNS 0).fld = (s.rd (Ctr.HEARTH_BIST_RUNS 0).fld + 1) % 2 ^ 64) ∧
  (∀ h (s : State), h < 2 → s.role h ≠ 0 → s.role h ≠ 4 → completes (.hearthMarchBlock h true) s fun t =>
    (t.hearth h).marchAt = ((s.hearth h).marchAt + 1) % 256) ∧
  (∀ (s : State), s.bellNum % 1024 = 1023 → completes .healthCapture s fun t => ∀ h < 2,
    t.rd (Reg.HEARTH_HEALTH_ROLE h) = s.role h % 2 ^ (Reg.HEARTH_HEALTH_ROLE h).width ∧ (t.hearth h).bistFails = 0 ∧
    (t.hearth h).mirrorMisses = 0) ∧
  (∀ (s : State), s.twins.arb = some .compare → (∀ h < 2, (s.hearth h).bistBad = false ∧ s.selfFailing h = false) →
    (completes (.reeveArbitration false true) s fun t =>
      t = ({ s with twins := { s.twins with arb := none } } : State).removeHearth 0 3) ∧
    (completes (.reeveArbitration false false) s fun t => errUp t (Err.HEARTH_CMP_UNRESOLVED 0) ∧
      errUp t (Err.HEARTH_CMP_UNRESOLVED 1)))

/-- FAILOVER_GRANT and PLANNED_HANDOVER, a bell after their decision, make the other Hearth OWNER with both granted
for a bell; FAILOVER_CUT, a bell after the grant, ends that. RECLAIM and HEARTH_SWITCH_REQUEST within their conditions
decide a handover, and a request without a standby is refused. HEARTH_SOFT_RESET of a Hearth that does not own fails
it. HEARTH_CONTROLLER_STOP stops it. HEARTH_REPAIR backs off or enters RESYNC, RESYNC_COPY takes the owner's state,
RESYNC_COMPLETE enters STANDBY after 8 clean bells and RESYNC_TIMEOUT fails it. (R247, R253, R255, R256, R258, R259,
R260, R261) -/
def Obligations.OwnershipOfTheRings : Prop :=
  (∀ g (s : State), s.twins.grant = some g → g.auto = true → g.since < s.ticks → g.dst < 2 → completes .failoverGrant s fun t =>
    t.rd (Reg.HEARTH_OWNER_OWNER 0) = g.dst ∧ t.rd (Reg.HEARTH_OWNER_DUAL 0) = 1 ∧ t.role g.dst = 1 ∧
    t.twins.grant = none ∧ t.twins.dual = some { g with since := s.ticks } ∧
    errUp t (Err.HEARTH_OWNER_CHANGE (1 - g.dst))) ∧
  (∀ g (s : State), s.twins.dual = some g → g.auto = true → g.since < s.ticks → g.dst < 2 → completes .failoverCut s fun t =>
    t.rd (Reg.HEARTH_OWNER_DUAL 0) = 0 ∧ t.twins.dual = none) ∧
  (∀ g (s : State), s.twins.grant = some g → g.auto = false → g.since < s.ticks → g.dst < 2 → s.role g.dst = 2 →
    ¬ ((g.cause = 5 ∨ g.cause = 6) ∧ s.rd Reg.BOOT_RELOCK_ACTIVE = 1) → completes .plannedHandover s fun t =>
      t.rd (Reg.HEARTH_OWNER_OWNER 0) = g.dst ∧ t.role g.dst = 1 ∧ t.twins.dual = some { g with since := s.ticks }) ∧
  (∀ h (s : State), s.nonOwner = some h → s.rd (Reg.HEARTH_RETURN_MODE 0) = 1 → s.role h = 2 → (s.hearth h).wasOwner = true →
    (s.hearth h).noReclaim = false → 1024 ≤ (s.hearth h).sinceStandby → s.twins.grant = none → s.twins.dual = none →
    completes .reclaim s fun t => t = { s with twins := { s.twins with
      grant := some { dst := h, cause := 5, auto := false, since := s.ticks } } }) ∧
  (∀ h (val : Word) (s : State), bits val.toNat 8 8 = 0xA5 → bit val.toNat 0 = true → s.nonOwner = some h →
    completes (.hearthSwitchRequest val) s fun t =>
      (s.role h = 2 → s.twins.grant = none → s.twins.dual = none → t.rd (Reg.HEARTH_OWNER_REQ_REFUSED 0) = 0 ∧
        t.twins.grant = some { dst := h, cause := 6, auto := false, since := s.ticks }) ∧
      (s.role h ≠ 2 → t.rd (Reg.HEARTH_OWNER_REQ_REFUSED 0) = 1 ∧ t.twins = s.twins)) ∧
  (∀ h (s : State), h < 2 → s.owner ≠ some h → s.role h ≠ 0 → completes (.hearthSoftReset h) s fun t =>
    t.role h = 4 ∧ (t.hearth h).loops = [] ∧ t.rd (Hdr.SRST_BUSY (0x0A + h)) = 1) ∧
  (∀ h (s : State), h < 2 → completes (.hearthControllerStop h) s fun t => (t.hearth h).stopped = true ∧ t.regs = s.regs ∧
    t.hearth (1 - h) = s.hearth (1 - h)) ∧
  (∀ h (s : State), h < 2 → s.role h = 4 → (s.hearth h).repairAt ≤ s.ticks → completes (.hearthRepair h false) s fun t =>
    t.role h = 4 ∧ (t.hearth h).repairFails = (s.hearth h).repairFails + 1) ∧
  (∀ h (s : State), h < 2 → s.role h = 4 → (s.hearth h).repairAt ≤ s.ticks → s.rd (Reg.HEARTH_OWNER_NONE 0) = 0 →
    completes (.hearthRepair h true) s fun t => t.role h = 3 ∧ (t.hearth h).resyncAt = s.ticks) ∧
  (∀ h o crc (s : State), s.owner = some o → h < 2 → h ≠ o → s.role h = 3 → completes (.resyncCopy h crc) s fun t =>
    (t.hearth h).loops = (s.hearth o).loops ∧ (t.hearth h).copied = crc ∧ t.rd (Reg.HEARTH_ROLE_CLEAN h) = 0) ∧
  (∀ h (s : State), h < 2 → s.role h = 3 → (s.hearth h).copied = true → 8 ≤ s.rd (Reg.HEARTH_ROLE_CLEAN h) →
    completes (.resyncComplete h) s fun t => t.role h = 2 ∧ (t.hearth h).sinceStandby = 0) ∧
  (∀ h (s : State), h < 2 → s.role h = 3 → (s.hearth h).resyncAt + 1048576 ≤ s.ticks → completes (.resyncTimeout h) s fun t =>
    t.role h = 4 ∧ errUp t (Err.HEARTH_SELFTEST_FAIL h))

/-- LOS_EVALUATE below -27.0 dBm asserts LOS and counts a dark bell, above -25.0 dBm it clears LOS, and an ACTIVE link
returns to DETECT at its second dark bell. LANE_DETECT_EXIT with the light, the loops and the back-off of R282 enters
TRAIN and counts the attempt; a frozen equaliser is then converged, and another starts with its taps at 0.
TRAINING_FRAME_RECEIVE changes nothing in DETECT, counts the frame in TRAIN, and sends a later link that sees its
preamble back to DETECT. EQ_FREEZE_WRITE stores the mask and converges the links it freezes in TRAIN. LANE_TRAIN_DONE
with both ends trained enters LOCK. (R281, R282, R285, R286, R287, R288, R289, R294, R295) -/
def Obligations.LinksLeaveDetectAndTrain : Prop :=
  (∀ f w carrier (s : State), f < 8 → w < 32 → carrier < -270 → s.stageOf (32 * f + s.linkOfWave f w) ≠ 4 →
    completes (.losEvaluate f w carrier) s fun t => t.rd (Reg.FERRY_LANE_STATE_LOS f (s.linkOfWave f w)) = 1 ∧
      t.link (32 * f + s.linkOfWave f w) = { s.link (32 * f + s.linkOfWave f w) with clear := 0, dark := (s.link (32 * f +
        s.linkOfWave f w)).dark + 1 }) ∧
  (∀ f w carrier (s : State), f < 8 → w < 32 → -250 < carrier → completes (.losEvaluate f w carrier) s fun t =>
    t.rd (Reg.FERRY_LANE_STATE_LOS f (s.linkOfWave f w)) = 0 ∧
      t.link (32 * f + s.linkOfWave f w) = { s.link (32 * f + s.linkOfWave f w) with dark := 0, clear := (s.link (32 * f +
        s.linkOfWave f w)).clear + 1 }) ∧
  (∀ f w carrier (s : State), f < 8 → w < 32 → carrier < -270 → s.stageOf (32 * f + s.linkOfWave f w) = 4 →
    1 ≤ (s.link (32 * f + s.linkOfWave f w)).dark → completes (.losEvaluate f w carrier) s fun t =>
      t.stageOf (32 * f + s.linkOfWave f w) = 0) ∧
  (∀ f j (s : State), f < 8 → j < 32 → s.stageOf (32 * f + j) = 0 → bit s.boot.lanesStarted f = true →
    16 ≤ (s.link (32 * f + j)).clear → (s.link (32 * f + j)).backoffTo = none → s.loopSt f (s.rxWave f j) 2 = 3 →
    s.loopSt f (s.rxWave f j) 3 = 3 → completes (.laneDetectExit f j) s fun t => t.stageOf (32 * f + j) = 1 ∧
      t.rd (Ctr.CNT_BRINGUP_ATTEMPTS f).fld = (s.rd (Ctr.CNT_BRINGUP_ATTEMPTS f).fld + 1) % 2 ^ 64 ∧
      (if bit (s.rd (Reg.FERRY_EQ_FREEZE_LINKS f)) j = true then t.rd (Reg.FERRY_LANE_STATE_EQ_CONVERGED f j) = 1
       else (t.link (32 * f + j)).eq = Equaliser.blank ∧ t.rd (Reg.FERRY_EQ_TAPS0_I1_I4 f j) = 0)) ∧
  (∀ f j frame (s : State), s.stageOf (32 * f + j) = 0 → exec (.trainingFrameReceive f j frame) s = .next s) ∧
  (∀ f j frame (s : State), f < 8 → j < 32 → s.stageOf (32 * f + j) = 1 → completes (.trainingFrameReceive f j frame) s fun t =>
    t.rd (Ctr.CNT_TRAINING_FRAMES_RX f).fld = (s.rd (Ctr.CNT_TRAINING_FRAMES_RX f).fld + 1) % 2 ^ 64) ∧
  (∀ f j frame c (s : State), f < 8 → j < 32 → 3 ≤ s.stageOf (32 * f + j) → (s.link (32 * f + j)).corr = some c →
    preambleFits c frame = true → completes (.trainingFrameReceive f j frame) s fun t => t.stageOf (32 * f + j) = 0) ∧
  (∀ f (val : Word) (s : State), f < 8 → completes (.eqFreezeWrite f val) s fun t =>
    t.rd (Reg.FERRY_EQ_FREEZE_LINKS f) = val.toNat ∧ ∀ j < 32, bit val.toNat j = true →
      bit (s.rd (Reg.FERRY_EQ_FREEZE_LINKS f)) j = false → s.stageOf (32 * f + j) = 1 →
      t.rd (Reg.FERRY_LANE_STATE_EQ_CONVERGED f j) = 1) ∧
  (∀ f j (s : State), f < 8 → j < 32 → s.stageOf (32 * f + j) = 1 → s.ownTrained (32 * f + j) = true →
    s.oriented (32 * f + j) = true → (s.link (32 * f + j)).farDone = true → completes (.laneTrainDone f j) s fun t =>
      t.stageOf (32 * f + j) = 2 ∧ (t.link (32 * f + j)).good = 0 ∧ (t.link (32 * f + j)).trained = s.ticks)

/-- LANE_LOCK_DONE after four good frames enters EXCHANGE. LANE_EXCHANGE_DONE of messages that fit makes the link
ACTIVE, shows it in FERRY_ACTIVE, counts the bring-up and sets its back-off to one bell; of messages that do not fit
it returns to DETECT and raises LANE_BRINGUP_FAIL, as a stage's time-out does. LANE_BACKOFF_EXPIRY ends a back-off
whose bells are over. FERRY_LANE_RESET of links before LOCK returns them to DETECT at once, and of later links begins
8 bells of RETRAIN. (R280, R281, R290, R291, R292, R296) -/
def Obligations.LinksLockExchangeAndReset : Prop :=
  (∀ f j (s : State), f < 8 → j < 32 → s.stageOf (32 * f + j) = 2 → 4 ≤ (s.link (32 * f + j)).good →
    completes (.laneLockDone f j) s fun t => t.stageOf (32 * f + j) = 3 ∧
      t.bell.firstExchange = some (s.bell.firstExchange.getD s.ticks)) ∧
  (∀ f j (s : State), f < 8 → j < 32 → s.stageOf (32 * f + j) = 3 → s.exchangeVerdict (32 * f + j) = none →
    completes (.laneExchangeDone f j) s fun t => t.stageOf (32 * f + j) = 4 ∧
      bit (t.rd (Reg.FERRY_ACTIVE_LINKS f)) j = true ∧ t.rd (Reg.FERRY_FAR0_VALID f j) = 1 ∧
      t.rd (Reg.FERRY_LANE_BACKOFF_BELLS f j) = 1 ∧ (t.link (32 * f + j)).fails = 0 ∧
      t.rd (Ctr.CNT_BRINGUPS_COMPLETED f).fld = (s.rd (Ctr.CNT_BRINGUPS_COMPLETED f).fld + 1) % 2 ^ 64) ∧
  (∀ f j r (s : State), f < 8 → j < 32 → s.stageOf (32 * f + j) = 3 → s.exchangeVerdict (32 * f + j) = some r → r ≠ 0 →
    completes (.laneExchangeDone f j) s fun t => t.stageOf (32 * f + j) = 0 ∧ errUp t (Err.LANE_BRINGUP_FAIL f)) ∧
  (∀ f j (s : State), f < 8 → j < 32 →
    (s.stageOf (32 * f + j) = 1 ∧ (s.link (32 * f + j)).since + 8192 ≤ s.ticks) ∨
    (s.stageOf (32 * f + j) = 2 ∧ (s.link (32 * f + j)).since + 64 ≤ s.ticks) ∨
    (s.stageOf (32 * f + j) = 3 ∧ (s.link (32 * f + j)).since + 8192 ≤ s.ticks) →
    completes (.laneStageTimeout f j) s fun t => t.stageOf (32 * f + j) = 0 ∧ errUp t (Err.LANE_BRINGUP_FAIL f)) ∧
  (∀ f j last (s : State), f < 8 → j < 32 → (s.link (32 * f + j)).backoffTo = some last → last ≤ s.ticks →
    completes (.laneBackoffExpiry f j) s fun t => t.rd (Reg.FERRY_LANE_STATE_BACKOFF f j) = 0 ∧
      t.link (32 * f + j) = { s.link (32 * f + j) with backoffTo := none } ∧
      regsKept s t [Reg.FERRY_LANE_STATE_BACKOFF f j]) ∧
  (∀ f (mask : Word) (s : State), f < 8 → completes (.ferryLaneReset f mask) s fun t => ∀ j < 32, bit mask.toNat j = true →
    if 2 ≤ s.stageOf (32 * f + j) then t.stageOf (32 * f + j) = s.stageOf (32 * f + j) ∧
      ((s.link (32 * f + j)).retrain = 0 → t.link (32 * f + j) = { s.link (32 * f + j) with retrain := 8 })
    else t.stageOf (32 * f + j) = 0)

/-- FRAME_LAND on a link in DETECT or TRAIN changes nothing. Past TRAIN a frame with an uncorrectable codeword raises
LANE_FEC_UNCORRECTABLE. In LOCK, with no injection, a frame with a good header, its guard and every codeword decoded
counts toward the four, and one with a bad header counts and raises LANE_HEADER_CRC and restarts the four. An ACTIVE
link whose frame names another far end than its EXCHANGE did returns to DETECT. (R271, R278, R279, R290, R294) -/
def Obligations.FramesLand : Prop :=
  (∀ f j frame (s : State), s.stageOf (32 * f + j) < 2 → exec (.frameLand f j frame) s = .next s) ∧
  (∀ f j frame (s : State), f < 8 → j < 32 → 2 ≤ s.stageOf (32 * f + j) → frame.errors.any (fun e => 15 < e) = true →
    completes (.frameLand f j frame) s fun t => errUp t (Err.LANE_FEC_UNCORRECTABLE f)) ∧
  (∀ f j frame (s : State), f < 8 → j < 32 → s.stageOf (32 * f + j) = 2 → s.rd (Hdr.INJ_COUNT (0x20 + 4 * f)) = 0 →
    hdrOk frame.header = true → hdrNum (msgOf frame.header) 0 1 ≠ 2 → frame.guard = true →
    frame.errors.all (fun e => e ≤ 15) = true → completes (.frameLand f j frame) s fun t =>
      (t.link (32 * f + j)).good = (s.link (32 * f + j)).good + 1 ∧ t.stageOf (32 * f + j) = 2) ∧
  (∀ f j frame (s : State), f < 8 → j < 32 → s.stageOf (32 * f + j) = 2 → hdrOk frame.header = false →
    completes (.frameLand f j frame) s fun t => (t.link (32 * f + j)).good = 0 ∧ errUp t (Err.LANE_HEADER_CRC f) ∧
      t.rd (Ctr.CNT_HEADER_CRC_ERRORS f).fld = (s.rd (Ctr.CNT_HEADER_CRC_ERRORS f).fld + 1) % 2 ^ 64) ∧
  (∀ f j frame (s : State), f < 8 → j < 32 → s.stageOf (32 * f + j) = 4 → s.rd (Hdr.INJ_COUNT (0x20 + 4 * f)) = 0 →
    hdrOk frame.header = true → [hdrNum frame.header 8 4 % 2 ^ 20, hdrNum frame.header 3 1 / 32,
      hdrNum frame.header 3 1 % 32] ≠ (s.link (32 * f + j)).farWho →
    completes (.frameLand f j frame) s fun t => t.stageOf (32 * f + j) = 0)

/-- With the data plane running, no error injected in the Granary and the cell's sheaf read whole: PUT_APPLY in the
open range writes exactly its bytes and outside it raises OPEN_TARGET_FAULT; GET_REQ_APPLY of a source in the open
range queues the reply with the source's bytes; GET_DATA_APPLY of a tag that does not run here writes its bytes;
PROGRAM_SHEAF_APPLY writes its piece into the staging region; MGMT_SHEAF_APPLY changes no memory. Each takes the sheaf
out of its cell. A sheaf whose tally does not fit raises DELIVERY_FAIL instead. (R276, R344, R345, R361) -/
def Obligations.OpenTrafficIsApplied : Prop :=
  (∀ c (s : State), s.frozen = false → s.sched.cells.find? (fun c => c.out.isNone && c.sheaf.kind == 2) = some c →
    c.sheaf.tally = sheafTally c.sheaf → openLenOk c.sheaf = true → isWindow (payNum c.sheaf 0 8) = false →
    s.openRange (payNum c.sheaf 0 8) ((c.sheaf.payload.drop 16).take (openLen c.sheaf)).length = true →
    (∀ l ∈ linesOf (payNum c.sheaf 0 8) 496, s.poisoned l = false) → completes (.putApply .ok 0) s fun t =>
      t.granary = (s.granaryPoke (payNum c.sheaf 0 8) ((c.sheaf.payload.drop 16).take (openLen c.sheaf))).granary ∧ t.sched.cells = s.sched.cells.erase c) ∧
  (∀ c (s : State), s.frozen = false → s.sched.cells.find? (fun c => c.out.isNone && c.sheaf.kind == 2) = some c →
    c.sheaf.tally = sheafTally c.sheaf → isWindow (payNum c.sheaf 0 8) = false →
    s.openRange (payNum c.sheaf 0 8) ((c.sheaf.payload.drop 16).take (openLen c.sheaf)).length = false →
    completes (.putApply .ok 0) s fun t => t.granary = s.granary ∧ errUp t Err.WEIR_OPEN_TARGET_FAULT ∧
      t.sched.cells = s.sched.cells.erase c) ∧
  (∀ ecc bad c (s : State), s.frozen = false → s.sched.cells.find? (fun c => c.out.isNone && c.sheaf.kind == 2) = some c →
    c.sheaf.tally ≠ sheafTally c.sheaf → completes (.putApply ecc bad) s fun t => t.granary.mem = s.granary.mem ∧
      errUp t Err.TALLY_DELIVERY_FAIL ∧ t.sched.cells = s.sched.cells.erase c) ∧
  (∀ c k (s : State), s.frozen = false → s.sched.cells.find? (fun c => c.out.isNone && c.sheaf.kind == 3) = some c →
    c.sheaf.tally = sheafTally c.sheaf → openLenOk c.sheaf = true → isWindow (payNum c.sheaf 0 8) = false →
    s.openRange (payNum c.sheaf 0 8) (openLen c.sheaf) = true → s.rd (Hdr.INJ_COUNT 0x62) = 0 →
    (∀ l ∈ linesOf (payNum c.sheaf 0 8) (openLen c.sheaf), s.poisoned l = false) →
    payNum c.sheaf 10 3 % 2 ^ 20 ≠ s.nodeId → s.routeOpen (payNum c.sheaf 10 3 % 2 ^ 20) = some k →
    completes (.getReqApply .ok 0 .ok) s fun t => t.granary = s.granary ∧ t.sched.cells = s.sched.cells.erase c ∧
      t.sched.opens = s.sched.opens ++ [
        { own := 64, out := k, at' := s.ticks,
          sheaf := tallied { Sheaf.empty with
            kind := 4, tag := c.sheaf.tag, dest := payNum c.sheaf 10 3 % 2 ^ 20, flow := 0, seq := s.sched.openSeq,
            payload := leBytes 8 (payNum c.sheaf 16 8) ++ leBytes 2 (openLen c.sheaf) ++ leBytes 3 s.nodeId ++
              leBytes 3 0 ++ s.granaryBytes (payNum c.sheaf 0 8) (openLen c.sheaf) } }]) ∧
  (∀ c (s : State), s.frozen = false → s.sched.cells.find? (fun c => c.out.isNone && c.sheaf.kind == 4) = some c →
    c.sheaf.tally = sheafTally c.sheaf → openLenOk c.sheaf = true → isWindow (payNum c.sheaf 0 8) = false →
    s.slotOfTag c.sheaf.tag = none →
    s.openRange (payNum c.sheaf 0 8) ((c.sheaf.payload.drop 16).take (openLen c.sheaf)).length = true →
    (∀ l ∈ linesOf (payNum c.sheaf 0 8) 496, s.poisoned l = false) → completes (.getDataApply .ok 0) s fun t =>
      t.granary = (s.granaryPoke (payNum c.sheaf 0 8) ((c.sheaf.payload.drop 16).take (openLen c.sheaf))).granary ∧ t.sched.cells = s.sched.cells.erase c) ∧
  (∀ c a (s : State), s.frozen = false → s.sched.cells.find? (fun c => c.out.isNone && c.sheaf.kind == 6) = some c →
    c.sheaf.tally = sheafTally c.sheaf → openLenOk c.sheaf = true →
    a = s.rd Reg.CMD_PROG_STAGE_BASE_ADDR + payNum c.sheaf 0 8 →
    payNum c.sheaf 0 8 + openLen c.sheaf ≤ s.rd Reg.CMD_PROG_STAGE_SIZE_BYTES → inGranary a (openLen c.sheaf) = true →
    (∀ l ∈ linesOf a 496, s.poisoned l = false) → completes (.programSheafApply .ok 0) s fun t =>
      t.granary = (s.granaryPoke a ((c.sheaf.payload.drop 16).take (openLen c.sheaf))).granary ∧ t.sched.cells = s.sched.cells.erase c) ∧
  (∀ c (s : State), s.frozen = false → s.sched.cells.find? (fun c => c.out.isNone && c.sheaf.kind == 5) = some c →
    c.sheaf.tally = sheafTally c.sheaf → completes (.mgmtSheafApply .ok 0) s fun t => t.granary = s.granary ∧
      t.sched.cells = s.sched.cells.erase c)

/-- HOST_DELIVERY of a landed sheaf whose tally fits, through a window that admits it, moves the landing on; one whose
tally does not fit halts the entry and raises DELIVERY_FAIL. LANDING_RESET waits for the boundary. SCHED_SHADOW_SCAN
of an armed shadow records its first bad entry and raises ENTRY_BAD, and of a good one only notes the scan.
CREDIT_SHEAF_SEND marks a due report. WEIR_STALE discards the oldest waiting sheaf, counts and raises.
BG_SHEAF_RECEIVE counts a digest for this node, and a wrong L0 check. ABORT_NOTICE_RECEIVE of a running instance stops
it, of a later one keeps the notice; ABORT_NOTICE_EXPIRED drops it. (R330, R339, R340, R346, R348, R394, R523) -/
def Obligations.LandingsCreditsAndStaleSheaves : Prop :=
  (∀ land le l p (s : State), land < 1024 → s.hostNext land = some (le, l, p) → l.landed = [p] → s.rd (Hdr.INJ_COUNT 0x62) = 0 →
    s.rd (Hdr.INJ_COUNT 0x54) = 0 → (∀ n ∈ linesOf (le.base + 528 * (p.1 % 2 ^ le.depth)) 528, s.poisoned n = false) →
    (parseSheaf (s.granaryBytes (le.base + 528 * (p.1 % 2 ^ le.depth)) 528)).tally =
      sheafTally (parseSheaf (s.granaryBytes (le.base + 528 * (p.1 % 2 ^ le.depth)) 528)) →
    (s.hostWrite 64 (le.window + 512 * (((p.1 + 2 ^ 24 - le.first) % 2 ^ 24) % 2 ^ le.hostDepth))
      (List.replicate 512 0)).1 = true →
    completes (.hostDelivery land .ok) s fun t =>
      t.landState land le.first = { next := (l.next + 1) % 2 ^ 24, landed := [] } ∧ t.halted land = s.halted land ∧
      t.granary = s.granary) ∧
  (∀ land ecc le l p (s : State), land < 1024 → s.hostNext land = some (le, l, p) →
    (parseSheaf (s.granaryBytes (le.base + 528 * (p.1 % 2 ^ le.depth)) 528)).tally ≠
      sheafTally (parseSheaf (s.granaryBytes (le.base + 528 * (p.1 % 2 ^ le.depth)) 528)) →
    completes (.hostDelivery land ecc) s fun t => t.halted land = true ∧ errUp t Err.TALLY_DELIVERY_FAIL) ∧
  (∀ idx (s : State), exec (.landingReset idx) s =
    .next { s with sched := { s.sched with landReset := s.sched.landReset ++ [idx % 1024] } }) ∧
  (∀ (s : State), s.armed 0x52 = true → s.sched.scanned = false → scanSet s.shadow.sched = none →
    exec .schedShadowScan s = .next { s with sched := { s.sched with scanned := true } }) ∧
  (∀ b (s : State), s.armed 0x52 = true → s.sched.scanned = false → scanSet s.shadow.sched = some b →
    completes .schedShadowScan s fun t => t.sched.scanned = true ∧ t.rd Reg.SCHED_BAD_VALID = 1 ∧
      t.rd Reg.SCHED_BAD_TABLE = b.1 % 2 ^ Reg.SCHED_BAD_TABLE.width ∧
      t.rd Reg.SCHED_BAD_INDEX = b.2 % 2 ^ Reg.SCHED_BAD_INDEX.width ∧
      raises s t Err.SCHED_ENTRY_BAD [Reg.SCHED_BAD_VALID, Reg.SCHED_BAD_TABLE, Reg.SCHED_BAD_INDEX]) ∧
  (∀ f j (s : State), f < 8 → j < 32 → s.creditDue (32 * f + j) = true → completes (.creditSheafSend f j) s fun t =>
    t.credit (32 * f + j) = { s.credit (32 * f + j) with due := true } ∧ t.regs = s.regs) ∧
  (∀ c (s : State), s.sched.cells.find? (fun c => c.at' + s.rd Reg.WEIR_STALE_BELLS ≤ s.ticks) = some c →
    completes .weirStale s fun t => t.sched.cells = s.sched.cells.erase c ∧ errUp t Err.WEIR_WEIR_STALE ∧
      t.rd Ctr.WEIR_STALE_DROPS.fld = (s.rd Ctr.WEIR_STALE_DROPS.fld + 1) % 2 ^ 64) ∧
  (∀ link (sheaf : Sheaf) (s : State), sheaf.kind = 9 → link % 32 ≠ 0 → sheaf.dest = s.nodeId → payNum sheaf 0 1 = 2 →
    s.rd Reg.TELEM_COLLECT_CELLS_CELLS ≠ 0 → completes (.bgSheafReceive link sheaf) s fun t =>
      t.rd Ctr.TELEM_DIGESTS_RECEIVED.fld = (s.rd Ctr.TELEM_DIGESTS_RECEIVED.fld + 1) % 2 ^ 64) ∧
  (∀ link (sheaf : Sheaf) (s : State), sheaf.kind = 9 → link % 32 = 0 → payNum sheaf 0 1 = 1 →
    sheaf.payload ≠ l0Payload (payNum sheaf 4 4) → completes (.bgSheafReceive link sheaf) s fun t =>
      t.rd Ctr.TELEM_L0_CHECK_ERRORS.fld = (s.rd Ctr.TELEM_L0_CHECK_ERRORS.fld + 1) % 2 ^ 64) ∧
  (∀ src n (sheaf : Sheaf) (s : State), sheaf.kind = 7 → s.liveSlots.find? (fun n => usesGroup (descOp (s.task n).desc) &&
      descGroup (s.task n).desc == payNum sheaf 0 2 % 4096 && (s.task n).st != 1 &&
      (s.task n).inst == payNum sheaf 2 2) = some n → (s.task n).st = 2 →
    completes (.abortNoticeReceive src sheaf) s fun t =>
      t.task n = { s.task n with st := 3, stop := some (5, payNum sheaf 4 3 % 2 ^ 20) } ∧ t.regs = s.regs) ∧
  (∀ src (sheaf : Sheaf) (s : State), sheaf.kind = 7 → s.liveSlots = [] → s.groups.pending.length < 16 →
    1 ≤ (payNum sheaf 2 2 + 65536 - mget s.groups.inst (payNum sheaf 0 2 % 4096) 0) % 65536 →
    (payNum sheaf 2 2 + 65536 - mget s.groups.inst (payNum sheaf 0 2 % 4096) 0) % 65536 < 32768 →
    completes (.abortNoticeReceive src sheaf) s fun t => t.regs = s.regs ∧
      t.groups.pending = s.groups.pending ++ [
        { group := payNum sheaf 0 2 % 4096, inst := payNum sheaf 2 2,
          origin := payNum sheaf 4 3 % 2 ^ 20, reason := payNum sheaf 7 1, at' := s.ticks }]) ∧
  (∀ group inst p (s : State), s.groups.pending.find? (fun p => p.group == group && p.inst == inst && p.at' + 65536 ≤ s.ticks) =
    some p → completes (.abortNoticeExpired group inst) s fun t =>
      t.groups = { s.groups with pending := s.groups.pending.erase p })

/-- COMPONENT_SPARE of a modulator ring that must move, with its spare free and AUTO_SPARE set, takes the spare,
counts and raises; with the spare in use it raises SPARE_EXHAUSTED once; with AUTO_SPARE clear it only records the
need. SPARE_REARM waits for the boundary. DETOUR_START two bells after the link left ACTIVE begins the detour the
table gives, or raises LANE_DETOUR_NONE. DETOUR_WITHDRAW two bells after its return ends it. SHEAF_FORWARD and
DETOUR_INTERMEDIATE place the due sheaf of their kind in its link's forward queue. HOLD_EPISODE_CAP counts an episode
of 64 bells once. (R306, R307, R310, R311, R313, R315, R317, R335) -/
def Obligations.ShepherdSparesAndDetours : Prop :=
  (∀ f w (s : State), f < 8 → w < 32 → s.spareTrigger f w 0 = true → s.is Reg.SHEPHERD_CTRL_AUTO_SPARE = true →
    s.spareMod f w = false → completes (.componentSpare f w 0) s fun t =>
      bit (t.rd (Reg.HTR_SPARE_MOD_LANES f)) w = true ∧ t.rd Reg.SHEPHERD_LAST_KIND = 1 ∧
      errUp t Err.SHEPHERD_SPARE_MOD ∧
      t.rd Ctr.SHEPHERD_SPARES_MOD.fld = (s.rd Ctr.SHEPHERD_SPARES_MOD.fld + 1) % 2 ^ 64) ∧
  (∀ f w kind (s : State), f < 8 → w < 32 → kind < 3 → s.spareTrigger f w kind = true →
    s.is Reg.SHEPHERD_CTRL_AUTO_SPARE = true → s.spareFree f w kind = false →
    s.shepherd.exhausted.contains (96 * f + 3 * w + kind) = false → completes (.componentSpare f w kind) s fun t =>
      t.shepherd = { s.shepherd with exhausted := s.shepherd.exhausted ++ [96 * f + 3 * w + kind] } ∧
      t.rd Reg.SHEPHERD_LAST_KIND = 4 ∧ errUp t Err.SHEPHERD_SPARE_EXHAUSTED) ∧
  (∀ f w kind (s : State), f < 8 → w < 32 → kind < 3 → s.spareTrigger f w kind = true →
    s.is Reg.SHEPHERD_CTRL_AUTO_SPARE = false → completes (.componentSpare f w kind) s fun t =>
      t.rd Reg.SHEPHERD_LAST_KIND = kind + 1 ∧ t.rd Reg.SHEPHERD_LAST_FERRY = f ∧
      t.rd Reg.SHEPHERD_LAST_WAVE_LINK = w ∧ frame [.regs] s t) ∧
  (∀ (s : State), exec .spareRearm s = .next { s with shepherd := { s.shepherd with rearm := true } }) ∧
  (∀ f j left d (s : State), f < 8 → j < 32 → (s.hop (32 * f + j)).leftAt = some left → left + 2 ≤ s.ticks →
    s.isActive (32 * f + j) = false → (s.hop (32 * f + j)).decided = false →
    s.is (Reg.FERRY_REPLAY_DETOUR f j) = false → s.detourOf (32 * f + j) = some d →
    completes (.detourStart f j) s fun t => t.rd (Reg.FERRY_REPLAY_DETOUR f j) = 1 ∧
      (t.hop (32 * f + j)).detour = some d ∧ (t.hop (32 * f + j)).decided = true ∧ (t.hop (32 * f + j)).ann = 1 ∧
      errUp t (Err.LANE_DETOUR_ACTIVE f) ∧
      t.rd Ctr.SHEPHERD_DETOURS_STARTED.fld = (s.rd Ctr.SHEPHERD_DETOURS_STARTED.fld + 1) % 2 ^ 64) ∧
  (∀ f j left (s : State), f < 8 → j < 32 → (s.hop (32 * f + j)).leftAt = some left → left + 2 ≤ s.ticks →
    s.isActive (32 * f + j) = false → (s.hop (32 * f + j)).decided = false →
    s.is (Reg.FERRY_REPLAY_DETOUR f j) = false → s.detourOf (32 * f + j) = none →
    completes (.detourStart f j) s fun t => t.hop (32 * f + j) = { s.hop (32 * f + j) with decided := true } ∧
      t.rd Reg.SHEPHERD_LAST_KIND = 7 ∧ errUp t (Err.LANE_DETOUR_NONE f)) ∧
  (∀ f j back (s : State), f < 8 → j < 32 → (s.hop (32 * f + j)).backAt = some back → back + 2 ≤ s.ticks →
    s.isActive (32 * f + j) = true → s.is (Reg.FERRY_REPLAY_DETOUR f j) = true →
    completes (.detourWithdraw f j) s fun t => t.rd (Reg.FERRY_REPLAY_DETOUR f j) = 0 ∧
      (t.hop (32 * f + j)).leftAt = none ∧ (t.hop (32 * f + j)).ann = 2 ∧ t.rd Reg.SHEPHERD_LAST_KIND = 6 ∧
      t.rd Ctr.SHEPHERD_DETOURS_WITHDRAWN.fld = (s.rd Ctr.SHEPHERD_DETOURS_WITHDRAWN.fld + 1) % 2 ^ 64) ∧
  (∀ d (s : State), s.frozen = false → s.dueTransit (fun d => d.target.isNone) = some d → d.sheaf.hops < 7 → d.late = true →
    d.noted = true → completes .sheafForward s fun t =>
      t.shepherd = { s.shepherd with transit := s.shepherd.transit.erase d } ∧
      (t.hop d.out).fwd = (s.hop d.out).fwd ++ [freshHeld 64 { d.sheaf with hops := d.sheaf.hops + 1 } none] ∧
      t.rd Ctr.SCHED_FORWARDED.fld = (s.rd Ctr.SCHED_FORWARDED.fld + 1) % 2 ^ 64) ∧
  (∀ d n (s : State), s.frozen = false → s.dueTransit (fun d => d.target.isNone) = some d → d.sheaf.hops < 7 → d.late = false →
    s.forwardSlot d = some n → completes .sheafForward s fun t =>
      t.shepherd = { s.shepherd with transit := s.shepherd.transit.erase d } ∧
      mfind (t.hop d.out).placed n = some (freshHeld 64 { d.sheaf with hops := d.sheaf.hops + 1 } none)) ∧
  (∀ d g (s : State), s.frozen = false → s.dueTransit (fun d => d.target.isSome) = some d → d.sheaf.hops < 7 →
    d.target = some g → completes .detourIntermediate s fun t => t.regs = s.regs ∧
      t.shepherd = { s.shepherd with transit := s.shepherd.transit.erase d } ∧
      (t.hop d.out).fwd = (s.hop d.out).fwd ++
        [{ freshHeld 64 { d.sheaf with hops := d.sheaf.hops + 1 } none with target := some { g with next := 0 } }]) ∧
  (∀ f j (s : State), f < 8 → j < 32 → 64 ≤ (s.hop (32 * f + j)).episode → (s.hop (32 * f + j)).capped = false →
    completes (.holdEpisodeCap f j) s fun t => t.hop (32 * f + j) = { s.hop (32 * f + j) with capped := true } ∧
      t.rd Ctr.SHEPHERD_HOLD_CAPS.fld = (s.rd Ctr.SHEPHERD_HOLD_CAPS.fld + 1) % 2 ^ 64)

/-- CMD_ENABLE of quiet rings sets EN, clears the indexes and sets PHASE; CMD_DISABLE clears EN. RING_REGISTER_WRITE
of a size while QUIET stores it, and a write to a base or size at any other time raises RING_BAD. CMD_TAIL_WRITE and
EVT_HEAD_WRITE forward within the ring store the index, any other raises RING_BAD. DESCRIPTOR_READ keeps the entry's
64 bytes and counts them. RING_FAULT of a cause that is there stops the ring with its reason and entry; the first is
kept until CMD_RESUME. CMD_BREAK_RESUME ends a break. IRQ_MASK_WRITE stores the mask. (R353, R354, R355, R356, R357,
R371, R375, R376) -/
def Obligations.RingRegistersAndFaults : Prop :=
  (∀ (s : State), s.quiet = true → completes .cmdEnable s fun t => t.rd Reg.CMD_CTRL_EN = 1 ∧ t.rd Reg.CMD_HEAD_HEAD = 0 ∧
    t.rd Reg.CMD_TAIL_TAIL = 0 ∧ t.rd Reg.EVT_HEAD_HEAD = 0 ∧ t.rd Reg.EVT_TAIL_TAIL = 0 ∧ t.rd Reg.EVT_TAIL_PHASE = 1 ∧
    t.ring = { s.ring with enNext := true, fetched := [], asked := [] } ∧ frame [.regs, .ring] s t) ∧
  (∀ (s : State), s.quiet = false → completes .cmdEnable s fun t => t.rd Reg.CMD_CTRL_EN = 1 ∧ regsKept s t [Reg.CMD_CTRL_EN] ∧
    t.ring = { s.ring with enNext := true } ∧ frame [.regs, .ring] s t) ∧
  (∀ (s : State), completes .cmdDisable s fun t => t.rd Reg.CMD_CTRL_EN = 0 ∧ regsKept s t [Reg.CMD_CTRL_EN] ∧
    t.ring = { s.ring with enNext := false } ∧ frame [.regs, .ring] s t) ∧
  (∀ (val : Word) (s : State), s.quiet = true → completes (.ringRegisterWrite 0x110 val) s fun t =>
    t.rd Reg.CMD_SIZE_SIZE = val.toNat % 32 ∧ regsKept s t [Reg.CMD_SIZE_SIZE] ∧ frame [.regs] s t) ∧
  (∀ off (val : Word) (s : State), s.quiet = false → off ∈ [0x108, 0x10C, 0x110, 0x120, 0x124, 0x128] →
    completes (.ringRegisterWrite off val) s fun t => raises s t Err.CMD_RING_BAD [] ∧ t.ring = s.ring) ∧
  (∀ (val : Word) (s : State), val.toNat % 65536 < s.cmdSize →
    ringDist s.cmdSize (s.rd Reg.CMD_HEAD_HEAD) (s.rd Reg.CMD_TAIL_TAIL) ≤
      ringDist s.cmdSize (s.rd Reg.CMD_HEAD_HEAD) (val.toNat % 65536) →
    completes (.cmdTailWrite val) s fun t => t.rd Reg.CMD_TAIL_TAIL = val.toNat % 65536) ∧
  (∀ (val : Word) (s : State), s.cmdSize ≤ val.toNat % 65536 ∨
      ringDist s.cmdSize (s.rd Reg.CMD_HEAD_HEAD) (val.toNat % 65536) <
        ringDist s.cmdSize (s.rd Reg.CMD_HEAD_HEAD) (s.rd Reg.CMD_TAIL_TAIL) →
    completes (.cmdTailWrite val) s fun t => raises s t Err.CMD_RING_BAD []) ∧
  (∀ (val : Word) (s : State), val.toNat % 65536 < s.evtSize →
    ringDist s.evtSize (s.rd Reg.EVT_HEAD_HEAD) (val.toNat % 65536) ≤
      ringDist s.evtSize (s.rd Reg.EVT_HEAD_HEAD) (s.rd Reg.EVT_TAIL_TAIL) →
    completes (.evtHeadWrite val) s fun t => t.rd Reg.EVT_HEAD_HEAD = val.toNat % 65536 ∧
      regsKept s t [Reg.EVT_HEAD_HEAD] ∧ frame [.regs] s t) ∧
  (∀ entry desc tag (s : State), mfind s.ring.asked entry = some tag →
    s.uahus.reads.any (fun r => r.tag == tag && r.slot == 66) = true → completes (.descriptorRead entry desc) s fun t =>
      mfind t.ring.fetched entry = some (padTo 64 desc) ∧
      t.rd Ctr.CMD_DESCRIPTORS_READ.fld = (s.rd Ctr.CMD_DESCRIPTORS_READ.fld + 1) % 2 ^ 64) ∧
  (∀ reason entry (s : State), s.faultCause reason entry = true → s.is Reg.CMD_STATUS_FAULT = false →
    completes (.ringFault reason entry) s fun t => t.rd Reg.CMD_STATUS_FAULT = 1 ∧ t.rd Reg.CMD_FAULT_REASON = reason ∧
      t.rd Reg.CMD_FAULT_ENTRY = entry % 65536 ∧ errUp t Err.CMD_RING_FAULT) ∧
  (∀ reason entry (s : State), s.faultCause reason entry = true → s.is Reg.CMD_STATUS_FAULT = true →
    completes (.ringFault reason entry) s fun t => t.regs = s.regs) ∧
  (∀ (s : State), s.is Reg.CMD_STATUS_FAULT = true → s.ring.retry = [] → s.rd Reg.CMD_TAIL_TAIL = s.rd Reg.CMD_HEAD_HEAD →
    completes .cmdResume s fun t => t.rd Reg.CMD_STATUS_FAULT = 0 ∧ regsKept s t [Reg.CMD_STATUS_FAULT]) ∧
  (∀ (s : State), s.is Reg.CMD_STATUS_BROKEN = true → completes .cmdBreakResume s fun t => t.rd Reg.CMD_STATUS_BROKEN = 0 ∧
    t.ring = { s.ring with noBreak := true } ∧ regsKept s t [Reg.CMD_STATUS_BROKEN] ∧ frame [.regs, .ring] s t) ∧
  (∀ (val : Word) (s : State), completes (.irqMaskWrite val) s fun t => t.rd Reg.CMD_IRQ_MASK_MASK = val.toNat ∧
    regsKept s t [Reg.CMD_IRQ_MASK_MASK] ∧ frame [.regs] s t)

/-- With admission's conditions met and no break, cancel or bad descriptor, OP_NOP moves HEAD on and counts an
admission, and OP_CANCEL_ALL does so and asks every running task to stop with ABORTED. CMD_CANCEL_WRITE keeps the
cancel and counts it, or with 16 kept raises CANCEL_OVERFLOW. CANCEL_EXPIRED removes its cancel and counts. TASK_START
of a task that may start counts it and runs a GET; a group task takes the next instance number of its group.
TASK_TIMEOUT ends the task with TIMEOUT. FENCE_MARK_SEND sends the mark of a flow of which nothing is held here.
(R318, R322, R364, R366, R367, R369, R370, R454) -/
def Obligations.AdmissionAndCancels : Prop :=
  (∀ d (s : State), s.headDesc = some d → descOp d = 1 → s.admits = true → s.ring.taken < 8 → s.breaks d = false →
    s.ring.sampled.contains (descTag d) = false → s.descBad d = none → (descFlag d 0 = true → s.evtFull = false) →
    completes .opNop s fun t => t.rd Reg.CMD_HEAD_HEAD = (s.rd Reg.CMD_HEAD_HEAD + 1) % s.cmdSize % 65536 ∧
      t.rd Ctr.CMD_ADMITTED.fld = (s.rd Ctr.CMD_ADMITTED.fld + 1) % 2 ^ 64 ∧ t.tasks = s.tasks) ∧
  (∀ d (s : State), s.headDesc = some d → descOp d = 10 → s.admits = true → s.ring.taken < 8 → s.breaks d = false →
    s.ring.sampled.contains (descTag d) = false → s.descBad d = none → (descFlag d 0 = true → s.evtFull = false) →
    completes .opCancelAll s fun t => t.rd Reg.CMD_HEAD_HEAD = (s.rd Reg.CMD_HEAD_HEAD + 1) % s.cmdSize % 65536 ∧
      t.rd Ctr.CMD_ADMITTED.fld = (s.rd Ctr.CMD_ADMITTED.fld + 1) % 2 ^ 64 ∧
      ∀ n < 64, (s.task n).st = 2 → (t.task n).st = 3 ∧ (t.task n).stop = some (4, 0)) ∧
  (∀ (tag : Word) (s : State), s.ring.cancels.length < 16 → completes (.cmdCancelWrite tag) s fun t =>
    t.ring = { s.ring with cancels := s.ring.cancels ++ [{ tag := tag.toNat, age := 0 }] } ∧
    t.rd Ctr.CMD_CANCELS_ACCEPTED.fld = (s.rd Ctr.CMD_CANCELS_ACCEPTED.fld + 1) % 2 ^ 64) ∧
  (∀ (tag : Word) (s : State), 16 ≤ s.ring.cancels.length → completes (.cmdCancelWrite tag) s fun t =>
    t.ring.cancels = s.ring.cancels ∧ raises s t Err.CMD_CANCEL_OVERFLOW []) ∧
  (∀ (tag : Word) c (s : State), s.ring.cancels.find? (fun c => c.tag == tag.toNat && s.cancelTtl ≤ c.age) = some c →
    completes (.cancelExpired tag) s fun t => t.ring.cancels = s.ring.cancels.erase c ∧
      t.rd Ctr.CMD_CANCELS_EXPIRED.fld = (s.rd Ctr.CMD_CANCELS_EXPIRED.fld + 1) % 2 ^ 64) ∧
  (∀ slot (s : State), slot < 64 → s.mayStart slot = true → completes (.taskStart slot) s fun t =>
    t.rd Ctr.TASK_TASKS_STARTED.fld = (s.rd Ctr.TASK_TASKS_STARTED.fld + 1) % 2 ^ 64 ∧
    (t.task slot).start = s.bellNum ∧ (descOp (s.task slot).desc = 4 → (t.task slot).st = 2 ∧
      (t.task slot).sentAt = s.ticks) ∧
    (usesGroup (descOp (s.task slot).desc) = true → (t.task slot).inst =
      (mget s.groups.inst (descGroup (s.task slot).desc) 0 + 1) % 65536)) ∧
  (∀ slot (s : State), slot < 64 → s.timedOut slot = true → completes (.taskTimeout slot) s fun t =>
    (t.task slot).st = 4 ∧ (t.task slot).status = 6 ∧ (t.task slot).detail = (s.task slot).counted ∧
    errUp t Err.TASK_TASK_TIMEOUT ∧
    t.rd Ctr.TASK_TASKS_TIMED_OUT.fld = (s.rd Ctr.TASK_TASKS_TIMED_OUT.fld + 1) % 2 ^ 64) ∧
  (∀ slot flow q k (s : State), slot < 64 → (s.task slot).fences.find? (fun q => q.flow == flow && !q.sent) = some q →
    (s.task slot).st = 2 → descOp (s.task slot).desc = 8 → s.holdsFlow flow q.seq = false → s.flowLink flow = some k →
    completes (.fenceMarkSend slot flow) s fun t => (∀ x ∈ (t.task slot).fences, x.flow = flow → x.sent = true) ∧
      t.rd Ctr.SHEPHERD_FENCE_MARKS.fld = (s.rd Ctr.SHEPHERD_FENCE_MARKS.fld + 1) % 2 ^ 64)

/-- A running PUT or SEND with every piece made and acknowledged, a GET with every reply written, and a FENCE with
every receipt end with OK, or with OK_RECOVERED where a sheaf was replayed. A PUT with one piece left, its source in
the Granary without a host tally, sends it as one PUT sheaf with the bytes of the source, and a GET with one left
sends its GET_REQ. A SWAP that armed the swap ends with OK once it is done, and with ABORTED once it is disarmed.
(R321, R360, R361, R362, R363) -/
def Obligations.TransfersSendAndEnd : Prop :=
  (∀ slot eccs (s : State), s.runs slot 3 = true → (s.task slot).dropped = none →
    (s.task slot).made = xferPieces (s.task slot).desc → xferPieces (s.task slot).desc ≤ (s.task slot).acked →
    completes (.opPut slot eccs) s fun t =>
      (t.task slot).st = 4 ∧ (t.task slot).status = b2n (s.task slot).recovered) ∧
  (∀ slot eccs (s : State), s.runs slot 5 = true → isSend (s.task slot).desc = true → (s.task slot).dropped = none →
    (s.task slot).made = xferPieces (s.task slot).desc → xferPieces (s.task slot).desc ≤ (s.task slot).acked →
    completes (.opProgramSend slot eccs) s fun t =>
      (t.task slot).st = 4 ∧ (t.task slot).status = b2n (s.task slot).recovered) ∧
  (∀ slot (s : State), s.runs slot 4 = true → (s.task slot).dropped = none → (s.task slot).made = xferPieces (s.task slot).desc →
    (s.task slot).replies.length = xferPieces (s.task slot).desc → completes (.opGet slot) s fun t =>
      (t.task slot).st = 4 ∧ (t.task slot).status = b2n (s.task slot).recovered) ∧
  (∀ slot p d k (s : State), s.runs slot 3 = true → d = (s.task slot).desc → p = (s.task slot).made → s.maySend slot = true →
    p + 1 = xferPieces d → (s.task slot).acked ≤ p → descFlag d 3 = false → localWindow (descNum d 32 8) = false →
    localWindow (descNum d 32 8 + 496 * p) = false → s.rd (Hdr.INJ_COUNT 0x62) = 0 →
    (∀ l ∈ linesOf (descNum d 32 8 + 496 * p) (pieceLen d p), s.poisoned l = false) → xferDest d ≠ s.nodeId →
    s.routeOpen (xferDest d) = some k → completes (.opPut slot []) s fun t =>
      (t.task slot).made = p + 1 ∧ t.sched.openSeq = (s.sched.openSeq + 1) % 2 ^ 24 ∧
      t.sched.opens = s.sched.opens ++ [
        { own := slot, out := k, at' := s.ticks,
          sheaf := tallied { Sheaf.empty with
            kind := 2, tag := s.taskTag slot, dest := xferDest d, flow := 0, seq := s.sched.openSeq,
            payload := openPayload ((xferTarget d + 496 * p) % 2 ^ 64) (pieceLen d p) s.nodeId
              (s.granaryBytes (descNum d 32 8 + 496 * p) (pieceLen d p)) } }]) ∧
  (∀ slot p d k (s : State), s.runs slot 4 = true → d = (s.task slot).desc → p = (s.task slot).made → s.maySend slot = true →
    p + 1 = xferPieces d → (s.task slot).replies.length ≤ p → xferDest d ≠ s.nodeId →
    s.routeOpen (xferDest d) = some k → completes (.opGet slot) s fun t =>
      (t.task slot).made = p + 1 ∧ t.sched.opens = s.sched.opens ++ [
        { own := slot, out := k, at' := s.ticks,
          sheaf := tallied { Sheaf.empty with
            kind := 3, tag := s.taskTag slot, dest := xferDest d, flow := 0, seq := s.sched.openSeq,
            payload := openPayload ((descNum d 32 8 + 496 * p) % 2 ^ 64) (pieceLen d p) s.nodeId
              (leBytes 8 ((descNum d 40 8 + 496 * p) % 2 ^ 64)) } }]) ∧
  (∀ slot (s : State), s.runs slot 8 = true → (s.task slot).fences.all (fun q => q.got) = true → completes (.opFence slot) s fun t =>
    (t.task slot).st = 4 ∧ (t.task slot).status = b2n (s.task slot).recovered) ∧
  (∀ slot (s : State), s.runs slot 9 = true → (s.task slot).armed = true → s.rd (Hdr.SWAP_STATE 0x52) = 2 →
    completes (.opSwap slot) s fun t => (t.task slot).st = 4 ∧ (t.task slot).status = b2n (s.task slot).recovered) ∧
  (∀ slot (s : State), s.runs slot 9 = true → (s.task slot).armed = true → s.rd (Hdr.SWAP_STATE 0x52) = 0 →
    completes (.opSwap slot) s fun t => (t.task slot).st = 4 ∧ (t.task slot).status = 4 ∧ errUp t Err.TASK_TASK_ABORTED)

/-- ADD, SUB, MUL, AND, OR, XOR, SHL, SHR, SRA, LI, SLT, SLTU and SEQ, at the program counter of a running step with
their word good: xd holds the value of R426 modulo 2^64 (a write to x0 is discarded and x0 reads 0), control goes to
the next word or to the start of the Miller loop whose body ends there, and the other programs, the cores and rows,
the Granary, the Miller's memories, the tasks and the schedule's state are as before. (R421, R426, R428) -/
def Obligations.ScalarArithmetic : Prop :=
  (∀ o xd xa xb p (s : State), s.issues o p → completes (.add o xd xa xb) s fun t =>
    ran s t o ((p.setX xd (p.xr xa + p.xr xb)).goto (o.word + 1))) ∧
  (∀ o xd xa xb p (s : State), s.issues o p → completes (.sub o xd xa xb) s fun t =>
    ran s t o ((p.setX xd (BitVec.ofNat 64 (p.xr xa) - BitVec.ofNat 64 (p.xr xb)).toNat).goto (o.word + 1))) ∧
  (∀ o xd xa xb p (s : State), s.issues o p → completes (.mul o xd xa xb) s fun t =>
    ran s t o ((p.setX xd (p.xr xa * p.xr xb)).goto (o.word + 1))) ∧
  (∀ o xd xa xb p (s : State), s.issues o p → completes (.and o xd xa xb) s fun t =>
    ran s t o ((p.setX xd (BitVec.ofNat 64 (p.xr xa) &&& BitVec.ofNat 64 (p.xr xb)).toNat).goto (o.word + 1))) ∧
  (∀ o xd xa xb p (s : State), s.issues o p → completes (.or o xd xa xb) s fun t =>
    ran s t o ((p.setX xd (BitVec.ofNat 64 (p.xr xa) ||| BitVec.ofNat 64 (p.xr xb)).toNat).goto (o.word + 1))) ∧
  (∀ o xd xa xb p (s : State), s.issues o p → completes (.xor o xd xa xb) s fun t =>
    ran s t o ((p.setX xd (BitVec.ofNat 64 (p.xr xa) ^^^ BitVec.ofNat 64 (p.xr xb)).toNat).goto (o.word + 1))) ∧
  (∀ o xd xa xb p (s : State), s.issues o p → completes (.shl o xd xa xb) s fun t =>
    ran s t o ((p.setX xd (p.xr xa * 2 ^ (p.xr xb % 64))).goto (o.word + 1))) ∧
  (∀ o xd xa xb p (s : State), s.issues o p → completes (.shr o xd xa xb) s fun t =>
    ran s t o ((p.setX xd (p.xr xa / 2 ^ (p.xr xb % 64))).goto (o.word + 1))) ∧
  (∀ o xd xa xb p (s : State), s.issues o p → completes (.sra o xd xa xb) s fun t =>
    ran s t o ((p.setX xd ((BitVec.ofNat 64 (p.xr xa)).sshiftRight (p.xr xb % 64)).toNat).goto (o.word + 1))) ∧
  (∀ o xd imm p (s : State), s.issues o p → completes (.li o xd imm) s fun t => ran s t o ((p.setX xd imm).goto (o.word + 1))) ∧
  (∀ o xd xa xb p (s : State), s.issues o p → completes (.slt o xd xa xb) s fun t => ran s t o
    ((p.setX xd (if (BitVec.ofNat 64 (p.xr xa)).toInt < (BitVec.ofNat 64 (p.xr xb)).toInt then 1 else 0)).goto (o.word + 1))) ∧
  (∀ o xd xa xb p (s : State), s.issues o p → completes (.sltu o xd xa xb) s fun t =>
    ran s t o ((p.setX xd (if p.xr xa < p.xr xb then 1 else 0)).goto (o.word + 1))) ∧
  (∀ o xd xa xb p (s : State), s.issues o p → completes (.seq o xd xa xb) s fun t =>
    ran s t o ((p.setX xd (if p.xr xa = p.xr xb then 1 else 0)).goto (o.word + 1)))

/-- A branch goes to its label where its comparison holds, else to the next word; JMP always goes. LOOP.M opens a loop
of the words up to its label, skips the body for a count of 0, and at a fifth level is illegal. CALL.PB enters its
routine and keeps the return, is illegal for a routine that cannot be called, and RET returns to the innermost. STEP
and END end the step with what they name, STEP counts PROGRESS; WAIT.L goes on where its sheaf has been delivered and
else ends the step at itself. FENCE.G with no access waiting and GO.WAIT go on. (R422, R423, R426, R428, R429, R431,
R436, R437, R441, R443) -/
def Obligations.MillerControlFlow : Prop :=
  (∀ o xa xb label p (s : State), s.issues o p → completes (.beq o xa xb label) s fun t =>
    ran s t o (p.goto (if p.xr xa = p.xr xb then label else o.word + 1))) ∧
  (∀ o xa xb label p (s : State), s.issues o p → completes (.bne o xa xb label) s fun t =>
    ran s t o (p.goto (if p.xr xa ≠ p.xr xb then label else o.word + 1))) ∧
  (∀ o xa xb label p (s : State), s.issues o p → completes (.blt o xa xb label) s fun t => ran s t o
    (p.goto (if (BitVec.ofNat 64 (p.xr xa)).toInt < (BitVec.ofNat 64 (p.xr xb)).toInt then label else o.word + 1))) ∧
  (∀ o xa xb label p (s : State), s.issues o p → completes (.bge o xa xb label) s fun t => ran s t o
    (p.goto (if (BitVec.ofNat 64 (p.xr xb)).toInt ≤ (BitVec.ofNat 64 (p.xr xa)).toInt then label else o.word + 1))) ∧
  (∀ o xa xb label p (s : State), s.issues o p → completes (.bltu o xa xb label) s fun t =>
    ran s t o (p.goto (if p.xr xa < p.xr xb then label else o.word + 1))) ∧
  (∀ o label p (s : State), s.issues o p → completes (.jmp o label) s fun t => ran s t o (p.goto label)) ∧
  (∀ o xc stop p (s : State), s.issues o p → p.loops.length < 4 → p.xr xc % 2 ^ 32 ≠ 0 → completes (.loopM o xc stop) s fun t =>
    ran s t o ({ p with loops := { left := p.xr xc % 2 ^ 32, start := o.word + 1, stop := stop, pb := o.pb } :: p.loops
      }.goto (o.word + 1))) ∧
  (∀ o xc stop p (s : State), s.issues o p → p.loops.length < 4 → p.xr xc % 2 ^ 32 = 0 → completes (.loopM o xc stop) s fun t =>
    ran s t o (p.goto stop)) ∧
  (∀ o xc stop p (s : State), s.issues o p → 4 ≤ p.loops.length → completes (.loopM o xc stop) s fun t =>
    wasIllegal s t o ∧ t.prog o.slot = some (p.goto (o.word + 1))) ∧
  (∀ o routine e p (s : State), s.issues o p → p.rets.length < 8 → completes (.callPb o routine (some e)) s fun t =>
    ran s t o { p with pc := e, pb := true, inWord := false, rets := (o.pb, o.word + 1) :: p.rets }) ∧
  (∀ o routine p (s : State), s.issues o p → completes (.callPb o routine none) s fun t =>
    wasIllegal s t o ∧ t.prog o.slot = some (p.goto (o.word + 1))) ∧
  (∀ o b w rest p (s : State), s.issues o p → p.rets = (b, w) :: rest → completes (.ret o) s fun t =>
    ran s t o ({ p with pb := b, rets := rest }.goto w)) ∧
  (∀ o rows mode hold p (s : State), s.issues o p → completes (.step o rows mode hold) s fun t =>
    t.prog o.slot = some ({ p with nextRows := rows % 256, nextMode := mode, hold := hold, ended := some .step }.goto
      (o.word + 1)) ∧ (t.task o.slot).progress = (s.task o.slot).progress + 1 ∧ t.mill.cores = s.mill.cores) ∧
  (∀ o xland xseq p (s : State), s.issues o p → s.isDelivered o.slot (p.xr xland % 1024) (p.xr xseq % 2 ^ 24) = true →
    completes (.waitL o xland xseq) s fun t => ran s t o (p.goto (o.word + 1))) ∧
  (∀ o xland xseq p (s : State), s.issues o p → s.isDelivered o.slot (p.xr xland % 1024) (p.xr xseq % 2 ^ 24) = false →
    completes (.waitL o xland xseq) s fun t => ran s t o { p with inWord := true, ended := some .waitL }) ∧
  (∀ o xs p (s : State), s.issues o p → completes (.endOp o xs) s fun t =>
    ran s t o ({ p with ended := some (.endOp (p.xr xs)) }.goto (o.word + 1))) ∧
  (∀ o p (s : State), s.issues o p → (∀ r ∈ rowsOf p.rows, (s.stream r 0).queue = [] ∧ (s.stream r 0).run = []) →
    completes (.fenceG o) s fun t => ran s t o (p.goto (o.word + 1))) ∧
  (∀ o p (s : State), s.issues o p → completes (.goWait o) s fun t => ran s t o (p.goto (o.word + 1)))

/-- LD.D reads and ST.D writes the 8 bytes at their address within the task's data area, and an address outside it or
not aligned is illegal. ST.I puts its patch word into the image and notes the word until SYNC.I. RD.BELL reads the
bell of the step's window and RD.ARR the applied open sheaves of the task. MV.XV reads a 32-bit lane of a core of the
step, and S.CNT the NaNs that every core of its rows has dropped. CFG.L writes the configuration word of every row of
its mask. (R424, R426, R437, R438, R439, R440, R443, R489) -/
def Obligations.MillerMemoryAndMoves : Prop :=
  (∀ o xd xa imm addr p (s : State), s.issues o p → p.dataAt xa imm = some addr → completes (.ldD o xd xa imm .ok) s fun t =>
    ran s t o ((p.setX xd (ofLe (readBytes s.miller.dmem 0 addr 8))).goto (o.word + 1))) ∧
  (∀ o xd xa imm ecc p (s : State), s.issues o p → p.dataAt xa imm = none → completes (.ldD o xd xa imm ecc) s fun t =>
    wasIllegal s t o ∧ t.prog o.slot = some (p.goto (o.word + 1))) ∧
  (∀ o xa imm xs addr p (s : State), s.issues o p → p.dataAt xa imm = some addr → completes (.stD o xa imm xs) s fun t =>
    t.prog o.slot = some (p.goto (o.word + 1)) ∧ t.granary = s.granary ∧ t.mill.cores = s.mill.cores ∧
    t.miller.imem = s.miller.imem ∧ readBytes t.miller.dmem 0 addr 8 = leBytes 8 (p.xr xs) ∧
    ∀ b, b < addr ∨ addr + 8 ≤ b → mget t.miller.dmem b 0 = mget s.miller.dmem b 0) ∧
  (∀ o xa imm xs p (s : State), s.issues o p → p.dataAt xa imm = none → completes (.stD o xa imm xs) s fun t =>
    wasIllegal s t o ∧ t.prog o.slot = some (p.goto (o.word + 1))) ∧
  (∀ o wi pi p (s : State), s.issues o p → wi < p.words → pi < p.patches.length → completes (.stI o wi pi) s fun t =>
    t.prog o.slot = some ({ p with stale := (wi :: p.stale).eraseDups }.goto (o.word + 1)) ∧
    t.miller.dmem = s.miller.dmem ∧ mget t.miller.imem (2 ^ 20 * o.slot + wi) 0 = p.patches.getD pi 0) ∧
  (∀ o p (s : State), s.issues o p → completes (.syncI o) s fun t => ran s t o ({ p with stale := [] }.goto (o.word + 1))) ∧
  (∀ o xd p (s : State), s.issues o p → completes (.rdBell o xd) s fun t => ran s t o ((p.setX xd p.window).goto (o.word + 1))) ∧
  (∀ o xd p (s : State), s.issues o p → completes (.rdArr o xd) s fun t =>
    ran s t o ((p.setX xd (s.task o.slot).arr).goto (o.word + 1))) ∧
  (∀ o xd vs lane core p (s : State), s.issues o p → o.rows % 256 &&& p.rows = o.rows % 256 →
    (∀ r ∈ rowsOf p.rows, s.stream r 1 = StreamQ.blank) → core < 128 → bit p.rows (core / 16) = true →
    completes (.mvXv o xd vs lane core) s fun t =>
      ran s t o ((p.setX xd (lane' 32 ((s.core core).vec core vs) (lane % 64))).goto (o.word + 1))) ∧
  (∀ o xd v p (s : State), s.issues o p → o.rows % 256 &&& p.rows = o.rows % 256 → rowsOf o.rows ≠ [] →
    (∀ r ∈ rowsOf p.rows, s.stream r (streamOf p.mode 3) = StreamQ.blank) →
    (∀ r ∈ rowsOf o.rows, ∀ c ∈ coresOf r, (s.core c).sieve.map (·.nans) = some v) →
    completes (.sCnt o xd) s fun t => ran s t o ((p.setX xd v).goto (o.word + 1))) ∧
  (∀ o n xs p (s : State), s.issues o p → o.rows % 256 &&& p.rows = o.rows % 256 → n < 16 → completes (.cfgL o n xs) s fun t =>
    t.prog o.slot = some (p.goto (o.word + 1)) ∧ t.mill.cores = s.mill.cores ∧
    (∀ r ∈ rowsOf o.rows, t.cfgWord r n = p.xr xs ∧ ∀ m < 16, m ≠ n → t.cfgWord r m = s.cfgWord r m))

/-- Issued where it can run at once (its streams empty, its cores ready), each vector operation completes, and in
every core of its rows its destination, a register, a push onto the store queue or a predicate, holds the operation's
result lane by lane where the predicate is 1 and its old value elsewhere, its queue sources are popped, and no other
register of the core, no other core and no byte of the Granary changes. It is counted and its word goes on where it
was the last. (R389, R402, R403, R425, R433) -/
def Obligations.VectorOperations : Prop :=
  (∀ o fmt d a b p, runsInCores (.vAdd o fmt d a b p) o (fun _ => .vbin .add fmt d a b p) fun _ _ k c fr =>
    (k.two c a b).2.2.result c fr d p (vecBin .add fmt fr (k.two c a b).1 (k.two c a b).2.1)) ∧
  (∀ o fmt d a b p, runsInCores (.vSub o fmt d a b p) o (fun _ => .vbin .sub fmt d a b p) fun _ _ k c fr =>
    (k.two c a b).2.2.result c fr d p (vecBin .sub fmt fr (k.two c a b).1 (k.two c a b).2.1)) ∧
  (∀ o fmt d a b p, runsInCores (.vMul o fmt d a b p) o (fun _ => .vbin .mul fmt d a b p) fun _ _ k c fr =>
    (k.two c a b).2.2.result c fr d p (vecBin .mul fmt fr (k.two c a b).1 (k.two c a b).2.1)) ∧
  (∀ o fmt d x y z p, runsInCores (.vFma o fmt d x y z p) o (fun _ => .vfma fmt d x y z p) fun _ _ k c fr =>
    (k.three c x y z).2.2.2.result c fr d p
      (vecFma fmt (k.three c x y z).1 (k.three c x y z).2.1 (k.three c x y z).2.2.1)) ∧
  (∀ o fmt d a b p, runsInCores (.vMax o fmt d a b p) o (fun _ => .vbin .max fmt d a b p) fun _ _ k c fr =>
    (k.two c a b).2.2.result c fr d p (vecBin .max fmt fr (k.two c a b).1 (k.two c a b).2.1)) ∧
  (∀ o fmt d a b p, runsInCores (.vMin o fmt d a b p) o (fun _ => .vbin .min fmt d a b p) fun _ _ k c fr =>
    (k.two c a b).2.2.result c fr d p (vecBin .min fmt fr (k.two c a b).1 (k.two c a b).2.1)) ∧
  (∀ o fmt d a p, runsInCores (.vAbs o fmt d a p) o (fun _ => .vun .abs fmt d a p) fun _ _ k c fr =>
    (k.take c a).2.result c fr d p (vecUn .abs fmt (k.take c a).1)) ∧
  (∀ o fmt d a p, runsInCores (.vNeg o fmt d a p) o (fun _ => .vun .neg fmt d a p) fun _ _ k c fr =>
    (k.take c a).2.result c fr d p (vecUn .neg fmt (k.take c a).1)) ∧
  (∀ o fmt d a b p, runsInCores (.vAnd o fmt d a b p) o (fun _ => .vbin .and fmt d a b p) fun _ _ k c fr =>
    (k.two c a b).2.2.result c fr d p (vecBin .and fmt fr (k.two c a b).1 (k.two c a b).2.1)) ∧
  (∀ o fmt d a b p, runsInCores (.vOr o fmt d a b p) o (fun _ => .vbin .or fmt d a b p) fun _ _ k c fr =>
    (k.two c a b).2.2.result c fr d p (vecBin .or fmt fr (k.two c a b).1 (k.two c a b).2.1)) ∧
  (∀ o fmt d a b p, runsInCores (.vXor o fmt d a b p) o (fun _ => .vbin .xor fmt d a b p) fun _ _ k c fr =>
    (k.two c a b).2.2.result c fr d p (vecBin .xor fmt fr (k.two c a b).1 (k.two c a b).2.1)) ∧
  (∀ o fmt d a p, runsInCores (.vNot o fmt d a p) o (fun _ => .vun .not fmt d a p) fun _ _ k c fr =>
    (k.take c a).2.result c fr d p (vecUn .not fmt (k.take c a).1)) ∧
  (∀ o fmt d a b p, runsInCores (.vShl o fmt d a b p) o (fun _ => .vbin .shl fmt d a b p) fun _ _ k c fr =>
    (k.two c a b).2.2.result c fr d p (vecBin .shl fmt fr (k.two c a b).1 (k.two c a b).2.1)) ∧
  (∀ o fmt d a b p, runsInCores (.vShr o fmt d a b p) o (fun _ => .vbin .shr fmt d a b p) fun _ _ k c fr =>
    (k.two c a b).2.2.result c fr d p (vecBin .shr fmt fr (k.two c a b).1 (k.two c a b).2.1)) ∧
  (∀ o fmt d a b p, runsInCores (.vSra o fmt d a b p) o (fun _ => .vbin .sra fmt d a b p) fun _ _ k c fr =>
    (k.two c a b).2.2.result c fr d p (vecBin .sra fmt fr (k.two c a b).1 (k.two c a b).2.1)) ∧
  (∀ o cc fmt pd a b p, runsInCores (.vCmp o cc fmt pd a b p) o (fun _ => .vcmp cc fmt pd a b p) fun _ _ k c fr =>
    (k.two c a b).2.2.setPred pd (packLanes 1 ((List.range 64).map fun j =>
      if bit ((k.mask c p).getD (2 ^ 64 - 1)) j then lane' 1 (vecCmp cc fmt fr (k.two c a b).1 (k.two c a b).2.1) j
      else lane' 1 (k.pred c pd) j))) ∧
  (∀ o d p a b, runsInCores (.vSel o d p a b) o (fun _ => .vsel d p a b) fun _ _ k c _ =>
    (k.two c a b).2.2.give d (masked (some (k.pred c p)) (k.two c a b).2.1 (k.two c a b).1)) ∧
  (∀ o d a p, runsInCores (.vMov o d a p) o (fun _ => .vmov d a p) fun _ _ k c fr =>
    (k.take c a).2.result c fr d p (k.take c a).1) ∧
  (∀ o fmt d xs p, runsInCores (.vBcast o fmt d xs p) o (fun q => .vbcast fmt d (q.xr xs) p) fun _ q k c fr =>
    k.result c fr d p (vecBcast fmt (q.xr xs))) ∧
  (∀ o fmt d p, runsInCores (.vIota o fmt d p) o (fun _ => .viota fmt d p) fun _ _ k c fr =>
    k.result c fr d p (vecIota fmt)) ∧
  (∀ o fmt d a i p, runsInCores (.vPerm o fmt d a i p) o (fun _ => .vperm fmt d a i p) fun _ _ k c fr =>
    (k.two c a i).2.2.result c fr d p (vecPerm fmt (k.two c a i).1 (k.two c a i).2.1)) ∧
  (∀ o op fmt d a p, runsInCores (.vRed o op fmt d a p) o (fun _ => .vred op fmt d a p) fun _ _ k c fr =>
    (k.take c a).2.result c fr d p (vecRed op fmt ((k.take c a).2.old c fr d) (k.take c a).1)) ∧
  (∀ o src dst d a p, runsInCores (.vCvt o src dst d a p) o (fun _ => .vcvt src dst d a p) fun _ _ k c fr =>
    (k.take c a).2.result c fr d p (vecCvt src dst fr (k.take c a).1 fun _ => none)) ∧
  (∀ o src dst d a xseed xidx p, runsInCores (.vCvtSr o src dst d a xseed xidx p) o
    (fun q => .vcvtSr src dst d a (q.xr xseed) (q.xr xidx) p) fun _ q k c fr => (k.take c a).2.result c fr d p
      (vecCvt src dst fr (k.take c a).1 fun i => some (srRandom ((q.xr xidx + i) % 2 ^ 64) (q.xr xseed)))) ∧
  (∀ o d a table p, runsInCores (.vPwl o d a table p) o (fun _ => .vpwl d a table p) fun s _ k c fr =>
    (k.take c a).2.result c fr d p (vecPwl (s.curveTable (s.task o.slot).bank table) (k.take c a).1))

/-- Issued where it can run at once: M.ZERO clears every element of its accumulator; M.OPA adds the outer product;
M.RD reads, M.WR writes and M.ADD adds four rows of it. S.INIT begins a list, S.INS inserts the pairs its predicate
takes and S.MRG the first pairs of a sorted pair of vectors; S.BITSORT and S.BITMERGE leave their vectors in ranking
order; S.EXCL marks the pairs that rank above a bound; S.GET reads the list's first 16 pairs. Nothing else in the
cores, and no other core, changes. (R401, R434, R473, R475, R489) -/
def Obligations.MatrixAndSieveOperations : Prop :=
  (∀ o cn, runsInCores (.mZero o cn) o (fun _ => .mZero cn) fun _ _ k _ _ =>
    (List.range 256).foldl (fun (acc : Core) i => acc.setAcc (256 * (cn % 4) + i) 0) k) ∧
  (∀ o cn a b e, runsInCores (.mOpa o cn a b e) o (fun _ => .mOpa cn a b e) fun _ _ k c _ =>
    (k.two c a b).2.2.outer c (cn % 4) (k.two c a b).1 (k.two c a b).2.1 e) ∧
  (∀ o d cn r, runsInCores (.mRd o d cn r) o (fun _ => .mRd d cn r) fun _ _ k c _ =>
    k.give d (packLanes 32 ((accRows (cn % 4) r).map (k.accAt c)))) ∧
  (∀ o cn v r, runsInCores (.mWr o cn v r) o (fun _ => .mWr cn v r) fun _ _ k c _ =>
    (accRows (cn % 4) r).zipIdx.foldl (fun (acc : Core) i => acc.setAcc i.1 (lane' 32 (k.take c v).1 i.2)) (k.take c v).2) ∧
  (∀ o cn v r, runsInCores (.mAdd o cn v r) o (fun _ => .mAdd cn v r) fun _ _ k c _ =>
    (accRows (cn % 4) r).zipIdx.foldl (fun (acc : Core) i =>
      acc.setAcc i.1 (FFmt.f32.add (acc.accAt c i.1) (lane' 32 (k.take c v).1 i.2))) (k.take c v).2) ∧
  (∀ o xk xflags, runsInCores (.sInit o xk xflags) o (fun p => .sInit (p.xr xk) (p.xr xflags)) fun _ p k _ _ =>
    { k with sieve := some { cap := p.xr xk, flags := p.xr xflags, keys := [], nans := 0 } }) ∧
  (∀ o vk vi p, runsInCores (.sIns o vk vi p) o (fun _ => .sIns vk vi p) fun _ _ k c _ =>
    k.withList fun l => (((pairsOf (k.vec c vk) (k.vec c vi)).zipIdx.filter fun q =>
      bit ((k.mask c p).getD (2 ^ 64 - 1)) q.2).map (·.1)).foldl SieveList.insert l) ∧
  (∀ o vk vi, runsInCores (.sBitSort o vk vi) o (fun _ => .sSort vk vi) fun _ _ k c _ =>
    let d := dropNans (k.sFlags c) (pairsOf (k.vec c vk) (k.vec c vi))
    let v := vectorsOf (rankSort (sInt (k.sFlags c)) (sDir (k.sFlags c)) d.1)
    ((k.withList fun l => { l with nans := l.nans + d.2 }).setVec vk v.1).setVec vi v.2) ∧
  (∀ o vk vi vk2 vi2, runsInCores (.sBitMerge o vk vi vk2 vi2) o (fun _ => .sMerge vk vi vk2 vi2) fun _ _ k c _ =>
    let d := dropNans (k.sFlags c) (pairsOf (k.vec c vk) (k.vec c vi) ++ pairsOf (k.vec c vk2) (k.vec c vi2))
    let v := vectorsOf (rankSort (sInt (k.sFlags c)) (sDir (k.sFlags c)) d.1)
    ((k.withList fun l => { l with nans := l.nans + d.2 }).setVec vk v.1).setVec vi v.2) ∧
  (∀ o pd vk vi xv xi, runsInCores (.sExcl o pd vk vi xv xi) o
    (fun p => .sExcl pd vk vi (p.xr xv % 2 ^ 32) (p.xr xi % 2 ^ 32)) fun _ p k c _ =>
      k.setPred pd (packLanes 1 ((pairsOf (k.vec c vk) (k.vec c vi)).map fun q =>
        b2n (pairAbove (sInt (k.sFlags c)) (sDir (k.sFlags c)) (p.xr xv % 2 ^ 32, p.xr xi % 2 ^ 32) q &&
          !(sDrop (k.sFlags c) && keyNan (sInt (k.sFlags c)) q.1))))) ∧
  (∀ o vk vi xn, runsInCores (.sMrg o vk vi xn) o (fun p => .sMrg vk vi (p.xr xn)) fun _ p k c _ =>
    k.withList fun l => ((pairsOf (k.vec c vk) (k.vec c vi)).take (p.xr xn)).foldl SieveList.insert l) ∧
  (∀ o vk vi l p (s : State), s.issuesCore o p (.sGet vk vi) → (∀ r ∈ rowsOf o.rows, ∀ c ∈ coresOf r, (s.core c).sieve = some l) →
    completes (.sGet o vk vi) s fun t => coreRan s t o p ∧ ∀ r ∈ rowsOf o.rows, ∀ c ∈ coresOf r,
      t.core c = ((s.core c).setVec vk (vectorsOf (l.keys.take 16)).1).setVec vi (vectorsOf (l.keys.take 16)).2)

/-- Issued where they can run at once: A.SET, A.SETC and A.ADD write the address register of every core of the rows;
LD.V and LD.Q give each core the 256 aligned Granary bytes at its address and advance the register, ACC.LD the 1024
bytes of an accumulator; ST.V, SQ.ST and ACC.ST store exactly the bytes of each core at its address within the task's
region, where these do not overlap. SQ.SH queues one tallied sheaf of each core of its row, LD.SH pushes the halves of
a delivered sheaf. SIG and WAIT move the token; LOOP.E waits in its stream for its body. (R386, R390, R403, R415,
R427, R430, R431, R432, R435) -/
def Obligations.CoreAccessOperations : Prop :=
  (∀ o an xs, runsInCores (.aSet o an xs) o (fun p => .aSet an (p.xr xs)) fun _ p k _ _ => k.setAddr an (p.xr xs)) ∧
  (∀ o an xs stride, runsInCores (.aSetc o an xs stride) o (fun p => .aSetc an (p.xr xs) stride) fun _ p k c _ =>
    k.setAddr an (p.xr xs + rankOf (o.rows % 256) c * stride)) ∧
  (∀ o an imm, runsInCores (.aAdd o an imm) o (fun _ => .aAdd an imm) fun _ _ k c _ =>
    k.setAddr an (ofSigned 32 (k.addr c an + imm))) ∧
  (∀ o vd an inc p (s : State), s.issuesCore o p (.ldV vd an inc) → (∀ r ∈ rowsOf o.rows, ∀ c ∈ coresOf r,
      (s.core c).addr c an % 64 = 0 ∧ inGranary ((s.core c).addr c an) 256 = true ∧
      ∀ l ∈ linesOf ((s.core c).addr c an) 256, s.poisoned l = false) →
    completes (.ldV o vd an inc []) s fun t => coreRan s t o p ∧ t.granary = s.granary ∧ ∀ r ∈ rowsOf o.rows,
      ∀ c ∈ coresOf r, t.core c = ((s.core c).setAddr an (ofSigned 32 ((s.core c).addr c an + inc))).setVec vd
        (ofLe (s.granaryBytes ((s.core c).addr c an) 256))) ∧
  (∀ o qn an inc p (s : State), s.issuesCore o p (.ldQ qn an inc) → (∀ r ∈ rowsOf o.rows, ∀ c ∈ coresOf r,
      (s.core c).addr c an % 64 = 0 ∧ inGranary ((s.core c).addr c an) 256 = true ∧
      ∀ l ∈ linesOf ((s.core c).addr c an) 256, s.poisoned l = false) →
    completes (.ldQ o qn an inc []) s fun t => coreRan s t o p ∧ t.granary = s.granary ∧ ∀ r ∈ rowsOf o.rows,
      ∀ c ∈ coresOf r, t.core c = ((s.core c).setAddr an (ofSigned 32 ((s.core c).addr c an + inc))).push qn
        (ofLe (s.granaryBytes ((s.core c).addr c an) 256))) ∧
  (∀ o cn an p (s : State), s.issuesCore o p (.accLd cn an) → (∀ r ∈ rowsOf o.rows, ∀ c ∈ coresOf r,
      (s.core c).addr c an % 64 = 0 ∧ inGranary ((s.core c).addr c an) 1024 = true ∧
      ∀ l ∈ linesOf ((s.core c).addr c an) 1024, s.poisoned l = false) →
    completes (.accLd o cn an []) s fun t => coreRan s t o p ∧ t.granary = s.granary ∧ ∀ r ∈ rowsOf o.rows,
      ∀ c ∈ coresOf r, ∀ i < 256, (t.core c).accAt c (256 * (cn % 4) + i) =
        lane' 32 (ofLe (s.granaryBytes ((s.core c).addr c an) 1024)) i) ∧
  (∀ o an inc vs p (l : List Nat) (s : State), s.issuesCore o p (.stV an inc vs) → l = (rowsOf o.rows).flatMap coresOf →
    (∀ c ∈ l, (s.core c).addr c an % 64 = 0 ∧ s.inRegion o.slot ((s.core c).addr c an) 256 = true ∧
      (∀ n ∈ linesOf ((s.core c).addr c an) 256, s.poisoned n = false) ∧ ∀ d ∈ l, d ≠ c →
        (s.core c).addr c an + 256 ≤ (s.core d).addr d an ∨ (s.core d).addr d an + 256 ≤ (s.core c).addr c an) →
    completes (.stV o an inc vs) s fun t => coreRan s t o p ∧ memKeptBut s t 256 (l.map fun c => (s.core c).addr c an) ∧
      ∀ c ∈ l, t.core c = (s.core c).setAddr an (ofSigned 32 ((s.core c).addr c an + inc)) ∧
        t.granaryBytes ((s.core c).addr c an) 256 = leBytes 256 ((s.core c).vec c vs)) ∧
  (∀ o an inc p (l : List Nat) (s : State), s.issuesCore o p (.sqSt an inc) → l = (rowsOf o.rows).flatMap coresOf →
    (∀ c ∈ l, (s.core c).addr c an % 64 = 0 ∧ s.inRegion o.slot ((s.core c).addr c an) 256 = true ∧
      (∀ n ∈ linesOf ((s.core c).addr c an) 256, s.poisoned n = false) ∧ ∀ d ∈ l, d ≠ c →
        (s.core c).addr c an + 256 ≤ (s.core d).addr d an ∨ (s.core d).addr d an + 256 ≤ (s.core c).addr c an) →
    completes (.sqSt o an inc) s fun t => coreRan s t o p ∧ memKeptBut s t 256 (l.map fun c => (s.core c).addr c an) ∧
      ∀ c ∈ l, (t.core c).sq = (s.core c).sq.tail ∧
        t.granaryBytes ((s.core c).addr c an) 256 = leBytes 256 ((s.core c).sq.headD 0)) ∧
  (∀ o an cn p (l : List Nat) (s : State), s.issuesCore o p (.accSt an cn) → l = (rowsOf o.rows).flatMap coresOf →
    (∀ c ∈ l, (s.core c).addr c an % 64 = 0 ∧ s.inRegion o.slot ((s.core c).addr c an) 1024 = true ∧
      (∀ n ∈ linesOf ((s.core c).addr c an) 1024, s.poisoned n = false) ∧ ∀ d ∈ l, d ≠ c →
        (s.core c).addr c an + 1024 ≤ (s.core d).addr d an ∨ (s.core d).addr d an + 1024 ≤ (s.core c).addr c an) →
    completes (.accSt o an cn) s fun t => coreRan s t o p ∧ t.mill.cores = s.mill.cores ∧
      memKeptBut s t 1024 (l.map fun c => (s.core c).addr c an) ∧ ∀ c ∈ l,
        t.granaryBytes ((s.core c).addr c an) 1024 = leBytes 1024 (packLanes 32 ((List.range 256).map fun i =>
          (s.core c).accAt c (256 * (cn % 4) + i)))) ∧
  (∀ o xflow xseq lastSheaf r p (s : State), s.issuesCore o p (.sqSh (p.xr xflow % 2 ^ 20) (p.xr xseq % 2 ^ 24) lastSheaf) →
    rowsOf o.rows = [r] → (∀ c ∈ coresOf r, 2 ≤ (s.core c).sq.length) → 16 ≤ s.sendRoom o.slot (p.xr xflow % 2 ^ 20) →
    completes (.sqSh o xflow xseq lastSheaf) s fun t => coreRan s t o p ∧ t.granary = s.granary ∧
      (∀ c ∈ coresOf r, (t.core c).sq = (s.core c).sq.drop 2) ∧
      (t.task o.slot).sendq = (s.task o.slot).sendq ++ (List.range 16).map fun d =>
        (s.ticks, tallied { Sheaf.empty with
          flow := p.xr xflow % 2 ^ 20, kind := 1, seq := (p.xr xseq % 2 ^ 24 + d) % 2 ^ 24, last := lastSheaf,
          tag := s.taskTag o.slot,
          payload := leBytes 256 ((s.core (16 * r + d)).sq.getD 0 0) ++ leBytes 256 ((s.core (16 * r + d)).sq.getD 1 0) })) ∧
  (∀ o qn xland xseq x p (s : State), s.issuesCore o p (.ldSh qn (p.xr xland % 1024) (p.xr xseq % 2 ^ 24)) →
    s.shLegal o.slot (p.xr xland % 1024) (p.xr xseq % 2 ^ 24) = true →
    x = parseSheaf (s.granaryBytes (cellAddr (s.landOf (p.xr xland % 1024)) (p.xr xseq % 2 ^ 24)) 528) →
    x.tally = sheafTally x →
    (∀ l ∈ linesOf (cellAddr (s.landOf (p.xr xland % 1024)) (p.xr xseq % 2 ^ 24)) 528, s.poisoned l = false) →
    completes (.ldSh o qn xland xseq []) s fun t => coreRan s t o p ∧ t.granary = s.granary ∧ ∀ r ∈ rowsOf o.rows,
      ∀ c ∈ coresOf r, t.core c =
        ((s.core c).push qn (ofLe (x.payload.take 256))).push qn (ofLe (x.payload.drop 256))) ∧
  (∀ o st tok p (s : State), (loopStream p.mode st).isSome = true → s.issuesCore o p (.sig tok) →
    completes (.sig o st tok) s fun t => coreRan s t o p ∧ ∀ r ∈ rowsOf o.rows, ∀ c ∈ coresOf r,
      t.core c = (s.core c).setToken tok ((s.core c).token c tok + 1)) ∧
  (∀ o st tok p (s : State), (loopStream p.mode st).isSome = true → s.issuesCore o p (.wait tok) →
    completes (.wait o st tok) s fun t => coreRan s t o p ∧ ∀ r ∈ rowsOf o.rows, ∀ c ∈ coresOf r,
      t.core c = (s.core c).setToken tok ((s.core c).token c tok - 1)) ∧
  (∀ o st xc n k p (s : State), loopStream p.mode st = some k → s.issuesCore o p (.loop (p.xr xc % 2 ^ 32) n) → 1 ≤ n → n ≤ 16 →
    completes (.loopE o st xc n) s fun t => t.mill.cores = s.mill.cores ∧ ∀ r ∈ rowsOf o.rows,
      (t.stream r k).queue.map (·.op) = [.loop (p.xr xc % 2 ^ 32) n] ∧ (t.stream r k).opens = [n] ∧
      (t.stream r k).run = [])

/-- With nothing poisoned, no error injected and results within the task's region: GO COPY copies its bytes between
ranges that do not overlap; GO REDUCE of arrays in the Granary writes the fold of its inputs, converted to the output
type; GO SIEVE writes the ranked list of its piece and the closing 16 zero bytes; GO SCAN of one step of a state pass
writes the state after it; GO PIPE counts four curve evaluations for every element of every step. Each goes on to the
next word, and COPY changes no other byte. (R437, R463, R481, R490, R498, R499, R509) -/
def Obligations.DescriptorModeLayers : Prop :=
  (∀ o r len src dst p (s : State), s.issues o p → o.rows % 256 &&& p.rows = o.rows % 256 → rowsOf o.rows = [r] →
    s.rd (Hdr.INJ_COUNT 0x62) = 0 → (∀ l, s.poisoned l = false) → src = s.cfgWord r 0 → dst = s.cfgWord r 1 →
    len = s.cfgWord r 2 → src % 64 = 0 → dst % 64 = 0 → inGranary src len = true → s.inRegion o.slot dst len = true →
    src + len ≤ dst ∨ dst + len ≤ src → completes (.goCopy o []) s fun t =>
      t.prog o.slot = some (p.goto (o.word + 1)) ∧ t.mill.cores = s.mill.cores ∧
      t.granaryBytes dst len = s.granaryBytes src len ∧ memKeptBut s t len [dst]) ∧
  (∀ o r num redop ti to' len dst (ins : List (List Nat)) (v : List Nat) (out : List Byte) p s, s.issues o p →
    o.rows % 256 &&& p.rows = o.rows % 256 → rowsOf o.rows = [r] → s.rd (Hdr.INJ_COUNT 0x62) = 0 →
    (∀ l, s.poisoned l = false) → num = s.cfgWord r 2 % 16 → redop = bits (s.cfgWord r 2) 8 4 →
    ti = bits (s.cfgWord r 2) 12 4 → to' = bits (s.cfgWord r 2) 16 4 → len = s.cfgWord r 3 → dst = s.cfgWord r 0 →
    1 ≤ num → num ≤ 8 → redop ≤ 7 → ti ≤ 6 → to' ≤ 6 → dst % 64 = 0 → inGranary (s.cfgWord r 1) (8 * num) = true →
    (∀ e ∈ elemsOf 8 num (s.granaryBytes (s.cfgWord r 1) (8 * num)),
      bit e 63 = false ∧ e % 64 = 0 ∧ inGranary e (len * (fmtWidth (typeFmt ti) / 8)) = true) →
    ins = (elemsOf 8 num (s.granaryBytes (s.cfgWord r 1) (8 * num))).map (fun e => (elemsOf (fmtWidth (typeFmt ti) / 8) len
      (s.granaryBytes e (len * (fmtWidth (typeFmt ti) / 8)))).map (widen (typeFmt ti))) →
    v = ins.tail.foldl (List.zipWith (combine (typeFmt ti) redop)) (ins.headD []) →
    out = v.zipIdx.flatMap (fun q => leBytes (fmtWidth (typeFmt to') / 8) (outElem (typeFmt ti) (typeFmt to')
      (bit (s.cfgWord r 2) 20) (s.cfgWord r 4) (s.cfgWord r 5 + q.2) q.1)) →
    s.inRegion o.slot dst out.length = true → completes (.goReduce o []) s fun t =>
      t.prog o.slot = some (p.goto (o.word + 1)) ∧ t.granaryBytes dst out.length = out) ∧
  (∀ o r k ti m w (l : List (Nat × Nat)) (out : List Byte) p s, s.issues o p → o.rows % 256 &&& p.rows = o.rows % 256 →
    rowsOf o.rows = [r] → s.rd (Hdr.INJ_COUNT 0x62) = 0 → (∀ n, s.poisoned n = false) →
    k = s.cfgWord r 2 % 4096 + 1 → ti = bits (s.cfgWord r 2) 12 4 → m = s.cfgWord r 1 → 1 ≤ m → m ≤ 4096 → ti ≤ 6 →
    (bits (s.cfgWord r 2) 18 2 = 1 ∧ k ≤ 16 ∨ bits (s.cfgWord r 2) 18 2 = 2) → s.cfgWord r 5 % 64 = 0 →
    w = fmtWidth (typeFmt ti) / 8 → inGranary (s.cfgWord r 0) (m * w) = true →
    l = (partialList (isInt (typeFmt ti)) (bit (s.cfgWord r 2) 16) (bit (s.cfgWord r 2) 17) k (pieceKeys (typeFmt ti)
      (s.cfgWord r 3 % 2 ^ 40) (elemsOf w m (s.granaryBytes (s.cfgWord r 0) (m * w))))).1 →
    out = l.flatMap (fun x => listEntry (s.cfgWord r 4 % 65536) (nanFlag (isInt (typeFmt ti)) x.1) x) ++ leBytes 16 0 →
    s.inRegion o.slot (s.cfgWord r 5) out.length = true → completes (.goSieve o []) s fun t =>
      t.prog o.slot = some (p.goto (o.word + 1)) ∧ t.granaryBytes (s.cfgWord r 5) out.length = out ∧
      t.rd Ctr.SIEVE_ELEMENTS_SCANNED.fld = (s.rd Ctr.SIEVE_ELEMENTS_SCANNED.fld + m) % 2 ^ 64) ∧
  (∀ o r c (out : List Byte) p (s : State), s.issues o p → o.rows % 256 &&& p.rows = o.rows % 256 → rowsOf o.rows = [r] →
    s.rd (Hdr.INJ_COUNT 0x62) = 0 → (∀ n, s.poisoned n = false) → s.heldByOther o.slot r = false →
    c = Config.scanCfg (s.cfgOf r) → c.summary = false → c.steps = 1 → c.tin ≤ 2 → c.tout ≤ 2 →
    inGranary c.src (recordBytes c.rows c.width c.tin c.reset) = true →
    out = stateBytes c.tout ((s.stateRecord (2 ^ r) c.rows c.width (parseRecord c.rows c.width c.tin c.reset
      (s.granaryBytes c.src (recordBytes c.rows c.width c.tin c.reset)))).loomAll (2 ^ r) (c.rows * c.width) 0) →
    s.inRegion o.slot c.dst out.length = true → completes (.goScan o []) s fun t =>
      t.prog o.slot = some (p.goto (o.word + 1)) ∧ t.granaryBytes c.dst out.length = out) ∧
  (∀ o r c b p (s : State), s.issues o p → o.rows % 256 &&& p.rows = o.rows % 256 → rowsOf o.rows = [r] →
    s.rd (Hdr.INJ_COUNT 0x62) = 0 → (∀ n, s.poisoned n = false) → s.heldByOther o.slot r = false →
    c = Config.pipeCfg (s.cfgOf r) → b = parsePipe (s.granaryBytes c.block 320) →
    b.good c.rows c.width (2 ^ b.g - 1) (descRegion (s.task o.slot).desc) (descRegionSize (s.task o.slot).desc) = true →
    c.layer < b.g → c.steps ≤ b.blk → c.tin ≤ 2 → c.tout ≤ 2 → 1 ≤ c.rows →
    inGranary (b.x + c.first * pipeXBytes c.rows b.inp c.tin c.reset) (c.steps * pipeXBytes c.rows b.inp c.tin c.reset)
      = true → completes (.goPipe o []) s fun t => t.prog o.slot = some (p.goto (o.word + 1)) ∧
        t.rd Ctr.LOOM_PWL_EVALS.fld = (s.rd Ctr.LOOM_PWL_EVALS.fld + 4 * (c.rows * c.width) * c.steps) % 2 ^ 64)

/-- OP_PROGRAM_RUN of an image of this Pattern Book that fits, and PROGRAM_IMAGE_LOAD of one that waited, place it
with its registers and its entry; one of another version ends the task with BAD_DESCRIPTOR. MILL_STEP_START of the
step that is next runs the program in this window, restored from its save block where it was saved. MILL_STEP_FINISH
of an ended and quiet step saves the program, gives it the next rows and mode, and END ends the task with RESULT.
STEP_DEFERRED defers and counts. BELL_OVERRUN ends the task with OVERRUN. (R65, R361, R399, R413, R420, R421, R422,
R423, R424) -/
def Obligations.MillerStepsAndImages : Prop :=
  (∀ slot img (s : State), s.runsProgram slot = true → s.prog slot = none → mfind s.mill.images slot = none →
    s.plainSource slot (descNum (s.task slot).desc 32 8) (descNum (s.task slot).desc 40 4) →
    img.pbMajor = s.rd Reg.TOP_PB_VERSION_MAJOR → ((s.loadImage slot img).prog slot).isSome = true →
    completes (.opProgramRun slot img .ok) s fun t => t.granary = s.granary ∧ ∃ p, t.prog slot = some p ∧
      p.pc = img.entry ∧ p.rows = img.rows % 256 ∧ p.mode = img.mode ∧ p.running = false ∧
      p.xr 1 = descNum (s.task slot).desc 48 8 ∧ p.xr 2 = descTag (s.task slot).desc ∧ p.xr 3 = descRegion (s.task slot).desc ∧
      p.xr 4 = descRegionSize (s.task slot).desc) ∧
  (∀ slot img (s : State), s.runsProgram slot = true → s.prog slot = none → mfind s.mill.images slot = none →
    s.plainSource slot (descNum (s.task slot).desc 32 8) (descNum (s.task slot).desc 40 4) →
    img.pbMajor ≠ s.rd Reg.TOP_PB_VERSION_MAJOR → completes (.opProgramRun slot img .ok) s fun t =>
      (t.task slot).st = 4 ∧ (t.task slot).status = 12 ∧ (t.task slot).detail = 4) ∧
  (∀ slot img (s : State), mfind s.mill.images slot = some img → s.runsProgram slot = true → s.prog slot = none →
    ((s.loadImage slot img).prog slot).isSome = true → completes (.programImageLoad slot) s fun t =>
      mfind t.mill.images slot = none ∧ (∃ p, t.prog slot = some p ∧ p.pc = img.entry ∧ p.rows = img.rows % 256) ∧
      ∀ i (h : i < img.words.length), mget t.miller.imem (2 ^ 20 * slot + i) 0 = img.words[i]) ∧
  (∀ slot ecc p (s : State), s.prog slot = some p → s.stepMayStart slot = true → p.saved = false →
    completes (.millStepStart slot ecc) s fun t => t.prog slot = some { p with
        running := true, tail := false, window := (s.bellNum + bellMod - 1) % bellMod, turn := s.ticks + 1,
        deferred := false, inWord := false, ended := none, issued := 0 } ∧
      t.rd Ctr.MILLER_STEPS_RUN.fld = (s.rd Ctr.MILLER_STEPS_RUN.fld + 1) % 2 ^ 64 ∧
      ∀ r ∈ rowsOf p.rows, ∀ k < 4, t.stream r k = StreamQ.blank) ∧
  (∀ slot p (s : State), s.prog slot = some p → s.stepMayStart slot = true → p.saved = true → s.rd (Hdr.INJ_COUNT 0x60) = 0 →
    completes (.millStepStart slot .ok) s fun t =>
      t.prog slot = some { restore p (readBytes s.miller.dmem 0 p.save 512) with
        running := true, tail := false, window := (s.bellNum + bellMod - 1) % bellMod, turn := s.ticks + 1,
        deferred := false, inWord := false, ended := none, issued := 0 }) ∧
  (∀ slot p (s : State), s.prog slot = some p → p.running = true → p.ended = some .step → s.millerStopped = false →
    s.stepQuiet p = true → (s.task slot).stop = none → completes (.millStepFinish slot) s fun t =>
      t.prog slot = some { p with
        rows := p.nextRows, mode := p.nextMode, hold := false, running := false, tail := false, saved := true,
        inWord := false } ∧ t.tasks = s.tasks ∧
      t.miller = { s.miller with dmem := writeBytes s.miller.dmem 0 p.save (saveBytes p) }) ∧
  (∀ slot p v (s : State), s.prog slot = some p → p.running = true → p.ended = some (.endOp v) → s.millerStopped = false →
    s.stepQuiet p = true → (s.task slot).stop = none → (s.task slot).st = 2 → completes (.millStepFinish slot) s fun t =>
      (t.task slot).st = 4 ∧ (t.task slot).status = b2n (s.task slot).recovered ∧ (t.task slot).result = v) ∧
  (∀ slot p (s : State), s.prog slot = some p → s.stepDue slot = true → completes (.stepDeferred slot) s fun t =>
    t.prog slot = some { p with deferred := true, turn := s.ticks + 1 } ∧
    t.rd Ctr.MILLER_STEPS_DEFERRED.fld = (s.rd Ctr.MILLER_STEPS_DEFERRED.fld + 1) % 2 ^ 64) ∧
  (∀ slot p (s : State), s.prog slot = some p → p.running = true → p.tail = true → s.frozen = false → (s.task slot).st = 2 →
    (s.task slot).stop = none → completes (.bellOverrun slot) s fun t =>
      (t.task slot).st = 4 ∧ (t.task slot).status = 7 ∧ (t.task slot).detail = p.window % 2 ^ 32 ∧
      errUp t Err.BELL_OVERRUN ∧
      t.rd Ctr.BELL_OVERRUN_STEPS.fld = (s.rd Ctr.BELL_OVERRUN_STEPS.fld + 1) % 2 ^ 64)

/-- The first step of an ALL_REDUCE, REDUCE or REDUCE_SCATTER with work for one block takes the member's own first
block, widened, and stands at child 0; of a BROADCAST's root or an ALL_GATHER it takes the first sheaf's elements; of
an ALL_TO_ALL it serves rank 0 and goes on to rank 1; of a BARRIER at a member without children it sends the census
up. Each of the seven, with only its end left, every rank included and everything acknowledged, ends with OK and
INCLUDED in RESULT. PARTIAL_EXCLUSION of a due child leaves it out and goes on to the next. (R457, R458, R460, R464,
R465, R466, R472) -/
def Obligations.CollectivesBeginAndEnd : Prop :=
  (∀ slot blocks eccs (s : State), s.colClosing slot 1 → completes (.opAllReduce slot (blocks + 1) eccs) s fun t =>
    groupEnded s t slot (s.recd slot .included)) ∧
  (∀ slot blocks eccs (s : State), s.colClosing slot 5 → completes (.opReduce slot (blocks + 1) eccs) s fun t =>
    groupEnded s t slot (s.recd slot .included)) ∧
  (∀ slot blocks eccs (s : State), s.colClosing slot 2 → completes (.opReduceScatter slot (blocks + 1) eccs) s fun t =>
    groupEnded s t slot (s.recd slot .included)) ∧
  (∀ slot blocks eccs (s : State), s.colClosing slot 4 → completes (.opBroadcast slot (blocks + 1) eccs) s fun t =>
    groupEnded s t slot (s.recd slot .included)) ∧
  (∀ slot blocks eccs (s : State), s.colClosing slot 3 → completes (.opAllGather slot (blocks + 1) eccs) s fun t =>
    groupEnded s t slot (s.recd slot .included)) ∧
  (∀ slot blocks eccs (s : State), s.colClosing slot 6 → completes (.opAllToAll slot (blocks + 1) eccs) s fun t =>
    groupEnded s t slot (s.recd slot .included)) ∧
  (∀ slot blocks eccs (s : State), s.colClosing slot 7 → completes (.opBarrier slot (blocks + 1) eccs) s fun t =>
    groupEnded s t slot (s.recd slot .included)) ∧
  (∀ slot d len (s : State), s.colDue slot 1 = true → mfind s.routines slot = none → d = (s.task slot).desc →
    len = min 128 (foldTotal d (s.captured slot)) → 1 ≤ len → s.plainSource slot (colSrc d) (len * inBytes d) →
    completes (.opAllReduce slot 1 []) s fun t => firstStep s t slot ∧ t.granary = s.granary ∧ t.recd slot .child = 0 ∧
      (t.routine slot).acc = (elemsOf (inBytes d) len (s.granaryBytes (colSrc d) (len * inBytes d))).map (widen (colIn d))) ∧
  (∀ slot d len (s : State), s.colDue slot 5 = true → mfind s.routines slot = none → d = (s.task slot).desc →
    len = min 128 (foldTotal d (s.captured slot)) → 1 ≤ len → s.plainSource slot (colSrc d) (len * inBytes d) →
    completes (.opReduce slot 1 []) s fun t => firstStep s t slot ∧ t.granary = s.granary ∧ t.recd slot .child = 0 ∧
      (t.routine slot).acc = (elemsOf (inBytes d) len (s.granaryBytes (colSrc d) (len * inBytes d))).map (widen (colIn d))) ∧
  (∀ slot d len (s : State), s.colDue slot 2 = true → mfind s.routines slot = none → d = (s.task slot).desc →
    len = min 128 (foldTotal d (s.captured slot)) → 1 ≤ len → s.plainSource slot (colSrc d) (len * inBytes d) →
    completes (.opReduceScatter slot 1 []) s fun t => firstStep s t slot ∧ t.granary = s.granary ∧
      t.recd slot .child = 0 ∧
      (t.routine slot).acc = (elemsOf (inBytes d) len (s.granaryBytes (colSrc d) (len * inBytes d))).map (widen (colIn d))) ∧
  (∀ slot d len (s : State), s.colDue slot 4 = true → mfind s.routines slot = none → d = (s.task slot).desc →
    grpRoot (s.captured slot) = true → len = min (perSheaf d) (colCount d) → 1 ≤ len →
    s.plainSource slot (colSrc d) (len * inBytes d) → completes (.opBroadcast slot 1 []) s fun t =>
      (t.routine slot).elems = len ∧ t.recd slot .phase = 0) ∧
  (∀ slot d len (s : State), s.colDue slot 3 = true → mfind s.routines slot = none → d = (s.task slot).desc →
    len = min (perSheaf d) (colCount d) → 1 ≤ len → s.plainSource slot (colSrc d) (len * inBytes d) →
    completes (.opAllGather slot 1 []) s fun t => (t.routine slot).elems = len ∧ t.recd slot .phase = 0) ∧
  (∀ slot d (s : State), s.colDue slot 6 = true → mfind s.routines slot = none → d = (s.task slot).desc →
    s.sched.delivered = [] → 2 ≤ grpSize (s.captured slot) → 1 ≤ blockBytes d →
    s.plainSource slot (colSrc d) (min 512 (blockBytes d)) → (∀ l, s.poisoned l = false) →
    completes (.opAllToAll slot 1 []) s fun t => t.recd slot .peer = 1 ∧ t.recd slot .block = 0) ∧
  (∀ slot (s : State), s.colDue slot 7 = true → mfind s.routines slot = none → foldTotal (s.task slot).desc (s.captured slot) = 0 →
    grpChildren (s.captured slot) = 0 → grpRoot (s.captured slot) = false → (s.task slot).stop = none →
    s.sendRoom slot (grpUpFlow (s.captured slot)) ≠ 0 → completes (.opBarrier slot 2 []) s fun t =>
      firstStep s t slot ∧ t.recd slot .phase = 1 ∧ (t.task slot).sendq = (s.task slot).sendq ++ [
        (s.ticks, tallied { Sheaf.empty with
          flow := grpUpFlow (s.captured slot) % 2 ^ 20, kind := 1, last := true, tag := s.taskTag slot,
          seq := mget s.groups.flowSeq (grpUpFlow (s.captured slot)) 0 % 2 ^ 24,
          payload := padTo 512 (censusBytes 1 (s.task slot).inst 7 0) })]) ∧
  (∀ slot child (s : State), s.runsRoutine slot = true → descOp (s.task slot).desc = 2 → (mfind s.routines slot).isSome = true →
    child < grpChildren (s.captured slot) → s.recd slot .phase = 0 → s.exclusionDue slot child = true →
    completes (.partialExclusion slot child) s fun t => t.recd slot .child = child + 1 ∧
      t.recd slot .excluded = setBit (s.recd slot .excluded) child ∧ t.regs = s.regs)

/-- The first step of a SELECT counts it and, with work for one piece, keeps the top K keys of its first row's first
piece in ranking order and counts the elements scanned. The first step of a SCAN with one piece of work counts it,
holds every row of its mask for its slot and, of CARRY, loads the first values of A; of CHUNK, takes the first step's
cut bits; of STREAM, waits for a chunk entry that is not ready; of PIPE, keeps its good block. With only the end left
and everything acknowledged, a SELECT ends with OK and the NaNs dropped, and a SCAN with OK and its time steps, in
RESULT. (R466, R474, R475, R481, R484, R494, R499, R500, R505, R516) -/
def Obligations.SelectAndScanBeginAndEnd : Prop :=
  (∀ slot d len (s : State), s.routineDue slot 7 = true → mfind s.routines slot = none → d = (s.task slot).desc →
    1 ≤ selRows d → len = min 4096 (selLen d) → s.plainSource slot (selSrc d) (len * selWidth d) →
    completes (.opSelect slot 1 []) s fun t => firstStep s t slot ∧ t.granary = s.granary ∧
      mget (t.routine slot).keys 0 [] = (keyMerge (selInt d) (selSmallest d) []
        (partialList (selInt d) (selSmallest d) (s.task slot).drop (selK d) (pieceKeys (selType d) (selBase d)
          (elemsOf (selWidth d) len (s.granaryBytes (selSrc d) (len * selWidth d))))).1).take (selK d) ∧
      t.rd Ctr.SIEVE_SELECTS_STARTED.fld = (s.rd Ctr.SIEVE_SELECTS_STARTED.fld + 1) % 2 ^ 64 ∧
      t.rd Ctr.SIEVE_ELEMENTS_SCANNED.fld = (s.rd Ctr.SIEVE_ELEMENTS_SCANNED.fld + len) % 2 ^ 64) ∧
  (∀ slot blocks eccs (s : State), s.routineDue slot 7 = true → (mfind s.routines slot).isSome = true → s.recd slot .phase = 4 →
    (s.routine slot).closing = true → s.allAcked slot = true → completes (.opSelect slot (blocks + 1) eccs) s fun t =>
      groupEnded s t slot (s.routine slot).nans) ∧
  (∀ slot d len (s : State), s.scanDue slot 0 = true → mfind s.routines slot = none → d = (s.task slot).desc →
    len = min 128 (scN d) → 1 ≤ len → scMask d % 256 ≠ 0 → perCore (scMask d) (scN d) ≤ 512 →
    s.plainSource slot (scSrc d) (4 * len) → completes (.opScanCarry slot 1 []) s fun t => firstStep s t slot ∧
      t.rd Ctr.LOOM_SCANS_STARTED.fld = (s.rd Ctr.LOOM_SCANS_STARTED.fld + 1) % 2 ^ 64 ∧
      (∀ r ∈ rowsOf (scMask d), t.rd (Reg.MILL_ACC_HELD_SLOT r) = slot ∧ t.is (Reg.MILL_ACC_HELD_VALID r) = true) ∧
      ∀ e < len, t.loomGet (scMask d) (scN d) accA e = (elemsOf 4 len (s.granaryBytes (scSrc d) (4 * len))).getD e 0) ∧
  (∀ slot d (s : State), s.scanDue slot 1 = true → mfind s.routines slot = none → d = (s.task slot).desc →
    1 ≤ scSteps d → s.plainSource slot (scSrc d) (scRecord d) → completes (.opScanChunk slot 1 []) s fun t =>
      firstStep s t slot ∧ t.rd Ctr.LOOM_SCANS_STARTED.fld = (s.rd Ctr.LOOM_SCANS_STARTED.fld + 1) % 2 ^ 64 ∧
      (∀ r ∈ rowsOf (scMask d), t.rd (Reg.MILL_ACC_HELD_SLOT r) = slot ∧ t.is (Reg.MILL_ACC_HELD_VALID r) = true) ∧
      t.recd slot .block = 1 ∧ ∀ r < scRows d, mget (t.routine slot).cuts r 0 =
        b2n (bit (parseRecord (scRows d) (scWidth d) (scIn d) (scReset d) (s.granaryBytes (scSrc d) (scRecord d))).2 r)) ∧
  (∀ slot d (s : State), s.scanDue slot 2 = true → mfind s.routines slot = none → d = (s.task slot).desc →
    scInit d = false → s.plainSource slot (scSrc d) 32 → entryReady (s.granaryBytes (scSrc d) 32) = false →
    completes (.opScanStream slot 1 []) s fun t => firstStep s t slot ∧
      t.rd Ctr.LOOM_SCANS_STARTED.fld = (s.rd Ctr.LOOM_SCANS_STARTED.fld + 1) % 2 ^ 64 ∧
      (∀ r ∈ rowsOf (scMask d), t.rd (Reg.MILL_ACC_HELD_SLOT r) = slot ∧ t.is (Reg.MILL_ACC_HELD_VALID r) = true) ∧
      t.rd Ctr.LOOM_CHUNK_WAIT_BELLS.fld = (s.rd Ctr.LOOM_CHUNK_WAIT_BELLS.fld + 1) % 2 ^ 64) ∧
  (∀ slot d (s : State), s.scanDue slot 3 = true → mfind s.routines slot = none → d = (s.task slot).desc →
    s.plainSource slot (scSrc d) 320 → (parsePipe (s.granaryBytes (scSrc d) 320)).good (scRows d) (scWidth d) (scMask d)
      (descRegion d) (descRegionSize d) = true → completes (.opScanPipe slot 1 []) s fun t => firstStep s t slot ∧
      t.rd Ctr.LOOM_SCANS_STARTED.fld = (s.rd Ctr.LOOM_SCANS_STARTED.fld + 1) % 2 ^ 64 ∧
      (∀ r ∈ rowsOf (scMask d), t.rd (Reg.MILL_ACC_HELD_SLOT r) = slot ∧ t.is (Reg.MILL_ACC_HELD_VALID r) = true) ∧
      t.pipeBlock slot = parsePipe (s.granaryBytes (scSrc d) 320)) ∧
  (∀ slot blocks eccs (s : State), s.scanDue slot 0 = true → (mfind s.routines slot).isSome = true →
    (s.routine slot).closing = true → s.allAcked slot = true → completes (.opScanCarry slot (blocks + 1) eccs) s fun t =>
      groupEnded s t slot (s.routine slot).steps) ∧
  (∀ slot blocks eccs (s : State), s.scanDue slot 1 = true → (mfind s.routines slot).isSome = true →
    (s.routine slot).closing = true → s.allAcked slot = true → completes (.opScanChunk slot (blocks + 1) eccs) s fun t =>
      groupEnded s t slot (s.routine slot).steps) ∧
  (∀ slot blocks eccs (s : State), s.scanDue slot 2 = true → (mfind s.routines slot).isSome = true →
    (s.routine slot).closing = true → s.allAcked slot = true → completes (.opScanStream slot (blocks + 1) eccs) s fun t =>
      groupEnded s t slot (s.routine slot).steps) ∧
  (∀ slot blocks eccs (s : State), s.scanDue slot 3 = true → (mfind s.routines slot).isSome = true →
    (s.routine slot).closing = true → s.allAcked slot = true → completes (.opScanPipe slot (blocks + 1) eccs) s fun t =>
      groupEnded s t slot (s.routine slot).steps)

/-- For a request of the SMBus channel that stands alone in the queue while the Reeve serves the ports: GET_INFO
answers the identity bytes; GET_TELEM of a record held answers it, SUB_TELEM answers ACCESS, ALM_READ within the
working copy answers its bytes, ALM_WRITE with the key edits the copy, ALM_COMMIT with the key starts a commit, and
LEDGER_READ within the ring answers. Each takes the request off the queue and leaves the answer with its command and
sequence in the response buffer, ready. (R575, R576, R577, R578) -/
def Obligations.MailboxCommands : Prop :=
  ∀ (r : MbxReq) (s : State), s.mgmt.queue = [r] → s.reeveUp = true → r.chan = 1 →
    let b := msgBody r.bytes
    let answered (status : Nat) (body : List Byte) (t : State) : Prop :=
      t.mgmt.queue = [] ∧ t.mgmt.ready = true ∧
      t.mgmt.response = mbxMessage (msgNum r.bytes 0 2) (msgNum r.bytes 2 2) status 1 body
    (msgNum r.bytes 0 2 = 0x0001 → b = [] → completes .getInfo s fun t => answered 0 s.infoBytes t ∧ t.regs = s.regs) ∧
    (∀ x, msgNum r.bytes 0 2 = 0x0002 → b.length = 2 → msgNum b 0 2 ≤ 15 → s.telem.recs[msgNum b 0 2]? = some x →
      completes .getTelem s fun t => answered 0 x t ∧ t.regs = s.regs) ∧
    (msgNum r.bytes 0 2 = 0x0003 → completes .subTelem s fun t => answered 4 [] t ∧ t.regs = s.regs) ∧
    (msgNum r.bytes 0 2 = 0x0010 → b.length = 6 → 0 < msgNum b 4 2 → msgNum b 4 2 ≤ 1000 →
      msgNum b 0 4 + msgNum b 4 2 ≤ s.almLen →
      completes .almRead s fun t => answered 0 (readBytes s.alm.body 0 (msgNum b 0 4) (msgNum b 4 2)) t ∧ t.alm = s.alm) ∧
    (msgNum r.bytes 0 2 = 0x0011 → s.rd Reg.BOOT_ALM_STATUS_COMMIT_BUSY ≠ 1 → 7 ≤ b.length → b.length ≤ 1006 →
      msgNum b 2 4 + (b.length - 6) ≤ 2093056 → msgNum b 0 1 = 0xA5 →
      completes .almWrite s fun t => answered 0 [] t ∧ t.alm = (s.almEdit (msgNum b 2 4) (b.drop 6)).alm) ∧
    (msgNum r.bytes 0 2 = 0x0012 → s.rd Reg.BOOT_ALM_STATUS_COMMIT_BUSY ≠ 1 → b.length = 1 → msgNum b 0 1 = 0xA5 →
      completes .almCommit s fun t => answered 0 [] t ∧ t.rd Reg.BOOT_ALM_STATUS_COMMIT_BUSY = 1) ∧
    (msgNum r.bytes 0 2 = 0x0020 → b.length = 3 → 0 < msgNum b 2 1 → msgNum b 2 1 ≤ 31 →
      msgNum b 0 2 + msgNum b 2 1 ≤ 2048 → completes .ledgerRead s fun t =>
        answered 0 ((List.range (msgNum b 2 1)).flatMap fun k =>
          if (s.ledgerEntry (msgNum b 0 2 + k)).seq = 0 then List.replicate 32 0
          else entryBytes (s.ledgerEntry (msgNum b 0 2 + k))) t ∧ t.ledger = s.ledger)

/-- While the ports are up: GET_STATUS returns the three words and the last write's result; READ_REG from start-up
step 3 on of a word of the schedule returns status 0 and the word; WRITE_REG with a bad PEC is refused, and with a
good one of an unmapped address is noted as status 1; MBX_WRITE joins bytes to the request, MBX_CLEAR empties it,
MBX_SEND empties it, MBX_READ returns up to 32 bytes of the response and takes its ready mark. A time-out is counted
and raised. The alert response of a target that drives the pin and wins returns its address and releases the pin.
(R562, R563, R564, R565, R576) -/
def Obligations.SmbusCommands : Prop :=
  (∀ (s : State), s.portsUp = true → completes .getStatus s fun t =>
    t.regs = (s.bump Ctr.MGMT_SMB_TRANSACTIONS 1).regs ∧
    t.mgmt.smbOut = t.wordOf Reg.DEVICE_STATE_STATE ++ t.wordOf Reg.ALARM_SUMMARY_BLOCKS ++
      t.wordOf Reg.BOOT_STATUS_STEP ++ leBytes 1 s.mgmt.wrote) ∧
  (∀ addr (s : State), s.portsUp = true → 3 ≤ s.bootStep → addr % 4 = 0 → 0x100000 ≤ addr → addr < 0x180000 →
    completes (.readReg addr) s fun t =>
      t.mgmt.smbOut = leBytes 1 0 ++ leBytes 4 (schedWord s.active.sched (addr - 0x100000))) ∧
  (∀ addr (val : Word) (s : State), s.portsUp = true → completes (.writeReg addr val (some false)) s fun t =>
    errUp t Err.MGMT_SMB_PEC ∧ t.active = s.active ∧ t.shadow = s.shadow) ∧
  (∀ addr (val : Word) (s : State), s.portsUp = true → 3 ≤ s.bootStep → addr % 4 = 0 → addr < 0x200000 → mappedCtl addr = false →
    completes (.writeReg addr val (some true)) s fun t => t.mgmt.wrote = 1 ∧ errUp t Err.TOP_UNMAPPED_ACCESS) ∧
  (∀ data (s : State), s.portsUp = true → 3 ≤ s.bootStep → completes (.mbxWrite data (some true)) s fun t =>
    t.mgmt.request = (s.mgmt.request ++ data).take 1024) ∧
  (∀ (s : State), s.portsUp = true → 3 ≤ s.bootStep → completes (.mbxClear (some true)) s fun t =>
    t.mgmt = { s.mgmt with request := [], tooBig := false }) ∧
  (∀ (s : State), s.portsUp = true → 3 ≤ s.bootStep → completes (.mbxSend (some true)) s fun t =>
    t.mgmt.request = [] ∧ t.mgmt.tooBig = false) ∧
  (∀ off (s : State), s.portsUp = true → 3 ≤ s.bootStep → completes (.mbxRead off) s fun t =>
    t.mgmt = { s.mgmt with ready := false, smbOut := (s.mgmt.response.drop off).take 32 }) ∧
  (∀ (s : State), s.portsUp = true → completes .smbTimeout s fun t =>
    raises s t Err.MGMT_SMB_TIMEOUT [Ctr.MGMT_SMB_TIMEOUTS.fld, Hdr.CNT_OVF 8]) ∧
  (∀ (s : State), s.portsUp = true → s.smbAlert = true → completes (.smbAlertResponse true) s fun t => t.regs = s.regs ∧
    t.mgmt = { s.mgmt with rose := false, ready := false, smbOut := leBytes 1 (s.rd Reg.MGMT_SMB_STATUS_ADDR) })

/-- UART_CHAR_RECEIVE of a heard character with a low start and a high stop counts it; with a low stop it is a framing
error. A first UART_BREAK of more than 320 samples is counted, raised, and drops the line. Each console command that
stands alone in the queue while the Reeve serves the ports is answered and leaves the queue: HELP, VER, STATE, RD, WR,
LEDGER, TELEM and a line that is none of them. (R567, R568, R569, R570) -/
def Obligations.ConsoleAndUart : Prop :=
  (∀ edge high samples (s : State), s.uartHears = true → 154 ≤ edge → s.mgmt.needHigh ≤ high → majority samples 7 = false →
    majority samples 151 = true → completes (.uartCharReceive edge high samples) s fun t =>
      t.rd Ctr.MGMT_UART_RX_CHARS.fld = (s.rd Ctr.MGMT_UART_RX_CHARS.fld + 1) % 2 ^ 64) ∧
  (∀ edge high samples (s : State), s.uartHears = true → 154 ≤ edge → s.mgmt.needHigh ≤ high → majority samples 7 = false →
    majority samples 151 = false → completes (.uartCharReceive edge high samples) s fun t =>
      t.mgmt.needHigh = 1 ∧ t.mgmt.rx = s.mgmt.rx ∧ errUp t Err.MGMT_UART_FRAMING) ∧
  (∀ low high (s : State), s.uartHears = true → 320 < low → s.mgmt.broken = false → completes (.uartBreak low high) s fun t =>
    t.mgmt.line = [] ∧ t.mgmt.broken = (high == 0) ∧ errUp t Err.MGMT_UART_BREAK) ∧
  (∀ (r : MbxReq) (s : State), s.mgmt.queue = [r] → s.reeveUp = true → r.chan = 2 →
    (conCmd r.bytes = .tooLong ∨ conCmd r.bytes = .bad → completes .consoleLineBad s fun t => t.mgmt.queue = []) ∧
    (conCmd r.bytes = .help → completes .consoleHelp s fun t => t.mgmt.queue = [] ∧ t.active = s.active) ∧
    (conCmd r.bytes = .ver → completes .consoleVer s fun t => t.mgmt.queue = [] ∧ t.active = s.active) ∧
    (conCmd r.bytes = .state → completes .consoleState s fun t => t.mgmt.queue = [] ∧ t.active = s.active) ∧
    (∀ a, conCmd r.bytes = .rd a → s.portStatus a false ≤ 1 → completes .consoleRd s fun t => t.mgmt.queue = [] ∧
      mget t.lastRead Path.reeve.num 0 = ((s.readWord .reeve a).1.getD 0) % 2 ^ 32) ∧
    (∀ a v, conCmd r.bytes = .wr a v → s.rd Reg.MGMT_UART_CTRL_WRITE_EN ≠ 1 → completes .consoleWr s fun t =>
      t.mgmt.queue = [] ∧ t.active = s.active ∧ t.shadow = s.shadow) ∧
    (∀ n, conCmd r.bytes = .ledger n → completes .consoleLedger s fun t => t.mgmt.queue = [] ∧ t.ledger = s.ledger) ∧
    (conCmd r.bytes = .telem → completes .consoleTelem s fun t => t.mgmt.queue = [] ∧ t.telem = s.telem))

/-- While JTAG is up: TAP_RESET loads IDCODE and marks the reset; BYPASS of an unlisted value, IDCODE, SAMPLE_PRELOAD,
EXTEST, CLAMP and HIGHZ load their IR; SAMPLE_PRELOAD and EXTEST take the shifted values, IDCODE answers the code.
REG_ACCESS with neither read nor write only loads the IR. REEVE_DBG, HEARTH_DBG, MILLER_DBG, MEM_ACCESS and the three
debug controls without their permission are refused and raised, and with it load their IR, and DEBUG_HALT of a
processor halts it. (R571, R573, R574) -/
def Obligations.JtagInstructions : Prop :=
  (∀ (s : State), s.jtagUp = true →
    (completes .tapReset s fun t => t.rd Reg.MGMT_JTAG_STATUS_IR = 1 ∧ t.rd Reg.MGMT_JTAG_STATUS_TLR = 1 ∧
      regsKept s t [Reg.MGMT_JTAG_STATUS_IR, Reg.MGMT_JTAG_STATUS_TLR] ∧ t.mgmt = s.mgmt) ∧
    (∀ ir, knownIr ir = false → completes (.bypass ir) s fun t => t = s.loadIr 0xFF) ∧
    (completes .idcode s fun t => mget t.lastRead Path.jtag.num 0 = s.idcode % 2 ^ 32 ∧ t.rd Reg.MGMT_JTAG_STATUS_IR = 1) ∧
    (∀ data, completes (.samplePreload data) s fun t => t.mgmt = { s.mgmt with bscan := data } ∧
      t.rd Reg.MGMT_JTAG_STATUS_IR = 2) ∧
    (∀ data, completes (.extest data) s fun t => t.mgmt = { s.mgmt with bscan := data } ∧
      t.rd Reg.MGMT_JTAG_STATUS_IR = 3) ∧
    (completes .clamp s fun t => t = s.loadIr 0x04) ∧ (completes .highz s fun t => t = s.loadIr 0x05) ∧
    (∀ addr (val : Word), completes (.regAccess 0 addr val) s fun t => t = s.loadIr 0x10) ∧
    (∀ addr (val : Word), completes (.regAccess 1 (4 * addr) val) s fun t =>
      s.portStatus (4 * addr) false = 0 → 0x100000 ≤ 4 * addr → 4 * addr < 0x180000 →
      t.mgmt.opData = schedWord s.active.sched (4 * addr - 0x100000))) ∧
  (∀ (s : State), s.jtagUp = true → ∀ c ∈ ([(Instr.reeveDbg 1 0 0, 0), (.hearthDbg 1 0 0, 1), (.millerDbg 1 0 0, 2),
      (.memAccess 1 0 0 .ok, 3), (.debugHalt 0, 0), (.debugStep 1, 1), (.debugResume 3, 2)] : List (Instr × Nat)),
    bit (s.rd Reg.SEC_STATUS_PERMS) c.2 = false → completes c.1 s fun t =>
      t.rd Reg.MGMT_JTAG_STATUS_IR = 0xFF ∧ t.rd Reg.MGMT_JTAG_STATUS_REFUSED = 1 ∧ errUp t Err.MGMT_JTAG_REFUSED) ∧
  (∀ (s : State) (val : Word) addr, s.jtagUp = true → ∀ c ∈ ([(Instr.reeveDbg 0 addr val, 0, 0x20), (.hearthDbg 0 addr val, 1, 0x21),
      (.millerDbg 0 addr val, 2, 0x22), (.memAccess 0 addr val .ok, 3, 0x23)] : List (Instr × Nat × Nat)),
    bit (s.rd Reg.SEC_STATUS_PERMS) c.2.1 = true → completes c.1 s fun t =>
      t.rd Reg.MGMT_JTAG_STATUS_IR = c.2.2 ∧ t.rd Reg.MGMT_JTAG_STATUS_REFUSED = 0 ∧ t.mgmt = s.mgmt) ∧
  (∀ (s : State) u, s.jtagUp = true → u < 4 → bit (s.rd Reg.SEC_STATUS_PERMS) (if u = 0 then 0 else if u = 3 then 2 else 1) = true →
    (completes (.debugHalt u) s fun t => (t.unit u).halted = true) ∧
    (completes (.debugStep u) s fun t => t.mgmt.queue = s.mgmt.queue) ∧
    (completes (.debugResume u) s fun t => (t.unit u).halted = false))

/-- SCRUB_SLOT in the bank's slot scrubs its next line; an uncorrectable one is poisoned and raised. SPARE_BIST_SLOT
in a fifth slot marches a line of a spare and marks a failing spare. REMAP_COPY_SLOT copies the next line of the row,
and REMAP_SWITCH after the last maps the row to its spare. DITHER_CAL_PASS goes on to the next ferry or ends the pass,
and an odd efficiency is raised. A CALIB request of a known kind with the key is accepted with its kind and ferry, any
other answers RESULT 5. CALIB_L0_CHECK_END and LANE_BIST_END end with their results. TELEM_AGE_RESET marks its
element. (R410, R411, R518, R519, R520, R521, R524, R525, R526, R528) -/
def Obligations.BackgroundMaintenance : Prop :=
  (∀ bank (s : State), s.slotDue bank = true → (s.bank bank).slot ≠ 4 → s.rd (Hdr.INJ_COUNT 0x62) = 0 →
    s.poisoned (lineAddr bank (s.bank bank).line / 64) = false → completes (.scrubSlot bank 0 false) s fun t =>
      (t.bank bank).line = ((s.bank bank).line + 1) % 16384 ∧ (t.bank bank).slot = ((s.bank bank).slot + 1) % 5 ∧
      t.granary = s.granary ∧
      t.rd Ctr.GRANARY_SCRUB_LINES.fld = (s.rd Ctr.GRANARY_SCRUB_LINES.fld + 1) % 2 ^ 64) ∧
  (∀ bank fixed (s : State), s.slotDue bank = true → (s.bank bank).slot ≠ 4 → completes (.scrubSlot bank fixed true) s fun t =>
    (t.bank bank).line = ((s.bank bank).line + 1) % 16384 ∧ errUp t Err.GRANARY_SCRUB_UE ∧
    t.poisoned (lineAddr bank (s.bank bank).line / 64) = true ∧ t.granary.mem = s.granary.mem) ∧
  (∀ bank (s : State), s.slotDue bank = true → (s.bank bank).slot = 4 → (s.bank bank).copy = none → s.calib.bist = false →
    completes (.spareBistSlot bank true) s fun t =>
      (t.bank bank).march = ((s.bank bank).skipUsed 16 (s.bank bank).march + 1) % 2048 ∧
      bit (mget (t.bank bank).passed ((s.bank bank).skipUsed 16 (s.bank bank).march / 128) 0)
        ((s.bank bank).skipUsed 16 (s.bank bank).march % 128) = true ∧
      t.rd Ctr.TELEM_SPARE_BIST_LINES.fld = (s.rd Ctr.TELEM_SPARE_BIST_LINES.fld + 1) % 2 ^ 64) ∧
  (∀ bank (s : State), s.slotDue bank = true → (s.bank bank).slot = 4 → (s.bank bank).copy = none → s.calib.bist = false →
    completes (.spareBistSlot bank false) s fun t => errUp t Err.TELEM_SPARE_BIST_FAIL ∧
      bit (t.bank bank).failed ((s.bank bank).skipUsed 16 (s.bank bank).march / 128) = true) ∧
  (∀ bank row r l (s : State), (s.bank bank).copy = some (row, r, l) → s.slotDue bank = true → (s.bank bank).slot = 4 → l < 128 →
    s.rd (Hdr.INJ_COUNT 0x62) = 0 → (∀ n ∈ linesOf (lineAddr bank (128 * row + l)) 64, s.poisoned n = false) →
    completes (.remapCopySlot bank .ok) s fun t => (t.bank bank).copy = some (row, r, l + 1) ∧ t.granary = s.granary) ∧
  (∀ bank row r (s : State), (s.bank bank).copy = some (row, r, 128) → (s.bank bank).copied ≤ s.ticks →
    completes (.remapSwitch bank) s fun t => mfind (t.bank bank).map row = some r ∧ bit (t.bank bank).used r = true ∧
      errUp t Err.GRANARY_REMAP ∧ t.rd Ctr.GRANARY_REMAPS.fld = (s.rd Ctr.GRANARY_REMAPS.fld + 1) % 2 ^ 64) ∧
  (∀ f p g rest (s : State), s.calib.dither = some p → p.left = f :: g :: rest → p.since + 512 ≤ s.ticks → s.inLimp = false →
    completes (.ditherCalPass f []) s fun t =>
      t.calib = { s.calib with dither := some { p with left := g :: rest, since := s.ticks } } ∧ t.regs = s.regs) ∧
  (∀ f p (s : State), s.calib.dither = some p → p.left = [f] → p.since + 512 ≤ s.ticks → s.inLimp = false →
    completes (.ditherCalPass f []) s fun t =>
      t.rd Ctr.TELEM_DITHER_CAL_PASSES.fld = (s.rd Ctr.TELEM_DITHER_CAL_PASSES.fld + 1) % 2 ^ 64) ∧
  (∀ f p h new rest (s : State), s.calib.dither = some p → p.left = f :: rest → p.since + 512 ≤ s.ticks → s.inLimp = false →
    h / 256 = f → s.elementLocked h = true → (s.cal 1 h).natAbs < 4 * (new - s.cal 1 h).natAbs →
    completes (.ditherCalPass f [(h, new)]) s fun t => errUp t Err.TELEM_DITHER_CAL_ODD ∧ t.alm = s.alm) ∧
  (∀ (val : Word) (s : State), bits val.toNat 8 8 = 0xA5 → val.toNat % 16 = 0 → completes (.calibDitherCal val) s fun t =>
    t.rd Reg.CALIB_STATUS_KIND = 0 ∧ t.rd Reg.CALIB_STATUS_FERRY = bits val.toNat 5 3 ∧
    t.rd Reg.CALIB_STATUS_RESULT = 1 ∧ bit (t.rd Reg.CALIB_STATUS_PENDING) 0 = true ∧ t.calib.dither.isSome = true) ∧
  (∀ (val : Word) (s : State), bits val.toNat 8 8 = 0xA5 → val.toNat % 16 = 1 → completes (.calibL0Check val) s fun t =>
    t.rd Reg.CALIB_STATUS_KIND = 1 ∧ t.rd Reg.CALIB_STATUS_RESULT = 1 ∧ t.calib.l0Left = 1024 ∧ t.calib.l0Ferries =
      mergeScope s.calib.l0Ferries (if bit val.toNat 4 then 0xFF else 2 ^ bits val.toNat 5 3)) ∧
  (∀ (val : Word) (s : State), bits val.toNat 8 8 = 0xA5 → val.toNat % 16 = 2 → completes (.calibSpareBist val) s fun t =>
    t.rd Reg.CALIB_STATUS_KIND = 2 ∧ t.rd Reg.CALIB_STATUS_RESULT = 1 ∧ t.calib.bist = true) ∧
  (∀ (val : Word) (s : State), bits val.toNat 8 8 = 0xA5 → val.toNat % 16 = 3 → completes (.calibFerryRelock val) s fun t =>
    t.rd Reg.CALIB_STATUS_KIND = 3 ∧ t.calib = { s.calib with decide := s.calib.decide ++ [(3, bits val.toNat 5 3)] }) ∧
  (∀ (val : Word) (s : State), bits val.toNat 8 8 = 0xA5 → val.toNat % 16 = 4 → completes (.calibLaneBist val) s fun t =>
    t.rd Reg.CALIB_STATUS_KIND = 4 ∧ t.calib = { s.calib with decide := s.calib.decide ++ [(4, bits val.toNat 5 3)] }) ∧
  (∀ (val : Word) (s : State), bits val.toNat 8 8 ≠ 0xA5 ∨ 4 < val.toNat % 16 → completes (.calibReqBad val) s fun t =>
    t.rd Reg.CALIB_STATUS_RESULT = 5 ∧ regsKept s t [Reg.CALIB_STATUS_RESULT] ∧ frame [.regs] s t) ∧
  (∀ (s : State), s.calib.l0Ferries ≠ 0 → s.calib.l0Left = 0 → completes .calibL0CheckEnd s fun t => t.calib.l0Ferries = 0 ∧
    bit (t.rd Reg.CALIB_STATUS_PENDING) 1 = false ∧ t.rd Reg.CALIB_STATUS_RESULT = if s.calib.l0Bad then 6 else 3) ∧
  (∀ f j e p (s : State), f < 8 → j < 32 → s.calib.links.find? (fun p => p.1 == 32 * f + j) = some p → s.stageOf (32 * f + j) = 1 →
    s.is (Reg.FERRY_LANE_STATE_EQ_CONVERGED f j) = true → completes (.laneBistEnd f j (some e)) s fun t =>
      t.calib.links = s.calib.links.erase p ∧ mget t.calib.errors j 0 = satAt 0xFFFFFFFF e ∧
      t.stageOf (32 * f + j) = 0) ∧
  (∀ (val : Word) (s : State), completes (.telemAgeReset val) s fun t =>
    t.age (val.toNat % 64) = { s.age (val.toNat % 64) with renew := true } ∧ frame [.ageing] s t)

/-- TELEMETRY_CAPTURE that is due counts the epoch and puts its record first of the last 16. TRACE_CTRL_WRITE stores
its six bits, and EN also ends FULL and FROZEN. TRACE_GROUP_STREAM that may send takes the oldest complete group and
counts it. CURVE_SHADOW_WRITE stores its word, or is dropped with an error while the swap is armed or the bank is
held. GASP_CLEAR empties the last-gasp area unless it is LOST. BELL_BOUNDARY of a running block counts one bell: the
number that was loaded, or the next, modulo 2^48; of a held one it only lets time pass. (R35, R61, R112, R448, R449,
R513, R530, R556) -/
def Obligations.TelemetryTraceAndCurves : Prop :=
  (∀ (s : State), s.captureDue = true → completes .telemetryCapture s fun t =>
    t.telem.recs = (s.telemRecord :: s.telem.recs).take 16 ∧ t.telem.captured = s.ticks + 1 ∧ t.telem.tasks = 0 ∧
    t.rd Ctr.TELEM_EPOCHS.fld = (s.rd Ctr.TELEM_EPOCHS.fld + 1) % 2 ^ 64) ∧
  (∀ (val : Word) (s : State), completes (.traceCtrlWrite val) s fun t => t.rd Reg.TRACE_CTRL_EN = b2n (bit val.toNat 0) ∧
    t.rd Reg.TRACE_CTRL_WRAP = b2n (bit val.toNat 1) ∧ t.rd Reg.TRACE_CTRL_STREAM = b2n (bit val.toNat 2) ∧
    t.rd Reg.TRACE_CTRL_TAG_FILTER = b2n (bit val.toNat 3) ∧ t.rd Reg.TRACE_CTRL_ROW_FILTER = b2n (bit val.toNat 4) ∧
    t.rd Reg.TRACE_CTRL_TRIG_EN = b2n (bit val.toNat 5) ∧ frame [.regs, .mill] s t ∧
    (bit val.toNat 0 = true → t.rd Reg.TRACE_STATUS_FULL = 0 ∧ t.rd Reg.TRACE_STATUS_FROZEN = 0 ∧
      t.mill.trace.count = 0 ∧ t.mill.trace.fired = false)) ∧
  (∀ g rest (s : State), s.mill.trace.groups = g :: rest → s.is Reg.TRACE_CTRL_STREAM = true → s.farDbg = true →
    s.rd Reg.TRACE_STREAM_SIZE_KIB4 ≠ 0 → mget s.uahus.credits 3 0 ≠ 0 →
    (s.window (bits s.traceAddr 32 8)).admits true (s.traceAddr % 2 ^ 32) 4096 = true →
    completes .traceGroupStream s fun t => t.mill.trace.groups = rest ∧
      t.mill.trace.sent = (s.mill.trace.sent + 1) % s.rd Reg.TRACE_STREAM_SIZE_KIB4 ∧
      t.rd Ctr.TRACE_GROUPS_STREAMED.fld = (s.rd Ctr.TRACE_GROUPS_STREAMED.fld + 1) % 2 ^ 64) ∧
  (∀ path k (val : Word) (s : State), k < 80 → s.armed 0x64 = false → s.bankHeld (1 - s.rd Reg.LOOM_STATUS_ACTIVE_BANK) = false →
    completes (.curveShadowWrite path k val) s fun t =>
      mget t.shadow.pwl (80 * s.rd (Reg.LOOM_PWL_SEL_TABLE path.num) + k) 0 = val.toNat ∧
      t.rd (Hdr.SHADOW_WRITTEN 0x64) = 1 ∧ t.active = s.active ∧ frame [.regs, .shadow] s t) ∧
  (∀ path k (val : Word) (s : State), k < 80 → s.armed 0x64 = false → s.bankHeld (1 - s.rd Reg.LOOM_STATUS_ACTIVE_BANK) = true →
    completes (.curveShadowWrite path k val) s fun t => t.shadow = s.shadow ∧ errUp t Err.LOOM_CURVE_BUSY ∧
      t.rd Ctr.LOOM_CURVE_WRITES_DROPPED.fld = (s.rd Ctr.LOOM_CURVE_WRITES_DROPPED.fld + 1) % 2 ^ 64) ∧
  (∀ path k (val : Word) (s : State), k < 80 → s.armed 0x64 = true → completes (.curveShadowWrite path k val) s fun t =>
    t.shadow = s.shadow ∧ errUp t { page := 0x64, bit := 30, cls := 0 }) ∧
  (∀ (s : State), s.is Reg.LEDGER_STATUS_LOST = false → exec .gaspClear s = .next { s with ledger := { s.ledger with gasp := [] } }) ∧
  (∀ (s : State), s.is Reg.LEDGER_STATUS_LOST = true → exec .gaspClear s = .next s) ∧
  (∀ bad (s : State), s.boot.running = true → completes (.bellBoundary bad) s fun t => t.ticks = s.ticks + 1 ∧
    t.bellNum = (s.bell.nextNum.getD (s.bellNum + 1)) % 2 ^ 48) ∧
  (∀ bad (s : State), s.boot.running = false → exec (.bellBoundary bad) s = .next { s with ticks := s.ticks + 1 })
end

