-- ==== Sys2Proof/Laws/Map.lean ====
section
/-! SUPPORT. Sys2Proof/Laws/Map.lean: what a sparse table answers after a write, that writes keep its keys rising, and
the same for the byte memories held in such tables. -/

namespace Sys2Proof.Machine

variable {α : Type}

/-- What every step of a fold keeps, the fold keeps. -/
theorem foldl_keeps {σ β γ : Type} (φ : σ → γ) (g : σ → β → σ) (h : ∀ a x, φ (g a x) = φ a) (l : List β) (s : σ) :
    φ (l.foldl g s) = φ s := by
  induction l generalizing s with
  | nil => rfl
  | cons x l ih => exact (ih (g s x)).trans (h s x)

/-- The last link of the chain of keys: every key of the table lies above `b`. -/
def keysAbove (b : Nat) (m : Map α) : Prop := ∀ e ∈ m, b < e.1

@[simp] theorem mfind_nil (q : Nat) : mfind ([] : Map α) q = none := rfl

@[simp] theorem mget_nil (q : Nat) (d : α) : mget ([] : Map α) q d = d := rfl

theorem mfind_mput_same (m : Map α) (q : Nat) (v : α) : mfind (mput m q v) q = some v := by
  induction m with
  | nil => simp [mput, mfind]
  | cons e t ih =>
    obtain ⟨k, x⟩ := e
    by_cases h1 : q < k
    · simp [mput, h1, mfind]
    · by_cases h2 : q = k
      · simp [mput, h2, mfind]
      · have h3 : k ≠ q := fun h => h2 h.symm
        simp [mput, h1, h2, mfind, h3, ih]

theorem mfind_mput_ne (m : Map α) (q r : Nat) (v : α) (h : r ≠ q) : mfind (mput m q v) r = mfind m r := by
  have hq : q ≠ r := fun e => h e.symm
  induction m with
  | nil => simp [mput, mfind, hq]
  | cons e t ih =>
    obtain ⟨k, x⟩ := e
    by_cases h1 : q < k
    · simp [mput, h1, mfind, hq]
    · by_cases h2 : q = k
      · subst h2; simp [mput, mfind, hq]
      · simp only [mput, h1, h2, if_false, mfind, ih]

theorem mfind_mdel_same (m : Map α) (q : Nat) : mfind (mdel m q) q = none := by
  induction m with
  | nil => rfl
  | cons e t ih =>
    obtain ⟨k, x⟩ := e
    by_cases h : k = q
    · simp [mdel, h, ih]
    · simp [mdel, h, mfind, ih]

theorem mfind_mdel_ne (m : Map α) (q r : Nat) (h : r ≠ q) : mfind (mdel m q) r = mfind m r := by
  induction m with
  | nil => rfl
  | cons e t ih =>
    obtain ⟨k, x⟩ := e
    by_cases hk : k = q
    · subst hk
      have hkr : k ≠ r := fun e => h e.symm
      simp [mdel, mfind, hkr, ih]
    · simp only [mdel, hk, if_false, mfind, ih]

/-- A read of the key just put answers what was put. -/
@[simp] theorem mget_mput_same (m : Map α) (q : Nat) (v d : α) : mget (mput m q v) q d = v := by
  simp [mget, mfind_mput_same]

/-- A put leaves every other key alone. -/
theorem mget_mput_ne (m : Map α) (q r : Nat) (v d : α) (h : r ≠ q) : mget (mput m q v) r d = mget m r d := by
  simp [mget, mfind_mput_ne _ _ _ _ h]

/-- A read of the key just set answers what was set. -/
@[simp] theorem mget_mset_same [DecidableEq α] (m : Map α) (q : Nat) (v d : α) : mget (mset m q v d) q d = v := by
  unfold mset
  split
  · next h => simp [mget, mfind_mdel_same, h]
  · simp

/-- A set leaves every other key alone, whatever the reader's default. -/
theorem mget_mset_ne [DecidableEq α] (m : Map α) (q r : Nat) (v d d' : α) (h : r ≠ q) :
    mget (mset m q v d) r d' = mget m r d' := by
  unfold mset
  split
  · simp [mget, mfind_mdel_ne _ _ _ h]
  · exact mget_mput_ne _ _ _ _ _ h

theorem keysAbove_mono {b c : Nat} {m : Map α} (h : keysAbove c m) (hb : b ≤ c) : keysAbove b m :=
  fun e he => Nat.lt_of_le_of_lt hb (h e he)

/-- A table is in order exactly when its head lies below the rest and the rest is in order. -/
theorem mapSorted_cons (k : Nat) (x : α) (t : Map α) :
    mapSorted ((k, x) :: t) = true ↔ keysAbove k t ∧ mapSorted t = true := by
  induction t generalizing k x with
  | nil => simp [mapSorted, keysAbove]
  | cons e t ih =>
    obtain ⟨k', y⟩ := e
    simp only [mapSorted, Bool.and_eq_true, decide_eq_true_eq]
    constructor
    · rintro ⟨h1, h2⟩
      refine ⟨fun e he => ?_, h2⟩
      rcases List.mem_cons.1 he with rfl | he
      · exact h1
      · exact Nat.lt_trans h1 (((ih k' y).1 h2).1 e he)
    · rintro ⟨h1, h2⟩
      exact ⟨h1 _ (List.mem_cons_self ..), h2⟩

theorem keysAbove_mput {b : Nat} {m : Map α} {q : Nat} (v : α) (h : keysAbove b m) (hq : b < q) :
    keysAbove b (mput m q v) := by
  induction m with
  | nil => intro e he; simp [mput] at he; subst he; exact hq
  | cons e t ih =>
    obtain ⟨k, x⟩ := e
    intro e he
    unfold mput at he
    split at he
    · rcases List.mem_cons.1 he with rfl | he
      · exact hq
      · exact h e he
    · split at he
      · rcases List.mem_cons.1 he with rfl | he
        · exact hq
        · exact h e (List.mem_cons_of_mem _ he)
      · rcases List.mem_cons.1 he with rfl | he
        · exact h _ (List.mem_cons_self ..)
        · exact ih (fun e he => h e (List.mem_cons_of_mem _ he)) e he

theorem keysAbove_mdel {b : Nat} {m : Map α} (q : Nat) (h : keysAbove b m) : keysAbove b (mdel m q) := by
  induction m with
  | nil => exact h
  | cons e t ih =>
    obtain ⟨k, x⟩ := e
    intro e he
    have ht := ih (fun e he => h e (List.mem_cons_of_mem _ he))
    unfold mdel at he
    split at he
    · exact ht e he
    · rcases List.mem_cons.1 he with rfl | he
      · exact h _ (List.mem_cons_self ..)
      · exact ht e he

/-- A put keeps the table in order. -/
theorem mapSorted_mput {m : Map α} (q : Nat) (v : α) (h : mapSorted m = true) : mapSorted (mput m q v) = true := by
  induction m with
  | nil => rfl
  | cons e t ih =>
    obtain ⟨k, x⟩ := e
    obtain ⟨ha, ht⟩ := (mapSorted_cons k x t).1 h
    unfold mput
    split
    · next hq =>
      refine (mapSorted_cons _ _ _).2 ⟨fun e he => ?_, h⟩
      rcases List.mem_cons.1 he with rfl | he
      · exact hq
      · exact Nat.lt_trans hq (ha e he)
    · split
      · next hq => subst hq; exact (mapSorted_cons _ _ _).2 ⟨ha, ht⟩
      · next h1 h2 =>
        have hlt : k < q := by omega
        exact (mapSorted_cons _ _ _).2 ⟨keysAbove_mput v ha hlt, ih ht⟩

/-- A removal keeps the table in order. -/
theorem mapSorted_mdel {m : Map α} (q : Nat) (h : mapSorted m = true) : mapSorted (mdel m q) = true := by
  induction m with
  | nil => rfl
  | cons e t ih =>
    obtain ⟨k, x⟩ := e
    obtain ⟨ha, ht⟩ := (mapSorted_cons k x t).1 h
    unfold mdel
    split
    · exact ih ht
    · exact (mapSorted_cons _ _ _).2 ⟨keysAbove_mdel q ha, ih ht⟩

/-- A set keeps the table in order. -/
theorem mapSorted_mset [DecidableEq α] {m : Map α} (q : Nat) (v d : α) (h : mapSorted m = true) :
    mapSorted (mset m q v d) = true := by
  unfold mset
  split
  · exact mapSorted_mdel q h
  · exact mapSorted_mput q v h

theorem keysAbove_filter {b : Nat} {m : Map α} (p : Nat × α → Bool) (h : keysAbove b m) :
    keysAbove b (m.filter p) := fun e he => h e (List.mem_filter.1 he).1

/-- Leaving entries out keeps the table in order. -/
theorem mapSorted_filter {m : Map α} (p : Nat × α → Bool) (h : mapSorted m = true) :
    mapSorted (m.filter p) = true := by
  induction m with
  | nil => rfl
  | cons e t ih =>
    obtain ⟨k, x⟩ := e
    obtain ⟨ha, ht⟩ := (mapSorted_cons k x t).1 h
    by_cases hp : p (k, x) = true
    · rw [List.filter_cons_of_pos hp]
      exact (mapSorted_cons _ _ _).2 ⟨keysAbove_filter p ha, ih ht⟩
    · rw [List.filter_cons_of_neg hp]
      exact ih ht

/-! ### Byte memories -/

/-- Every byte of a memory write outside the bytes written reads as before. -/
theorem mget_writeBytes_out (m : Map Byte) (d d' : Byte) (a : Nat) (bs : List Byte) (q : Nat)
    (h : q < a ∨ a + bs.length ≤ q) : mget (writeBytes m d a bs) q d' = mget m q d' := by
  induction bs generalizing m a with
  | nil => rfl
  | cons b t ih =>
    simp only [List.length_cons] at h
    rw [writeBytes, ih _ _ (by omega), mget_mset_ne _ _ _ _ _ _ (by omega)]

/-- A byte of the written range reads as the byte written there. -/
theorem mget_writeBytes_in (m : Map Byte) (d : Byte) (a : Nat) (bs : List Byte) (i : Nat) (h : i < bs.length) :
    mget (writeBytes m d a bs) (a + i) d = bs[i] := by
  induction bs generalizing m a i with
  | nil => simp at h
  | cons b t ih =>
    cases i with
    | zero =>
      rw [writeBytes, mget_writeBytes_out _ _ _ _ _ _ (by omega)]
      simp
    | succ i =>
      have := ih (mset m a b d) (a + 1) i (by simpa using h)
      rw [writeBytes, show a + (i + 1) = a + 1 + i by omega, this]
      rfl

/-- A memory write keeps the memory in order. -/
theorem mapSorted_writeBytes {m : Map Byte} (d : Byte) (a : Nat) (bs : List Byte) (h : mapSorted m = true) :
    mapSorted (writeBytes m d a bs) = true := by
  induction bs generalizing m a with
  | nil => exact h
  | cons b t ih => exact ih _ (mapSorted_mset a b d h)

/-! ### The canonical form of a memory -/

theorem all_mdel (p : α → Bool) {m : Map α} (q : Nat) (h : m.all (fun e => p e.2) = true) :
    (mdel m q).all (fun e => p e.2) = true := by
  induction m with
  | nil => rfl
  | cons e t ih =>
    obtain ⟨k, x⟩ := e
    simp only [List.all_cons, Bool.and_eq_true] at h
    unfold mdel
    split
    · exact ih h.2
    · simp only [List.all_cons, Bool.and_eq_true]; exact ⟨h.1, ih h.2⟩

theorem all_mput (p : α → Bool) {m : Map α} (q : Nat) (v : α) (hv : p v = true)
    (h : m.all (fun e => p e.2) = true) : (mput m q v).all (fun e => p e.2) = true := by
  induction m with
  | nil => simp [mput, hv]
  | cons e t ih =>
    obtain ⟨k, x⟩ := e
    have h' := h
    simp only [List.all_cons, Bool.and_eq_true] at h
    unfold mput
    split
    · simp only [List.all_cons, Bool.and_eq_true]; exact ⟨hv, h.1, h.2⟩
    · split
      · simp only [List.all_cons, Bool.and_eq_true]; exact ⟨hv, h.2⟩
      · simp only [List.all_cons, Bool.and_eq_true]; exact ⟨h.1, ih h.2⟩

/-- A write of one byte keeps the canonical form. -/
theorem memWf_mset {m : Map Byte} {d : Byte} (q : Nat) (v : Byte) (h : memWf m d = true) :
    memWf (mset m q v d) d = true := by
  simp only [memWf, Bool.and_eq_true] at h ⊢
  refine ⟨mapSorted_mset q v d h.1, ?_⟩
  unfold mset
  split
  · exact all_mdel (fun b => b != d) q h.2
  · next hv => exact all_mput (fun b => b != d) q v (by simpa using hv) h.2

/-- A write of many bytes keeps the canonical form. -/
theorem memWf_writeBytes {m : Map Byte} {d : Byte} (a : Nat) (bs : List Byte) (h : memWf m d = true) :
    memWf (writeBytes m d a bs) d = true := by
  induction bs generalizing m a with
  | nil => exact h
  | cons b t ih => exact ih _ (memWf_mset a b h)

end Sys2Proof.Machine
end

