-- ==== Sys2Proof/Laws/State.lean ====
section
/-! SUPPORT. Sys2Proof/Laws/State.lean: what the named operations over registers, counters and errors leave of each
field of the state, and what a register field reads after each of them. -/

namespace Sys2Proof.Machine

/-! ### A register write -/

@[simp] theorem wr_bellNum (s : State) (f : Fld) (v : Nat) : (s.wr f v).bellNum = s.bellNum := rfl
@[simp] theorem wr_ticks (s : State) (f : Fld) (v : Nat) : (s.wr f v).ticks = s.ticks := rfl
@[simp] theorem wr_draws (s : State) (f : Fld) (v : Nat) : (s.wr f v).draws = s.draws := rfl
@[simp] theorem wr_pages (s : State) (f : Fld) (v : Nat) : (s.wr f v).pages = s.pages := rfl
@[simp] theorem wr_ledger (s : State) (f : Fld) (v : Nat) : (s.wr f v).ledger = s.ledger := rfl
@[simp] theorem wr_alarm (s : State) (f : Fld) (v : Nat) : (s.wr f v).alarm = s.alarm := rfl
@[simp] theorem wr_bell (s : State) (f : Fld) (v : Nat) : (s.wr f v).bell = s.bell := rfl
@[simp] theorem wr_pins (s : State) (f : Fld) (v : Nat) : (s.wr f v).pins = s.pins := rfl
@[simp] theorem wr_thermal (s : State) (f : Fld) (v : Nat) : (s.wr f v).thermal = s.thermal := rfl
@[simp] theorem wr_active (s : State) (f : Fld) (v : Nat) : (s.wr f v).active = s.active := rfl
@[simp] theorem wr_shadow (s : State) (f : Fld) (v : Nat) : (s.wr f v).shadow = s.shadow := rfl
@[simp] theorem wr_lastRead (s : State) (f : Fld) (v : Nat) : (s.wr f v).lastRead = s.lastRead := rfl
@[simp] theorem wr_alm (s : State) (f : Fld) (v : Nat) : (s.wr f v).alm = s.alm := rfl
@[simp] theorem wr_scratch (s : State) (f : Fld) (v : Nat) : (s.wr f v).scratch = s.scratch := rfl
@[simp] theorem wr_boot (s : State) (f : Fld) (v : Nat) : (s.wr f v).boot = s.boot := rfl
@[simp] theorem wr_uahus (s : State) (f : Fld) (v : Nat) : (s.wr f v).uahus = s.uahus := rfl
@[simp] theorem wr_lantern (s : State) (f : Fld) (v : Nat) : (s.wr f v).lantern = s.lantern := rfl
@[simp] theorem wr_ageing (s : State) (f : Fld) (v : Nat) : (s.wr f v).ageing = s.ageing := rfl
@[simp] theorem wr_codes (s : State) (f : Fld) (v : Nat) : (s.wr f v).codes = s.codes := rfl
@[simp] theorem wr_monitors (s : State) (f : Fld) (v : Nat) : (s.wr f v).monitors = s.monitors := rfl
@[simp] theorem wr_adcFault (s : State) (f : Fld) (v : Nat) : (s.wr f v).adcFault = s.adcFault := rfl
@[simp] theorem wr_twins (s : State) (f : Fld) (v : Nat) : (s.wr f v).twins = s.twins := rfl
@[simp] theorem wr_links (s : State) (f : Fld) (v : Nat) : (s.wr f v).links = s.links := rfl
@[simp] theorem wr_hops (s : State) (f : Fld) (v : Nat) : (s.wr f v).hops = s.hops := rfl
@[simp] theorem wr_tx (s : State) (f : Fld) (v : Nat) : (s.wr f v).tx = s.tx := rfl
@[simp] theorem wr_shepherd (s : State) (f : Fld) (v : Nat) : (s.wr f v).shepherd = s.shepherd := rfl
@[simp] theorem wr_sched (s : State) (f : Fld) (v : Nat) : (s.wr f v).sched = s.sched := rfl
@[simp] theorem wr_tasks (s : State) (f : Fld) (v : Nat) : (s.wr f v).tasks = s.tasks := rfl
@[simp] theorem wr_ring (s : State) (f : Fld) (v : Nat) : (s.wr f v).ring = s.ring := rfl
@[simp] theorem wr_granary (s : State) (f : Fld) (v : Nat) : (s.wr f v).granary = s.granary := rfl
@[simp] theorem wr_miller (s : State) (f : Fld) (v : Nat) : (s.wr f v).miller = s.miller := rfl
@[simp] theorem wr_mill (s : State) (f : Fld) (v : Nat) : (s.wr f v).mill = s.mill := rfl
@[simp] theorem wr_groups (s : State) (f : Fld) (v : Nat) : (s.wr f v).groups = s.groups := rfl
@[simp] theorem wr_routines (s : State) (f : Fld) (v : Nat) : (s.wr f v).routines = s.routines := rfl
@[simp] theorem wr_banks (s : State) (f : Fld) (v : Nat) : (s.wr f v).banks = s.banks := rfl
@[simp] theorem wr_calib (s : State) (f : Fld) (v : Nat) : (s.wr f v).calib = s.calib := rfl
@[simp] theorem wr_telem (s : State) (f : Fld) (v : Nat) : (s.wr f v).telem = s.telem := rfl
@[simp] theorem wr_mgmt (s : State) (f : Fld) (v : Nat) : (s.wr f v).mgmt = s.mgmt := rfl
@[simp] theorem wr_pending (s : State) (f : Fld) (v : Nat) : (s.wr f v).pending = s.pending := rfl

/-- Two states agree if they agree in every field. -/
@[ext] theorem state_ext {s t : State} (h_regs : s.regs = t.regs) (h_bellNum : s.bellNum = t.bellNum)
    (h_ticks : s.ticks = t.ticks) (h_draws : s.draws = t.draws) (h_pages : s.pages = t.pages)
    (h_ledger : s.ledger = t.ledger) (h_alarm : s.alarm = t.alarm) (h_bell : s.bell = t.bell) (h_pins : s.pins = t.pins)
    (h_thermal : s.thermal = t.thermal) (h_active : s.active = t.active) (h_shadow : s.shadow = t.shadow) (h_lastRead : s.lastRead = t.lastRead)
    (h_alm : s.alm = t.alm) (h_scratch : s.scratch = t.scratch)
    (h_boot : s.boot = t.boot) (h_uahus : s.uahus = t.uahus) (h_lantern : s.lantern = t.lantern) (h_ageing : s.ageing = t.ageing)
    (h_codes : s.codes = t.codes) (h_monitors : s.monitors = t.monitors) (h_adcFault : s.adcFault = t.adcFault)
    (h_twins : s.twins = t.twins) (h_links : s.links = t.links) (h_hops : s.hops = t.hops) (h_tx : s.tx = t.tx)
    (h_shepherd : s.shepherd = t.shepherd) (h_sched : s.sched = t.sched) (h_tasks : s.tasks = t.tasks)
    (h_ring : s.ring = t.ring) (h_granary : s.granary = t.granary) (h_miller : s.miller = t.miller)
    (h_mill : s.mill = t.mill) (h_groups : s.groups = t.groups) (h_routines : s.routines = t.routines)
    (h_banks : s.banks = t.banks) (h_calib : s.calib = t.calib) (h_telem : s.telem = t.telem) (h_mgmt : s.mgmt = t.mgmt) (h_pending : s.pending = t.pending) : s = t := by
  cases s; cases t; simp_all

theorem wrB_eq (s : State) (f : Fld) (b : Bool) : s.wrB f b = s.wr f (b2n b) := rfl
theorem wrI_eq (s : State) (f : Fld) (v : Int) : s.wrI f v = s.wr f (ofSigned f.width v) := rfl
theorem addSat_eq (s : State) (f : Fld) (n : Nat) : s.addSat f n = s.wr f (satAt (2 ^ f.width - 1) (s.rd f + n)) := rfl

/-- A read depends on the register store alone. -/
theorem rd_congr {s t : State} (h : t.regs = s.regs) (f : Fld) : t.rd f = s.rd f := by simp [State.rd, h]

/-- A field just written reads as the value cut to its width. -/
@[simp] theorem rd_wr_same (s : State) (f : Fld) (v : Nat) : (s.wr f v).rd f = v % 2 ^ f.width := by
  simp [State.rd, State.wr]

/-- A write leaves every field of another key alone. -/
theorem rd_wr_ne (s : State) (f g : Fld) (v : Nat) (h : g.key ≠ f.key) : (s.wr f v).rd g = s.rd g := by
  simp [State.rd, State.wr, mget_mset_ne _ _ _ _ _ _ h]

/-- A read of any field after a write of any field. -/
theorem rd_wr (s : State) (f g : Fld) (v : Nat) :
    (s.wr f v).rd g = if g.key = f.key then (mget (mset s.regs f.key (v % 2 ^ f.width) f.reset) g.key g.reset) % 2 ^ g.width
      else s.rd g := by
  split
  · rfl
  · next h => exact rd_wr_ne s f g v h

/-- A read of a state given field by field. -/
@[simp] theorem rd_mk (regs : Map Nat) (bellNum : Nat) (ticks : Nat) (draws : Nat) (pages : PageState) (ledger : LedgerState) (alarm
    : AlarmState) (bell : BellState) (pins : Pins) (thermal : ThermalState) (active : TableSet) (shadow :
    TableSet) (lastRead : Map Nat) (alm : Almanac) (scratch : Map Byte) (boot : BootState) (uahus :
    UahusState) (lantern : LanternState) (ageing : Map Ageing) (codes : Map Nat) (monitors : Map Monitor)
    (adcFault : Nat) (twins : TwinsState) (links : Map Link) (hops : Map Hop) (tx : Map TxFrame) (shepherd :
    ShepherdState) (sched : SchedState) (tasks : Map Task) (ring : RingState) (granary : GranaryState) (miller
    : MillerState) (mill : MillState) (groups : GroupState) (routines : Map Routine) (banks : Map BgBank)
    (calib : CalibState) (telem : TelemState) (mgmt : MgmtState) (pending : List Instr)
    (f : Fld) : State.rd ⟨regs, bellNum, ticks, draws, pages, ledger, alarm, bell, pins, thermal, active, shadow, lastRead,
      alm, scratch, boot, uahus, lantern, ageing, codes, monitors, adcFault, twins, links, hops, tx,
      shepherd, sched, tasks, ring, granary, miller, mill, groups, routines, banks, calib, telem,
      mgmt, pending⟩ f
      = mget regs f.key f.reset % 2 ^ f.width := rfl

/-- The value of a field, folded back to its read. -/
@[simp] theorem rd_fold (s : State) (f : Fld) : mget s.regs f.key f.reset % 2 ^ f.width = s.rd f := rfl

theorem rd_lt (s : State) (f : Fld) : s.rd f < 2 ^ f.width := Nat.mod_lt _ (Nat.two_pow_pos _)

/-- The bounds within which the key of a field tells its parts apart. -/
abbrev Fld.ok (f : Fld) : Prop := f.page < 256 ∧ f.off < 4096 ∧ f.lo < 32

/-- Fields within bounds that differ in index, page, offset or lowest bit have different keys. -/
theorem key_ne {f g : Fld} (hf : f.ok) (hg : g.ok)
    (h : f.idx ≠ g.idx ∨ f.page ≠ g.page ∨ f.off ≠ g.off ∨ f.lo ≠ g.lo) : f.key ≠ g.key := by
  obtain ⟨a1, a2, a3⟩ := hf
  obtain ⟨b1, b2, b3⟩ := hg
  unfold Fld.key
  intro e
  split at e <;> split at e <;> omega

/-! ### Frames of registers -/

theorem regsKept_refl (s : State) (fs : List Fld) : regsKept s s fs := fun _ _ => rfl

theorem regsKept_trans {s t u : State} {fs : List Fld} (h1 : regsKept s t fs) (h2 : regsKept t u fs) : regsKept s u fs :=
  fun f h => (h2 f h).trans (h1 f h)

theorem regsKept_mono {s t : State} {fs gs : List Fld} (h : regsKept s t fs) (hs : ∀ g ∈ fs, g ∈ gs) : regsKept s t gs :=
  fun f hf => h f (fun g hg => hf g (hs g hg))

theorem regsKept_of_regs {s t : State} (fs : List Fld) (h : t.regs = s.regs) : regsKept s t fs := fun f _ => rd_congr h f

theorem regsKept_wr {s t : State} {fs : List Fld} (g : Fld) (v : Nat) (h : regsKept s t fs) (hg : g ∈ fs) :
    regsKept s (t.wr g v) fs := fun f hf => (rd_wr_ne t g f v (hf g hg)).trans (h f hf)

/-! ### A counter -/

theorem bump_eq (s : State) (c : Ctr) (n : Nat) : s.bump c n = { s with regs := (s.bump c n).regs } := by
  unfold State.bump
  simp only []
  split <;> rfl

@[simp] theorem bump_bellNum (s : State) (c : Ctr) (n : Nat) : (s.bump c n).bellNum = s.bellNum := by rw [bump_eq]
@[simp] theorem bump_ticks (s : State) (c : Ctr) (n : Nat) : (s.bump c n).ticks = s.ticks := by rw [bump_eq]
@[simp] theorem bump_draws (s : State) (c : Ctr) (n : Nat) : (s.bump c n).draws = s.draws := by rw [bump_eq]
@[simp] theorem bump_pages (s : State) (c : Ctr) (n : Nat) : (s.bump c n).pages = s.pages := by rw [bump_eq]
@[simp] theorem bump_ledger (s : State) (c : Ctr) (n : Nat) : (s.bump c n).ledger = s.ledger := by rw [bump_eq]
@[simp] theorem bump_alarm (s : State) (c : Ctr) (n : Nat) : (s.bump c n).alarm = s.alarm := by rw [bump_eq]
@[simp] theorem bump_bell (s : State) (c : Ctr) (n : Nat) : (s.bump c n).bell = s.bell := by rw [bump_eq]
@[simp] theorem bump_pins (s : State) (c : Ctr) (n : Nat) : (s.bump c n).pins = s.pins := by rw [bump_eq]
@[simp] theorem bump_thermal (s : State) (c : Ctr) (n : Nat) : (s.bump c n).thermal = s.thermal := by rw [bump_eq]
@[simp] theorem bump_active (s : State) (c : Ctr) (n : Nat) : (s.bump c n).active = s.active := by rw [bump_eq]
@[simp] theorem bump_shadow (s : State) (c : Ctr) (n : Nat) : (s.bump c n).shadow = s.shadow := by rw [bump_eq]
@[simp] theorem bump_lastRead (s : State) (c : Ctr) (n : Nat) : (s.bump c n).lastRead = s.lastRead := by rw [bump_eq]
@[simp] theorem bump_alm (s : State) (c : Ctr) (n : Nat) : (s.bump c n).alm = s.alm := by rw [bump_eq]
@[simp] theorem bump_scratch (s : State) (c : Ctr) (n : Nat) : (s.bump c n).scratch = s.scratch := by rw [bump_eq]
@[simp] theorem bump_boot (s : State) (c : Ctr) (n : Nat) : (s.bump c n).boot = s.boot := by rw [bump_eq]
@[simp] theorem bump_uahus (s : State) (c : Ctr) (n : Nat) : (s.bump c n).uahus = s.uahus := by rw [bump_eq]
@[simp] theorem bump_lantern (s : State) (c : Ctr) (n : Nat) : (s.bump c n).lantern = s.lantern := by rw [bump_eq]
@[simp] theorem bump_ageing (s : State) (c : Ctr) (n : Nat) : (s.bump c n).ageing = s.ageing := by rw [bump_eq]
@[simp] theorem bump_codes (s : State) (c : Ctr) (n : Nat) : (s.bump c n).codes = s.codes := by rw [bump_eq]
@[simp] theorem bump_monitors (s : State) (c : Ctr) (n : Nat) : (s.bump c n).monitors = s.monitors := by rw [bump_eq]
@[simp] theorem bump_adcFault (s : State) (c : Ctr) (n : Nat) : (s.bump c n).adcFault = s.adcFault := by rw [bump_eq]
@[simp] theorem bump_twins (s : State) (c : Ctr) (n : Nat) : (s.bump c n).twins = s.twins := by rw [bump_eq]
@[simp] theorem bump_links (s : State) (c : Ctr) (n : Nat) : (s.bump c n).links = s.links := by rw [bump_eq]
@[simp] theorem bump_hops (s : State) (c : Ctr) (n : Nat) : (s.bump c n).hops = s.hops := by rw [bump_eq]
@[simp] theorem bump_tx (s : State) (c : Ctr) (n : Nat) : (s.bump c n).tx = s.tx := by rw [bump_eq]
@[simp] theorem bump_shepherd (s : State) (c : Ctr) (n : Nat) : (s.bump c n).shepherd = s.shepherd := by rw [bump_eq]
@[simp] theorem bump_sched (s : State) (c : Ctr) (n : Nat) : (s.bump c n).sched = s.sched := by rw [bump_eq]
@[simp] theorem bump_tasks (s : State) (c : Ctr) (n : Nat) : (s.bump c n).tasks = s.tasks := by rw [bump_eq]
@[simp] theorem bump_ring (s : State) (c : Ctr) (n : Nat) : (s.bump c n).ring = s.ring := by rw [bump_eq]
@[simp] theorem bump_granary (s : State) (c : Ctr) (n : Nat) : (s.bump c n).granary = s.granary := by rw [bump_eq]
@[simp] theorem bump_miller (s : State) (c : Ctr) (n : Nat) : (s.bump c n).miller = s.miller := by rw [bump_eq]
@[simp] theorem bump_mill (s : State) (c : Ctr) (n : Nat) : (s.bump c n).mill = s.mill := by rw [bump_eq]
@[simp] theorem bump_groups (s : State) (c : Ctr) (n : Nat) : (s.bump c n).groups = s.groups := by rw [bump_eq]
@[simp] theorem bump_routines (s : State) (c : Ctr) (n : Nat) : (s.bump c n).routines = s.routines := by rw [bump_eq]
@[simp] theorem bump_banks (s : State) (c : Ctr) (n : Nat) : (s.bump c n).banks = s.banks := by rw [bump_eq]
@[simp] theorem bump_calib (s : State) (c : Ctr) (n : Nat) : (s.bump c n).calib = s.calib := by rw [bump_eq]
@[simp] theorem bump_telem (s : State) (c : Ctr) (n : Nat) : (s.bump c n).telem = s.telem := by rw [bump_eq]
@[simp] theorem bump_mgmt (s : State) (c : Ctr) (n : Nat) : (s.bump c n).mgmt = s.mgmt := by rw [bump_eq]
@[simp] theorem bump_pending (s : State) (c : Ctr) (n : Nat) : (s.bump c n).pending = s.pending := by rw [bump_eq]

/-- A counter's bump changes the counter and its overflow bits alone. -/
theorem regsKept_bump {s t : State} {fs : List Fld} (c : Ctr) (n : Nat) (h : regsKept s t fs) (h1 : c.fld ∈ fs)
    (h2 : Hdr.CNT_OVF c.page ∈ fs) : regsKept s (t.bump c n) fs := by
  unfold State.bump
  simp only []
  split
  · exact regsKept_wr _ _ h h1
  · exact regsKept_wr _ _ (regsKept_wr _ _ h h1) h2

/-- A read of a field that is neither the counter nor its overflow bits. -/
theorem rd_bump_ne (s : State) (c : Ctr) (n : Nat) (f : Fld) (h1 : f.key ≠ c.fld.key)
    (h2 : f.key ≠ (Hdr.CNT_OVF c.page).key) : (s.bump c n).rd f = s.rd f :=
  regsKept_bump c n (regsKept_refl s [c.fld, Hdr.CNT_OVF c.page]) (by simp) (by simp) f (by simp [h1, h2])

/-- A counter counts modulo 2^64 (R114). -/
theorem rd_bump_same (s : State) (c : Ctr) (n : Nat) (h : c.fld.key ≠ (Hdr.CNT_OVF c.page).key) :
    (s.bump c n).rd c.fld = (s.rd c.fld + n) % 2 ^ 64 := by
  unfold State.bump
  simp only []
  split
  · simp [Ctr.fld]
  · rw [rd_wr_ne _ _ _ _ h]; simp [Ctr.fld]

/-! ### An error occurrence -/


@[simp] theorem say_regs (s : State) (t : List Byte) : (s.say t).regs = s.regs := by rfl
@[simp] theorem say_bellNum (s : State) (t : List Byte) : (s.say t).bellNum = s.bellNum := by rfl
@[simp] theorem say_ticks (s : State) (t : List Byte) : (s.say t).ticks = s.ticks := by rfl
@[simp] theorem say_draws (s : State) (t : List Byte) : (s.say t).draws = s.draws := by rfl
@[simp] theorem say_pages (s : State) (t : List Byte) : (s.say t).pages = s.pages := by rfl
@[simp] theorem say_ledger (s : State) (t : List Byte) : (s.say t).ledger = s.ledger := by rfl
@[simp] theorem say_alarm (s : State) (t : List Byte) : (s.say t).alarm = s.alarm := by rfl
@[simp] theorem say_bell (s : State) (t : List Byte) : (s.say t).bell = s.bell := by rfl
@[simp] theorem say_pins (s : State) (t : List Byte) : (s.say t).pins = s.pins := by rfl
@[simp] theorem say_thermal (s : State) (t : List Byte) : (s.say t).thermal = s.thermal := by rfl
@[simp] theorem say_active (s : State) (t : List Byte) : (s.say t).active = s.active := by rfl
@[simp] theorem say_shadow (s : State) (t : List Byte) : (s.say t).shadow = s.shadow := by rfl
@[simp] theorem say_lastRead (s : State) (t : List Byte) : (s.say t).lastRead = s.lastRead := by rfl
@[simp] theorem say_alm (s : State) (t : List Byte) : (s.say t).alm = s.alm := by rfl
@[simp] theorem say_scratch (s : State) (t : List Byte) : (s.say t).scratch = s.scratch := by rfl
@[simp] theorem say_boot (s : State) (t : List Byte) : (s.say t).boot = s.boot := by rfl
@[simp] theorem say_uahus (s : State) (t : List Byte) : (s.say t).uahus = s.uahus := by rfl
@[simp] theorem say_lantern (s : State) (t : List Byte) : (s.say t).lantern = s.lantern := by rfl
@[simp] theorem say_ageing (s : State) (t : List Byte) : (s.say t).ageing = s.ageing := by rfl
@[simp] theorem say_codes (s : State) (t : List Byte) : (s.say t).codes = s.codes := by rfl
@[simp] theorem say_monitors (s : State) (t : List Byte) : (s.say t).monitors = s.monitors := by rfl
@[simp] theorem say_adcFault (s : State) (t : List Byte) : (s.say t).adcFault = s.adcFault := by rfl
@[simp] theorem say_twins (s : State) (t : List Byte) : (s.say t).twins = s.twins := by rfl
@[simp] theorem say_links (s : State) (t : List Byte) : (s.say t).links = s.links := by rfl
@[simp] theorem say_hops (s : State) (t : List Byte) : (s.say t).hops = s.hops := by rfl
@[simp] theorem say_tx (s : State) (t : List Byte) : (s.say t).tx = s.tx := by rfl
@[simp] theorem say_shepherd (s : State) (t : List Byte) : (s.say t).shepherd = s.shepherd := by rfl
@[simp] theorem say_sched (s : State) (t : List Byte) : (s.say t).sched = s.sched := by rfl
@[simp] theorem say_tasks (s : State) (t : List Byte) : (s.say t).tasks = s.tasks := by rfl
@[simp] theorem say_ring (s : State) (t : List Byte) : (s.say t).ring = s.ring := by rfl
@[simp] theorem say_granary (s : State) (t : List Byte) : (s.say t).granary = s.granary := by rfl
@[simp] theorem say_miller (s : State) (t : List Byte) : (s.say t).miller = s.miller := by rfl
@[simp] theorem say_mill (s : State) (t : List Byte) : (s.say t).mill = s.mill := by rfl
@[simp] theorem say_groups (s : State) (t : List Byte) : (s.say t).groups = s.groups := by rfl
@[simp] theorem say_routines (s : State) (t : List Byte) : (s.say t).routines = s.routines := by rfl
@[simp] theorem say_banks (s : State) (t : List Byte) : (s.say t).banks = s.banks := by rfl
@[simp] theorem say_calib (s : State) (t : List Byte) : (s.say t).calib = s.calib := by rfl
@[simp] theorem say_telem (s : State) (t : List Byte) : (s.say t).telem = s.telem := by rfl
@[simp] theorem say_pending (s : State) (t : List Byte) : (s.say t).pending = s.pending := by rfl

theorem consoleLog_eq (s : State) (ws : List (List Byte)) : s.consoleLog ws = { s with mgmt := (s.consoleLog ws).mgmt } := by
  unfold State.consoleLog; split <;> rfl
theorem reportRising_eq (s : State) (p b c : Nat) : s.reportRising p b c = { s with mgmt := (s.reportRising p b c).mgmt } := by
  unfold State.reportRising; simp only []; rw [consoleLog_eq]; split <;> rfl
theorem alarmDrive_eq (s : State) : s.alarmDrive = { s with regs := s.alarmDrive.regs, alarm := s.alarmDrive.alarm } := by
  unfold State.alarmDrive; split <;> rfl
theorem alarmAssert_eq (s : State) :
    s.alarmAssert = { s with regs := s.alarmAssert.regs, alarm := s.alarmAssert.alarm } := by
  unfold State.alarmAssert; simp only []; rw [bump_eq s, alarmDrive_eq]; split <;> split <;> rfl
theorem summarise_eq (s : State) (p : Nat) : s.summarise p = { s with regs := (s.summarise p).regs } := by
  unfold State.summarise; split
  · rfl
  · split <;> rfl

/-- The reactions of a rising touch registers, the Alarm collector and the management ports alone. -/
theorem react_eq (s : State) (e : ErrBit) (cls : Nat) (tag : EntryTag) :
    s.react e cls tag = { s with regs := (s.react e cls tag).regs, alarm := (s.react e cls tag).alarm,
                                 mgmt := (s.react e cls tag).mgmt } := by
  unfold State.react
  simp only []
  rw [reportRising_eq, alarmAssert_eq]
  split <;> simp [State.wr]

theorem markErr_eq (s : State) (e : ErrBit) (o : Occ) :
    (s.markErr e o).1 = { s with regs := (s.markErr e o).1.regs, alarm := (s.markErr e o).1.alarm,
                                 mgmt := (s.markErr e o).1.mgmt } := by
  unfold State.markErr
  simp only []
  rw [react_eq, summarise_eq]
  split <;> split <;> simp [State.wr]

theorem enqueue_eq (s : State) (e : Entry) :
    s.enqueue e = { s with regs := (s.enqueue e).regs, ledger := (s.enqueue e).ledger } := by
  unfold State.enqueue
  split
  · rfl
  · simp [State.wr]

theorem log_eq (s : State) (e : Entry) :
    s.log e = { s with regs := (s.log e).regs, draws := (s.log e).draws, ledger := (s.log e).ledger,
                       alarm := (s.log e).alarm, mgmt := (s.log e).mgmt } := by
  unfold State.log
  simp only []
  rw [enqueue_eq]
  split
  · rfl
  · rw [bump_eq, markErr_eq]

/-- An error occurrence touches registers, the Ledger, the Alarm collector, the management ports and the count of free
values alone (R537). -/
theorem raise_eq (s : State) (e : ErrBit) (o : Occ) :
    s.raise e o = { s with regs := (s.raise e o).regs, draws := (s.raise e o).draws, ledger := (s.raise e o).ledger,
                           alarm := (s.raise e o).alarm, mgmt := (s.raise e o).mgmt } := by
  unfold State.raise
  simp only []
  rw [log_eq, markErr_eq]

@[simp] theorem raise_bellNum (s : State) (e : ErrBit) (o : Occ) : (s.raise e o).bellNum = s.bellNum := by rw [raise_eq]
@[simp] theorem raise_ticks (s : State) (e : ErrBit) (o : Occ) : (s.raise e o).ticks = s.ticks := by rw [raise_eq]
@[simp] theorem raise_pages (s : State) (e : ErrBit) (o : Occ) : (s.raise e o).pages = s.pages := by rw [raise_eq]
@[simp] theorem raise_bell (s : State) (e : ErrBit) (o : Occ) : (s.raise e o).bell = s.bell := by rw [raise_eq]
@[simp] theorem raise_pins (s : State) (e : ErrBit) (o : Occ) : (s.raise e o).pins = s.pins := by rw [raise_eq]
@[simp] theorem raise_thermal (s : State) (e : ErrBit) (o : Occ) : (s.raise e o).thermal = s.thermal := by rw [raise_eq]
@[simp] theorem raise_active (s : State) (e : ErrBit) (o : Occ) : (s.raise e o).active = s.active := by rw [raise_eq]
@[simp] theorem raise_shadow (s : State) (e : ErrBit) (o : Occ) : (s.raise e o).shadow = s.shadow := by rw [raise_eq]
@[simp] theorem raise_lastRead (s : State) (e : ErrBit) (o : Occ) : (s.raise e o).lastRead = s.lastRead := by rw [raise_eq]
@[simp] theorem raise_alm (s : State) (e : ErrBit) (o : Occ) : (s.raise e o).alm = s.alm := by rw [raise_eq]
@[simp] theorem raise_scratch (s : State) (e : ErrBit) (o : Occ) : (s.raise e o).scratch = s.scratch := by rw [raise_eq]
@[simp] theorem raise_boot (s : State) (e : ErrBit) (o : Occ) : (s.raise e o).boot = s.boot := by rw [raise_eq]
@[simp] theorem raise_uahus (s : State) (e : ErrBit) (o : Occ) : (s.raise e o).uahus = s.uahus := by rw [raise_eq]
@[simp] theorem raise_lantern (s : State) (e : ErrBit) (o : Occ) : (s.raise e o).lantern = s.lantern := by rw [raise_eq]
@[simp] theorem raise_ageing (s : State) (e : ErrBit) (o : Occ) : (s.raise e o).ageing = s.ageing := by rw [raise_eq]
@[simp] theorem raise_codes (s : State) (e : ErrBit) (o : Occ) : (s.raise e o).codes = s.codes := by rw [raise_eq]
@[simp] theorem raise_monitors (s : State) (e : ErrBit) (o : Occ) : (s.raise e o).monitors = s.monitors := by rw [raise_eq]
@[simp] theorem raise_adcFault (s : State) (e : ErrBit) (o : Occ) : (s.raise e o).adcFault = s.adcFault := by rw [raise_eq]
@[simp] theorem raise_twins (s : State) (e : ErrBit) (o : Occ) : (s.raise e o).twins = s.twins := by rw [raise_eq]
@[simp] theorem raise_links (s : State) (e : ErrBit) (o : Occ) : (s.raise e o).links = s.links := by rw [raise_eq]
@[simp] theorem raise_hops (s : State) (e : ErrBit) (o : Occ) : (s.raise e o).hops = s.hops := by rw [raise_eq]
@[simp] theorem raise_tx (s : State) (e : ErrBit) (o : Occ) : (s.raise e o).tx = s.tx := by rw [raise_eq]
@[simp] theorem raise_shepherd (s : State) (e : ErrBit) (o : Occ) : (s.raise e o).shepherd = s.shepherd := by rw [raise_eq]
@[simp] theorem raise_sched (s : State) (e : ErrBit) (o : Occ) : (s.raise e o).sched = s.sched := by rw [raise_eq]
@[simp] theorem raise_tasks (s : State) (e : ErrBit) (o : Occ) : (s.raise e o).tasks = s.tasks := by rw [raise_eq]
@[simp] theorem raise_ring (s : State) (e : ErrBit) (o : Occ) : (s.raise e o).ring = s.ring := by rw [raise_eq]
@[simp] theorem raise_granary (s : State) (e : ErrBit) (o : Occ) : (s.raise e o).granary = s.granary := by rw [raise_eq]
@[simp] theorem raise_miller (s : State) (e : ErrBit) (o : Occ) : (s.raise e o).miller = s.miller := by rw [raise_eq]
@[simp] theorem raise_mill (s : State) (e : ErrBit) (o : Occ) : (s.raise e o).mill = s.mill := by rw [raise_eq]
@[simp] theorem raise_groups (s : State) (e : ErrBit) (o : Occ) : (s.raise e o).groups = s.groups := by rw [raise_eq]
@[simp] theorem raise_routines (s : State) (e : ErrBit) (o : Occ) : (s.raise e o).routines = s.routines := by rw [raise_eq]
@[simp] theorem raise_banks (s : State) (e : ErrBit) (o : Occ) : (s.raise e o).banks = s.banks := by rw [raise_eq]
@[simp] theorem raise_calib (s : State) (e : ErrBit) (o : Occ) : (s.raise e o).calib = s.calib := by rw [raise_eq]
@[simp] theorem raise_telem (s : State) (e : ErrBit) (o : Occ) : (s.raise e o).telem = s.telem := by rw [raise_eq]
@[simp] theorem raise_pending (s : State) (e : ErrBit) (o : Occ) : (s.raise e o).pending = s.pending := by rw [raise_eq]

end Sys2Proof.Machine
end

