-- ==== Sys2Proof/Laws/Raise.lean ====
section
/-! SUPPORT. Sys2Proof/Laws/Raise.lean: what an error occurrence does to the registers (R103, R104, R534, R536, R543,
R553): which fields it may change, and that the bit it names is set afterwards. -/

namespace Sys2Proof.Machine

/-- A step of a frame: closed by the frame of the state it starts from. -/
theorem regsKept_summarise {s t : State} {fs : List Fld} (p : Nat) (h : regsKept s t fs)
    (hf : Reg.ALARM_SUMMARY_BLOCKS ∈ fs) : regsKept s (t.summarise p) fs := by
  unfold State.summarise
  split
  · exact h
  · split
    · exact regsKept_wr _ _ h hf
    · exact h

theorem regsKept_upd {s t u : State} {fs : List Fld} (h : regsKept s t fs) (hu : u.regs = t.regs) : regsKept s u fs :=
  regsKept_trans h (regsKept_of_regs fs hu)

theorem regsKept_ite {s t u : State} {fs : List Fld} {c : Prop} [Decidable c] (h1 : regsKept s t fs)
    (h2 : regsKept s u fs) : regsKept s (if c then t else u) fs := by
  split
  · exact h1
  · exact h2

theorem regsKept_alarmDrive {s t : State} {fs : List Fld} (hs : ∀ g ∈ alarmFields, g ∈ fs) (h : regsKept s t fs) :
    regsKept s t.alarmDrive fs := by
  unfold State.alarmDrive
  refine regsKept_ite h ?_
  have h1 := regsKept_wr Reg.ALARM_STATUS_EXT_LOW 0
    (regsKept_wr Reg.ALARM_STATUS_DRIVING 1 h (hs _ (by simp [alarmFields]))) (hs _ (by simp [alarmFields]))
  exact regsKept_upd h1 rfl

theorem regsKept_alarmAssert {s t : State} {fs : List Fld} (hs : ∀ g ∈ alarmFields, g ∈ fs) (h : regsKept s t fs) :
    regsKept s t.alarmAssert fs := by
  unfold State.alarmAssert
  simp only []
  have hb := regsKept_bump Ctr.ALARM_ALARM_ASSERTIONS 1 h (hs _ (by simp [alarmFields]))
    (hs _ (by simp [alarmFields, Ctr.ALARM_ALARM_ASSERTIONS]))
  have h0 : regsKept s (if t.is Reg.ALARM_STATUS_WOULD_DRIVE = true then t else
      { t.bump Ctr.ALARM_ALARM_ASSERTIONS 1 with
        alarm := { t.alarm with pinRaised := false, driveStart := t.ticks } }) fs :=
    regsKept_ite h (regsKept_upd hb rfl)
  have h1 := regsKept_wr Reg.ALARM_STATUS_RELEASE_PENDING 0 (regsKept_wr Reg.ALARM_STATUS_MIN_RUNNING 1
    (regsKept_wr Reg.ALARM_STATUS_WOULD_DRIVE 1 h0 (hs _ (by simp [alarmFields]))) (hs _ (by simp [alarmFields])))
    (hs _ (by simp [alarmFields]))
  exact regsKept_ite (regsKept_alarmDrive hs (regsKept_upd h1 rfl)) (regsKept_upd h1 rfl)

theorem consoleLog_regs (s : State) (ws : List (List Byte)) : (s.consoleLog ws).regs = s.regs := by rw [consoleLog_eq]

theorem reportRising_regs (s : State) (p b c : Nat) : (s.reportRising p b c).regs = s.regs := by rw [reportRising_eq]

theorem regsKept_react {s t : State} {fs : List Fld} (e : ErrBit) (cls : Nat) (tag : EntryTag)
    (hs : ∀ g ∈ alarmFields, g ∈ fs) (h : regsKept s t fs) : regsKept s (t.react e cls tag) fs := by
  unfold State.react
  simp only []
  have h1 : regsKept s (((((((t.bump Ctr.ALARM_RISINGS 1).wr Reg.ALARM_LAST_VALID 1).wr Reg.ALARM_LAST_CLASS cls).wr
      Reg.ALARM_LAST_BIT e.bit).wr Reg.ALARM_LAST_PAGE e.page).wr Reg.ALARM_LAST_BELL t.bellNum)) fs := by
    refine regsKept_wr _ _ (regsKept_wr _ _ (regsKept_wr _ _ (regsKept_wr _ _ (regsKept_wr _ _
      (regsKept_bump _ _ h ?_ ?_) ?_) ?_) ?_) ?_) ?_ <;> exact hs _ (by simp [alarmFields, Ctr.ALARM_RISINGS])
  have h2 : regsKept s (if (t.is (Reg.ALARM_REACT_ALARM_N cls)) = true then
      (((((((t.bump Ctr.ALARM_RISINGS 1).wr Reg.ALARM_LAST_VALID 1).wr Reg.ALARM_LAST_CLASS cls).wr
      Reg.ALARM_LAST_BIT e.bit).wr Reg.ALARM_LAST_PAGE e.page).wr Reg.ALARM_LAST_BELL t.bellNum)).alarmAssert else
      (((((((t.bump Ctr.ALARM_RISINGS 1).wr Reg.ALARM_LAST_VALID 1).wr Reg.ALARM_LAST_CLASS cls).wr
      Reg.ALARM_LAST_BIT e.bit).wr Reg.ALARM_LAST_PAGE e.page).wr Reg.ALARM_LAST_BELL t.bellNum)))
      fs := regsKept_ite (regsKept_alarmAssert hs h1) h1
  exact regsKept_upd h2 (reportRising_regs _ _ _ _)

theorem regsKept_markErr {s t : State} (q : Nat) (e : ErrBit) (o : Occ) (h : regsKept s t (raiseFields q))
    (he : e.page = q ∨ e.page = 6) : regsKept s (t.markErr e o).1 (raiseFields q) := by
  unfold State.markErr
  simp only []
  have hm : Hdr.PG_ERR e.page ∈ raiseFields q ∧ Hdr.PG_ERR_FIRST_VALID e.page ∈ raiseFields q ∧
      Hdr.PG_ERR_FIRST_CODE e.page ∈ raiseFields q ∧ Hdr.PG_ERR_FIRST_BELL e.page ∈ raiseFields q := by
    rcases he with he | he <;> rw [he] <;> simp [raiseFields, errFields, alarmFields, ledgerFields]
  have h1 : regsKept s ((t.wr (Hdr.PG_ERR e.page) (setBit (t.rd (Hdr.PG_ERR e.page)) e.bit)).bump
      Ctr.ALARM_OCCURRENCES 1) (raiseFields q) :=
    regsKept_bump _ _ (regsKept_wr _ _ h hm.1) (by simp [raiseFields, errFields, alarmFields, ledgerFields]) (by simp [raiseFields, errFields, alarmFields, ledgerFields, Ctr.ALARM_OCCURRENCES])
  have h2 : ∀ u, regsKept s u (raiseFields q) → regsKept s (u.summarise e.page) (raiseFields q) :=
    fun u hu => regsKept_summarise _ hu (by simp [raiseFields, errFields, alarmFields, ledgerFields])
  have h3 := regsKept_wr (Hdr.PG_ERR_FIRST_BELL e.page) t.bellNum (regsKept_wr (Hdr.PG_ERR_FIRST_CODE e.page) e.bit
    (regsKept_wr (Hdr.PG_ERR_FIRST_VALID e.page) 1 h1 hm.2.1) hm.2.2.1) hm.2.2.2
  have h4 := h2 _ (regsKept_ite (c := t.rd (Hdr.PG_ERR e.page) = 0) h3 h1)
  exact regsKept_ite h4 (regsKept_react _ _ _ (fun g hg => by simp [raiseFields, hg]) h4)

theorem regsKept_enqueue {s t : State} (p : Nat) (e : Entry) (h : regsKept s t (raiseFields p)) :
    regsKept s (t.enqueue e) (raiseFields p) := by
  unfold State.enqueue
  split
  · exact regsKept_upd h rfl
  · exact regsKept_wr _ _ (regsKept_bump _ _ h (by simp [raiseFields, errFields, alarmFields, ledgerFields])
      (by simp [raiseFields, errFields, alarmFields, ledgerFields, Ctr.LEDGER_LEDGER_DROPPED])) (by simp [raiseFields, errFields, alarmFields, ledgerFields])

theorem regsKept_log {s t : State} (p : Nat) (e : Entry) (h : regsKept s t (raiseFields p)) :
    regsKept s (t.log e) (raiseFields p) := by
  unfold State.log
  simp only []
  have h1 : regsKept s { t.enqueue e with draws := t.draws + 1 } (raiseFields p) :=
    regsKept_upd (regsKept_enqueue p e h) rfl
  split
  · exact h1
  · refine regsKept_bump _ _ (regsKept_markErr p _ _ (regsKept_upd h1 rfl) (.inr rfl)) ?_ ?_ <;>
      simp [raiseFields, errFields, alarmFields, ledgerFields, Ctr.LEDGER_LEDGER_DROPPED]

/-- An error occurrence changes the register fields of `raiseFields` alone. -/
theorem regsKept_raise {s t : State} (e : ErrBit) (o : Occ) (h : regsKept s t (raiseFields e.page)) :
    regsKept s (t.raise e o) (raiseFields e.page) := by
  unfold State.raise
  exact regsKept_log _ _ (regsKept_markErr _ _ _ h (.inl rfl))

/-- A field that no error occurrence on the page changes reads as before. -/
theorem rd_raise_ne (s : State) (e : ErrBit) (o : Occ) (f : Fld) (h : ∀ g ∈ raiseFields e.page, f.key ≠ g.key) :
    (s.raise e o).rd f = s.rd f := regsKept_raise e o (regsKept_refl s _) f h

/-! ### The bit is set -/

theorem bit_eq_testBit (v n : Nat) : bit v n = v.testBit n := by
  rw [bit, Nat.testBit, Nat.one_and_eq_mod_two]
  rcases Nat.mod_two_eq_zero_or_one (v >>> n) with h | h <;> simp [h]

theorem bit_setBit_same (v n : Nat) : bit (setBit v n) n = true := by
  simp [bit_eq_testBit, setBit, Nat.one_shiftLeft]

theorem bit_setBit_keep (v m n : Nat) (h : bit v n = true) : bit (setBit v m) n = true := by
  simp only [bit_eq_testBit, setBit, Nat.testBit_or] at h ⊢
  simp [h]

theorem bit_setBit_ne (v m n : Nat) (h : m ≠ n) : bit (setBit v m) n = bit v n := by
  simp [bit_eq_testBit, setBit, Nat.one_shiftLeft, Nat.testBit_two_pow_of_ne h]

theorem bit_mod (v n w : Nat) (h : n < w) : bit (v % 2 ^ w) n = bit v n := by
  simp [bit_eq_testBit, Nat.testBit_mod_two_pow, h]

theorem pgErr_ok (p : Nat) (h : p < 256) : (Hdr.PG_ERR p).ok := ⟨h, by simp [Hdr.PG_ERR], by simp [Hdr.PG_ERR]⟩

/-- PG_ERR is none of the Alarm collector's fields that an occurrence writes. -/
theorem pgErr_not_alarm (p : Nat) (h : p < 256) : ∀ g ∈ alarmFields, (Hdr.PG_ERR p).key ≠ g.key := by
  intro g hg
  simp only [alarmFields, List.mem_cons, List.not_mem_nil, or_false] at hg
  rcases hg with rfl | rfl | rfl | rfl | rfl | rfl | rfl | rfl | rfl | rfl | rfl | rfl | rfl | rfl | rfl <;>
    exact key_ne (pgErr_ok p h) (by decide) (.inr (.inr (.inl (by simp [Hdr.PG_ERR] <;> decide))))

/-- A frame that reads one field. -/
theorem regsKept_rd {s t : State} {fs : List Fld} (h : regsKept s t fs) (f : Fld) (hf : ∀ g ∈ fs, f.key ≠ g.key) :
    t.rd f = s.rd f := h f hf

/-- After `markErr` the bit is set (R103). -/
theorem markErr_sets (s : State) (e : ErrBit) (o : Occ) (hp : e.page < 256) (hb : e.bit < 32) :
    bit ((s.markErr e o).1.rd (Hdr.PG_ERR e.page)) e.bit = true := by
  have hal := pgErr_not_alarm e.page hp
  have h0 : bit ((s.wr (Hdr.PG_ERR e.page) (setBit (s.rd (Hdr.PG_ERR e.page)) e.bit)).rd (Hdr.PG_ERR e.page)) e.bit
      = true := by
    rw [rd_wr_same]
    exact (bit_mod _ _ _ hb).trans (bit_setBit_same _ _)
  have hfirst : ∀ g ∈ [Hdr.PG_ERR_FIRST_VALID e.page, Hdr.PG_ERR_FIRST_CODE e.page, Hdr.PG_ERR_FIRST_BELL e.page],
      (Hdr.PG_ERR e.page).key ≠ g.key := by
    intro g hg
    simp only [List.mem_cons, List.not_mem_nil, or_false] at hg
    rcases hg with rfl | rfl | rfl <;>
      exact key_ne (pgErr_ok _ hp) ⟨hp, by simp [Hdr.PG_ERR_FIRST_VALID, Hdr.PG_ERR_FIRST_CODE, Hdr.PG_ERR_FIRST_BELL],
        by simp [Hdr.PG_ERR_FIRST_VALID, Hdr.PG_ERR_FIRST_CODE, Hdr.PG_ERR_FIRST_BELL]⟩
        (.inr (.inr (.inl (by simp [Hdr.PG_ERR, Hdr.PG_ERR_FIRST_VALID, Hdr.PG_ERR_FIRST_CODE, Hdr.PG_ERR_FIRST_BELL]))))
  let fs := alarmFields ++ [Hdr.PG_ERR_FIRST_VALID e.page, Hdr.PG_ERR_FIRST_CODE e.page, Hdr.PG_ERR_FIRST_BELL e.page]
  have hfs : ∀ g ∈ fs, (Hdr.PG_ERR e.page).key ≠ g.key := by
    intro g hg
    rcases List.mem_append.1 hg with hg | hg
    · exact hal g hg
    · exact hfirst g hg
  have ha : ∀ g ∈ alarmFields, g ∈ fs := fun g hg => List.mem_append_left _ hg
  have hk : regsKept (s.wr (Hdr.PG_ERR e.page) (setBit (s.rd (Hdr.PG_ERR e.page)) e.bit)) (s.markErr e o).1 fs := by
    unfold State.markErr
    simp only []
    have h1 := regsKept_bump Ctr.ALARM_OCCURRENCES 1 (regsKept_refl (s.wr (Hdr.PG_ERR e.page)
      (setBit (s.rd (Hdr.PG_ERR e.page)) e.bit)) fs) (ha _ (by simp [alarmFields]))
      (ha _ (by simp [alarmFields, Ctr.ALARM_OCCURRENCES]))
    have h3 := regsKept_wr (Hdr.PG_ERR_FIRST_BELL e.page) s.bellNum (regsKept_wr (Hdr.PG_ERR_FIRST_CODE e.page) e.bit
      (regsKept_wr (Hdr.PG_ERR_FIRST_VALID e.page) 1 h1 (by simp [fs])) (by simp [fs])) (by simp [fs])
    have h4 := regsKept_summarise e.page (regsKept_ite (c := s.rd (Hdr.PG_ERR e.page) = 0) h3 h1)
      (ha _ (by simp [alarmFields]))
    exact regsKept_ite h4 (regsKept_react _ _ _ ha h4)
  rw [hk _ hfs]
  exact h0

/-- A bit of PG_ERR that is set stays set through any further `markErr` of the same page or another. -/
theorem markErr_keeps (s : State) (e : ErrBit) (o : Occ) (p b : Nat) (hp : p < 256) (he : e.page < 256) (hb : b < 32)
    (h : bit (s.rd (Hdr.PG_ERR p)) b = true) : bit ((s.markErr e o).1.rd (Hdr.PG_ERR p)) b = true := by
  have hal := pgErr_not_alarm p hp
  have h0 : bit ((s.wr (Hdr.PG_ERR e.page) (setBit (s.rd (Hdr.PG_ERR e.page)) e.bit)).rd (Hdr.PG_ERR p)) b
      = true := by
    by_cases hq : e.page = p
    · subst hq
      rw [rd_wr_same]
      exact (bit_mod _ _ _ hb).trans (bit_setBit_keep _ _ _ h)
    · rw [rd_wr_ne _ _ _ _ (key_ne (pgErr_ok _ hp) (pgErr_ok _ he) (.inr (.inl (by simpa [Hdr.PG_ERR] using Ne.symm hq))))]
      exact h
  have hfirst : ∀ g ∈ [Hdr.PG_ERR_FIRST_VALID e.page, Hdr.PG_ERR_FIRST_CODE e.page, Hdr.PG_ERR_FIRST_BELL e.page],
      (Hdr.PG_ERR p).key ≠ g.key := by
    intro g hg
    simp only [List.mem_cons, List.not_mem_nil, or_false] at hg
    rcases hg with rfl | rfl | rfl <;>
      exact key_ne (pgErr_ok _ hp) ⟨he, by simp [Hdr.PG_ERR_FIRST_VALID, Hdr.PG_ERR_FIRST_CODE, Hdr.PG_ERR_FIRST_BELL],
        by simp [Hdr.PG_ERR_FIRST_VALID, Hdr.PG_ERR_FIRST_CODE, Hdr.PG_ERR_FIRST_BELL]⟩
        (.inr (.inr (.inl (by simp [Hdr.PG_ERR, Hdr.PG_ERR_FIRST_VALID, Hdr.PG_ERR_FIRST_CODE, Hdr.PG_ERR_FIRST_BELL]))))
  let fs := alarmFields ++ [Hdr.PG_ERR_FIRST_VALID e.page, Hdr.PG_ERR_FIRST_CODE e.page, Hdr.PG_ERR_FIRST_BELL e.page]
  have hfs : ∀ g ∈ fs, (Hdr.PG_ERR p).key ≠ g.key := by
    intro g hg
    rcases List.mem_append.1 hg with hg | hg
    · exact hal g hg
    · exact hfirst g hg
  have ha : ∀ g ∈ alarmFields, g ∈ fs := fun g hg => List.mem_append_left _ hg
  have hk : regsKept (s.wr (Hdr.PG_ERR e.page) (setBit (s.rd (Hdr.PG_ERR e.page)) e.bit)) (s.markErr e o).1 fs := by
    unfold State.markErr
    simp only []
    have h1 := regsKept_bump Ctr.ALARM_OCCURRENCES 1 (regsKept_refl (s.wr (Hdr.PG_ERR e.page)
      (setBit (s.rd (Hdr.PG_ERR e.page)) e.bit)) fs) (ha _ (by simp [alarmFields]))
      (ha _ (by simp [alarmFields, Ctr.ALARM_OCCURRENCES]))
    have h3 := regsKept_wr (Hdr.PG_ERR_FIRST_BELL e.page) s.bellNum (regsKept_wr (Hdr.PG_ERR_FIRST_CODE e.page) e.bit
      (regsKept_wr (Hdr.PG_ERR_FIRST_VALID e.page) 1 h1 (by simp [fs])) (by simp [fs])) (by simp [fs])
    have h4 := regsKept_summarise e.page (regsKept_ite (c := s.rd (Hdr.PG_ERR e.page) = 0) h3 h1)
      (ha _ (by simp [alarmFields]))
    exact regsKept_ite h4 (regsKept_react _ _ _ ha h4)
  rw [hk _ hfs]
  exact h0

/-- A set bit of PG_ERR stays set when an entry joins the Ledger's queue. -/
theorem log_keeps (s : State) (x : Entry) (p b : Nat) (hp : p < 256) (hb : b < 32)
    (h : bit (s.rd (Hdr.PG_ERR p)) b = true) : bit ((s.log x).rd (Hdr.PG_ERR p)) b = true := by
  have hctr : ∀ g : Fld, g.ok → g.off ≠ 0x14 → (Hdr.PG_ERR p).key ≠ g.key := fun g hg ho =>
    key_ne (pgErr_ok p hp) hg (.inr (.inr (.inl (fun e => ho e.symm))))
  have hd := hctr Ctr.LEDGER_LEDGER_DROPPED.fld (by decide) (by decide)
  have ho := hctr (Hdr.CNT_OVF Ctr.LEDGER_LEDGER_DROPPED.page) (by decide) (by decide)
  have hv := hctr Reg.LEDGER_STATUS_OVERFLOW (by decide) (by decide)
  have h1 : bit ((s.enqueue x).rd (Hdr.PG_ERR p)) b = true := by
    unfold State.enqueue
    split
    · exact h
    · rw [rd_wr_ne _ _ _ _ hv, rd_bump_ne _ _ _ _ hd ho]; exact h
  unfold State.log
  simp only []
  split
  · exact h1
  · rw [rd_bump_ne _ _ _ _ hd ho]
    exact markErr_keeps _ _ _ _ _ hp (by decide) hb h1

/-- An error occurrence sets its PG_ERR bit (R103, R537). -/
theorem raise_sets (s : State) (e : ErrBit) (o : Occ) (hp : e.page < 256) (hb : e.bit < 32) :
    bit ((s.raise e o).rd (Hdr.PG_ERR e.page)) e.bit = true :=
  log_keeps _ _ _ _ hp hb (markErr_sets s e o hp hb)

end Sys2Proof.Machine
end

