-- ==== Sys2Proof/Laws/Reset.lean ====
section
/-! SUPPORT. Sys2Proof/Laws/Reset.lean: what the resets keep (R83, R142, R143). -/

namespace Sys2Proof.Machine

/-! ### Fields carried over a reset -/

theorem keepFields_eq (s old : State) (fs : List Fld) :
    s.keepFields old fs = { s with regs := (s.keepFields old fs).regs } := by
  induction fs generalizing s with
  | nil => rfl
  | cons f fs ih => exact (ih (s.wr f (old.rd f)))

/-- A field of another key than all those carried over reads as before. -/
theorem rd_keepFields_ne (s old : State) (fs : List Fld) (f : Fld) (h : ∀ g ∈ fs, f.key ≠ g.key) :
    (s.keepFields old fs).rd f = s.rd f := by
  induction fs generalizing s with
  | nil => rfl
  | cons g fs ih =>
    exact (ih (s.wr g (old.rd g)) (fun x hx => h x (List.mem_cons_of_mem _ hx))).trans
      (rd_wr_ne _ _ _ _ (h g (List.mem_cons_self ..)))

/-- A field carried over reads as in the old state, where the fields carried over have different keys. -/
theorem rd_keepFields_mem (s old : State) (fs : List Fld) (f : Fld)
    (hp : fs.Pairwise (fun a b => a.key ≠ b.key)) (h : f ∈ fs) : (s.keepFields old fs).rd f = old.rd f := by
  induction fs generalizing s with
  | nil => simp at h
  | cons g fs ih =>
    obtain ⟨h1, h2⟩ := List.pairwise_cons.1 hp
    rcases List.mem_cons.1 h with rfl | h
    · refine (rd_keepFields_ne (s.wr f (old.rd f)) old fs f (fun x hx => h1 x hx)).trans ?_
      rw [rd_wr_same]
      exact Nat.mod_eq_of_lt (rd_lt old f)
    · exact ih (s.wr g (old.rd g)) h2 h

/-! ### The table filtered -/

theorem mfind_filter {α : Type} (m : Map α) (p : Nat → Bool) (q : Nat) :
    mfind (m.filter (fun e => p e.1)) q = if p q then mfind m q else none := by
  induction m with
  | nil => simp
  | cons e t ih =>
    obtain ⟨k, x⟩ := e
    by_cases hk : p k = true
    · rw [List.filter_cons_of_pos (p := fun (e : Nat × α) => p e.1) (a := (k, x)) hk]
      by_cases hq : k = q
      · subst hq; simp [mfind, hk]
      · simp only [mfind, hq, if_false, ih]
    · rw [List.filter_cons_of_neg (p := fun (e : Nat × α) => p e.1) (a := (k, x)) hk, ih]
      by_cases hq : k = q
      · subst hq; simp [hk]
      · simp only [mfind, hq, if_false]

/-- The lowest bit of a key says whether the field is keep-alive. -/
theorem key_ka (f : Fld) : (f.key % 2 == 1) = f.ka := by
  unfold Fld.key
  cases f.ka <;> simp

/-! ### The warm reset -/

/-- The registers a warm reset keeps are the keep-alive fields; the others are at their reset value. -/
theorem rd_warmCore (s : State) (f : Fld) (h : ∀ g ∈ Reg.THERMAL_STATUS_THERM_N_PIN :: warmFields, f.key ≠ g.key) :
    s.warmCore.rd f = if f.ka then s.rd f else f.reset % 2 ^ f.width := by
  unfold State.warmCore
  rw [rd_wr_ne _ _ _ _ (h _ (List.mem_cons_self ..)),
    rd_keepFields_ne _ _ _ _ (fun g hg => h g (List.mem_cons_of_mem _ hg))]
  simp only [State.rd, mget, mfind_filter s.regs (fun k => k % 2 == 1), key_ka]
  cases f.ka <;> simp

theorem warmReset_eq (s : State) (c : ResetCause) :
    s.warmReset c = { s.warmCore with regs := (s.warmReset c).regs, draws := (s.warmReset c).draws,
                                      boot := { s.warmCore.boot with nonce := (s.warmReset c).boot.nonce } } := by
  unfold State.warmReset
  simp only []
  split <;> (ext1 <;> simp [State.newNonce])

/-- The first steps of start-up touch their own registers and the start-up progress alone. -/
theorem beginStart_eq (s : State) :
    s.beginStart = { s with regs := s.beginStart.regs,
                            boot := { s.boot with running := true, limpSteps := 0, fails := 0, inBackoff := false } } := rfl

theorem restart_eq (s : State) : s.restart = { s with regs := s.restart.regs, boot := s.restart.boot } := by
  unfold State.restart
  split
  · rw [beginStart_eq]
  · rfl

theorem restart_flash (s : State) : s.restart.boot.flash = s.boot.flash := by
  unfold State.restart
  split <;> rfl

theorem regsKept_restart (s t : State) (fs : List Fld) (h : regsKept s t fs) (hf : ∀ g ∈ restartFields, g ∈ fs) :
    regsKept s t.restart fs := by
  have m : ∀ g ∈ restartFields, g ∈ fs := hf
  unfold State.restart
  refine regsKept_ite ?_ h
  have h1 := regsKept_wr Reg.BOOT_STATUS_STEP 0 h (m _ (by simp [restartFields]))
  have h2 := regsKept_wr Reg.BOOT_ATTEMPTS_ATTEMPTS 1 h1 (m _ (by simp [restartFields]))
  have h3 := regsKept_wr Reg.BOOT_BACKOFF_BELLS 1 h2 (m _ (by simp [restartFields]))
  have h4 := regsKept_upd (u := t.nextStep 0) h3 rfl
  have h5 := regsKept_wr Reg.DEVICE_STATE_STATE 0 h4 (m _ (by simp [restartFields]))
  have h6 := regsKept_wr Reg.BOOT_STARTS_STARTS (((t.nextStep 0).wr Reg.DEVICE_STATE_STATE 0 |> fun _ => t).rd
    Reg.BOOT_STARTS_STARTS + 1) h5 (m _ (by simp [restartFields]))
  exact regsKept_upd h6 rfl

theorem warmReset_kept (s : State) (c : ResetCause) : warmKept s (s.warmReset c) := by
  rw [warmReset_eq]
  refine ⟨rfl, rfl, rfl, rfl, rfl, rfl, rfl, rfl, rfl, rfl, fun f hf => ?_⟩
  have hw : ∀ g ∈ Reg.THERMAL_STATUS_THERM_N_PIN :: warmFields, f.key ≠ g.key := by
    intro g hg
    rcases List.mem_cons.1 hg with rfl | hg
    · exact hf _ (by simp [restartFields])
    · exact hf _ (List.mem_append_right _ hg)
  refine Eq.trans ?_ (rd_warmCore s f hw)
  have hk : regsKept s.warmCore (s.warmReset c) restartFields := by
    unfold State.warmReset
    simp only []
    have h1 := regsKept_bump Ctr.TOP_WARM_RESETS 1 (regsKept_refl s.warmCore restartFields) (by simp [restartFields])
      (by simp [restartFields, Ctr.TOP_WARM_RESETS])
    have h2 := regsKept_wr (causeFld c) 1 h1 (by cases c <;> simp [restartFields, causeFld])
    have h3 := regsKept_upd (u := ((s.warmCore.bump Ctr.TOP_WARM_RESETS 1).wr (causeFld c) 1).newNonce) h2 rfl
    exact regsKept_ite (regsKept_bump _ _ h3 (by simp [restartFields])
      (by simp [restartFields, Ctr.ALARM_REACTION_RESETS])) h3
  exact hk f (fun g hg => hf g (List.mem_append_left _ hg))

/-- What a warm reset keeps, the start-up that it begins keeps as well. -/
theorem warmKept_restart {s t : State} (h : warmKept s t) : warmKept s t.restart := by
  obtain ⟨a1, a2, a3, a4, a5, a6, a7, a8, a9, a10, a11⟩ := h
  refine ⟨?_, ?_, ?_, ?_, ?_, ?_, ?_, (restart_flash t).trans a8, ?_, ?_, fun f hf => ?_⟩
  case refine_10 =>
    exact (regsKept_restart t t restartFields (regsKept_refl t _) (fun g hg => hg) f
      (fun g hg => hf g (List.mem_append_left _ hg))).trans (a11 f hf)
  all_goals (rw [restart_eq]; assumption)

end Sys2Proof.Machine
end

