-- ==== Sys2Proof/Laws/Within.lean ====
section
/-! SUPPORT. Sys2Proof/Laws/Within.lean: the relation that every operation is shown to stand in: it changes no part of the
state beyond those listed, and keeps what holds of every well-formed state. -/

namespace Sys2Proof.Machine

/-- From `s` to `t` only the listed parts change, and `t` is well-formed if `s` is. -/
def within (ps : List Part) (s t : State) : Prop := frame ps s t ∧ (s.Inv → t.Inv)

theorem part_same_refl (s : State) (p : Part) : p.same s s := by cases p <;> rfl

theorem part_same_trans {s t u : State} {p : Part} (h1 : p.same s t) (h2 : p.same t u) : p.same s u := by
  cases p <;> exact h2.trans h1

theorem within_refl (ps : List Part) (s : State) : within ps s s := ⟨fun p _ => part_same_refl s p, fun h => h⟩

theorem within_trans {ps : List Part} {s t u : State} (h1 : within ps s t) (h2 : within ps t u) : within ps s u :=
  ⟨fun p hp => part_same_trans (h1.1 p hp) (h2.1 p hp), fun h => h2.2 (h1.2 h)⟩

theorem within_mono {ps qs : List Part} {s t : State} (h : within ps s t) (hs : ∀ p ∈ ps, p ∈ qs) : within qs s t :=
  ⟨fun p hp => h.1 p (fun hq => hp (hs p hq)), h.2⟩

/-- A step of an operation: what is called touches fewer parts, and is called on a state already reached. -/
theorem within_call {ps qs : List Part} {s t u : State} (h : within ps t u) (hs : ∀ p ∈ ps, p ∈ qs)
    (h0 : within qs s t) : within qs s u := within_trans h0 (within_mono h hs)

/-- A record update of a state already reached, found by its queue of waiting commands. -/
theorem within_mk {ps : List Part} {s : State}
    {regs : Map Nat} {bellNum : Nat} {ticks : Nat} {draws : Nat} {pages : PageState} {ledger : LedgerState}
    {alarm : AlarmState} {bell : BellState} {pins : Pins} {thermal : ThermalState} {active : TableSet} {shadow
    : TableSet} {lastRead : Map Nat} {alm : Almanac} {scratch : Map Byte} {boot : BootState} {uahus :
    UahusState} {lantern : LanternState} {ageing : Map Ageing} {codes : Map Nat} {monitors : Map Monitor}
    {adcFault : Nat} {twins : TwinsState} {links : Map Link} {hops : Map Hop} {tx : Map TxFrame} {shepherd :
    ShepherdState} {sched : SchedState} {tasks : Map Task} {ring : RingState} {granary : GranaryState} {miller
    : MillerState} {mill : MillState} {groups : GroupState} {routines : Map Routine} {banks : Map BgBank}
    {calib : CalibState} {telem : TelemState} {mgmt : MgmtState} {pending : List Instr} (x : State) (_hb : pending = x.pending)
    (hf : ∀ p, Part.same x ⟨regs, bellNum, ticks, draws, pages, ledger, alarm, bell, pins, thermal, active, shadow, lastRead, alm,
      scratch, boot, uahus, lantern, ageing, codes, monitors, adcFault, twins, links, hops, tx, shepherd,
      sched, tasks, ring, granary, miller, mill, groups, routines, banks, calib, telem, mgmt, pending⟩ p ∨ p ∈ ps)
    (hi : x.Inv → State.Inv ⟨regs, bellNum, ticks, draws, pages, ledger, alarm, bell, pins, thermal, active, shadow, lastRead, alm,
      scratch, boot, uahus, lantern, ageing, codes, monitors, adcFault, twins, links, hops, tx, shepherd,
      sched, tasks, ring, granary, miller, mill, groups, routines, banks, calib, telem, mgmt, pending⟩)
    (h0 : within ps s x) :
    within ps s ⟨regs, bellNum, ticks, draws, pages, ledger, alarm, bell, pins, thermal, active, shadow, lastRead, alm,
      scratch, boot, uahus, lantern, ageing, codes, monitors, adcFault, twins, links, hops, tx, shepherd,
      sched, tasks, ring, granary, miller, mill, groups, routines, banks, calib, telem, mgmt, pending⟩ :=
  within_trans h0 ⟨fun p hp => (hf p).resolve_right hp, hi⟩

/-- One more step within the same parts. -/
theorem within_next {ps : List Part} {s t u : State} (h : within ps t u) (h0 : within ps s t) : within ps s u :=
  within_trans h0 h

/-! ### One part set -/

theorem within_set_ticks {ps : List Part} {s x : State} {v} (hp : Part.ticks ∈ ps) (h0 : within ps s x) :
    within ps s { x with ticks := v } :=
  within_trans h0 ⟨fun p h => by cases p <;> first | rfl | exact absurd hp h,
    fun h => ⟨h.regs, h.granary, h.scratch, h.bell, h.queue⟩⟩

theorem within_set_draws {ps : List Part} {s x : State} {v} (hp : Part.draws ∈ ps) (h0 : within ps s x) :
    within ps s { x with draws := v } :=
  within_trans h0 ⟨fun p h => by cases p <;> first | rfl | exact absurd hp h,
    fun h => ⟨h.regs, h.granary, h.scratch, h.bell, h.queue⟩⟩

theorem within_set_pages {ps : List Part} {s x : State} {v} (hp : Part.pages ∈ ps) (h0 : within ps s x) :
    within ps s { x with pages := v } :=
  within_trans h0 ⟨fun p h => by cases p <;> first | rfl | exact absurd hp h,
    fun h => ⟨h.regs, h.granary, h.scratch, h.bell, h.queue⟩⟩

theorem within_set_alarm {ps : List Part} {s x : State} {v} (hp : Part.alarm ∈ ps) (h0 : within ps s x) :
    within ps s { x with alarm := v } :=
  within_trans h0 ⟨fun p h => by cases p <;> first | rfl | exact absurd hp h,
    fun h => ⟨h.regs, h.granary, h.scratch, h.bell, h.queue⟩⟩

theorem within_set_bell {ps : List Part} {s x : State} {v} (hp : Part.bell ∈ ps) (h0 : within ps s x) :
    within ps s { x with bell := v } :=
  within_trans h0 ⟨fun p h => by cases p <;> first | rfl | exact absurd hp h,
    fun h => ⟨h.regs, h.granary, h.scratch, h.bell, h.queue⟩⟩

theorem within_set_pins {ps : List Part} {s x : State} {v} (hp : Part.pins ∈ ps) (h0 : within ps s x) :
    within ps s { x with pins := v } :=
  within_trans h0 ⟨fun p h => by cases p <;> first | rfl | exact absurd hp h,
    fun h => ⟨h.regs, h.granary, h.scratch, h.bell, h.queue⟩⟩

theorem within_set_thermal {ps : List Part} {s x : State} {v} (hp : Part.thermal ∈ ps) (h0 : within ps s x) :
    within ps s { x with thermal := v } :=
  within_trans h0 ⟨fun p h => by cases p <;> first | rfl | exact absurd hp h,
    fun h => ⟨h.regs, h.granary, h.scratch, h.bell, h.queue⟩⟩

theorem within_set_active {ps : List Part} {s x : State} {v} (hp : Part.active ∈ ps) (h0 : within ps s x) :
    within ps s { x with active := v } :=
  within_trans h0 ⟨fun p h => by cases p <;> first | rfl | exact absurd hp h,
    fun h => ⟨h.regs, h.granary, h.scratch, h.bell, h.queue⟩⟩

theorem within_set_shadow {ps : List Part} {s x : State} {v} (hp : Part.shadow ∈ ps) (h0 : within ps s x) :
    within ps s { x with shadow := v } :=
  within_trans h0 ⟨fun p h => by cases p <;> first | rfl | exact absurd hp h,
    fun h => ⟨h.regs, h.granary, h.scratch, h.bell, h.queue⟩⟩

theorem within_set_lastRead {ps : List Part} {s x : State} {v} (hp : Part.lastRead ∈ ps) (h0 : within ps s x) :
    within ps s { x with lastRead := v } :=
  within_trans h0 ⟨fun p h => by cases p <;> first | rfl | exact absurd hp h,
    fun h => ⟨h.regs, h.granary, h.scratch, h.bell, h.queue⟩⟩

theorem within_set_alm {ps : List Part} {s x : State} {v} (hp : Part.alm ∈ ps) (h0 : within ps s x) :
    within ps s { x with alm := v } :=
  within_trans h0 ⟨fun p h => by cases p <;> first | rfl | exact absurd hp h,
    fun h => ⟨h.regs, h.granary, h.scratch, h.bell, h.queue⟩⟩

theorem within_set_boot {ps : List Part} {s x : State} {v} (hp : Part.boot ∈ ps) (h0 : within ps s x) :
    within ps s { x with boot := v } :=
  within_trans h0 ⟨fun p h => by cases p <;> first | rfl | exact absurd hp h,
    fun h => ⟨h.regs, h.granary, h.scratch, h.bell, h.queue⟩⟩

theorem within_set_uahus {ps : List Part} {s x : State} {v} (hp : Part.uahus ∈ ps) (h0 : within ps s x) :
    within ps s { x with uahus := v } :=
  within_trans h0 ⟨fun p h => by cases p <;> first | rfl | exact absurd hp h,
    fun h => ⟨h.regs, h.granary, h.scratch, h.bell, h.queue⟩⟩

theorem within_set_lantern {ps : List Part} {s x : State} {v} (hp : Part.lantern ∈ ps) (h0 : within ps s x) :
    within ps s { x with lantern := v } :=
  within_trans h0 ⟨fun p h => by cases p <;> first | rfl | exact absurd hp h,
    fun h => ⟨h.regs, h.granary, h.scratch, h.bell, h.queue⟩⟩

theorem within_set_ageing {ps : List Part} {s x : State} {v} (hp : Part.ageing ∈ ps) (h0 : within ps s x) :
    within ps s { x with ageing := v } :=
  within_trans h0 ⟨fun p h => by cases p <;> first | rfl | exact absurd hp h,
    fun h => ⟨h.regs, h.granary, h.scratch, h.bell, h.queue⟩⟩

theorem within_set_codes {ps : List Part} {s x : State} {v} (hp : Part.codes ∈ ps) (h0 : within ps s x) :
    within ps s { x with codes := v } :=
  within_trans h0 ⟨fun p h => by cases p <;> first | rfl | exact absurd hp h,
    fun h => ⟨h.regs, h.granary, h.scratch, h.bell, h.queue⟩⟩

theorem within_set_monitors {ps : List Part} {s x : State} {v} (hp : Part.monitors ∈ ps) (h0 : within ps s x) :
    within ps s { x with monitors := v } :=
  within_trans h0 ⟨fun p h => by cases p <;> first | rfl | exact absurd hp h,
    fun h => ⟨h.regs, h.granary, h.scratch, h.bell, h.queue⟩⟩

theorem within_set_adcFault {ps : List Part} {s x : State} {v} (hp : Part.adcFault ∈ ps) (h0 : within ps s x) :
    within ps s { x with adcFault := v } :=
  within_trans h0 ⟨fun p h => by cases p <;> first | rfl | exact absurd hp h,
    fun h => ⟨h.regs, h.granary, h.scratch, h.bell, h.queue⟩⟩

theorem within_set_twins {ps : List Part} {s x : State} {v} (hp : Part.twins ∈ ps) (h0 : within ps s x) :
    within ps s { x with twins := v } :=
  within_trans h0 ⟨fun p h => by cases p <;> first | rfl | exact absurd hp h,
    fun h => ⟨h.regs, h.granary, h.scratch, h.bell, h.queue⟩⟩

theorem within_set_links {ps : List Part} {s x : State} {v} (hp : Part.links ∈ ps) (h0 : within ps s x) :
    within ps s { x with links := v } :=
  within_trans h0 ⟨fun p h => by cases p <;> first | rfl | exact absurd hp h,
    fun h => ⟨h.regs, h.granary, h.scratch, h.bell, h.queue⟩⟩

theorem within_set_hops {ps : List Part} {s x : State} {v} (hp : Part.hops ∈ ps) (h0 : within ps s x) :
    within ps s { x with hops := v } :=
  within_trans h0 ⟨fun p h => by cases p <;> first | rfl | exact absurd hp h,
    fun h => ⟨h.regs, h.granary, h.scratch, h.bell, h.queue⟩⟩

theorem within_set_tx {ps : List Part} {s x : State} {v} (hp : Part.tx ∈ ps) (h0 : within ps s x) :
    within ps s { x with tx := v } :=
  within_trans h0 ⟨fun p h => by cases p <;> first | rfl | exact absurd hp h,
    fun h => ⟨h.regs, h.granary, h.scratch, h.bell, h.queue⟩⟩

theorem within_set_shepherd {ps : List Part} {s x : State} {v} (hp : Part.shepherd ∈ ps) (h0 : within ps s x) :
    within ps s { x with shepherd := v } :=
  within_trans h0 ⟨fun p h => by cases p <;> first | rfl | exact absurd hp h,
    fun h => ⟨h.regs, h.granary, h.scratch, h.bell, h.queue⟩⟩

theorem within_set_sched {ps : List Part} {s x : State} {v} (hp : Part.sched ∈ ps) (h0 : within ps s x) :
    within ps s { x with sched := v } :=
  within_trans h0 ⟨fun p h => by cases p <;> first | rfl | exact absurd hp h,
    fun h => ⟨h.regs, h.granary, h.scratch, h.bell, h.queue⟩⟩

theorem within_set_tasks {ps : List Part} {s x : State} {v} (hp : Part.tasks ∈ ps) (h0 : within ps s x) :
    within ps s { x with tasks := v } :=
  within_trans h0 ⟨fun p h => by cases p <;> first | rfl | exact absurd hp h,
    fun h => ⟨h.regs, h.granary, h.scratch, h.bell, h.queue⟩⟩

theorem within_set_ring {ps : List Part} {s x : State} {v} (hp : Part.ring ∈ ps) (h0 : within ps s x) :
    within ps s { x with ring := v } :=
  within_trans h0 ⟨fun p h => by cases p <;> first | rfl | exact absurd hp h,
    fun h => ⟨h.regs, h.granary, h.scratch, h.bell, h.queue⟩⟩

theorem within_set_miller {ps : List Part} {s x : State} {v} (hp : Part.miller ∈ ps) (h0 : within ps s x) :
    within ps s { x with miller := v } :=
  within_trans h0 ⟨fun p h => by cases p <;> first | rfl | exact absurd hp h,
    fun h => ⟨h.regs, h.granary, h.scratch, h.bell, h.queue⟩⟩

theorem within_set_mill {ps : List Part} {s x : State} {v} (hp : Part.mill ∈ ps) (h0 : within ps s x) :
    within ps s { x with mill := v } :=
  within_trans h0 ⟨fun p h => by cases p <;> first | rfl | exact absurd hp h,
    fun h => ⟨h.regs, h.granary, h.scratch, h.bell, h.queue⟩⟩

theorem within_set_groups {ps : List Part} {s x : State} {v} (hp : Part.groups ∈ ps) (h0 : within ps s x) :
    within ps s { x with groups := v } :=
  within_trans h0 ⟨fun p h => by cases p <;> first | rfl | exact absurd hp h,
    fun h => ⟨h.regs, h.granary, h.scratch, h.bell, h.queue⟩⟩

theorem within_set_routines {ps : List Part} {s x : State} {v} (hp : Part.routines ∈ ps) (h0 : within ps s x) :
    within ps s { x with routines := v } :=
  within_trans h0 ⟨fun p h => by cases p <;> first | rfl | exact absurd hp h,
    fun h => ⟨h.regs, h.granary, h.scratch, h.bell, h.queue⟩⟩

theorem within_set_banks {ps : List Part} {s x : State} {v} (hp : Part.banks ∈ ps) (h0 : within ps s x) :
    within ps s { x with banks := v } :=
  within_trans h0 ⟨fun p h => by cases p <;> first | rfl | exact absurd hp h,
    fun h => ⟨h.regs, h.granary, h.scratch, h.bell, h.queue⟩⟩

theorem within_set_calib {ps : List Part} {s x : State} {v} (hp : Part.calib ∈ ps) (h0 : within ps s x) :
    within ps s { x with calib := v } :=
  within_trans h0 ⟨fun p h => by cases p <;> first | rfl | exact absurd hp h,
    fun h => ⟨h.regs, h.granary, h.scratch, h.bell, h.queue⟩⟩

theorem within_set_telem {ps : List Part} {s x : State} {v} (hp : Part.telem ∈ ps) (h0 : within ps s x) :
    within ps s { x with telem := v } :=
  within_trans h0 ⟨fun p h => by cases p <;> first | rfl | exact absurd hp h,
    fun h => ⟨h.regs, h.granary, h.scratch, h.bell, h.queue⟩⟩

theorem within_set_mgmt {ps : List Part} {s x : State} {v} (hp : Part.mgmt ∈ ps) (h0 : within ps s x) :
    within ps s { x with mgmt := v } :=
  within_trans h0 ⟨fun p h => by cases p <;> first | rfl | exact absurd hp h,
    fun h => ⟨h.regs, h.granary, h.scratch, h.bell, h.queue⟩⟩

theorem within_foldl {ps : List Part} {β : Type} {s a : State} {g : State → β → State} {l : List β}
    (hg : ∀ acc x, within ps acc (g acc x)) (h0 : within ps s a) : within ps s (l.foldl g a) := by
  induction l generalizing a with
  | nil => exact h0
  | cons x l ih => exact ih (within_trans h0 (hg a x))

/-- A fold over a pair whose second part is the state. -/
theorem within_foldl_snd {ps : List Part} {β γ : Type} {s : State} {a : γ × State} {g : γ × State → β → γ × State}
    {l : List β} (hg : ∀ acc x, within ps acc.2 (g acc x).2) (h0 : within ps s a.2) :
    within ps s (l.foldl g a).2 := by
  induction l generalizing a with
  | nil => exact h0
  | cons x l ih => exact ih (within_trans h0 (hg a x))

/-- A fold over a pair whose first part is the state. -/
theorem within_foldl_fst {ps : List Part} {β γ : Type} {s : State} {a : State × γ} {g : State × γ → β → State × γ}
    {l : List β} (hg : ∀ acc x, within ps acc.1 (g acc x).1) (h0 : within ps s a.1) :
    within ps s (l.foldl g a).1 := by
  induction l generalizing a with
  | nil => exact h0
  | cons x l ih => exact ih (within_trans h0 (hg a x))

/-- A pair taken apart by a match. -/
theorem within_snd {ps : List Part} {α : Type} {s b : State} {r : α × State} {x : α} (h : r = (x, b))
    (hw : within ps s r.2) : within ps s b := by subst h; exact hw

theorem within_fst {ps : List Part} {α : Type} {s b : State} {r : State × α} {x : α} (h : r = (b, x))
    (hw : within ps s r.1) : within ps s b := by subst h; exact hw

theorem within_snd_snd {ps : List Part} {α β : Type} {s b : State} {r : α × β × State} {x : α} {y : β}
    (h : r = (x, y, b)) (hw : within ps s r.2.2) : within ps s b := by subst h; exact hw

/-- The command completes, changing no part beyond those listed. -/
def runs (ps : List Part) (s : State) (o : Out) : Prop := ∃ t, o = .next t ∧ within ps s t

theorem runs_ok {ps : List Part} {s t : State} (h : within ps s t) : runs ps s (ok t) := ⟨t, rfl, h⟩

theorem runs_mono {ps qs : List Part} {s : State} {o : Out} (h : runs ps s o) (hs : ∀ p ∈ ps, p ∈ qs) : runs qs s o :=
  h.elim fun t ht => ⟨t, ht.1, within_mono ht.2 hs⟩

/-- What an operation that may answer no state leaves where it answers one. -/
abbrev withinO (ps : List Part) (s : State) (o : Option State) : Prop := ∀ t, o = some t → within ps s t

theorem withinO_none (ps : List Part) (s : State) : withinO ps s none := fun _ h => by simp at h

theorem withinO_some {ps : List Part} {s t : State} (h : within ps s t) : withinO ps s (some t) :=
  fun _ e => by cases e; exact h

/-- The same for an operation that answers a value beside the state. -/
abbrev withinOp {α : Type} (ps : List Part) (s : State) (o : Option (α × State)) : Prop :=
  ∀ r, o = some r → within ps s r.2

theorem withinOp_none {α : Type} (ps : List Part) (s : State) : withinOp (α := α) ps s none := fun _ h => by simp at h

theorem withinOp_some {α : Type} {ps : List Part} {s : State} {r : α × State} (h : within ps s r.2) :
    withinOp ps s (some r) := fun _ e => by cases e; exact h

theorem withinO_mono {ps qs : List Part} {s : State} {o : Option State} (h : withinO ps s o)
    (hs : ∀ p ∈ ps, p ∈ qs) : withinO qs s o := fun t e => within_mono (h t e) hs

theorem withinOp_mono {α : Type} {ps qs : List Part} {s : State} {o : Option (α × State)} (h : withinOp ps s o)
    (hs : ∀ p ∈ ps, p ∈ qs) : withinOp qs s o := fun t e => within_mono (h t e) hs

/-- The base of an optional answer moved back to a state already reached. -/
theorem withinO_from {ps : List Part} {s t : State} {o : Option State} (h : within ps s t) (ho : withinO ps t o) :
    withinO ps s o := fun u e => within_trans h (ho u e)

theorem withinOp_from {α : Type} {ps : List Part} {s t : State} {o : Option (α × State)} (h : within ps s t)
    (ho : withinOp ps t o) : withinOp ps s o := fun u e => within_trans h (ho u e)

/-- What is shown of a value computed on the way, then used. -/
theorem first_show {Q : Prop} (P : Prop) (hp : P) (h : P → Q) : Q := h hp

/-- A register write keeps the register store in order. -/
theorem State.wr_within (s : State) (f : Fld) (v : Nat) : within [.regs] s (s.wr f v) :=
  ⟨fun p hp => by cases p <;> first | rfl | exact absurd (List.mem_singleton.2 rfl) hp,
   fun h => ⟨mapSorted_mset _ _ _ h.regs, h.granary, h.scratch, h.bell, h.queue⟩⟩

end Sys2Proof.Machine
end

