-- ==== Sys2Proof/Tests/Slice0.lean ====
section
/-! SUPPORT. Sys2Proof/Tests/Slice0.lean: tests of single steps, and a concrete state that meets the hypotheses of each
statement. -/

namespace Sys2Proof.Tests

open Sys2Proof.Machine

theorem test_reset_wf : State.reset.Inv := ⟨rfl, rfl, rfl, by decide, by decide⟩

end Sys2Proof.Tests
end

section
-- Elaborated in turn: at the stack that the check gives a thread, a thousand proofs side by side exceed its memory.
set_option Elab.async false

/-! ## Every operation keeps the state well-formed

One lemma per operation of the model, in the model's order: an operation applied to a state `t` that `s` leads to
(`keeps s t`) leads there too, so a proof follows the operation's own shape, a step of its body at a time. -/

namespace Sys2Proof.Machine

/-- Every part of the state but the queue of waiting commands. -/
def workParts : List Part :=
  [.regs, .bellNum, .ticks, .draws, .pages, .ledger, .alarm, .bell, .pins, .thermal, .active, .shadow, .lastRead, .alm,
   .scratch, .boot, .uahus, .lantern, .ageing, .codes, .monitors, .adcFault, .twins, .links, .hops, .tx, .shepherd,
   .sched, .tasks, .ring, .granary, .miller, .mill, .groups, .routines, .banks, .calib, .telem, .mgmt]

/-- The bell's number, the time that has passed and the number loaded for the next bell are as they were. -/
def sameTime (s t : State) : Prop := t.bellNum = s.bellNum ∧ t.ticks = s.ticks ∧ t.bell.nextNum = s.bell.nextNum

/-- From `s` to `t` the queue of waiting commands is as it was, `t` is well-formed if `s` is, and, where `T` holds, no
time has passed. -/
def keeps (T : Prop) (s t : State) : Prop := within workParts s t ∧ (T → sameTime s t)

theorem within_workParts (s t : State) : within workParts s t ↔ t.pending = s.pending ∧ (s.Inv → t.Inv) := by
  refine ⟨fun h => ⟨h.1 .pending (by decide), h.2⟩, fun h => ⟨fun p hp => ?_, h.2⟩⟩
  cases p with
  | pending => exact h.1
  | _ => exact absurd (by decide) hp

namespace keeps

variable {T : Prop} {s t u : State}

theorem same (s : State) : keeps T s s := ⟨within_refl _ s, fun _ => ⟨rfl, rfl, rfl⟩⟩

/-- The start of an operation of which only the queue and the well-formedness are followed. -/
theorem refl (s : State) : keeps False s s := same s

theorem trans (h : keeps T s t) (h' : keeps T t u) : keeps T s u := by
  refine ⟨within_trans h.1 h'.1, fun hT => ?_⟩
  obtain ⟨hb, ht, hn⟩ := h.2 hT
  obtain ⟨hb', ht', hn'⟩ := h'.2 hT
  exact ⟨hb'.trans hb, ht'.trans ht, hn'.trans hn⟩

theorem weaken (h : keeps T s t) : keeps False s t := ⟨h.1, False.elim⟩

/-- An operation that leaves the queue of waiting commands, and the time, and keeps what holds of every well-formed
state. -/
theorem step (h : keeps T s t) (hi : t.Inv → u.Inv) (hp : u.pending = t.pending := by rfl)
    (hb : u.bellNum = t.bellNum := by rfl) (ht : u.ticks = t.ticks := by rfl)
    (hn : u.bell.nextNum = t.bell.nextNum := by rfl) : keeps T s u :=
  h.trans ⟨(within_workParts t u).2 ⟨hp, hi⟩, fun _ => ⟨hb, ht, hn⟩⟩

/-- An operation that sets the time. -/
theorem setTime (h : keeps T s t) (hi : t.Inv → u.Inv) (hp : u.pending = t.pending := by rfl) : keeps False s u :=
  h.weaken.trans ⟨(within_workParts t u).2 ⟨hp, hi⟩, False.elim⟩

theorem ite {c : Prop} [Decidable c] (ht : keeps T s t) (hu : keeps T s u) : keeps T s (if c then t else u) := by
  split
  · exact ht
  · exact hu

/-- A record update of `x` that leaves alone the time and what the invariant speaks of. -/
theorem upd {x : State}
    {regs : Map Nat} {bellNum : Nat} {ticks : Nat} {draws : Nat} {pages : PageState} {ledger : LedgerState}
    {alarm : AlarmState} {bell : BellState} {pins : Pins} {thermal : ThermalState} {active : TableSet} {shadow
    : TableSet} {lastRead : Map Nat} {alm : Almanac} {scratch : Map Byte} {boot : BootState} {uahus :
    UahusState} {lantern : LanternState} {ageing : Map Ageing} {codes : Map Nat} {monitors : Map Monitor}
    {adcFault : Nat} {twins : TwinsState} {links : Map Link} {hops : Map Hop} {tx : Map TxFrame} {shepherd :
    ShepherdState} {sched : SchedState} {tasks : Map Task} {ring : RingState} {granary : GranaryState} {miller
    : MillerState} {mill : MillState} {groups : GroupState} {routines : Map Routine} {banks : Map BgBank}
    {calib : CalibState} {telem : TelemState} {mgmt : MgmtState} (h : keeps T s x)
    (hr : regs = x.regs := by rfl) (hb : bellNum = x.bellNum := by rfl)
    (ht : T → ticks = x.ticks := by exact fun _ => rfl)
    (hn : T → bell.nextNum = x.bell.nextNum := by exact fun _ => rfl)
    (hl : ledger.queue = x.ledger.queue := by rfl) (hc : scratch = x.scratch := by rfl)
    (hg : granary.mem = x.granary.mem := by rfl) :
    keeps T s ⟨regs, bellNum, ticks, draws, pages, ledger, alarm, bell, pins, thermal, active, shadow, lastRead, alm,
      scratch, boot, uahus, lantern, ageing, codes, monitors, adcFault, twins, links, hops, tx, shepherd,
      sched, tasks, ring, granary, miller, mill, groups, routines, banks, calib, telem, mgmt, x.pending⟩ :=
  have hi (i : x.Inv) : State.Inv _ :=
    ⟨hr ▸ i.regs, hg ▸ i.granary, hc ▸ i.scratch, hb ▸ i.bell, hl ▸ i.queue⟩
  h.trans ⟨(within_workParts _ _).2 ⟨rfl, hi⟩, fun hT => ⟨hb, ht hT, hn hT⟩⟩

theorem wr {f : Fld} {v : Nat} (h : keeps T s t) : keeps T s (t.wr f v) :=
  h.step fun i => ⟨mapSorted_mset _ _ _ i.regs, i.granary, i.scratch, i.bell, i.queue⟩

theorem foldl {β : Type} {g : State → β → State} {l : List β} (hg : ∀ a x, keeps T s a → keeps T s (g a x))
    (h : keeps T s t) : keeps T s (l.foldl g t) := by
  induction l generalizing t with
  | nil => exact h
  | cons x l ih => exact ih (hg t x h)

/-- A fold over a pair, of which one part is the state. -/
theorem foldlSnd {α β : Type} {g : α × State → β → α × State} {l : List β} {a : α × State}
    (hg : ∀ a x, keeps T s a.2 → keeps T s (g a x).2) (h : keeps T s a.2) : keeps T s (l.foldl g a).2 := by
  induction l generalizing a with
  | nil => exact h
  | cons x l ih => exact ih (hg a x h)

theorem foldlFst {α β : Type} {g : State × α → β → State × α} {l : List β} {a : State × α}
    (hg : ∀ a x, keeps T s a.1 → keeps T s (g a x).1) (h : keeps T s a.1) : keeps T s (l.foldl g a).1 := by
  induction l generalizing a with
  | nil => exact h
  | cons x l ih => exact ih (hg a x h)

theorem foldlSndSnd {α α' β : Type} {g : α × α' × State → β → α × α' × State} {l : List β} {a : α × α' × State}
    (hg : ∀ a x, keeps T s a.2.2 → keeps T s (g a x).2.2) (h : keeps T s a.2.2) : keeps T s (l.foldl g a).2.2 := by
  induction l generalizing a with
  | nil => exact h
  | cons x l ih => exact ih (hg a x h)

theorem snd {α : Type} {x : α} (h : keeps T s t) : keeps T s (x, t).2 := h
theorem fst {α : Type} {x : α} (h : keeps T s t) : keeps T s (t, x).1 := h
theorem sndSnd {α α' : Type} {x : α} {y : α'} (h : keeps T s t) : keeps T s (x, y, t).2.2 := h

theorem elim {α : Type} {o : Option α} {f : α → State} (h : keeps T s t) (hf : ∀ x, keeps T s (f x)) :
    keeps T s (o.elim t f) := by
  cases o with
  | none => exact h
  | some x => exact hf x

theorem of_snd {α : Type} {r : α × State} {x : α} (e : r = (x, t)) (h : keeps T s r.2) : keeps T s t := by
  subst e; exact h

theorem ok (h : keeps False s t) : runs workParts s (ok t) := runs_ok h.1

end keeps

theorem runs_ite {ps : List Part} {s : State} {a b : Out} {c : Prop} [Decidable c] (ha : runs ps s a)
    (hb : runs ps s b) : runs ps s (if c then a else b) := by
  split
  · exact ha
  · exact hb

/-- What an operation that may answer no state keeps where it answers one. -/
def keepsO (T : Prop) (s : State) (o : Option State) : Prop := ∀ ⦃u⦄, o = some u → keeps T s u

/-- The same where the state stands in a part `φ` of the answer. -/
def keepsOp {α : Type} (T : Prop) (φ : α → State) (s : State) (o : Option α) : Prop :=
  ∀ ⦃r⦄, o = some r → keeps T s (φ r)

namespace keeps

variable {T : Prop} {s t u : State}

theorem none_ : keepsO T s none := fun _ e => by cases e

theorem some_ (h : keeps T s t) : keepsO T s (some t) := fun _ e => by cases e; exact h

theorem getD {o : Option State} (ho : keepsO T s o) (h : keeps T s t) : keeps T s (o.getD t) := by
  cases o with
  | none => exact h
  | some x => exact ho rfl

theorem iteO {o p : Option State} {c : Prop} [Decidable c] (ho : keepsO T s o) (hp : keepsO T s p) :
    keepsO T s (if c then o else p) := by
  split
  · exact ho
  · exact hp

theorem noneP_ {α : Type} {φ : α → State} : keepsOp T φ s none := fun _ e => by cases e

theorem someP_ {α : Type} {φ : α → State} {r : α} (h : keeps T s (φ r)) : keepsOp T φ s (some r) :=
  fun _ e => by cases e; exact h

theorem iteOP {α : Type} {φ : α → State} {o p : Option α} {c : Prop} [Decidable c] (ho : keepsOp T φ s o)
    (hp : keepsOp T φ s p) : keepsOp T φ s (if c then o else p) := by
  split
  · exact ho
  · exact hp

/-! ### The operations of Machine/Ops.lean -/

theorem wrI {f : Fld} {v : Int} (h : keeps T s t) : keeps T s (t.wrI f v) := by
  unfold State.wrI
  exact h.wr

theorem wrB {f : Fld} {b : Bool} (h : keeps T s t) : keeps T s (t.wrB f b) := by
  unfold State.wrB
  exact h.wr

theorem bump {c : Ctr} {n : Nat} (h : keeps T s t) : keeps T s (t.bump c n) := by
  unfold State.bump
  exact h.wr.ite h.wr.wr

theorem addSat {f : Fld} {n : Nat} (h : keeps T s t) : keeps T s (t.addSat f n) := by
  unfold State.addSat
  exact h.wr

theorem draw (h : keeps T s t) : keeps T s t.draw.2 := by
  unfold State.draw
  exact h.upd.snd

theorem setUnit {u' : Nat} {d : DebugUnit} (h : keeps T s t) : keeps T s (t.setUnit u' d) := by
  unfold State.setUnit
  exact h.upd

theorem summarise {p : Nat} (h : keeps T s t) : keeps T s (t.summarise p) := by
  unfold State.summarise
  split
  · exact h
  · exact h.wr.ite h

theorem alarmRelease (h : keeps T s t) : keeps T s t.alarmRelease := by
  unfold State.alarmRelease
  exact h.wr.wr.wr.wr.upd

theorem alarmTryRelease (h : keeps T s t) : keeps T s t.alarmTryRelease := by
  unfold State.alarmTryRelease
  exact h.alarmRelease.ite h

theorem alarmDrive (h : keeps T s t) : keeps T s t.alarmDrive := by
  unfold State.alarmDrive
  exact h.ite h.wr.wr.upd

theorem alarmAssert (h : keeps T s t) : keeps T s t.alarmAssert := by
  unfold State.alarmAssert
  extract_lets _ _ _ _ _ s1
  have h1 : keeps T s s1 := (h.ite h.bump.upd).wr.wr.wr.upd
  exact h1.alarmDrive.ite h1

theorem say {t' : List Byte} (h : keeps T s t) : keeps T s (t.say t') := by
  unfold State.say
  exact h.upd

theorem consoleLog {ws : List (List Byte)} (h : keeps T s t) : keeps T s (t.consoleLog ws) := by
  unfold State.consoleLog
  exact h.say.ite h

theorem reportRising {page b cls : Nat} (h : keeps T s t) : keeps T s (t.reportRising page b cls) := by
  unfold State.reportRising
  exact (h.upd.ite h).consoleLog

theorem react {e : ErrBit} {cls : Nat} {tag : EntryTag} (h : keeps T s t) : keeps T s (t.react e cls tag) := by
  unfold State.react
  extract_lets _ s1
  have h1 : keeps T s s1 := h.bump.wr.wr.wr.wr.wr
  exact (h1.alarmAssert.ite h1).reportRising.upd

theorem enqueue {e : Entry} (h : keeps T s t) : keeps T s (t.enqueue e) := by
  unfold State.enqueue
  split
  · next hq => exact h.step fun i => ⟨i.regs, i.granary, i.scratch, i.bell, by simp; omega⟩
  · exact h.bump.wr

theorem markErr {e : ErrBit} {o : Occ} (h : keeps T s t) : keeps T s (t.markErr e o).1 := by
  unfold State.markErr
  extract_lets _ _ _ _ _ _ s1
  have h1 : keeps T s s1 := (h.wr.bump.wr.wr.wr.ite h.wr.bump).summarise
  exact (h1.ite h1.react).fst

theorem log {e : Entry} (h : keeps T s t) : keeps T s (t.log e) := by
  unfold State.log
  exact h.enqueue.upd.ite h.enqueue.upd.upd.markErr.bump

theorem raise {e : ErrBit} {o : Occ} (h : keeps T s t) : keeps T s (t.raise e o) := by
  unfold State.raise
  exact h.markErr.log

theorem raiseTasks {e : ErrBit} {tags : List EntryTag} {o : Occ} (h : keeps T s t) :
    keeps T s (t.raiseTasks e tags o) := by
  unfold State.raiseTasks
  split
  · exact h.raise
  · exact foldl (fun _ _ h => h.log) h.raise

theorem record {page code detail : Nat} {tag : EntryTag} (h : keeps T s t) :
    keeps T s (t.record page code detail tag) := by
  unfold State.record
  exact h.log

theorem injectUse {page checker : Nat} (h : keeps T s t) : keeps T s (t.injectUse page checker).2 := by
  unfold State.injectUse
  split
  · exact h.wr.snd
  · exact h.snd

/-! ### The operations of Machine/Pages.lean -/

theorem answer {p : Sys2Proof.Path} {v : Nat} (h : keeps T s t) : keeps T s (t.answer p v) := by
  unfold State.answer
  exact h.upd

theorem ctrReadLo {path : Sys2Proof.Path} {page n : Nat} (h : keeps T s t) :
    keeps T s (t.ctrReadLo path page n).2 := by
  unfold State.ctrReadLo
  exact h.upd.snd

theorem ctrWriteHi {path : Sys2Proof.Path} {page v : Nat} (h : keeps T s t) :
    keeps T s (t.ctrWriteHi path page v) := by
  unfold State.ctrWriteHi
  exact h.upd

theorem ctrWriteLo {path : Sys2Proof.Path} {page n v : Nat} (h : keeps T s t) :
    keeps T s (t.ctrWriteLo path page n v) := by
  unfold State.ctrWriteLo
  exact h.wr.upd

theorem snapPage {page bell : Nat} (h : keeps T s t) : keeps T s (t.snapPage page bell) := by
  unfold State.snapPage
  exact h.upd.wr

theorem takeSnaps {bell : Nat} (h : keeps T s t) : keeps T s (t.takeSnaps bell) := by
  unfold State.takeSnaps
  exact (foldl (fun _ _ h => h.snapPage) h).upd

theorem requestSnap {page : Nat} (h : keeps T s t) : keeps T s (t.requestSnap page) := by
  unfold State.requestSnap
  exact h.upd.ite h

theorem execCounterLoRead_runs (path : Sys2Proof.Path) (page n : Nat) (s : State) :
    runs workParts s (execCounterLoRead path page n s) := by
  unfold execCounterLoRead
  exact runs_ite (refl s).ctrReadLo.answer.ok (refl s).answer.ok

theorem execCounterHiWrite_runs (path : Sys2Proof.Path) (page n : Nat) (val : Word) (s : State) :
    runs workParts s (execCounterHiWrite path page n val s) := by
  unfold execCounterHiWrite
  exact runs_ite (refl s).ctrWriteHi.ok (refl s).ok

theorem execCounterLoWrite_runs (path : Sys2Proof.Path) (page n : Nat) (val : Word) (s : State) :
    runs workParts s (execCounterLoWrite path page n val s) := by
  unfold execCounterLoWrite
  exact runs_ite (refl s).ctrWriteLo.ok (refl s).ok

theorem execPgSnapTake_runs (page : Nat) (s : State) : runs workParts s (execPgSnapTake page s) := by
  unfold execPgSnapTake
  exact (refl s).requestSnap.ok

theorem execTopSnapAll_runs (s : State) : runs workParts s (execTopSnapAll s) := by
  unfold execTopSnapAll
  exact (foldl (fun _ _ h => h.requestSnap) (refl s)).ok

theorem writeClass {path : Sys2Proof.Path} {page v : Nat} (h : keeps T s t) :
    keeps T s (t.writeClass path page v) := by
  unfold State.writeClass
  exact h.wr.wr.ite h.wr

theorem execPgErrClassWrite_runs (path : Sys2Proof.Path) (page : Nat) (val : Word) (s : State) :
    runs workParts s (execPgErrClassWrite path page val s) := by
  unfold execPgErrClassWrite
  exact runs_ite (refl s).writeClass.ok (refl s).ok

theorem writeInject {page v : Nat} (h : keeps T s t) : keeps T s (t.writeInject page v) := by
  unfold State.writeInject
  exact h.wr.wr.ite h

theorem execPgErrInjectWrite_runs (page : Nat) (val : Word) (s : State) :
    runs workParts s (execPgErrInjectWrite page val s) := by
  unfold execPgErrInjectWrite
  exact (refl s).writeInject.ok

theorem clearErr {page v : Nat} (h : keeps T s t) : keeps T s (t.clearErr page v) := by
  unfold State.clearErr
  exact h.wr.wr.wr.wr.ite h.wr

theorem execPgErrClear_runs (page : Nat) (val : Word) (s : State) : runs workParts s (execPgErrClear page val s) := by
  unfold execPgErrClear
  exact runs_ite (refl s).clearErr.ok (refl s).ok

theorem writeMask {page v : Nat} (h : keeps T s t) : keeps T s (t.writeMask page v) := by
  unfold State.writeMask
  exact h.wr.summarise

theorem execPgErrMaskWrite_runs (page : Nat) (val : Word) (s : State) :
    runs workParts s (execPgErrMaskWrite page val s) := by
  unfold execPgErrMaskWrite
  exact runs_ite (refl s).writeMask.ok (refl s).ok

theorem setSwap {ps : List Nat} {st : Nat} {dev : Option Nat} (h : keeps T s t) :
    keeps T s (t.setSwap ps st dev) := by
  unfold State.setSwap
  refine foldl (fun _ _ h => ?_) h
  extract_lets
  split
  · exact h.wr
  · exact h.wr.wr

theorem swapFollow {p : Nat} {f : Bool} (h : keeps T s t) : keeps T s (t.swapFollow p f) := by
  unfold State.swapFollow
  split
  · exact h
  · extract_lets _ s1
    have h1 : keeps T s s1 := foldl (fun _ _ h => h.wrB) h
    exact h1.setSwap.ite h1

theorem swapDisarm {p : Nat} (h : keeps T s t) : keeps T s (t.swapDisarm p) := by
  unfold State.swapDisarm
  exact h.ite (h.setSwap.ite (h.ite h.setSwap))

theorem swapArm {p : Nat} (h : keeps T s t) : keeps T s (t.swapArm p) := by
  unfold State.swapArm
  exact h.ite (h.ite ((h.setSwap.upd.ite h.setSwap).ite h.setSwap.raise))

theorem writeSwap {p v : Nat} (h : keeps T s t) : keeps T s (t.writeSwap p v) := by
  unfold State.writeSwap
  split
  · exact h
  · extract_lets _ s1
    have h1 : keeps T s s1 := h.swapFollow.swapDisarm.ite h.swapFollow
    exact h1.swapArm.ite h1

theorem execSwapArm_runs (page : Nat) (val : Word) (s : State) : runs workParts s (execSwapArm page val s) := by
  unfold execSwapArm
  exact (refl s).writeSwap.ok

theorem execSwapDisarm_runs (page : Nat) (val : Word) (s : State) : runs workParts s (execSwapDisarm page val s) := by
  unfold execSwapDisarm
  exact (refl s).writeSwap.ok

theorem execSwapFollowWrite_runs (page : Nat) (val : Word) (s : State) :
    runs workParts s (execSwapFollowWrite page val s) := by
  unfold execSwapFollowWrite
  exact (refl s).writeSwap.ok

theorem writeSwapBell {p : Nat} {hi : Bool} {v : Nat} (h : keeps T s t) : keeps T s (t.writeSwapBell p hi v) := by
  unfold State.writeSwapBell
  exact h.ite (foldl (fun _ _ h => h.wr.ite h.wr) h)

theorem exchangeTables {p : Nat} (h : keeps T s t) : keeps T s (t.exchangeTables p) := by
  unfold State.exchangeTables
  exact h.upd.ite (h.upd.ite (h.upd.ite (h.upd.ite (h.upd.wr.ite h))))

theorem swapPage {p : Nat} (h : keeps T s t) : keeps T s (t.swapPage p) := by
  unfold State.swapPage
  exact (foldl (fun _ _ h => h.wr) h).exchangeTables.wr.wr.wr

theorem doSwaps {bell : Nat} (h : keeps T s t) : keeps T s (t.doSwaps bell) := by
  unfold State.doSwaps
  extract_lets _ s1
  have h1 : keeps T s s1 := foldl (fun _ _ h => h.swapPage) h
  exact h1.bump.ite h1

theorem dropShadow {p : Nat} (h : keeps T s t) : keeps T s (t.dropShadow p) := by
  unfold State.dropShadow
  exact h.bump.raise

theorem cancelSwaps (h : keeps T s t) : keeps T s t.cancelSwaps := by
  unfold State.cancelSwaps
  exact h.setSwap

/-! ### The operations of Machine/Flash.lean -/

theorem noteCopy {kind copy : Nat} (h : keeps T s t) : keeps T s (t.noteCopy kind copy) := by
  unfold State.noteCopy
  split
  · exact h
  · exact h.ite (h.bump.raise.raise.ite h.bump.raise)

theorem pickCopy {kind : Nat} (h : keeps T s t) : keeps T s (t.pickCopy kind).2 := by
  unfold State.pickCopy
  extract_lets good s1
  have h1 : keeps T s s1 := h.noteCopy
  split
  · exact h.snd
  · split
    · exact h1.snd
    · exact h1.noteCopy.snd

theorem flashCmd {op : Nat} (h : keeps T s t) : keeps T s (t.flashCmd op) := by
  unfold State.flashCmd
  exact h.ite (h.wr.ite h.wr.bump.upd)

theorem execFlashRead_runs (s : State) : runs workParts s (execFlashRead s) := by
  unfold execFlashRead
  exact (refl s).flashCmd.ok

theorem execFlashProgram_runs (s : State) : runs workParts s (execFlashProgram s) := by
  unfold execFlashProgram
  exact (refl s).flashCmd.ok

theorem execFlashErase_runs (s : State) : runs workParts s (execFlashErase s) := by
  unfold execFlashErase
  exact (refl s).flashCmd.ok

theorem execFlashOpComplete_runs (good : Bool) (s : State) : runs workParts s (execFlashOpComplete good s) := by
  unfold execFlashOpComplete
  split
  · exact (refl s).ok
  · extract_lets
    split
    · exact (refl s).upd.wr.ok
    · exact runs_ite (foldl (fun _ _ h => h.wr) (refl s).upd.wr).ok (runs_ite (refl s).upd.wr.upd.ok (refl
          s).upd.wr.upd.ok)

theorem loadSection {sec : Nat} (h : keeps T s t) : keeps T s (t.loadSection sec) := by
  unfold State.loadSection
  exact h.upd

theorem startCommit (h : keeps T s t) : keeps T s t.startCommit := by
  unfold State.startCommit
  exact h.ite h.wr.upd

theorem almCtrl {v : Nat} (h : keeps T s t) : keeps T s (t.almCtrl v) := by
  unfold State.almCtrl
  exact h.startCommit.ite h

theorem execAlmanacCommit_runs (val : Word) (s : State) : runs workParts s (execAlmanacCommit val s) := by
  unfold execAlmanacCommit
  exact (refl s).almCtrl.ok

theorem execAlmanacCommitDone_runs (good : Bool) (s : State) : runs workParts s (execAlmanacCommitDone good s) := by
  unfold execAlmanacCommitDone
  split
  · exact (refl s).ok
  · exact runs_ite (refl s).wr.upd.wr.bump.ok (refl s).wr.upd.wr.raise.ok

theorem writeRelock {f : Nat} {codes : List Nat} (h : keeps T s t) : keeps T s (t.writeRelock f codes) :=
  h.step fun i => ⟨i.regs, i.granary, memWf_writeBytes _ _ (memWf_writeBytes _ _ (memWf_writeBytes _ _
    (memWf_writeBytes _ _ i.scratch))), i.bell, i.queue⟩

theorem clearRelock {f : Nat} (h : keeps T s t) : keeps T s (t.clearRelock f) :=
  h.step fun i => ⟨i.regs, i.granary, memWf_writeBytes _ _ i.scratch, i.bell, i.queue⟩

theorem newNonce (h : keeps T s t) : keeps T s t.newNonce := by
  unfold State.newNonce
  exact h.upd

theorem execNonceLoRead_runs (path : Sys2Proof.Path) (s : State) : runs workParts s (execNonceLoRead path s) := by
  unfold execNonceLoRead
  exact (refl s).upd.answer.ok

theorem submitToken {v : Nat} (h : keeps T s t) : keeps T s (t.submitToken v) := by
  unfold State.submitToken
  split
  · exact h
  · exact (foldl (fun _ _ h => h.wr) (h.wr.wr.wr.bump.ite h.wr.bump.raise)).newNonce

theorem execTokenSubmit_runs (val : Word) (s : State) : runs workParts s (execTokenSubmit val s) := by
  unfold execTokenSubmit
  exact (refl s).submitToken.ok

theorem debugLock {v : Nat} (h : keeps T s t) : keeps T s (t.debugLock v) := by
  unfold State.debugLock
  exact h.wr.wr.ite h

theorem execDebugLock_runs (val : Word) (s : State) : runs workParts s (execDebugLock val s) := by
  unfold execDebugLock
  exact (refl s).debugLock.ok

theorem svnCtrl {v : Nat} (h : keeps T s t) : keeps T s (t.svnCtrl v) := by
  unfold State.svnCtrl
  split
  · exact h
  · exact h.wr.ite h

theorem execSvnAdvance_runs (val : Word) (s : State) : runs workParts s (execSvnAdvance val s) := by
  unfold execSvnAdvance
  exact (refl s).svnCtrl.ok

/-! ### The operations of Machine/Htr.lean -/

theorem execMonitorSample_runs (ch code : Nat) (loop : Bool) (s : State) :
    runs workParts s (execMonitorSample ch code loop s) := by
  unfold execMonitorSample
  split
  · exact (refl s).ok
  · extract_lets m pin put s0 s1
    have h1 : keeps False s s1 := (refl s).bump.bump.ite (refl s).bump
    clear_value pin
    split
    · exact h1.upd.ok
    · split
      · exact h1.upd.bump.raise.ok
      · exact (h1.upd.ite h1.upd.bump).ok

theorem execRangePinEnd_runs (ch : Nat) (s : State) : runs workParts s (execRangePinEnd ch s) := by
  unfold execRangePinEnd
  exact runs_ite (refl s).upd.ok (refl s).ok

theorem execAdcReferenceCheck_runs (adc : Nat) (pass : Bool) (s : State) :
    runs workParts s (execAdcReferenceCheck adc pass s) := by
  unfold execAdcReferenceCheck
  exact runs_ite (refl s).ok (runs_ite (refl s).upd.ok (refl s).upd.raise.ok)

theorem sumPower (h : keeps T s t) : keeps T s t.sumPower := by
  unfold State.sumPower
  exact h.wr.raise.ite h.wr

/-! ### The operations of Machine/Thermal.lean -/

theorem takeSample {n : Nat} {r : Option Int} (h : keeps T s t) : keeps T s (t.takeSample n r) := by
  unfold State.takeSample
  extract_lets
  split
  · exact h.wrI.wr.wr
  · exact h.wr.ite h.wr.wr.bump.raise

theorem evalBand (h : keeps T s t) : keeps T s t.evalBand := by
  unfold State.evalBand
  extract_lets _ _ _ _ s1
  have h1 : keeps T s s1 := by
    unfold s1
    split
    · exact h
    · exact h.wrI.wr
  exact h1.upd.ite (h1.upd.ite h1.upd)

theorem execSensorSample_runs (a b : Option Int) (s : State) : runs workParts s (execSensorSample a b s) := by
  unfold execSensorSample
  exact (refl s).takeSample.takeSample.evalBand.ok

theorem execBandFall_runs (s : State) : runs workParts s (execBandFall s) := by
  unfold execBandFall
  exact runs_ite (refl s).upd.ok (refl s).ok

theorem applyBand (h : keeps T s t) : keeps T s t.applyBand := by
  unfold State.applyBand
  extract_lets _ ctr s1 _ s2
  have h1 : keeps T s s1 := by
    unfold s1
    clear_value ctr
    split
    · exact h
    · exact h.bump
  have h2 : keeps T s s2 := by
    unfold s2
    clear_value s1
    exact h1.upd.ite h1
  clear_value s2
  split
  · exact h2
  · extract_lets s3 s4
    have h3 : keeps T s s3 := h2.upd.wr
    have h4 : keeps T s s4 := h3.bump.raise
    exact (h4.wr.bump.upd.raise.ite h4).ite (h3.bump.ite h3)

theorem driveThermN (h : keeps T s t) : keeps T s t.driveThermN := by
  unfold State.driveThermN
  exact h.upd.wr

theorem tripClear (h : keeps T s t) : keeps T s t.tripClear := by
  unfold State.tripClear
  exact h.upd.wr.ite h

theorem execTripClear_runs (s : State) : runs workParts s (execTripClear s) := by
  unfold execTripClear
  exact (refl s).tripClear.ok

/-! ### The operations of Machine/Lantern.lean -/

theorem storeSel {f line v : Nat} (h : keeps T s t) : keeps T s (t.storeSel f line v) := by
  unfold State.storeSel
  exact h.wr

theorem forceSel {f line v : Nat} (h : keeps T s t) : keeps T s (t.forceSel f line v) := by
  unfold State.forceSel
  exact h.storeSel.upd

theorem busAdd {w : BusWork} (h : keeps T s t) : keeps T s (t.busAdd w) := by
  unfold State.busAdd
  exact h.ite h.upd

theorem noteAsked {src : Source} {line : Nat} {p : Int} (h : keeps T s t) : keeps T s (t.noteAsked src line p) := by
  unfold State.noteAsked
  exact h.upd

theorem askLevel {src : Source} {line : Nat} {p : Int} (h : keeps T s t) : keeps T s (t.askLevel src line p) := by
  unfold State.askLevel
  exact h.ite h.noteAsked.busAdd

theorem raiseLine {src : Source} {line : Nat} (h : keeps T s t) : keeps T s (t.raiseLine src line) := by
  unfold State.raiseLine
  exact h.askLevel.ite h

theorem relevel (h : keeps T s t) : keeps T s t.relevel := by
  unfold State.relevel
  exact foldl (fun _ _ h => h.raiseLine.ite h) (foldl (fun _ _ h => h.askLevel.ite h) h)

theorem takeAll {src : Source} (h : keeps T s t) : keeps T s (t.takeAll src) := by
  unfold State.takeAll
  exact foldl (fun _ _ h => h.forceSel.ite h) h

theorem singleMode {src : Source} (h : keeps T s t) : keeps T s (t.singleMode src) := by
  unfold State.singleMode
  exact (foldl (fun _ _ h => h.noteAsked) h.wr).upd

theorem keepBefore (h : keeps T s t) : keeps T s t.keepBefore := by
  unfold State.keepBefore
  exact h.upd.ite h

theorem execInputLoss_runs (src : Source) (tap : Int) (s : State) : runs workParts s (execInputLoss src tap s) := by
  unfold execInputLoss
  split
  · exact (refl s).wrI.ok
  · extract_lets _ _ s1
    have h1 : keeps False s s1 := (refl s).wr.wrI.wr.upd
    exact runs_ite h1.keepBefore.raise.wr.upd.raise.ok (runs_ite h1.keepBefore.takeAll.bump.upd.singleMode.raise.ok
        h1.raise.ok)

theorem takeIdentity {src : Source} {r : List Byte} (h : keeps T s t) : keeps T s (t.takeIdentity src r) := by
  unfold State.takeIdentity
  extract_lets s1
  have h1 : keeps T s s1 := foldl (fun _ _ h => h.wr) h
  exact h1.upd.ite h1.upd.raise

theorem execInputReturn_runs (src : Source) (tap : Int) (identity : List Byte) (s : State) :
    runs workParts s (execInputReturn src tap identity s) := by
  unfold execInputReturn
  split
  · extract_lets s1 _ _ s2
    have h1 : keeps False s s1 := (refl s).takeIdentity
    have h2 : keeps False s s2 := h1.wr.wrI.wr.upd
    split
    · split
      · exact runs_ite h2.takeAll.upd.singleMode.ok h2.wr.ok
      · exact runs_ite h2.ok h2.upd.busAdd.relevel.ok
    · exact h1.ok
  · exact (refl s).ok

theorem beginMove {line : Nat} {dst : Source} (h : keeps T s t) : keeps T s (t.beginMove line dst) := by
  unfold State.beginMove
  exact h.upd.askLevel.busAdd

theorem execLineMove_runs (line : Nat) (dst : Source) (s : State) : runs workParts s (execLineMove line dst s) := by
  unfold execLineMove
  exact runs_ite (refl s).beginMove.ok (refl s).ok

theorem makeRoom {src : Source} {line : Nat} (h : keeps T s t) : keeps T s (t.makeRoom src line) := by
  unfold State.makeRoom
  split
  · exact h
  · split
    · exact h
    · exact h.beginMove

theorem execLineFail_runs (src : Source) (line : Nat) (monitors : Bool) (s : State) :
    runs workParts s (execLineFail src line monitors s) := by
  unfold execLineFail
  exact runs_ite ((foldl (fun _ _ h => h.storeSel.ite h) (refl s).upd).ite (refl s).upd).bump.raise.makeRoom.ok (refl
      s).ok

theorem lineRearm (h : keeps T s t) : keeps T s t.lineRearm := by
  unfold State.lineRearm
  exact h.upd

theorem execLineRearm_runs (s : State) : runs workParts s (execLineRearm s) := by
  unfold execLineRearm
  exact (refl s).lineRearm.ok

theorem writeSel {w v : Nat} (h : keeps T s t) : keeps T s (t.writeSel w v) := by
  unfold State.writeSel
  exact h.raise.ite h.wr

theorem execSelectSwitchWrite_runs (word : Nat) (val : Word) (s : State) :
    runs workParts s (execSelectSwitchWrite word val s) := by
  unfold execSelectSwitchWrite
  exact runs_ite (refl s).writeSel.ok (refl s).ok

theorem switchMoved {m : LineMove} (h : keeps T s t) : keeps T s (t.switchMoved m) := by
  unfold State.switchMoved
  exact (foldl (fun _ _ h => h.ite h.storeSel) h).upd.bump

theorem lanternBoundary (h : keeps T s t) : keeps T s t.lanternBoundary := by
  unfold State.lanternBoundary
  extract_lets s1 _ _ s2
  have h1 : keeps T s s1 := by
    unfold s1
    split
    · exact h
    · exact h.switchMoved.ite h
  have h2 : keeps T s s2 := h1.ite h1.upd.relevel
  exact h2.upd.wr.ite h2

theorem busDone {p : BusWork → Bool} (h : keeps T s t) : keeps T s (t.busDone p) := by
  unfold State.busDone
  exact h.upd.bump.wr

theorem execLanternPoll_runs (s : State) : runs workParts s (execLanternPoll s) := by
  unfold execLanternPoll
  extract_lets s1
  have h1 : keeps False s s1 := foldl (fun _ _ h => (foldl (fun _ _ h => h.busAdd) h).ite h) (refl s)
  exact runs_ite (foldl (fun _ _ h => h.busAdd.ite h) h1).upd.ok h1.ok

theorem execLanternAlert_runs (src : Source) (s : State) : runs workParts s (execLanternAlert src s) := by
  unfold execLanternAlert
  exact (foldl (fun _ _ h => h.busAdd) (refl s).busDone.bump.raise).ok

theorem execLanternBusStuck_runs (stillLow : Bool) (s : State) :
    runs workParts s (execLanternBusStuck stillLow s) := by
  unfold execLanternBusStuck
  split
  · exact (refl s).ok
  · extract_lets s1
    have h1 : keeps False s s1 := (refl s).ite (refl s).wr.bump.raise
    exact runs_ite h1.upd.ok h1.ok

theorem execSetLinePower_runs (src : Source) (line : Option Nat) (power : Int) (ack : Bool) (s : State) :
    runs workParts s (execSetLinePower src line power ack s) := by
  unfold execSetLinePower
  extract_lets
  split
  · exact (refl s).busDone.raise.ok
  · split
    · exact runs_ite (refl s).busDone.wrI.noteAsked.ok (refl s).busDone.ok
    · exact (foldl (fun _ _ h => h.wrI.noteAsked) (refl s).busDone).ok

theorem pollBias {src : Source} {line bias : Nat} (h : keeps T s t) : keeps T s (t.pollBias src line bias) := by
  unfold State.pollBias
  extract_lets
  split
  · exact h.upd.raise.ite h.upd
  · exact h.upd

theorem execReadLinePower_runs (src : Source) (line : Nat) (r : LineReading) (s : State) :
    runs workParts s (execReadLinePower src line r s) := by
  unfold execReadLinePower
  split
  · extract_lets _ s1 _ s2 s3
    have h1 : keeps False s s1 := (refl s).busDone.wrI.wr.wr
    have h2 : keeps False s s2 := h1.raise.ite h1
    have h3 : keeps False s s3 := h2.pollBias.ite h2
    split
    · exact h3.ok
    · exact runs_ite h3.upd.ok (runs_ite h3.busAdd.ok h3.ok)
  · exact (refl s).ok

theorem execReadHours_runs (src : Source) (_powered emitting : Nat) (s : State) :
    runs workParts s (execReadHours src _powered emitting s) := by
  unfold execReadHours
  exact (refl s).busDone.upd.wr.ok

theorem execSetStandby_runs (src : Source) (on : Bool) (s : State) : runs workParts s (execSetStandby src on s) := by
  unfold execSetStandby
  exact (refl s).busDone.wrB.ok

theorem execReadIdentity_runs (src : Source) (identity : List Byte) (s : State) :
    runs workParts s (execReadIdentity src identity s) := by
  unfold execReadIdentity
  exact (refl s).busDone.takeIdentity.ok

theorem execLanternTransactionFail_runs (src : Source) (s : State) :
    runs workParts s (execLanternTransactionFail src s) := by
  unfold execLanternTransactionFail
  exact runs_ite (refl s).upd.bump.ok (refl s).upd.raise.ok

theorem takeModule {src : Source} {y2 : Option ModuleReport} (h : keeps T s t) : keeps T s (t.takeModule src y2) := by
  unfold State.takeModule
  split
  · exact h.upd
  · extract_lets
    refine foldl (fun _ _ h => ?_) h.takeIdentity.wrI.wrB.wrB.wr
    split
    · exact h
    · exact h.wrI.wr.wr

theorem startLevels (h : keeps T s t) : keeps T s t.startLevels := by
  unfold State.startLevels
  exact foldl (fun _ _ h => foldl (fun _ _ h => h.noteAsked.wrI) h) h.upd

theorem lanternStart {a b : Option ModuleReport} (h : keeps T s t) : keeps T s (t.lanternStart a b).2 := by
  unfold State.lanternStart
  extract_lets _ _ _ _ _ s2 _ single
  have h2 : keeps T s s2 := h.upd.startLevels.takeModule.takeModule
  have hs : ∀ src, keeps T s (single src) := fun _ => h2.upd.wr.takeAll.singleMode
  split
  · exact h2.wr.snd
  · split
    · exact (hs _).snd
    · split
      · exact (hs _).snd
      · split
        · exact h2.snd
        · exact h2.snd

theorem lanternLimp (h : keeps T s t) : keeps T s t.lanternLimp := by
  unfold State.lanternLimp
  exact h.busAdd.busAdd

/-! ### The operations of Machine/Hearth.lean -/

theorem setHearth {h' : Nat} {u' : HearthUnit} (h : keeps T s t) : keeps T s (t.setHearth h' u') := by
  unfold State.setHearth
  exact h.upd.ite h.upd

theorem noteRow {h' i : Nat} (h : keeps T s t) : keeps T s (t.noteRow h' i) := by
  unfold State.noteRow
  exact h.ite (foldl (fun _ _ h => h.wr.wr.wr) h.upd).raise

theorem commandHeater {h' i : Nat} (h : keeps T s t) : keeps T s (t.commandHeater h' i) := by
  unfold State.commandHeater
  exact (h.noteRow.ite h.noteRow.bump).setHearth

theorem writeDac {i c : Nat} (h : keeps T s t) : keeps T s (t.writeDac i c) := by
  unfold State.writeDac
  exact h.ite h.upd.bump

theorem writeCodes {h' : Nat} {hs : List Nat} (h : keeps T s t) : keeps T s (t.writeCodes h' hs) := by
  unfold State.writeCodes
  exact foldl (fun _ _ h => h.writeDac) h

theorem setTargets {h' : Nat} {ts : List (Nat × Int)} (h : keeps T s t) : keeps T s (t.setTargets h' ts) := by
  unfold State.setTargets
  exact foldl (fun _ _ h => h.commandHeater) h.setHearth

theorem matrixRecompute (h : keeps T s t) : keeps T s t.matrixRecompute := by
  unfold State.matrixRecompute
  extract_lets _ _ _ _ s1
  have h1 : keeps T s s1 := foldl (fun _ _ h => (foldl (fun _ _ h => h.commandHeater) h).ite h) (foldl (fun _ _ h =>
      h.wrB) h.upd)
  split
  · exact h1
  · exact h1.writeCodes

theorem matrixLoad {f : Nat} (h : keeps T s t) : keeps T s (t.matrixLoad f) := by
  unfold State.matrixLoad
  exact h.upd

theorem showHeadroom {h' f : Nat} (h : keeps T s t) : keeps T s (t.showHeadroom h' f) := by
  unfold State.showHeadroom
  extract_lets _ least
  clear_value least
  split
  · exact h
  · exact h.wr.wr

theorem checkHeadroom {h' i : Nat} (h : keeps T s t) : keeps T s (t.checkHeadroom h' i) := by
  unfold State.checkHeadroom
  extract_lets _ _ _ _ _ _ s1
  have h1 : keeps T s s1 := h.setHearth.showHeadroom
  exact (h1.raise.ite h1).ite h

theorem updateLoop {h' i : Nat} {phase : Int} (h : keeps T s t) : keeps T s (t.updateLoop h' i phase) := by
  unfold State.updateLoop
  extract_lets _ _ _ s1 s2 s3 s4 s5 s6 s7 s8
  have h1 : keeps T s s1 := h.setHearth.setTargets
  have h2 : keeps T s s2 := h1.ite h1.bump
  have h3 : keeps T s s3 := h2.bump.ite h2
  have h4 : keeps T s s4 := h3.bump.ite h3
  have h5 : keeps T s s5 := h4.raise.ite h4
  have h6 : keeps T s s6 := h5.bump.ite h5
  have h7 : keeps T s s7 := h6.raise.ite h6
  have h8 : keeps T s s8 := h7.raise.ite h7
  exact h.ite (h8.raise.ite h8).checkHeadroom

theorem execHearthLoopUpdate_runs (loop : Nat) (phase : Int) (dacFault : Bool) (s : State) :
    runs workParts s (execHearthLoopUpdate loop phase dacFault s) := by
  unfold execHearthLoopUpdate
  extract_lets _ _ _ s1 _ _ s2
  have h1 : keeps False s s1 := (foldl (fun _ _ h => h.updateLoop.ite h) (refl s)).upd
  have h2 : keeps False s s2 := by
    unfold s2
    split
    · exact h1
    · exact h1.writeCodes.ite h1
  exact runs_ite (refl s).ok (h2.raise.ite h2).ok

theorem execParkMove_runs (loop : Nat) (s : State) : runs workParts s (execParkMove loop s) := by
  unfold execParkMove
  extract_lets
  split
  · exact runs_ite (refl s).upd.ok (refl s).ok
  · exact (refl s).ok

theorem execWearPeriod_runs (s : State) : runs workParts s (execWearPeriod s) := by
  unfold execWearPeriod
  split
  · exact runs_ite (refl s).beginMove.wr.wr.wr.bump.ok (refl s).ok
  · exact (refl s).ok

theorem startLoops {h' f : Nat} {power : Nat → Nat → Int} {fresh : Bool} (h : keeps T s t) :
    keeps T s (t.startLoops h' f power fresh) := by
  unfold State.startLoops
  exact foldl (fun _ _ h => h.setHearth) h

theorem resetTargets {h' f : Nat} {t' : Nat → Int} (h : keeps T s t) : keeps T s (t.resetTargets h' f t') := by
  unfold State.resetTargets
  exact foldl (fun _ _ h => h.commandHeater) h.setHearth

theorem loopsWarm {f : Nat} (h : keeps T s t) : keeps T s (t.loopsWarm f) := by
  unfold State.loopsWarm
  exact foldl (fun _ _ h => h.ite h.resetTargets.startLoops) h

theorem loopsCold {f : Nat} (h : keeps T s t) : keeps T s (t.loopsCold f) := by
  unfold State.loopsCold
  exact foldl (fun _ _ h => h.ite h.resetTargets.startLoops) h

theorem loopsOff {f : Nat} (h : keeps T s t) : keeps T s (t.loopsOff f) := by
  unfold State.loopsOff
  exact foldl (fun _ _ h => h.setHearth) h

theorem setCodes {f : Nat} {codes : List Nat} (h : keeps T s t) : keeps T s (t.setCodes f codes) := by
  unfold State.setCodes
  exact h.upd

theorem spareLoop {f j q : Nat} (h : keeps T s t) : keeps T s (t.spareLoop f j q) := by
  unfold State.spareLoop
  exact foldl (fun _ _ h => h.ite h.setHearth.setTargets) h

/-! ### The operations of Machine/HearthTwins.lean -/

theorem setOwnerFld {fld : Nat → Fld} {v : Nat} (h : keeps T s t) : keeps T s (t.setOwnerFld fld v) := by
  unfold State.setOwnerFld
  exact h.wr.wr

theorem setRole {h' r : Nat} (h : keeps T s t) : keeps T s (t.setRole h' r) := by
  unfold State.setRole
  exact h.wr

theorem plan {dst cause : Nat} {auto : Bool} (h : keeps T s t) : keeps T s (t.plan dst cause auto) := by
  unfold State.plan
  exact h.upd.ite h

theorem failHearth {h' : Nat} (h : keeps T s t) : keeps T s (t.failHearth h') := by
  unfold State.failHearth
  exact h.setRole.wr.setHearth

theorem removeHearth {h' cause : Nat} (h : keeps T s t) : keeps T s (t.removeHearth h' cause) := by
  unfold State.removeHearth
  exact (h.plan.ite h).ite (h.failHearth.ite h)

theorem hearthStartBist {a b : Bool} (h : keeps T s t) : keeps T s (t.hearthStartBist a b) := by
  unfold State.hearthStartBist
  exact h.setHearth.setHearth.setRole.setRole.setOwnerFld.setOwnerFld.setOwnerFld.setOwnerFld.upd

theorem hearthsOff (h : keeps T s t) : keeps T s t.hearthsOff := by
  unfold State.hearthsOff
  exact h.setRole.setRole.setOwnerFld.setHearth.setHearth.upd

theorem grantTo {g : Grant} (h : keeps T s t) : keeps T s (t.grantTo g) := by
  unfold State.grantTo
  extract_lets _ _ s1
  have h1 : keeps T s s1 := h.setOwnerFld.setOwnerFld.setOwnerFld.setOwnerFld.setOwnerFld.setRole
  exact (h1.ite h1.bump).upd.raise

theorem cutTo {g : Grant} (h : keeps T s t) : keeps T s (t.cutTo g) := by
  unfold State.cutTo
  extract_lets _ _ _ _ s1 _ _ s2
  have h1 : keeps T s s1 := h.setOwnerFld.setRole.upd
  have h2 : keeps T s s2 := (h1.failHearth.ite h1).setHearth
  exact (foldl (fun _ _ h => h.commandHeater) (h2.wr.ite h2).setHearth).writeCodes

theorem hearthBoundary (h : keeps T s t) : keeps T s t.hearthBoundary := by
  unfold State.hearthBoundary
  extract_lets _ _ s1 s2
  have h1 : keeps T s s1 := (foldl (fun _ _ h => (h.setOwnerFld.failHearth.ite h.failHearth).ite h) h).upd
  have h2 : keeps T s s2 := by
    unfold s2
    split
    · exact h1.ite h1.cutTo
    · exact h1
  exact (foldl (fun _ _ h => (h.wr.ite h).setHearth) h2).setHearth.setHearth

theorem checkBothFailed (h : keeps T s t) : keeps T s t.checkBothFailed := by
  unfold State.checkBothFailed
  exact h.upd.ite (h.ite h.upd.raise.raise)

theorem compareLoop {h' i diff : Nat} (h : keeps T s t) : keeps T s (t.compareLoop h' i diff) := by
  unfold State.compareLoop
  extract_lets _ _ _ s1
  have h1 : keeps T s s1 := h.setHearth.bump.wr.wr
  exact h.setHearth.ite (h1.raise.upd.ite h1)

theorem execMirrorFrame_runs (present crcGood : Bool) (upsets : List (Nat × Nat)) (s : State) :
    runs workParts s (execMirrorFrame present crcGood upsets s) := by
  unfold execMirrorFrame
  split
  · exact (refl s).ok
  · extract_lets _ _ _ _ _ _ _ _ _ s1
    have h1 : keeps False s s1 := (refl s).setHearth
    split
    · exact (refl s).ok
    · exact runs_ite (foldl (fun _ _ h => h.compareLoop) (refl s)).setHearth.upd.ok (runs_ite
          h1.setHearth.bump.raise.ok h1.setHearth.ok)

theorem execHeartbeatSend_runs (lineA wordA lineB wordB : Bool) (s : State) :
    runs workParts s (execHeartbeatSend lineA wordA lineB wordB s) := by
  unfold execHeartbeatSend
  extract_lets send
  have hs : ∀ {u : State} {x : Nat} {l w : Bool}, keeps False s u → keeps False s (send u x l w) := fun h => h.ite
      h.setHearth
  exact (hs (hs (refl s))).ok

theorem checkHeart {me : Nat} (h : keeps T s t) : keeps T s (t.checkHeart me) := by
  unfold State.checkHeart
  extract_lets _ _ _ _ _ _ _ _ s1
  have h1 : keeps T s s1 := h.wr.wr.ite h.wr.wr.bump
  exact (h1.ite h1.setHearth).setHearth

theorem judgeHeart {me : Nat} (h : keeps T s t) : keeps T s (t.judgeHeart me) := by
  unfold State.judgeHeart
  exact (((h.raise.ite h).plan.ite (h.raise.ite h).upd).ite (h.raise.upd.ite h)).ite ((h.upd.ite h).ite h)

theorem execHeartbeatCheck_runs (s : State) : runs workParts s (execHeartbeatCheck s) := by
  unfold execHeartbeatCheck
  exact (foldl (fun _ _ h => h.judgeHeart.ite h) (foldl (fun _ _ h => h.checkHeart.ite h) (refl
      s))).checkBothFailed.ok

theorem selfTestFail {h' kind : Nat} (h : keeps T s t) : keeps T s (t.selfTestFail h' kind) := by
  unfold State.selfTestFail
  exact h.wr.wr.wr.raise

theorem judgeSelf {h' : Nat} (h : keeps T s t) : keeps T s (t.judgeSelf h') := by
  unfold State.judgeSelf
  exact h.removeHearth.ite h

theorem bistOne {h' : Nat} {pass : Bool} (h : keeps T s t) : keeps T s (t.bistOne h' pass) := by
  unfold State.bistOne
  split
  · exact h
  · exact h.bump.setHearth.ite h.bump.setHearth.bump.setHearth.selfTestFail.judgeSelf

theorem execHearthBist_runs (passA passB : Bool) (s : State) : runs workParts s (execHearthBist passA passB s) := by
  unfold execHearthBist
  exact runs_ite (refl s).bistOne.bistOne.ok (refl s).ok

theorem execHearthMarchBlock_runs (h' : Nat) (pass : Bool) (s : State) :
    runs workParts s (execHearthMarchBlock h' pass s) := by
  unfold execHearthMarchBlock
  split
  · exact (refl s).ok
  · extract_lets _ _ _ s1 s2
    have h1 : keeps False s s1 := (refl s).setHearth
    have h2 : keeps False s s2 := h1.bump.ite h1
    exact runs_ite h2.ok h2.bump.setHearth.selfTestFail.judgeSelf.ok

theorem captureHealth {h' : Nat} (h : keeps T s t) : keeps T s (t.captureHealth h') := by
  unfold State.captureHealth
  exact h.wr.wrB.wr.wr.wr.wr.setHearth

theorem execHealthCapture_runs (s : State) : runs workParts s (execHealthCapture s) := by
  unfold execHealthCapture
  exact runs_ite (refl s).captureHealth.captureHealth.ok (refl s).ok

theorem execReeveArbitration_runs (agreesA agreesB : Bool) (s : State) :
    runs workParts s (execReeveArbitration agreesA agreesB s) := by
  unfold execReeveArbitration
  extract_lets
  split
  · exact (refl s).ok
  · exact runs_ite (refl s).upd.removeHearth.ok (refl s).upd.setHearth.raise.ok
  · split
    · exact (refl s).upd.removeHearth.ok
    · exact runs_ite (refl s).upd.removeHearth.ok (runs_ite (refl s).upd.raise.raise.ok (refl s).upd.ok)

theorem execFailoverGrant_runs (s : State) : runs workParts s (execFailoverGrant s) := by
  unfold execFailoverGrant
  split
  · exact runs_ite (refl s).grantTo.ok (refl s).ok
  · exact (refl s).ok

theorem execFailoverCut_runs (s : State) : runs workParts s (execFailoverCut s) := by
  unfold execFailoverCut
  split
  · exact (refl s).ok
  · exact runs_ite (refl s).ok (foldl (fun _ _ h => h.setHearth) (refl s)).cutTo.ok

theorem execPlannedHandover_runs (s : State) : runs workParts s (execPlannedHandover s) := by
  unfold execPlannedHandover
  split
  · split
    · exact (refl s).ok
    · exact runs_ite (refl s).upd.ok (runs_ite (refl s).ok (refl s).grantTo.ok)
  · exact (refl s).ok

theorem execReclaim_runs (s : State) : runs workParts s (execReclaim s) := by
  unfold execReclaim
  split
  · exact (refl s).ok
  · exact runs_ite (refl s).plan.ok (refl s).ok

theorem switchRequest {v : Nat} (h : keeps T s t) : keeps T s (t.switchRequest v) := by
  unfold State.switchRequest
  split
  · split
    · exact h.setOwnerFld.plan.ite h.setOwnerFld
    · exact h.setOwnerFld
  · exact h

theorem execHearthSwitchRequest_runs (val : Word) (s : State) : runs workParts s (execHearthSwitchRequest val s) := by
  unfold execHearthSwitchRequest
  exact (refl s).switchRequest.ok

theorem softResetHearth {h' : Nat} (h : keeps T s t) : keeps T s (t.softResetHearth h') := by
  unfold State.softResetHearth
  exact (h.plan.wr.ite h).ite (h.ite h.failHearth.setHearth.wr)

theorem execHearthSoftReset_runs (h' : Nat) (s : State) : runs workParts s (execHearthSoftReset h' s) := by
  unfold execHearthSoftReset
  exact runs_ite (refl s).softResetHearth.ok (refl s).ok

theorem execHearthControllerStop_runs (h' : Nat) (s : State) : runs workParts s (execHearthControllerStop h' s) := by
  unfold execHearthControllerStop
  exact runs_ite (refl s).setHearth.ok (refl s).ok

theorem execHearthRepair_runs (h' : Nat) (good : Bool) (s : State) :
    runs workParts s (execHearthRepair h' good s) := by
  unfold execHearthRepair
  split
  · exact (refl s).ok
  · extract_lets _ _ _ _ s1
    have h1 : keeps False s s1 := (refl s).setHearth.wr
    split
    · exact (refl s).setHearth.ok
    · exact runs_ite (foldl (fun _ _ h => h.loopsWarm)
          h1.setRole.setOwnerFld.setOwnerFld.setOwnerFld.setOwnerFld.upd.raise).ok h1.setRole.ok

theorem execResyncCopy_runs (h' : Nat) (crcEqual : Bool) (s : State) :
    runs workParts s (execResyncCopy h' crcEqual s) := by
  unfold execResyncCopy
  split
  · exact (refl s).ok
  · exact runs_ite (refl s).ok (refl s).setHearth.upd.upd.wr.ok

theorem execResyncComplete_runs (h' : Nat) (s : State) : runs workParts s (execResyncComplete h' s) := by
  unfold execResyncComplete
  exact runs_ite (refl s).setRole.setHearth.ok (refl s).ok

theorem execResyncTimeout_runs (h' : Nat) (s : State) : runs workParts s (execResyncTimeout h' s) := by
  unfold execResyncTimeout
  exact runs_ite (refl s).raise.failHearth.ok (refl s).ok

/-! ### The operations of Machine/Uahus.lean -/

theorem setBundle {n : Nat} {b : BundleState} (h : keeps T s t) : keeps T s (t.setBundle n b) := by
  unfold State.setBundle
  exact h.upd

theorem showLink (h : keeps T s t) : keeps T s t.showLink := by
  unfold State.showLink
  exact h.wr.wr.upd.ite (h.wr.wr.upd.ite h.wr.wr)

theorem setStage {n st : Nat} (h : keeps T s t) : keeps T s (t.setStage n st) := by
  unfold State.setStage
  exact h.wr.setBundle.showLink

theorem bundleBack {n reason : Nat} (h : keeps T s t) : keeps T s (t.bundleBack n reason) := by
  unfold State.bundleBack
  exact h.wr.wr.setBundle.setStage

theorem bundleRetrain {n reason : Nat} (h : keeps T s t) : keeps T s (t.bundleRetrain n reason) := by
  unfold State.bundleRetrain
  exact h.bundleBack.bump.ite h.bundleBack

theorem execBundleDetectExit_runs (n : Nat) (s : State) : runs workParts s (execBundleDetectExit n s) := by
  unfold execBundleDetectExit
  exact runs_ite (foldl (fun _ _ h => h.wr) (refl s)).bump.setStage.ok (refl s).ok

theorem trainFail {n reason : Nat} (h : keeps T s t) : keeps T s (t.trainFail n reason) := by
  unfold State.trainFail
  exact h.bundleBack.raise.ite h.bundleBack

theorem execBundleTrainDone_runs (n : Nat) (lanes : List LaneTrain) (s : State) :
    runs workParts s (execBundleTrainDone n lanes s) := by
  unfold execBundleTrainDone
  split
  · exact (refl s).ok
  · extract_lets _ _ _ _ _ _ _ _ _ s1 failed s2
    have h1 : keeps False s s1 := (foldl (fun _ _ h => h.wr) (refl s)).wr.wr
    have h2 : keeps False s s2 := h1.wrB
    split
    · exact h1.trainFail.ok
    · split
      · exact h1.trainFail.ok
      · split
        · exact h1.trainFail.ok
        · clear_value failed
          split
          · exact h2.wr.wr.raise.setStage.ok
          · exact h2.wr.wr.setStage.ok

theorem execBundleLockDone_runs (n : Nat) (skewOk : Bool) (farSpared : Option Nat) (s : State) :
    runs workParts s (execBundleLockDone n skewOk farSpared s) := by
  unfold execBundleLockDone
  exact runs_ite (refl s).ok (runs_ite (refl s).bundleBack.ok (refl s).wrB.wr.setStage.ok)

theorem setCredits {c : Map Nat} (h : keeps T s t) : keeps T s (t.setCredits c) := by
  unfold State.setCredits
  exact h.upd.wr.wr.wr

theorem issueFlit {fl : Flit} {rest : List Flit} {spend : Bool} (h : keeps T s t) :
    keeps T s (t.issueFlit fl rest spend) := by
  unfold State.issueFlit
  exact (h.upd.setCredits.ite h.upd).wr.bump

theorem pump {k : Nat} (h : keeps T s t) : keeps T s (t.pump k) := by
  induction k generalizing t with
  | zero => exact h
  | succ k ih =>
    unfold State.pump
    split
    · exact h
    · split
      · exact h.ite (ih h.issueFlit)
      · split
        · exact h
        · exact ih h.upd

theorem send (h : keeps T s t) : keeps T s t.send := by
  unfold State.send
  exact h.pump

theorem hostTx {t' : HostTx} (h : keeps T s t) : keeps T s (t.hostTx t') := by
  unfold State.hostTx
  exact h.upd.send

theorem sendMsg {vector : Nat} (h : keeps T s t) : keeps T s (t.sendMsg vector) := by
  unfold State.sendMsg
  exact h.hostTx

theorem complete {cls op tag status addr : Nat} {data : List Byte} (h : keeps T s t) :
    keeps T s (t.complete cls op tag status addr data) := by
  unfold State.complete
  exact h.hostTx

theorem windowFault {w : Nat} {o : Occ} (h : keeps T s t) : keeps T s (t.windowFault w o) := by
  unfold State.windowFault
  exact h.wr.bump.raise

theorem issueWrites {slot attr a : Nat} {d : List Byte} {ns : List Nat} (h : keeps T s t) :
    keeps T s (t.issueWrites slot attr a d ns) := by
  induction ns generalizing t a d with
  | nil => unfold State.issueWrites; exact h
  | cons n rest ih => unfold State.issueWrites; exact ih h.hostTx

theorem hostWrite {slot waddr : Nat} {data : List Byte} {o : Occ} (h : keeps T s t) :
    keeps T s (t.hostWrite slot waddr data o).2 := by
  unfold State.hostWrite
  extract_lets
  split
  · exact h.issueWrites.snd
  · exact h.windowFault.snd

theorem hostRead {slot waddr len : Nat} {o : Occ} (h : keeps T s t) : keeps T s (t.hostRead slot waddr len o).2 := by
  unfold State.hostRead
  extract_lets
  split
  · exact h.windowFault.snd
  · exact (foldlFst (fun _ _ h => h.upd.hostTx.fst) h.fst).snd

theorem execBundleExchangeDone_runs (n : Nat) (caps : List Word) (s : State) :
    runs workParts s (execBundleExchangeDone n caps s) := by
  unfold execBundleExchangeDone
  split
  · exact (refl s).ok
  · extract_lets _ s1
    have h1 : keeps False s s1 := foldl (fun _ _ h => h.wr) (refl s)
    split
    · exact h1.bundleBack.raise.ok
    · exact runs_ite h1.bundleBack.ok (h1.ite h1.upd.setCredits).setBundle.wr.setStage.send.ok

theorem execBundleStageTimeout_runs (n : Nat) (s : State) : runs workParts s (execBundleStageTimeout n s) := by
  unfold execBundleStageTimeout
  split
  · exact (refl s).ok
  · exact runs_ite ((refl s).trainFail.ite (refl s).bundleBack).ok (refl s).ok

theorem execBundleBackoffExpiry_runs (n : Nat) (s : State) : runs workParts s (execBundleBackoffExpiry n s) := by
  unfold execBundleBackoffExpiry
  split
  · exact (refl s).ok
  · exact runs_ite (refl s).setBundle.ok (refl s).ok

theorem execBundleRetrain_runs (n : Nat) (s : State) : runs workParts s (execBundleRetrain n s) := by
  unfold execBundleRetrain
  exact runs_ite (refl s).bundleRetrain.ok (refl s).ok

theorem retrainAll (h : keeps T s t) : keeps T s t.retrainAll := by
  unfold State.retrainAll
  exact foldl (fun _ _ h => h.bundleRetrain) h

theorem execRetrainAll_runs (s : State) : runs workParts s (execRetrainAll s) := by
  unfold execRetrainAll
  exact (refl s).retrainAll.ok

theorem execElasticOverrun_runs (n : Nat) (s : State) : runs workParts s (execElasticOverrun n s) := by
  unfold execElasticOverrun
  exact runs_ite (refl s).raise.bundleRetrain.ok (refl s).ok

theorem execLinkStall_runs (s : State) : runs workParts s (execLinkStall s) := by
  unfold execLinkStall
  exact runs_ite (refl s).retrainAll.raise.upd.ok (refl s).ok

theorem execLinkDownLimit_runs (s : State) : runs workParts s (execLinkDownLimit s) := by
  unfold execLinkDownLimit
  split
  · exact (refl s).ok
  · exact runs_ite (refl s).upd.setCredits.wr.wr.bump.raise.ok (refl s).ok

theorem execHostStall_runs (s : State) : runs workParts s (execHostStall s) := by
  unfold execHostStall
  exact runs_ite (refl s).upd.raise.ok (refl s).ok

theorem memProgress (h : keeps T s t) : keeps T s t.memProgress := by
  unfold State.memProgress
  exact h.upd

theorem takeAck {a : Nat} (h : keeps T s t) : keeps T s (t.takeAck a) := by
  unfold State.takeAck
  extract_lets
  split
  · exact h
  · exact h.upd.wr.wr

theorem takeCredit {cls count : Nat} (h : keeps T s t) : keeps T s (t.takeCredit cls count) := by
  unfold State.takeCredit
  exact (h.ite (h.upd.setCredits.memProgress.ite h.upd.setCredits)).ite h

theorem freeRoom {cls n : Nat} (h : keeps T s t) : keeps T s (t.freeRoom cls n) := by
  unfold State.freeRoom
  exact h.upd.ite h

theorem takeInbox {cls op addr : Nat} (h : keeps T s t) : keeps T s (t.takeInbox cls op addr) := by
  unfold State.takeInbox
  split
  · exact h
  · exact h.upd.ite h.upd.freeRoom

theorem classBad (h : keeps T s t) : keeps T s t.classBad := by
  unfold State.classBad
  exact h.bump.raise

theorem acceptFlit {f : Flit} (h : keeps T s t) : keeps T s (t.acceptFlit f) := by
  unfold State.acceptFlit
  extract_lets _ _ _ _ _ s1 _ s2
  have h1 : keeps T s s1 := h.upd.ite h.upd.upd
  have h2 : keeps T s s2 := h1.upd
  exact h.upd.classBad.ite (h1.upd.ite (h2.upd.ite h2.freeRoom.classBad))

theorem drainReorder {k : Nat} (h : keeps T s t) : keeps T s (t.drainReorder k) := by
  induction k generalizing t with
  | zero => exact h
  | succ k ih =>
    unfold State.drainReorder
    split
    · exact h
    · exact (ih h.upd.acceptFlit).ite h.upd.raise

theorem sendNak (h : keeps T s t) : keeps T s t.sendNak := by
  unfold State.sendNak
  exact h.ite h.upd.bump

theorem dataFlit {f : Flit} (h : keeps T s t) : keeps T s (t.dataFlit f) := by
  unfold State.dataFlit
  exact (h.acceptFlit.drainReorder.ite h.raise).ite (h.ite (h.upd.ite h))

theorem replayHeld (h : keeps T s t) : keeps T s t.replayHeld := by
  unfold State.replayHeld
  exact h.bump.bump

theorem takeNak {a : Nat} (h : keeps T s t) : keeps T s (t.takeNak a) := by
  unfold State.takeNak
  exact h.bump.takeAck.replayHeld

theorem badFlit {n : Nat} (h : keeps T s t) : keeps T s (t.badFlit n) := by
  unfold State.badFlit
  extract_lets _ _ _ s1
  have h1 : keeps T s s1 := h.bump.bump.setBundle.sendNak
  exact h1.raise.bundleRetrain.ite (h1.bundleRetrain.ite h1)

theorem execFlitReceive_runs (n : Nat) (flit : List Byte) (s : State) :
    runs workParts s (execFlitReceive n flit s) := by
  unfold execFlitReceive
  refine runs_ite (refl s).ok ?_
  extract_lets s0
  have h0 : keeps False s s0 := (refl s).bump.bump
  split
  next inj s1 e =>
    have h1 : keeps False s s1 := of_snd e h0.injectUse
    refine runs_ite h1.badFlit.ok ?_
    extract_lets x s2 s3 s4
    have h2 : keeps False s s2 := h1.setBundle
    have h4 : keeps False s s4 := (h2.takeAck.ite h2).takeCredit
    exact (h4.dataFlit.ite (h4.takeNak.ite h4)).send.ok

theorem execNakFlitReceive_runs (ack : Nat) (s : State) : runs workParts s (execNakFlitReceive ack s) := by
  unfold execNakFlitReceive
  exact (refl s).takeNak.send.ok

theorem execFlitGapTimeout_runs (s : State) : runs workParts s (execFlitGapTimeout s) := by
  unfold execFlitGapTimeout
  exact runs_ite (refl s).sendNak.ok (refl s).ok

theorem execFlitAckTimeout_runs (s : State) : runs workParts s (execFlitAckTimeout s) := by
  unfold execFlitAckTimeout
  exact runs_ite (refl s).replayHeld.ok (refl s).ok

theorem setEq {n p : Nat} {tx : Nat × Nat × Nat} {ctle d1 d2 d3 : Nat} (h : keeps T s t) :
    keeps T s (t.setEq n p tx ctle d1 d2 d3) := by
  unfold State.setEq
  exact h.wr.wr.wr.wr.wr.wr.wr

theorem loadEqTable (h : keeps T s t) : keeps T s t.loadEqTable := by
  unfold State.loadEqTable
  extract_lets builtin all
  have ha : keeps T s (all t) := foldl (fun _ _ h => h.setEq) h
  split
  · exact ha
  · split
    · exact ha.raise
    · exact ha.raise.ite (foldl (fun _ _ h => h.setEq.ite h.setEq.raise) h)

/-! ### The operations of Machine/Boot.lean -/

theorem nextStep {n : Nat} (h : keeps T s t) : keeps T s (t.nextStep n) := by
  unfold State.nextStep
  exact h.wr.wr.wr.upd

theorem stepFail {reason : Nat} (h : keeps T s t) : keeps T s (t.stepFail reason) := by
  unfold State.stepFail
  exact h.bump.wr.wr.upd.consoleLog

theorem execBootBackoffExpiry_runs (s : State) : runs workParts s (execBootBackoffExpiry s) := by
  unfold execBootBackoffExpiry
  exact runs_ite (refl s).upd.addSat.ok (refl s).ok

theorem execBootStepTimeout_runs (s : State) : runs workParts s (execBootStepTimeout s) := by
  unfold execBootStepTimeout
  split
  · extract_lets s1
    have h1 : keeps False s s1 := (refl s).stepFail
    refine keeps.ok ?_
    split
    · exact h1.raise
    · exact h1.raise
    · exact h1.raise
    · exact h1
  · exact (refl s).ok

theorem beginStart (h : keeps T s t) : keeps T s t.beginStart := by
  unfold State.beginStart
  exact h.nextStep.wr.wr.upd

theorem sampleStraps (h : keeps T s t) : keeps T s t.sampleStraps := by
  unfold State.sampleStraps
  exact h.wr.wr

theorem execStartupBegin_runs (s : State) : runs workParts s (execStartupBegin s) := by
  unfold execStartupBegin
  extract_lets _ s1
  have h1 : keeps False s s1 := (refl s).upd.sampleStraps.wr
  exact runs_ite h1.ok h1.beginStart.ok

theorem execStepClocks_runs (s : State) : runs workParts s (execStepClocks s) := by
  unfold execStepClocks
  exact runs_ite (refl s).wr.wr.wr.wr.nextStep.ok (refl s).ok

theorem execStepFlash_runs (answers : Bool) (s : State) : runs workParts s (execStepFlash answers s) := by
  unfold execStepFlash
  exact runs_ite (runs_ite (refl s).nextStep.ok (refl s).stepFail.raise.ok) (refl s).ok

theorem execStepAuthReeve_runs (s : State) : runs workParts s (execStepAuthReeve s) := by
  unfold execStepAuthReeve
  split
  · split
    next hu =>
      exact (of_snd hu (refl s).pickCopy).wr.wr.wr.upd.nextStep.ok
    next hu =>
      exact (of_snd hu (refl s).pickCopy).stepFail.ok
  · exact (refl s).ok

theorem setLimp {m : Nat} (h : keeps T s t) : keeps T s (t.setLimp m) := by
  unfold State.setLimp
  exact h.wr.wr.wr.ite (h.wr.wr.ite h.wr.wr.wr.raise.hearthsOff.lanternLimp)

theorem addLimp {n : Nat} (h : keeps T s t) : keeps T s (t.addLimp n) := by
  unfold State.addLimp
  exact h.setLimp

theorem loadHearth {bistA bistB digestA digestB : Bool} (h : keeps T s t) :
    keeps T s (t.loadHearth bistA bistB digestA digestB).2 := by
  unfold State.loadHearth
  split
  · next e => exact of_snd e h.pickCopy
  · next c s1 e =>
    have h1 : keeps T s s1 := of_snd e h.pickCopy
    extract_lets v s2
    have h2 : keeps T s s2 := h1.wr.wr
    split
    next oc s3 e' =>
      have h3 : keeps T s s3 := of_snd e' h2.pickCopy
      extract_lets s4 _ _ _ s6
      have h4 : keeps T s s4 := by
        unfold s4
        split
        · exact h3.wr
        · exact h3.wr
      have h6 : keeps T s s6 := h4.wr.wr.upd
      split
      · exact h6.snd
      · split
        · exact h6.hearthStartBist.snd
        · exact h6.snd

theorem doPairing (h : keeps T s t) : keeps T s t.doPairing := by
  unfold State.doPairing
  extract_lets _ _ _ _ s1
  have h1 : keeps T s s1 := by
    unfold s1
    split
    · exact h.wr.upd
    · exact h.wr.raise.ite h.wr
  exact foldl (fun _ _ h => h.addLimp) (h1.wr.wr.ite h1)

theorem execStepLoadHearth_runs (bistA bistB digestA digestB : Bool) (s : State) :
    runs workParts s (execStepLoadHearth bistA bistB digestA digestB s) := by
  unfold execStepLoadHearth
  split
  · split
    next hu =>
      exact (of_snd hu (refl s).loadHearth).nextStep.ok
    next hu =>
      exact (of_snd hu (refl s).loadHearth).stepFail.ok
    next hu =>
      exact (of_snd hu (refl s).loadHearth).nextStep.addLimp.ok
  · exact (refl s).ok

theorem execStepPairing_runs (s : State) : runs workParts s (execStepPairing s) := by
  unfold execStepPairing
  exact runs_ite (refl s).doPairing.nextStep.ok (refl s).ok

theorem useAlmanac (h : keeps T s t) : keeps T s t.useAlmanac := by
  unfold State.useAlmanac
  extract_lets
  refine foldl (fun _ _ h => ?_) (foldl (fun _ _ h => h.wr) h.wr)
  split
  · exact h.wr
  · exact h.wr.wr

theorem takeEdits (h : keeps T s t) : keeps T s t.takeEdits := by
  unfold State.takeEdits
  exact h.upd.ite h

theorem checkSections (h : keeps T s t) : keeps T s t.checkSections := by
  unfold State.checkSections
  exact foldl (fun _ _ h => h.raise.ite h) h

theorem enterLink (h : keeps T s t) : keeps T s t.enterLink := by
  unfold State.enterLink
  extract_lets s1
  have h1 : keeps T s s1 := h.nextStep.loadEqTable
  exact h1.ite h1.wr

theorem execStepAlmanac_runs (s : State) : runs workParts s (execStepAlmanac s) := by
  unfold execStepAlmanac
  split
  · extract_lets s1
    have h1 : keeps False s s1 := (refl s).checkSections
    split
    · exact h1.takeEdits.wr.useAlmanac.enterLink.ok
    · split
      · exact h1.loadSection.wr.useAlmanac.enterLink.ok
      · exact h1.upd.wr.wr.addLimp.enterLink.ok
  · exact (refl s).ok

theorem execStepLink_runs (s : State) : runs workParts s (execStepLink s) := by
  unfold execStepLink
  exact runs_ite (runs_ite (refl s).upd.ok (refl s).nextStep.ok) (refl s).ok

theorem execStepLantern_runs (a b : Option ModuleReport) (s : State) : runs workParts s (execStepLantern a b s) := by
  unfold execStepLantern
  split
  · split
    next hu =>
      exact (of_snd hu (refl s).lanternStart).nextStep.ok
    next hu =>
      exact (of_snd hu (refl s).lanternStart).stepFail.ok
    next hu =>
      exact (of_snd hu (refl s).lanternStart).ok
  · exact (refl s).ok

theorem execHearthImageRetry_runs (bistA bistB digestA digestB : Bool) (s : State) :
    runs workParts s (execHearthImageRetry bistA bistB digestA digestB s) := by
  unfold execHearthImageRetry
  split
  · split
    next hu =>
      extract_lets _ _ s1
      have h1 : keeps False s s1 := (of_snd hu (refl s).loadHearth).wr.doPairing.setLimp
      exact runs_ite h1.hearthsOff.ok (runs_ite h1.nextStep.ok h1.ok)
    next hu =>
      exact (of_snd hu (refl s).loadHearth).wr.addLimp.hearthsOff.ok
    next hu =>
      exact (of_snd hu (refl s).loadHearth).bump.addSat.hearthsOff.ok
  · exact (refl s).ok

theorem calibEnd {kind : Nat} {failed : Bool} (h : keeps T s t) : keeps T s (t.calibEnd kind failed) := by
  unfold State.calibEnd
  exact h.wr.wr

theorem relockEnd {f : Nat} (h : keeps T s t) : keeps T s (t.relockEnd f) := by
  unfold State.relockEnd
  exact h.upd.calibEnd.ite h

theorem sweepNext (h : keeps T s t) : keeps T s t.sweepNext := by
  unfold State.sweepNext
  split
  · exact h.wr.nextStep.ite h.wr
  · exact h.wr.wr

theorem execStepRelock_runs (s : State) : runs workParts s (execStepRelock s) := by
  unfold execStepRelock
  split
  · exact (foldl (fun _ _ h => h.loopsWarm.bump.ite h) (foldl (fun _ _ h => h.matrixLoad) (refl s))).upd.sweepNext.ok
  · exact (refl s).ok

theorem execColdRelockFerry_runs (f : Nat) (res : RelockResult) (s : State) :
    runs workParts s (execColdRelockFerry f res s) := by
  unfold execColdRelockFerry
  split
  · exact (refl s).ok
  · split
    · exact (refl s).ok
    · split
      · exact (refl s).upd.writeRelock.bump.setCodes.upd.matrixLoad.loopsCold.sweepNext.relockEnd.ok
      · exact (refl s).bump.wr.wr.addSat.raise.upd.sweepNext.ok
      · exact (refl s).bump.wr.wr.addSat.raise.upd.sweepNext.ok

theorem execStepLanes_runs (s : State) : runs workParts s (execStepLanes s) := by
  unfold execStepLanes
  exact runs_ite (runs_ite (refl s).upd.nextStep.ok (refl s).upd.ok) (refl s).ok

theorem execStepBellJoin_runs (s : State) : runs workParts s (execStepBellJoin s) := by
  unfold execStepBellJoin
  exact runs_ite (refl s).nextStep.ok (refl s).ok

theorem execStepReport_runs (s : State) : runs workParts s (execStepReport s) := by
  unfold execStepReport
  exact runs_ite (foldl (fun _ _ h => h.wr) (refl s).wr.wr.wr).ok (refl s).ok

/-! ### The operations of Machine/Granary.lean -/

theorem granaryNote {p : Port} {a : Nat} {ue scrub : Bool} (h : keeps T s t) :
    keeps T s (t.granaryNote p a ue scrub) := by
  unfold State.granaryNote
  exact h.wr.wrB.wrB.wr.wr.wr

theorem poisonLine {a : Nat} (h : keeps T s t) : keeps T s (t.poisonLine a) := by
  unfold State.poisonLine
  exact h.ite h.upd.bump

theorem granaryCe {p : Port} {a : Nat} {o : Occ} (h : keeps T s t) : keeps T s (t.granaryCe p a o) := by
  unfold State.granaryCe
  exact h.granaryNote.bump.raise

theorem granaryUe {p : Port} {a : Nat} {o : Occ} (h : keeps T s t) : keeps T s (t.granaryUe p a o) := by
  unfold State.granaryUe
  exact h.granaryNote.bump.poisonLine.raise

theorem poisonMet {p : Port} {a : Nat} {o : Occ} (h : keeps T s t) : keeps T s (t.poisonMet p a o) := by
  unfold State.poisonMet
  exact h.granaryNote.raise

theorem granaryInject {p : Port} {o : Occ} {a n : Nat} {good : Bool} (h : keeps T s t) :
    keeps T s (t.granaryInject p o a n good).2 := by
  induction n generalizing t a good with
  | zero => exact h
  | succ n ih =>
    unfold State.granaryInject
    split
    · exact ih h.injectUse.granaryUe
    · split
      · exact ih h.injectUse.granaryCe
      · exact ih h

theorem granaryCheck {p : Port} {a n : Nat} {ecc : EccResult} {o : Occ} (h : keeps T s t) :
    keeps T s (t.granaryCheck p a n ecc o).2 := by
  unfold State.granaryCheck
  split
  · exact h.poisonMet.snd
  · extract_lets s1
    have h1 : keeps T s s1.2 := by
      unfold s1
      split
      · exact h.snd
      · exact h.granaryInject
    split
    · exact h1
    · exact h1.granaryCe.snd
    · exact h1.granaryUe.snd

theorem granaryRead {p : Port} {a n : Nat} {ecc : EccResult} {o : Occ} (h : keeps T s t) :
    keeps T s (t.granaryRead p a n ecc o).2 := by
  unfold State.granaryRead
  exact h.granaryCheck.snd

theorem granaryPoke {a : Nat} {d : List Byte} (h : keeps T s t) : keeps T s (t.granaryPoke a d) :=
  h.step fun i => ⟨i.regs, memWf_writeBytes _ _ i.granary, i.scratch, i.bell, i.queue⟩

theorem granaryWriteLine {p : Port} {a : Nat} {d : List Byte} {o : Occ} (h : keeps T s t) :
    keeps T s (t.granaryWriteLine p a d o).2 := by
  unfold State.granaryWriteLine
  split
  · exact h.granaryPoke.snd
  · split
    · exact h.upd.bump.granaryPoke.snd
    · exact h.poisonMet.snd

theorem granaryWrite {p : Port} {a : Nat} {d : List Byte} {o : Occ} (h : keeps T s t) :
    keeps T s (t.granaryWrite p a d o).2 := by
  unfold State.granaryWrite
  exact foldlSnd (fun _ _ h => h.granaryWriteLine.snd) h.snd

theorem hostPort {n : Nat} (h : keeps T s t) : keeps T s (t.hostPort n) := by
  unfold State.hostPort
  exact h.bump

theorem linePort {n : Nat} (h : keeps T s t) : keeps T s (t.linePort n) := by
  unfold State.linePort
  exact h.bump

/-! ### The operations of Machine/Bell.lean -/

theorem setLane {k : Nat} {l : LaneTime} (h : keeps T s t) : keeps T s (t.setLane k l) := by
  unfold State.setLane
  exact h.upd

theorem bellNumLo {path : Sys2Proof.Path} (h : keeps T s t) : keeps T s (t.bellNumLo path).2 := by
  unfold State.bellNumLo
  exact h.upd.snd

theorem execBellNumLoRead_runs (path : Sys2Proof.Path) (s : State) : runs workParts s (execBellNumLoRead path s) := by
  unfold execBellNumLoRead
  exact (refl s).bellNumLo.answer.ok

theorem setParent {k : Nat} (h : keeps T s t) : keeps T s (t.setParent k) := by
  unfold State.setParent
  exact h.wr.wr.wr.ite h.wr.wr.wr.bump

theorem dropParent (h : keeps T s t) : keeps T s t.dropParent := by
  unfold State.dropParent
  exact h.wr.wr.wr

theorem follow {k : Nat} (h : keeps T s t) : keeps T s (t.follow k) := by
  unfold State.follow
  exact h.wr.wr.wr

theorem lockTo {k : Nat} (h : keeps T s t) : keeps T s (t.lockTo k) := by
  unfold State.lockTo
  exact h.setParent.follow.wr.upd

theorem toFree (h : keeps T s t) : keeps T s t.toFree := by
  unfold State.toFree
  exact h.dropParent.wr.wr.upd

theorem restartAvg {k : Nat} (h : keeps T s t) : keeps T s (t.restartAvg k) := by
  unfold State.restartAvg
  exact h.setLane

theorem tryJoin (h : keeps T s t) : keeps T s t.tryJoin := by
  unfold State.tryJoin
  split
  · exact h
  · split
    · exact h
    · exact h.setParent.wr.bump.restartAvg.upd

theorem execBellJoinStep_runs (lengthen num : Nat) (rate : Int) (s : State) :
    runs workParts s (execBellJoinStep lengthen num rate s) := by
  unfold execBellJoinStep
  split
  · exact (refl s).ok
  · exact runs_ite ((refl s).wrI.bump.restartAvg.upd (hn := False.elim)).ok (refl s).ok

theorem execBellJoinCheck_runs (s : State) : runs workParts s (execBellJoinCheck s) := by
  unfold execBellJoinCheck
  split
  · exact (refl s).ok
  · split
    · exact runs_ite (runs_ite (refl s).lockTo.upd.ok (refl s).lockTo.ok) (refl s).upd.ok
    · exact (refl s).ok

theorem steer (h : keeps T s t) : keeps T s t.steer := by
  unfold State.steer
  exact h.upd.wrI.ite h

theorem checkDisagree {k : Nat} (h : keeps T s t) : keeps T s (t.checkDisagree k) := by
  unfold State.checkDisagree
  extract_lets
  split
  · exact h
  · exact h.wr.wr.raise.ite h

theorem execBellServoUpdate_runs (s : State) : runs workParts s (execBellServoUpdate s) := by
  unfold execBellServoUpdate
  split
  · exact (refl s).ok
  · split
    · exact (refl s).ok
    · exact runs_ite (foldl (fun _ _ h => h.checkDisagree) (refl s).wrI.steer).ok (refl s).ok

theorem execParentLost_runs (s : State) : runs workParts s (execParentLost s) := by
  unfold execParentLost
  split
  · exact (refl s).ok
  · split
    · exact (refl s).ok
    · split
      · exact (refl s).toFree.upd.ok
      · exact runs_ite (refl s).dropParent.raise.upd.ok (refl s).ok

theorem execHoldoverLong_runs (s : State) : runs workParts s (execHoldoverLong s) := by
  unfold execHoldoverLong
  exact runs_ite (refl s).upd.raise.ok (refl s).ok

theorem becomeRoot {e : Nat} (h : keeps T s t) : keeps T s (t.becomeRoot e) := by
  unfold State.becomeRoot
  exact h.dropParent.wr.wr.wr.wr.wr.upd

theorem execStandbyRootTakeover_runs (s : State) : runs workParts s (execStandbyRootTakeover s) := by
  unfold execStandbyRootTakeover
  exact runs_ite (refl s).becomeRoot.ok (refl s).ok

theorem execRootStartTimeout_runs (epochNum : Nat) (s : State) :
    runs workParts s (execRootStartTimeout epochNum s) := by
  unfold execRootStartTimeout
  split
  · exact (refl s).ok
  · exact runs_ite ((refl s).becomeRoot.upd (hn := False.elim)).ok (refl s).ok

theorem writeBellCtrl {v : Nat} (h : keeps T s t) : keeps T s (t.writeBellCtrl v) := by
  unfold State.writeBellCtrl
  extract_lets _ s1
  have h1 : keeps T s s1 := h.wrB.wrB.wrB.wrB.wrB
  exact h1.upd.ite (h1.upd.ite h1)

theorem execBellRootSet_runs (val : Word) (s : State) : runs workParts s (execBellRootSet val s) := by
  unfold execBellRootSet
  exact (refl s).writeBellCtrl.ok

theorem execBellRootClear_runs (val : Word) (s : State) : runs workParts s (execBellRootClear val s) := by
  unfold execBellRootClear
  exact (refl s).writeBellCtrl.ok

theorem writePref {n v : Nat} (h : keeps T s t) : keeps T s (t.writePref n v) := by
  unfold State.writePref
  extract_lets
  split
  · split
    · exact h.wrB.wr.wr
    · exact h.wrB.wr.wr.setParent.follow.ite h.wrB.wr.wr.setParent
  · exact h.wrB.wr.wr

theorem execParentPrefWrite_runs (n : Nat) (val : Word) (s : State) :
    runs workParts s (execParentPrefWrite n val s) := by
  unfold execParentPrefWrite
  exact runs_ite (refl s).writePref.ok (refl s).ok

theorem execTimeInEdge_runs (phase : Int) (s : State) : runs workParts s (execTimeInEdge phase s) := by
  unfold execTimeInEdge
  split
  · extract_lets s1
    have h1 : keeps False s s1 := (refl s).bump.wrI
    exact runs_ite h1.steer.wr.upd.ok h1.upd.bump.ok
  · exact (refl s).ok

theorem execTimeInLost_runs (s : State) : runs workParts s (execTimeInLost s) := by
  unfold execTimeInLost
  split
  · exact (refl s).ok
  · exact runs_ite (refl s).wr.raise.ok (refl s).ok

theorem seeRoot {k : Nat} (h : keeps T s t) : keeps T s (t.seeRoot k) := by
  unfold State.seeRoot
  extract_lets
  split
  · exact h
  · split
    · exact h
    · split
      · exact h.ite h.setLane.raise
      · split
        · split
          · exact h.setLane.ite h
          · extract_lets s1
            have h1 : keeps T s s1 := (h.setLane.ite h).setParent.follow
            exact h1.wr.wr.upd.raise.ite h1
        · exact h.setLane.ite h

theorem measure {k mine : Nat} {seen : Option Nat} (h : keeps T s t) : keeps T s (t.measure k mine seen) := by
  unfold State.measure
  extract_lets l seen'
  clear_value seen'
  split
  · exact h.setLane
  · exact h.setLane.wr

theorem hearTime {k st depth root epoch : Nat} (h : keeps T s t) : keeps T s (t.hearTime k st depth root epoch) := by
  unfold State.hearTime
  extract_lets _ _ _ _ s1
  have h1 : keeps T s s1 := h.setLane.upd.ite h.setLane
  exact h1.wr.ite h1

theorem forgetLane {k : Nat} (h : keeps T s t) : keeps T s (t.forgetLane k) := by
  unfold State.forgetLane
  exact h.upd.wr

/-- At a boundary the number and the time go on; what follows them there leaves them alone. -/
theorem bellTick_split (s : State) : ∃ s0, keeps False s s0 ∧ keeps True s0 s.bellTick ∧ s0.ticks = s.ticks + 1 ∧
    s0.bellNum = s.bell.nextNum.getD (s.bellNum + 1) % bellMod := by
  unfold State.bellTick
  extract_lets num _ _ _ _ _ s0
  have hnum : num = s.bell.nextNum.getD (s.bellNum + 1) % bellMod := by
    unfold num
    cases s.bell.nextNum <;> rfl
  have hlt : num < bellMod := hnum ▸ Nat.mod_lt _ (by decide)
  refine ⟨s0, (refl s).setTime fun i => ⟨i.regs, i.granary, i.scratch, hlt, i.queue⟩, ?_, rfl, hnum⟩
  have h0 : keeps True s0 s0 := same s0
  split
  · exact h0.becomeRoot
  · split
    · exact h0.wr.dropParent.upd
    · split
      · split
        · exact h0.wr.upd
        · exact h0.wr.upd.setParent
      · split
        · split
          · exact h0.upd.bump
          · split
            · exact h0.upd.bump.lockTo.ite h0.upd.bump
            · split
              · exact h0.upd.bump
              · exact h0.upd.bump.setParent
        · exact h0.tryJoin.ite h0

theorem bellTick (h : keeps False s t) : keeps False s t.bellTick := by
  obtain ⟨_, h0, h1, _⟩ := bellTick_split t
  exact (h.trans h0).trans h1.weaken

theorem execRefclkLoss_runs (s : State) : runs workParts s (execRefclkLoss s) := by
  unfold execRefclkLoss
  split
  · extract_lets _ s1
    have h1 : keeps False s s1 := (refl s).wr.wr.wr.wr.raise
    exact runs_ite h1.upd.ok h1.ok
  · exact (refl s).ok

theorem execRefclkReturn_runs (s : State) : runs workParts s (execRefclkReturn s) := by
  unfold execRefclkReturn
  exact (refl s).wr.ok

theorem execPllUnlock_runs (d : ClockDomain) (s : State) : runs workParts s (execPllUnlock d s) := by
  unfold execPllUnlock
  exact runs_ite (refl s).wr.bump.raise.ok (refl s).ok

theorem execPllRelock_runs (d : ClockDomain) (s : State) : runs workParts s (execPllRelock d s) := by
  unfold execPllRelock
  exact runs_ite (refl s).wr.ok (refl s).ok

/-! ### The operations of Machine/Tasks.lean -/

theorem setTask {n : Nat} {t' : Machine.Task} (h : keeps T s t) : keeps T s (t.setTask n t') := by
  unfold State.setTask
  exact h.upd

theorem setLink {k : Nat} {l : Link} (h : keeps T s t) : keeps T s (t.setLink k l) := by
  unfold State.setLink
  exact h.upd

theorem setHop {k : Nat} {h' : Hop} (h : keeps T s t) : keeps T s (t.setHop k h') := by
  unfold State.setHop
  exact h.upd

theorem setCredit {k : Nat} {c : Credit} (h : keeps T s t) : keeps T s (t.setCredit k c) := by
  unfold State.setCredit
  exact h.upd

theorem noRoute {x : Sheaf} (h : keeps T s t) : keeps T s (t.noRoute x) := by
  unfold State.noRoute
  exact h.bump.raise

theorem dropPiece {own : Nat} {x : Sheaf} (h : keeps T s t) : keeps T s (t.dropPiece own x) := by
  unfold State.dropPiece
  exact h.setTask.ite h

theorem sendOpen {own : Nat} {x : Sheaf} (h : keeps T s t) : keeps T s (t.sendOpen own x) := by
  unfold State.sendOpen
  extract_lets
  split
  · exact h.upd.bump.upd
  · split
    · exact h.upd.bump.noRoute.dropPiece
    · exact h.upd.bump.upd

theorem showHop {k : Nat} (h : keeps T s t) : keeps T s (t.showHop k) := by
  unfold State.showHop
  exact h.wr.wr

theorem flushTask {n : Nat} (h : keeps T s t) : keeps T s (t.flushTask n) := by
  unfold State.flushTask
  exact (foldl (fun _ _ h => h.ite h.bump.setHop.showHop) h).upd.setTask.bump

theorem abortNotice {n origin reason : Nat} (h : keeps T s t) : keeps T s (t.abortNotice n origin reason) := by
  unfold State.abortNotice
  exact h.ite (foldl (fun _ _ h => h.sendOpen) h.upd)

theorem countEnd {n status : Nat} (h : keeps T s t) : keeps T s (t.countEnd n status) := by
  unfold State.countEnd
  split
  · exact h.bump
  · exact h.bump
  · exact h.bump
  · exact h.bump.raise
  · exact h.bump
  · exact h.bump.raise
  · exact h

theorem undefineRegion {n : Nat} (h : keeps T s t) : keeps T s (t.undefineRegion n) := by
  unfold State.undefineRegion
  exact (foldl (fun _ _ h => h.granaryPoke) h).upd

theorem loseResults {n status : Nat} (h : keeps T s t) : keeps T s (t.loseResults n status) := by
  unfold State.loseResults
  exact h.undefineRegion.ite h

theorem finish {n status detail : Nat} (h : keeps T s t) : keeps T s (t.finish n status detail) := by
  unfold State.finish
  exact h.ite (h.loseResults.abortNotice.flushTask.ite h.loseResults).upd.setTask.countEnd

theorem askStop {n status detail : Nat} (h : keeps T s t) : keeps T s (t.askStop n status detail) := by
  unfold State.askStop
  exact h.setTask.finish.ite (h.setTask.ite h)

theorem failTask {n status : Nat} (h : keeps T s t) : keeps T s (t.failTask n status) := by
  unfold State.failTask
  exact h.finish.ite (h.setTask.ite h)

theorem stepPoint {n : Nat} (h : keeps T s t) : keeps T s (t.stepPoint n).2 := by
  unfold State.stepPoint
  split
  · exact h.snd
  · split
    · exact h.finish.snd
    · exact h.finish.snd

theorem execTaskTimeout_runs (slot : Nat) (s : State) : runs workParts s (execTaskTimeout slot s) := by
  unfold execTaskTimeout
  exact runs_ite (refl s).finish.ok (refl s).ok

theorem regionViolation {n core a : Nat} (h : keeps T s t) : keeps T s (t.regionViolation n core a) := by
  unfold State.regionViolation
  exact h.wr.wr.wr.wr.bump.raise.failTask

theorem taskWrite {n core a : Nat} {d : List Byte} (h : keeps T s t) : keeps T s (t.taskWrite n core a d).2 := by
  unfold State.taskWrite
  split
  · exact h.regionViolation.snd
  · extract_lets
    split
    · exact h.granaryWrite
    · exact h.granaryWrite.failTask.snd

/-! ### The operations of Machine/Links.lean -/

theorem mirrorPair {f j : Nat} (h : keeps T s t) : keeps T s (t.mirrorPair f j) := by
  unfold State.mirrorPair
  exact (foldl (fun _ _ h => h.wr) (foldl (fun _ _ h => h.wr) h)).setLink.setLink

theorem setReversed {f : Nat} {r : Bool} (h : keeps T s t) : keeps T s (t.setReversed f r) := by
  unfold State.setReversed
  exact h.ite (foldl (fun _ _ h => h.mirrorPair) h).wrB

theorem orient {f : Nat} {r : Bool} (h : keeps T s t) : keeps T s (t.orient f r) := by
  unfold State.orient
  exact h.setReversed.wr

theorem enter {k st : Nat} (h : keeps T s t) : keeps T s (t.enter k st) := by
  unfold State.enter
  exact h.wr.setLink.wr

theorem settle {f : Nat} (h : keeps T s t) : keeps T s (t.settle f) := by
  unfold State.settle
  exact h.setReversed.wr.wr.ite h

theorem leaveActive {k at' : Nat} (h : keeps T s t) : keeps T s (t.leaveActive k at') := by
  unfold State.leaveActive
  exact h.setHop.showHop.setCredit

theorem toDetect {k reason : Nat} {b : BackOff} {at' : Nat} (h : keeps T s t) :
    keeps T s (t.toDetect k reason b at') := by
  unfold State.toDetect
  extract_lets _ _ _ _ _ _ _ _ _ _ s1
  have h1 : keeps T s s1 := (foldl (fun _ _ h => h.wr) h.setLink.enter.forgetLane).wr
  exact (h1.leaveActive.ite h1).settle

theorem raiseLink {e : Nat → ErrBit} {k : Nat} (h : keeps T s t) : keeps T s (t.raiseLink e k) := by
  unfold State.raiseLink
  exact h.raiseTasks

theorem stageFail' {k reason : Nat} (h : keeps T s t) : keeps T s (t.stageFail' k reason) := by
  unfold State.stageFail'
  extract_lets _ _ _ _ s1 _ s2
  have h1 : keeps T s s1 := (h.wr.bump.ite (h.wr.bump.ite h.wr.bump)).raise
  have h2 : keeps T s s2 := (h1.raise.ite (h1.raise.ite (h1.raise.ite h1))).toDetect
  exact h2.wr.ite h2

theorem activeExit {k reason : Nat} {b : BackOff} (h : keeps T s t) : keeps T s (t.activeExit k reason b) := by
  unfold State.activeExit
  extract_lets _ _ s1
  have h1 : keeps T s s1 := by
    unfold s1
    split
    · exact h.wr.bump.raiseLink
    · exact h.wr.raiseLink.ite (h.wr.bump.raiseTasks.ite h.wr)
  exact h1.toDetect

theorem execLosEvaluate_runs (f w : Nat) (carrier : Int) (s : State) :
    runs workParts s (execLosEvaluate f w carrier s) := by
  unfold execLosEvaluate
  split
  · exact (refl s).ok
  · extract_lets _ _ _ _ _ s1
    have h1 : keeps False s s1 := (refl s).setLink.wrB
    exact runs_ite h1.activeExit.ok h1.ok

theorem execLaneDetectExit_runs (f j : Nat) (s : State) : runs workParts s (execLaneDetectExit f j s) := by
  unfold execLaneDetectExit
  split
  · exact (refl s).ok
  · extract_lets _ _ _ _ s1
    have h1 : keeps False s s1 := (refl s).bump.addSat
    exact runs_ite (h1.wr.ite h1.setLink.wr.wr.wr.wr).enter.ok (refl s).ok

theorem execLaneBackoffExpiry_runs (f j : Nat) (s : State) : runs workParts s (execLaneBackoffExpiry f j s) := by
  unfold execLaneBackoffExpiry
  extract_lets
  split
  · exact (refl s).ok
  · exact runs_ite (refl s).setLink.wr.ok (refl s).ok

theorem showTaps {k : Nat} (h : keeps T s t) : keeps T s (t.showTaps k) := by
  unfold State.showTaps
  exact h.wr.wr.wr.wr

theorem line {k : Nat} {r : LineReport} (h : keeps T s t) : keeps T s (t.line k r) := by
  unfold State.line
  extract_lets _ _ _ _ _ _ _ _ s1
  have h1 : keeps T s s1 := h.upd.setLink.wr.ite h.upd.setLink.wr.showTaps
  exact (h1.wr.ite h1).wrI

theorem writeFreeze {f v : Nat} (h : keeps T s t) : keeps T s (t.writeFreeze f v) := by
  unfold State.writeFreeze
  exact foldl (fun _ _ h => h.wr.ite h) h.wr

theorem execEqFreezeWrite_runs (f : Nat) (val : Word) (s : State) : runs workParts s (execEqFreezeWrite f val s) := by
  unfold execEqFreezeWrite
  exact runs_ite (refl s).writeFreeze.ok (refl s).ok

theorem writeTaps {f j word v : Nat} (h : keeps T s t) : keeps T s (t.writeTaps f j word v) := by
  unfold State.writeTaps
  exact h.ite h.setLink.showTaps

theorem takeClass {f : Nat} {y2 : Option Machine.Orientation} (h : keeps T s t) : keeps T s (t.takeClass f y2).2 := by
  unfold State.takeClass
  split
  · exact h.snd
  · exact h.snd
  · extract_lets
    split
    · exact h.orient.snd
    · split
      · exact h.snd
      · exact h.snd

theorem trainRx {k : Nat} {t' : TrainFrame} (h : keeps T s t) : keeps T s (t.trainRx k t') := by
  unfold State.trainRx
  extract_lets f j s0 l conv runs corr fits b valid who l1 s1 s2 s3
  have h1 : keeps T s s1 := h.bump.line.setLink
  have h2 : keeps T s s2 := by
    unfold s2
    clear_value corr
    split
    · exact h1
    · exact h1.wr.wr
  have h3 : keeps T s s3 := h2.wr.ite h2
  split
  · exact h3.stageFail'
  · split
    · exact h3
    · split
      · next e => exact of_snd e h3.takeClass
      · next e => exact (of_snd e h3.takeClass).stageFail'

theorem execTrainingFrameReceive_runs (f j : Nat) (frame : TrainFrame) (s : State) :
    runs workParts s (execTrainingFrameReceive f j frame s) := by
  unfold execTrainingFrameReceive
  split
  · exact (refl s).ok
  · extract_lets _ _ _ s1
    have h1 : keeps False s s1 := (refl s).bump.line
    split
    · exact (refl s).ok
    · split
      · exact (refl s).trainRx.ok
      · split
        · exact (refl s).ok
        · split
          · exact (refl s).ok
          · exact runs_ite (runs_ite h1.activeExit.ok h1.setLink.ok) h1.activeExit.ok

theorem execLaneTrainDone_runs (f j : Nat) (s : State) : runs workParts s (execLaneTrainDone f j s) := by
  unfold execLaneTrainDone
  extract_lets _ s1
  have h1 : keeps False s s1 := (refl s).ite (refl s).orient
  exact runs_ite (refl s).ok (runs_ite h1.enter.setLink.ok h1.ok)

theorem execLaneLockDone_runs (f j : Nat) (s : State) : runs workParts s (execLaneLockDone f j s) := by
  unfold execLaneLockDone
  extract_lets
  split
  · refine keeps.ok ?_
    split
    · exact (refl s).enter.upd
    · exact (refl s).enter
  · exact (refl s).ok

theorem fixLanding {k h' : Nat} (h : keeps T s t) : keeps T s (t.fixLanding k h') := by
  unfold State.fixLanding
  exact h.wr

theorem reserveCells {k : Nat} (h : keeps T s t) : keeps T s (t.reserveCells k) := by
  unfold State.reserveCells
  exact h.ite (h.setCredit.bump.raise.ite h.setCredit.bump)

theorem becomeActive {k : Nat} (h : keeps T s t) : keeps T s (t.becomeActive k) := by
  unfold State.becomeActive
  exact (foldl (fun _ _ h => h.wr) h.fixLanding).setLink.enter.setHop.bump.reserveCells

theorem execLaneExchangeDone_runs (f j : Nat) (s : State) : runs workParts s (execLaneExchangeDone f j s) := by
  unfold execLaneExchangeDone
  extract_lets
  split
  · exact (refl s).ok
  · split
    · exact (refl s).becomeActive.ok
    · exact runs_ite (refl s).fixLanding.ok (refl s).ok
    · exact (refl s).stageFail'.ok

theorem execLaneStageTimeout_runs (f j : Nat) (s : State) : runs workParts s (execLaneStageTimeout f j s) := by
  unfold execLaneStageTimeout
  extract_lets
  split
  · exact (refl s).ok
  · split
    · exact runs_ite (refl s).stageFail'.ok (runs_ite (refl s).stageFail'.ok (refl s).ok)
    · exact runs_ite (refl s).stageFail'.ok (refl s).ok
    · exact runs_ite (refl s).stageFail'.ok (refl s).ok
    · exact (refl s).ok

theorem laneReset {k : Nat} (h : keeps T s t) : keeps T s (t.laneReset k) := by
  unfold State.laneReset
  exact (h.setLink.ite h).ite h.toDetect

theorem execFerryLaneReset_runs (f : Nat) (mask : Word) (s : State) :
    runs workParts s (execFerryLaneReset f mask s) := by
  unfold execFerryLaneReset
  exact runs_ite (foldl (fun _ _ h => h.laneReset.ite h) (refl s)).ok (refl s).ok

/-! ### The operations of Machine/Frames.lean -/

theorem tallyNote {wh tag place kind flow : Nat} {inj : Bool} (h : keeps T s t) :
    keeps T s (t.tallyNote wh tag place kind flow inj) := by
  unfold State.tallyNote
  exact foldl (fun _ _ h => h.wr) h

theorem tallyInject {checker : Nat} {place : Option Nat} (h : keeps T s t) :
    keeps T s (t.tallyInject checker place).2 := by
  unfold State.tallyInject
  split
  · exact h.injectUse
  · split
    · exact h.injectUse
    · exact h.snd

theorem txTallyFail {k own : Nat} {x : Sheaf} {inj : Bool} (h : keeps T s t) :
    keeps T s (t.txTallyFail k own x inj) := by
  unfold State.txTallyFail
  extract_lets s1
  have h1 : keeps T s s1 := h.tallyNote.bump.raise
  exact h1.failTask.ite h1

theorem sendHeld {d : Draft} {k n : Nat} {x : Held} {bad : Bool} (h : keeps T s t) :
    keeps T s (t.sendHeld d k n x bad).2 := by
  unfold State.sendHeld
  extract_lets r y hop s1
  have hr : keeps T s r.2 := h.bump.tallyInject
  have h1 : keeps T s s1 := hr.setHop.bump
  split
  · exact hr.txTallyFail.snd
  · exact h1.bump.snd

theorem recovered {own : Nat} (h : keeps T s t) : keeps T s (t.recovered own) := by
  unfold State.recovered
  exact h.setTask.ite h

theorem findSome {α β : Type} {φ : β → State} {f : α → Option β} (hf : ∀ x, keepsOp T φ s (f x)) (l : List α) :
    keepsOp T φ s (l.findSome? f) := by
  intro r e
  obtain ⟨x, -, hx⟩ := List.exists_of_findSome?_eq_some e
  exact hf x hx

theorem nextRecovery {d : Draft} {k : Nat} (h : keeps T s t) : keepsOp T (·.2) s (t.nextRecovery d k) := by
  unfold State.nextRecovery
  extract_lets
  split
  · exact someP_ h.setHop.bump.recovered
  · split
    · exact someP_ h.setHop.bump.recovered
    · split
      · exact someP_ (h.setHop.bump.ite h.setHop)
      · refine findSome (fun q => ?_) _
        split
        · split
          · exact noneP_
          · exact someP_ h.setHop.bump.recovered
        · exact noneP_

theorem grantCell {k : Nat} (h : keeps T s t) : keeps T s (t.grantCell k) := by
  unfold State.grantCell
  exact h.setCredit.bump.ite h

theorem nextOpen {k : Nat} (h : keeps T s t) : keepsOp T (·.2) s (t.nextOpen k) := by
  unfold State.nextOpen
  extract_lets c may spend
  have hs : ∀ {u : State} {x : Sheaf}, keeps T s u → keeps T s (spend u x) := fun h =>
    h.setCredit.bump.upd.ite h.setCredit.bump
  split
  · exact noneP_
  · split
    · exact someP_ h.setCredit.bump
    · split
      · exact noneP_
      · split
        · exact someP_ (hs h.upd.grantCell.bump)
        · split
          · exact noneP_
          · exact someP_ (hs h.upd)

theorem popSend {slot flow : Nat} (h : keeps T s t) : keepsOp T (·.2) s (t.popSend slot flow) := by
  unfold State.popSend
  extract_lets
  split
  · exact noneP_
  · exact someP_ h.setTask.snd

theorem scheduled {k n : Nat} (h : keeps T s t) : keepsOp T (·.2) s (t.scheduled k n) := by
  unfold State.scheduled
  extract_lets
  split
  · split
    · exact noneP_
    · split
      · exact noneP_
      next hu =>
        exact someP_ (h.popSend hu).snd
  · split
    · split
      · exact noneP_
      · exact someP_ h.setHop.snd
    · exact noneP_

theorem fill {next : State → Draft → Nat → Option (Held × State)} {bad : Nat → Bool} {k : Nat} {ns : List Nat}
    {p : Draft × State} (hn : ∀ {u : State} {d : Draft} {n : Nat}, keeps T s u → keepsOp T (·.2) s (next u d n))
    (h : keeps T s p.2) : keeps T s (State.fill next bad k ns p).2 := by
  induction ns generalizing p with
  | nil => exact h
  | cons n ns ih =>
    unfold State.fill
    split
    · exact ih h
    · next e => exact ih (hn h e).sendHeld

theorem fillSlots {k : Nat} {bad : Nat → Bool} (h : keeps T s t) : keeps T s (t.fillSlots k bad).2 := by
  unfold State.fillSlots
  extract_lets tb act hop folds d0 p1 p2
  have h1 : keeps T s p1.2 := by
    unfold p1
    split
    · exact h
    · exact fill (fun h => h.scheduled) h
  have h2 : keeps T s p2.2 := fill (fun h => h.nextRecovery) h1
  split
  · exact fill (fun h => someP_ h.bump) h
  · split
    · exact h
    · split
      · exact h2
      · refine fill (fun h => ?_) h2
        split
        · next e => exact someP_ (h.nextRecovery e)
        · exact h.nextOpen

theorem laneMsg {k : Nat} (h : keeps T s t) : keeps T s (t.laneMsg k).2 := by
  unfold State.laneMsg
  extract_lets
  split
  · exact h.snd
  · split
    · exact h.snd
    · split
      · split
        · exact h.setHop.snd
        · exact h.snd
      · exact h.snd

theorem sendFrame {k : Nat} {bad : Nat → Bool} (h : keeps T s t) : keeps T s (t.sendFrame k bad) := by
  unfold State.sendFrame
  split
  · exact h
  · extract_lets s1
    have h1 : keeps T s s1.2 := by
      unfold s1
      split
      · exact h.fillSlots
      · exact h.snd
    exact h1.laneMsg.upd

theorem takeScheduled {k : Nat} {ns : List Nat} (h : keeps T s t) : keeps T s (t.takeScheduled k ns).2 := by
  induction ns generalizing t with
  | nil => exact h
  | cons n ns ih =>
    unfold State.takeScheduled
    split
    · exact ih h
    · next e => exact ih (h.scheduled e)

theorem foldBell {k : Nat} (h : keeps T s t) : keeps T s (t.foldBell k) := by
  unfold State.foldBell
  extract_lets
  split
  · exact h
  · split
    · exact h.takeScheduled.setHop.ite h
    · exact h.ite h.setHop.showHop

theorem hopLimit {x : Sheaf} (h : keeps T s t) : keeps T s (t.hopLimit x) := by
  unfold State.hopLimit
  exact h.bump.raise

theorem place {t' : Transit} (h : keeps T s t) : keeps T s (t.place t') := by
  unfold State.place
  split
  · exact h.hopLimit
  · extract_lets _ _ _ _ s1
    have h1 : keeps T s s1 := h.bump.setHop.bump
    split
    · exact h.setHop
    · split
      · exact h.bump.setHop
      · exact h1.ite h1.bump.raise

theorem placeNext {p : Transit → Bool} (h : keeps T s t) : keeps T s (t.placeNext p) := by
  unfold State.placeNext
  split
  · exact h
  · exact h.upd.place

theorem execSheafForward_runs (s : State) : runs workParts s (execSheafForward s) := by
  unfold execSheafForward
  exact (refl s).placeNext.ok

theorem execDetourIntermediate_runs (s : State) : runs workParts s (execDetourIntermediate s) := by
  unfold execDetourIntermediate
  exact (refl s).placeNext.ok

theorem placeAll {k : Nat} (h : keeps T s t) : keeps T s (t.placeAll k) := by
  induction k generalizing t with
  | zero => exact h
  | succ k ih =>
    unfold State.placeAll
    split
    · exact h
    · exact ih h.placeNext

theorem retrainTick {k : Nat} (h : keeps T s t) : keeps T s (t.retrainTick k) := by
  unfold State.retrainTick
  exact h.ite (h.setLink.activeExit.ite h.setLink)

theorem closeBell {bad : List Nat} (h : keeps T s t) : keeps T s (t.closeBell bad) := by
  unfold State.closeBell
  exact foldl (fun _ _ h => h.setHop) (foldl (fun _ _ h => h.sendFrame.retrainTick) (foldl (fun _ _ h =>
      h.foldBell.ite h) h.placeAll.upd))

theorem declareFailing {k cause : Nat} (h : keeps T s t) : keeps T s (t.declareFailing k cause) := by
  unfold State.declareFailing
  exact h.ite h.setHop.wr.bump.raiseLink

theorem pieceAcked {own : Nat} (h : keeps T s t) : keeps T s (t.pieceAcked own) := by
  unfold State.pieceAcked
  exact h.setTask.ite h

theorem takeAcks {k : Nat} (h : keeps T s t) : keeps T s (t.takeAcks k) := by
  unfold State.takeAcks
  extract_lets _ _ _ _ _ _ _ _ _ _ _ _ s1
  have h1 : keeps T s s1 := foldl (fun _ _ h => h.pieceAcked) h.setHop.bump.bump.showHop
  exact h1.declareFailing.ite (h1.declareFailing.ite h1)

theorem nakRate {k : Nat} (h : keeps T s t) : keeps T s (t.nakRate k) := by
  unfold State.nakRate
  exact h.declareFailing.ite h

theorem dropFailing {k : Nat} (h : keeps T s t) : keeps T s (t.dropFailing k) := by
  unfold State.dropFailing
  exact h.toDetect.ite h

theorem holdTick {k : Nat} (h : keeps T s t) : keeps T s (t.holdTick k) := by
  unfold State.holdTick
  exact h.wrB.wrB.setHop.bump.ite h.wrB.wrB.setHop

theorem execHoldEpisodeCap_runs (f j : Nat) (s : State) : runs workParts s (execHoldEpisodeCap f j s) := by
  unfold execHoldEpisodeCap
  exact runs_ite (refl s).setHop.bump.ok (refl s).ok

theorem countTimeouts (h : keeps T s t) : keeps T s t.countTimeouts := by
  unfold State.countTimeouts
  exact h.ite (foldl (fun _ _ h => h.setTask.ite h) h)

theorem hopBoundary (h : keeps T s t) : keeps T s t.hopBoundary := by
  unfold State.hopBoundary
  exact (foldl (fun _ _ h => h.holdTick) (foldl (fun _ _ h => h.takeAcks.ite h) (foldl (fun _ _ h => h.dropFailing)
      h))).countTimeouts

/-! ### The operations of Machine/Land.lean -/

theorem setLand {i : Nat} {l : Landing} (h : keeps T s t) : keeps T s (t.setLand i l) := by
  unfold State.setLand
  exact h.upd

theorem resetLand {i : Nat} (h : keeps T s t) : keeps T s (t.resetLand i) := by
  unfold State.resetLand
  exact h.upd.wr

theorem deliver {i k : Nat} {l : Landing} (h : keeps T s t) : keeps T s (State.deliver i k t l) := by
  induction k generalizing t l with
  | zero => exact h.setLand
  | succ k ih =>
    unfold State.deliver
    split
    · exact h.setLand
    · refine h.setLand.ite (ih ?_)
      split
      · exact h.upd
      · exact h.bump.raise

theorem duplicate {k : Nat} (h : keeps T s t) : keeps T s (t.duplicate k) := by
  unfold State.duplicate
  exact h.bump

theorem landSheaf {k i : Nat} {le : LandEntry} {x : Sheaf} {who : Nat} (h : keeps T s t) :
    keeps T s (t.landSheaf k i le x who).2 := by
  unfold State.landSheaf
  extract_lets
  split
  · exact h.duplicate.snd
  · split
    · exact h.snd
    · exact h.granaryWrite.linePort.deliver.snd

theorem keepTransit {t' : Transit} (h : keeps T s t) : keeps T s (t.keepTransit t').2 := by
  unfold State.keepTransit
  split
  · exact h.snd
  · exact h.upd.snd

theorem actOn {t' : Map Byte} {k n e : Nat} {late noted : Bool} {x : Sheaf} (h : keeps T s t) :
    keeps T s (t.actOn t' k n e late noted x).2 := by
  unfold State.actOn
  split
  · exact h.keepTransit
  · exact h.landSheaf

theorem noEntry {x : Sheaf} (h : keeps T s t) : keeps T s (t.noEntry x) := by
  unfold State.noEntry
  exact h.bump.raise

theorem flowSheaf {t' : Map Byte} {k n : Nat} {direct : Bool} {x : Sheaf} (h : keeps T s t) :
    keeps T s (t.flowSheaf t' k n direct x).2 := by
  unfold State.flowSheaf
  extract_lets _ _ s1
  have h1 : keeps T s s1 := h.bump.raise.ite h
  split
  · exact h.actOn
  · split
    · exact h1.noEntry.snd
    · exact h1.actOn

theorem noticeRecord {code : Nat} {n : Notice} (h : keeps T s t) : keeps T s (t.noticeRecord code n) := by
  unfold State.noticeRecord
  exact h.record

theorem keepNotice {n : Notice} (h : keeps T s t) : keeps T s (t.keepNotice n) := by
  unfold State.keepNotice
  split
  · exact h.upd
  · exact h.upd.ite h.upd.noticeRecord

theorem abortArrive {from' : Nat} {x : Sheaf} (h : keeps T s t) : keeps T s (t.abortArrive from' x) := by
  unfold State.abortArrive
  extract_lets
  split
  · exact h.upd.askStop
  · exact h.upd.keepNotice.ite h.upd

theorem l0Fail {f : Nat} (h : keeps T s t) : keeps T s (t.l0Fail f) := by
  unfold State.l0Fail
  extract_lets _ _ _ _ _ s1
  have h1 : keeps T s s1 := (h.upd.ite h).bump.upd
  exact h1.upd.raise.ite h1

theorem l0Arrive {f : Nat} {x : Sheaf} (h : keeps T s t) : keeps T s (t.l0Arrive f x) := by
  unfold State.l0Arrive
  exact h.bump.ite (h.ite h.l0Fail)

theorem bgArrive {x : Sheaf} (h : keeps T s t) : keeps T s (t.bgArrive x) := by
  unfold State.bgArrive
  exact h.bump.ite h.granaryWrite.bump

theorem markApplied {x : Sheaf} (h : keeps T s t) : keeps T s (t.markApplied x) := by
  unfold State.markApplied
  exact h.upd

theorem creditArrive {k : Nat} {x : Sheaf} (h : keeps T s t) : keeps T s (t.creditArrive k x) := by
  unfold State.creditArrive
  exact h.setCredit.ite h

theorem openSheaf {k : Nat} {x : Sheaf} (h : keeps T s t) : keeps T s (t.openSheaf k x).2 := by
  unfold State.openSheaf
  split
  · exact h.creditArrive.snd
  · split
    · exact h.duplicate.snd
    · split
      · exact h.snd
      · extract_lets
        split
        · split
          · exact h.bump.abortArrive.markApplied.grantCell.snd
          · split
            · exact h.bump.bgArrive.markApplied.grantCell.snd
            · exact h.bump.upd.snd
        · split
          · exact h.bump.hopLimit.grantCell.snd
          · split
            · exact h.bump.noRoute.grantCell.snd
            · exact h.bump.upd.snd

theorem kindBad {k : Nat} {x : Sheaf} (h : keeps T s t) : keeps T s (t.kindBad k x) := by
  unfold State.kindBad
  exact h.bump.raise

theorem slotLand {set : Option (Map Byte)} {hdr : List Byte} {k n : Nat} {bytes : List Byte} (h : keeps T s t) :
    keeps T s (t.slotLand set hdr k n bytes).2 := by
  unfold State.slotLand
  extract_lets _ _ _ _ s1 s2
  have h1 : keeps T s s1 := h.bump.bump.bump.tallyInject
  have h2 : keeps T s s2 := h1.tallyNote.bump.raise
  split
  · exact h.snd
  · split
    · exact (h2.l0Fail.ite h2).snd
    · split
      · exact (h1.l0Arrive.ite h1.kindBad).snd
      · split
        · exact h1.kindBad.snd
        · split
          · exact h1.snd
          · split
            · split
              · exact h1.keepTransit
              · split
                · exact h1.flowSheaf
                · exact h1.openSheaf
            · split
              · exact h1.flowSheaf
              · exact h1.openSheaf

theorem announce {hdr : List Byte} (h : keeps T s t) : keeps T s (t.announce hdr) := by
  unfold State.announce
  exact h.ite (h.ite h.wr.wr.wr.wr.record)

theorem queueMsg {k : Nat} {m : LaneMsg} (h : keeps T s t) : keeps T s (t.queueMsg k m) := by
  unfold State.queueMsg
  exact h.setHop

theorem sendFence {k kind flow seq origin tag : Nat} (h : keeps T s t) :
    keeps T s (t.sendFence k kind flow seq origin tag) := by
  unfold State.sendFence
  extract_lets s1
  have h1 : keeps T s s1 := h.bump.ite h.bump
  split
  · exact h1.queueMsg.ite h1.queueMsg
  · exact h1.queueMsg

theorem tryMark {m : Mark} (h : keeps T s t) : keeps T s (t.tryMark m) := by
  unfold State.tryMark
  extract_lets put
  have hp : ∀ u d, keeps T s u → keeps T s (put u d) := fun _ _ h => h.upd
  clear_value put
  split
  · exact h
  · split
    · exact h
    · split
      · refine h.ite (hp _ _ ?_)
        exact h.sendFence
      · extract_lets
        split
        · refine hp _ _ ?_
          exact h.sendFence
        · exact h

theorem pushMarks (h : keeps T s t) : keeps T s t.pushMarks := by
  unfold State.pushMarks
  exact foldl (fun _ _ h => h.tryMark) h

theorem fenceGot {flow tag : Nat} (h : keeps T s t) : keeps T s (t.fenceGot flow tag) := by
  unfold State.fenceGot
  exact foldl (fun _ _ h => h.setTask.ite h) h

theorem fenceArrive {k : Nat} {m : List Byte} (h : keeps T s t) : keeps T s (t.fenceArrive k m) := by
  unfold State.fenceArrive
  extract_lets
  split
  · exact h.queueMsg
  · split
    · exact h.upd.pushMarks
    · split
      · exact h.fenceGot
      · split
        · exact h
        · exact h.upd.sendFence

theorem catchUp {v : Nat} (h : keeps T s t) : keeps T s (t.catchUp v) := by
  unfold State.catchUp
  exact h.wr.wr.setSwap.raise.ite h

theorem versionMiss {k v : Nat} (h : keeps T s t) : keeps T s (t.versionMiss k v) := by
  unfold State.versionMiss
  exact h.wr.wr.wr.wr.bump.raise

theorem hearAck {k : Nat} {b : List Byte} (h : keeps T s t) : keeps T s (t.hearAck k b) := by
  unfold State.hearAck
  exact h.ite h.setHop.nakRate

theorem slotsLand {set : Option (Map Byte)} {hdr : List Byte} {k : Nat} {slots : List (List Byte)} {ns : List Nat}
    {p : Nat × Nat × State} (h : keeps T s p.2.2) : keeps T s (State.slotsLand set hdr k slots ns p).2.2 := by
  induction ns generalizing p with
  | nil => exact h
  | cons n ns ih =>
    unfold State.slotsLand
    refine ih ?_
    split
    · exact h.slotLand
    · exact h.slotLand

theorem fillsLand {k : Nat} {fr : RxFrame} (h : keeps T s t) : keeps T s (t.fillsLand k fr).2.2 := by
  unfold State.fillsLand
  extract_lets
  split
  · exact h.sndSnd
  · exact slotsLand (h.versionMiss.ite h)

theorem headerTime {k : Nat} {fr : RxFrame} (h : keeps T s t) : keeps T s (t.headerTime k fr) := by
  unfold State.headerTime
  exact h.hearTime.measure.seeRoot

theorem activeLand {k : Nat} {fr : RxFrame} {hok : Bool} (h : keeps T s t) : keeps T s (t.activeLand k fr hok) := by
  unfold State.activeLand
  extract_lets _ _ _ _ _ _ _ _ _ s1 s2 _ _ _ _ _ s3
  have h1 : keeps T s s1 := h.setLink.wr.wr.ite h.setLink
  have h2 : keeps T s s2 := h1.hearAck.ite (h1.hearAck.ite h1)
  have h3 : keeps T s s3 := h2.fillsLand.setHop.announce
  split
  · exact h.activeExit
  · exact h.activeExit.ite (h2.setHop.ite (h3.fenceArrive.ite h3))

theorem laterLand {k : Nat} {fr : RxFrame} {hok : Bool} (h : keeps T s t) : keeps T s (t.laterLand k fr hok) := by
  unfold State.laterLand
  extract_lets _ _ _ _ _ _ _ _ s1 s2
  have h1 : keeps T s s1 := h.setLink.setLane.headerTime
  have h2 : keeps T s s2 := h1.wr.wr.catchUp
  split
  · exact h.activeLand.ite h
  · exact h1.activeExit.ite (h2.activeExit.ite (h2.activeLand.ite h2))

theorem execFrameLand_runs (f j : Nat) (frame : RxFrame) (s : State) :
    runs workParts s (execFrameLand f j frame s) := by
  unfold execFrameLand
  extract_lets _ _ _ s1 s2 _ _ _ s3 _ _ s4 _ s5 s6
  have h1 : keeps False s s1.2 := by
    unfold s1
    split
    · exact (refl s).injectUse
    · exact (refl s).snd
  have h2 : keeps False s s2.2 := by
    unfold s2
    split
    · exact h1.injectUse
    · exact h1.snd
  have h3 : keeps False s s3 := h2.bump.addSat.line
  have h4 : keeps False s s4 := (h3.ite h3.bump.addSat.raise).setLink
  have h5 : keeps False s s5 := h4.ite h4.bump.raise
  have h6 : keeps False s s6 := h5.wr.ite h5
  split
  · exact (refl s).ok
  · exact runs_ite (runs_ite h6.activeExit.ok h6.setLink.ok) h6.laterLand.ok

/-! ### The operations of Machine/Background.lean -/

theorem setBank {n : Nat} {b : BgBank} (h : keeps T s t) : keeps T s (t.setBank n b) := by
  unfold State.setBank
  exact h.upd

theorem startCopy {n : Nat} (h : keeps T s t) : keeps T s (t.startCopy n) := by
  unfold State.startCopy
  extract_lets
  split
  · split
    · exact h.setBank.bump
    · exact h.setBank
  · exact h

theorem rowErrors {n row fixed : Nat} (h : keeps T s t) : keeps T s (t.rowErrors n row fixed) := by
  unfold State.rowErrors
  exact h.setBank.setBank.startCopy.ite h.setBank

theorem scrubBad {a : Nat} {inj : Bool} (h : keeps T s t) : keeps T s (t.scrubBad a inj) := by
  unfold State.scrubBad
  exact h.granaryNote.poisonLine.raise

theorem execScrubSlot_runs (bank fixed : Nat) (bad : Bool) (s : State) :
    runs workParts s (execScrubSlot bank fixed bad s) := by
  unfold execScrubSlot
  extract_lets _ _ _ _ _ s1 s2 _ s3
  have h1 : keeps False s s1 := (refl s).setBank.bump
  have h2 : keeps False s s2.2 := by
    unfold s2
    split
    · exact h1.injectUse.snd
    · exact h1.snd
  have h3 : keeps False s s3 := h2.scrubBad.ite (h2.ite h2.granaryNote.bump.raise.rowErrors)
  exact runs_ite (refl s).ok (h3.setBank.ite h3).ok

theorem bistDone (h : keeps T s t) : keeps T s t.bistDone := by
  unfold State.bistDone
  exact (foldl (fun _ _ h => h.setBank) h.upd.calibEnd).ite h

theorem execSpareBistSlot_runs (bank : Nat) (good : Bool) (s : State) :
    runs workParts s (execSpareBistSlot bank good s) := by
  unfold execSpareBistSlot
  extract_lets
  split
  · exact (refl s).ok
  · exact runs_ite (refl s).bump.setBank.bistDone.ok (refl s).bump.setBank.upd.raise.bistDone.ok

theorem execRemapCopySlot_runs (bank : Nat) (ecc : EccResult) (s : State) :
    runs workParts s (execRemapCopySlot bank ecc s) := by
  unfold execRemapCopySlot
  extract_lets
  split
  · exact (refl s).ok
  · exact runs_ite (refl s).ok (refl s).setBank.granaryCheck.ok

theorem execRemapSwitch_runs (bank : Nat) (s : State) : runs workParts s (execRemapSwitch bank s) := by
  unfold execRemapSwitch
  extract_lets
  split
  · exact (refl s).ok
  · exact runs_ite (refl s).setBank.bump.raise.startCopy.ok (refl s).ok

theorem beginDither (h : keeps T s t) : keeps T s t.beginDither := by
  unfold State.beginDither
  exact h.ite (h.upd.ite (h.upd.ite h))

theorem ditherTick (h : keeps T s t) : keeps T s t.ditherTick := by
  unfold State.ditherTick
  exact (h.upd.ite h).beginDither

theorem ditherNext {p : DitherPass} {rest : List Nat} (h : keeps T s t) : keeps T s (t.ditherNext p rest) := by
  unfold State.ditherNext
  exact (h.upd.bump.calibEnd.ite h.upd.bump).beginDither.ite h.upd

theorem takeEta {h' : Nat} {new : Int} (h : keeps T s t) : keeps T s (t.takeEta h' new).2 := by
  unfold State.takeEta
  extract_lets
  split
  · exact h.snd
  · split
    · exact h.upd.snd
    · exact h.snd

theorem execDitherCalPass_runs (f : Nat) (etas : List (Nat × Int)) (s : State) :
    runs workParts s (execDitherCalPass f etas s) := by
  unfold execDitherCalPass
  split
  · exact (refl s).ok
  · split
    · exact (refl s).ok
    · split
      · exact (refl s).ok
      · extract_lets s1
        have h1 : keeps False s s1.2 := by
          unfold s1
          refine foldlSnd (fun _ _ h => ?_) (refl s).snd
          split
          · extract_lets
            split
            · exact h.takeEta.raise.snd
            · exact h.takeEta.snd
          · exact h
        exact h1.ditherNext.ok

theorem execBgSheafReceive_runs (link : Nat) (sheaf : Sheaf) (s : State) :
    runs workParts s (execBgSheafReceive link sheaf s) := by
  unfold execBgSheafReceive
  split
  · exact (refl s).ok
  · exact runs_ite (refl s).l0Arrive.ok (runs_ite (refl s).bgArrive.ok (refl s).ok)

theorem ageReset {v : Nat} (h : keeps T s t) : keeps T s (t.ageReset v) := by
  unfold State.ageReset
  exact h.upd

theorem execTelemAgeReset_runs (val : Word) (s : State) : runs workParts s (execTelemAgeReset val s) := by
  unfold execTelemAgeReset
  exact (refl s).ageReset.ok

theorem accept {kind : Nat} (h : keeps T s t) : keeps T s (t.accept kind) := by
  unfold State.accept
  exact h.wr.wr.bump

theorem calibRequest {v : Nat} (h : keeps T s t) : keeps T s (t.calibRequest v) := by
  unfold State.calibRequest
  extract_lets
  split
  · exact h.wr
  · split
    · exact h.wr.wr.accept.upd.beginDither
    · exact h.wr.wr.accept.upd.ite ((h.wr.wr.accept.ite h.wr.wr.accept.upd).ite h.wr.wr.upd)

theorem execCalibDitherCal_runs (val : Word) (s : State) : runs workParts s (execCalibDitherCal val s) := by
  unfold execCalibDitherCal
  exact (refl s).calibRequest.ok

theorem execCalibL0Check_runs (val : Word) (s : State) : runs workParts s (execCalibL0Check val s) := by
  unfold execCalibL0Check
  exact (refl s).calibRequest.ok

theorem execCalibSpareBist_runs (val : Word) (s : State) : runs workParts s (execCalibSpareBist val s) := by
  unfold execCalibSpareBist
  exact (refl s).calibRequest.ok

theorem execCalibFerryRelock_runs (val : Word) (s : State) : runs workParts s (execCalibFerryRelock val s) := by
  unfold execCalibFerryRelock
  exact (refl s).calibRequest.ok

theorem execCalibLaneBist_runs (val : Word) (s : State) : runs workParts s (execCalibLaneBist val s) := by
  unfold execCalibLaneBist
  exact (refl s).calibRequest.ok

theorem execCalibReqBad_runs (val : Word) (s : State) : runs workParts s (execCalibReqBad val s) := by
  unfold execCalibReqBad
  exact (refl s).calibRequest.ok

theorem execCalibL0CheckEnd_runs (s : State) : runs workParts s (execCalibL0CheckEnd s) := by
  unfold execCalibL0CheckEnd
  exact runs_ite (refl s).upd.calibEnd.ok (refl s).ok

theorem startRelock {f : Nat} (h : keeps T s t) : keeps T s (t.startRelock f) := by
  unfold State.startRelock
  exact (foldl (fun _ _ h => h.toDetect) h.clearRelock).loopsOff.upd.sweepNext

theorem startBist {f : Nat} (h : keeps T s t) : keeps T s (t.startBist f) := by
  unfold State.startBist
  extract_lets _ _ _ _ s1
  have h1 : keeps T s s1 := (foldl (fun _ _ h => h.toDetect) h).upd
  exact h1.upd.calibEnd.ite h1

theorem decideCalib (h : keeps T s t) : keeps T s t.decideCalib := by
  unfold State.decideCalib
  exact foldl (fun _ _ h => (h.accept.wr.upd.startRelock.ite h.accept.wr.upd.startBist).ite h.wr.bump) h.upd

theorem execLaneBistEnd_runs (f j : Nat) (errors : Option Nat) (s : State) :
    runs workParts s (execLaneBistEnd f j errors s) := by
  unfold execLaneBistEnd
  extract_lets
  split
  · exact (refl s).ok
  · extract_lets _ _ _ s1
    have h1 : keeps False s s1 := (refl s).upd.toDetect
    exact runs_ite (refl s).ok (h1.calibEnd.ite h1).ok

theorem l0Tick (h : keeps T s t) : keeps T s t.l0Tick := by
  unfold State.l0Tick
  exact h.ite h.upd

/-! ### The operations of Machine/Alarm.lean -/

theorem execErrorOccurrence_runs (page code : Nat) (tag : EntryTag) (injected prefetch : Bool) (detail : Nat)
    (s : State) : runs workParts s (execErrorOccurrence page code tag injected prefetch detail s) := by
  unfold execErrorOccurrence
  exact runs_ite (refl s).raise.ok (refl s).ok

theorem execAlarmNMinimumEnd_runs (s : State) : runs workParts s (execAlarmNMinimumEnd s) := by
  unfold execAlarmNMinimumEnd
  exact runs_ite (refl s).wr.alarmTryRelease.ok (refl s).ok

theorem alarmAskRelease (h : keeps T s t) : keeps T s t.alarmAskRelease := by
  unfold State.alarmAskRelease
  exact h.ite (h.upd.wr.ite h.upd.alarmTryRelease)

theorem execAlarmRelease_runs (s : State) : runs workParts s (execAlarmRelease s) := by
  unfold execAlarmRelease
  exact (refl s).alarmAskRelease.ok

theorem writeAlarmCtrl {v : Nat} (h : keeps T s t) : keeps T s (t.writeAlarmCtrl v) := by
  unfold State.writeAlarmCtrl
  exact (h.wrB.wrB.wr.ite (h.wrB.wrB.alarmDrive.ite h.wrB.wrB)).alarmTryRelease

theorem pinDriven {level : Bool} (h : keeps T s t) : keeps T s (t.pinDriven level) := by
  unfold State.pinDriven
  exact h.ite (h.upd.ite (h.upd.upd.raise.ite h.upd))

theorem pinFree {level : Bool} (h : keeps T s t) : keeps T s (t.pinFree level) := by
  unfold State.pinFree
  exact h.ite (h.wr.upd.ite (h.wr.bump.upd.upd.bump.raise.ite h.wr.bump.upd))

theorem execAlarmPinSample_runs (level : Bool) (s : State) : runs workParts s (execAlarmPinSample level s) := by
  unfold execAlarmPinSample
  exact ((refl s).wrB.pinDriven.ite (refl s).wrB.pinFree).ok

theorem writeAlarmReset {v : Nat} (h : keeps T s t) : keeps T s (t.writeAlarmReset v) := by
  unfold State.writeAlarmReset
  exact h.wr.wr.ite h.wr

theorem execAlarmResetClear_runs (s : State) : runs workParts s (execAlarmResetClear s) := by
  unfold execAlarmResetClear
  exact (refl s).wr.ok

theorem clearSummary {v : Nat} (h : keeps T s t) : keeps T s (t.clearSummary v) := by
  unfold State.clearSummary
  exact h.wr

theorem execAlarmSummaryClear_runs (val : Word) (s : State) : runs workParts s (execAlarmSummaryClear val s) := by
  unfold execAlarmSummaryClear
  exact (refl s).clearSummary.ok

theorem takeSeq {e : Entry} (h : keeps T s t) : keeps T s (t.takeSeq e).2 := by
  unfold State.takeSeq
  exact h.wr.snd

theorem gaspPut {e : Entry} (h : keeps T s t) : keeps T s (t.gaspPut e) := by
  unfold State.gaspPut
  exact h.upd.bump.ite h.bump

theorem gaspNew {e : Entry} (h : keeps T s t) : keeps T s (t.gaspNew e) := by
  unfold State.gaspNew
  exact h.takeSeq.gaspPut.ite h.gaspPut

theorem ledgerFail {i : Nat} {moved : Option Entry} {injected : Bool} (h : keeps T s t) :
    keeps T s (t.ledgerFail i moved injected) := by
  unfold State.ledgerFail
  extract_lets _ _ _ s1
  have h1 : keeps T s s1 := h.wr.wr.wr.markErr.upd.gaspNew
  split
  · exact h1
  · exact h1.gaspPut

theorem ledgerCe (h : keeps T s t) : keeps T s t.ledgerCe := by
  unfold State.ledgerCe
  exact h.bump.raise

theorem ledgerWrite {e : Entry} {verify : EccResult} (h : keeps T s t) : keeps T s (t.ledgerWrite e verify) := by
  unfold State.ledgerWrite
  split
  · exact h.gaspNew
  · split
    · exact h.bump.wr
    · extract_lets _ _ _ _ _ s1 s2
      have h1 : keeps T s s1.2 := h.takeSeq.upd.injectUse
      have h2 : keeps T s s2 := h1.wr.bump
      exact h1.ledgerFail.ite (h2.ledgerCe.ite h2)

theorem execLedgerEntryWrite_runs (verify : EccResult) (s : State) :
    runs workParts s (execLedgerEntryWrite verify s) := by
  unfold execLedgerEntryWrite
  split
  · exact (refl s).ok
  · next e rest hq =>
    have hl (ov : Bool) : keeps False s { s with ledger := { s.ledger with queue := rest, overflow := ov } } :=
      (refl s).step fun i => ⟨i.regs, i.granary, i.scratch, i.bell, by have := i.queue; simp_all; omega⟩
    exact (hl _).ledgerWrite.ok

theorem writeRp {v : Nat} (h : keeps T s t) : keeps T s (t.writeRp v) := by
  unfold State.writeRp
  exact h.wr.ite h.wr.wr

theorem execLedgerRpWrite_runs (val : Word) (s : State) : runs workParts s (execLedgerRpWrite val s) := by
  unfold execLedgerRpWrite
  exact (refl s).writeRp.ok

theorem ledgerBist (h : keeps T s t) : keeps T s t.ledgerBist := by
  unfold State.ledgerBist
  exact h.wr.bump.ite h

theorem execLedgerBist_runs (s : State) : runs workParts s (execLedgerBist s) := by
  unfold execLedgerBist
  exact (refl s).ledgerBist.ok

theorem execLedgerBistDone_runs (pass : Bool) (s : State) : runs workParts s (execLedgerBistDone pass s) := by
  unfold execLedgerBistDone
  exact runs_ite (refl s).wr.wrB.ok (refl s).ok

theorem ledgerRearm {v : Nat} {verify : EccResult} (h : keeps T s t) : keeps T s (t.ledgerRearm v verify) := by
  unfold State.ledgerRearm
  exact h.ite (foldl (fun _ _ h => h.wr) h).upd.ledgerWrite

theorem execLedgerRearm_runs (val : Word) (verify : EccResult) (s : State) :
    runs workParts s (execLedgerRearm val verify s) := by
  unfold execLedgerRearm
  exact (refl s).ledgerRearm.ok

theorem gaspClear (h : keeps T s t) : keeps T s t.gaspClear := by
  unfold State.gaspClear
  exact h.ite h.upd

theorem execGaspClear_runs (s : State) : runs workParts s (execGaspClear s) := by
  unfold execGaspClear
  exact (refl s).gaspClear.ok

theorem writeLedgerCtrl {v : Nat} (h : keeps T s t) : keeps T s (t.writeLedgerCtrl v) := by
  unfold State.writeLedgerCtrl
  extract_lets _ s1 s2
  have h1 : keeps T s s1 := h.wrB.wr.ite h.wrB
  have h2 : keeps T s s2 := h1.ledgerBist.ite h1
  exact h2.gaspClear.ite h2

theorem execLedgerWrapWrite_runs (val : Word) (s : State) : runs workParts s (execLedgerWrapWrite val s) := by
  unfold execLedgerWrapWrite
  exact (refl s).writeLedgerCtrl.ok

/-! ### The operations of Machine/Rings.lean -/

theorem notice' {code tag detail : Nat} (h : keeps T s t) : keeps T s (t.notice' code tag detail) := by
  unfold State.notice'
  exact h.upd

theorem ringBad (h : keeps T s t) : keeps T s t.ringBad := by
  unfold State.ringBad
  exact h.raise

theorem ringFault {reason entry : Nat} (h : keeps T s t) : keeps T s (t.ringFault reason entry) := by
  unfold State.ringFault
  exact h.ite h.wr.wr.wr.raise.notice'

theorem fetchAhead (h : keeps T s t) : keeps T s t.fetchAhead := by
  unfold State.fetchAhead
  exact foldl (fun _ _ h => h.ite (h.hostRead.upd.ite h.hostRead.ringFault)) h

theorem descriptorArrive {e : Nat} {d : List Byte} (h : keeps T s t) : keeps T s (t.descriptorArrive e d) := by
  unfold State.descriptorArrive
  exact h.upd.bump

theorem execDescriptorRead_runs (entry : Nat) (desc : List Byte) (s : State) :
    runs workParts s (execDescriptorRead entry desc s) := by
  unfold execDescriptorRead
  split
  · exact (refl s).ok
  · exact runs_ite (refl s).upd.memProgress.descriptorArrive.ok (refl s).ok

theorem execRingFault_runs (reason entry : Nat) (s : State) : runs workParts s (execRingFault reason entry s) := by
  unfold execRingFault
  exact runs_ite (refl s).ok ((refl s).upd.ite ((refl s).upd.ite (refl s))).ringFault.ok

theorem eventDone {vector : Option Nat} (h : keeps T s t) : keeps T s (t.eventDone vector) := by
  unfold State.eventDone
  extract_lets
  split
  · exact h.wr.wr.bump
  · exact h.wr.wr.bump.upd

theorem eventOut {before : State} {e : Nat} {d : List Byte} (h : keeps T s t) :
    keeps T s (t.eventOut before e d) := h.upd

theorem postEvent {tag op status slot progress detail result : Nat} {late : Bool} {vector : Option Nat}
    (h : keeps T s t) : keeps T s (t.postEvent tag op status slot progress detail result late vector) := by
  unfold State.postEvent
  exact h.hostWrite.eventOut.eventDone.ite h.hostWrite.upd.ringFault

theorem postRetired {d : List Byte} {status detail : Nat} (h : keeps T s t) :
    keeps T s (t.postRetired d status detail) := by
  unfold State.postRetired
  exact h.postEvent

theorem freeSlot {n : Nat} (h : keeps T s t) : keeps T s (t.freeSlot n) := by
  unfold State.freeSlot
  exact foldl (fun _ _ h => h.wr.ite h) h.setTask.upd

theorem completeSlot {n : Nat} (h : keeps T s t) : keeps T s (t.completeSlot n) := by
  unfold State.completeSlot
  exact h.ite (h.freeSlot.ite (h.ite (h.postEvent.freeSlot.ite h.postEvent)))

theorem allEvents (h : keeps T s t) : keeps T s t.allEvents := by
  unfold State.allEvents
  exact foldl (fun _ _ h => h.ite (h.upd.ite (h.ite h.upd.postRetired))) h

theorem writeNotices (h : keeps T s t) : keeps T s t.writeNotices := by
  unfold State.writeNotices
  exact foldl (fun _ _ h => h.upd.ite (h.bump.raise.ite h.postEvent)) h.upd

theorem interrupt {v : Nat} (h : keeps T s t) : keeps T s (t.interrupt v) := by
  unfold State.interrupt
  exact h.bump.ite h.sendMsg.bump

theorem sendMarks (h : keeps T s t) : keeps T s t.sendMarks := by
  unfold State.sendMarks
  exact foldl (fun _ _ h => (h.wr.ite h.wr.interrupt).ite h) (foldl (fun _ _ h => h.wr.ite h.interrupt) h.upd.bump)

theorem execIrqMaskWrite_runs (val : Word) (s : State) : runs workParts s (execIrqMaskWrite val s) := by
  unfold execIrqMaskWrite
  exact (refl s).wr.ok

theorem cmdEnable (h : keeps T s t) : keeps T s t.cmdEnable := by
  unfold State.cmdEnable
  exact (foldl (fun _ _ h => h.wr) h.wr.upd).upd.ite h.wr.upd

theorem execCmdEnable_runs (s : State) : runs workParts s (execCmdEnable s) := by
  unfold execCmdEnable
  exact (refl s).cmdEnable.ok

theorem cmdDisable (h : keeps T s t) : keeps T s t.cmdDisable := by
  unfold State.cmdDisable
  exact h.wr.upd

theorem execCmdDisable_runs (s : State) : runs workParts s (execCmdDisable s) := by
  unfold execCmdDisable
  exact (refl s).cmdDisable.ok

theorem ringRegister {off v : Nat} (h : keeps T s t) : keeps T s (t.ringRegister off v) := by
  unfold State.ringRegister
  split
  · exact h
  · exact h.ringBad.ite (h.wr.ite (h.wr.ite (h.wr.ite (h.wr.ite (h.wr.ite h.wr)))))

theorem execRingRegisterWrite_runs (off : Nat) (val : Word) (s : State) :
    runs workParts s (execRingRegisterWrite off val s) := by
  unfold execRingRegisterWrite
  exact (refl s).ringRegister.ok

theorem writeTail {v : Nat} (h : keeps T s t) : keeps T s (t.writeTail v) := by
  unfold State.writeTail
  exact h.wr.fetchAhead.ite h.ringBad

theorem execCmdTailWrite_runs (val : Word) (s : State) : runs workParts s (execCmdTailWrite val s) := by
  unfold execCmdTailWrite
  exact (refl s).writeTail.ok

theorem writeEvtHead {v : Nat} (h : keeps T s t) : keeps T s (t.writeEvtHead v) := by
  unfold State.writeEvtHead
  exact h.wr.ite h.ringBad

theorem execEvtHeadWrite_runs (val : Word) (s : State) : runs workParts s (execEvtHeadWrite val s) := by
  unfold execEvtHeadWrite
  exact (refl s).writeEvtHead.ok

theorem retryEvent {e : Nat} {d : List Byte} (h : keeps T s t) : keeps T s (t.retryEvent e d) := by
  unfold State.retryEvent
  extract_lets _ r _ _ s1 _ _ s2
  have hr : keeps T s r.2 := h.hostWrite
  have h1 : keeps T s s1 := hr.eventOut
  have h2 : keeps T s s2 := h1.eventDone
  exact h.upd.ite (hr.upd.ringFault.ite (h1.ite (h2.freeSlot.ite h2)))

theorem ringResume (h : keeps T s t) : keeps T s t.ringResume := by
  unfold State.ringResume
  exact h.ite (foldl (fun _ _ h => h.retryEvent) h.wr.upd).fetchAhead

theorem execCmdResume_runs (s : State) : runs workParts s (execCmdResume s) := by
  unfold execCmdResume
  exact (refl s).ringResume.ok

theorem breakResume (h : keeps T s t) : keeps T s t.breakResume := by
  unfold State.breakResume
  exact h.wr.upd.ite h

theorem execCmdBreakResume_runs (s : State) : runs workParts s (execCmdBreakResume s) := by
  unfold execCmdBreakResume
  exact (refl s).breakResume.ok

theorem writeCancel {tag : Nat} (h : keeps T s t) : keeps T s (t.writeCancel tag) := by
  unfold State.writeCancel
  exact h.upd.bump.ite h.raise.notice'

theorem execCmdCancelWrite_runs (tag : Word) (s : State) : runs workParts s (execCmdCancelWrite tag s) := by
  unfold execCmdCancelWrite
  exact (refl s).writeCancel.ok

theorem execCancelExpired_runs (tag : Word) (s : State) : runs workParts s (execCancelExpired tag s) := by
  unfold execCancelExpired
  split
  · exact (refl s).ok
  · exact (refl s).upd.bump.notice'.ok

theorem fenceFlows {n : Nat} (h : keeps T s t) : keeps T s (t.fenceFlows n).2 := by
  unfold State.fenceFlows
  exact (foldl (fun _ _ h => h.setTask) h).snd

theorem swapStart {n : Nat} (h : keeps T s t) : keeps T s (t.swapStart n) := by
  unfold State.swapStart
  extract_lets _ s1
  have h1 : keeps T s s1 := h.writeSwapBell.writeSwapBell.writeSwap
  exact h.finish.ite (h1.setTask.ite h1.finish)

theorem sourceStart {n : Nat} (h : keeps T s t) : keeps T s (t.sourceStart n) := by
  unfold State.sourceStart
  exact h.windowFault.finish.ite h

theorem groupStart {n : Nat} (h : keeps T s t) : keeps T s (t.groupStart n) := by
  unfold State.groupStart
  extract_lets
  split
  · exact h.upd.setTask
  · exact h.upd.setTask.upd.askStop

theorem startTask {n : Nat} (h : keeps T s t) : keeps T s (t.startTask n) := by
  unfold State.startTask
  extract_lets
  split
  · exact h.setTask.bump.sourceStart
  · exact h.setTask.bump.sourceStart
  · exact h.setTask.bump.finish.ite h.setTask.bump.fenceFlows.setTask
  · exact h.setTask.bump.swapStart
  · exact h.setTask.bump.groupStart
  · exact h.setTask.bump.groupStart
  · exact h.setTask.bump.groupStart
  · exact h.setTask.bump

theorem execTaskStart_runs (slot : Nat) (s : State) : runs workParts s (execTaskStart slot s) := by
  unfold execTaskStart
  exact runs_ite (refl s).startTask.ok (refl s).ok

theorem advanceHead (h : keeps T s t) : keeps T s t.advanceHead := by
  unfold State.advanceHead
  exact h.wr.upd

theorem retire {d : List Byte} {status detail : Nat} (h : keeps T s t) : keeps T s (t.retire d status detail) := by
  unfold State.retire
  extract_lets s1
  have h1 : keeps T s s1 := h.bump.postRetired
  exact h1.raise.ite (h1.raise.ite h1)

theorem retireCancelled {d : List Byte} (h : keeps T s t) : keeps T s (t.retireCancelled d) := by
  unfold State.retireCancelled
  exact h.upd.bump.retire

theorem cancelSlot {n : Nat} (h : keeps T s t) : keeps T s (t.cancelSlot n) := by
  unfold State.cancelSlot
  exact h.setTask.ite h.askStop

theorem admitCancelAll {d : List Byte} (h : keeps T s t) : keeps T s (t.admitCancelAll d) := by
  unfold State.admitCancelAll
  extract_lets _ s1
  have h1 : keeps T s s1 := (foldl (fun _ _ h => h.cancelSlot) h).bump
  exact (h1.postRetired.ite h1).ite h1.upd

theorem admitTask {n : Nat} {d : List Byte} (h : keeps T s t) : keeps T s (t.admitTask n d) := by
  unfold State.admitTask
  extract_lets _ _ _ s1
  have h1 : keeps T s s1 := h.setTask.bump.upd
  exact h1.startTask.ite h1

theorem admitOne (h : keeps T s t) : keeps T s t.admitOne.2 := by
  unfold State.admitOne
  split
  · exact h.snd
  · split
    · exact h.snd
    · split
      · exact h.wr.notice'.snd
      · split
        · split
          · exact h.snd
          · exact h.retireCancelled.advanceHead.snd
        · split
          · split
            · exact h.snd
            · exact h.retire.advanceHead.snd
          · split
            · split
              · exact h.snd
              · exact (h.bump.postRetired.ite h.bump).advanceHead.snd
            · split
              · split
                · exact h.snd
                · exact h.admitCancelAll.advanceHead.snd
              · split
                · exact h.wr.bump.snd
                · exact h.admitTask.advanceHead.snd

theorem admitLoop {k : Nat} (h : keeps T s t) : keeps T s (t.admitLoop k) := by
  induction k generalizing t with
  | zero => exact h
  | succ k ih =>
    unfold State.admitLoop
    exact (ih h.admitOne).ite h.admitOne

theorem execOpNop_runs (s : State) : runs workParts s (execOpNop s) := by
  unfold execOpNop
  split
  · exact runs_ite (refl s).admitOne.ok (refl s).ok
  · exact (refl s).ok

theorem execOpCancelAll_runs (s : State) : runs workParts s (execOpCancelAll s) := by
  unfold execOpCancelAll
  split
  · exact runs_ite (refl s).admitOne.ok (refl s).ok
  · exact (refl s).ok

theorem cancelTag {tag : Nat} (h : keeps T s t) : keeps T s (t.cancelTag tag) := by
  unfold State.cancelTag
  exact h.ite (foldl (fun _ _ h => h.cancelSlot) h).bump.upd

theorem ageCancels (h : keeps T s t) : keeps T s t.ageCancels := by
  unfold State.ageCancels
  exact h.upd

theorem admission (h : keeps T s t) : keeps T s t.admission := by
  unfold State.admission
  extract_lets _ _ _ _ _ _ s1
  have h1 : keeps T s s1 := (foldl (fun _ _ h => h.completeSlot) (foldl (fun _ _ h => h.cancelTag)
      h.upd.wrB.wr)).allEvents.admitLoop.writeNotices.sendMarks.ageCancels.wrB
  exact h.upd.sendMarks.ite (h1.bump.ite h1).fetchAhead

/-! ### The operations of Machine/Reset.lean -/

theorem keepFields {old : State} {fs : List Fld} (h : keeps T s t) : keeps T s (t.keepFields old fs) := by
  unfold State.keepFields
  exact foldl (fun _ _ h => h.wr) h

theorem coldReset (h : keeps False s t) : keeps False s t.coldReset := by
  unfold State.coldReset
  extract_lets _ _ _ s1
  have h1 : keeps False s s1 := h.setTime fun _ => ⟨rfl, rfl, rfl, Nat.two_pow_pos 48, Nat.zero_le _⟩
  exact h1.keepFields.newNonce

theorem execColdReset_runs (s : State) : runs workParts s (execColdReset s) := by
  unfold execColdReset
  exact (refl s).coldReset.ok

theorem warmCore (h : keeps False s t) : keeps False s t.warmCore := by
  unfold State.warmCore
  extract_lets _ _ _ _ s1
  have h1 : keeps False s s1 := h.setTime fun i => ⟨mapSorted_filter _ i.regs, rfl, i.scratch, Nat.two_pow_pos 48,
      i.queue⟩
  exact h1.keepFields.wr

theorem warmReset {c : ResetCause} (h : keeps False s t) : keeps False s (t.warmReset c) := by
  unfold State.warmReset
  extract_lets s1
  have h1 : keeps False s s1 := h.warmCore.bump.wr.newNonce
  exact h1.bump.ite h1

theorem restart (h : keeps T s t) : keeps T s t.restart := by
  unfold State.restart
  exact h.beginStart.ite h

theorem execPwrOkLow_runs (s : State) : runs workParts s (execPwrOkLow s) := by
  unfold execPwrOkLow
  exact runs_ite (refl s).upd.warmReset.wr.ok (refl s).ok

theorem execPwrOkHigh_runs (s : State) : runs workParts s (execPwrOkHigh s) := by
  unfold execPwrOkHigh
  exact (refl s).upd.wr.restart.ok

theorem execResetNAssert_runs (s : State) : runs workParts s (execResetNAssert s) := by
  unfold execResetNAssert
  exact runs_ite (refl s).upd.warmReset.ok (refl s).ok

theorem execWarmReset_runs (cause : ResetCause) (s : State) : runs workParts s (execWarmReset cause s) := by
  unfold execWarmReset
  exact (refl s).warmReset.restart.ok

theorem execTestEnHigh_runs (s : State) : runs workParts s (execTestEnHigh s) := by
  unfold execTestEnHigh
  exact runs_ite (refl s).ok (refl s).warmCore.upd.ok

theorem execTestEnLow_runs (s : State) : runs workParts s (execTestEnLow s) := by
  unfold execTestEnLow
  exact (refl s).upd.restart.ok

theorem execVddHtrLost_runs (s : State) : runs workParts s (execVddHtrLost s) := by
  unfold execVddHtrLost
  exact (foldl (fun _ _ h => h.clearRelock) (refl s).wr.wr).raise.ok

theorem execVddHtrReturn_runs (s : State) : runs workParts s (execVddHtrReturn s) := by
  unfold execVddHtrReturn
  exact (refl s).wr.ok

theorem writeTopReset {v : Nat} (h : keeps False s t) : keeps False s (t.writeTopReset v) := by
  unfold State.writeTopReset
  exact h.raise.ite (h.warmReset.restart.ite (h.upd.ite h))

theorem execTopResetWarm_runs (val : Word) (s : State) : runs workParts s (execTopResetWarm val s) := by
  unfold execTopResetWarm
  exact (refl s).writeTopReset.ok

theorem execTopResetFunction_runs (val : Word) (s : State) : runs workParts s (execTopResetFunction val s) := by
  unfold execTopResetFunction
  exact (refl s).writeTopReset.ok

theorem execTopResetKeyBad_runs (val : Word) (s : State) : runs workParts s (execTopResetKeyBad val s) := by
  unfold execTopResetKeyBad
  exact (refl s).writeTopReset.ok

theorem dropNotices (h : keeps T s t) : keeps T s t.dropNotices := by
  unfold State.dropNotices
  exact foldl (fun _ _ h => h.bump.raise) h.upd

theorem ringsOff (h : keeps T s t) : keeps T s t.ringsOff := by
  unfold State.ringsOff
  exact (foldl (fun _ _ h => h.wr) h).upd

theorem functionAbort {n : Nat} (h : keeps T s t) : keeps T s (t.functionAbort n) := by
  unfold State.functionAbort
  exact h.finish.freeSlot

theorem functionReset (h : keeps T s t) : keeps T s t.functionReset := by
  unfold State.functionReset
  exact (foldl (fun _ _ h => h.wr) (foldl (fun _ _ h => h.functionAbort)
      h.upd.wr.bump).dropNotices.ringsOff.cancelSwaps).wr.upd.sendMarks

theorem execFunctionReset_runs (s : State) : runs workParts s (execFunctionReset s) := by
  unfold execFunctionReset
  exact runs_ite (refl s).functionReset.ok (refl s).ok

theorem freeze (h : keeps T s t) : keeps T s t.freeze := by
  unfold State.freeze
  exact h.ite h.wr.bump.upd

theorem execFreezeReaction_runs (s : State) : runs workParts s (execFreezeReaction s) := by
  unfold execFreezeReaction
  exact runs_ite (refl s).upd.freeze.ok (refl s).ok

theorem warmReact (h : keeps False s t) : keeps False s t.warmReact := by
  unfold State.warmReact
  exact h.raise.freeze.ite h.wr.warmReset.restart

theorem execWarmReaction_runs (s : State) : runs workParts s (execWarmReaction s) := by
  unfold execWarmReaction
  exact runs_ite (refl s).upd.warmReact.ok (refl s).ok

/-! ### The operations of Machine/Shepherd.lean -/

theorem shepherdNote {kind f wl : Nat} (h : keeps T s t) : keeps T s (t.shepherdNote kind f wl) := by
  unfold State.shepherdNote
  exact h.wr.wr.wr.wr

theorem moveSpare {f w kind : Nat} (h : keeps T s t) : keeps T s (t.moveSpare f w kind) := by
  unfold State.moveSpare
  split
  · exact h.wr.spareLoop.bump.raise
  · exact h.wr.spareLoop.bump.raise.ite (h.wr.wr.ite h.wr.wr).setLink.bump.raise

theorem execComponentSpare_runs (f w kind : Nat) (s : State) : runs workParts s (execComponentSpare f w kind s) := by
  unfold execComponentSpare
  split
  · exact (refl s).ok
  · split
    · exact (refl s).shepherdNote.ok
    · split
      · exact (refl s).shepherdNote.moveSpare.ok
      · exact runs_ite (refl s).ok (refl s).upd.shepherdNote.raise.ok

theorem askRearm (h : keeps T s t) : keeps T s t.askRearm := by
  unfold State.askRearm
  exact h.upd

theorem execSpareRearm_runs (s : State) : runs workParts s (execSpareRearm s) := by
  unfold execSpareRearm
  exact (refl s).askRearm.ok

theorem takeBackFerry {f : Nat} (h : keeps T s t) : keeps T s (t.takeBackFerry f) := by
  unfold State.takeBackFerry
  exact foldl (fun _ _ h => h.spareLoop) (foldl (fun _ _ h => h.spareLoop) (foldl (fun _ _ h => h.wr) h))

theorem rearmBoundary (h : keeps T s t) : keeps T s t.rearmBoundary := by
  unfold State.rearmBoundary
  exact h.ite (foldl (fun _ _ h => h.takeBackFerry) h).upd

theorem showDetours (h : keeps T s t) : keeps T s t.showDetours := by
  unfold State.showDetours
  exact h.wr

theorem announceDetour {k ann : Nat} (h : keeps T s t) : keeps T s (t.announceDetour k ann) := by
  unfold State.announceDetour
  exact h.setHop

theorem execDetourStart_runs (f j : Nat) (s : State) : runs workParts s (execDetourStart f j s) := by
  unfold execDetourStart
  extract_lets
  split
  · exact (refl s).ok
  · split
    · exact (refl s).ok
    · split
      · exact (refl s).setHop.ok
      · split
        · exact (refl s).setHop.shepherdNote.raiseLink.ok
        · exact (refl s).setHop.setHop.showHop.wr.bump.shepherdNote.announceDetour.showDetours.raiseLink.ok

theorem execDetourWithdraw_runs (f j : Nat) (s : State) : runs workParts s (execDetourWithdraw f j s) := by
  unfold execDetourWithdraw
  extract_lets
  split
  · exact (refl s).ok
  · exact runs_ite (refl s).ok (refl s).setHop.wr.bump.shepherdNote.announceDetour.showDetours.ok

theorem endDetour {k : Nat} (h : keeps T s t) : keeps T s (t.endDetour k) := by
  unfold State.endDetour
  exact h.setHop.ite h

theorem execFenceMarkSend_runs (slot flow : Nat) (s : State) : runs workParts s (execFenceMarkSend slot flow s) := by
  unfold execFenceMarkSend
  extract_lets
  split
  · exact (refl s).ok
  · split
    · exact (refl s).ok
    · split
      · exact (refl s).ok
      · exact (refl s).setTask.sendFence.ok

/-! ### The operations of Machine/Transfer.lean -/

theorem sendPiece {n kind p : Nat} {tail : List Byte} (h : keeps T s t) : keeps T s (t.sendPiece n kind p tail) := by
  unfold State.sendPiece
  exact h.setTask.sendOpen

theorem transferEnd {n : Nat} (h : keeps T s t) : keeps T s (t.transferEnd n) := by
  unfold State.transferEnd
  extract_lets
  split
  · exact h
  · split
    · exact h.ite h.finish
    · exact (h.finish.ite h).ite (h.finish.ite h)

theorem askSource {n : Nat} (h : keeps T s t) : keeps T s (t.askSource n) := by
  unfold State.askSource
  extract_lets _ _ _ _ _ _ _ _ _ s1
  have h1 : keeps T s s1.2 := by
    unfold s1
    split
    · exact h.hostRead.hostRead
    · exact h.hostRead
  exact h.ite (h1.setTask.ite h1.finish)

theorem sourceBytes {n a len : Nat} {ecc : EccResult} (h : keeps T s t) :
    keeps T s (t.sourceBytes n a len ecc).2 := by
  unfold State.sourceBytes
  split
  · exact h.snd
  · exact h.linePort.granaryRead.snd

theorem hostTally {n : Nat} {piece : List Byte} {want : Nat} (h : keeps T s t) :
    keeps T s (t.hostTally n piece want).2 := by
  unfold State.hostTally
  extract_lets s1
  have h1 : keeps T s s1.2 := h.bump.tallyInject
  split
  · exact h1.tallyNote.bump.raise.snd
  · exact h1.snd

theorem sendNext {n kind : Nat} {ecc : EccResult} (h : keeps T s t) : keeps T s (t.sendNext n kind ecc).2 := by
  unfold State.sendNext
  extract_lets _ _ _ _ arr r
  have ha : keeps T s arr.2 := by
    unfold arr
    split
    · exact h.sourceBytes
    · exact h.snd
  split
  · exact h.snd
  · split
    · exact h.snd
    · exact ha.failTask.snd
    · have hr : keeps T s r.2 := ha.sourceBytes
      split
      · exact h.snd
      · exact hr.failTask.snd
      · split
        · exact hr.sendPiece.snd
        · extract_lets q
          have hq : keeps T s q.2 := hr.hostTally
          split
          · exact hq.sendPiece.snd
          · exact hq.setTask.failTask.snd

theorem sendPieces {n kind : Nat} {es : List EccResult} (h : keeps T s t) : keeps T s (t.sendPieces n kind es) := by
  induction es generalizing t with
  | nil => exact h
  | cons e es ih =>
    unfold State.sendPieces
    exact (ih h.sendNext).ite h.sendNext

theorem putBell {n kind : Nat} {eccs : List EccResult} (h : keeps T s t) : keeps T s (t.putBell n kind eccs) := by
  unfold State.putBell
  exact h.askSource.sendPieces.transferEnd.ite h.transferEnd

theorem execOpPut_runs (slot : Nat) (eccs : List EccResult) (s : State) :
    runs workParts s (execOpPut slot eccs s) := by
  unfold execOpPut
  exact runs_ite (refl s).putBell.ok (refl s).ok

theorem execOpProgramSend_runs (slot : Nat) (eccs : List EccResult) (s : State) :
    runs workParts s (execOpProgramSend slot eccs s) := by
  unfold execOpProgramSend
  exact runs_ite (refl s).putBell.ok (refl s).ok

theorem getPieces {k n : Nat} (h : keeps T s t) : keeps T s (t.getPieces k n) := by
  induction k generalizing t with
  | zero => exact h
  | succ k ih =>
    unfold State.getPieces
    exact h.ite (ih h.sendPiece)

theorem execOpGet_runs (slot : Nat) (s : State) : runs workParts s (execOpGet slot s) := by
  unfold execOpGet
  split
  · exact (refl s).ok
  · exact runs_ite (refl s).getPieces.transferEnd.ok (refl s).transferEnd.ok

theorem fenceEnd {n : Nat} (h : keeps T s t) : keeps T s (t.fenceEnd n) := by
  unfold State.fenceEnd
  exact h.finish.ite h

theorem execOpFence_runs (slot : Nat) (s : State) : runs workParts s (execOpFence slot s) := by
  unfold execOpFence
  exact runs_ite (refl s).fenceEnd.ok (refl s).ok

theorem swapEnd {n : Nat} (h : keeps T s t) : keeps T s (t.swapEnd n) := by
  unfold State.swapEnd
  exact h.ite (h.finish.ite (h.finish.ite h))

theorem execOpSwap_runs (slot : Nat) (s : State) : runs workParts s (execOpSwap slot s) := by
  unfold execOpSwap
  exact runs_ite (refl s).swapEnd.ok (refl s).ok

theorem swapStop {n : Nat} (h : keeps T s t) : keeps T s (t.swapStop n) := by
  unfold State.swapStop
  exact h.writeSwap.setTask.finish.ite h.writeSwap.finish

theorem boundaryStops {before : List Nat} (h : keeps T s t) : keeps T s (t.boundaryStops before) := by
  unfold State.boundaryStops
  exact foldl (fun _ _ h => h.ite (h.swapStop.ite h.stepPoint)) h

theorem lostTasks (h : keeps T s t) : keeps T s t.lostTasks := by
  unfold State.lostTasks
  exact h.ite (foldl (fun _ _ h => h.finish.ite h) h.upd)

theorem boundaryEnds (h : keeps T s t) : keeps T s t.boundaryEnds := by
  unfold State.boundaryEnds
  exact foldl (fun _ _ h => h.ite (h.transferEnd.ite (h.fenceEnd.ite (h.swapEnd.ite h)))) h

/-! ### The operations of Machine/Mill.lean -/

theorem setProg {n : Nat} {p : Prog} (h : keeps T s t) : keeps T s (t.setProg n p) := by
  unfold State.setProg
  exact h.upd

theorem setCore {c : Nat} {k : Core} (h : keeps T s t) : keeps T s (t.setCore c k) := by
  unfold State.setCore
  exact h.upd

theorem setRow {r : Nat} {u' : RowUnit} (h : keeps T s t) : keeps T s (t.setRow r u') := by
  unfold State.setRow
  exact h.upd

theorem setStream {r k : Nat} {q : StreamQ} (h : keeps T s t) : keeps T s (t.setStream r k q) := by
  unfold State.setStream
  exact h.setRow

theorem holdRows {n mask : Nat} (h : keeps T s t) : keeps T s (t.holdRows n mask) := by
  unfold State.holdRows
  exact foldl (fun _ _ h => h.ite h.wr.wr) h

theorem traceFreeze (h : keeps T s t) : keeps T s t.traceFreeze := by
  unfold State.traceFreeze
  exact h.wr

theorem traceStore {d : List Byte} (h : keeps T s t) : keeps T s (t.traceStore d) := by
  unfold State.traceStore
  split
  · exact h
  · split
    · exact h.bump.raise
    · extract_lets _ _ _ _ _ _ _ _ _ s1 s2
      have h1 : keeps T s s1 := h.wr.wrB.upd.bump
      have h2 : keeps T s s2 := h1.bump.raise.ite h1
      exact h2.traceFreeze.ite h2

theorem trace {kind n : Nat} {tail pb : Bool} {word rows data : Nat} (h : keeps T s t) :
    keeps T s (t.trace kind n tail pb word rows data) := by
  unfold State.trace
  extract_lets _ _ _ s1 s2 _ _ _ s3
  have h1 : keeps T s s1 := h.traceStore
  have h3 : keeps T s s3 := h1.traceStore.bump.upd
  exact h.ite ((h3.traceFreeze.ite h3).ite h1)

theorem noteWord {n word : Nat} {pb : Bool} (h : keeps T s t) : keeps T s (t.noteWord n word pb) := by
  unfold State.noteWord
  exact foldl (fun _ _ h => h.wr) h

theorem traceFault {n word : Nat} {pb : Bool} {rows : Nat} {e : ErrBit} (h : keeps T s t) :
    keeps T s (t.traceFault n word pb rows e) := by
  unfold State.traceFault
  exact h.trace

theorem illegalOp {n word : Nat} {pb : Bool} {rows : Nat} (h : keeps T s t) :
    keeps T s (t.illegalOp n word pb rows) := by
  unfold State.illegalOp
  exact h.noteWord.raise.traceFault.failTask

theorem heldConflict {n word : Nat} {pb : Bool} {rows : Nat} (h : keeps T s t) :
    keeps T s (t.heldConflict n word pb rows) := by
  unfold State.heldConflict
  exact h.noteWord.raise.traceFault.failTask

theorem residueFail {n core : Nat} {inj : Bool} (h : keeps T s t) : keeps T s (t.residueFail n core inj) := by
  unfold State.residueFail
  exact h.tallyNote.bump.raise.failTask

theorem residue {n c : Nat} (h : keeps T s t) : keeps T s (t.residue n c) := by
  unfold State.residue
  exact h.tallyInject.residueFail.ite h

theorem millerErr {memory : Nat} {ue : Bool} {addr : Nat} (h : keeps T s t) :
    keeps T s (t.millerErr memory ue addr) := by
  unfold State.millerErr
  exact h.wr.wr.wrB.wr

theorem fetchWord {n word : Nat} {pb : Bool} {ecc : EccResult} {prefetch : Bool} (h : keeps T s t) :
    keeps T s (t.fetchWord n word pb ecc prefetch).2 := by
  unfold State.fetchWord
  extract_lets _ s1 _ _ _ _ s2 _ s3 s4
  have h1 : keeps T s s1.2 := by
    unfold s1
    split
    · exact h.bump.snd
    · exact h.bump.injectUse
  have h2 : keeps T s s2 := h1.upd.millerErr
  have h3 : keeps T s s3 := h2.ite h2.noteWord
  have h4 : keeps T s s4 := h1.upd.millerErr
  split
  · exact (h3.raise.ite h3.raise.traceFault).snd
  · split
    · exact (h4.ite h4.raise).snd
    · exact h1.snd

theorem beginWord {o : OpAt} {p : Prog} (h : keeps T s t) : keeps T s (t.beginWord o p).2 := by
  unfold State.beginWord
  split
  · exact h.snd
  · extract_lets _ s1
    have h1 : keeps T s s1 := h.fetchWord.bump.setProg
    split
    · exact (h1.bump.ite h1).snd
    · exact h.fetchWord.setProg.failTask.snd

theorem wordDone {o : OpAt} {result : Nat} (h : keeps T s t) : keeps T s (t.wordDone o result) := by
  unfold State.wordDone
  exact (h.setUnit.ite h).trace

theorem nextWord {o : OpAt} {result : Nat} (h : keeps T s t) : keeps T s (t.nextWord o result) := by
  unfold State.nextWord
  extract_lets
  split
  · exact h.wordDone
  · exact h.wordDone.setProg

theorem setX {n r v : Nat} (h : keeps T s t) : keeps T s (t.setX n r v) := by
  unfold State.setX
  split
  · exact h
  · exact h.setProg

theorem scalar {o : OpAt} {xd : Nat} {f : Prog → Nat} (h : keeps T s t) : keeps T s (t.scalar o xd f) := by
  unfold State.scalar
  split
  · exact h
  · exact h.beginWord.setX.nextWord.ite h.beginWord

theorem discardWords {o : OpAt} (h : keeps T s t) : keeps T s (t.discardWords o) := by
  unfold State.discardWords
  exact foldl (fun _ _ h => h.fetchWord) h

theorem branch {o : OpAt} {label : Nat} {f : Prog → Bool} (h : keeps T s t) : keeps T s (t.branch o label f) := by
  unfold State.branch
  split
  · exact h
  · extract_lets _ s1
    have h1 : keeps T s s1 := h.beginWord.wordDone.discardWords
    split
    · exact h.beginWord
    · split
      · exact h.beginWord.nextWord
      · split
        · exact h1
        · exact h1.setProg

theorem loadImage {n : Nat} {img : Image} (h : keeps T s t) : keeps T s (t.loadImage n img) := by
  unfold State.loadImage
  extract_lets
  split
  · exact h.upd.setProg
  · exact h.bump

theorem execProgramImageLoad_runs (slot : Nat) (s : State) : runs workParts s (execProgramImageLoad slot s) := by
  unfold execProgramImageLoad
  split
  · exact (refl s).ok
  · split
    · exact (refl s).ok
    · extract_lets s1
      have h1 : keeps False s s1 := (refl s).loadImage
      exact runs_ite h1.upd.ok h1.ok

theorem freshRow {r : Nat} (h : keeps T s t) : keeps T s (t.freshRow r) := by
  unfold State.freshRow
  exact (foldl (fun _ _ h => h.setCore) h).setRow

theorem freshRows {rows : Nat} (h : keeps T s t) : keeps T s (t.freshRows rows) := by
  unfold State.freshRows
  exact (foldl (fun _ _ h => h.freshRow) h).upd

theorem startStep {n : Nat} {p : Prog} (h : keeps T s t) : keeps T s (t.startStep n p) := by
  unfold State.startStep
  exact h.freshRows.setProg.bump.trace

theorem dmemRead {n addr : Nat} {ecc : EccResult} (h : keeps T s t) : keeps T s (t.dmemRead n addr ecc).2 := by
  unfold State.dmemRead
  extract_lets
  split
  · exact h.injectUse.millerErr.raise.failTask.snd
  · split
    · exact h.injectUse.millerErr.raise.snd
    · exact h.snd

theorem execMillStepStart_runs (slot : Nat) (ecc : EccResult) (s : State) :
    runs workParts s (execMillStepStart slot ecc s) := by
  unfold execMillStepStart
  split
  · exact (refl s).ok
  · split
    · exact (refl s).ok
    · split
      · exact (refl s).startStep.ok
      · extract_lets s1
        have h1 : keeps False s s1.2 := (refl s).dmemRead
        exact runs_ite h1.startStep.ok h1.stepPoint.ok

theorem savePoint {n : Nat} {p : Prog} (h : keeps T s t) : keeps T s (t.savePoint n p) := by
  unfold State.savePoint
  exact (h.holdRows.ite h).upd.setProg.trace

theorem finishStep {n : Nat} {p : Prog} (h : keeps T s t) : keeps T s (t.finishStep n p) := by
  unfold State.finishStep
  extract_lets s1
  have h1 : keeps T s s1.2 := h.savePoint.stepPoint
  split
  · exact h1
  · split
    · exact h1.setTask.finish
    · exact h1

theorem execMillStepFinish_runs (slot : Nat) (s : State) : runs workParts s (execMillStepFinish slot s) := by
  unfold execMillStepFinish
  split
  · exact (refl s).ok
  · exact runs_ite (refl s).finishStep.ok (refl s).ok

theorem execStepDeferred_runs (slot : Nat) (s : State) : runs workParts s (execStepDeferred slot s) := by
  unfold execStepDeferred
  split
  · exact runs_ite (refl s).setProg.bump.trace.ok (refl s).ok
  · exact runs_ite (refl s).setTask.bump.trace.ok (refl s).ok

theorem overrun {n : Nat} {p : Prog} (h : keeps T s t) : keeps T s (t.overrun n p) := by
  unfold State.overrun
  extract_lets s1
  have h1 : keeps T s s1 := h.setProg.bump.raise
  split
  · exact h1.finish
  · exact h1.finish
  · exact h1.finish

theorem execBellOverrun_runs (slot : Nat) (s : State) : runs workParts s (execBellOverrun slot s) := by
  unfold execBellOverrun
  split
  · exact (refl s).ok
  · exact runs_ite (refl s).overrun.ok (refl s).ok

theorem millBoundary (h : keeps T s t) : keeps T s t.millBoundary := by
  unfold State.millBoundary
  refine foldl (fun _ _ h => ?_) h
  split
  · exact h
  · exact h.ite (h.setProg.ite (h.overrun.ite h.setProg))

/-! ### The operations of Machine/Scalar.lean -/

theorem execAdd_runs (o : OpAt) (xd xa xb : Nat) (s : State) : runs workParts s (execAdd o xd xa xb s) := by
  unfold execAdd
  exact (refl s).scalar.ok

theorem execSub_runs (o : OpAt) (xd xa xb : Nat) (s : State) : runs workParts s (execSub o xd xa xb s) := by
  unfold execSub
  exact (refl s).scalar.ok

theorem execMul_runs (o : OpAt) (xd xa xb : Nat) (s : State) : runs workParts s (execMul o xd xa xb s) := by
  unfold execMul
  exact (refl s).scalar.ok

theorem execAnd_runs (o : OpAt) (xd xa xb : Nat) (s : State) : runs workParts s (execAnd o xd xa xb s) := by
  unfold execAnd
  exact (refl s).scalar.ok

theorem execOr_runs (o : OpAt) (xd xa xb : Nat) (s : State) : runs workParts s (execOr o xd xa xb s) := by
  unfold execOr
  exact (refl s).scalar.ok

theorem execXor_runs (o : OpAt) (xd xa xb : Nat) (s : State) : runs workParts s (execXor o xd xa xb s) := by
  unfold execXor
  exact (refl s).scalar.ok

theorem execShl_runs (o : OpAt) (xd xa xb : Nat) (s : State) : runs workParts s (execShl o xd xa xb s) := by
  unfold execShl
  exact (refl s).scalar.ok

theorem execShr_runs (o : OpAt) (xd xa xb : Nat) (s : State) : runs workParts s (execShr o xd xa xb s) := by
  unfold execShr
  exact (refl s).scalar.ok

theorem execSra_runs (o : OpAt) (xd xa xb : Nat) (s : State) : runs workParts s (execSra o xd xa xb s) := by
  unfold execSra
  exact (refl s).scalar.ok

theorem execLi_runs (o : OpAt) (xd imm : Nat) (s : State) : runs workParts s (execLi o xd imm s) := by
  unfold execLi
  exact (refl s).scalar.ok

theorem execSlt_runs (o : OpAt) (xd xa xb : Nat) (s : State) : runs workParts s (execSlt o xd xa xb s) := by
  unfold execSlt
  exact (refl s).scalar.ok

theorem execSltu_runs (o : OpAt) (xd xa xb : Nat) (s : State) : runs workParts s (execSltu o xd xa xb s) := by
  unfold execSltu
  exact (refl s).scalar.ok

theorem execSeq_runs (o : OpAt) (xd xa xb : Nat) (s : State) : runs workParts s (execSeq o xd xa xb s) := by
  unfold execSeq
  exact (refl s).scalar.ok

theorem execBeq_runs (o : OpAt) (xa xb label : Nat) (s : State) : runs workParts s (execBeq o xa xb label s) := by
  unfold execBeq
  exact (refl s).branch.ok

theorem execBne_runs (o : OpAt) (xa xb label : Nat) (s : State) : runs workParts s (execBne o xa xb label s) := by
  unfold execBne
  exact (refl s).branch.ok

theorem execBlt_runs (o : OpAt) (xa xb label : Nat) (s : State) : runs workParts s (execBlt o xa xb label s) := by
  unfold execBlt
  exact (refl s).branch.ok

theorem execBge_runs (o : OpAt) (xa xb label : Nat) (s : State) : runs workParts s (execBge o xa xb label s) := by
  unfold execBge
  exact (refl s).branch.ok

theorem execBltu_runs (o : OpAt) (xa xb label : Nat) (s : State) : runs workParts s (execBltu o xa xb label s) := by
  unfold execBltu
  exact (refl s).branch.ok

theorem execJmp_runs (o : OpAt) (label : Nat) (s : State) : runs workParts s (execJmp o label s) := by
  unfold execJmp
  exact (refl s).branch.ok

theorem control {o : OpAt} {f : Prog → State → Nat × State} (h : keeps T s t)
    (hf : ∀ a0 u, keeps T s u → keeps T s (f a0 u).2) : keeps T s (t.control o f) := by
  unfold State.control
  split
  · exact h
  · exact h.beginWord.ite (hf _ _ h.beginWord).nextWord

theorem withProg {n : Nat} {f : Prog → Prog} (h : keeps T s t) : keeps T s (t.withProg n f) := by
  unfold State.withProg
  split
  · exact h
  · exact h.setProg

theorem execLdD_runs (o : OpAt) (xd xa : Nat) (imm : Int) (ecc : EccResult) (s : State) :
    runs workParts s (execLdD o xd xa imm ecc s) := by
  unfold execLdD
  refine keeps.ok ?_
  refine (refl s).control ?_
  intro _ _ h
  split
  · exact h.illegalOp.snd
  · extract_lets
    split
    · exact h.dmemRead.setX.snd
    · exact h.dmemRead.noteWord.snd

theorem execStD_runs (o : OpAt) (xa : Nat) (imm : Int) (xs : Nat) (s : State) :
    runs workParts s (execStD o xa imm xs s) := by
  unfold execStD
  refine keeps.ok ?_
  refine (refl s).control ?_
  intro _ _ h
  split
  · exact h.illegalOp.snd
  · exact h.upd.snd

theorem execLoopM_runs (o : OpAt) (xc stop : Nat) (s : State) : runs workParts s (execLoopM o xc stop s) := by
  unfold execLoopM
  refine keeps.ok ?_
  split
  · exact refl s
  · extract_lets s1
    have h1 : keeps False s s1.2 := (refl s).beginWord
    split
    · exact h1
    · split
      · exact h1.illegalOp.nextWord
      · exact h1.wordDone.withProg.ite h1.withProg.nextWord

theorem execCallPb_runs (o : OpAt) (routine : Nat) (entry : Option Nat) (s : State) :
    runs workParts s (execCallPb o routine entry s) := by
  unfold execCallPb
  refine keeps.ok ?_
  split
  · exact refl s
  · extract_lets s1
    have h1 : keeps False s s1.2 := (refl s).beginWord
    split
    · exact h1
    · split
      · exact h1.illegalOp.nextWord
      · exact h1.illegalOp.nextWord.ite h1.wordDone.trace.withProg

theorem execRet_runs (o : OpAt) (s : State) : runs workParts s (execRet o s) := by
  unfold execRet
  refine keeps.ok ?_
  split
  · exact refl s
  · extract_lets s1
    have h1 : keeps False s s1.2 := (refl s).beginWord
    split
    · exact h1
    · split
      · exact h1.nextWord
      · exact h1.wordDone.withProg

theorem execStep_runs (o : OpAt) (rows : Nat) (mode : RowMode) (hold : Bool) (s : State) :
    runs workParts s (execStep o rows mode hold s) := by
  unfold execStep
  exact ((refl s).control (fun _ _ h => h.withProg.setTask.snd)).ok

theorem execWaitL_runs (o : OpAt) (xland xseq : Nat) (s : State) : runs workParts s (execWaitL o xland xseq s) := by
  unfold execWaitL
  refine keeps.ok ?_
  split
  · exact refl s
  · extract_lets s1
    have h1 : keeps False s s1.2 := (refl s).beginWord
    exact h1.ite (h1.nextWord.ite h1.wordDone.withProg)

theorem execEndOp_runs (o : OpAt) (xs : Nat) (s : State) : runs workParts s (execEndOp o xs s) := by
  unfold execEndOp
  exact ((refl s).control (fun _ _ h => h.withProg.snd)).ok

theorem execFenceG_runs (o : OpAt) (s : State) : runs workParts s (execFenceG o s) := by
  unfold execFenceG
  refine keeps.ok ?_
  split
  · exact refl s
  · exact ((refl s).control (fun _ _ h => h.snd)).ite (refl s)

theorem execGoWait_runs (o : OpAt) (s : State) : runs workParts s (execGoWait o s) := by
  unfold execGoWait
  exact ((refl s).control (fun _ _ h => h.snd)).ok

theorem execStI_runs (o : OpAt) (wi pi : Nat) (s : State) : runs workParts s (execStI o wi pi s) := by
  unfold execStI
  refine keeps.ok ?_
  refine (refl s).control ?_
  intro _ _ h
  split
  · exact h.upd.withProg.snd
  · exact h.illegalOp.snd

theorem execSyncI_runs (o : OpAt) (s : State) : runs workParts s (execSyncI o s) := by
  unfold execSyncI
  exact ((refl s).control (fun _ _ h => h.withProg.trace.snd)).ok

theorem execRdBell_runs (o : OpAt) (xd : Nat) (s : State) : runs workParts s (execRdBell o xd s) := by
  unfold execRdBell
  exact ((refl s).control (fun _ _ h => h.setX.trace.snd)).ok

theorem execRdArr_runs (o : OpAt) (xd : Nat) (s : State) : runs workParts s (execRdArr o xd s) := by
  unfold execRdArr
  exact ((refl s).control (fun _ _ h => h.setX.trace.snd)).ok

/-! ### The operations of Machine/Weir.lean -/

theorem deliveryFail {place : Nat} {x : Sheaf} {inj : Bool} (h : keeps T s t) :
    keeps T s (t.deliveryFail place x inj) := by
  unfold State.deliveryFail
  exact h.tallyNote.bump.raise

theorem haltLand {i flow seq : Nat} (h : keeps T s t) : keeps T s (t.haltLand i flow seq) := by
  unfold State.haltLand
  exact h.wr.record

theorem hostDeliver {i : Nat} {le : LandEntry} {l : Landing} {p : Nat × Nat} {ecc : EccResult} (h : keeps T s t) :
    keeps T s (t.hostDeliver i le l p ecc) := by
  unfold State.hostDeliver
  extract_lets _ _ _ _ s1 _ s2
  have h1 : keeps T s s1.2 := h.granaryRead.linePort.bump.tallyInject
  have h2 : keeps T s s2.2 := h1.hostWrite
  exact h1.deliveryFail.haltLand.ite (h2.haltLand.ite h2.deliver)

theorem execHostDelivery_runs (land : Nat) (ecc : EccResult) (s : State) :
    runs workParts s (execHostDelivery land ecc s) := by
  unfold execHostDelivery
  split
  · exact (refl s).ok
  · exact runs_ite (refl s).hostDeliver.ok (refl s).ok

theorem askLandReset {i : Nat} (h : keeps T s t) : keeps T s (t.askLandReset i) := by
  unfold State.askLandReset
  exact h.upd

theorem execLandingReset_runs (idx : Nat) (s : State) : runs workParts s (execLandingReset idx s) := by
  unfold execLandingReset
  exact (refl s).askLandReset.ok

theorem execSchedShadowScan_runs (s : State) : runs workParts s (execSchedShadowScan s) := by
  unfold execSchedShadowScan
  split
  · exact (refl s).ok
  · extract_lets
    split
    · exact (refl s).upd.ok
    · exact (refl s).upd.wr.wr.wr.raise.ok

theorem targetFault {x : Sheaf} (h : keeps T s t) : keeps T s (t.targetFault x) := by
  unfold State.targetFault
  exact h.raise

theorem cellDone {k : Nat} {x : Sheaf} (h : keeps T s t) : keeps T s (t.cellDone k x) := by
  unfold State.cellDone
  split
  · exact h.grantCell
  · split
    · exact h
    · exact h.pieceAcked.ite h

theorem readCell {kind : Nat} {ecc : EccResult} {bad : Nat} (h : keeps T s t) :
    keeps T s (t.readCell kind ecc bad).2 := by
  unfold State.readCell
  split
  · exact h.snd
  · extract_lets _ _ _ _ s1 s2
    have h1 : keeps T s s1 := by
      unfold s1
      split
      · exact h.upd.bump
      · exact h.upd.bump.granaryCe
      · exact h.upd.bump.granaryUe
    have h2 : keeps T s s2 := h1.deliveryFail.cellDone
    split
    · refine keeps.snd ?_
      split
      · split
        · exact h2.failTask
        · exact h2
      · exact h2
    · exact h1.markApplied.snd

theorem arrived {x : Sheaf} (h : keeps T s t) : keeps T s (t.arrived x) := by
  unfold State.arrived
  split
  · exact h.setTask
  · exact h

theorem openWrite {x : Sheaf} {a : Nat} (h : keeps T s t) : keeps T s (t.openWrite x a).2 := by
  unfold State.openWrite
  extract_lets
  split
  · exact h.targetFault.snd
  · split
    · exact (h.hostWrite.arrived.ite h.hostWrite.targetFault).snd
    · split
      · exact h.targetFault.snd
      · exact h.granaryWrite.linePort.arrived.snd

theorem execPutApply_runs (ecc : EccResult) (bad : Nat) (s : State) : runs workParts s (execPutApply ecc bad s) := by
  unfold execPutApply
  extract_lets s1
  have h1 : keeps False s s1.2 := (refl s).readCell
  split
  · exact h1.ok
  · exact h1.openWrite.cellDone.ok

theorem getReply {x : Sheaf} {d : List Byte} (h : keeps T s t) : keeps T s (t.getReply x d) := by
  unfold State.getReply
  exact h.sendOpen

theorem execGetReqApply_runs (ecc : EccResult) (bad : Nat) (src : EccResult) (s : State) :
    runs workParts s (execGetReqApply ecc bad src s) := by
  unfold execGetReqApply
  extract_lets s1
  have h1 : keeps False s s1.2 := (refl s).readCell
  split
  · exact h1.ok
  · extract_lets _ _ _ _ _ _ _ _ _ _ s2
    have h2 : keeps False s s2.2 := h1.linePort.granaryRead
    split
    · exact h1.targetFault.cellDone.ok
    · split
      · exact runs_ite h1.hostRead.targetFault.cellDone.ok h1.hostRead.upd.ok
      · split
        · exact h1.targetFault.cellDone.ok
        · split
          · exact h2.getReply.cellDone.ok
          · exact h2.targetFault.cellDone.ok

theorem getDone {n : Nat} (h : keeps T s t) : keeps T s (t.getDone n) := by
  unfold State.getDone
  exact h.finish.ite h

theorem getWrite {n : Nat} {x : Sheaf} (h : keeps T s t) : keeps T s (t.getWrite n x) := by
  unfold State.getWrite
  extract_lets _ _ _ _ _ _ _ s1 s2
  have h1 : keeps T s s1 := h.taskWrite.linePort
  have h2 : keeps T s s2 := h1.arrived
  split
  · exact (h.openWrite.ite h.openWrite.setTask.getDone).ite (h.openWrite.finish.ite h.openWrite)
  · exact h1.ite (h2.ite h2.setTask.getDone)

theorem execGetDataApply_runs (ecc : EccResult) (bad : Nat) (s : State) :
    runs workParts s (execGetDataApply ecc bad s) := by
  unfold execGetDataApply
  extract_lets s1
  have h1 : keeps False s s1.2 := (refl s).readCell
  split
  · exact h1.ok
  · extract_lets _ s2
    have h2 : keeps False s s2 := by
      unfold s2
      split
      · exact h1.getWrite.ite h1.openWrite
      · exact h1.openWrite
    exact h2.cellDone.ok

theorem execProgramSheafApply_runs (ecc : EccResult) (bad : Nat) (s : State) :
    runs workParts s (execProgramSheafApply ecc bad s) := by
  unfold execProgramSheafApply
  extract_lets s1
  have h1 : keeps False s s1.2 := (refl s).readCell
  split
  · exact h1.ok
  · extract_lets
    split
    · exact h1.granaryWrite.linePort.arrived.cellDone.ok
    · exact h1.targetFault.cellDone.ok

theorem execMgmtSheafApply_runs (ecc : EccResult) (bad : Nat) (s : State) :
    runs workParts s (execMgmtSheafApply ecc bad s) := by
  unfold execMgmtSheafApply
  extract_lets s1
  have h1 : keeps False s s1.2 := (refl s).readCell
  split
  · exact h1.ok
  · exact h1.cellDone.ok

theorem askCredit {k : Nat} (h : keeps T s t) : keeps T s (t.askCredit k) := by
  unfold State.askCredit
  exact h.setCredit.ite h

theorem execCreditSheafSend_runs (f j : Nat) (s : State) : runs workParts s (execCreditSheafSend f j s) := by
  unfold execCreditSheafSend
  exact runs_ite (refl s).askCredit.ok (refl s).ok

theorem execWeirStale_runs (s : State) : runs workParts s (execWeirStale s) := by
  unfold execWeirStale
  split
  · exact (refl s).ok
  · extract_lets _ s1
    have h1 : keeps False s s1 := (refl s).upd.bump.raise
    split
    · exact h1.grantCell.ok
    · split
      · exact h1.ok
      · exact h1.dropPiece.ok

/-! ### The operations of Machine/Cores.lean -/

theorem freeBits {w : Nat} (h : keeps T s t) : keeps T s (t.freeBits w).2 := by
  unfold State.freeBits
  exact h.upd.snd

theorem coreLoad {n a len : Nat} {ecc : EccResult} (h : keeps T s t) : keeps T s (t.coreLoad n a len ecc).2 := by
  unfold State.coreLoad
  split
  · exact h.freeBits (w := 8 * len)
  · extract_lets
    split
    · exact h.granaryRead
    · exact h.granaryRead.failTask

theorem coreStore {n c : Nat} {e : QEntry} {a len v : Nat} (h : keeps T s t) :
    keeps T s (t.coreStore n c e a len v) := by
  unfold State.coreStore
  extract_lets _ s1
  have h1 : keeps T s s1.2 := by
    unfold s1
    split
    · exact (h.ite h.noteWord).snd
    · exact (h.ite h.noteWord).freeBits
  exact h1.taskWrite.ite h1.taskWrite.traceFault

theorem loadSheaf {n core land seq : Nat} {ecc : EccResult} (h : keeps T s t) :
    keeps T s (t.loadSheaf n core land seq ecc).2 := by
  unfold State.loadSheaf
  extract_lets _ _ _ s1
  have h1 : keeps T s s1.2 := h.granaryRead.bump.tallyInject
  split
  · exact h1.tallyNote.bump.raise.failTask.snd
  · exact h1.snd

theorem queueSheaf {n flow seq : Nat} {last : Bool} {payload : List Byte} (h : keeps T s t) :
    keeps T s (t.queueSheaf n flow seq last payload) := by
  unfold State.queueSheaf
  exact h.setTask

theorem loomNote {kind slot : Nat} (h : keeps T s t) : keeps T s (t.loomNote kind slot) := by
  unfold State.loomNote
  exact h.wr.wr.wr

theorem pwlBad {n : Nat} (h : keeps T s t) : keeps T s (t.pwlBad n) := by
  unfold State.pwlBad
  exact h.loomNote.raise

theorem arith {n c : Nat} {k : Core} (h : keeps T s t) : keeps T s (t.arith n c k) := by
  unfold State.arith
  exact h.setCore.residue

theorem vectorOp {n c : Nat} {op : COp} (h : keeps T s t) : keeps T s (t.vectorOp n c op) := by
  unfold State.vectorOp
  extract_lets
  split
  · exact h.setCore.ite h.arith
  · exact h.arith
  · exact h.arith
  · exact h.setCore
  · exact h.setCore
  · exact h.setCore
  · exact h.setCore
  · exact h.setCore
  · exact h.setCore
  · exact h.arith
  · exact h.arith
  · exact h.arith
  · exact (h.bump.ite h.bump.pwlBad).arith
  · exact h

theorem matrixOp {n c : Nat} {op : COp} (h : keeps T s t) : keeps T s (t.matrixOp n c op) := by
  unfold State.matrixOp
  extract_lets
  split
  · exact h.setCore
  · exact h.arith
  · exact h.setCore
  · exact h.setCore
  · exact h.arith
  · exact h

theorem sieveOp {n c : Nat} {op : COp} (h : keeps T s t) : keeps T s (t.sieveOp n c op) := by
  unfold State.sieveOp
  extract_lets
  split
  · exact h.setCore
  · exact h.arith
  · exact h.arith
  · exact h.arith
  · exact h.arith
  · exact h.arith
  · split
    · exact h.arith
    · exact h.setCore
  · exact h

theorem accessOp {n c rank : Nat} {e : QEntry} (h : keeps T s t) : keeps T s (t.accessOp n c rank e) := by
  unfold State.accessOp
  extract_lets
  split
  · exact h.setCore
  · exact h.setCore
  · exact h.setCore
  · extract_lets _ s1
    have h1 : keeps T s s1.2 := h.setCore.coreLoad
    exact elim h1 (fun _ => h1.setCore)
  · exact h.setCore.coreStore
  · extract_lets _ s1
    have h1 : keeps T s s1.2 := h.setCore.coreLoad
    exact elim h1 (fun _ => h1.setCore)
  · exact h.setCore.coreStore
  · exact elim h.loadSheaf.noteWord (fun _ => h.loadSheaf.setCore)
  · exact elim h.coreLoad (fun _ => h.coreLoad.setCore)
  · exact h.coreStore
  · exact h.setCore
  · exact h.setCore
  · exact h

theorem coreOp {n c : Nat} {e : QEntry} (h : keeps T s t) : keeps T s (t.coreOp n c e) := by
  unfold State.coreOp
  exact h.accessOp.vectorOp.matrixOp.sieveOp

theorem rowOp {n r : Nat} {e : QEntry} (h : keeps T s t) : keeps T s (t.rowOp n r e) := by
  unfold State.rowOp
  split
  · exact (foldl (fun _ _ h => h.coreOp) h).ite h.illegalOp
  · exact (foldl (fun _ _ h => h.coreOp) h).upd

theorem sendCores {n r : Nat} {e : QEntry} {flow seq : Nat} {last : Bool} {f d : Nat} (h : keeps T s t) :
    keeps T s (t.sendCores n r e flow seq last f d).2 := by
  induction f generalizing t d with
  | zero => exact h
  | succ f ih =>
    unfold State.sendCores
    extract_lets
    split
    · exact h.snd
    · exact ih h.setCore.residue.queueSheaf

theorem runEntry {n r : Nat} {e : QEntry} {rest : List QEntry} {put : List QEntry → List QEntry → Nat → StreamQ}
    (h : keeps T s t) : keepsOp T (·.1) s (t.runEntry n r e rest put) := by
  unfold State.runEntry
  split
  · exact iteOP noneP_ (someP_ h.fst)
  · exact iteOP noneP_ (iteOP noneP_ (iteOP (someP_ h.sendCores.fst) (someP_ h.sendCores.fst)))
  · exact iteOP (someP_ h.rowOp.fst) noneP_

theorem runStream {n r k : Nat} (h : keeps T s t) : keepsO T s (t.runStream n r k) := by
  unfold State.runStream
  extract_lets q out
  have ho : keepsOp T (·.1) s out := by
    unfold out
    split
    · exact h.runEntry
    · exact h.runEntry
    · exact noneP_
  intro u e
  obtain ⟨p, hp, rfl⟩ := Option.map_eq_some_iff.1 e
  exact (ho hp).setStream

theorem runTurn {n rows : Nat} (h : keeps T s t) : keeps T s (t.runTurn n rows).2 := by
  unfold State.runTurn
  refine foldlSnd (fun _ _ h => ?_) h.snd
  split
  next hu =>
    exact (h.runStream hu).snd
  · exact h

theorem runFor {f n rows : Nat} (h : keeps T s t) : keeps T s (t.runFor f n rows) := by
  induction f generalizing t with
  | zero => exact h
  | succ f ih =>
    unfold State.runFor
    exact (ih h.runTurn).ite h.runTurn

theorem runStreams {n : Nat} (h : keeps T s t) : keeps T s (t.runStreams n) := by
  unfold State.runStreams
  split
  · exact h
  · exact h.runFor.ite h

theorem pushOp {k : Nat} {e : QEntry} {r : Nat} (h : keeps T s t) : keeps T s (t.pushOp k e r) := by
  unfold State.pushOp
  exact h.setStream

theorem closeWord {o : OpAt} (h : keeps T s t) : keeps T s (t.closeWord o) := by
  unfold State.closeWord
  exact h.nextWord.ite h

theorem issueCore {o : OpAt} {k : Option Nat} {op : COp} {eccs : List EccResult} (h : keeps T s t) :
    keeps T s (t.issueCore o k op eccs) := by
  unfold State.issueCore
  split
  · exact h
  · extract_lets
    split
    · exact h
    · split
      · exact h.beginWord
      · split
        · exact h.beginWord.illegalOp.closeWord
        · exact h.beginWord.heldConflict.closeWord.ite (foldl (fun _ _ h => h.pushOp)
              h.beginWord.withProg).runStreams.closeWord

theorem issueTo {o : OpAt} {engine : Nat} {eccs : List EccResult} {op : Prog → COp} (h : keeps T s t) :
    keeps T s (t.issueTo o engine eccs op) := by
  unfold State.issueTo
  split
  · exact h
  · exact h.issueCore

theorem execLoopE_runs (o : OpAt) (st : Sys2Proof.Stream) (xc n : Nat) (s : State) :
    runs workParts s (execLoopE o st xc n s) := by
  unfold execLoopE
  refine keeps.ok ?_
  split
  · exact refl s
  · exact (refl s).issueCore

theorem execSig_runs (o : OpAt) (st : Sys2Proof.Stream) (t' : Nat) (s : State) :
    runs workParts s (execSig o st t' s) := by
  unfold execSig
  refine keeps.ok ?_
  split
  · exact refl s
  · exact (refl s).issueCore

theorem execWait_runs (o : OpAt) (st : Sys2Proof.Stream) (t' : Nat) (s : State) :
    runs workParts s (execWait o st t' s) := by
  unfold execWait
  refine keeps.ok ?_
  split
  · exact refl s
  · exact (refl s).issueCore

theorem execASet_runs (o : OpAt) (an xs : Nat) (s : State) : runs workParts s (execASet o an xs s) := by
  unfold execASet
  exact (refl s).issueTo.ok

theorem execASetc_runs (o : OpAt) (an xs stride : Nat) (s : State) :
    runs workParts s (execASetc o an xs stride s) := by
  unfold execASetc
  exact (refl s).issueTo.ok

theorem execAAdd_runs (o : OpAt) (an : Nat) (imm : Int) (s : State) : runs workParts s (execAAdd o an imm s) := by
  unfold execAAdd
  exact (refl s).issueTo.ok

theorem execLdV_runs (o : OpAt) (vd an : Nat) (k : Int) (eccs : List EccResult) (s : State) :
    runs workParts s (execLdV o vd an k eccs s) := by
  unfold execLdV
  exact (refl s).issueTo.ok

theorem execStV_runs (o : OpAt) (an : Nat) (k : Int) (vs : Nat) (s : State) :
    runs workParts s (execStV o an k vs s) := by
  unfold execStV
  exact (refl s).issueTo.ok

theorem execLdQ_runs (o : OpAt) (qn an : Nat) (k : Int) (eccs : List EccResult) (s : State) :
    runs workParts s (execLdQ o qn an k eccs s) := by
  unfold execLdQ
  exact (refl s).issueTo.ok

theorem execSqSt_runs (o : OpAt) (an : Nat) (k : Int) (s : State) : runs workParts s (execSqSt o an k s) := by
  unfold execSqSt
  exact (refl s).issueTo.ok

theorem execSqSh_runs (o : OpAt) (xflow xseq : Nat) (lastSheaf : Bool) (s : State) :
    runs workParts s (execSqSh o xflow xseq lastSheaf s) := by
  unfold execSqSh
  exact (refl s).issueTo.ok

theorem execLdSh_runs (o : OpAt) (qn xland xseq : Nat) (eccs : List EccResult) (s : State) :
    runs workParts s (execLdSh o qn xland xseq eccs s) := by
  unfold execLdSh
  exact (refl s).issueTo.ok

theorem execAccLd_runs (o : OpAt) (cn an : Nat) (eccs : List EccResult) (s : State) :
    runs workParts s (execAccLd o cn an eccs s) := by
  unfold execAccLd
  exact (refl s).issueTo.ok

theorem execAccSt_runs (o : OpAt) (an cn : Nat) (s : State) : runs workParts s (execAccSt o an cn s) := by
  unfold execAccSt
  exact (refl s).issueTo.ok

theorem execVAdd_runs (o : OpAt) (f : VFmt) (d a b : VReg) (p : Option Nat) (s : State) :
    runs workParts s (execVAdd o f d a b p s) := by
  unfold execVAdd
  exact (refl s).issueTo.ok

theorem execVSub_runs (o : OpAt) (f : VFmt) (d a b : VReg) (p : Option Nat) (s : State) :
    runs workParts s (execVSub o f d a b p s) := by
  unfold execVSub
  exact (refl s).issueTo.ok

theorem execVMul_runs (o : OpAt) (f : VFmt) (d a b : VReg) (p : Option Nat) (s : State) :
    runs workParts s (execVMul o f d a b p s) := by
  unfold execVMul
  exact (refl s).issueTo.ok

theorem execVFma_runs (o : OpAt) (f : VFmt) (d a b c : VReg) (p : Option Nat) (s : State) :
    runs workParts s (execVFma o f d a b c p s) := by
  unfold execVFma
  exact (refl s).issueTo.ok

theorem execVMax_runs (o : OpAt) (f : VFmt) (d a b : VReg) (p : Option Nat) (s : State) :
    runs workParts s (execVMax o f d a b p s) := by
  unfold execVMax
  exact (refl s).issueTo.ok

theorem execVMin_runs (o : OpAt) (f : VFmt) (d a b : VReg) (p : Option Nat) (s : State) :
    runs workParts s (execVMin o f d a b p s) := by
  unfold execVMin
  exact (refl s).issueTo.ok

theorem execVAbs_runs (o : OpAt) (f : VFmt) (d a : VReg) (p : Option Nat) (s : State) :
    runs workParts s (execVAbs o f d a p s) := by
  unfold execVAbs
  exact (refl s).issueTo.ok

theorem execVNeg_runs (o : OpAt) (f : VFmt) (d a : VReg) (p : Option Nat) (s : State) :
    runs workParts s (execVNeg o f d a p s) := by
  unfold execVNeg
  exact (refl s).issueTo.ok

theorem execVAnd_runs (o : OpAt) (f : VFmt) (d a b : VReg) (p : Option Nat) (s : State) :
    runs workParts s (execVAnd o f d a b p s) := by
  unfold execVAnd
  exact (refl s).issueTo.ok

theorem execVOr_runs (o : OpAt) (f : VFmt) (d a b : VReg) (p : Option Nat) (s : State) :
    runs workParts s (execVOr o f d a b p s) := by
  unfold execVOr
  exact (refl s).issueTo.ok

theorem execVXor_runs (o : OpAt) (f : VFmt) (d a b : VReg) (p : Option Nat) (s : State) :
    runs workParts s (execVXor o f d a b p s) := by
  unfold execVXor
  exact (refl s).issueTo.ok

theorem execVNot_runs (o : OpAt) (f : VFmt) (d a : VReg) (p : Option Nat) (s : State) :
    runs workParts s (execVNot o f d a p s) := by
  unfold execVNot
  exact (refl s).issueTo.ok

theorem execVShl_runs (o : OpAt) (f : VFmt) (d a b : VReg) (p : Option Nat) (s : State) :
    runs workParts s (execVShl o f d a b p s) := by
  unfold execVShl
  exact (refl s).issueTo.ok

theorem execVShr_runs (o : OpAt) (f : VFmt) (d a b : VReg) (p : Option Nat) (s : State) :
    runs workParts s (execVShr o f d a b p s) := by
  unfold execVShr
  exact (refl s).issueTo.ok

theorem execVSra_runs (o : OpAt) (f : VFmt) (d a b : VReg) (p : Option Nat) (s : State) :
    runs workParts s (execVSra o f d a b p s) := by
  unfold execVSra
  exact (refl s).issueTo.ok

theorem execVCmp_runs (o : OpAt) (cc : VCmp) (f : VFmt) (pd : Nat) (a b : VReg) (p : Option Nat) (s : State) :
    runs workParts s (execVCmp o cc f pd a b p s) := by
  unfold execVCmp
  exact (refl s).issueTo.ok

theorem execVSel_runs (o : OpAt) (d : VReg) (p : Nat) (a b : VReg) (s : State) :
    runs workParts s (execVSel o d p a b s) := by
  unfold execVSel
  exact (refl s).issueTo.ok

theorem execVMov_runs (o : OpAt) (d a : VReg) (p : Option Nat) (s : State) :
    runs workParts s (execVMov o d a p s) := by
  unfold execVMov
  exact (refl s).issueTo.ok

theorem execVBcast_runs (o : OpAt) (f : VFmt) (d : VReg) (xs : Nat) (p : Option Nat) (s : State) :
    runs workParts s (execVBcast o f d xs p s) := by
  unfold execVBcast
  exact (refl s).issueTo.ok

theorem execVIota_runs (o : OpAt) (f : VFmt) (d : VReg) (p : Option Nat) (s : State) :
    runs workParts s (execVIota o f d p s) := by
  unfold execVIota
  exact (refl s).issueTo.ok

theorem execVPerm_runs (o : OpAt) (f : VFmt) (d a i : VReg) (p : Option Nat) (s : State) :
    runs workParts s (execVPerm o f d a i p s) := by
  unfold execVPerm
  exact (refl s).issueTo.ok

theorem execVRed_runs (o : OpAt) (op : VRed) (f : VFmt) (d a : VReg) (p : Option Nat) (s : State) :
    runs workParts s (execVRed o op f d a p s) := by
  unfold execVRed
  exact (refl s).issueTo.ok

theorem execVCvt_runs (o : OpAt) (src dst : VFmt) (d a : VReg) (p : Option Nat) (s : State) :
    runs workParts s (execVCvt o src dst d a p s) := by
  unfold execVCvt
  exact (refl s).issueTo.ok

theorem execVCvtSr_runs (o : OpAt) (src dst : VFmt) (d a : VReg) (xseed xidx : Nat) (p : Option Nat) (s : State) :
    runs workParts s (execVCvtSr o src dst d a xseed xidx p s) := by
  unfold execVCvtSr
  exact (refl s).issueTo.ok

theorem execVPwl_runs (o : OpAt) (d a : VReg) (table : Nat) (p : Option Nat) (s : State) :
    runs workParts s (execVPwl o d a table p s) := by
  unfold execVPwl
  exact (refl s).issueTo.ok

theorem execMZero_runs (o : OpAt) (cn : Nat) (s : State) : runs workParts s (execMZero o cn s) := by
  unfold execMZero
  exact (refl s).issueTo.ok

theorem execMOpa_runs (o : OpAt) (cn : Nat) (a b : VReg) (k : Nat) (s : State) :
    runs workParts s (execMOpa o cn a b k s) := by
  unfold execMOpa
  exact (refl s).issueTo.ok

theorem execMRd_runs (o : OpAt) (d : VReg) (cn r : Nat) (s : State) : runs workParts s (execMRd o d cn r s) := by
  unfold execMRd
  exact (refl s).issueTo.ok

theorem execMWr_runs (o : OpAt) (cn : Nat) (v : VReg) (r : Nat) (s : State) :
    runs workParts s (execMWr o cn v r s) := by
  unfold execMWr
  exact (refl s).issueTo.ok

theorem execMAdd_runs (o : OpAt) (cn : Nat) (v : VReg) (r : Nat) (s : State) :
    runs workParts s (execMAdd o cn v r s) := by
  unfold execMAdd
  exact (refl s).issueTo.ok

theorem execSInit_runs (o : OpAt) (xk xflags : Nat) (s : State) : runs workParts s (execSInit o xk xflags s) := by
  unfold execSInit
  exact (refl s).issueTo.ok

theorem execSIns_runs (o : OpAt) (vk vi : Nat) (p : Option Nat) (s : State) :
    runs workParts s (execSIns o vk vi p s) := by
  unfold execSIns
  exact (refl s).issueTo.ok

theorem execSBitSort_runs (o : OpAt) (vk vi : Nat) (s : State) : runs workParts s (execSBitSort o vk vi s) := by
  unfold execSBitSort
  exact (refl s).issueTo.ok

theorem execSBitMerge_runs (o : OpAt) (vk vi vk2 vi2 : Nat) (s : State) :
    runs workParts s (execSBitMerge o vk vi vk2 vi2 s) := by
  unfold execSBitMerge
  exact (refl s).issueTo.ok

theorem execSExcl_runs (o : OpAt) (pd vk vi xv xi : Nat) (s : State) :
    runs workParts s (execSExcl o pd vk vi xv xi s) := by
  unfold execSExcl
  exact (refl s).issueTo.ok

theorem execSMrg_runs (o : OpAt) (vk vi xn : Nat) (s : State) : runs workParts s (execSMrg o vk vi xn s) := by
  unfold execSMrg
  exact (refl s).issueTo.ok

theorem execSGet_runs (o : OpAt) (vk vi : Nat) (s : State) : runs workParts s (execSGet o vk vi s) := by
  unfold execSGet
  exact (refl s).issueTo.ok

theorem toMiller {o : OpAt} {engine xd : Nat} {f : Prog → State → Option Nat} (h : keeps T s t) :
    keeps T s (t.toMiller o engine xd f) := by
  unfold State.toMiller
  split
  · exact h
  · split
    · exact h.beginWord.illegalOp.nextWord.ite h.beginWord
    · split
      · exact h
      · extract_lets
        split
        · exact h.beginWord
        · split
          · exact h.beginWord.illegalOp.nextWord
          · exact h.beginWord.upd.setX.nextWord

theorem execSCnt_runs (o : OpAt) (xd : Nat) (s : State) : runs workParts s (execSCnt o xd s) := by
  unfold execSCnt
  exact (refl s).toMiller.ok

theorem execMvXv_runs (o : OpAt) (xd vs lane core : Nat) (s : State) :
    runs workParts s (execMvXv o xd vs lane core s) := by
  unfold execMvXv
  exact (refl s).toMiller.ok

/-! ### The operations of Machine/Loom.lean -/

theorem loomPut {mask n base e v : Nat} (h : keeps T s t) : keeps T s (t.loomPut mask n base e v) := by
  unfold State.loomPut
  exact h.setCore

theorem loomFill {mask n base : Nat} {l : List Nat} (h : keeps T s t) : keeps T s (t.loomFill mask n base l) := by
  unfold State.loomFill
  exact foldl (fun _ _ h => h.loomPut) h

theorem summaryRecord {mask rows width : Nat} {cuts : Map Nat} {rec' : List (Nat × Nat) × Nat} (h : keeps T s t) :
    keeps T s (t.summaryRecord mask rows width cuts rec').2 := by
  unfold State.summaryRecord
  exact (foldl (fun _ _ h => h.loomPut.loomPut) h).snd

theorem stateRecord {mask rows width : Nat} {rec' : List (Nat × Nat) × Nat} (h : keeps T s t) :
    keeps T s (t.stateRecord mask rows width rec') := by
  unfold State.stateRecord
  exact foldl (fun _ _ h => h.loomPut) h

/-! ### The operations of Machine/Layers.lean -/

theorem layerWrite {n a : Nat} {d : List Byte} (h : keeps T s t) : keeps T s (t.layerWrite n a d).2 := by
  unfold State.layerWrite
  exact h.upd.taskWrite

theorem layerRead {n a len : Nat} {ecc : EccResult} (h : keeps T s t) : keeps T s (t.layerRead n a len ecc).2 := by
  unfold State.layerRead
  extract_lets
  split
  · exact h.granaryRead.snd
  · exact h.granaryRead.failTask.snd

theorem execCfgL_runs (o : OpAt) (n xs : Nat) (s : State) : runs workParts s (execCfgL o n xs s) := by
  unfold execCfgL
  refine keeps.ok ?_
  refine (refl s).control ?_
  intro _ _ h
  split
  · exact h.illegalOp.snd
  · exact (foldl (fun _ _ h => h.setRow) h).snd

theorem goLayer {o : OpAt} {f : State → Nat → List Nat → State} (h : keeps T s t)
    (hf : ∀ u a1 a2, keeps T s u → keeps T s (f u a1 a2)) : keeps T s (t.goLayer o f) := by
  unfold State.goLayer
  refine h.control ?_
  intro _ _ h
  split
  · exact h.illegalOp
  · exact foldl (fun _ _ h => hf _ _ _ h) h

theorem copyLines {n src dst len : Nat} {eccs : List EccResult} (h : keeps T s t) :
    keeps T s (t.copyLines n src dst len eccs) := by
  unfold State.copyLines
  refine foldlSnd (fun _ _ h => ?_) h.snd
  split
  · exact h
  · extract_lets
    split
    · exact h.layerRead.layerWrite
    · exact h.layerRead.snd

theorem copyLayer {n : Nat} {cfg : List Nat} {eccs : List EccResult} (h : keeps T s t) :
    keeps T s (t.copyLayer n cfg eccs) := by
  unfold State.copyLayer
  exact h.copyLines.ite h.undefineRegion

theorem execGoCopy_runs (o : OpAt) (eccs : List EccResult) (s : State) : runs workParts s (execGoCopy o eccs s) := by
  unfold execGoCopy
  exact ((refl s).goLayer (fun _ _ _ h => h.copyLayer)).ok

theorem reduceInput {n core e : Nat} {t' : VFmt} {len : Nat} {ecc : EccResult} (h : keeps T s t) :
    keeps T s (t.reduceInput n core e t' len ecc).2 := by
  unfold State.reduceInput
  extract_lets
  split
  · split
    · exact h.snd
    · exact h.loadSheaf.snd
  · split
    · exact h.snd
    · exact h.layerRead.snd

theorem reduceInputs {n core redop : Nat} {t' : VFmt} {len : Nat} {es : List (Nat × EccResult)}
    {acc : Option (List Nat)} (h : keeps T s t) : keeps T s (t.reduceInputs n core redop t' len es acc).2 := by
  induction es generalizing t acc with
  | nil => exact h
  | cons e es ih =>
    unfold State.reduceInputs
    extract_lets r
    have hr : keeps T s r.2 := h.reduceInput
    split
    · exact hr
    · exact hr
    · exact ih hr

theorem reduceLayer {n row : Nat} {cfg : List Nat} {eccs : List EccResult} (h : keeps T s t) :
    keeps T s (t.reduceLayer n row cfg eccs) := by
  unfold State.reduceLayer
  extract_lets
  split
  · exact h.undefineRegion
  · split
    · exact h.layerRead
    · extract_lets s1
      have h1 : keeps T s s1.2 := h.layerRead.reduceInputs
      split
      · exact h1.undefineRegion
      · exact h1
      · exact h1.layerWrite

theorem execGoReduce_runs (o : OpAt) (eccs : List EccResult) (s : State) :
    runs workParts s (execGoReduce o eccs s) := by
  unfold execGoReduce
  exact ((refl s).goLayer (fun _ _ _ h => h.reduceLayer)).ok

theorem sieveLayer {n : Nat} {cfg : List Nat} {ecc : EccResult} (h : keeps T s t) :
    keeps T s (t.sieveLayer n cfg ecc) := by
  unfold State.sieveLayer
  extract_lets
  split
  · exact h.undefineRegion
  · split
    · exact h.layerRead
    · exact (h.layerRead.bump.bump.bump.ite h.layerRead.bump.bump).layerWrite

theorem execGoSieve_runs (o : OpAt) (eccs : List EccResult) (s : State) :
    runs workParts s (execGoSieve o eccs s) := by
  unfold execGoSieve
  exact ((refl s).goLayer (fun _ _ _ h => h.sieveLayer)).ok

theorem scanLayer {n row : Nat} {cfg : List Nat} {eccs : List EccResult} (h : keeps T s t) :
    keeps T s (t.scanLayer n row cfg eccs) := by
  unfold State.scanLayer
  extract_lets
  split
  · exact h.undefineRegion
  · refine foldl (fun _ _ h => ?_) h
    extract_lets
    split
    · exact h.layerRead
    · exact h.layerRead.summaryRecord.ite h.layerRead.stateRecord.layerWrite

theorem execGoScan_runs (o : OpAt) (eccs : List EccResult) (s : State) : runs workParts s (execGoScan o eccs s) := by
  unfold execGoScan
  exact ((refl s).goLayer (fun _ _ _ h => h.heldConflict.ite h.scanLayer)).ok

theorem pipeWeights {n cols width : Nat} {l : PipeLayer} {ecc : EccResult} (h : keeps T s t) :
    keeps T s (t.pipeWeights n cols width l ecc).2 := by
  unfold State.pipeWeights
  extract_lets _ s1
  have h1 : keeps T s s1.2 := h.layerRead.layerRead
  split
  · exact h.layerRead.snd
  · split
    · exact h1.snd
    · exact h1.snd

theorem pipeStep {n row rows width : Nat} {l : PipeLayer} {w : List (List Nat)} {bias : List Nat} {inp : Nat}
    {x ys : List Nat} {m : Nat} (h : keeps T s t) : keeps T s (t.pipeStep n row rows width l w bias inp x ys m).2 :=
        by
  unfold State.pipeStep
  exact foldlSnd (fun _ _ h => (foldl (fun _ _ h => h.loomPut) h).snd) (h.ite h.pwlBad).bump.snd

theorem pipeRun {n row : Nat} {b : PipeBlock} {g rows width first count : Nat} {xs : List (List Nat × Nat)}
    {ecc : EccResult} (h : keeps T s t) : keeps T s (t.pipeRun n row b g rows width first count xs ecc).2 := by
  unfold State.pipeRun
  extract_lets _ _ _ _ _ s1
  have h1 : keeps T s s1.2 := by
    unfold s1
    split
    · exact h.pipeWeights.snd
    · exact h.pipeWeights.layerRead
  split
  · exact h.pipeWeights.snd
  · split
    · exact h1.snd
    · extract_lets s2
      have h2 : keeps T s s2.2 := by
        unfold s2
        refine foldlSnd (fun _ _ h => ?_) h1.snd
        split
        · exact h
        · extract_lets _ _ s3
          have h3 : keeps T s s3.2 := by
            unfold s3
            split
            · exact h.snd
            · exact h.layerRead.snd
          split
          · exact h3.snd
          · extract_lets _ _ s4
            have h4 : keeps T s s4.2 := h3.pipeStep.layerWrite
            split
            · exact h4.snd
            · exact h4.snd
      split
      · exact h2.snd
      · extract_lets s5
        have h5 : keeps T s s5.2 := h2.layerWrite
        split
        · exact h5.snd
        · exact h5.snd

theorem pipeLayer {n row : Nat} {cfg : List Nat} {eccs : List EccResult} (h : keeps T s t) :
    keeps T s (t.pipeLayer n row cfg eccs) := by
  unfold State.pipeLayer
  extract_lets
  split
  · exact h.layerRead
  · extract_lets _ _ s1
    have h1 : keeps T s s1.2 := by
      unfold s1
      split
      · exact h.layerRead.layerRead
      · exact h.layerRead.snd
    split
    · exact h.layerRead.undefineRegion
    · split
      · exact h1
      · extract_lets
        split
        · exact h1.pipeRun
        · exact h1.pipeRun.layerWrite.ite h1.pipeRun

theorem execGoPipe_runs (o : OpAt) (eccs : List EccResult) (s : State) : runs workParts s (execGoPipe o eccs s) := by
  unfold execGoPipe
  exact ((refl s).goLayer (fun _ _ _ h => h.heldConflict.ite h.pipeLayer)).ok

/-! ### The operations of Machine/Routines.lean -/

theorem setRoutine {n : Nat} {r : Routine} (h : keeps T s t) : keeps T s (t.setRoutine n r) := by
  unfold State.setRoutine
  exact h.upd

theorem withRoutine {n : Nat} {f : Routine → Routine} (h : keeps T s t) : keeps T s (t.withRoutine n f) := by
  unfold State.withRoutine
  exact h.setRoutine

theorem setRec {n : Nat} {f : RecFld} {v : Nat} (h : keeps T s t) : keeps T s (t.setRec n f v) := by
  unfold State.setRec
  exact h.upd

theorem newRecord {n phase : Nat} (h : keeps T s t) : keeps T s (t.newRecord n phase) := by
  unfold State.newRecord
  exact h.upd.setRec.setRec.setRec.setRec.setRoutine

theorem localBytes {n a len : Nat} {ecc : EccResult} (h : keeps T s t) : keeps T s (t.localBytes n a len ecc).2 := by
  unfold State.localBytes
  split
  · split
    · exact h.layerRead.snd
    · exact h.failTask.snd
  · extract_lets
    split
    · exact h.setTask.withRoutine.snd
    · split
      · exact h.snd
      · split
        · exact h.hostRead.withRoutine.snd
        · exact h.hostRead.finish.snd

theorem sourcePart {n src total off len : Nat} {ecc : EccResult} (h : keeps T s t) :
    keeps T s (t.sourcePart n src total off len ecc).2 := by
  unfold State.sourcePart
  split
  · exact h.localBytes
  · extract_lets _ _ _ _ _ _ _ s1
    have h1 : keeps T s s1.2 := h.localBytes.localBytes
    split
    · extract_lets s2
      have h2 : keeps T s s2.2 := by
        unfold s2
        refine foldlSnd (fun _ _ h => ?_) h1.snd
        split
        · exact h
        · exact h.hostTally
      split
      · exact h2.snd
      · exact h2.failTask.snd
    · exact h.localBytes.snd
    · exact h1.snd
    · exact h1.snd

theorem localWrite {n a off : Nat} {d : List Byte} (h : keeps T s t) : keeps T s (t.localWrite n a off d) := by
  unfold State.localWrite
  exact h.ite (h.layerWrite.ite (h.hostWrite.ite h.hostWrite.finish))

theorem takeSheaf {n land : Nat} {ecc : EccResult} (h : keeps T s t) : keeps T s (t.takeSheaf n land ecc).2 := by
  unfold State.takeSheaf
  split
  · exact h.snd
  · extract_lets
    split
    · exact h.loadSheaf.upd.snd
    · split
      · exact h.loadSheaf.upd.snd
      · exact h.loadSheaf.upd.failTask.snd

theorem emit {n flow : Nat} {last : Bool} {payload : List Byte} (h : keeps T s t) :
    keeps T s (t.emit n flow last payload) := by
  unfold State.emit
  exact h.withRoutine

theorem flushOut {n f : Nat} (h : keeps T s t) : keeps T s (State.flushOut n f t) := by
  induction f generalizing t with
  | zero => exact h
  | succ f ih =>
    unfold State.flushOut
    split
    · exact h
    · exact h.ite (ih h.withRoutine.queueSheaf.upd.setRec)

theorem streamBad {n : Nat} (h : keeps T s t) : keeps T s (t.streamBad n) := by
  unfold State.streamBad
  exact h.failTask

theorem emitDown {n : Nat} {last : Bool} {payload : List Byte} (h : keeps T s t) :
    keeps T s (t.emitDown n last payload) := by
  unfold State.emitDown
  exact foldl (fun _ _ h => h.emit) h

theorem endGroup {n status detail low : Nat} (h : keeps T s t) : keeps T s (t.endGroup n status detail low) := by
  unfold State.endGroup
  exact h.setTask.finish

theorem workLoop {work : State → EccResult → Option State} {n f : Nat} {es : List EccResult} (h : keeps T s t)
    (hw : ∀ u e, keeps T s u → keepsO T s (work u e)) : keeps T s (State.workLoop work n f es t) := by
  induction f generalizing t es with
  | zero => exact h.flushOut
  | succ f ih =>
    unfold State.workLoop
    refine h.flushOut.ite ?_
    split
    · exact h.flushOut
    · next e => exact ih (hw _ _ h.flushOut e)

theorem routineStep {n blocks : Nat} {eccs : List EccResult} {work : State → EccResult → Option State}
    (h : keeps T s t) (hw : ∀ u e, keeps T s u → keepsO T s (work u e)) : keeps T s (t.routineStep n blocks eccs
        work) := by
  unfold State.routineStep
  extract_lets _ s1 s2
  have h2 : keeps T s s2 := (h.setTask.bump.trace : keeps T s s1).workLoop hw
  exact h2.ite h2.setRec.setTask.trace.stepPoint

theorem execOpProgramRun_runs (slot : Nat) (img : Image) (ecc : EccResult) (s : State) :
    runs workParts s (execOpProgramRun slot img ecc s) := by
  unfold execOpProgramRun
  split
  · exact (refl s).ok
  · extract_lets _ _ s1 s2
    have h1 : keeps False s s1.2 := (refl s).sourcePart
    have h2 : keeps False s s2 := h1.loadImage
    split
    · exact h1.ok
    · exact h1.stepPoint.ok
    · exact runs_ite h1.finish.ok (runs_ite h2.ok h2.upd.ok)

theorem execAbortNoticeReceive_runs (src : Nat) (sheaf : Sheaf) (s : State) :
    runs workParts s (execAbortNoticeReceive src sheaf s) := by
  unfold execAbortNoticeReceive
  exact runs_ite (refl s).abortArrive.ok (refl s).ok

theorem execAbortNoticeExpired_runs (group inst : Nat) (s : State) :
    runs workParts s (execAbortNoticeExpired group inst s) := by
  unfold execAbortNoticeExpired
  split
  · exact (refl s).ok
  · exact (refl s).upd.noticeRecord.ok

/-! ### The operations of Machine/Collect.lean -/

theorem exclude {n i : Nat} (h : keeps T s t) : keeps T s (t.exclude n i) := by
  unfold State.exclude
  exact h.setRec.setRec.withRoutine

theorem waitChild {n i : Nat} (h : keeps T s t) : keepsO T s (t.waitChild n i) := by
  unfold State.waitChild
  exact iteO none_ (iteO (some_ h.exclude) (iteO none_ (some_ h.setRec.withRoutine)))

theorem takeChild {n i : Nat} {ecc : EccResult} (h : keeps T s t) : keeps T s (t.takeChild n i ecc).2 := by
  unfold State.takeChild
  exact h.takeSheaf.withRoutine.snd

theorem childCensus {n i op elements : Nat} {x : Sheaf} (h : keeps T s t) :
    keeps T s (t.childCensus n i op elements x) := by
  unfold State.childCensus
  exact h.setRec.setRec.ite h.streamBad

theorem keepElems {n k : Nat} {l : List Nat} (h : keeps T s t) : keeps T s (t.keepElems n k l) := by
  unfold State.keepElems
  exact h.localWrite.ite h.localWrite

theorem sendElems {n : Nat} {flush : Bool} {f : Nat} (h : keeps T s t) : keeps T s (State.sendElems n flush f t) := by
  induction f generalizing t with
  | zero => exact h
  | succ f ih =>
    unfold State.sendElems
    exact (ih h.emitDown.withRoutine).ite h

theorem rootEmit {n k : Nat} {l : List Nat} (h : keeps T s t) : keeps T s (t.rootEmit n k l) := by
  unfold State.rootEmit
  exact h.keepElems.withRoutine.sendElems.ite h.keepElems

theorem rootCensus {n elements : Nat} (h : keeps T s t) : keeps T s (t.rootCensus n elements) := by
  unfold State.rootCensus
  exact (h.sendElems.emitDown.ite h.sendElems).setRec

theorem blockDone {n b : Nat} (h : keeps T s t) : keeps T s (t.blockDone n b) := by
  unfold State.blockDone
  extract_lets _ _ _ s1
  have h1 : keeps T s s1 := h.setRec.setRec.withRoutine
  exact h1.emit.ite (h1.withRoutine.ite h1.rootEmit)

theorem upWork {n : Nat} {ecc : EccResult} (h : keeps T s t) : keepsO T s (t.upWork n ecc) := by
  unfold State.upWork
  extract_lets
  split
  · split
    · split
      · exact iteO none_ (some_ h.sourcePart)
      · exact some_ h.sourcePart
      · exact some_ h.sourcePart.setRec.withRoutine
    · split
      · exact some_ h.blockDone
      · split
        · exact some_ h.setRec
        · split
          · exact h.waitChild
          · split
            · exact some_ h.takeChild
            · exact iteO (some_ h.takeChild.streamBad) (some_ h.takeChild.setRec.withRoutine)
  · split
    · exact some_ h.setRec
    · split
      · split
        · exact some_ h.setRec
        · split
          · exact h.waitChild
          · split
            · exact some_ h.takeChild
            · exact some_ h.takeChild.childCensus
      · exact iteO (some_ (h.rootEmit.ite h).rootCensus) (some_ h.emit.setRec)

theorem downKeep {n k : Nat} {l : List Nat} (h : keeps T s t) : keeps T s (t.downKeep n k l) := by
  unfold State.downKeep
  exact h.keepElems.withRoutine

theorem downWork {n : Nat} {ecc : EccResult} (h : keeps T s t) : keepsO T s (t.downWork n ecc) := by
  unfold State.downWork
  extract_lets
  split
  · exact none_
  · split
    · exact some_ h.takeSheaf
    · extract_lets _ _ _ s1
      have h1 : keeps T s s1 := h.takeSheaf.emitDown.downKeep.ite h.takeSheaf.emitDown
      exact iteO (iteO (some_ h.takeSheaf.emitDown.downKeep.withRoutine) (iteO (some_ h.takeSheaf.emitDown.streamBad)
          (some_ h.takeSheaf.emitDown.downKeep))) (iteO (some_ h1.setRec.setRec.withRoutine) (some_ h1.streamBad))

theorem broadcastWork {n : Nat} {ecc : EccResult} (h : keeps T s t) : keepsO T s (t.broadcastWork n ecc) := by
  unfold State.broadcastWork
  extract_lets
  split
  · exact some_ h.setRec.rootCensus
  · split
    · exact iteO none_ (some_ h.sourcePart)
    · exact some_ h.sourcePart
    · exact some_ h.sourcePart.rootEmit.withRoutine

theorem gatherPut {n : Nat} {l : List Nat} (h : keeps T s t) : keeps T s (t.gatherPut n l) := by
  unfold State.gatherPut
  exact h.withRoutine.rootEmit.ite (foldl (fun _ _ h => h.emit) h.withRoutine).withRoutine

theorem gatherWork {n : Nat} {ecc : EccResult} (h : keeps T s t) : keepsO T s (t.gatherWork n ecc) := by
  unfold State.gatherWork
  extract_lets
  split
  · split
    · exact some_ h.setRec
    · split
      · exact iteO none_ (some_ h.sourcePart)
      · exact some_ h.sourcePart
      · exact some_ h.sourcePart.gatherPut
  · split
    · split
      · exact some_ h.setRec
      · split
        · exact h.waitChild
        · split
          · exact some_ h.takeChild
          · exact iteO (some_ h.takeChild.gatherPut.withRoutine) (iteO (some_
                h.takeChild.gatherPut.withRoutine.childCensus) (some_ h.takeChild.streamBad))
    · exact iteO (some_ h.rootCensus) (some_ (h.ite h.emit).emit.setRec.withRoutine)

theorem peerEntry {n j : Nat} (h : keeps T s t) : keeps T s (t.peerEntry n j).2 := by
  unfold State.peerEntry
  exact h.layerRead.snd

theorem peerSend {n : Nat} {ecc : EccResult} (h : keeps T s t) : keepsO T s (t.peerSend n ecc) := by
  unfold State.peerSend
  extract_lets _ _ _ _ _ next r p
  have hn : ∀ {u : State}, keeps T s u → keeps T s (next u) := fun h => h.setRec.ite h.setRec.setRec
  have hr : keeps T s r.2 := h.sourcePart
  split
  · exact iteO none_ (some_ hr)
  · exact some_ hr
  · refine iteO (some_ (hn hr.localWrite)) ?_
    have hp : keeps T s p.2 := hr.peerEntry
    split
    · exact some_ hp
    · exact some_ (hn hp.emit)

theorem peerTake {n : Nat} {ecc : EccResult} (h : keeps T s t) : keepsO T s (t.peerTake n ecc) := by
  unfold State.peerTake
  extract_lets d g found
  clear_value found
  split
  · exact none_
  · extract_lets
    split
    · exact some_ h.takeSheaf
    · exact some_ h.takeSheaf.localWrite.withRoutine

theorem peerWork {n : Nat} {ecc : EccResult} (h : keeps T s t) : keepsO T s (t.peerWork n ecc) := by
  unfold State.peerWork
  extract_lets
  split
  next hu =>
    exact some_ (h.peerTake hu)
  · exact iteO h.peerSend (iteO (some_ h.setRec.setRec) none_)

theorem colEnd {n : Nat} (h : keeps T s t) : keepsO T s (t.colEnd n) := by
  unfold State.colEnd
  exact iteO none_ (iteO (some_ h.endGroup) (some_ h.endGroup))

theorem reduceWork {n : Nat} {ecc : EccResult} (h : keeps T s t) : keepsO T s (t.reduceWork n ecc) := by
  unfold State.reduceWork
  split
  · exact h.upWork
  · exact h.downWork
  · exact h.colEnd

theorem bcastWork {n : Nat} {ecc : EccResult} (h : keeps T s t) : keepsO T s (t.bcastWork n ecc) := by
  unfold State.bcastWork
  split
  · exact h.broadcastWork
  · exact h.downWork
  · exact h.colEnd

theorem allGatherWork {n : Nat} {ecc : EccResult} (h : keeps T s t) : keepsO T s (t.allGatherWork n ecc) := by
  unfold State.allGatherWork
  split
  · exact h.gatherWork
  · exact h.downWork
  · exact h.colEnd

theorem allToAllWork {n : Nat} {ecc : EccResult} (h : keeps T s t) : keepsO T s (t.allToAllWork n ecc) := by
  unfold State.allToAllWork
  split
  · exact h.peerWork
  · exact h.colEnd

theorem colStart {n : Nat} (h : keeps T s t) : keeps T s (t.colStart n) := by
  unfold State.colStart
  exact h.ite h.newRecord

theorem execOpAllReduce_runs (slot blocks : Nat) (eccs : List EccResult) (s : State) :
    runs workParts s (execOpAllReduce slot blocks eccs s) := by
  unfold execOpAllReduce
  split
  · exact ((refl s).colStart.routineStep (fun _ _ h => h.reduceWork)).ok
  · exact (refl s).ok

theorem execOpReduce_runs (slot blocks : Nat) (eccs : List EccResult) (s : State) :
    runs workParts s (execOpReduce slot blocks eccs s) := by
  unfold execOpReduce
  split
  · exact ((refl s).colStart.routineStep (fun _ _ h => h.reduceWork)).ok
  · exact (refl s).ok

theorem execOpReduceScatter_runs (slot blocks : Nat) (eccs : List EccResult) (s : State) :
    runs workParts s (execOpReduceScatter slot blocks eccs s) := by
  unfold execOpReduceScatter
  split
  · exact ((refl s).colStart.routineStep (fun _ _ h => h.reduceWork)).ok
  · exact (refl s).ok

theorem execOpBroadcast_runs (slot blocks : Nat) (eccs : List EccResult) (s : State) :
    runs workParts s (execOpBroadcast slot blocks eccs s) := by
  unfold execOpBroadcast
  split
  · exact ((refl s).colStart.routineStep (fun _ _ h => h.bcastWork)).ok
  · exact (refl s).ok

theorem execOpAllGather_runs (slot blocks : Nat) (eccs : List EccResult) (s : State) :
    runs workParts s (execOpAllGather slot blocks eccs s) := by
  unfold execOpAllGather
  split
  · exact ((refl s).colStart.routineStep (fun _ _ h => h.allGatherWork)).ok
  · exact (refl s).ok

theorem execOpAllToAll_runs (slot blocks : Nat) (eccs : List EccResult) (s : State) :
    runs workParts s (execOpAllToAll slot blocks eccs s) := by
  unfold execOpAllToAll
  split
  · exact ((refl s).colStart.routineStep (fun _ _ h => h.allToAllWork)).ok
  · exact (refl s).ok

theorem execOpBarrier_runs (slot blocks : Nat) (eccs : List EccResult) (s : State) :
    runs workParts s (execOpBarrier slot blocks eccs s) := by
  unfold execOpBarrier
  split
  · exact ((refl s).colStart.routineStep (fun _ _ h => h.reduceWork)).ok
  · exact (refl s).ok

theorem execPartialExclusion_runs (slot child : Nat) (s : State) :
    runs workParts s (execPartialExclusion slot child s) := by
  unfold execPartialExclusion
  exact runs_ite (refl s).exclude.ok (refl s).ok

/-! ### The operations of Machine/Select.lean -/

theorem selPiece {n r j : Nat} {ecc : EccResult} (h : keeps T s t) : keeps T s (t.selPiece n r j ecc).2 := by
  unfold State.selPiece
  exact h.sourcePart.snd

theorem sieveNote {n kind row : Nat} (h : keeps T s t) : keeps T s (t.sieveNote n kind row) := by
  unfold State.sieveNote
  exact h.wr.wr.wr.wr.raise

theorem listOrderBad {n row : Nat} (h : keeps T s t) : keeps T s (t.listOrderBad n row) := by
  unfold State.listOrderBad
  exact h.sieveNote.failTask

theorem sieveCensusBad {n : Nat} (h : keeps T s t) : keeps T s (t.sieveCensusBad n) := by
  unfold State.sieveCensusBad
  exact h.sieveNote.failTask

theorem mergeRow {n r : Nat} {l : List (Nat × Nat)} (h : keeps T s t) : keeps T s (t.mergeRow n r l) := by
  unfold State.mergeRow
  exact h.withRoutine

theorem selLocal {n : Nat} {ecc : EccResult} (h : keeps T s t) : keepsO T s (t.selLocal n ecc) := by
  unfold State.selLocal
  extract_lets
  split
  · exact some_ h.setRec.setRec.setRec
  · split
    · exact iteO none_ (some_ h.selPiece)
    · exact some_ h.selPiece
    · extract_lets _ _ _ s1
      have h1 : keeps T s s1 := (h.selPiece.bump.bump.bump.ite h.selPiece.bump.bump).mergeRow
      exact some_ (h1.setRec.ite h1.setRec.setRec)

theorem listCensus {n c : Nat} {x : Sheaf} (h : keeps T s t) : keeps T s (t.listCensus n c x) := by
  unfold State.listCensus
  extract_lets
  split
  · exact h.sieveCensusBad
  · split
    · exact h.listOrderBad
    · exact (foldl (fun _ _ h => h.mergeRow) h).bump.setRec.setRec.withRoutine

theorem setBounds {n : Nat} (h : keeps T s t) : keeps T s (t.setBounds n) := by
  unfold State.setBounds
  exact h.withRoutine

theorem selList {n : Nat} {ecc : EccResult} (h : keeps T s t) : keepsO T s (t.selList n ecc) := by
  unfold State.selList
  extract_lets
  split
  · split
    · exact none_
    · split
      · exact some_ h.takeChild
      · split
        · exact some_ h.takeChild.listCensus
        · split
          · exact some_ h.takeChild.listOrderBad
          · exact some_ h.takeChild.withRoutine
  · exact iteO (some_ h.setBounds.setRec.setRec) (iteO (some_ h.emit.withRoutine) (some_ h.emit.setRec.withRoutine))

theorem beginSums {n : Nat} (h : keeps T s t) : keeps T s (t.beginSums n) := by
  unfold State.beginSums
  exact h.setRec.setRec.setRec.setRec.setRec.withRoutine

theorem selBound {n : Nat} {ecc : EccResult} (h : keeps T s t) : keepsO T s (t.selBound n ecc) := by
  unfold State.selBound
  extract_lets
  split
  · exact iteO (some_ h.emitDown.setRec) (some_ h.emitDown.withRoutine.beginSums)
  · split
    · exact none_
    · split
      · exact some_ h.takeSheaf
      · exact iteO (iteO (some_ h.takeSheaf.emitDown.beginSums) (some_ h.takeSheaf.emitDown.sieveCensusBad)) (some_
            h.takeSheaf.emitDown.withRoutine)

theorem selSums {n : Nat} {ecc : EccResult} (h : keeps T s t) : keepsO T s (t.selSums n ecc) := by
  unfold State.selSums
  extract_lets
  split
  · split
    · exact some_ h.setRec.setRec
    · split
      · exact iteO none_ (some_ h.selPiece)
      · exact some_ h.selPiece
      · extract_lets _ s1
        have h1 : keeps T s s1 := h.selPiece.withRoutine
        exact some_ (h1.setRec.ite h1.setRec.setRec)
  · split
    · split
      · exact none_
      · split
        · exact some_ h.takeChild
        · exact iteO (iteO (some_ h.takeChild.setRec.setRec) (some_ h.takeChild.sieveCensusBad)) (some_
              h.takeChild.withRoutine)
    · exact iteO (some_ h.setRec.setRec.setRec.withRoutine) (iteO (some_ h.emit.setRec) (some_ h.emit.setRec.setRec))

theorem sendRecord {n : Nat} {flush : Bool} {f : Nat} (h : keeps T s t) :
    keeps T s (State.sendRecord n flush f t) := by
  induction f generalizing t with
  | zero => exact h
  | succ f ih =>
    unfold State.sendRecord
    exact (ih h.emitDown.withRoutine).ite h

theorem countRecords {n q k f : Nat} (h : keeps T s t) : keeps T s (State.countRecords n q k f t) := by
  induction f generalizing t with
  | zero => exact h
  | succ f ih =>
    unfold State.countRecords
    exact (ih h.withRoutine).ite h

theorem selRecords {n : Nat} {ecc : EccResult} (h : keeps T s t) : keepsO T s (t.selRecords n ecc) := by
  unfold State.selRecords
  extract_lets
  split
  · exact iteO (some_ h.endGroup) none_
  · split
    · exact iteO (some_ h.localWrite.withRoutine.sendRecord.setRec.bump) (some_ h.sendRecord.emitDown.withRoutine)
    · split
      · exact none_
      · split
        · exact some_ h.takeSheaf
        · exact iteO (iteO (some_ h.takeSheaf.emitDown.setRec.bump.withRoutine) (some_
              h.takeSheaf.emitDown.sieveCensusBad)) (some_
              h.takeSheaf.emitDown.localWrite.withRoutine.countRecords.setRec)

theorem selWork {n : Nat} {ecc : EccResult} (h : keeps T s t) : keepsO T s (t.selWork n ecc) := by
  unfold State.selWork
  split
  · exact h.selLocal
  · exact h.selList
  · exact h.selBound
  · exact h.selSums
  · exact h.selRecords

theorem selStart {n : Nat} (h : keeps T s t) : keeps T s (t.selStart n) := by
  unfold State.selStart
  exact h.ite h.newRecord.bump

theorem execOpSelect_runs (slot blocks : Nat) (eccs : List EccResult) (s : State) :
    runs workParts s (execOpSelect slot blocks eccs s) := by
  unfold execOpSelect
  exact runs_ite ((refl s).selStart.routineStep (fun _ _ h => h.selWork)).ok (refl s).ok

/-! ### The operations of Machine/Scan.lean -/

theorem chainBad {n : Nat} (h : keeps T s t) : keeps T s (t.chainBad n) := by
  unfold State.chainBad
  exact h.loomNote.raise.failTask

theorem scanEnd {n : Nat} (h : keeps T s t) : keepsO T s (t.scanEnd n) := by
  unfold State.scanEnd
  exact iteO (some_ h.endGroup) none_

theorem scanClose {n : Nat} (h : keeps T s t) : keeps T s (t.scanClose n) := by
  unfold State.scanClose
  exact h.withRoutine

theorem scanInit {n : Nat} {ecc : EccResult} (h : keeps T s t) : keeps T s (t.scanInit n ecc).2 := by
  unfold State.scanInit
  extract_lets
  split
  · exact h.layerRead.snd
  · exact h.snd

theorem withPiece {n src total off len : Nat} {ecc : EccResult} {f : State → List Byte → State} (h : keeps T s t)
    (hf : ∀ u a1, keeps T s u → keeps T s (f u a1)) : keepsO T s (t.withPiece n src total off len ecc f) := by
  unfold State.withPiece
  extract_lets
  split
  · exact iteO none_ (some_ h.sourcePart)
  · exact some_ h.sourcePart
  · exact some_ (hf _ _ h.sourcePart)

theorem carryOwn {n : Nat} {ecc : EccResult} (h : keeps T s t) : keepsO T s (t.carryOwn n ecc) := by
  unfold State.carryOwn
  exact iteO (h.withPiece (fun _ _ h => (foldl (fun _ _ h => h.loomPut) h).setRec)) (h.withPiece (fun _ _ h =>
      h.withRoutine.setRec.setRec))

theorem chunkOwn {n : Nat} {ecc : EccResult} (h : keeps T s t) : keepsO T s (t.chunkOwn n ecc) := by
  unfold State.chunkOwn
  exact iteO (h.withPiece (fun _ _ h => h.summaryRecord.withRoutine.setRec)) (some_ h.setRec.setRec)

theorem takePos {n p : Nat} (h : keeps T s t) : keeps T s (t.takePos n p) := by
  unfold State.takePos
  exact h.chainBad.ite h.withRoutine

theorem chainIn {n : Nat} {x : Sheaf} (h : keeps T s t) : keeps T s (t.chainIn n x) := by
  unfold State.chainIn
  extract_lets
  split
  · exact h.withRoutine.takePos.ite h.chainBad
  · split
    · exact h.withRoutine.withRoutine
    · exact h.withRoutine.withRoutine.ite (h.withRoutine.withRoutine.ite h.withRoutine.chainBad)

theorem chainWork {n : Nat} {ecc : EccResult} (h : keeps T s t) : keepsO T s (t.chainWork n ecc) := by
  unfold State.chainWork
  extract_lets
  split
  · split
    · split
      · exact some_ h.scanInit
      · exact some_ h.scanInit.withRoutine.takePos
    · split
      · exact none_
      · split
        · exact some_ h.takeSheaf
        · exact some_ h.takeSheaf.chainIn
  · exact iteO (some_ h.setRec.setRec) (iteO (some_ h.withRoutine.emit.bump) (some_ h.withRoutine.emit.bump))

theorem countSteps {n mask : Nat} (h : keeps T s t) : keeps T s (t.countSteps n mask) := by
  unfold State.countSteps
  exact h.bump.bump.withRoutine

theorem carryOut {n : Nat} (h : keeps T s t) : keepsO T s (t.carryOut n) := by
  unfold State.carryOut
  exact iteO (some_ h.localWrite.setRec) (some_ h.scanClose)

theorem chunkOut {n : Nat} {ecc : EccResult} (h : keeps T s t) : keepsO T s (t.chunkOut n ecc) := by
  unfold State.chunkOut
  exact iteO (h.withPiece (fun _ _ h => (h.loomFill.ite h).stateRecord.localWrite.countSteps.setRec)) (some_
      h.scanClose)

theorem carryWork {n : Nat} {ecc : EccResult} (h : keeps T s t) : keepsO T s (t.carryWork n ecc) := by
  unfold State.carryWork
  split
  · exact h.scanEnd
  · split
    · exact h.carryOwn
    · exact h.chainWork
    · exact h.carryOut

theorem chunkWork {n : Nat} {ecc : EccResult} (h : keeps T s t) : keepsO T s (t.chunkWork n ecc) := by
  unfold State.chunkWork
  split
  · exact h.scanEnd
  · split
    · exact h.chunkOwn
    · exact h.chainWork
    · exact h.chunkOut

theorem windowOver {n : Nat} (h : keeps T s t) : keeps T s (t.windowOver n) := by
  unfold State.windowOver
  exact h.withRoutine

theorem chunkDone {n : Nat} {b : List Byte} (h : keeps T s t) : keeps T s (t.chunkDone n b) := by
  unfold State.chunkDone
  exact h.localWrite.scanClose.ite h.windowOver.withRoutine

theorem streamWork {n : Nat} {ecc : EccResult} (h : keeps T s t) : keepsO T s (t.streamWork n ecc) := by
  unfold State.streamWork
  extract_lets
  split
  · exact h.scanEnd
  · split
    · exact none_
    · split
      · split
        · exact iteO none_ (some_ h.localBytes)
        · exact some_ h.localBytes
        · exact iteO (some_ h.localBytes.bump.windowOver) (iteO (some_ h.localBytes.withRoutine) (some_
              h.localBytes.withRoutine))
      · exact iteO (some_ h.chunkDone) (h.withPiece (fun _ _ h =>
            h.stateRecord.localWrite.countSteps.withRoutine.setRec))

theorem pipeLayerWork {n g j : Nat} {ecc : EccResult} (h : keeps T s t) : keeps T s (t.pipeLayerWork n g j ecc) := by
  unfold State.pipeLayerWork
  extract_lets
  split
  · exact h.pipeRun
  · exact (foldl (fun _ _ h => h.localWrite.countSteps) h.pipeRun).ite h.pipeRun

theorem pipeStepWork {n k : Nat} {ecc : EccResult} (h : keeps T s t) : keeps T s (t.pipeStepWork n k ecc) := by
  unfold State.pipeStepWork
  exact (foldl (fun _ _ h => h.pipeLayerWork.ite h) h).setRec

theorem pipeBad {n : Nat} (h : keeps T s t) : keeps T s (t.pipeBad n) := by
  unfold State.pipeBad
  exact h.record.finish

theorem pipeWork {n : Nat} {ecc : EccResult} (h : keeps T s t) : keepsO T s (t.pipeWork n ecc) := by
  unfold State.pipeWork
  extract_lets
  split
  · exact h.scanEnd
  · split
    · split
      · exact iteO none_ (some_ h.localBytes)
      · exact some_ h.localBytes
      · exact iteO (some_ h.localBytes.withRoutine) (some_ h.localBytes.pipeBad)
    · exact iteO (some_ h.scanClose) (iteO (some_ h.pipeStepWork) (h.withPiece (fun _ _ h =>
          h.withRoutine.pipeStepWork)))

theorem scanStart {n : Nat} {ecc : EccResult} (h : keeps T s t) : keeps T s (t.scanStart n ecc) := by
  unfold State.scanStart
  extract_lets _ _ s1
  have h1 : keeps T s s1 := h.newRecord.bump.holdRows
  split
  · exact h.withRoutine.ite h
  · split
    · exact h1.scanInit.loomFill.withRoutine
    · exact (foldl (fun _ _ h => h.loomFill) h1).ite h1.loomFill.loomFill

theorem execOpScanCarry_runs (slot blocks : Nat) (eccs : List EccResult) (s : State) :
    runs workParts s (execOpScanCarry slot blocks eccs s) := by
  unfold execOpScanCarry
  split
  · exact ((refl s).scanStart.routineStep (fun _ _ h => h.carryWork)).ok
  · exact (refl s).ok

theorem execOpScanChunk_runs (slot blocks : Nat) (eccs : List EccResult) (s : State) :
    runs workParts s (execOpScanChunk slot blocks eccs s) := by
  unfold execOpScanChunk
  split
  · exact ((refl s).scanStart.routineStep (fun _ _ h => h.chunkWork)).ok
  · exact (refl s).ok

theorem execOpScanStream_runs (slot blocks : Nat) (eccs : List EccResult) (s : State) :
    runs workParts s (execOpScanStream slot blocks eccs s) := by
  unfold execOpScanStream
  split
  · exact ((refl s).scanStart.routineStep (fun _ _ h => h.streamWork)).ok
  · exact (refl s).ok

theorem execOpScanPipe_runs (slot blocks : Nat) (eccs : List EccResult) (s : State) :
    runs workParts s (execOpScanPipe slot blocks eccs s) := by
  unfold execOpScanPipe
  split
  · exact ((refl s).scanStart.routineStep (fun _ _ h => h.pipeWork)).ok
  · exact (refl s).ok

theorem writeCurve {path : Sys2Proof.Path} {k v : Nat} (h : keeps T s t) : keeps T s (t.writeCurve path k v) := by
  unfold State.writeCurve
  exact h.dropShadow.ite (h.loomNote.bump.raise.ite h.upd.wr)

theorem execCurveShadowWrite_runs (path : Sys2Proof.Path) (k : Nat) (val : Word) (s : State) :
    runs workParts s (execCurveShadowWrite path k val s) := by
  unfold execCurveShadowWrite
  exact runs_ite (refl s).writeCurve.ok (refl s).ok

/-! ### The operations of Machine/Trace.lean -/

theorem writeTraceCtrl {v : Nat} (h : keeps T s t) : keeps T s (t.writeTraceCtrl v) := by
  unfold State.writeTraceCtrl
  extract_lets s1
  have h1 : keeps T s s1 := h.wrB.wrB.wrB.wrB.wrB.wrB
  exact h1.wr.wr.upd.ite h1

theorem execTraceCtrlWrite_runs (val : Word) (s : State) : runs workParts s (execTraceCtrlWrite val s) := by
  unfold execTraceCtrlWrite
  exact (refl s).writeTraceCtrl.ok

theorem streamGroup {g : Nat} {rest : List Nat} (h : keeps T s t) : keeps T s (t.streamGroup g rest) := by
  unfold State.streamGroup
  exact h.upd.hostTx.bump.ite h.upd.windowFault.bump.raise

theorem execTraceGroupStream_runs (s : State) : runs workParts s (execTraceGroupStream s) := by
  unfold execTraceGroupStream
  split
  · exact (refl s).ok
  · exact runs_ite (refl s).streamGroup.ok (refl s).ok

/-! ### The operations of Machine/Access.lean -/

theorem counterWord {path : Sys2Proof.Path} {p off : Nat} (h : keeps T s t) :
    keeps T s (t.counterWord path p off).2 := by
  unfold State.counterWord
  extract_lets
  split
  · exact h.snd
  · split
    · exact h.ctrReadLo
    · exact h.snd

theorem clearRc {page off : Nat} (h : keeps T s t) : keeps T s (t.clearRc page off) := by
  unfold State.clearRc
  exact foldl (fun _ _ h => h.wr.ite h) h

theorem readPage {path : Sys2Proof.Path} {page off : Nat} (h : keeps T s t) :
    keeps T s (t.readPage path page off).2 := by
  unfold State.readPage
  split
  · exact h.snd
  · split
    · exact h.counterWord
    · split
      · exact h.bellNumLo
      · split
        · exact h.snd
        · split
          · exact h.upd.snd
          · split
            · exact h.snd
            · exact h.clearRc.snd

theorem writeField {path : Sys2Proof.Path} {v : Nat} {f : Fld} {a : Machine.Acc} (h : keeps T s t) :
    keeps T s (t.writeField path v f a) := by
  unfold State.writeField
  extract_lets
  split
  · exact h.wr
  · exact h.wr
  · exact h.wr.wr
  · exact h.wr
  · exact h
  · exact h
  · exact h
  · exact h

theorem writeFields {path : Sys2Proof.Path} {page off v : Nat} (h : keeps T s t) :
    keeps T s (t.writeFields path page off v) := by
  unfold State.writeFields
  exact h.dropShadow.ite (foldl (fun _ _ h => foldl (fun _ _ h => h.writeField) h) h)

theorem writeXt {path : Sys2Proof.Path} {h' m v : Nat} (h : keeps T s t) : keeps T s (t.writeXt path h' m v) := by
  unfold State.writeXt
  exact h.dropShadow.ite h.upd.wr.wr

theorem writeWindow {path : Sys2Proof.Path} {off v : Nat} (h : keeps T s t) :
    keeps T s (t.writeWindow path off v) := by
  unfold State.writeWindow
  exact h.dropShadow.ite h.upd.wr

theorem writeCmdCtrl {v : Nat} (h : keeps T s t) : keeps T s (t.writeCmdCtrl v) := by
  unfold State.writeCmdCtrl
  extract_lets s1 s2
  have h1 : keeps T s s1 := h.cmdEnable.ite h.cmdDisable
  have h2 : keeps T s s2 := h1.ringResume.ite h1
  exact h2.breakResume.ite h2

theorem ownLow {page off v : Nat} (h : keeps False s t) : keepsO False s (t.ownLow page off v) := by
  unfold State.ownLow
  exact iteO (some_ h.writeTopReset) (iteO (some_ ((foldl (fun _ _ h => h.requestSnap) h).ite h)) (iteO (some_
      h.writeBellCtrl) (iteO (some_ h.writePref) (iteO (some_ h.almCtrl) (iteO (some_ h.flashCmd) (iteO (some_
      h.debugLock) (iteO (some_ h.submitToken) (iteO (some_ h.svnCtrl) (iteO (some_ h.clearSummary) (iteO (some_
      h.writeAlarmCtrl) (iteO (some_ (h.alarmAskRelease.ite h)) (iteO (some_ h.writeAlarmReset) (iteO (some_
      h.writeLedgerCtrl) (iteO (some_ h.ledgerRearm) (iteO (some_ h.writeRp) (iteO (some_ h.ageReset) (iteO (some_
      h.calibRequest) (iteO (some_ (h.wr.ite h)) none_))))))))))))))))))

theorem ownHigh {path : Sys2Proof.Path} {page off v : Nat} (h : keeps T s t) :
    keepsO T s (t.ownHigh path page off v) := by
  unfold State.ownHigh
  exact iteO (some_ h.writeSel) (iteO (some_ h.writeXt) (iteO (some_ h.switchRequest) (iteO (some_ (foldl (fun _ _ h
      => h.laneReset.ite h) h)) (iteO (some_ h.writeFreeze) (iteO (some_ h.writeTaps) (iteO (some_ h.writeWindow)
      (iteO (some_ h.writeCmdCtrl) (iteO (some_ h.writeTail) (iteO (some_ h.writeEvtHead) (iteO (some_ h.writeCancel)
      (iteO (some_ h.ringRegister) (iteO (some_ h.askLandReset) (iteO (some_ h.writeCurve) (iteO (some_
      h.writeTraceCtrl) none_))))))))))))))

theorem actionBits {page off v : Nat} (h : keeps T s t) : keeps T s (t.actionBits page off v) := by
  unfold State.actionBits
  split
  · exact h.tripClear
  · exact h.lineRearm.ite (h.retrainAll.ite (h.bundleRetrain.ite (h.askRearm.ite h)))

theorem writeBlock {path : Sys2Proof.Path} {page off v : Nat} (h : keeps False s t) :
    keeps False s (t.writeBlock path page off v) := by
  unfold State.writeBlock
  split
  next hu =>
    exact h.ownLow hu
  · split
    next hu =>
      exact h.ownHigh hu
    · exact h.writeFields.actionBits

theorem writePgCtrl {p v : Nat} (h : keeps T s t) : keeps T s (t.writePgCtrl p v) := by
  unfold State.writePgCtrl
  exact h.wrB.softResetHearth.ite h.wrB

theorem writeHeader {path : Sys2Proof.Path} {p off v : Nat} (h : keeps T s t) :
    keeps T s (t.writeHeader path p off v) := by
  unfold State.writeHeader
  exact h.writePgCtrl.ite (h.clearErr.ite (h.writeMask.ite (h.writeInject.ite (h.writeClass.ite (h.writeSwap.ite
    (h.writeSwapBell.ite (h.writeSwapBell.ite ((h.requestSnap.ite h).ite (h.wr.ite h)))))))))

theorem writePage {path : Sys2Proof.Path} {page off v : Nat} (h : keeps False s t) :
    keeps False s (t.writePage path page off v) := by
  unfold State.writePage
  exact h.writeHeader.ite ((h.ite (h.ctrWriteLo.ite h.ctrWriteHi)).ite h.writeBlock)

theorem unmapped (h : keeps T s t) : keeps T s t.unmapped := by
  unfold State.unmapped
  exact h.bump.raise

theorem writeTable {a v : Nat} (h : keeps T s t) : keeps T s (t.writeTable a v) := by
  unfold State.writeTable
  exact h.bump.ite (h.ite (h.dropShadow.ite h.upd.wr))

theorem readWord {path : Sys2Proof.Path} {a : Nat} {ecc : EccResult} (h : keeps T s t) :
    keeps T s (t.readWord path a ecc).2 := by
  unfold State.readWord
  split
  · exact h.unmapped.snd
  · split
    · exact h.readPage.snd
    · split
      · exact h.snd
      · split
        · exact h.snd
        · split
          · extract_lets
            split
            · exact h.ledgerFail.snd
            · exact h.ledgerCe.snd
            · exact h.snd
          · exact h.snd

theorem writeWord {path : Sys2Proof.Path} {a v : Nat} (h : keeps False s t) :
    keeps False s (t.writeWord path a v) := by
  unfold State.writeWord
  exact h.unmapped.ite (h.writePage.ite (h.writeTable.ite h))

theorem execUnmappedAccess_runs (path : Sys2Proof.Path) (addr : Nat) (s : State) :
    runs workParts s (execUnmappedAccess path addr s) := by
  unfold execUnmappedAccess
  exact runs_ite (refl s).ok (refl s).unmapped.answer.ok

theorem execRegisterWrite_runs (path : Sys2Proof.Path) (addr : Nat) (val : Word) (s : State) :
    runs workParts s (execRegisterWrite path addr val s) := by
  unfold execRegisterWrite
  exact runs_ite (refl s).writeWord.ok (refl s).ok

theorem execRcRegisterRead_runs (path : Sys2Proof.Path) (addr : Nat) (s : State) :
    runs workParts s (execRcRegisterRead path addr s) := by
  unfold execRcRegisterRead
  exact runs_ite (refl s).readWord.answer.ok (refl s).ok

theorem execShadowWrite_runs (path : Sys2Proof.Path) (page off : Nat) (val : Word) (s : State) :
    runs workParts s (execShadowWrite path page off val s) := by
  unfold execShadowWrite
  exact runs_ite (refl s).writePage.ok (refl s).ok

theorem execTableViewWrite_runs (addr : Nat) (val : Word) (s : State) :
    runs workParts s (execTableViewWrite addr val s) := by
  unfold execTableViewWrite
  exact runs_ite (refl s).writeTable.ok (refl s).ok

/-! ### The operations of Machine/Telemetry.lean -/

theorem telemTick (h : keeps T s t) : keeps T s t.telemTick := by
  unfold State.telemTick
  exact h.upd

theorem pushRecord {r : List Byte} (h : keeps T s t) : keeps T s (t.pushRecord r) := by
  unfold State.pushRecord
  extract_lets
  split
  · exact h.upd.bump
  · exact h.hostTx.bump

theorem ringRecord {e : Nat} {r : List Byte} (h : keeps T s t) : keeps T s (t.ringRecord e r) := by
  unfold State.ringRecord
  exact h.ite (h.hostWrite.upd.bump.ite (h.hostWrite.ite h.hostWrite.upd.raise))

theorem sendDigest {r : List Byte} (h : keeps T s t) : keeps T s (t.sendDigest r) := by
  unfold State.sendDigest
  exact h.ite h.sendOpen.bump

theorem subscription {r : List Byte} (h : keeps T s t) : keeps T s (t.subscription r) := by
  unfold State.subscription
  exact h.ite (h.upd.ite h.upd.pushRecord)

theorem newEpoch (h : keeps T s t) : keeps T s t.newEpoch := by
  unfold State.newEpoch
  exact h.upd

theorem storeRecord {r : List Byte} (h : keeps T s t) : keeps T s (t.storeRecord r) := by
  unfold State.storeRecord
  exact (foldl (fun _ _ h => h.wr) h).upd.wr.bump

theorem execTelemetryCapture_runs (s : State) : runs workParts s (execTelemetryCapture s) := by
  unfold execTelemetryCapture
  split
  · exact (refl s).ok
  · exact (refl s).newEpoch.storeRecord.ringRecord.sendDigest.subscription.ok

/-! ### The operations of Machine/Host.lean -/

theorem freeBytes {n : Nat} (h : keeps T s t) : keeps T s (t.freeBytes n).2 := by
  unfold State.freeBytes
  exact h.upd.snd

theorem ctlUnsupported (h : keeps T s t) : keeps T s t.ctlUnsupported := by
  unfold State.ctlUnsupported
  exact h.bump.raise

theorem completeBad {cls op tag status addr len : Nat} (h : keeps T s t) :
    keeps T s (t.completeBad cls op tag status addr len) := by
  unfold State.completeBad
  exact h.freeBytes.complete

theorem hostStore {a : Nat} {d : List Byte} (h : keeps T s t) : keeps T s (t.hostStore a d).2 := by
  unfold State.hostStore
  refine foldlSnd (fun _ _ h => ?_) h.snd
  extract_lets s1
  have h1 : keeps T s s1.2 := h.granaryWriteLine
  split
  · exact h1.snd
  · exact h1.record.snd

theorem execHostMemWrite_runs (addr : Nat) (data : List Byte) (s : State) :
    runs workParts s (execHostMemWrite addr data s) := by
  unfold execHostMemWrite
  extract_lets s1
  have h1 : keeps False s s1 := (refl s).takeInbox
  split
  · exact h1.hostPort.hostStore.ok
  · exact runs_ite h1.ctlUnsupported.ok h1.unmapped.ok

theorem execHostMemRead_runs (tag addr len : Nat) (ecc : EccResult) (s : State) :
    runs workParts s (execHostMemRead tag addr len ecc s) := by
  unfold execHostMemRead
  extract_lets s1 s2
  have h1 : keeps False s s1 := (refl s).takeInbox
  have h2 : keeps False s s2.2 := h1.hostPort.granaryRead
  split
  · split
    · exact h2.complete.ok
    · exact h2.completeBad.ok
  · exact runs_ite h1.ctlUnsupported.completeBad.ok h1.unmapped.complete.ok

theorem execCtlWrite_runs (addr len : Nat) (val : Word) (s : State) :
    runs workParts s (execCtlWrite addr len val s) := by
  unfold execCtlWrite
  extract_lets s1
  have h1 : keeps False s s1 := (refl s).takeInbox
  exact runs_ite h1.ctlUnsupported.ok h1.writeWord.ok

theorem execCtlRead_runs (tag addr len : Nat) (ecc : EccResult) (s : State) :
    runs workParts s (execCtlRead tag addr len ecc s) := by
  unfold execCtlRead
  extract_lets s1 s2
  have h1 : keeps False s s1 := (refl s).takeInbox
  have h2 : keeps False s s2.2 := h1.readWord
  split
  · exact h1.ctlUnsupported.completeBad.ok
  · split
    · exact h2.answer.complete.ok
    · exact h2.completeBad.ok

theorem openReadDone {r : DmaRead} {good : Bool} {data : List Byte} (h : keeps T s t) :
    keeps T s (t.openReadDone r good data) := by
  unfold State.openReadDone
  split
  · exact h
  · exact h.upd.targetFault.cellDone.ite (h.upd.getReply.cellDone.ite h.upd)

theorem ringReadDone {r : DmaRead} {good : Bool} {data : List Byte} (h : keeps T s t) :
    keeps T s (t.ringReadDone r good data) := by
  unfold State.ringReadDone
  split
  · exact h
  · exact h.descriptorArrive.ite h.ringFault

theorem taskReadDone {r : DmaRead} {good : Bool} {data : List Byte} (h : keeps T s t) :
    keeps T s (t.taskReadDone r good data) := by
  unfold State.taskReadDone
  exact h.setTask.ite h.failTask

theorem takeCompletion {tag : Nat} (h : keeps T s t) : keeps T s (t.takeCompletion tag) := by
  unfold State.takeCompletion
  split
  · exact h
  · exact h.upd

theorem execDmaReadCompletion_runs (tag status : Nat) (data : List Byte) (s : State) :
    runs workParts s (execDmaReadCompletion tag status data s) := by
  unfold execDmaReadCompletion
  split
  · exact (refl s).takeCompletion.ok
  · extract_lets _ _ s1
    have h1 : keeps False s s1 := (refl s).takeCompletion.memProgress.upd
    split
    · exact h1.taskReadDone.ok
    · exact runs_ite h1.ringReadDone.ok h1.openReadDone.ok

theorem execDbgRequest_runs (tag addr len : Nat) (s : State) : runs workParts s (execDbgRequest tag addr len s) := by
  unfold execDbgRequest
  extract_lets s1
  have h1 : keeps False s s1 := (refl s).takeInbox
  exact runs_ite h1.completeBad.ok h1.completeBad.ok

/-! ### The operations of Machine/Mailbox.lean -/

theorem mbxAnswer {chan : Nat} {req : List Byte} {status : Nat} {body : List Byte} (h : keeps T s t) :
    keeps T s (t.mbxAnswer chan req status body) := by
  unfold State.mbxAnswer
  exact h.hostTx.ite h.upd

theorem serveUnknown {k : Nat} (h : keeps T s t) : keeps T s (State.serveUnknown k t) := by
  induction k generalizing t with
  | zero => exact h
  | succ k ih =>
    unfold State.serveUnknown
    split
    · exact h
    · exact (ih h.upd.mbxAnswer).ite h

theorem mbxQueue {chan : Nat} {m : List Byte} (h : keeps T s t) : keeps T s (t.mbxQueue chan m).2 := by
  unfold State.mbxQueue
  split
  · exact h.bump.raise.snd
  · exact h.upd.bump.serveUnknown.snd

theorem mbxArrive {chan : Nat} {m : List Byte} {tooBig : Bool} (h : keeps T s t) :
    keeps T s (t.mbxArrive chan m tooBig) := by
  unfold State.mbxArrive
  extract_lets refuse r
  have hf : ∀ {n : Nat}, keeps T s (refuse n) := h.bump.mbxAnswer
  have hr : keeps T s r.2 := h.mbxQueue
  exact hf.ite (hf.ite (hr.ite hr.mbxAnswer))

theorem execMgmtMessage_runs (msg : List Byte) (s : State) : runs workParts s (execMgmtMessage msg s) := by
  unfold execMgmtMessage
  exact (refl s).takeInbox.mbxArrive.ok

theorem serve {command : Nat} {f : Nat → List Byte → State → MbxOut} (h : keeps T s t)
    (hf : ∀ a0 a1 u, keeps T s u → keeps T s (f a0 a1 u).2.2) : keeps T s (t.serve command f) := by
  unfold State.serve
  split
  · exact h
  · exact (hf _ _ _ h.upd).mbxAnswer.serveUnknown.ite h

theorem execGetInfo_runs (s : State) : runs workParts s (execGetInfo s) := by
  unfold execGetInfo
  refine keeps.ok ?_
  refine (refl s).serve ?_
  intro _ _ _ h
  split
  · exact h.sndSnd
  · exact h.sndSnd

theorem execGetTelem_runs (s : State) : runs workParts s (execGetTelem s) := by
  unfold execGetTelem
  refine keeps.ok ?_
  refine (refl s).serve ?_
  intro _ _ _ h
  split
  · exact h.sndSnd
  · split
    · exact h.sndSnd
    · exact h.sndSnd

theorem execSubTelem_runs (s : State) : runs workParts s (execSubTelem s) := by
  unfold execSubTelem
  refine keeps.ok ?_
  refine (refl s).serve ?_
  intro _ _ _ h
  split
  · exact h.sndSnd
  · split
    · exact h.sndSnd
    · exact h.wr.upd.sndSnd

theorem execAlmRead_runs (s : State) : runs workParts s (execAlmRead s) := by
  unfold execAlmRead
  refine keeps.ok ?_
  refine (refl s).serve ?_
  intro _ _ _ h
  extract_lets
  split
  · exact h.sndSnd
  · exact h.sndSnd

theorem almEdit {o : Nat} {d : List Byte} (h : keeps T s t) : keeps T s (t.almEdit o d) := by
  unfold State.almEdit
  exact h.upd

theorem execAlmWrite_runs (s : State) : runs workParts s (execAlmWrite s) := by
  unfold execAlmWrite
  refine keeps.ok ?_
  refine (refl s).serve ?_
  intro _ _ _ h
  extract_lets
  split
  · exact h.sndSnd
  · split
    · exact h.sndSnd
    · split
      · exact h.sndSnd
      · exact h.almEdit.sndSnd

theorem execAlmCommit_runs (s : State) : runs workParts s (execAlmCommit s) := by
  unfold execAlmCommit
  refine keeps.ok ?_
  refine (refl s).serve ?_
  intro _ _ _ h
  split
  · exact h.sndSnd
  · split
    · exact h.sndSnd
    · split
      · exact h.sndSnd
      · exact h.startCommit.sndSnd

theorem execLedgerRead_runs (s : State) : runs workParts s (execLedgerRead s) := by
  unfold execLedgerRead
  refine keeps.ok ?_
  refine (refl s).serve ?_
  intro _ _ _ h
  extract_lets
  split
  · exact h.sndSnd
  · split
    · exact h.sndSnd
    · split
      · exact h.sndSnd
      · exact h.sndSnd

/-! ### The operations of Machine/Smbus.lean -/

theorem portRead {path : Sys2Proof.Path} {a : Nat} (h : keeps T s t) : keeps T s (t.portRead path a).2.2 := by
  unfold State.portRead
  extract_lets
  split
  · exact h.sndSnd
  · exact h.readWord.sndSnd

theorem portWrite {path : Sys2Proof.Path} {a v : Nat} (h : keeps False s t) :
    keeps False s (t.portWrite path a v).2 := by
  unfold State.portWrite
  extract_lets
  split
  · exact h.snd
  · exact h.writeWord.snd

theorem smbReturn {d : List Byte} (h : keeps T s t) : keeps T s (t.smbReturn d) := by
  unfold State.smbReturn
  exact h.upd

theorem smbServe {f : State → State} (h : keeps T s t) (hf : ∀ u, keeps T s u → keeps T s (f u)) :
    keeps T s (t.smbServe f) := by
  unfold State.smbServe
  exact (hf _ h.bump).ite h

theorem smbWrite {pec : Option Bool} {f : State → State} (h : keeps T s t) (hf : ∀ u, keeps T s u → keeps T s (f u)) :
    keeps T s (t.smbWrite pec f) := by
  unfold State.smbWrite
  exact h.smbServe (fun _ h => h.bump.bump.raise.ite (h.bump.raise.ite (hf _ h)))

theorem mbxServed {f : State → State} (h : keeps T s t) (hf : ∀ u, keeps T s u → keeps T s (f u)) :
    keeps T s (t.mbxServed f) := by
  unfold State.mbxServed
  exact (hf _ h).ite h.bump

theorem execReadReg_runs (addr : Nat) (s : State) : runs workParts s (execReadReg addr s) := by
  unfold execReadReg
  exact ((refl s).smbServe (fun _ h => h.portRead.answer.smbReturn)).ok

theorem execWriteReg_runs (addr : Nat) (val : Word) (pec : Option Bool) (s : State) :
    runs workParts s (execWriteReg addr val pec s) := by
  unfold execWriteReg
  exact ((refl s).smbWrite (fun _ h => h.portWrite.upd)).ok

theorem execGetStatus_runs (s : State) : runs workParts s (execGetStatus s) := by
  unfold execGetStatus
  exact ((refl s).smbServe (fun _ h => h.smbReturn)).ok

theorem execMbxWrite_runs (data : List Byte) (pec : Option Bool) (s : State) :
    runs workParts s (execMbxWrite data pec s) := by
  unfold execMbxWrite
  exact ((refl s).smbWrite (fun _ h => h.mbxServed (fun _ h => h.upd.bump))).ok

theorem execMbxSend_runs (pec : Option Bool) (s : State) : runs workParts s (execMbxSend pec s) := by
  unfold execMbxSend
  exact ((refl s).smbWrite (fun _ h => h.mbxServed (fun _ h => h.upd.mbxArrive))).ok

theorem execMbxRead_runs (off : Nat) (s : State) : runs workParts s (execMbxRead off s) := by
  unfold execMbxRead
  exact ((refl s).smbServe (fun _ h => h.mbxServed (fun _ h => h.upd.smbReturn))).ok

theorem execMbxClear_runs (pec : Option Bool) (s : State) : runs workParts s (execMbxClear pec s) := by
  unfold execMbxClear
  exact ((refl s).smbWrite (fun _ h => h.mbxServed (fun _ h => h.upd))).ok

theorem execSmbAlertResponse_runs (wins : Bool) (s : State) : runs workParts s (execSmbAlertResponse wins s) := by
  unfold execSmbAlertResponse
  exact ((refl s).upd.smbReturn.ite (refl s)).ok

theorem execSmbTimeout_runs (s : State) : runs workParts s (execSmbTimeout s) := by
  unfold execSmbTimeout
  exact ((refl s).bump.raise.ite (refl s)).ok

/-! ### The operations of Machine/Console.lean -/

theorem respond {lines : List (List Byte)} (h : keeps T s t) : keeps T s (t.respond lines) := by
  unfold State.respond
  exact h.say

theorem lineDone (h : keeps T s t) : keeps T s t.lineDone := by
  unfold State.lineDone
  exact h.upd.ite (h.upd.mbxQueue.ite h.upd.mbxQueue.respond)

theorem takeChar {c : Byte} (h : keeps T s t) : keeps T s (t.takeChar c) := by
  unfold State.takeChar
  exact (h.say.ite h).lineDone.ite ((h.say.ite h).upd.ite (h.say.ite h).upd)

theorem drainRx (h : keeps T s t) : keeps T s t.drainRx := by
  unfold State.drainRx
  exact (foldl (fun _ _ h => h.takeChar) h.upd).ite h

theorem deliverChar {c : Byte} (h : keeps T s t) : keeps T s (t.deliverChar c) := by
  unfold State.deliverChar
  exact h.bump.bump.raise.ite h.bump.upd.drainRx

theorem execUartCharReceive_runs (edge high : Nat) (samples : List Bool) (s : State) :
    runs workParts s (execUartCharReceive edge high samples s) := by
  unfold execUartCharReceive
  split
  · exact (refl s).ok
  · exact runs_ite (refl s).upd.ok (runs_ite (refl s).upd.upd.bump.raise.ok (refl s).upd.deliverChar.ok)

theorem execUartBreak_runs (low high : Nat) (s : State) : runs workParts s (execUartBreak low high s) := by
  unfold execUartBreak
  exact runs_ite (refl s).ok ((refl s).ite (refl s).upd.bump.raise).upd.ok

theorem uartTick (h : keeps T s t) : keeps T s t.uartTick := by
  unfold State.uartTick
  exact h.upd.ite h.upd.bump

theorem console {f : ConCmd → State → Option (List (List Byte) × State)} (h : keeps T s t)
    (hf : ∀ a0 u, keeps T s u → keepsOp T (·.2) s (f a0 u)) : keeps T s (t.console f) := by
  unfold State.console
  split
  · exact h
  · split
    · split
      · next e => exact (hf _ _ h.upd e).respond.serveUnknown
      · exact h
    · exact h

theorem execConsoleLineBad_runs (s : State) : runs workParts s (execConsoleLineBad s) := by
  unfold execConsoleLineBad
  refine keeps.ok ?_
  refine (refl s).console ?_
  intro _ _ h
  split
  · exact someP_ h.snd
  · exact someP_ h.snd
  · exact noneP_

theorem execConsoleHelp_runs (s : State) : runs workParts s (execConsoleHelp s) := by
  unfold execConsoleHelp
  exact ((refl s).console (fun _ _ h => iteOP (someP_ h.snd) noneP_)).ok

theorem execConsoleVer_runs (s : State) : runs workParts s (execConsoleVer s) := by
  unfold execConsoleVer
  exact ((refl s).console (fun _ _ h => iteOP (someP_ h.snd) noneP_)).ok

theorem execConsoleState_runs (s : State) : runs workParts s (execConsoleState s) := by
  unfold execConsoleState
  exact ((refl s).console (fun _ _ h => iteOP (someP_ h.snd) noneP_)).ok

theorem execConsoleRd_runs (s : State) : runs workParts s (execConsoleRd s) := by
  unfold execConsoleRd
  refine keeps.ok ?_
  refine (refl s).console ?_
  intro _ _ h
  split
  · exact someP_ h.portRead.answer.snd
  · exact noneP_

theorem execConsoleWr_runs (s : State) : runs workParts s (execConsoleWr s) := by
  unfold execConsoleWr
  refine keeps.ok ?_
  refine (refl s).console ?_
  intro _ _ h
  split
  · exact iteOP (someP_ h.snd) (someP_ h.portWrite.snd)
  · exact noneP_

theorem execConsoleLedger_runs (s : State) : runs workParts s (execConsoleLedger s) := by
  unfold execConsoleLedger
  refine keeps.ok ?_
  refine (refl s).console ?_
  intro _ _ h
  split
  · exact someP_ h.snd
  · exact noneP_

theorem execConsoleTelem_runs (s : State) : runs workParts s (execConsoleTelem s) := by
  unfold execConsoleTelem
  refine keeps.ok ?_
  refine (refl s).console ?_
  intro _ _ h
  split
  · split
    · exact someP_ h.snd
    · exact someP_ h.snd
  · exact noneP_

/-! ### The operations of Machine/Boundary.lean -/

theorem afterSchedSwap (h : keeps T s t) : keeps T s t.afterSchedSwap := by
  unfold State.afterSchedSwap
  exact (foldl (fun _ _ h => h.resetLand) h).upd

theorem boundarySwaps (h : keeps T s t) : keeps T s t.boundarySwaps := by
  unfold State.boundarySwaps
  extract_lets _ _ s1
  have h1 : keeps T s s1 := h.doSwaps.afterSchedSwap.ite h.doSwaps
  exact h1.matrixRecompute.ite h1

theorem landResets (h : keeps T s t) : keeps T s t.landResets := by
  unfold State.landResets
  exact foldl (fun _ _ h => h.resetLand) h.upd

theorem takeRising {r : Rising} (h : keeps T s t) : keeps T s (t.takeRising r) := by
  unfold State.takeRising
  exact ((h.upd.ite h).upd.ite (h.upd.ite h)).upd

theorem takeRisings (h : keeps T s t) : keeps T s t.takeRisings := by
  unfold State.takeRisings
  exact foldl (fun _ _ h => h.takeRising) h.upd

theorem reportDrained (h : keeps T s t) : keeps T s t.reportDrained := by
  unfold State.reportDrained
  exact h.wr

theorem reportBudget (h : keeps T s t) : keeps T s t.reportBudget := by
  unfold State.reportBudget
  exact h.wr.wr

theorem endBell {bad : List Nat} (h : keeps T s t) : keeps T s (t.endBell bad) := by
  unfold State.endBell
  exact h.telemTick.bump.pushMarks.closeBell

theorem linksBoundary (h : keeps T s t) : keeps T s t.linksBoundary := by
  unfold State.linksBoundary
  exact foldl (fun _ _ h => h.askCredit) (foldl (fun _ _ h => h.endDetour) h.hopBoundary).landResets.rearmBoundary

theorem tasksBoundary (h : keeps T s t) : keeps T s t.tasksBoundary := by
  unfold State.tasksBoundary
  extract_lets _ s1
  have h1 : keeps T s s1 := h.lostTasks.boundaryEnds
  exact (h1.upd.ite h1.admission).boundaryStops

theorem windowsBoundary (h : keeps T s t) : keeps T s t.windowsBoundary := by
  unfold State.windowsBoundary
  exact foldl (fun _ _ h => h.runStreams) h.millBoundary.reportBudget

theorem execBellBoundary_runs (bad : List Nat) (s : State) : runs workParts s (execBellBoundary bad s) := by
  unfold execBellBoundary
  split
  · exact ((refl s).upd (ht := False.elim)).ok
  · have h := ((refl s).endBell (bad := bad)).takeRisings.bellTick.boundarySwaps.applyBand.driveThermN.lanternBoundary
    exact h.hearthBoundary.takeSnaps.linksBoundary.tasksBoundary.windowsBoundary.sumPower.reportDrained
      |>.decideCalib.ditherTick.l0Tick.uartTick.ok

/-! ### The operations of Machine/Jtag.lean -/

theorem loadIr {ir : Nat} (h : keeps T s t) : keeps T s (t.loadIr ir) := by
  unfold State.loadIr
  exact h.wr.wr

theorem tap {f : State → State} (h : keeps T s t) (hf : ∀ u, keeps T s u → keeps T s (f u)) :
    keeps T s (t.tap f) := by
  unfold State.tap
  exact (hf _ h).ite h

theorem execTapReset_runs (s : State) : runs workParts s (execTapReset s) := by
  unfold execTapReset
  exact ((refl s).tap (fun _ h => h.wr.wr)).ok

theorem execBypass_runs (ir : Nat) (s : State) : runs workParts s (execBypass ir s) := by
  unfold execBypass
  exact ((refl s).ite ((refl s).tap (fun _ h => h.loadIr))).ok

theorem execIdcode_runs (s : State) : runs workParts s (execIdcode s) := by
  unfold execIdcode
  exact ((refl s).tap (fun _ h => h.loadIr.answer)).ok

theorem execSamplePreload_runs (data : List Bool) (s : State) : runs workParts s (execSamplePreload data s) := by
  unfold execSamplePreload
  exact ((refl s).tap (fun _ h => h.loadIr.upd)).ok

theorem execExtest_runs (data : List Bool) (s : State) : runs workParts s (execExtest data s) := by
  unfold execExtest
  exact ((refl s).tap (fun _ h => h.loadIr.upd)).ok

theorem execClamp_runs (s : State) : runs workParts s (execClamp s) := by
  unfold execClamp
  exact ((refl s).tap (fun _ h => h.loadIr)).ok

theorem execHighz_runs (s : State) : runs workParts s (execHighz s) := by
  unfold execHighz
  exact ((refl s).tap (fun _ h => h.loadIr)).ok

theorem opDone {status addr data : Nat} (h : keeps T s t) : keeps T s (t.opDone status addr data) := by
  unfold State.opDone
  exact h.upd.answer

theorem access {op addr : Nat} {read write : State → Nat × Nat × State} (h : keeps T s t)
    (hread : ∀ u, keeps T s u → keeps T s (read u).2.2) (hwrite : ∀ u, keeps T s u → keeps T s (write u).2.2) :
    keeps T s (t.access op addr read write) := by
  unfold State.access
  exact (hread _ h).opDone.ite ((hwrite _ h).opDone.ite h)

theorem execRegAccess_runs (op addr : Nat) (val : Word) (s : State) :
    runs workParts s (execRegAccess op addr val s) := by
  unfold execRegAccess
  refine ((refl s).tap fun _ h => h.loadIr.access ?_ ?_).ok
  · intro _ h
    exact h.portRead.sndSnd
  · intro _ h
    exact h.portWrite.sndSnd

theorem debug {perm ir : Nat} {f : State → State} (h : keeps T s t) (hf : ∀ u, keeps T s u → keeps T s (f u)) :
    keeps T s (t.debug perm ir f) := by
  unfold State.debug
  exact h.tap (fun _ h => (hf _ h.loadIr.wr).ite h.loadIr.wr.bump.raise)

theorem dbgUnknown {u' a : Nat} (h : keeps T s t) : keeps T s (t.dbgUnknown u' a).2 := by
  unfold State.dbgUnknown
  extract_lets
  split
  · exact h.snd
  · exact h.upd.snd

theorem dbgRead {u' a : Nat} (h : keeps T s t) : keeps T s (t.dbgRead u' a).2.2 := by
  unfold State.dbgRead
  split
  · exact h.sndSnd
  · split
    · exact h.sndSnd
    · split
      · exact h.sndSnd
      · split
        · exact h.sndSnd
        · split
          · exact h.sndSnd
          · exact h.dbgUnknown

theorem dbgHalt {u' : Nat} (h : keeps T s t) : keeps T s (t.dbgHalt u') := by
  unfold State.dbgHalt
  exact h.setUnit.setHearth.ite h.setUnit

theorem dbgStep {u' : Nat} (h : keeps T s t) : keeps T s (t.dbgStep u') := by
  unfold State.dbgStep
  exact h.setUnit.ite h

theorem dbgResume {u' : Nat} (h : keeps T s t) : keeps T s (t.dbgResume u') := by
  unfold State.dbgResume
  exact h.ite (h.setUnit.setHearth.ite (h.setUnit.drainRx.serveUnknown.ite h.setUnit))

theorem dbgControl {u' v : Nat} (h : keeps T s t) : keeps T s (t.dbgControl u' v) := by
  unfold State.dbgControl
  extract_lets _ s1
  have h1 : keeps T s s1 := (h.dbgHalt.ite h).dbgStep.ite (h.dbgHalt.ite h)
  exact h1.dbgResume.ite h1

theorem dbgWrite {u' a v : Nat} (h : keeps T s t) : keeps T s (t.dbgWrite u' a v).2.2 := by
  unfold State.dbgWrite
  split
  · exact h.sndSnd
  · split
    · exact h.sndSnd
    · split
      · exact h.dbgControl.sndSnd
      · split
        · exact h.upd.sndSnd
        · split
          · exact h.setProg.sndSnd
          · exact (h.setUnit.ite h).sndSnd

theorem dbgAccess {u' op addr a v : Nat} (h : keeps T s t) : keeps T s (t.dbgAccess u' op addr a v) := by
  unfold State.dbgAccess
  exact h.access (fun _ h => h.dbgRead) (fun _ h => h.dbgWrite)

theorem execReeveDbg_runs (op addr : Nat) (val : Word) (s : State) :
    runs workParts s (execReeveDbg op addr val s) := by
  unfold execReeveDbg
  exact ((refl s).debug (fun _ h => h.dbgAccess)).ok

theorem execHearthDbg_runs (op addr : Nat) (val : Word) (s : State) :
    runs workParts s (execHearthDbg op addr val s) := by
  unfold execHearthDbg
  exact ((refl s).debug (fun _ h => h.dbgAccess)).ok

theorem execMillerDbg_runs (op addr : Nat) (val : Word) (s : State) :
    runs workParts s (execMillerDbg op addr val s) := by
  unfold execMillerDbg
  exact ((refl s).debug (fun _ h => h.dbgAccess)).ok

theorem memRead {a : Nat} {ecc : EccResult} (h : keeps T s t) : keeps T s (t.memRead a ecc).2.2 := by
  unfold State.memRead
  split
  · exact h.sndSnd
  · split
    · exact h.sndSnd
    · extract_lets s1
      have h1 : keeps T s s1.2 := h.hostPort.granaryRead
      split
      · exact h1.sndSnd
      · exact h1.freeBytes.sndSnd

theorem memWrite {a v : Nat} (h : keeps T s t) : keeps T s (t.memWrite a v).2.2 := by
  unfold State.memWrite
  split
  · exact h.sndSnd
  · split
    · exact h.sndSnd
    · exact h.hostPort.hostStore.sndSnd

theorem execMemAccess_runs (op addr : Nat) (val : Word) (ecc : EccResult) (s : State) :
    runs workParts s (execMemAccess op addr val ecc s) := by
  unfold execMemAccess
  exact ((refl s).debug (fun _ h => h.access (fun _ h => h.memRead) (fun _ h => h.memWrite))).ok

theorem debugControl {u' v : Nat} (h : keeps T s t) : keeps T s (t.debugControl u' v) := by
  unfold State.debugControl
  split
  · exact h.debug (fun _ h => h.dbgAccess)
  · split
    · exact h.debug (fun _ h => h.dbgAccess)
    · split
      · exact h.debug (fun _ h => h.dbgAccess)
      · exact (h.debug (fun _ h => h.dbgAccess)).ite h

theorem execDebugHalt_runs (unit : Nat) (s : State) : runs workParts s (execDebugHalt unit s) := by
  unfold execDebugHalt
  exact (refl s).debugControl.ok

theorem execDebugStep_runs (unit : Nat) (s : State) : runs workParts s (execDebugStep unit s) := by
  unfold execDebugStep
  exact (refl s).debugControl.ok

theorem execDebugResume_runs (unit : Nat) (s : State) : runs workParts s (execDebugResume unit s) := by
  unfold execDebugResume
  exact (refl s).debugControl.ok

end keeps

/-- Every command completes, keeps the queue of waiting commands, and leads from a well-formed state to a well-formed
state. -/
theorem exec_runs (c : Instr) (s : State) : runs workParts s (exec c s) := by
  cases c with
  | warmReset cause => exact keeps.execWarmReset_runs cause s
  | pllUnlock d => exact keeps.execPllUnlock_runs d s
  | pllRelock d => exact keeps.execPllRelock_runs d s
  | stepFlash answers => exact keeps.execStepFlash_runs answers s
  | stepLoadHearth bistA bistB digestA digestB => exact keeps.execStepLoadHearth_runs bistA bistB digestA digestB s
  | stepLantern a b => exact keeps.execStepLantern_runs a b s
  | coldRelockFerry f res => exact keeps.execColdRelockFerry_runs f res s
  | hearthImageRetry bistA bistB digestA digestB =>
    exact keeps.execHearthImageRetry_runs bistA bistB digestA digestB s
  | flashOpComplete good => exact keeps.execFlashOpComplete_runs good s
  | almanacCommit val => exact keeps.execAlmanacCommit_runs val s
  | almanacCommitDone good => exact keeps.execAlmanacCommitDone_runs good s
  | svnAdvance val => exact keeps.execSvnAdvance_runs val s
  | tokenSubmit val => exact keeps.execTokenSubmit_runs val s
  | debugLock val => exact keeps.execDebugLock_runs val s
  | nonceLoRead path => exact keeps.execNonceLoRead_runs path s
  | bellBoundary bad => exact keeps.execBellBoundary_runs bad s
  | bellNumLoRead path => exact keeps.execBellNumLoRead_runs path s
  | bellJoinStep lengthen num rate => exact keeps.execBellJoinStep_runs lengthen num rate s
  | rootStartTimeout epochNum => exact keeps.execRootStartTimeout_runs epochNum s
  | bellRootSet val => exact keeps.execBellRootSet_runs val s
  | bellRootClear val => exact keeps.execBellRootClear_runs val s
  | parentPrefWrite n val => exact keeps.execParentPrefWrite_runs n val s
  | timeInEdge phase => exact keeps.execTimeInEdge_runs phase s
  | sensorSample a b => exact keeps.execSensorSample_runs a b s
  | unmappedAccess path addr => exact keeps.execUnmappedAccess_runs path addr s
  | registerWrite path addr val => exact keeps.execRegisterWrite_runs path addr val s
  | counterLoRead path page n => exact keeps.execCounterLoRead_runs path page n s
  | counterHiWrite path page n val => exact keeps.execCounterHiWrite_runs path page n val s
  | counterLoWrite path page n val => exact keeps.execCounterLoWrite_runs path page n val s
  | rcRegisterRead path addr => exact keeps.execRcRegisterRead_runs path addr s
  | pgErrClassWrite path page val => exact keeps.execPgErrClassWrite_runs path page val s
  | pgErrInjectWrite page val => exact keeps.execPgErrInjectWrite_runs page val s
  | swapArm page val => exact keeps.execSwapArm_runs page val s
  | swapDisarm page val => exact keeps.execSwapDisarm_runs page val s
  | swapFollowWrite page val => exact keeps.execSwapFollowWrite_runs page val s
  | shadowWrite path page off val => exact keeps.execShadowWrite_runs path page off val s
  | tableViewWrite addr val => exact keeps.execTableViewWrite_runs addr val s
  | pgSnapTake page => exact keeps.execPgSnapTake_runs page s
  | topResetWarm val => exact keeps.execTopResetWarm_runs val s
  | topResetFunction val => exact keeps.execTopResetFunction_runs val s
  | topResetKeyBad val => exact keeps.execTopResetKeyBad_runs val s
  | bundleDetectExit n => exact keeps.execBundleDetectExit_runs n s
  | bundleTrainDone n lanes => exact keeps.execBundleTrainDone_runs n lanes s
  | bundleLockDone n skewOk farSpared => exact keeps.execBundleLockDone_runs n skewOk farSpared s
  | bundleExchangeDone n caps => exact keeps.execBundleExchangeDone_runs n caps s
  | bundleStageTimeout n => exact keeps.execBundleStageTimeout_runs n s
  | bundleBackoffExpiry n => exact keeps.execBundleBackoffExpiry_runs n s
  | bundleRetrain n => exact keeps.execBundleRetrain_runs n s
  | flitReceive n flit => exact keeps.execFlitReceive_runs n flit s
  | nakFlitReceive ack => exact keeps.execNakFlitReceive_runs ack s
  | elasticOverrun n => exact keeps.execElasticOverrun_runs n s
  | hostMemWrite addr data => exact keeps.execHostMemWrite_runs addr data s
  | hostMemRead tag addr len ecc => exact keeps.execHostMemRead_runs tag addr len ecc s
  | dmaReadCompletion tag status data => exact keeps.execDmaReadCompletion_runs tag status data s
  | ctlWrite addr len val => exact keeps.execCtlWrite_runs addr len val s
  | ctlRead tag addr len ecc => exact keeps.execCtlRead_runs tag addr len ecc s
  | mgmtMessage msg => exact keeps.execMgmtMessage_runs msg s
  | dbgRequest tag addr len => exact keeps.execDbgRequest_runs tag addr len s
  | selectSwitchWrite word val => exact keeps.execSelectSwitchWrite_runs word val s
  | inputLoss src tap => exact keeps.execInputLoss_runs src tap s
  | inputReturn src tap identity => exact keeps.execInputReturn_runs src tap identity s
  | lineFail src line monitors => exact keeps.execLineFail_runs src line monitors s
  | lineMove line dst => exact keeps.execLineMove_runs line dst s
  | lanternAlert src => exact keeps.execLanternAlert_runs src s
  | lanternBusStuck stillLow => exact keeps.execLanternBusStuck_runs stillLow s
  | setLinePower src line power ack => exact keeps.execSetLinePower_runs src line power ack s
  | readLinePower src line r => exact keeps.execReadLinePower_runs src line r s
  | readHours src powered emitting => exact keeps.execReadHours_runs src powered emitting s
  | setStandby src on => exact keeps.execSetStandby_runs src on s
  | readIdentity src identity => exact keeps.execReadIdentity_runs src identity s
  | lanternTransactionFail src => exact keeps.execLanternTransactionFail_runs src s
  | monitorSample ch code loop => exact keeps.execMonitorSample_runs ch code loop s
  | rangePinEnd ch => exact keeps.execRangePinEnd_runs ch s
  | adcReferenceCheck adc pass => exact keeps.execAdcReferenceCheck_runs adc pass s
  | hearthLoopUpdate loop phase dacFault => exact keeps.execHearthLoopUpdate_runs loop phase dacFault s
  | parkMove loop => exact keeps.execParkMove_runs loop s
  | mirrorFrame present crcGood upsets => exact keeps.execMirrorFrame_runs present crcGood upsets s
  | heartbeatSend lineA wordA lineB wordB => exact keeps.execHeartbeatSend_runs lineA wordA lineB wordB s
  | hearthBist passA passB => exact keeps.execHearthBist_runs passA passB s
  | hearthMarchBlock h pass => exact keeps.execHearthMarchBlock_runs h pass s
  | reeveArbitration agreesA agreesB => exact keeps.execReeveArbitration_runs agreesA agreesB s
  | hearthRepair h good => exact keeps.execHearthRepair_runs h good s
  | resyncCopy h crcEqual => exact keeps.execResyncCopy_runs h crcEqual s
  | resyncComplete h => exact keeps.execResyncComplete_runs h s
  | resyncTimeout h => exact keeps.execResyncTimeout_runs h s
  | hearthSwitchRequest val => exact keeps.execHearthSwitchRequest_runs val s
  | hearthSoftReset h => exact keeps.execHearthSoftReset_runs h s
  | losEvaluate f w carrier => exact keeps.execLosEvaluate_runs f w carrier s
  | laneDetectExit f j => exact keeps.execLaneDetectExit_runs f j s
  | trainingFrameReceive f j frame => exact keeps.execTrainingFrameReceive_runs f j frame s
  | eqFreezeWrite f val => exact keeps.execEqFreezeWrite_runs f val s
  | laneTrainDone f j => exact keeps.execLaneTrainDone_runs f j s
  | laneLockDone f j => exact keeps.execLaneLockDone_runs f j s
  | laneExchangeDone f j => exact keeps.execLaneExchangeDone_runs f j s
  | laneStageTimeout f j => exact keeps.execLaneStageTimeout_runs f j s
  | laneBackoffExpiry f j => exact keeps.execLaneBackoffExpiry_runs f j s
  | ferryLaneReset f mask => exact keeps.execFerryLaneReset_runs f mask s
  | frameLand f j frame => exact keeps.execFrameLand_runs f j frame s
  | hostDelivery land ecc => exact keeps.execHostDelivery_runs land ecc s
  | landingReset idx => exact keeps.execLandingReset_runs idx s
  | putApply ecc bad => exact keeps.execPutApply_runs ecc bad s
  | getReqApply ecc bad src => exact keeps.execGetReqApply_runs ecc bad src s
  | getDataApply ecc bad => exact keeps.execGetDataApply_runs ecc bad s
  | programSheafApply ecc bad => exact keeps.execProgramSheafApply_runs ecc bad s
  | mgmtSheafApply ecc bad => exact keeps.execMgmtSheafApply_runs ecc bad s
  | creditSheafSend f j => exact keeps.execCreditSheafSend_runs f j s
  | componentSpare f w kind => exact keeps.execComponentSpare_runs f w kind s
  | detourStart f j => exact keeps.execDetourStart_runs f j s
  | detourWithdraw f j => exact keeps.execDetourWithdraw_runs f j s
  | holdEpisodeCap f j => exact keeps.execHoldEpisodeCap_runs f j s
  | taskTimeout slot => exact keeps.execTaskTimeout_runs slot s
  | fenceMarkSend slot flow => exact keeps.execFenceMarkSend_runs slot flow s
  | ringRegisterWrite off val => exact keeps.execRingRegisterWrite_runs off val s
  | cmdTailWrite val => exact keeps.execCmdTailWrite_runs val s
  | descriptorRead entry desc => exact keeps.execDescriptorRead_runs entry desc s
  | ringFault reason entry => exact keeps.execRingFault_runs reason entry s
  | evtHeadWrite val => exact keeps.execEvtHeadWrite_runs val s
  | cmdCancelWrite tag => exact keeps.execCmdCancelWrite_runs tag s
  | cancelExpired tag => exact keeps.execCancelExpired_runs tag s
  | opPut slot eccs => exact keeps.execOpPut_runs slot eccs s
  | opGet slot => exact keeps.execOpGet_runs slot s
  | opProgramRun slot img ecc => exact keeps.execOpProgramRun_runs slot img ecc s
  | opProgramSend slot eccs => exact keeps.execOpProgramSend_runs slot eccs s
  | opFence slot => exact keeps.execOpFence_runs slot s
  | opSwap slot => exact keeps.execOpSwap_runs slot s
  | opAllReduce slot blocks eccs => exact keeps.execOpAllReduce_runs slot blocks eccs s
  | opReduce slot blocks eccs => exact keeps.execOpReduce_runs slot blocks eccs s
  | opReduceScatter slot blocks eccs => exact keeps.execOpReduceScatter_runs slot blocks eccs s
  | opBroadcast slot blocks eccs => exact keeps.execOpBroadcast_runs slot blocks eccs s
  | opAllGather slot blocks eccs => exact keeps.execOpAllGather_runs slot blocks eccs s
  | opAllToAll slot blocks eccs => exact keeps.execOpAllToAll_runs slot blocks eccs s
  | opBarrier slot blocks eccs => exact keeps.execOpBarrier_runs slot blocks eccs s
  | opSelect slot blocks eccs => exact keeps.execOpSelect_runs slot blocks eccs s
  | opScanCarry slot blocks eccs => exact keeps.execOpScanCarry_runs slot blocks eccs s
  | opScanChunk slot blocks eccs => exact keeps.execOpScanChunk_runs slot blocks eccs s
  | opScanStream slot blocks eccs => exact keeps.execOpScanStream_runs slot blocks eccs s
  | opScanPipe slot blocks eccs => exact keeps.execOpScanPipe_runs slot blocks eccs s
  | taskStart slot => exact keeps.execTaskStart_runs slot s
  | irqMaskWrite val => exact keeps.execIrqMaskWrite_runs val s
  | programImageLoad slot => exact keeps.execProgramImageLoad_runs slot s
  | millStepStart slot ecc => exact keeps.execMillStepStart_runs slot ecc s
  | millStepFinish slot => exact keeps.execMillStepFinish_runs slot s
  | stepDeferred slot => exact keeps.execStepDeferred_runs slot s
  | bellOverrun slot => exact keeps.execBellOverrun_runs slot s
  | scrubSlot bank fixed bad => exact keeps.execScrubSlot_runs bank fixed bad s
  | spareBistSlot bank good => exact keeps.execSpareBistSlot_runs bank good s
  | remapCopySlot bank ecc => exact keeps.execRemapCopySlot_runs bank ecc s
  | remapSwitch bank => exact keeps.execRemapSwitch_runs bank s
  | traceCtrlWrite val => exact keeps.execTraceCtrlWrite_runs val s
  | partialExclusion slot child => exact keeps.execPartialExclusion_runs slot child s
  | curveShadowWrite path k val => exact keeps.execCurveShadowWrite_runs path k val s
  | abortNoticeReceive src sheaf => exact keeps.execAbortNoticeReceive_runs src sheaf s
  | abortNoticeExpired group inst => exact keeps.execAbortNoticeExpired_runs group inst s
  | ditherCalPass f etas => exact keeps.execDitherCalPass_runs f etas s
  | bgSheafReceive link sheaf => exact keeps.execBgSheafReceive_runs link sheaf s
  | calibDitherCal val => exact keeps.execCalibDitherCal_runs val s
  | calibL0Check val => exact keeps.execCalibL0Check_runs val s
  | calibSpareBist val => exact keeps.execCalibSpareBist_runs val s
  | calibFerryRelock val => exact keeps.execCalibFerryRelock_runs val s
  | calibLaneBist val => exact keeps.execCalibLaneBist_runs val s
  | laneBistEnd f j errors => exact keeps.execLaneBistEnd_runs f j errors s
  | calibReqBad val => exact keeps.execCalibReqBad_runs val s
  | telemAgeReset val => exact keeps.execTelemAgeReset_runs val s
  | errorOccurrence page code tag injected prefetch detail =>
    exact keeps.execErrorOccurrence_runs page code tag injected prefetch detail s
  | alarmPinSample level => exact keeps.execAlarmPinSample_runs level s
  | alarmSummaryClear val => exact keeps.execAlarmSummaryClear_runs val s
  | ledgerEntryWrite verify => exact keeps.execLedgerEntryWrite_runs verify s
  | ledgerBistDone pass => exact keeps.execLedgerBistDone_runs pass s
  | ledgerRearm val verify => exact keeps.execLedgerRearm_runs val verify s
  | readReg addr => exact keeps.execReadReg_runs addr s
  | writeReg addr val pec => exact keeps.execWriteReg_runs addr val pec s
  | mbxWrite data pec => exact keeps.execMbxWrite_runs data pec s
  | mbxSend pec => exact keeps.execMbxSend_runs pec s
  | mbxRead off => exact keeps.execMbxRead_runs off s
  | mbxClear pec => exact keeps.execMbxClear_runs pec s
  | smbAlertResponse wins => exact keeps.execSmbAlertResponse_runs wins s
  | uartCharReceive edge high samples => exact keeps.execUartCharReceive_runs edge high samples s
  | uartBreak low high => exact keeps.execUartBreak_runs low high s
  | bypass ir => exact keeps.execBypass_runs ir s
  | samplePreload data => exact keeps.execSamplePreload_runs data s
  | extest data => exact keeps.execExtest_runs data s
  | regAccess op addr val => exact keeps.execRegAccess_runs op addr val s
  | reeveDbg op addr val => exact keeps.execReeveDbg_runs op addr val s
  | hearthDbg op addr val => exact keeps.execHearthDbg_runs op addr val s
  | millerDbg op addr val => exact keeps.execMillerDbg_runs op addr val s
  | memAccess op addr val ecc => exact keeps.execMemAccess_runs op addr val ecc s
  | debugHalt unit => exact keeps.execDebugHalt_runs unit s
  | debugStep unit => exact keeps.execDebugStep_runs unit s
  | debugResume unit => exact keeps.execDebugResume_runs unit s
  | hearthControllerStop h => exact keeps.execHearthControllerStop_runs h s
  | pgErrClear page val => exact keeps.execPgErrClear_runs page val s
  | pgErrMaskWrite page val => exact keeps.execPgErrMaskWrite_runs page val s
  | ledgerRpWrite val => exact keeps.execLedgerRpWrite_runs val s
  | ledgerWrapWrite val => exact keeps.execLedgerWrapWrite_runs val s
  | add o xd xa xb => exact keeps.execAdd_runs o xd xa xb s
  | sub o xd xa xb => exact keeps.execSub_runs o xd xa xb s
  | mul o xd xa xb => exact keeps.execMul_runs o xd xa xb s
  | and o xd xa xb => exact keeps.execAnd_runs o xd xa xb s
  | or o xd xa xb => exact keeps.execOr_runs o xd xa xb s
  | xor o xd xa xb => exact keeps.execXor_runs o xd xa xb s
  | shl o xd xa xb => exact keeps.execShl_runs o xd xa xb s
  | shr o xd xa xb => exact keeps.execShr_runs o xd xa xb s
  | sra o xd xa xb => exact keeps.execSra_runs o xd xa xb s
  | li o xd imm => exact keeps.execLi_runs o xd imm s
  | slt o xd xa xb => exact keeps.execSlt_runs o xd xa xb s
  | sltu o xd xa xb => exact keeps.execSltu_runs o xd xa xb s
  | seq o xd xa xb => exact keeps.execSeq_runs o xd xa xb s
  | beq o xa xb label => exact keeps.execBeq_runs o xa xb label s
  | bne o xa xb label => exact keeps.execBne_runs o xa xb label s
  | blt o xa xb label => exact keeps.execBlt_runs o xa xb label s
  | bge o xa xb label => exact keeps.execBge_runs o xa xb label s
  | bltu o xa xb label => exact keeps.execBltu_runs o xa xb label s
  | jmp o label => exact keeps.execJmp_runs o label s
  | ldD o xd xa imm ecc => exact keeps.execLdD_runs o xd xa imm ecc s
  | stD o xa imm xs => exact keeps.execStD_runs o xa imm xs s
  | loopM o xc stop => exact keeps.execLoopM_runs o xc stop s
  | callPb o routine entry => exact keeps.execCallPb_runs o routine entry s
  | ret o => exact keeps.execRet_runs o s
  | step o rows mode hold => exact keeps.execStep_runs o rows mode hold s
  | waitL o xland xseq => exact keeps.execWaitL_runs o xland xseq s
  | endOp o xs => exact keeps.execEndOp_runs o xs s
  | fenceG o => exact keeps.execFenceG_runs o s
  | cfgL o n xs => exact keeps.execCfgL_runs o n xs s
  | goCopy o eccs => exact keeps.execGoCopy_runs o eccs s
  | goReduce o eccs => exact keeps.execGoReduce_runs o eccs s
  | goSieve o eccs => exact keeps.execGoSieve_runs o eccs s
  | goScan o eccs => exact keeps.execGoScan_runs o eccs s
  | goPipe o eccs => exact keeps.execGoPipe_runs o eccs s
  | goWait o => exact keeps.execGoWait_runs o s
  | mvXv o xd vs lane core => exact keeps.execMvXv_runs o xd vs lane core s
  | stI o wi pi => exact keeps.execStI_runs o wi pi s
  | syncI o => exact keeps.execSyncI_runs o s
  | rdBell o xd => exact keeps.execRdBell_runs o xd s
  | rdArr o xd => exact keeps.execRdArr_runs o xd s
  | loopE o st xc n => exact keeps.execLoopE_runs o st xc n s
  | aSet o an xs => exact keeps.execASet_runs o an xs s
  | aSetc o an xs stride => exact keeps.execASetc_runs o an xs stride s
  | aAdd o an imm => exact keeps.execAAdd_runs o an imm s
  | ldV o vd an k eccs => exact keeps.execLdV_runs o vd an k eccs s
  | stV o an k vs => exact keeps.execStV_runs o an k vs s
  | ldQ o qn an k eccs => exact keeps.execLdQ_runs o qn an k eccs s
  | sqSt o an k => exact keeps.execSqSt_runs o an k s
  | sqSh o xflow xseq lastSheaf => exact keeps.execSqSh_runs o xflow xseq lastSheaf s
  | ldSh o qn xland xseq eccs => exact keeps.execLdSh_runs o qn xland xseq eccs s
  | accLd o cn an eccs => exact keeps.execAccLd_runs o cn an eccs s
  | accSt o an cn => exact keeps.execAccSt_runs o an cn s
  | vAdd o f d a b p => exact keeps.execVAdd_runs o f d a b p s
  | vSub o f d a b p => exact keeps.execVSub_runs o f d a b p s
  | vMul o f d a b p => exact keeps.execVMul_runs o f d a b p s
  | vFma o f d a b c p => exact keeps.execVFma_runs o f d a b c p s
  | vMax o f d a b p => exact keeps.execVMax_runs o f d a b p s
  | vMin o f d a b p => exact keeps.execVMin_runs o f d a b p s
  | vAbs o f d a p => exact keeps.execVAbs_runs o f d a p s
  | vNeg o f d a p => exact keeps.execVNeg_runs o f d a p s
  | vAnd o f d a b p => exact keeps.execVAnd_runs o f d a b p s
  | vOr o f d a b p => exact keeps.execVOr_runs o f d a b p s
  | vXor o f d a b p => exact keeps.execVXor_runs o f d a b p s
  | vNot o f d a p => exact keeps.execVNot_runs o f d a p s
  | vShl o f d a b p => exact keeps.execVShl_runs o f d a b p s
  | vShr o f d a b p => exact keeps.execVShr_runs o f d a b p s
  | vSra o f d a b p => exact keeps.execVSra_runs o f d a b p s
  | vCmp o cc f pd a b p => exact keeps.execVCmp_runs o cc f pd a b p s
  | vSel o d p a b => exact keeps.execVSel_runs o d p a b s
  | vMov o d a p => exact keeps.execVMov_runs o d a p s
  | vBcast o f d xs p => exact keeps.execVBcast_runs o f d xs p s
  | vIota o f d p => exact keeps.execVIota_runs o f d p s
  | vPerm o f d a x p => exact keeps.execVPerm_runs o f d a x p s
  | vRed o op f d a p => exact keeps.execVRed_runs o op f d a p s
  | vCvt o src dst d a p => exact keeps.execVCvt_runs o src dst d a p s
  | vCvtSr o src dst d a xseed xidx p => exact keeps.execVCvtSr_runs o src dst d a xseed xidx p s
  | vPwl o d a table p => exact keeps.execVPwl_runs o d a table p s
  | mZero o cn => exact keeps.execMZero_runs o cn s
  | mOpa o cn a b k => exact keeps.execMOpa_runs o cn a b k s
  | mRd o d cn r => exact keeps.execMRd_runs o d cn r s
  | mWr o cn v r => exact keeps.execMWr_runs o cn v r s
  | mAdd o cn v r => exact keeps.execMAdd_runs o cn v r s
  | sInit o xk xflags => exact keeps.execSInit_runs o xk xflags s
  | sIns o vk vi p => exact keeps.execSIns_runs o vk vi p s
  | sBitSort o vk vi => exact keeps.execSBitSort_runs o vk vi s
  | sBitMerge o vk vi vk2 vi2 => exact keeps.execSBitMerge_runs o vk vi vk2 vi2 s
  | sExcl o pd vk vi xv xi => exact keeps.execSExcl_runs o pd vk vi xv xi s
  | sMrg o vk vi xn => exact keeps.execSMrg_runs o vk vi xn s
  | sGet o vk vi => exact keeps.execSGet_runs o vk vi s
  | sCnt o xd => exact keeps.execSCnt_runs o xd s
  | sig o st t => exact keeps.execSig_runs o st t s
  | wait o st t => exact keeps.execWait_runs o st t s
  | coldReset => exact keeps.execColdReset_runs s
  | pwrOkLow => exact keeps.execPwrOkLow_runs s
  | resetNAssert => exact keeps.execResetNAssert_runs s
  | testEnHigh => exact keeps.execTestEnHigh_runs s
  | vddHtrLost => exact keeps.execVddHtrLost_runs s
  | refclkLoss => exact keeps.execRefclkLoss_runs s
  | refclkReturn => exact keeps.execRefclkReturn_runs s
  | startupBegin => exact keeps.execStartupBegin_runs s
  | stepClocks => exact keeps.execStepClocks_runs s
  | stepAuthReeve => exact keeps.execStepAuthReeve_runs s
  | stepPairing => exact keeps.execStepPairing_runs s
  | stepAlmanac => exact keeps.execStepAlmanac_runs s
  | stepLink => exact keeps.execStepLink_runs s
  | stepRelock => exact keeps.execStepRelock_runs s
  | stepLanes => exact keeps.execStepLanes_runs s
  | stepBellJoin => exact keeps.execStepBellJoin_runs s
  | stepReport => exact keeps.execStepReport_runs s
  | bootStepTimeout => exact keeps.execBootStepTimeout_runs s
  | bootBackoffExpiry => exact keeps.execBootBackoffExpiry_runs s
  | flashRead => exact keeps.execFlashRead_runs s
  | flashProgram => exact keeps.execFlashProgram_runs s
  | flashErase => exact keeps.execFlashErase_runs s
  | bellJoinCheck => exact keeps.execBellJoinCheck_runs s
  | bellServoUpdate => exact keeps.execBellServoUpdate_runs s
  | parentLost => exact keeps.execParentLost_runs s
  | holdoverLong => exact keeps.execHoldoverLong_runs s
  | standbyRootTakeover => exact keeps.execStandbyRootTakeover_runs s
  | timeInLost => exact keeps.execTimeInLost_runs s
  | bandFall => exact keeps.execBandFall_runs s
  | tripClear => exact keeps.execTripClear_runs s
  | topSnapAll => exact keeps.execTopSnapAll_runs s
  | functionReset => exact keeps.execFunctionReset_runs s
  | retrainAll => exact keeps.execRetrainAll_runs s
  | flitGapTimeout => exact keeps.execFlitGapTimeout_runs s
  | flitAckTimeout => exact keeps.execFlitAckTimeout_runs s
  | linkStall => exact keeps.execLinkStall_runs s
  | linkDownLimit => exact keeps.execLinkDownLimit_runs s
  | hostStall => exact keeps.execHostStall_runs s
  | lineRearm => exact keeps.execLineRearm_runs s
  | lanternPoll => exact keeps.execLanternPoll_runs s
  | wearPeriod => exact keeps.execWearPeriod_runs s
  | heartbeatCheck => exact keeps.execHeartbeatCheck_runs s
  | healthCapture => exact keeps.execHealthCapture_runs s
  | failoverGrant => exact keeps.execFailoverGrant_runs s
  | failoverCut => exact keeps.execFailoverCut_runs s
  | plannedHandover => exact keeps.execPlannedHandover_runs s
  | reclaim => exact keeps.execReclaim_runs s
  | sheafForward => exact keeps.execSheafForward_runs s
  | schedShadowScan => exact keeps.execSchedShadowScan_runs s
  | weirStale => exact keeps.execWeirStale_runs s
  | spareRearm => exact keeps.execSpareRearm_runs s
  | detourIntermediate => exact keeps.execDetourIntermediate_runs s
  | cmdEnable => exact keeps.execCmdEnable_runs s
  | cmdDisable => exact keeps.execCmdDisable_runs s
  | cmdResume => exact keeps.execCmdResume_runs s
  | cmdBreakResume => exact keeps.execCmdBreakResume_runs s
  | opNop => exact keeps.execOpNop_runs s
  | opCancelAll => exact keeps.execOpCancelAll_runs s
  | traceGroupStream => exact keeps.execTraceGroupStream_runs s
  | calibL0CheckEnd => exact keeps.execCalibL0CheckEnd_runs s
  | telemetryCapture => exact keeps.execTelemetryCapture_runs s
  | freezeReaction => exact keeps.execFreezeReaction_runs s
  | warmReaction => exact keeps.execWarmReaction_runs s
  | alarmNMinimumEnd => exact keeps.execAlarmNMinimumEnd_runs s
  | alarmRelease => exact keeps.execAlarmRelease_runs s
  | alarmResetClear => exact keeps.execAlarmResetClear_runs s
  | ledgerBist => exact keeps.execLedgerBist_runs s
  | gaspClear => exact keeps.execGaspClear_runs s
  | getStatus => exact keeps.execGetStatus_runs s
  | smbTimeout => exact keeps.execSmbTimeout_runs s
  | consoleLineBad => exact keeps.execConsoleLineBad_runs s
  | consoleHelp => exact keeps.execConsoleHelp_runs s
  | consoleVer => exact keeps.execConsoleVer_runs s
  | consoleState => exact keeps.execConsoleState_runs s
  | consoleRd => exact keeps.execConsoleRd_runs s
  | consoleWr => exact keeps.execConsoleWr_runs s
  | consoleLedger => exact keeps.execConsoleLedger_runs s
  | consoleTelem => exact keeps.execConsoleTelem_runs s
  | tapReset => exact keeps.execTapReset_runs s
  | idcode => exact keeps.execIdcode_runs s
  | clamp => exact keeps.execClamp_runs s
  | highz => exact keeps.execHighz_runs s
  | getInfo => exact keeps.execGetInfo_runs s
  | getTelem => exact keeps.execGetTelem_runs s
  | subTelem => exact keeps.execSubTelem_runs s
  | almRead => exact keeps.execAlmRead_runs s
  | almWrite => exact keeps.execAlmWrite_runs s
  | almCommit => exact keeps.execAlmCommit_runs s
  | ledgerRead => exact keeps.execLedgerRead_runs s
  | pwrOkHigh => exact keeps.execPwrOkHigh_runs s
  | testEnLow => exact keeps.execTestEnLow_runs s
  | vddHtrReturn => exact keeps.execVddHtrReturn_runs s

/-- Settles O3: every part is a constant of the reset state. -/
theorem resetStateIsWellFormed : Obligations.ResetStateIsWellFormed :=
  ⟨rfl, rfl, rfl, Nat.two_pow_pos 48, Nat.zero_le _⟩

/-- Settles O4: the idle step leaves the state, and every command keeps the invariant. -/
theorem everyStepKeepsStateWellFormed : Obligations.EveryStepKeepsStateWellFormed := by
  intro s t hs ht
  unfold step at ht
  split at ht
  · cases ht
    exact hs
  · next c rest _ =>
    obtain ⟨u, hu, hk⟩ := exec_runs c { s with pending := rest }
    cases hu.symm.trans ht
    exact hk.2 ⟨hs.regs, hs.granary, hs.scratch, hs.bell, hs.queue⟩

end Sys2Proof.Machine

end

section
/-! ## The bell: taking the root's part, joining, locking, and losing the parent -/

namespace Sys2Proof.Machine

theorem becomeRoot_bellNum (s : State) (e : Nat) : (s.becomeRoot e).bellNum = s.bellNum := rfl
theorem becomeRoot_ticks (s : State) (e : Nat) : (s.becomeRoot e).ticks = s.ticks := rfl

theorem becomeRoot_bell (s : State) (e : Nat) :
    (s.becomeRoot e).bell = { s.bell with joinPhase := 0, toHoldover := false, holdBells := 0, longRaised := false,
                                          rootReq := false, ppsLast := some s.ticks } := rfl

/-- A root acts with TIME_IN as its reference where it is enabled (R52, R54). -/
theorem rd_becomeRoot_state (s : State) (e : Nat) :
    (s.becomeRoot e).rd Reg.BELL_STATUS_STATE = if s.rd Reg.BELL_CTRL_TIME_IN_EN = 1 then 5 else 4 := by
  unfold State.becomeRoot State.is
  simp (disch := decide) only [rd_mk, rd_fold, rd_wr_ne, rd_wr_same, beq_iff_eq]
  split <;> rfl

theorem rd_becomeRoot_epoch (s : State) (e : Nat) : (s.becomeRoot e).rd Reg.BELL_STATUS_ROOT_EPOCH = e % 256 := by
  unfold State.becomeRoot
  simp (disch := decide) only [rd_mk, rd_fold, rd_wr_ne, rd_wr_same]
  exact Nat.mod_mod e 256

/-- Settles O14: the command makes the chiplet root with the epoch that follows, and `becomeRoot` touches neither the
bell number nor the phase. -/
theorem standbyRootTakesOver : Obligations.StandbyRootTakesOver := by
  intro s hstandby hroot hstate hwait hnone
  refine ⟨s.becomeRoot (s.rd Reg.BELL_STATUS_ROOT_EPOCH + 1), ?_, becomeRoot_bellNum .., becomeRoot_ticks .., ?_, ?_,
    rd_becomeRoot_epoch .., rd_becomeRoot_state ..⟩
  · show execStandbyRootTakeover s = _
    simp [execStandbyRootTakeover, State.is, State.bellState, hstandby, hroot, hstate, hwait, hnone, ok]
  · rw [becomeRoot_bell]
  · rw [becomeRoot_bell]

end Sys2Proof.Machine
end

section
namespace Sys2Proof.Machine

/-! ### Signed register fields -/

/-- A signed value that the width holds is read as it was written. -/
theorem rdI_wrI_same (s : State) (f : Fld) (v : Int) (hf : f.width = 32) (hlo : -2147483648 ≤ v)
    (hhi : v < 2147483648) : (s.wrI f v).rdI f = v := by
  simp only [State.rdI, wrI_eq, rd_wr_same, toSigned, ofSigned, hf]
  norm_num
  split <;> omega

theorem clampI_eq_max_min (lo hi v : Int) (h : lo ≤ hi) : clampI lo hi v = max lo (min hi v) := by
  unfold clampI
  split
  · omega
  · split <;> omega

theorem rdI_congr {s t : State} (f : Fld) (h : t.rd f = s.rd f) : t.rdI f = s.rdI f := by
  simp only [State.rdI, h]

/-! ### Joining and locking -/

theorem lockTo_joinPhase (s : State) (k : Nat) : (s.lockTo k).bell.joinPhase = 0 := rfl

theorem rd_lockTo_state (s : State) (k : Nat) : (s.lockTo k).rd Reg.BELL_STATUS_STATE = 2 := by
  unfold State.lockTo
  simp only [rd_mk, rd_fold, rd_wr_same]
  rfl

/-- BELL_JOIN_STEP, where it takes effect: the steer, then the lane's average and the bell's own record of the join. -/
theorem bellJoinStep_completes (lengthen num : Nat) (rate : Int) (k : Nat) (s : State) (hp : s.parent = some k)
    (hst : s.bellState = 1) (hph : s.bell.joinPhase = 1) (hav : (s.lane k).avg.isSome = true)
    (hlen : lengthen ≤ 54399) : completes (.bellJoinStep lengthen num rate) s fun t =>
      t.bell.joinPhase = 2 ∧ t.bell.lengthen = lengthen ∧ t.bell.nextNum = some (num % 2 ^ 48) ∧ t.bellNum = s.bellNum ∧
      t.rdI Reg.BELL_STEER_STEER = max (-100000) (min 100000 rate) := by
  show ∃ t, execBellJoinStep lengthen num rate s = .next t ∧ _
  simp only [execBellJoinStep, hp]
  rw [if_pos ⟨hst, hph, hav, hlen⟩]
  refine ⟨_, rfl, rfl, rfl, rfl, ?_, ?_⟩
  · simp [State.restartAvg, State.setLane, State.wrI]
  · rw [← clampI_eq_max_min _ _ _ (by decide)]
    have hsteer : (s.wrI Reg.BELL_STEER_STEER (clampI (-100000) 100000 rate)).rdI Reg.BELL_STEER_STEER
        = clampI (-100000) 100000 rate :=
      rdI_wrI_same _ _ _ rfl (by unfold clampI; split <;> (try split) <;> omega)
        (by unfold clampI; split <;> (try split) <;> omega)
    refine Eq.trans (rdI_congr _ ?_) hsteer
    simp only [State.restartAvg, State.setLane, rd_mk, rd_fold]
    exact rd_bump_ne _ _ _ _ (by decide) (by decide)

theorem bellJoinCheck_completes (k : Nat) (s : State) (hp : s.parent = some k) (hst : s.bellState = 1)
    (hph : s.bell.joinPhase = 2) (hav : (s.lane k).avg.isSome = true) : completes .bellJoinCheck s fun t =>
      (within4 (s.lane k).avg = true → t.rd Reg.BELL_STATUS_STATE = 2 ∧ t.bell.joinPhase = 0) ∧
      (within4 (s.lane k).avg = false → t = { s with bell := { s.bell with joinPhase := 1 } }) := by
  show ∃ t, execBellJoinCheck s = .next t ∧ _
  simp only [execBellJoinCheck, hp]
  rw [if_pos ⟨hst, hph, hav⟩]
  cases hw : within4 (s.lane k).avg with
  | false => exact ⟨_, rfl, nofun, fun _ => rfl⟩
  | true =>
    rw [if_pos rfl]
    have hstate := rd_lockTo_state s k
    have hphase := lockTo_joinPhase s k
    generalize s.lockTo k = u at *
    split
    · exact ⟨_, rfl, fun _ => ⟨hstate, hphase⟩, nofun⟩
    · exact ⟨_, rfl, fun _ => ⟨hstate, hphase⟩, nofun⟩

/-! ### The servo -/

theorem steer_bellNum (s : State) : s.steer.bellNum = s.bellNum := by
  unfold State.steer
  split <;> rfl

/-- The servo moves the steer alone of the registers. -/
theorem regsKept_steer (s : State) : regsKept s s.steer [Reg.BELL_STEER_STEER] := by
  unfold State.steer
  split
  · exact regsKept_wr _ _ (regsKept_of_regs _ rfl) (List.mem_singleton.2 rfl)
  · exact regsKept_refl _ _

theorem checkDisagree_bellNum (s : State) (k : Nat) : (s.checkDisagree k).bellNum = s.bellNum := by
  unfold State.checkDisagree
  dsimp only
  split
  · rfl
  · split
    · rw [raise_bellNum]; rfl
    · rfl

/-- The register fields that a disagreement of lanes may change. -/
def disagreeFields : List Fld :=
  Reg.BELL_DISAGREE_FERRY :: Reg.BELL_DISAGREE_LANE :: raiseFields Err.BELL_TIME_DISAGREE.page

theorem regsKept_checkDisagree (s : State) (k : Nat) : regsKept s (s.checkDisagree k) disagreeFields := by
  unfold State.checkDisagree
  dsimp only
  split
  · exact regsKept_refl _ _
  · split
    · refine regsKept_trans ?_ (regsKept_mono (regsKept_raise Err.BELL_TIME_DISAGREE {} (regsKept_refl _ _)) ?_)
      · exact regsKept_wr _ _ (regsKept_wr _ _ (regsKept_refl _ _) (by simp [disagreeFields]))
          (by simp [disagreeFields])
      · exact fun g hg => List.mem_cons_of_mem _ (List.mem_cons_of_mem _ hg)
    · exact regsKept_refl _ _

theorem bellServoUpdate_completes (k : Nat) (a : Int) (s : State) (hp : s.parent = some k)
    (hav : (s.lane k).avg = some a) (hst : s.bellState = 2 ∨ s.bellState = 3) : completes .bellServoUpdate s fun t =>
      t.rd Reg.BELL_OFFSET_THETA = ofSigned Reg.BELL_OFFSET_THETA.width (Config.roundTheta a) ∧
      t.bellNum = s.bellNum := by
  show ∃ t, execBellServoUpdate s = .next t ∧ _
  simp only [execBellServoUpdate, hp, hav]
  rw [if_pos hst]
  refine ⟨_, rfl, ?_, ?_⟩
  · rw [foldl_keeps (fun u : State => u.rd Reg.BELL_OFFSET_THETA) State.checkDisagree
      (fun u j => regsKept_checkDisagree u j _ (by decide)), regsKept_steer _ _ (by decide), wrI_eq, rd_wr_same]
    exact Nat.mod_eq_of_lt (by unfold ofSigned; omega)
  · rw [foldl_keeps State.bellNum State.checkDisagree checkDisagree_bellNum, steer_bellNum]
    rfl

/-! ### Losing the parent -/

theorem rd_dropParent_valid (s : State) : s.dropParent.rd Reg.BELL_STATUS_PARENT_VALID = 0 := by
  unfold State.dropParent
  simp (disch := decide) only [rd_wr_ne, rd_wr_same]
  rfl

theorem parentLost_completes (k : Nat) (s : State) (hp : s.parent = some k) (hc : s.candidate k = false)
    (hst : s.bellState = 2 ∨ s.bellState = 3) : completes .parentLost s fun t =>
      t.bell.toHoldover = true ∧ t.rd Reg.BELL_STATUS_PARENT_VALID = 0 ∧ errUp t Err.BELL_PARENT_LOST := by
  have hne : s.bellState ≠ 1 := by omega
  show ∃ t, execParentLost s = .next t ∧ _
  simp only [execParentLost, hp, hc]
  rw [if_neg Bool.false_ne_true, if_neg hne, if_pos hst]
  have hvalid : (s.dropParent.raise Err.BELL_PARENT_LOST).rd Reg.BELL_STATUS_PARENT_VALID = 0 :=
    (rd_raise_ne _ _ _ _ (by decide)).trans (rd_dropParent_valid s)
  have hup : errUp (s.dropParent.raise Err.BELL_PARENT_LOST) Err.BELL_PARENT_LOST :=
    raise_sets _ _ _ (by decide) (by decide)
  generalize s.dropParent.raise Err.BELL_PARENT_LOST = u at *
  exact ⟨_, rfl, rfl, hvalid, hup⟩

/-- An error raised on a state whose registers are those of `s`, and nothing else of the registers. -/
theorem raises_of_regs {s u : State} (e : ErrBit) (o : Occ) (h : u.regs = s.regs) (hp : e.page < 256)
    (hb : e.bit < 32) : raises s (u.raise e o) e [] :=
  ⟨raise_sets u e o hp hb, regsKept_raise e o (regsKept_of_regs _ h)⟩

theorem holdoverLong_completes (s : State) (hst : s.bellState = 3)
    (hlim : s.rd Reg.BELL_HOLDOVER_LIMIT_LIMIT ≤ s.bell.holdBells) (hr : s.bell.longRaised = false) :
    completes .holdoverLong s fun t =>
      t.bell = { s.bell with longRaised := true } ∧ raises s t Err.BELL_HOLDOVER_LONG [] := by
  show ∃ t, execHoldoverLong s = .next t ∧ _
  rw [execHoldoverLong, if_pos ⟨hst, hlim, hr⟩]
  exact ⟨_, rfl, by rw [raise_bell], raises_of_regs _ _ rfl (by decide) (by decide)⟩

/-! ### A root that starts its own bell -/

theorem rootStartTimeout_completes (n first : Nat) (s : State) (hf : s.bell.firstExchange = some first)
    (hwait : first + 4096 ≤ s.ticks) (hroot : s.rd Reg.BELL_CTRL_ROOT = 1) (hst : s.bellState = 0)
    (hnone : ∀ k < 256, ¬ ((s.lane k).building = true ∧ 3 ≤ s.stageOf k)) : completes (.rootStartTimeout n) s fun t =>
      t.rd Reg.BELL_STATUS_STATE = (if s.rd Reg.BELL_CTRL_TIME_IN_EN = 1 then 5 else 4) ∧
      t.rd Reg.BELL_STATUS_ROOT_EPOCH = 0 ∧
      t.bell.nextNum = some (if s.rd Reg.BELL_CTRL_TIME_IN_EN = 1 ∧ s.rd Reg.BELL_TIME_EPOCH_HI_VALID = 1
        then n % 2 ^ 48 else 0) := by
  have hall : (List.range 256).all (fun k => !((s.lane k).building && 3 ≤ s.stageOf k)) = true := by
    refine List.all_eq_true.2 fun k hk => ?_
    have hk' := hnone k (List.mem_range.1 hk)
    cases hb : (s.lane k).building <;> simp_all
  show ∃ t, execRootStartTimeout n s = .next t ∧ _
  simp only [execRootStartTimeout, hf]
  rw [if_pos (by rw [hall]; simp [State.is, hroot, hst, hwait])]
  have hstate := rd_becomeRoot_state s 0
  have hepoch := rd_becomeRoot_epoch s 0
  generalize s.becomeRoot 0 = u at *
  exact ⟨_, rfl, hstate, hepoch, by simp [State.is, bellMod]⟩

/-- Settles O15: one lemma for each of the six commands. -/
theorem bellJoinsAndLocks : Obligations.BellJoinsAndLocks :=
  ⟨fun lengthen num rate k s => bellJoinStep_completes lengthen num rate k s, bellJoinCheck_completes,
    bellServoUpdate_completes, parentLost_completes, holdoverLong_completes, rootStartTimeout_completes⟩

end Sys2Proof.Machine
end

section
/-! ## The epoch's record, the trace, the curves and the bell boundary -/

namespace Sys2Proof.Machine

/-! ### What sending to the host and to other nodes leaves alone -/

/-- The register fields that a transaction to the host, an open sheaf, and the reports of their faults may change. -/
def sendFields : List Fld :=
  [Reg.UAHUS_CREDITS_TX_MEM, Reg.UAHUS_CREDITS_TX_CTL, Reg.UAHUS_CREDITS_TX_MGMT, Reg.UAHUS_REPLAY_HELD,
   Ctr.UAHUS_FLITS_TX.fld, Reg.UAHUS_WIN_FAULT_WIN, Ctr.UAHUS_WINDOW_FAULTS.fld, Hdr.CNT_OVF Ctr.UAHUS_FLITS_TX.page,
   Ctr.TALLY_TALLIES_MADE.fld, Hdr.CNT_OVF Ctr.TALLY_TALLIES_MADE.page, Ctr.WEIR_NO_ROUTE_DROPS.fld,
   Hdr.CNT_OVF Ctr.WEIR_NO_ROUTE_DROPS.page, Ctr.MGMT_TELEM_PUSHES.fld, Ctr.MGMT_TELEM_PUSHES_SKIPPED.fld,
   Hdr.CNT_OVF Ctr.MGMT_TELEM_PUSHES.page, Ctr.TELEM_RECORDS_WRITTEN.fld, Ctr.TELEM_DIGESTS_SENT.fld,
   Hdr.CNT_OVF Ctr.TELEM_RECORDS_WRITTEN.page]
    ++ (raiseFields Err.UAHUS_WINDOW_FAULT.page ++ (raiseFields Err.WEIR_NO_ROUTE.page
    ++ raiseFields Err.TELEM_TELEM_DELIVERY.page))

/-- From `s` to `t` sheaves and transactions may have been sent: the Mill, the records that the Reeve keeps, and the
other register fields are as before. -/
structure sends (s t : State) : Prop where
  regs     : regsKept s t sendFields
  mill     : t.mill = s.mill
  recs     : t.telem.recs = s.telem.recs
  captured : t.telem.captured = s.telem.captured
  tasks    : t.telem.tasks = s.telem.tasks

namespace sends

variable {s t u : State}

theorem refl (s : State) : sends s s := ⟨regsKept_refl s _, rfl, rfl, rfl, rfl⟩

/-- A change of other parts of the state. -/
theorem upd (h : sends s t) (hr : u.regs = t.regs := by rfl) (hm : u.mill = t.mill := by rfl)
    (h1 : u.telem.recs = t.telem.recs := by rfl) (h2 : u.telem.captured = t.telem.captured := by rfl)
    (h3 : u.telem.tasks = t.telem.tasks := by rfl) : sends s u :=
  ⟨regsKept_upd h.regs hr, hm.trans h.mill, h1.trans h.recs, h2.trans h.captured, h3.trans h.tasks⟩

theorem wr {f : Fld} {v : Nat} (h : sends s t) (hf : f ∈ sendFields := by decide) : sends s (t.wr f v) :=
  ⟨regsKept_wr f v h.regs hf, h.mill, h.recs, h.captured, h.tasks⟩

theorem bump {c : Ctr} {n : Nat} (h : sends s t) (hf : c.fld ∈ sendFields := by decide)
    (ho : Hdr.CNT_OVF c.page ∈ sendFields := by decide) : sends s (t.bump c n) := by
  refine ⟨regsKept_bump c n h.regs hf ho, ?_, ?_, ?_, ?_⟩ <;> simp only [bump_mill, bump_telem]
  exacts [h.mill, h.recs, h.captured, h.tasks]

theorem raise {e : ErrBit} {o : Occ} (h : sends s t) (he : ∀ g ∈ raiseFields e.page, g ∈ sendFields := by decide) :
    sends s (t.raise e o) := by
  refine ⟨regsKept_trans h.regs (regsKept_mono (regsKept_raise e o (regsKept_refl t _)) he), ?_, ?_, ?_, ?_⟩ <;>
    simp only [raise_mill, raise_telem]
  exacts [h.mill, h.recs, h.captured, h.tasks]

theorem ite {c : Prop} [Decidable c] (ht : sends s t) (hu : sends s u) : sends s (if c then t else u) := by
  split
  · exact ht
  · exact hu

theorem issueFlit {fl : Flit} {rest : List Flit} {spend : Bool} (h : sends s t) :
    sends s (t.issueFlit fl rest spend) := by
  unfold State.issueFlit
  extract_lets _ s1 s2
  have h1 : sends s s1 := h.upd
  have h2 : sends s s2 := by
    refine ite ?_ h1
    unfold State.setCredits
    exact wr (wr (wr (upd (t := s1) h1)))
  exact h2.wr.bump

theorem pump {k : Nat} (h : sends s t) : sends s (t.pump k) := by
  induction k generalizing t with
  | zero => exact h
  | succ k ih =>
    unfold State.pump
    split
    · exact h
    · split
      · exact h.ite (ih h.issueFlit)
      · split
        · exact h
        · exact ih h.upd

theorem hostTx {x : HostTx} (h : sends s t) : sends s (t.hostTx x) := by
  unfold State.hostTx State.send
  exact pump (upd (t := t) h)

theorem issueWrites {slot attr a : Nat} {d : List Byte} {ns : List Nat} (h : sends s t) :
    sends s (t.issueWrites slot attr a d ns) := by
  induction ns generalizing t a d with
  | nil => unfold State.issueWrites; exact h
  | cons n rest ih => unfold State.issueWrites; exact ih h.hostTx

theorem windowFault {w : Nat} {o : Occ} (h : sends s t) : sends s (t.windowFault w o) := by
  unfold State.windowFault
  exact h.wr.bump.raise

theorem hostWrite {slot a : Nat} {d : List Byte} {o : Occ} (h : sends s t) : sends s (t.hostWrite slot a d o).2 := by
  unfold State.hostWrite
  dsimp only
  split
  · exact h.issueWrites
  · exact h.windowFault

theorem noRoute {x : Sheaf} (h : sends s t) : sends s (t.noRoute x) := by
  unfold State.noRoute
  exact h.bump.raise

theorem dropPiece {own : Nat} {x : Sheaf} (h : sends s t) : sends s (t.dropPiece own x) := by
  unfold State.dropPiece
  exact h.upd.ite h

theorem sendOpen {own : Nat} {x : Sheaf} (h : sends s t) : sends s (t.sendOpen own x) := by
  unfold State.sendOpen
  extract_lets y _ s1
  have h1 : sends s s1 := bump (upd (t := t) h)
  clear_value s1
  split
  · exact h1.upd
  · split
    · exact h1.noRoute.dropPiece
    · exact h1.upd

theorem ringRecord {e : Nat} {r : List Byte} (h : sends s t) : sends s (t.ringRecord e r) := by
  unfold State.ringRecord
  extract_lets a w
  have hw : sends s w.2 := h.hostWrite
  clear_value w
  exact h.ite ((bump (upd (t := w.2) hw)).ite (hw.ite (raise (upd (t := w.2) hw))))

theorem sendDigest {r : List Byte} (h : sends s t) : sends s (t.sendDigest r) := by
  unfold State.sendDigest
  exact h.ite h.sendOpen.bump

theorem pushRecord {r : List Byte} (h : sends s t) : sends s (t.pushRecord r) := by
  unfold State.pushRecord
  dsimp only
  split
  · exact bump (upd (t := t) h)
  · exact h.hostTx.bump

theorem subscription {r : List Byte} (h : sends s t) : sends s (t.subscription r) := by
  unfold State.subscription
  exact h.ite (h.upd.ite (pushRecord (upd (t := t) h)))

end sends

/-! ### The epoch's record -/

theorem newEpoch_recs (s : State) : s.newEpoch.telem.recs = s.telem.recs := rfl
theorem newEpoch_captured (s : State) : s.newEpoch.telem.captured = s.ticks + 1 := rfl
theorem newEpoch_tasks (s : State) : s.newEpoch.telem.tasks = 0 := rfl
theorem rd_newEpoch (s : State) (f : Fld) : s.newEpoch.rd f = s.rd f := rfl

theorem rd_storeRecord_epochs (s : State) (r : List Byte) :
    (s.storeRecord r).rd Ctr.TELEM_EPOCHS.fld = (s.rd Ctr.TELEM_EPOCHS.fld + 1) % 2 ^ 64 := by
  have hword : ∀ (u : State) (j : Nat), (u.wr (Reg.TELEM_REC_WORD j) (ofLe ((r.drop (4 * j)).take 4))).rd
      Ctr.TELEM_EPOCHS.fld = u.rd Ctr.TELEM_EPOCHS.fld := fun u j => rd_wr_ne _ _ _ _ (by
      simp only [Fld.key, Reg.TELEM_REC_WORD, Ctr.fld, Ctr.TELEM_EPOCHS, Bool.false_eq_true, if_false]
      omega)
  unfold State.storeRecord
  dsimp only
  rw [rd_bump_same _ _ _ (by decide), rd_wr_ne _ _ _ _ (by decide), rd_mk, rd_fold,
    foldl_keeps (fun u : State => u.rd Ctr.TELEM_EPOCHS.fld) _ hword]

theorem storeRecord_telem (s : State) (r : List Byte) :
    (s.storeRecord r).telem = { s.telem with recs := (r :: s.telem.recs).take 16 } := by
  unfold State.storeRecord
  dsimp only
  rw [bump_telem, wr_telem]
  dsimp only
  have hwords := foldl_keeps State.telem (fun (u : State) j => u.wr (Reg.TELEM_REC_WORD j)
    (ofLe ((r.drop (4 * j)).take 4))) (fun _ _ => rfl) (List.range 64) s
  rw [hwords]

theorem telemetryCapture_completes (s : State) (hdue : s.captureDue = true) : completes .telemetryCapture s fun t =>
    t.telem.recs = (s.telemRecord :: s.telem.recs).take 16 ∧ t.telem.captured = s.ticks + 1 ∧ t.telem.tasks = 0 ∧
    t.rd Ctr.TELEM_EPOCHS.fld = (s.rd Ctr.TELEM_EPOCHS.fld + 1) % 2 ^ 64 := by
  show ∃ t, execTelemetryCapture s = .next t ∧ _
  simp only [execTelemetryCapture, hdue, Bool.not_true, Bool.false_eq_true, if_false]
  have hk := (((sends.refl (s.newEpoch.storeRecord s.telemRecord)).ringRecord (e := s.epochBell / 1024)
    (r := s.telemRecord)).sendDigest (r := s.telemRecord)).subscription (r := s.telemRecord)
  have ht := storeRecord_telem s.newEpoch s.telemRecord
  refine ⟨_, rfl, ?_, ?_, ?_, ?_⟩
  · rw [hk.recs, ht, newEpoch_recs]
  · rw [hk.captured, ht]
    exact newEpoch_captured s
  · rw [hk.tasks, ht]
    exact newEpoch_tasks s
  · rw [hk.regs _ (by decide), rd_storeRecord_epochs, rd_newEpoch]

/-! ### The trace -/

theorem rd_wrB_same (s : State) (f : Fld) (b : Bool) (h : f.width = 1) : (s.wrB f b).rd f = b2n b := by
  rw [wrB_eq, rd_wr_same, h]
  cases b <;> rfl

theorem rd_wrB_ne (s : State) (f g : Fld) (b : Bool) (h : g.key ≠ f.key) : (s.wrB f b).rd g = s.rd g :=
  rd_wr_ne s f g _ h

theorem traceCtrlWrite_completes (val : Word) (s : State) : completes (.traceCtrlWrite val) s fun t =>
    t.rd Reg.TRACE_CTRL_EN = b2n (bit val.toNat 0) ∧
    t.rd Reg.TRACE_CTRL_WRAP = b2n (bit val.toNat 1) ∧ t.rd Reg.TRACE_CTRL_STREAM = b2n (bit val.toNat 2) ∧
    t.rd Reg.TRACE_CTRL_TAG_FILTER = b2n (bit val.toNat 3) ∧ t.rd Reg.TRACE_CTRL_ROW_FILTER = b2n (bit val.toNat 4) ∧
    t.rd Reg.TRACE_CTRL_TRIG_EN = b2n (bit val.toNat 5) ∧ frame [.regs, .mill] s t ∧
    (bit val.toNat 0 = true → t.rd Reg.TRACE_STATUS_FULL = 0 ∧ t.rd Reg.TRACE_STATUS_FROZEN = 0 ∧
      t.mill.trace.count = 0 ∧ t.mill.trace.fired = false) := by
  refine ⟨s.writeTraceCtrl val.toNat, rfl, ?_⟩
  unfold State.writeTraceCtrl
  cases bit val.toNat 0 with
  | true =>
    simp (disch := decide) only [if_true, rd_mk, rd_fold, rd_wr_ne, rd_wr_same, rd_wrB_ne, rd_wrB_same, Nat.zero_mod,
      true_and]
    refine ⟨fun p hp => ?_, fun _ => trivial⟩
    cases p <;> first | rfl | exact absurd (by decide) hp
  | false =>
    simp (disch := decide) only [rd_wrB_ne, rd_wrB_same, Bool.false_eq_true, if_false,
      true_and]
    refine ⟨fun p hp => ?_, nofun⟩
    cases p <;> first | rfl | exact absurd (by decide) hp

theorem traceGroupStream_completes (g : Nat) (rest : List Nat) (s : State) (hg : s.mill.trace.groups = g :: rest)
    (hs : s.is Reg.TRACE_CTRL_STREAM = true) (hd : s.farDbg = true) (hz : s.rd Reg.TRACE_STREAM_SIZE_KIB4 ≠ 0)
    (hc : mget s.uahus.credits 3 0 ≠ 0)
    (hw : (s.window (bits s.traceAddr 32 8)).admits true (s.traceAddr % 2 ^ 32) 4096 = true) :
    completes .traceGroupStream s fun t => t.mill.trace.groups = rest ∧
      t.mill.trace.sent = (s.mill.trace.sent + 1) % s.rd Reg.TRACE_STREAM_SIZE_KIB4 ∧
      t.rd Ctr.TRACE_GROUPS_STREAMED.fld = (s.rd Ctr.TRACE_GROUPS_STREAMED.fld + 1) % 2 ^ 64 := by
  show ∃ t, execTraceGroupStream s = .next t ∧ _
  simp only [execTraceGroupStream, hg]
  rw [if_pos (by simp [hs, hd, hz, hc]), State.streamGroup, if_pos hw]
  have hk (u : State) (x : HostTx) := (sends.refl u).hostTx (x := x)
  refine ⟨_, rfl, ?_, ?_, ?_⟩
  · rw [bump_mill, (hk _ _).mill]
  · rw [bump_mill, (hk _ _).mill]
  · rw [rd_bump_same _ _ _ (by decide), (hk _ _).regs _ (by decide)]
    rfl

/-! ### The curves -/

theorem curveShadowWrite_free (path : Sys2Proof.Path) (k : Nat) (val : Word) (s : State) (hk : k < 80)
    (ha : s.armed 0x64 = false) (hb : s.bankHeld (1 - s.rd Reg.LOOM_STATUS_ACTIVE_BANK) = false) :
    completes (.curveShadowWrite path k val) s fun t =>
      mget t.shadow.pwl (80 * s.rd (Reg.LOOM_PWL_SEL_TABLE path.num) + k) 0 = val.toNat ∧
      t.rd (Hdr.SHADOW_WRITTEN 0x64) = 1 ∧ t.active = s.active ∧ frame [.regs, .shadow] s t := by
  show ∃ t, execCurveShadowWrite path k val s = .next t ∧ _
  simp only [execCurveShadowWrite, State.writeCurve, hk, ha, hb, if_true, Bool.false_eq_true, if_false]
  refine ⟨_, rfl, ?_, ?_, rfl, ?_⟩
  · rw [wr_shadow]
    exact (mget_mset_same _ _ _ _).trans (Nat.mod_eq_of_lt val.isLt)
  · rw [rd_wr_same]; rfl
  · intro p hp
    cases p <;> first | rfl | exact absurd (by decide) hp

theorem curveShadowWrite_busy (path : Sys2Proof.Path) (k : Nat) (val : Word) (s : State) (hk : k < 80)
    (ha : s.armed 0x64 = false) (hb : s.bankHeld (1 - s.rd Reg.LOOM_STATUS_ACTIVE_BANK) = true) :
    completes (.curveShadowWrite path k val) s fun t => t.shadow = s.shadow ∧ errUp t Err.LOOM_CURVE_BUSY ∧
      t.rd Ctr.LOOM_CURVE_WRITES_DROPPED.fld = (s.rd Ctr.LOOM_CURVE_WRITES_DROPPED.fld + 1) % 2 ^ 64 := by
  show ∃ t, execCurveShadowWrite path k val s = .next t ∧ _
  simp only [execCurveShadowWrite, State.writeCurve, hk, ha, hb, if_true, Bool.false_eq_true, if_false]
  refine ⟨_, rfl, ?_, raise_sets _ Err.LOOM_CURVE_BUSY {} (by decide) (by decide), ?_⟩
  · rw [raise_shadow, bump_shadow]; rfl
  · rw [rd_raise_ne _ _ _ _ (by decide), rd_bump_same _ _ _ (by decide), State.loomNote]
    simp (disch := decide) only [rd_wr_ne]

theorem curveShadowWrite_armed (path : Sys2Proof.Path) (k : Nat) (val : Word) (s : State) (hk : k < 80)
    (ha : s.armed 0x64 = true) : completes (.curveShadowWrite path k val) s fun t =>
      t.shadow = s.shadow ∧ errUp t { page := 0x64, bit := 30, cls := 0 } := by
  show ∃ t, execCurveShadowWrite path k val s = .next t ∧ _
  simp only [execCurveShadowWrite, State.writeCurve, hk, ha, if_true]
  refine ⟨_, rfl, ?_, raise_sets _ _ {} (by decide) (by decide)⟩
  show ((s.bump _ 1).raise _).shadow = _
  rw [raise_shadow, bump_shadow]

/-! ### The bell boundary -/

theorem bellBoundary_running (bad : List Nat) (s : State) (hr : s.boot.running = true) :
    completes (.bellBoundary bad) s fun t =>
      t.ticks = s.ticks + 1 ∧ t.bellNum = (s.bell.nextNum.getD (s.bellNum + 1)) % 2 ^ 48 := by
  show ∃ t, execBellBoundary bad s = .next t ∧ _
  simp only [execBellBoundary, hr, Bool.not_true, Bool.false_eq_true, if_false]
  refine ⟨_, rfl, ?_⟩
  obtain ⟨hnum, hticks, hnext⟩ := (((keeps.same s).endBell (bad := bad)).takeRisings).2 trivial
  obtain ⟨s0, -, hafter, hticks0, hnum0⟩ := keeps.bellTick_split (s.endBell bad).takeRisings
  have h1 := hafter.boundarySwaps.applyBand.driveThermN.lanternBoundary.hearthBoundary
  have h2 := (h1.takeSnaps (bell := s.bellNum)).linksBoundary.tasksBoundary.windowsBoundary.sumPower.reportDrained
  obtain ⟨hnum', hticks', -⟩ := h2.decideCalib.ditherTick.l0Tick.uartTick.2 trivial
  exact ⟨by rw [hticks', hticks0, hticks], by rw [hnum', hnum0, hnum, hnext]; rfl⟩

theorem bellBoundary_held (bad : List Nat) (s : State) (hr : s.boot.running = false) :
    exec (.bellBoundary bad) s = .next { s with ticks := s.ticks + 1 } := by
  show execBellBoundary bad s = _
  simp only [execBellBoundary, hr, Bool.not_false, if_true]
  rfl

theorem gaspClear_free (s : State) (h : s.is Reg.LEDGER_STATUS_LOST = false) :
    exec .gaspClear s = .next { s with ledger := { s.ledger with gasp := [] } } := by
  show execGaspClear s = _
  simp only [execGaspClear, State.gaspClear, h, Bool.false_eq_true, if_false]
  rfl

theorem gaspClear_lost (s : State) (h : s.is Reg.LEDGER_STATUS_LOST = true) : exec .gaspClear s = .next s := by
  show execGaspClear s = _
  simp only [execGaspClear, State.gaspClear, h, if_true]
  rfl

/-- Settles O58: a lemma for each command; the boundary's number and time follow from the frame lemmas of all that a
boundary does before and after `bellTick`. -/
theorem telemetryTraceAndCurves : Obligations.TelemetryTraceAndCurves :=
  ⟨telemetryCapture_completes, traceCtrlWrite_completes, traceGroupStream_completes, curveShadowWrite_free,
    curveShadowWrite_busy, curveShadowWrite_armed, gaspClear_free, gaspClear_lost, bellBoundary_running,
    bellBoundary_held⟩

end Sys2Proof.Machine
end

section
/-! ## Images, steps and their ends -/

namespace Sys2Proof.Machine

/-! ### Programs, tasks and rows after a write of one of them -/

theorem prog_setProg_same (s : State) (n : Nat) (p : Prog) : (s.setProg n p).prog n = some p := mfind_mput_same ..

theorem task_setTask_same (s : State) (n : Nat) (t : Task) : (s.setTask n t).task n = t := mget_mset_same ..

/-! ### The trace -/

/-- The register fields that a trace record may change. -/
def traceFields : List Fld :=
  [Reg.TRACE_STATUS_WRITE_PTR, Reg.TRACE_STATUS_FULL, Reg.TRACE_STATUS_FROZEN, Ctr.TRACE_RECORDS_WRITTEN.fld,
   Ctr.TRACE_RECORDS_DROPPED.fld, Ctr.TRACE_TRIGGERS.fld, Hdr.CNT_OVF Ctr.TRACE_TRIGGERS.page]
    ++ raiseFields Err.TRACE_TRACE_DROPPED.page

/-- From `s` to `t` only the trace and the reports of its loss have changed of what a step works on. -/
structure traced (s t : State) : Prop where
  regs   : regsKept s t traceFields
  progs  : t.mill.progs = s.mill.progs
  rows   : t.mill.rows = s.mill.rows
  miller : t.miller = s.miller
  tasks  : t.tasks = s.tasks

namespace traced

variable {s t u : State}

theorem refl (s : State) : traced s s := ⟨regsKept_refl s _, rfl, rfl, rfl, rfl⟩

theorem upd (h : traced s t) (hr : u.regs = t.regs := by rfl) (hp : u.mill.progs = t.mill.progs := by rfl)
    (hw : u.mill.rows = t.mill.rows := by rfl) (hm : u.miller = t.miller := by rfl)
    (ht : u.tasks = t.tasks := by rfl) : traced s u :=
  ⟨regsKept_upd h.regs hr, hp.trans h.progs, hw.trans h.rows, hm.trans h.miller, ht.trans h.tasks⟩

theorem wr {f : Fld} {v : Nat} (h : traced s t) (hf : f ∈ traceFields := by decide) : traced s (t.wr f v) :=
  ⟨regsKept_wr f v h.regs hf, h.progs, h.rows, h.miller, h.tasks⟩

theorem bump {c : Ctr} {n : Nat} (h : traced s t) (hf : c.fld ∈ traceFields := by decide)
    (ho : Hdr.CNT_OVF c.page ∈ traceFields := by decide) : traced s (t.bump c n) := by
  refine ⟨regsKept_bump c n h.regs hf ho, ?_, ?_, ?_, ?_⟩ <;> simp only [bump_mill, bump_miller, bump_tasks]
  exacts [h.progs, h.rows, h.miller, h.tasks]

theorem raise {e : ErrBit} {o : Occ} (h : traced s t) (he : ∀ g ∈ raiseFields e.page, g ∈ traceFields := by decide) :
    traced s (t.raise e o) := by
  refine ⟨regsKept_trans h.regs (regsKept_mono (regsKept_raise e o (regsKept_refl t _)) he), ?_, ?_, ?_, ?_⟩ <;>
    simp only [raise_mill, raise_miller, raise_tasks]
  exacts [h.progs, h.rows, h.miller, h.tasks]

theorem ite {c : Prop} [Decidable c] (ht : traced s t) (hu : traced s u) : traced s (if c then t else u) := by
  split
  · exact ht
  · exact hu

theorem traceFreeze (h : traced s t) : traced s t.traceFreeze := h.wr

theorem traceStore {d : List Byte} (h : traced s t) : traced s (t.traceStore d) := by
  unfold State.traceStore
  extract_lets w tr full lost gs gs' s1 _ s2 s3 s4
  have h1 : traced s s1 := wr (wr h)
  have h2 : traced s s2 := h1.upd
  have h3 : traced s s3 := h2.bump
  have h4 : traced s s4 := h3.bump.raise.ite h3
  exact h.ite (h.bump.raise.ite (h4.traceFreeze.ite h4))

theorem trace {kind n : Nat} {tail pb : Bool} {word rows data : Nat} (h : traced s t) :
    traced s (t.trace kind n tail pb word rows data) := by
  unfold State.trace
  extract_lets _ _ _ s1 s2 _ _ _ s3
  have h1 : traced s s1 := h.traceStore
  have h2 : traced s s2 := h1.traceStore.bump
  have h3 : traced s s3 := h2.upd
  exact h.ite ((h3.traceFreeze.ite h3).ite h1)

theorem prog_eq (h : traced s t) (n : Nat) : t.prog n = s.prog n := by simp only [State.prog, h.progs]

theorem stream_eq (h : traced s t) (r k : Nat) : t.stream r k = s.stream r k := by
  simp only [State.stream, State.rowUnit, h.rows]

end traced

/-! ### The start of a step -/

theorem setCore_rows (s : State) (c : Nat) (k : Core) : (s.setCore c k).mill.rows = s.mill.rows := rfl
theorem setCore_regs (s : State) (c : Nat) (k : Core) : (s.setCore c k).regs = s.regs := rfl

theorem freshRow_rows (s : State) (r : Nat) :
    (s.freshRow r).mill.rows = mput s.mill.rows r { cfg := [], streams := [] } := by
  unfold State.freshRow
  dsimp only [State.setRow]
  rw [foldl_keeps (fun u : State => u.mill.rows) _ fun u c => setCore_rows u c _]

/-- Rows made fresh hold empty streams, as do those that held them before. -/
theorem stream_foldl_freshRow (l : List Nat) (s : State) (r k : Nat) (h : r ∈ l ∨ s.stream r k = StreamQ.blank) :
    (l.foldl (fun (u : State) q => u.freshRow q) s).stream r k = StreamQ.blank := by
  induction l generalizing s with
  | nil => exact h.resolve_left (List.not_mem_nil)
  | cons q l ih =>
    rw [List.foldl_cons]
    apply ih
    by_cases hq : r = q
    · right
      subst hq
      simp only [State.stream, State.rowUnit, freshRow_rows, mget_mput_same, mget_nil]
    · rcases h with h | h
      · exact .inl ((List.mem_cons.1 h).resolve_left hq)
      · right
        simpa only [State.stream, State.rowUnit, freshRow_rows, mget_mput_ne _ _ _ _ _ hq] using h

theorem stream_freshRows (s : State) (rows r k : Nat) (h : r ∈ rowsOf rows) :
    (s.freshRows rows).stream r k = StreamQ.blank := by
  have hs := stream_foldl_freshRow (rowsOf rows) s r k (.inl h)
  unfold State.freshRows
  dsimp only [State.stream, State.rowUnit] at hs ⊢
  exact hs

/-- Making a row fresh leaves the registers. -/
theorem freshRow_regs (s : State) (r : Nat) : (s.freshRow r).regs = s.regs := by
  unfold State.freshRow
  dsimp only [State.setRow]
  rw [foldl_keeps State.regs _ fun u c => setCore_regs u c _]

theorem freshRows_regs (s : State) (rows : Nat) : (s.freshRows rows).regs = s.regs := by
  unfold State.freshRows
  dsimp only
  rw [foldl_keeps State.regs _ freshRow_regs]

/-- The program with which a step starts: as it is, or as its save block has it (R424). -/
def State.stepProg (s : State) (p : Prog) : Prog :=
  if p.saved then restore p (readBytes s.miller.dmem 0 p.save 512) else p

/-- A program whose step starts (R413). -/
def State.started (s : State) (q : Prog) : Prog :=
  { q with running := true, tail := false, window := (s.bellNum + bellMod - 1) % bellMod, turn := s.ticks + 1,
           deferred := false, inWord := false, ended := none, issued := 0 }

/-- A step that starts: fresh rows, its program, its count, and the trace. -/
theorem startStep_traced (s : State) (n : Nat) (p : Prog) :
    traced (((s.freshRows p.rows).setProg n (s.started (s.stepProg p))).bump Ctr.MILLER_STEPS_RUN 1)
      (s.startStep n p) := by
  unfold State.startStep
  exact (traced.refl _).trace

theorem prog_bump (s : State) (c : Ctr) (k n : Nat) : (s.bump c k).prog n = s.prog n := by
  simp only [State.prog, bump_mill]

theorem startStep_prog (s : State) (n : Nat) (p : Prog) :
    (s.startStep n p).prog n = some (s.started (s.stepProg p)) := by
  rw [(startStep_traced s n p).prog_eq, prog_bump, prog_setProg_same]

theorem startStep_counts (s : State) (n : Nat) (p : Prog) : (s.startStep n p).rd Ctr.MILLER_STEPS_RUN.fld =
    (s.rd Ctr.MILLER_STEPS_RUN.fld + 1) % 2 ^ 64 := by
  rw [(startStep_traced s n p).regs _ (by decide), rd_bump_same _ _ _ (by decide)]
  exact congrArg (fun v => (v + 1) % 2 ^ 64) (rd_congr (freshRows_regs s p.rows) _)

theorem startStep_streams (s : State) (n : Nat) (p : Prog) (r k : Nat) (hr : r ∈ rowsOf p.rows) :
    (s.startStep n p).stream r k = StreamQ.blank := by
  rw [(startStep_traced s n p).stream_eq, ← stream_freshRows s p.rows r k hr]
  simp only [State.stream, State.rowUnit, bump_mill, State.setProg]

theorem millStepStart_fresh (slot : Nat) (ecc : EccResult) (p : Prog) (s : State) (hp : s.prog slot = some p)
    (hm : s.stepMayStart slot = true) (hs : p.saved = false) :
    completes (.millStepStart slot ecc) s fun t => t.prog slot = some { p with
        running := true, tail := false, window := (s.bellNum + bellMod - 1) % bellMod, turn := s.ticks + 1,
        deferred := false, inWord := false, ended := none, issued := 0 } ∧
      t.rd Ctr.MILLER_STEPS_RUN.fld = (s.rd Ctr.MILLER_STEPS_RUN.fld + 1) % 2 ^ 64 ∧
      ∀ r ∈ rowsOf p.rows, ∀ k < 4, t.stream r k = StreamQ.blank := by
  have he : execMillStepStart slot ecc s = ok (s.startStep slot p) := by simp [execMillStepStart, hp, hm, hs]
  have hq : s.stepProg p = p := if_neg (by simp [hs])
  refine ⟨_, he, ?_, startStep_counts s slot p, fun r hr k _ => startStep_streams s slot p r k hr⟩
  rw [startStep_prog, hq]
  rfl

theorem dmemRead_ok (s : State) (n addr : Nat) (h : s.rd (Hdr.INJ_COUNT 0x60) = 0) :
    s.dmemRead n addr .ok = (true, s) := by
  have hi : s.injectUse 0x60 1 = (false, s) := if_neg fun hc => hc.1 h
  simp only [State.dmemRead, hi]
  rfl

theorem millStepStart_saved (slot : Nat) (p : Prog) (s : State) (hp : s.prog slot = some p)
    (hm : s.stepMayStart slot = true) (hs : p.saved = true) (hi : s.rd (Hdr.INJ_COUNT 0x60) = 0) :
    completes (.millStepStart slot .ok) s fun t =>
      t.prog slot = some { restore p (readBytes s.miller.dmem 0 p.save 512) with
        running := true, tail := false, window := (s.bellNum + bellMod - 1) % bellMod, turn := s.ticks + 1,
        deferred := false, inWord := false, ended := none, issued := 0 } := by
  have he : execMillStepStart slot .ok s = ok (s.startStep slot p) := by
    simp [execMillStepStart, hp, hm, hs, dmemRead_ok s _ _ hi]
  have hq : s.stepProg p = restore p (readBytes s.miller.dmem 0 p.save 512) := if_pos hs
  exact ⟨_, he, (startStep_prog s slot p).trans (by rw [hq]; rfl)⟩

/-! ### Deferral -/

theorem stepDeferred_completes (slot : Nat) (p : Prog) (s : State) (hp : s.prog slot = some p)
    (hd : s.stepDue slot = true) : completes (.stepDeferred slot) s fun t =>
      t.prog slot = some { p with deferred := true, turn := s.ticks + 1 } ∧
      t.rd Ctr.MILLER_STEPS_DEFERRED.fld = (s.rd Ctr.MILLER_STEPS_DEFERRED.fld + 1) % 2 ^ 64 := by
  show ∃ t, execStepDeferred slot s = .next t ∧ _
  simp only [execStepDeferred, hp, hd, if_true]
  have h (u : State) (w r : Nat) (b : Bool) := (traced.refl u).trace (kind := 4) (n := slot) (tail := false) (pb := b)
    (word := w) (rows := r) (data := 0)
  refine ⟨_, rfl, ?_, ?_⟩
  · rw [(h _ _ _ _).prog_eq]
    simp only [State.prog, bump_mill]
    exact prog_setProg_same s slot _
  · rw [(h _ _ _ _).regs _ (by decide), rd_bump_same _ _ _ (by decide)]
    rfl

/-! ### The end of a task -/

theorem task_congr {s t : State} (h : t.tasks = s.tasks) (n : Nat) : t.task n = s.task n := by
  simp only [State.task, h]

theorem countEnd_tasks (s : State) (n status : Nat) : (s.countEnd n status).tasks = s.tasks := by
  unfold State.countEnd
  split <;> simp only [bump_tasks, raise_tasks]

theorem finish_task (s : State) (n status detail : Nat) (h0 : (s.task n).st ≠ 0) (h4 : (s.task n).st ≠ 4) :
    ((s.finish n status detail).task n).st = 4 ∧
    ((s.finish n status detail).task n).status = (if status = 0 ∧ (s.task n).recovered = true then 1 else status) ∧
    ((s.finish n status detail).task n).detail = detail := by
  unfold State.finish
  extract_lets t st origin s0 s1 _ s2
  rw [if_neg (not_or.2 ⟨h0, h4⟩), task_congr (countEnd_tasks _ _ _), task_setTask_same]
  exact ⟨rfl, rfl, rfl⟩

/-- A task that ends with OK keeps the RESULT that it has so far. -/
theorem finish_ok_result (s : State) (n detail : Nat) (h0 : (s.task n).st ≠ 0) (h4 : (s.task n).st ≠ 4) :
    ((s.finish n 0 detail).task n).result = (s.task n).result := by
  unfold State.finish
  extract_lets t st origin s0 s1 _ s2
  rw [if_neg (not_or.2 ⟨h0, h4⟩), task_congr (countEnd_tasks _ _ _), task_setTask_same]
  have hst : st = 0 ∨ st = 1 := by
    unfold st
    split
    · exact .inr rfl
    · exact .inl rfl
  have hs0 : s0 = s := if_neg (by rcases hst with h | h <;> simp [h])
  have hs1 : s1 = s0 := if_neg (by rcases hst with h | h <;> simp [h, endsBadly])
  have hs2 : s2.tasks = s.tasks := by rw [← hs0, ← hs1]
  show (s2.task n).result = _
  rw [task_congr hs2]

/-! ### What the end of a task leaves of the bell's page -/

/-- Every field of the pages up to the bell's reads as before. -/
def bellKept (s t : State) : Prop := ∀ f : Fld, f.key < 2 ^ 19 → t.rd f = s.rd f

theorem key_ge (f : Fld) (h : 2 ≤ f.page) : 2 ^ 19 ≤ f.key := by
  unfold Fld.key
  omega

theorem raiseFields_page (p : Nat) (h : 2 ≤ p) : ∀ g ∈ raiseFields p, 2 ≤ g.page := by
  intro g hg
  simp only [raiseFields, errFields, ledgerFields, alarmFields, List.mem_append, List.mem_cons, List.not_mem_nil,
    or_false] at hg
  rcases hg with (rfl | rfl | rfl | rfl) | hg
  · exact h
  · exact h
  · exact h
  · exact h
  · have hall : ∀ g ∈ alarmFields ++ ledgerFields, 2 ≤ g.page := by decide
    refine hall g ?_
    simpa only [errFields, ledgerFields, alarmFields, List.mem_append, List.mem_cons, List.not_mem_nil, or_false]
      using hg

namespace bellKept

variable {s t u : State}

theorem refl (s : State) : bellKept s s := fun _ _ => rfl

theorem of_regsKept {fs : List Fld} (h : bellKept s t) (hk : regsKept t u fs) (hp : ∀ g ∈ fs, 2 ≤ g.page) :
    bellKept s u := fun f hf => (hk f fun g hg he => by have := key_ge g (hp g hg); omega).trans (h f hf)

theorem upd (h : bellKept s t) (hr : u.regs = t.regs := by rfl) : bellKept s u :=
  fun f hf => (rd_congr hr f).trans (h f hf)

theorem wr {g : Fld} {v : Nat} (h : bellKept s t) (hg : 2 ≤ g.page) : bellKept s (t.wr g v) :=
  h.of_regsKept (regsKept_wr g v (regsKept_refl t [g]) (List.mem_singleton.2 rfl)) (by simpa using hg)

theorem bump {c : Ctr} {n : Nat} (h : bellKept s t) (hc : 2 ≤ c.page := by decide) : bellKept s (t.bump c n) :=
  h.of_regsKept (regsKept_bump c n (regsKept_refl t [c.fld, Hdr.CNT_OVF c.page]) (by simp) (by simp))
    (by simpa [Ctr.fld, Hdr.CNT_OVF] using hc)

theorem raise {e : ErrBit} {o : Occ} (h : bellKept s t) (he : 2 ≤ e.page := by decide) : bellKept s (t.raise e o) :=
  h.of_regsKept (regsKept_raise e o (regsKept_refl t _)) (raiseFields_page _ he)

theorem ite {c : Prop} [Decidable c] (ht : bellKept s t) (hu : bellKept s u) : bellKept s (if c then t else u) := by
  split
  · exact ht
  · exact hu

theorem foldl {β : Type} {g : State → β → State} {l : List β} (hg : ∀ a x, bellKept s a → bellKept s (g a x))
    (h : bellKept s t) : bellKept s (l.foldl g t) := by
  induction l generalizing t with
  | nil => exact h
  | cons x l ih => exact ih (hg t x h)

theorem sendOpen {own : Nat} {x : Sheaf} (h : bellKept s t) : bellKept s (t.sendOpen own x) :=
  h.of_regsKept ((sends.refl t).sendOpen).regs (by decide)

theorem undefineRegion {n : Nat} (h : bellKept s t) : bellKept s (t.undefineRegion n) := by
  unfold State.undefineRegion
  extract_lets d s1
  have h1 : bellKept s s1 := foldl (fun _ _ h => h.upd) h
  exact h1.upd

theorem loseResults {n status : Nat} (h : bellKept s t) : bellKept s (t.loseResults n status) := by
  unfold State.loseResults
  exact h.undefineRegion.ite h

theorem abortNotice {n origin reason : Nat} (h : bellKept s t) : bellKept s (t.abortNotice n origin reason) := by
  unfold State.abortNotice
  exact h.ite (foldl (fun _ _ h => h.sendOpen) h.upd)

theorem showHop {k : Nat} (h : bellKept s t) : bellKept s (t.showHop k) := by
  unfold State.showHop
  exact (h.wr (by simp only [Reg.FERRY_REPLAY_QUEUED]; omega)).wr (by simp only [Reg.FERRY_REPLAY_HELD]; omega)

theorem flushTask {n : Nat} (h : bellKept s t) : bellKept s (t.flushTask n) := by
  unfold State.flushTask
  extract_lets tk s1 opens gone
  have h1 : bellKept s s1 := foldl (fun a _ h => h.ite (showHop (upd (t := a.bump Ctr.SHEPHERD_FLUSHED_SHEAVES _) h.bump))) h
  clear_value s1
  exact bump (upd (t := s1) h1)

theorem countEnd {n status : Nat} (h : bellKept s t) : bellKept s (t.countEnd n status) := by
  unfold State.countEnd
  split
  · exact h.bump
  · exact h.bump
  · exact h.bump
  · exact h.bump.raise
  · exact h.bump
  · exact h.bump.raise
  · exact h

theorem finish {n status detail : Nat} (h : bellKept s t) : bellKept s (t.finish n status detail) := by
  unfold State.finish
  extract_lets tk st origin s0 s1 _ s2
  have h0 : bellKept s s0 := h.loseResults
  have h1 : bellKept s s1 := h0.abortNotice.flushTask.ite h0
  have h2 : bellKept s s2 := h1.upd
  exact h.ite (countEnd (upd (t := s2) h2))

end bellKept

/-! ### Overrun -/

theorem overrun_eq (s : State) (n : Nat) (p : Prog) (h : (s.task n).stop = none) : s.overrun n p =
    (((s.setProg n { p with running := false, tail := false }).bump Ctr.BELL_OVERRUN_STEPS 1).raise Err.BELL_OVERRUN
      (s.occOf n)).finish n 7 (p.window % 2 ^ 32) := by
  simp only [State.overrun, h]

theorem bellOverrun_completes (slot : Nat) (p : Prog) (s : State) (hp : s.prog slot = some p) (hr : p.running = true)
    (ht : p.tail = true) (hf : s.frozen = false) (hst : (s.task slot).st = 2) (hstop : (s.task slot).stop = none) :
    completes (.bellOverrun slot) s fun t =>
      (t.task slot).st = 4 ∧ (t.task slot).status = 7 ∧ (t.task slot).detail = p.window % 2 ^ 32 ∧
      errUp t Err.BELL_OVERRUN ∧
      t.rd Ctr.BELL_OVERRUN_STEPS.fld = (s.rd Ctr.BELL_OVERRUN_STEPS.fld + 1) % 2 ^ 64 := by
  have he : execBellOverrun slot s = ok (s.overrun slot p) := by simp [execBellOverrun, hp, hr, ht, hf]
  refine ⟨_, he, ?_⟩
  rw [overrun_eq s slot p hstop]
  have hcount : (((s.setProg slot { p with running := false, tail := false }).bump Ctr.BELL_OVERRUN_STEPS 1).raise
      Err.BELL_OVERRUN (s.occOf slot)).rd Ctr.BELL_OVERRUN_STEPS.fld
      = (s.rd Ctr.BELL_OVERRUN_STEPS.fld + 1) % 2 ^ 64 := by
    rw [rd_raise_ne _ _ _ _ (by decide), rd_bump_same _ _ _ (by decide)]
    rfl
  have hup := raise_sets ((s.setProg slot { p with running := false, tail := false }).bump Ctr.BELL_OVERRUN_STEPS 1)
    Err.BELL_OVERRUN (s.occOf slot) (by decide) (by decide)
  have htask : (((s.setProg slot { p with running := false, tail := false }).bump Ctr.BELL_OVERRUN_STEPS 1).raise
      Err.BELL_OVERRUN (s.occOf slot)).task slot = s.task slot :=
    task_congr (by rw [raise_tasks, bump_tasks]; rfl) slot
  generalize ((s.setProg slot { p with running := false, tail := false }).bump Ctr.BELL_OVERRUN_STEPS 1).raise
    Err.BELL_OVERRUN (s.occOf slot) = u at *
  have hk := (bellKept.refl u).finish (n := slot) (status := 7) (detail := p.window % 2 ^ 32)
  obtain ⟨h1, h2, h3⟩ := finish_task u slot 7 (p.window % 2 ^ 32) (by rw [htask, hst]; decide)
    (by rw [htask, hst]; decide)
  refine ⟨h1, h2, h3, ?_, ?_⟩
  · unfold errUp
    rw [hk _ (by decide)]
    exact hup
  · rw [hk _ (by decide), hcount]

/-! ### The end of a step -/

theorem holdRows_eq (s : State) (n mask : Nat) :
    (s.holdRows n mask).tasks = s.tasks ∧ (s.holdRows n mask).miller = s.miller := by
  have hrow {α : Type} (φ : State → α) (hwr : ∀ (u : State) f v, φ (u.wr f v) = φ u) :
      φ (s.holdRows n mask) = φ s := foldl_keeps φ _ (fun u r => by
    split
    · rfl
    · rw [hwr, hwr]) _ _
  exact ⟨hrow State.tasks fun _ _ _ => rfl, hrow State.miller fun _ _ _ => rfl⟩

theorem stepPoint_none (s : State) (n : Nat) (h : (s.task n).stop = none) : s.stepPoint n = (false, s) := by
  simp only [State.stepPoint, h]

/-- The rows that STEP named to be held are held when the step is saved. -/
def State.heldNext (s : State) (n : Nat) (p : Prog) : State :=
  if p.ended = some .step ∧ p.hold = true then s.holdRows n p.nextRows else s

theorem heldNext_eq (s : State) (n : Nat) (p : Prog) :
    (s.heldNext n p).tasks = s.tasks ∧ (s.heldNext n p).miller = s.miller := by
  unfold State.heldNext
  split
  · exact holdRows_eq s n p.nextRows
  · exact ⟨rfl, rfl⟩

/-- The program as it goes into its next step, by how the last one ended (R413). -/
def Prog.toNext (p : Prog) : Prog :=
  match p.ended with
  | some .step => { p with rows := p.nextRows, mode := p.nextMode, hold := false }
  | _ => p

/-- A step is saved: held rows, its save block, its program, and the trace. -/
theorem savePoint_traced (s : State) (n : Nat) (p : Prog) :
    traced ({ s.heldNext n p with
        miller := { (s.heldNext n p).miller with
          dmem := writeBytes (s.heldNext n p).miller.dmem 0 p.save (saveBytes p) } }.setProg n
        { p.toNext with running := false, tail := false, saved := true, inWord := false }) (s.savePoint n p) := by
  unfold State.savePoint
  exact (traced.refl _).trace

theorem savePoint_tasks (s : State) (n : Nat) (p : Prog) : (s.savePoint n p).tasks = s.tasks :=
  (savePoint_traced s n p).tasks.trans (heldNext_eq s n p).1

theorem savePoint_miller (s : State) (n : Nat) (p : Prog) : (s.savePoint n p).miller =
    { s.miller with dmem := writeBytes s.miller.dmem 0 p.save (saveBytes p) } := by
  rw [(savePoint_traced s n p).miller, ← (heldNext_eq s n p).2]
  rfl

theorem savePoint_prog (s : State) (n : Nat) (p : Prog) : (s.savePoint n p).prog n =
    some { p.toNext with running := false, tail := false, saved := true, inWord := false } := by
  rw [(savePoint_traced s n p).prog_eq, prog_setProg_same]

theorem execMillStepFinish_eq (slot : Nat) (p : Prog) (s : State) (hp : s.prog slot = some p)
    (hr : p.running = true) (he : p.ended.isSome = true) (hm : s.millerStopped = false)
    (hq : s.stepQuiet p = true) : execMillStepFinish slot s = ok (s.finishStep slot p) := by
  simp [execMillStepFinish, hp, hr, he, hm, hq]

theorem savePoint_stepPoint (s : State) (n : Nat) (p : Prog) (h : (s.task n).stop = none) :
    (s.savePoint n p).stepPoint n = (false, s.savePoint n p) :=
  stepPoint_none _ _ (by rw [task_congr (savePoint_tasks s n p), h])

theorem millStepFinish_step (slot : Nat) (p : Prog) (s : State) (hp : s.prog slot = some p) (hr : p.running = true)
    (he : p.ended = some .step) (hm : s.millerStopped = false) (hq : s.stepQuiet p = true)
    (hstop : (s.task slot).stop = none) : completes (.millStepFinish slot) s fun t =>
      t.prog slot = some { p with
        rows := p.nextRows, mode := p.nextMode, hold := false, running := false, tail := false, saved := true,
        inWord := false } ∧ t.tasks = s.tasks ∧
      t.miller = { s.miller with dmem := writeBytes s.miller.dmem 0 p.save (saveBytes p) } := by
  have hfin : s.finishStep slot p = s.savePoint slot p := by
    simp only [State.finishStep, savePoint_stepPoint s slot p hstop, he, Bool.false_eq_true, if_false]
  have hnext : p.toNext = { p with rows := p.nextRows, mode := p.nextMode, hold := false } := by
    simp only [Prog.toNext, he]
  refine ⟨_, execMillStepFinish_eq slot p s hp hr (by rw [he]; rfl) hm hq, ?_⟩
  rw [hfin]
  refine ⟨(savePoint_prog s slot p).trans ?_, savePoint_tasks s slot p, savePoint_miller s slot p⟩
  rw [hnext]

theorem millStepFinish_end (slot : Nat) (p : Prog) (v : Nat) (s : State) (hp : s.prog slot = some p)
    (hr : p.running = true) (he : p.ended = some (.endOp v)) (hm : s.millerStopped = false)
    (hq : s.stepQuiet p = true) (hstop : (s.task slot).stop = none) (hst : (s.task slot).st = 2) :
    completes (.millStepFinish slot) s fun t =>
      (t.task slot).st = 4 ∧ (t.task slot).status = b2n (s.task slot).recovered ∧ (t.task slot).result = v := by
  have hfin : s.finishStep slot p = ((s.savePoint slot p).setTask slot
      { (s.savePoint slot p).task slot with result := v }).finish slot 0 0 := by
    simp only [State.finishStep, savePoint_stepPoint s slot p hstop, he, Bool.false_eq_true, if_false]
  refine ⟨_, execMillStepFinish_eq slot p s hp hr (by rw [he]; rfl) hm hq, ?_⟩
  rw [hfin, task_congr (savePoint_tasks s slot p)]
  have htask := task_setTask_same (s.savePoint slot p) slot { s.task slot with result := v }
  generalize (s.savePoint slot p).setTask slot { s.task slot with result := v } = u at *
  have h0 : (u.task slot).st ≠ 0 := by rw [htask]; simp [hst]
  have h4 : (u.task slot).st ≠ 4 := by rw [htask]; simp [hst]
  obtain ⟨h1, h2, -⟩ := finish_task u slot 0 0 h0 h4
  refine ⟨h1, h2.trans ?_, (finish_ok_result u slot 0 h0 h4).trans (by rw [htask])⟩
  rw [htask]
  cases (s.task slot).recovered <;> rfl

/-! ### Images -/

theorem runsProgram_st (s : State) (n : Nat) (h : s.runsProgram n = true) : (s.task n).st = 2 := by
  simp only [State.runsProgram, State.runs, Bool.and_eq_true, beq_iff_eq] at h
  exact h.1.1.1.2

/-- A source in the Granary without faults is read, and nothing changes. -/
theorem sourcePart_plain (s : State) (n a len : Nat) (h : s.plainSource n a len) :
    s.sourcePart n a len 0 len .ok = (some (some (s.granaryBytes a len)), s) := by
  obtain ⟨htally, hlocal, hin, hpoison, hinj, -⟩ := h
  have hfind : (linesOf a len).find? s.poisoned = none := List.find?_eq_none.2 fun l hl => by simp [hpoison l hl]
  simp [State.sourcePart, htally, State.localBytes, hlocal, hin, State.layerRead, State.granaryRead,
    State.granaryCheck, hfind, hinj]

/-- Words put from a place on leave the places below it alone. -/
theorem mget_words_below (ws : List Nat) (m : Map Nat) (base k j : Nat) (h : j < k) :
    mget ((ws.zipIdx k).foldl (fun (acc : Map Nat) q => mset acc (base + q.2) q.1 0) m) (base + j) 0
      = mget m (base + j) 0 := by
  induction ws generalizing m k with
  | nil => rfl
  | cons w ws ih =>
    rw [List.zipIdx_cons, List.foldl_cons, ih _ (k + 1) (by omega), mget_mset_ne _ _ _ _ _ _ (by omega)]

/-- The words of an image, put one after the other. -/
theorem mget_words (ws : List Nat) (m : Map Nat) (base k i : Nat) (h : i < ws.length) :
    mget ((ws.zipIdx k).foldl (fun (acc : Map Nat) q => mset acc (base + q.2) q.1 0) m) (base + (k + i)) 0 = ws[i] := by
  induction ws generalizing m k i with
  | nil => exact absurd h (Nat.not_lt_zero i)
  | cons w ws ih =>
    rw [List.zipIdx_cons, List.foldl_cons]
    cases i with
    | zero =>
      rw [mget_words_below ws _ base (k + 1) (k + 0) (Nat.lt_succ_self k)]
      exact mget_mset_same _ _ _ _
    | succ i =>
      rw [show k + (i + 1) = k + 1 + i by omega]
      exact ih _ _ _ (Nat.lt_of_succ_lt_succ h)

/-- An image that is placed (R361, R399). -/
structure imagePlaced (s t : State) (n : Nat) (img : Image) (p : Prog) : Prop where
  prog    : t.prog n = some p
  granary : t.granary = s.granary
  images  : t.mill.images = s.mill.images
  imem    : t.miller.imem =
    img.words.zipIdx.foldl (fun (acc : Map Nat) q => mset acc (2 ^ 20 * n + q.2) q.1 0) s.miller.imem
  pc      : p.pc = img.entry
  rows    : p.rows = img.rows % 256
  mode    : p.mode = img.mode
  running : p.running = false
  x1      : p.xr 1 = descNum (s.task n).desc 48 8
  x2      : p.xr 2 = descTag (s.task n).desc
  x3      : p.xr 3 = descRegion (s.task n).desc
  x4      : p.xr 4 = descRegionSize (s.task n).desc

theorem loadImage_placed (s : State) (n : Nat) (img : Image) (h0 : s.prog n = none)
    (h : ((s.loadImage n img).prog n).isSome = true) : ∃ p, imagePlaced s (s.loadImage n img) n img p := by
  revert h
  unfold State.loadImage
  dsimp only
  split
  · intro _
    refine ⟨_, prog_setProg_same _ _ _, rfl, rfl, rfl, rfl, rfl, rfl, rfl, ?_, ?_, ?_, ?_⟩ <;>
      simp [Prog.xr, mget_mset_ne]
  · intro h
    rw [prog_bump, h0] at h
    cases h

theorem opProgramRun_placed (slot : Nat) (img : Image) (s : State) (hr : s.runsProgram slot = true)
    (hp : s.prog slot = none) (hi : mfind s.mill.images slot = none)
    (hsrc : s.plainSource slot (descNum (s.task slot).desc 32 8) (descNum (s.task slot).desc 40 4))
    (hpb : img.pbMajor = s.rd Reg.TOP_PB_VERSION_MAJOR) (hfit : ((s.loadImage slot img).prog slot).isSome = true) :
    completes (.opProgramRun slot img .ok) s fun t => t.granary = s.granary ∧ ∃ p, t.prog slot = some p ∧
      p.pc = img.entry ∧ p.rows = img.rows % 256 ∧ p.mode = img.mode ∧ p.running = false ∧
      p.xr 1 = descNum (s.task slot).desc 48 8 ∧ p.xr 2 = descTag (s.task slot).desc ∧
      p.xr 3 = descRegion (s.task slot).desc ∧ p.xr 4 = descRegionSize (s.task slot).desc := by
  have he : execOpProgramRun slot img .ok s = ok (s.loadImage slot img) := by
    simp [execOpProgramRun, hr, hp, hi, sourcePart_plain _ _ _ _ hsrc, hpb, hfit]
  obtain ⟨p, h⟩ := loadImage_placed s slot img hp hfit
  exact ⟨_, he, h.granary, p, h.prog, h.pc, h.rows, h.mode, h.running, h.x1, h.x2, h.x3, h.x4⟩

theorem opProgramRun_otherBook (slot : Nat) (img : Image) (s : State) (hr : s.runsProgram slot = true)
    (hp : s.prog slot = none) (hi : mfind s.mill.images slot = none)
    (hsrc : s.plainSource slot (descNum (s.task slot).desc 32 8) (descNum (s.task slot).desc 40 4))
    (hpb : img.pbMajor ≠ s.rd Reg.TOP_PB_VERSION_MAJOR) : completes (.opProgramRun slot img .ok) s fun t =>
      (t.task slot).st = 4 ∧ (t.task slot).status = 12 ∧ (t.task slot).detail = 4 := by
  have he : execOpProgramRun slot img .ok s = ok (s.finish slot 12 4) := by
    simp [execOpProgramRun, hr, hp, hi, sourcePart_plain _ _ _ _ hsrc, hpb]
  have hst := runsProgram_st s slot hr
  exact ⟨_, he, finish_task s slot 12 4 (by omega) (by omega)⟩

theorem programImageLoad_placed (slot : Nat) (img : Image) (s : State) (hi : mfind s.mill.images slot = some img)
    (hr : s.runsProgram slot = true) (hp : s.prog slot = none)
    (hfit : ((s.loadImage slot img).prog slot).isSome = true) : completes (.programImageLoad slot) s fun t =>
      mfind t.mill.images slot = none ∧ (∃ p, t.prog slot = some p ∧ p.pc = img.entry ∧ p.rows = img.rows % 256) ∧
      ∀ i (h : i < img.words.length), mget t.miller.imem (2 ^ 20 * slot + i) 0 = img.words[i] := by
  obtain ⟨p, h⟩ := loadImage_placed s slot img hp hfit
  show ∃ t, execProgramImageLoad slot s = .next t ∧ _
  simp only [execProgramImageLoad, hi, hr, hp, hfit, Bool.not_true, Option.isSome_none, Bool.or_self,
    Bool.false_eq_true, if_false, if_true]
  refine ⟨_, rfl, mfind_mdel_same _ _, ⟨p, h.prog, h.pc, h.rows⟩, fun i hl => ?_⟩
  rw [h.imem]
  simpa only [Nat.zero_add] using mget_words img.words s.miller.imem (2 ^ 20 * slot) 0 i hl

/-- Settles O50: one lemma for each clause; a step's start, its end and its deferral leave a trace that touches nothing
they conclude, and the end of a task leaves the registers of the bell's page. -/
theorem millerStepsAndImages : Obligations.MillerStepsAndImages :=
  ⟨opProgramRun_placed, opProgramRun_otherBook, programImageLoad_placed, millStepStart_fresh, millStepStart_saved,
    millStepFinish_step, millStepFinish_end, stepDeferred_completes, bellOverrun_completes⟩

end Sys2Proof.Machine
end

section
/-! ## The cold reset (R81, R142) -/

namespace Sys2Proof.Machine

/-- What a cold reset makes of the state before it carries the fuses and the die's numbers over and draws the nonce. -/
def State.coldBase (s : State) : State :=
  { State.reset with
    draws := s.draws, pins := { s.pins with thermN := false, bellOut := false }, lastRead := s.lastRead,
    boot := { State.reset.boot with flash := s.boot.flash }, pending := s.pending }

/-- Beyond the registers, the carried fields and the new nonce leave the reset state's parts alone. -/
theorem coldReset_eq (s : State) : s.coldReset =
    { s.coldBase with
      regs := (s.coldBase.keepFields s dieFields).regs, draws := s.draws + 1,
      boot := { s.coldBase.boot with nonce := Config.nonceSource s.draws % 2 ^ 64 } } := by
  show (s.coldBase.keepFields s dieFields).newNonce = _
  rw [keepFields_eq]
  rfl

theorem rd_coldReset (s : State) (f : Fld) : s.coldReset.rd f = (s.coldBase.keepFields s dieFields).rd f :=
  rd_congr (congrArg State.regs (coldReset_eq s)) f

/-- An empty register store reads as the fields' reset values. -/
theorem rd_coldReset_ne (s : State) (f : Fld) (h : ∀ g ∈ dieFields, f.key ≠ g.key) :
    s.coldReset.rd f = f.reset % 2 ^ f.width :=
  calc s.coldReset.rd f
    _ = s.coldBase.rd f := (rd_coldReset s f).trans (rd_keepFields_ne _ _ _ _ h)
    _ = f.reset % 2 ^ f.width := rfl

theorem dieFields_keys_distinct : dieFields.Pairwise (fun a b => a.key ≠ b.key) := by decide

theorem rd_coldReset_die (s : State) (f : Fld) (h : f ∈ dieFields) : s.coldReset.rd f = s.rd f :=
  (rd_coldReset s f).trans (rd_keepFields_mem _ _ _ _ dieFields_keys_distinct h)

/-- Settles O5: the registers by whether the cold reset carries them over, every other part from the reset state. -/
theorem coldResetLeaves : Obligations.ColdResetLeaves := by
  intro s
  refine ⟨s.coldReset, rfl, rd_coldReset_ne s, rd_coldReset_die s, ?_⟩
  rw [coldReset_eq]
  exact ⟨rfl, rfl, rfl, rfl, rfl, rfl, rfl, rfl⟩

end Sys2Proof.Machine
end

section
/-! ## The register pages: counters, the header's controls and the occurrence of an error (R103 to R118, R537) -/

namespace Sys2Proof.Machine

/-! ### No command faults -/

/-- Settles O2: every command runs, and the queue of waiting commands is no part of what it works on. -/
theorem everyCommandAnswersAState : Obligations.EveryCommandAnswersAState := by
  intro c s
  obtain ⟨t, ht, hkeeps⟩ := exec_runs c s
  exact ⟨t, ht, ((within_workParts s t).1 hkeeps).1⟩

/-! ### Counters (R115, R116) -/

theorem lastRead_answer (s : State) (path : Sys2Proof.Path) (v : Nat) :
    mget (s.answer path v).lastRead path.num 0 = v % 2 ^ 32 := mget_mset_same ..

theorem answer_regs (s : State) (path : Sys2Proof.Path) (v : Nat) : (s.answer path v).regs = s.regs := rfl

theorem answer_pages (s : State) (path : Sys2Proof.Path) (v : Nat) : (s.answer path v).pages = s.pages := rfl

/-- Stated for any page state, since the kernel would compare a held value's numerals in unary. -/
theorem setPages_regs (s : State) (ps : PageState) : ({ s with pages := ps } : State).regs = s.regs := rfl

theorem ctrReadLo_eq (s : State) (path : Sys2Proof.Path) (page n : Nat) : s.ctrReadLo path page n =
    (s.ctrView page n % 2 ^ 32, { s with pages := { s.pages with
      hold := mset s.pages.hold (s.holdKey path page)
        ((n + 1) * 2 ^ 32 + s.ctrView page n / 2 ^ 32 % 2 ^ 32) 0 } }) := rfl

theorem ctrReadLo_regs (s : State) (path : Sys2Proof.Path) (page n : Nat) :
    (s.ctrReadLo path page n).2.regs = s.regs := by
  unfold State.ctrReadLo
  exact setPages_regs ..

theorem hold_ctrReadLo (s : State) (path : Sys2Proof.Path) (page n : Nat) :
    mget (s.ctrReadLo path page n).2.pages.hold (s.holdKey path page) 0 =
      (n + 1) * 2 ^ 32 + s.ctrView page n / 2 ^ 32 % 2 ^ 32 := by
  rw [ctrReadLo_eq]
  exact mget_mset_same ..

theorem whold_ctrWriteHi (s : State) (path : Sys2Proof.Path) (page v : Nat) :
    mget (s.ctrWriteHi path page v).pages.whold (256 * path.num + page) 0 = v % 2 ^ 32 := mget_mset_same ..

theorem whold_ctrWriteLo (s : State) (path : Sys2Proof.Path) (page n v : Nat) :
    mget (s.ctrWriteLo path page n v).pages.whold (256 * path.num + page) 0 = 0 := by
  simp only [State.ctrWriteLo, mget_mset_same]

theorem ctrWriteLo_regs (s : State) (path : Sys2Proof.Path) (page n v : Nat) :
    (s.ctrWriteLo path page n v).regs =
      (s.wr (pageCtr page n).fld (mget s.pages.whold (256 * path.num + page) 0 * 2 ^ 32 + v % 2 ^ 32)).regs := by
  unfold State.ctrWriteLo
  exact setPages_regs ..

theorem counterLoRead_known (path : Sys2Proof.Path) (page n : Nat) (s : State) (hn : n < numCounters page) :
    completes (.counterLoRead path page n) s fun t =>
      mget t.lastRead path.num 0 = s.ctrView page n % 2 ^ 32 ∧ t.regs = s.regs ∧
      mget t.pages.hold (s.holdKey path page) 0 = (n + 1) * 2 ^ 32 + s.ctrView page n / 2 ^ 32 % 2 ^ 32 := by
  refine ⟨(s.ctrReadLo path page n).2.answer path (s.ctrReadLo path page n).1, ?_, ?_, ?_, ?_⟩
  · show execCounterLoRead path page n s = _
    simp only [execCounterLoRead, hn, if_true, ok]
  · rw [lastRead_answer, ctrReadLo_eq, Nat.mod_mod]
  · rw [answer_regs, ctrReadLo_regs]
  · rw [answer_pages, hold_ctrReadLo]

theorem counterLoRead_unknown (path : Sys2Proof.Path) (page n : Nat) (s : State) (hn : numCounters page ≤ n) :
    completes (.counterLoRead path page n) s fun t =>
      mget t.lastRead path.num 0 = 0 ∧ t.regs = s.regs ∧ t.pages = s.pages := by
  refine ⟨s.answer path 0, ?_, lastRead_answer .., rfl, rfl⟩
  show execCounterLoRead path page n s = _
  exact if_neg (Nat.not_lt.2 hn)

theorem counterHiWrite_known (path : Sys2Proof.Path) (page n : Nat) (val : Word) (s : State)
    (hn : n < numCounters page) : completes (.counterHiWrite path page n val) s fun t =>
      mget t.pages.whold (256 * path.num + page) 0 = val.toNat ∧ t.regs = s.regs := by
  refine ⟨s.ctrWriteHi path page val.toNat, ?_, ?_, rfl⟩
  · show execCounterHiWrite path page n val s = _
    exact if_pos hn
  · exact (whold_ctrWriteHi ..).trans (Nat.mod_eq_of_lt val.isLt)

/-- The held half and the value written fill the counter's 64 bits. -/
theorem counterLoWrite_known (path : Sys2Proof.Path) (page n : Nat) (val : Word) (s : State)
    (hn : n < numCounters page) (hhold : mget s.pages.whold (256 * path.num + page) 0 < 2 ^ 32) :
    completes (.counterLoWrite path page n val) s fun t =>
      t.rd (pageCtr page n).fld = mget s.pages.whold (256 * path.num + page) 0 * 2 ^ 32 + val.toNat ∧
      mget t.pages.whold (256 * path.num + page) 0 = 0 ∧ regsKept s t [(pageCtr page n).fld] := by
  have hval : val.toNat < 2 ^ 32 := val.isLt
  refine ⟨s.ctrWriteLo path page n val.toNat, ?_, ?_, whold_ctrWriteLo .., ?_⟩
  · show execCounterLoWrite path page n val s = _
    exact if_pos hn
  · rw [rd_congr (ctrWriteLo_regs ..), rd_wr_same, show (pageCtr page n).fld.width = 64 from rfl]
    omega
  · exact regsKept_upd (regsKept_wr _ _ (regsKept_refl _ _) (List.mem_singleton_self _)) (ctrWriteLo_regs ..)

/-- Settles O18: one lemma for each clause. -/
theorem counterAccess : Obligations.CounterAccess :=
  ⟨counterLoRead_known, counterLoRead_unknown, counterHiWrite_known, counterLoWrite_known⟩

/-! ### Snapshots (R118) -/

theorem presentPages_present : ∀ p ∈ presentPages, pagePresent p = true := by decide

theorem pagePresent_lt {p : Nat} (h : pagePresent p = true) : p < 256 := by
  simp only [pagePresent, Bool.or_eq_true, Bool.and_eq_true, decide_eq_true_eq] at h
  omega

theorem requestSnap_regs (s : State) (p : Nat) : (s.requestSnap p).regs = s.regs := by
  unfold State.requestSnap
  split <;> rfl

/-- A request asks for the page's snapshot and withdraws none. -/
theorem mem_requestSnap {s : State} {p q : Nat} (h : q ∈ s.pages.snapReq ∨ q = p ∧ pagePresent p = true) :
    q ∈ (s.requestSnap p).pages.snapReq := by
  unfold State.requestSnap
  split
  · exact List.mem_append.2 (h.imp_right fun hq => List.mem_singleton.2 hq.1)
  · next hc =>
    rcases h with h | ⟨rfl, hp⟩
    · exact h
    · simpa [hp] using hc

theorem mem_requestSnaps (ps : List Nat) (hps : ∀ p ∈ ps, pagePresent p = true) (s : State) (q : Nat)
    (h : q ∈ s.pages.snapReq ∨ q ∈ ps) : q ∈ (ps.foldl (fun acc p => acc.requestSnap p) s).pages.snapReq := by
  induction ps generalizing s with
  | nil => simpa using h
  | cons p ps ih =>
    refine ih (fun x hx => hps x (List.mem_cons_of_mem _ hx)) (s.requestSnap p) ?_
    rcases h with h | h
    · exact .inl (mem_requestSnap (.inl h))
    · rcases List.mem_cons.1 h with h | h
      · exact .inl (mem_requestSnap (.inr ⟨h, hps p List.mem_cons_self⟩))
      · exact .inr h

theorem pgSnapTake_present (page : Nat) (s : State) (hp : pagePresent page = true) :
    completes (.pgSnapTake page) s fun t =>
      page ∈ t.pages.snapReq ∧ t.regs = s.regs ∧ ∀ p ∈ s.pages.snapReq, p ∈ t.pages.snapReq :=
  ⟨s.requestSnap page, rfl, mem_requestSnap (.inr ⟨rfl, hp⟩), requestSnap_regs .., fun _ h => mem_requestSnap (.inl h)⟩

theorem topSnapAll_completes (s : State) : completes .topSnapAll s fun t =>
    (∀ p ∈ presentPages, p ∈ t.pages.snapReq) ∧ t.regs = s.regs :=
  ⟨_, rfl, fun p hp => mem_requestSnaps _ presentPages_present s p (.inr hp),
    foldl_keeps State.regs _ (fun _ _ => requestSnap_regs ..) _ _⟩

/-! ### The page's error header -/

/-- Clearing in `e` the bits that are set in `v`, as PG_ERR's write does. -/
theorem bit_sub_and (e v b : Nat) : bit (e - (e &&& v)) b = (bit e b && !bit v b) := by
  simp only [bit_eq_testBit]
  induction b generalizing e v with
  | zero =>
    have hle : e &&& v ≤ e := Nat.and_le_left
    have hodd : (e &&& v) % 2 = 1 ↔ e % 2 = 1 ∧ v % 2 = 1 := Nat.and_mod_two_eq_one
    simp only [Nat.testBit_zero, ← decide_not, ← Bool.decide_and]
    exact decide_eq_decide.2 (by omega)
  | succ b ih =>
    have hle : e &&& v ≤ e := Nat.and_le_left
    have hodd : (e &&& v) % 2 = 1 ↔ e % 2 = 1 ∧ v % 2 = 1 := Nat.and_mod_two_eq_one
    have hhalf : (e &&& v) / 2 = e / 2 &&& v / 2 := Nat.and_div_two
    have hstep : (e - (e &&& v)) / 2 = e / 2 - (e / 2 &&& v / 2) := by omega
    rw [Nat.testBit_succ, Nat.testBit_succ, Nat.testBit_succ, hstep, ih]

theorem errFields_keys_distinct (p : Nat) : (errFields p).Pairwise (fun f g => f.key ≠ g.key) := by
  simp only [errFields, List.pairwise_cons, List.mem_cons, List.not_mem_nil, or_false, forall_eq_or_imp, forall_eq,
    false_imp_iff, implies_true, List.Pairwise.nil, and_true, Fld.key, Hdr.PG_ERR, Hdr.PG_ERR_FIRST_VALID,
    Hdr.PG_ERR_FIRST_CODE, Hdr.PG_ERR_FIRST_BELL]
  omega

/-- No field of a page's error header is one of the Alarm collector's. -/
theorem errFields_not_alarm {p : Nat} (hp : p < 256) : ∀ f ∈ errFields p, ∀ g ∈ alarmFields, f.key ≠ g.key := by
  have halarm : ∀ g ∈ alarmFields, g.ok ∧ g.off ≠ 0x14 ∧ g.off ≠ 0x1C := by decide
  have herr : ∀ f ∈ errFields p, f.ok ∧ (f.off = 0x14 ∨ f.off = 0x1C) := by
    simp [errFields, Fld.ok, hp, Hdr.PG_ERR, Hdr.PG_ERR_FIRST_VALID, Hdr.PG_ERR_FIRST_CODE, Hdr.PG_ERR_FIRST_BELL]
  intro f hf g hg
  obtain ⟨hgok, h14, h1C⟩ := halarm g hg
  obtain ⟨hfok, hoff⟩ := herr f hf
  exact key_ne hfok hgok (.inr (.inr (.inl (by omega))))

/-- The state with page `p`'s PG_ERR_FIRST record written. -/
def State.setFirst (s : State) (p valid code bell : Nat) : State :=
  ((s.wr (Hdr.PG_ERR_FIRST_VALID p) valid).wr (Hdr.PG_ERR_FIRST_CODE p) code).wr (Hdr.PG_ERR_FIRST_BELL p) bell

theorem rd_setFirst (s : State) (p valid code bell : Nat) :
    (s.setFirst p valid code bell).rd (Hdr.PG_ERR p) = s.rd (Hdr.PG_ERR p) ∧
    (s.setFirst p valid code bell).rd (Hdr.PG_ERR_FIRST_VALID p) = valid % 2 ∧
    (s.setFirst p valid code bell).rd (Hdr.PG_ERR_FIRST_CODE p) = code % 32 := by
  have hkeys := errFields_keys_distinct p
  simp only [errFields, List.pairwise_cons, List.mem_cons, forall_eq_or_imp] at hkeys
  obtain ⟨⟨hev, hec, heb, -⟩, ⟨hvc, hvb, -⟩, ⟨hcb, -⟩, -⟩ := hkeys
  unfold State.setFirst
  refine ⟨?_, ?_, ?_⟩
  · rw [rd_wr_ne _ _ _ _ heb, rd_wr_ne _ _ _ _ hec, rd_wr_ne _ _ _ _ hev]
  · rw [rd_wr_ne _ _ _ _ hvb, rd_wr_ne _ _ _ _ hvc, rd_wr_same]
    rfl
  · rw [rd_wr_ne _ _ _ _ hcb, rd_wr_same]
    rfl

theorem regsKept_setFirst {s t : State} {fs : List Fld} (p valid code bell : Nat) (h : regsKept s t fs)
    (hfs : ∀ g ∈ errFields p, g ∈ fs) : regsKept s (t.setFirst p valid code bell) fs :=
  regsKept_wr _ _ (regsKept_wr _ _ (regsKept_wr _ _ h (hfs _ (by simp [errFields]))) (hfs _ (by simp [errFields])))
    (hfs _ (by simp [errFields]))

/-- A W1C write of PG_ERR clears the record with the last bit (R104). -/
theorem clearErr_eq (s : State) (p v : Nat) : s.clearErr p v =
    if s.rd (Hdr.PG_ERR p) - (s.rd (Hdr.PG_ERR p) &&& v) = 0 then
      (s.wr (Hdr.PG_ERR p) (s.rd (Hdr.PG_ERR p) - (s.rd (Hdr.PG_ERR p) &&& v))).setFirst p 0 0 0
    else s.wr (Hdr.PG_ERR p) (s.rd (Hdr.PG_ERR p) - (s.rd (Hdr.PG_ERR p) &&& v)) := rfl

theorem rd_clearErr_pgErr (s : State) (p v : Nat) :
    (s.clearErr p v).rd (Hdr.PG_ERR p) = s.rd (Hdr.PG_ERR p) - (s.rd (Hdr.PG_ERR p) &&& v) := by
  have hlt : s.rd (Hdr.PG_ERR p) - (s.rd (Hdr.PG_ERR p) &&& v) < 2 ^ 32 := (Nat.sub_le ..).trans_lt (rd_lt ..)
  have hwr : (s.wr (Hdr.PG_ERR p) (s.rd (Hdr.PG_ERR p) - (s.rd (Hdr.PG_ERR p) &&& v))).rd (Hdr.PG_ERR p) =
      s.rd (Hdr.PG_ERR p) - (s.rd (Hdr.PG_ERR p) &&& v) := (rd_wr_same ..).trans (Nat.mod_eq_of_lt hlt)
  rw [clearErr_eq]
  split
  · exact (rd_setFirst ..).1.trans hwr
  · exact hwr

theorem rd_clearErr_valid (s : State) (p v : Nat) (h : (s.clearErr p v).rd (Hdr.PG_ERR p) = 0) :
    (s.clearErr p v).rd (Hdr.PG_ERR_FIRST_VALID p) = 0 := by
  rw [rd_clearErr_pgErr] at h
  rw [clearErr_eq, if_pos h]
  exact (rd_setFirst ..).2.1

theorem regsKept_clearErr (s : State) (p v : Nat) : regsKept s (s.clearErr p v) (errFields p) := by
  have hwr := regsKept_wr (Hdr.PG_ERR p) (s.rd (Hdr.PG_ERR p) - (s.rd (Hdr.PG_ERR p) &&& v))
    (regsKept_refl s (errFields p)) List.mem_cons_self
  rw [clearErr_eq]
  exact regsKept_ite (regsKept_setFirst _ _ _ _ hwr fun _ h => h) hwr

theorem pgErrClear_present (page : Nat) (val : Word) (s : State) (hp : pagePresent page = true) :
    completes (.pgErrClear page val) s fun t =>
      (∀ b < 32, bit (t.rd (Hdr.PG_ERR page)) b = (bit (s.rd (Hdr.PG_ERR page)) b && !bit val.toNat b)) ∧
      (t.rd (Hdr.PG_ERR page) = 0 → t.rd (Hdr.PG_ERR_FIRST_VALID page) = 0) ∧ regsKept s t (errFields page) := by
  refine ⟨s.clearErr page val.toNat, ?_, fun b _ => ?_, rd_clearErr_valid _ _ _, regsKept_clearErr _ _ _⟩
  · show execPgErrClear page val s = _
    exact if_pos hp
  · rw [rd_clearErr_pgErr, bit_sub_and]

/-! ### Mask, class and injection (R103, R105, R106) -/

theorem pgErrMaskWrite_present (page : Nat) (val : Word) (s : State) (hp : pagePresent page = true) :
    completes (.pgErrMaskWrite page val) s fun t =>
      t.rd (Hdr.PG_ERR_MASK page) = val.toNat ∧ regsKept s t [Hdr.PG_ERR_MASK page, Reg.ALARM_SUMMARY_BLOCKS] := by
  have hne : (Hdr.PG_ERR_MASK page).key ≠ Reg.ALARM_SUMMARY_BLOCKS.key :=
    key_ne ⟨pagePresent_lt hp, by simp [Hdr.PG_ERR_MASK], by simp [Hdr.PG_ERR_MASK]⟩ (by decide)
      (.inr (.inr (.inl (by simp [Hdr.PG_ERR_MASK, Reg.ALARM_SUMMARY_BLOCKS]))))
  have hline := regsKept_summarise page (regsKept_refl (s.wr (Hdr.PG_ERR_MASK page) val.toNat) _)
    (List.mem_singleton_self Reg.ALARM_SUMMARY_BLOCKS)
  refine ⟨s.writeMask page val.toNat, ?_, ?_, ?_⟩
  · show execPgErrMaskWrite page val s = _
    exact if_pos hp
  · calc (s.writeMask page val.toNat).rd (Hdr.PG_ERR_MASK page)
      _ = (s.wr (Hdr.PG_ERR_MASK page) val.toNat).rd (Hdr.PG_ERR_MASK page) := hline _ (by simpa using hne)
      _ = val.toNat := (rd_wr_same ..).trans (Nat.mod_eq_of_lt val.isLt)
  · exact regsKept_summarise _ (regsKept_wr _ _ (regsKept_refl _ _) (by simp)) (by simp)

theorem pgErrClassWrite_stores (path : Sys2Proof.Path) (page : Nat) (val : Word) (s : State)
    (hp : pagePresent page = true) (hwrite : bit val.toNat 15 = true)
    (hfixed : classFixed page (bits val.toNat 8 5) = false) (hcls : bits val.toNat 0 3 ≤ 4) :
    completes (.pgErrClassWrite path page val) s fun t =>
      t.errClass page (bits val.toNat 8 5) = bits val.toNat 0 3 := by
  refine ⟨s.writeClass path page val.toNat, ?_, ?_⟩
  · show execPgErrClassWrite path page val s = _
    exact if_pos hp
  · simp only [State.writeClass, State.errClass, hwrite, hfixed, hcls, Bool.not_false, Bool.and_self, decide_true,
      if_true, rd_wr_same]
    exact Nat.mod_eq_of_lt (Nat.lt_of_le_of_lt hcls (by simp [Hdr.CLASS]))

theorem pgErrInjectWrite_checker (page : Nat) (val : Word) (s : State) (hinj : injectOk page = true) :
    completes (.pgErrInjectWrite page val) s fun t =>
      t.rd (Hdr.INJ_CHECKER page) = bits val.toNat 24 4 ∧ t.rd (Hdr.INJ_COUNT page) = bits val.toNat 0 16 ∧
      regsKept s t [Hdr.INJ_CHECKER page, Hdr.INJ_COUNT page] := by
  have hne : (Hdr.INJ_CHECKER page).key ≠ (Hdr.INJ_COUNT page).key := by
    simp [Fld.key, Hdr.INJ_CHECKER, Hdr.INJ_COUNT]
  refine ⟨(s.wr (Hdr.INJ_CHECKER page) (bits val.toNat 24 4)).wr (Hdr.INJ_COUNT page) (bits val.toNat 0 16), ?_, ?_, ?_,
    ?_⟩
  · show ok (s.writeInject page val.toNat) = _
    exact congrArg ok (if_pos hinj)
  · rw [rd_wr_ne _ _ _ _ hne, rd_wr_same]
    exact Nat.mod_mod _ _
  · exact (rd_wr_same ..).trans (Nat.mod_mod _ _)
  · exact regsKept_wr _ _ (regsKept_wr _ _ (regsKept_refl _ _) (by simp)) (by simp)

theorem pgErrInjectWrite_noChecker (page : Nat) (val : Word) (s : State) (hinj : injectOk page = false) :
    exec (.pgErrInjectWrite page val) s = .next s := by
  show ok (s.writeInject page val.toNat) = ok s
  rw [State.writeInject, hinj]
  rfl

/-- Settles O20: one lemma for each clause. -/
theorem headerControls : Obligations.HeaderControls :=
  ⟨pgSnapTake_present, topSnapAll_completes, pgErrClear_present, pgErrMaskWrite_present, pgErrClassWrite_stores,
    pgErrInjectWrite_checker, pgErrInjectWrite_noChecker⟩

/-! ### The occurrence of an error -/

/-- The Alarm collector's fields that an error's line and the reactions of its rising may change: all that an occurrence
may change but the count of occurrences. -/
def reactFields : List Fld := alarmFields.erase Ctr.ALARM_OCCURRENCES.fld

theorem regsKept_then {s t u : State} {fs : List Fld} {c : Prop} [Decidable c] (h : regsKept s t fs)
    (hu : regsKept t u fs) : regsKept s (if c then u else t) fs := regsKept_ite (regsKept_trans h hu) h

theorem alarmDrive_reactFields (s : State) : regsKept s s.alarmDrive reactFields := by
  unfold State.alarmDrive
  refine regsKept_ite (regsKept_refl _ _) (regsKept_upd (regsKept_wr Reg.ALARM_STATUS_EXT_LOW 0 (regsKept_wr
    Reg.ALARM_STATUS_DRIVING 1 (regsKept_refl _ _) ?_) ?_) rfl) <;> decide

/-- Where no assertion is in force one begins, and is counted (R543). -/
def State.alarmBegin (s : State) : State :=
  if s.is Reg.ALARM_STATUS_WOULD_DRIVE then s else
    { s.bump Ctr.ALARM_ALARM_ASSERTIONS 1 with alarm := { s.alarm with pinRaised := false, driveStart := s.ticks } }

theorem alarmBegin_reactFields (s : State) : regsKept s s.alarmBegin reactFields := by
  have hcount := regsKept_bump Ctr.ALARM_ALARM_ASSERTIONS 1 (regsKept_refl s reactFields) (by decide) (by decide)
  exact regsKept_ite (regsKept_refl _ _) (regsKept_upd hcount rfl)

theorem alarmAssert_reactFields (s : State) : regsKept s s.alarmAssert reactFields := by
  have hstart := regsKept_wr Reg.ALARM_STATUS_RELEASE_PENDING 0 (regsKept_wr Reg.ALARM_STATUS_MIN_RUNNING 1
    (regsKept_wr Reg.ALARM_STATUS_WOULD_DRIVE 1 (alarmBegin_reactFields s) (by decide)) (by decide)) (by decide)
  exact regsKept_then (regsKept_upd hstart rfl) (alarmDrive_reactFields _)

theorem react_reactFields (s : State) (e : ErrBit) (cls : Nat) (tag : EntryTag) :
    regsKept s (s.react e cls tag) reactFields := by
  unfold State.react
  refine regsKept_upd (regsKept_then (regsKept_wr Reg.ALARM_LAST_BELL s.bellNum (regsKept_wr Reg.ALARM_LAST_PAGE e.page
    (regsKept_wr Reg.ALARM_LAST_BIT e.bit (regsKept_wr Reg.ALARM_LAST_CLASS cls (regsKept_wr Reg.ALARM_LAST_VALID 1
    (regsKept_bump Ctr.ALARM_RISINGS 1 (regsKept_refl _ _) ?_ ?_) ?_) ?_) ?_) ?_) ?_) (alarmAssert_reactFields _))
    (reportRising_regs ..) <;> decide

/-- The first part of an occurrence (R103, R104): its bit, its count, and the FIRST record where no bit was set. -/
def State.noteErr (s : State) (e : ErrBit) : State :=
  let s1 := (s.wr (Hdr.PG_ERR e.page) (setBit (s.rd (Hdr.PG_ERR e.page)) e.bit)).bump Ctr.ALARM_OCCURRENCES 1
  if s.rd (Hdr.PG_ERR e.page) = 0 then s1.setFirst e.page 1 e.bit s.bellNum else s1

/-- What follows in `markErr` is the line and the rising's reactions (R534, R536). -/
theorem markErr_noteErr (s : State) (e : ErrBit) (o : Occ) :
    regsKept (s.noteErr e) (s.markErr e o).1 reactFields := by
  have hline : regsKept (s.noteErr e) ((s.noteErr e).summarise e.page) reactFields :=
    regsKept_summarise _ (regsKept_refl _ _) (by decide)
  exact regsKept_ite hline (regsKept_trans hline (react_reactFields _ _ _ _))

theorem rd_markErr_errField (s : State) (e : ErrBit) (o : Occ) (hp : e.page < 256) (f : Fld)
    (hf : f ∈ errFields e.page) : (s.markErr e o).1.rd f = (s.noteErr e).rd f :=
  markErr_noteErr s e o f fun g hg => errFields_not_alarm hp f hf g (List.mem_of_mem_erase hg)

/-- The occurrence is counted once (R537). -/
theorem rd_markErr_occurrences (s : State) (e : ErrBit) (o : Occ) (hp : e.page < 256) :
    (s.markErr e o).1.rd Ctr.ALARM_OCCURRENCES.fld = (s.rd Ctr.ALARM_OCCURRENCES.fld + 1) % 2 ^ 64 := by
  have hne : ∀ g ∈ errFields e.page, Ctr.ALARM_OCCURRENCES.fld.key ≠ g.key := fun g hg =>
    (errFields_not_alarm hp g hg _ (by decide)).symm
  have hcount : ((s.wr (Hdr.PG_ERR e.page) (setBit (s.rd (Hdr.PG_ERR e.page)) e.bit)).bump Ctr.ALARM_OCCURRENCES 1).rd
      Ctr.ALARM_OCCURRENCES.fld = (s.rd Ctr.ALARM_OCCURRENCES.fld + 1) % 2 ^ 64 := by
    rw [rd_bump_same _ _ _ (by decide), rd_wr_ne _ _ _ _ (hne _ List.mem_cons_self)]
  have hfirst : (s.noteErr e).rd Ctr.ALARM_OCCURRENCES.fld = (s.rd Ctr.ALARM_OCCURRENCES.fld + 1) % 2 ^ 64 := by
    unfold State.noteErr
    simp only []
    split
    · exact (regsKept_setFirst _ _ _ _ (regsKept_refl _ _) (fun _ h => h) _ hne).trans hcount
    · exact hcount
  exact (markErr_noteErr s e o _ (by decide)).trans hfirst

/-- The first error of a page is recorded (R104). -/
theorem rd_markErr_first (s : State) (e : ErrBit) (o : Occ) (hp : e.page < 256) (hb : e.bit < 32)
    (h : s.rd (Hdr.PG_ERR e.page) = 0) : (s.markErr e o).1.rd (Hdr.PG_ERR_FIRST_CODE e.page) = e.bit ∧
      (s.markErr e o).1.rd (Hdr.PG_ERR_FIRST_VALID e.page) = 1 := by
  rw [rd_markErr_errField _ _ _ hp _ (by simp [errFields]), rd_markErr_errField _ _ _ hp _ (by simp [errFields]),
    State.noteErr, if_pos h]
  exact ⟨(rd_setFirst ..).2.2.trans (Nat.mod_eq_of_lt hb), (rd_setFirst ..).2.1⟩

/-- A later error leaves the record alone (R104). -/
theorem rd_markErr_later (s : State) (e : ErrBit) (o : Occ) (hp : e.page < 256)
    (h : s.rd (Hdr.PG_ERR e.page) ≠ 0) :
    (s.markErr e o).1.rd (Hdr.PG_ERR_FIRST_CODE e.page) = s.rd (Hdr.PG_ERR_FIRST_CODE e.page) := by
  have hf : Hdr.PG_ERR_FIRST_CODE e.page ∈ errFields e.page := by simp [errFields]
  have hne : (Hdr.PG_ERR_FIRST_CODE e.page).key ≠ (Hdr.PG_ERR e.page).key :=
    (List.rel_of_pairwise_cons (errFields_keys_distinct e.page) (by simp)).symm
  have hal := errFields_not_alarm hp _ hf
  rw [rd_markErr_errField _ _ _ hp _ hf, State.noteErr, if_neg h,
    rd_bump_ne _ _ _ _ (hal _ (by decide)) (hal _ (by decide)), rd_wr_ne _ _ _ _ hne]

theorem markErr_ledger (s : State) (e : ErrBit) (o : Occ) : (s.markErr e o).1.ledger = s.ledger := by rw [markErr_eq]

/-- An occurrence that finds room in the write queue joins it, and its entry changes no register (R553). -/
theorem log_room (s : State) (x : Entry) (h : s.ledger.queue.length < 64) :
    s.log x = { s with ledger := { s.ledger with queue := s.ledger.queue ++ [x] }, draws := s.draws + 1 } := by
  simp only [State.log, State.enqueue, h, if_true, true_or]

theorem raise_room_regs (s : State) (e : ErrBit) (o : Occ) (h : s.ledger.queue.length < 64) :
    (s.raise e o).regs = (s.markErr e o).1.regs := by
  rw [State.raise, log_room _ _ (by rwa [markErr_ledger])]

theorem raise_room_queue (s : State) (e : ErrBit) (o : Occ) (h : s.ledger.queue.length < 64) :
    (s.raise e o).ledger.queue.length = s.ledger.queue.length + 1 := by
  rw [State.raise, log_room _ _ (by rwa [markErr_ledger]), markErr_ledger]
  exact List.length_append

/-- A set bit of PG_ERR stays set through an occurrence of any error. -/
theorem raise_keeps (s : State) (e : ErrBit) (o : Occ) (p b : Nat) (hp : p < 256) (he : e.page < 256) (hb : b < 32)
    (h : bit (s.rd (Hdr.PG_ERR p)) b = true) : bit ((s.raise e o).rd (Hdr.PG_ERR p)) b = true :=
  log_keeps _ _ _ _ hp hb (markErr_keeps s e o p b hp he hb h)

theorem pageErrBits_lt (page : Nat) : ∀ e ∈ pageErrBits page, e.1 < 32 := by
  unfold pageErrBits
  repeat' refine iteInduction (motive := fun l : List (Nat × Nat) => ∀ e ∈ l, e.1 < 32) (fun _ => ?_) fun _ => ?_
  all_goals decide

theorem errListed_lt {page code : Nat} (h : errListed page code = true) : page < 256 ∧ code < 32 := by
  simp only [errListed, Bool.and_eq_true, List.any_eq_true, beq_iff_eq] at h
  obtain ⟨hp, e, he, rfl⟩ := h
  exact ⟨pagePresent_lt hp, pageErrBits_lt page e he⟩

theorem errorOccurrence_listed (page code : Nat) (tag : EntryTag) (injected prefetch : Bool) (detail : Nat) (s : State)
    (hl : errListed page code = true) :
    completes (.errorOccurrence page code tag injected prefetch detail) s fun t =>
      bit (t.rd (Hdr.PG_ERR page)) code = true ∧
      (∀ b < 32, bit (s.rd (Hdr.PG_ERR page)) b = true → bit (t.rd (Hdr.PG_ERR page)) b = true) ∧
      regsKept s t (raiseFields page) ∧ t.bellNum = s.bellNum ∧
      (s.ledger.queue.length < 64 → t.ledger.queue.length = s.ledger.queue.length + 1 ∧
        t.rd Ctr.ALARM_OCCURRENCES.fld = (s.rd Ctr.ALARM_OCCURRENCES.fld + 1) % 2 ^ 64 ∧
        (s.rd (Hdr.PG_ERR page) ≠ 0 → t.rd (Hdr.PG_ERR_FIRST_CODE page) = s.rd (Hdr.PG_ERR_FIRST_CODE page)) ∧
        (s.rd (Hdr.PG_ERR page) = 0 → t.rd (Hdr.PG_ERR_FIRST_CODE page) = code ∧
          t.rd (Hdr.PG_ERR_FIRST_VALID page) = 1)) := by
  obtain ⟨hp, hc⟩ := errListed_lt hl
  refine ⟨s.raise ⟨page, code, defaultClass page code⟩ ⟨tag, injected, prefetch, detail⟩, ?_,
    raise_sets _ ⟨page, code, _⟩ _ hp hc, fun b hb => raise_keeps _ _ _ page b hp hp hb,
    regsKept_raise ⟨page, code, _⟩ _ (regsKept_refl _ _), raise_bellNum .., fun hroom => ?_⟩
  · show execErrorOccurrence page code tag injected prefetch detail s = _
    exact if_pos hl
  · simp only [rd_congr (raise_room_regs s _ _ hroom)]
    exact ⟨raise_room_queue _ _ _ hroom, rd_markErr_occurrences _ _ _ hp, rd_markErr_later _ ⟨page, code, _⟩ _ hp,
      rd_markErr_first _ ⟨page, code, _⟩ _ hp hc⟩

theorem errorOccurrence_unlisted (page code : Nat) (tag : EntryTag) (injected prefetch : Bool) (detail : Nat)
    (s : State) (hl : errListed page code = false) :
    exec (.errorOccurrence page code tag injected prefetch detail) s = .next s := by
  show execErrorOccurrence page code tag injected prefetch detail s = ok s
  rw [execErrorOccurrence, hl]
  rfl

/-- Settles O26: an occurrence is a raise; its bit, its record and its count are `markErr`'s, its entry `log`'s. -/
theorem raisingAnError : Obligations.RaisingAnError := ⟨errorOccurrence_listed, errorOccurrence_unlisted⟩

end Sys2Proof.Machine
end

section
/-! ## The host link's bundles: from DETECT to ACTIVE, and back (R159 to R164, R170, R180, R184) -/

namespace Sys2Proof.Machine

/-! ### A bundle's stage -/

theorem bundle_setBundle_same (s : State) (n : Nat) (b : BundleState) : (s.setBundle n b).bundle n = b :=
  mget_mset_same ..

theorem setBundle_regs (s : State) (n : Nat) (b : BundleState) : (s.setBundle n b).regs = s.regs := rfl

theorem setBundle_caps (s : State) (n : Nat) (b : BundleState) : (s.setBundle n b).uahus.caps = s.uahus.caps := rfl

/-- The fields that show the host link's state (R160). -/
def hostLinkFields : List Fld := [Reg.UAHUS_STATUS_BUNDLES_ACTIVE, Reg.UAHUS_STATUS_LINK]

theorem showLink_kept (s : State) : regsKept s s.showLink hostLinkFields := by
  unfold State.showLink
  extract_lets m link was s1
  have h1 : regsKept s s1 hostLinkFields :=
    regsKept_wr _ _ (regsKept_wr _ _ (regsKept_refl _ _) (by decide)) (by decide)
  exact regsKept_ite (regsKept_upd h1 rfl) (regsKept_ite (regsKept_upd h1 rfl) h1)

theorem showLink_caps (s : State) : s.showLink.uahus.caps = s.uahus.caps := by
  unfold State.showLink
  extract_lets m link was s1
  have h1 : s1.uahus.caps = s.uahus.caps := rfl
  clear_value s1 link
  split
  · exact h1
  · split
    · exact h1
    · exact h1

/-- The fields that change where bundle `n` enters a stage. -/
def stageFields (n : Nat) : List Fld := Reg.BUNDLE_STATE_STAGE n :: hostLinkFields

theorem setStage_kept (s : State) (n st : Nat) : regsKept s (s.setStage n st) (stageFields n) :=
  regsKept_trans (regsKept_upd (regsKept_wr _ _ (regsKept_refl _ _) List.mem_cons_self) (setBundle_regs ..))
    (regsKept_mono (showLink_kept _) fun _ h => List.mem_cons_of_mem _ h)

theorem setStage_caps (s : State) (n st : Nat) : (s.setStage n st).uahus.caps = s.uahus.caps := by
  rw [State.setStage, showLink_caps, setBundle_caps, wr_uahus]

theorem bundleStage_setStage (s : State) (n st : Nat) (hn : n < 6) (hst : st < 8) :
    (s.setStage n st).bundleStage n = st := by
  have hlink : ∀ n < 6, ∀ g ∈ hostLinkFields, (Reg.BUNDLE_STATE_STAGE n).key ≠ g.key := by decide
  rw [State.bundleStage, State.setStage, showLink_kept _ _ (hlink n hn), rd_congr (setBundle_regs ..), rd_wr_same]
  exact Nat.mod_eq_of_lt hst

/-- The other fields that training and locking write are not among those of the stage. -/
theorem laneMap_not_stage (n : Nat) (hn : n < 6) : ∀ f ∈ [Reg.BUNDLE_STATE_LAST_REASON n,
    Reg.BUNDLE_LANE_MAP_RX_SPARE_USED n, Reg.BUNDLE_LANE_MAP_TX_SPARE_USED n, Reg.BUNDLE_FAILED_LANES n],
    ∀ g ∈ stageFields n, f.key ≠ g.key := by
  revert n
  decide

/-! ### The return to DETECT -/

/-- Bundle `n` is in DETECT, and `reason` is why it came back there. -/
def State.inDetect (s : State) (n reason : Nat) : Prop :=
  s.bundleStage n = 0 ∧ s.rd (Reg.BUNDLE_STATE_LAST_REASON n) = reason

/-- The fields of which `inDetect` speaks. -/
def detectFields (n : Nat) : List Fld := [Reg.BUNDLE_STATE_STAGE n, Reg.BUNDLE_STATE_LAST_REASON n]

theorem inDetect_of_regsKept {s t : State} {fs : List Fld} {n reason : Nat} (h : s.inDetect n reason)
    (hk : regsKept s t fs) (hf : ∀ f ∈ detectFields n, ∀ g ∈ fs, f.key ≠ g.key) : t.inDetect n reason := by
  obtain ⟨hstage, hreason⟩ := h
  exact ⟨(hk _ (hf _ (by simp [detectFields]))).trans hstage, (hk _ (hf _ (by simp [detectFields]))).trans hreason⟩

/-- The fields that change where bundle `n` falls back to DETECT. -/
def backFields (n : Nat) : List Fld :=
  Reg.BUNDLE_STATE_LAST_REASON n :: Reg.BUNDLE_BACKOFF_BELLS n :: stageFields n

theorem bundleBack_kept (s : State) (n reason : Nat) : regsKept s (s.bundleBack n reason) (backFields n) := by
  unfold State.bundleBack
  extract_lets b bells s1
  have h1 : regsKept s s1 (backFields n) := regsKept_upd (regsKept_wr _ _ (regsKept_wr _ _ (regsKept_refl _ _)
    List.mem_cons_self) (List.mem_cons_of_mem _ List.mem_cons_self)) (setBundle_regs ..)
  exact regsKept_trans h1 (regsKept_mono (setStage_kept _ _ _) fun _ h =>
    List.mem_cons_of_mem _ (List.mem_cons_of_mem _ h))

theorem bundleBack_inDetect (s : State) (n reason : Nat) (hn : n < 6) (hr : reason < 256) :
    (s.bundleBack n reason).inDetect n reason := by
  have hne : ∀ n < 6, (Reg.BUNDLE_STATE_LAST_REASON n).key ≠ (Reg.BUNDLE_BACKOFF_BELLS n).key := by decide
  refine ⟨bundleStage_setStage _ n 0 hn (by decide), ?_⟩
  rw [State.bundleBack, setStage_kept _ _ _ _ (laneMap_not_stage n hn _ (by simp)), rd_congr (setBundle_regs ..),
    rd_wr_ne _ _ _ _ (hne n hn), rd_wr_same]
  exact Nat.mod_eq_of_lt hr

/-- The fields that change where bundle `n` is retrained. -/
def retrainFields (n : Nat) : List Fld :=
  (Ctr.BUNDLE_RETRAINS n).fld :: Hdr.CNT_OVF (0x41 + 1 * n) :: backFields n

theorem bundleRetrain_kept (s : State) (n reason : Nat) :
    regsKept s (s.bundleRetrain n reason) (retrainFields n) := by
  have hback := regsKept_mono (bundleBack_kept s n reason) (gs := retrainFields n) fun _ h =>
    List.mem_cons_of_mem _ (List.mem_cons_of_mem _ h)
  exact regsKept_ite (regsKept_bump _ _ hback List.mem_cons_self (List.mem_cons_of_mem _ List.mem_cons_self)) hback

theorem bundleRetrain_inDetect (s : State) (n reason : Nat) (hn : n < 6) (hr : reason < 256) :
    (s.bundleRetrain n reason).inDetect n reason := by
  have hcount : ∀ n < 6, ∀ f ∈ detectFields n, ∀ g ∈ [(Ctr.BUNDLE_RETRAINS n).fld, Hdr.CNT_OVF (0x41 + 1 * n)],
      f.key ≠ g.key := by decide
  have hback := bundleBack_inDetect s n reason hn hr
  unfold State.bundleRetrain
  split
  · exact inDetect_of_regsKept hback (regsKept_bump (Ctr.BUNDLE_RETRAINS n) 1 (regsKept_refl _ _) (by simp)
      (by simp [Ctr.BUNDLE_RETRAINS])) (hcount n hn)
  · exact hback

/-- A retraining of any bundle leaves another that is in DETECT there. -/
theorem bundleRetrain_keeps_inDetect (s : State) (m n reason : Nat) (hm : m < 6) (hn : n < 6) (hr : reason < 256)
    (h : s.inDetect n reason) : (s.bundleRetrain m reason).inDetect n reason := by
  have hother : ∀ m < 6, ∀ n < 6, m ≠ n → ∀ f ∈ detectFields n, ∀ g ∈ retrainFields m, f.key ≠ g.key := by decide
  by_cases hmn : m = n
  · subst hmn
    exact bundleRetrain_inDetect s m reason hm hr
  · exact inDetect_of_regsKept h (bundleRetrain_kept s m reason) (hother m hm n hn hmn)

theorem foldl_bundleRetrain_inDetect (l : List Nat) (s : State) (n : Nat) (hl : ∀ m ∈ l, m < 6) (hn : n < 6)
    (h : n ∈ l ∨ s.inDetect n 11) : (l.foldl (fun acc m => acc.bundleRetrain m 11) s).inDetect n 11 := by
  induction l generalizing s with
  | nil => exact h.resolve_left List.not_mem_nil
  | cons m l ih =>
    refine ih (s.bundleRetrain m 11) (fun k hk => hl k (List.mem_cons_of_mem _ hk)) ?_
    have hm := hl m List.mem_cons_self
    rcases h with h | h
    · rcases List.mem_cons.1 h with rfl | h
      · exact .inr (bundleRetrain_inDetect s n 11 hn (by decide))
      · exact .inl h
    · exact .inr (bundleRetrain_keeps_inDetect s m n 11 hm hn (by decide) h)

/-- Every bundle is retrained by the local reason (R184). -/
theorem retrainAll_inDetect (s : State) (n : Nat) (hn : n < 6) : s.retrainAll.inDetect n 11 :=
  foldl_bundleRetrain_inDetect _ s n (fun _ => List.mem_range.1) hn (.inl (List.mem_range.2 hn))

/-- An error of the link's page, or of the bundle's own, leaves the bundle in DETECT. -/
theorem raise_keeps_inDetect (s : State) (e : ErrBit) (o : Occ) (n reason : Nat) (hn : n < 6)
    (he : e.page = 0x40 ∨ e.page = 0x41 + 1 * n) (h : s.inDetect n reason) : (s.raise e o).inDetect n reason := by
  have hpage : ∀ n < 6, ∀ p ∈ [0x40, 0x41 + 1 * n], ∀ f ∈ detectFields n, ∀ g ∈ raiseFields p, f.key ≠ g.key := by
    decide
  exact inDetect_of_regsKept h (regsKept_raise e o (regsKept_refl _ _)) (hpage n hn _ (by simpa using he))

theorem trainFail_inDetect (s : State) (n reason : Nat) (hn : n < 6) (hr : reason < 256) :
    (s.trainFail n reason).inDetect n reason := by
  have hback := bundleBack_inDetect s n reason hn hr
  unfold State.trainFail
  dsimp only
  split
  · exact raise_keeps_inDetect _ _ _ n reason hn (.inr rfl) hback
  · exact hback

/-! ### The commands that bring a bundle up -/

theorem bundleDetectExit_completes (n : Nat) (s : State) (hn : n < 6) (hst : s.bundleStage n = 0)
    (hb : (s.bundle n).backoffTo = none) (hr : s.boot.running = true) :
    completes (.bundleDetectExit n) s fun t => t.bundleStage n = 1 := by
  show ∃ t, execBundleDetectExit n s = .next t ∧ _
  rw [execBundleDetectExit, if_pos ⟨hn, hst, hb, hr⟩]
  exact ⟨_, rfl, bundleStage_setStage _ n 1 hn (by decide)⟩

/-- What TRAIN finds of the 17 lanes of bundle `n` where each marker is in its place and no error was seen. -/
def cleanLanes (n : Nat) : List LaneTrain :=
  (List.range 17).map fun p => { marker := some (n, p), inverted := false, errors := 0 }

theorem cleanLanes_getD (n p : Nat) (hp : p < 17) (d : LaneTrain) :
    (cleanLanes n).getD p d = { marker := some (n, p), inverted := false, errors := 0 } := by
  simp [cleanLanes, List.getD_eq_getElem?_getD, hp]

/-- A mask gathered over a list holds no bit where no element calls for one. -/
theorem foldl_setBit_none (l : List Nat) (g : Nat → Bool) (h : ∀ p ∈ l, g p = false) :
    l.foldl (fun m p => if g p then setBit m p else m) 0 = 0 := by
  induction l with
  | nil => rfl
  | cons p l ih =>
    rw [List.foldl_cons, h p List.mem_cons_self]
    exact ih fun q hq => h q (List.mem_cons_of_mem _ hq)

/-- Clean lanes end TRAIN with no lane failed and none spared (R161 to R163). -/
theorem execBundleTrainDone_clean (n : Nat) (s : State) (hn : n < 6) (hst : s.bundleStage n = 1) :
    ∃ (u : State) (pol : Nat), execBundleTrainDone n (cleanLanes n) s =
      .next ((((((u.wr (Reg.BUNDLE_FAILED_LANES n) 0).wr (Reg.BUNDLE_LANE_MAP_POL n) pol).wrB
        (Reg.BUNDLE_LANE_MAP_REVERSED n) false).wr (Reg.BUNDLE_LANE_MAP_RX_SPARE_USED n) 0).wr
        (Reg.BUNDLE_LANE_MAP_RX_SPARED n) 0).setStage n 2) := by
  unfold execBundleTrainDone
  rw [if_neg (by simp [cleanLanes, hst, hn])]
  extract_lets idx lane readable num bad mask same rev s1 s2 failed s3
  have hlane : ∀ p ∈ idx, lane p = { marker := some (n, p), inverted := false, errors := 0 } :=
    fun p hp => cleanLanes_getD n p (List.mem_range.1 hp) _
  have hbad : ∀ p ∈ idx, bad p = false := fun p hp => by simp [bad, readable, hlane p hp]
  have hmask : mask bad = 0 := foldl_setBit_none idx bad hbad
  have hsame : same = true := List.all_eq_true.2 fun p hp => by simp [num, hlane p hp]
  have hown : idx.any (fun p => (lane p).marker.elim false fun m => m.1 != n) = false :=
    List.any_eq_false.2 fun p hp => by simp [hlane p hp]
  have hfailed : failed = [] := List.filter_eq_nil_iff.2 fun p hp => by simp [hbad p hp]
  refine ⟨s1, mask (fun p => readable p && (lane p).inverted), ?_⟩
  rw [if_neg (by simp [hsame]), if_neg (by simp [hown]), if_neg (by simp [hfailed]), hfailed]
  simp only [s3, s2, hmask, hsame]
  rfl

theorem bundleTrainDone_clean (n : Nat) (s : State) (hn : n < 6) (hst : s.bundleStage n = 1) :
    completes (.bundleTrainDone n (cleanLanes n)) s fun t => t.bundleStage n = 2 ∧
      t.rd (Reg.BUNDLE_LANE_MAP_RX_SPARE_USED n) = 0 ∧ t.rd (Reg.BUNDLE_FAILED_LANES n) = 0 := by
  have hkeys : ∀ n < 6, [Reg.BUNDLE_FAILED_LANES n, Reg.BUNDLE_LANE_MAP_POL n, Reg.BUNDLE_LANE_MAP_REVERSED n,
      Reg.BUNDLE_LANE_MAP_RX_SPARE_USED n, Reg.BUNDLE_LANE_MAP_RX_SPARED n].Pairwise
      (fun f g => f.key ≠ g.key) := by decide
  have hdistinct := hkeys n hn
  simp only [List.pairwise_cons, List.mem_cons, forall_eq_or_imp] at hdistinct
  obtain ⟨⟨hfp, hfr, hfu, hfs, -⟩, -, -, ⟨hus, -⟩, -⟩ := hdistinct
  obtain ⟨u, pol, hu⟩ := execBundleTrainDone_clean n s hn hst
  refine ⟨_, hu, bundleStage_setStage _ n 2 hn (by decide), ?_, ?_⟩
  · rw [setStage_kept _ _ _ _ (laneMap_not_stage n hn _ (by simp)), rd_wr_ne _ _ _ _ hus, rd_wr_same]
    exact Nat.zero_mod _
  · rw [setStage_kept _ _ _ _ (laneMap_not_stage n hn _ (by simp)), rd_wr_ne _ _ _ _ hfs, rd_wr_ne _ _ _ _ hfu,
      rd_wrB_ne _ _ _ _ hfr, rd_wr_ne _ _ _ _ hfp, rd_wr_same]
    exact Nat.zero_mod _

theorem bundleLockDone_inRange (n : Nat) (far : Option Nat) (s : State) (hn : n < 6) (hst : s.bundleStage n = 2) :
    completes (.bundleLockDone n true far) s fun t =>
      t.bundleStage n = 3 ∧ t.rd (Reg.BUNDLE_LANE_MAP_TX_SPARE_USED n) = b2n far.isSome := by
  have hne : ∀ n < 6, (Reg.BUNDLE_LANE_MAP_TX_SPARE_USED n).key ≠ (Reg.BUNDLE_LANE_MAP_TX_SPARED n).key := by decide
  show ∃ t, execBundleLockDone n true far s = .next t ∧ _
  rw [execBundleLockDone, if_neg (by omega), if_neg (by decide)]
  refine ⟨_, rfl, bundleStage_setStage _ n 3 hn (by decide), ?_⟩
  rw [setStage_kept _ _ _ _ (laneMap_not_stage n hn _ (by simp)), rd_wr_ne _ _ _ _ (hne n hn), rd_wrB_same _ _ _ rfl]

theorem bundleLockDone_outOfRange (n : Nat) (far : Option Nat) (s : State) (hn : n < 6) (hst : s.bundleStage n = 2) :
    completes (.bundleLockDone n false far) s fun t =>
      t.bundleStage n = 0 ∧ t.rd (Reg.BUNDLE_STATE_LAST_REASON n) = 5 := by
  show ∃ t, execBundleLockDone n false far s = .next t ∧ _
  rw [execBundleLockDone, if_neg (by omega), if_pos (by decide)]
  exact ⟨_, rfl, bundleBack_inDetect s n 5 hn (by decide)⟩

/-! ### The exchange of capabilities (R180) -/

theorem setCredits_caps (s : State) (c : Map Nat) : (s.setCredits c).uahus.caps = s.uahus.caps := rfl

theorem issueFlit_caps (s : State) (fl : Flit) (rest : List Flit) (spend : Bool) :
    (s.issueFlit fl rest spend).uahus.caps = s.uahus.caps := by
  unfold State.issueFlit
  dsimp only
  rw [bump_uahus, wr_uahus]
  split <;> rfl

theorem send_caps (s : State) : s.send.uahus.caps = s.uahus.caps := by
  have hpump : ∀ (k : Nat) (s : State), (s.pump k).uahus.caps = s.uahus.caps := by
    intro k
    induction k with
    | zero => exact fun _ => rfl
    | succ k ih =>
      intro s
      unfold State.pump
      split
      · rfl
      · split
        · dsimp only
          split
          · rfl
          · exact (ih _).trans (issueFlit_caps ..)
        · split
          · rfl
          · exact ih _
  exact hpump _ s

theorem sends_send (s : State) : sends s s.send := (sends.refl s).pump

/-- Sending leaves every bundle in its stage. -/
theorem bundleStage_send (s : State) (n : Nat) (hn : n < 6) : s.send.bundleStage n = s.bundleStage n := by
  have hkeys : ∀ n < 6, ∀ g ∈ sendFields, (Reg.BUNDLE_STATE_STAGE n).key ≠ g.key := by decide
  exact (sends_send s).regs _ (hkeys n hn)

theorem bundleExchangeDone_fits (n : Nat) (caps : List Word) (s : State) (hn : n < 6) (hst : s.bundleStage n = 3)
    (hok : capsOk (caps.map (·.toNat)) = true) (hnone : s.uahus.caps = none) :
    completes (.bundleExchangeDone n caps) s fun t =>
      t.bundleStage n = 4 ∧ t.uahus.caps = some (caps.map (·.toNat)) := by
  show ∃ t, execBundleExchangeDone n caps s = .next t ∧ _
  rw [execBundleExchangeDone, if_neg (by omega)]
  simp only [hok, hnone, Bool.not_true, Bool.false_eq_true, if_false, Option.isSome_none]
  refine ⟨_, rfl, ?_, ?_⟩
  · rw [bundleStage_send _ _ hn, bundleStage_setStage _ n 4 hn (by decide)]
  · rw [send_caps, setStage_caps, wr_uahus, setBundle_caps, setCredits_caps]

theorem bundleExchangeDone_mismatch (n : Nat) (caps : List Word) (s : State) (hn : n < 6) (hst : s.bundleStage n = 3)
    (hok : capsOk (caps.map (·.toNat)) = false) : completes (.bundleExchangeDone n caps) s fun t =>
      t.bundleStage n = 0 ∧ errUp t Err.UAHUS_CAP_MISMATCH := by
  show ∃ t, execBundleExchangeDone n caps s = .next t ∧ _
  rw [execBundleExchangeDone, if_neg (by omega)]
  simp only [hok, Bool.not_false, if_true]
  refine ⟨_, rfl, ?_, raise_sets _ _ _ (by decide) (by decide)⟩
  exact (raise_keeps_inDetect _ _ _ n 7 hn (.inl rfl) (bundleBack_inDetect _ n 7 hn (by decide))).1

/-! ### Time-outs, back-off and retraining -/

theorem stageLimit_reason_lt {st limit reason : Nat} (h : stageLimit st = some (limit, reason)) : reason < 256 := by
  unfold stageLimit at h
  split at h
  · cases h; decide
  · split at h
    · cases h; decide
    · split at h
      · cases h; decide
      · cases h

theorem bundleStageTimeout_completes (n limit reason : Nat) (s : State) (hn : n < 6)
    (hlim : stageLimit (s.bundleStage n) = some (limit, reason)) (ht : (s.bundle n).since + limit ≤ s.ticks) :
    completes (.bundleStageTimeout n) s fun t =>
      t.bundleStage n = 0 ∧ t.rd (Reg.BUNDLE_STATE_LAST_REASON n) = reason := by
  have hr := stageLimit_reason_lt hlim
  show ∃ t, execBundleStageTimeout n s = .next t ∧ _
  simp only [execBundleStageTimeout, hlim]
  rw [if_pos ⟨hn, ht⟩]
  refine ⟨_, rfl, ?_⟩
  split
  · exact trainFail_inDetect s n reason hn hr
  · exact bundleBack_inDetect s n reason hn hr

theorem bundleBackoffExpiry_completes (n last : Nat) (s : State) (hb : (s.bundle n).backoffTo = some last)
    (hl : last ≤ s.ticks) : completes (.bundleBackoffExpiry n) s fun t =>
      (t.bundle n).backoffTo = none ∧ t.regs = s.regs := by
  show ∃ t, execBundleBackoffExpiry n s = .next t ∧ _
  simp only [execBundleBackoffExpiry, hb]
  rw [if_pos hl]
  exact ⟨_, rfl, by rw [bundle_setBundle_same], setBundle_regs ..⟩

theorem bundleRetrain_completes (n : Nat) (s : State) (hn : n < 6) : completes (.bundleRetrain n) s fun t =>
    t.bundleStage n = 0 ∧ t.rd (Reg.BUNDLE_STATE_LAST_REASON n) = 11 :=
  ⟨s.bundleRetrain n 11, if_pos hn, bundleRetrain_inDetect s n 11 hn (by decide)⟩

theorem retrainAll_completes (s : State) : completes .retrainAll s fun t =>
    ∀ n < 6, t.bundleStage n = 0 ∧ t.rd (Reg.BUNDLE_STATE_LAST_REASON n) = 11 :=
  ⟨s.retrainAll, rfl, fun n hn => retrainAll_inDetect s n hn⟩

theorem elasticOverrun_completes (n : Nat) (s : State) (hn : n < 6) (hst : s.bundleStage n = 4) :
    completes (.elasticOverrun n) s fun t => t.bundleStage n = 0 ∧
      t.rd (Reg.BUNDLE_STATE_LAST_REASON n) = 9 ∧ errUp t (Err.BUNDLE_ELASTIC_OVERRUN n) := by
  have hkeys : ∀ n < 6, ∀ g ∈ retrainFields n, (Hdr.PG_ERR (Err.BUNDLE_ELASTIC_OVERRUN n).page).key ≠ g.key := by
    decide
  have hbit : ∀ n < 6, (Err.BUNDLE_ELASTIC_OVERRUN n).page < 256 ∧ (Err.BUNDLE_ELASTIC_OVERRUN n).bit < 32 := by decide
  obtain ⟨hstage, hreason⟩ :=
    bundleRetrain_inDetect (s.raise (Err.BUNDLE_ELASTIC_OVERRUN n)) n 9 hn (by decide)
  refine ⟨_, if_pos ⟨hn, hst⟩, hstage, hreason, ?_⟩
  rw [errUp, bundleRetrain_kept _ _ _ _ (hkeys n hn)]
  exact raise_sets _ _ _ (hbit n hn).1 (hbit n hn).2

/-- Settles O23: one lemma for each clause; every way back to DETECT goes through `bundleBack`. -/
theorem bundlesComeUpAndBackOff : Obligations.BundlesComeUpAndBackOff :=
  ⟨bundleDetectExit_completes, bundleTrainDone_clean, bundleLockDone_inRange, bundleLockDone_outOfRange,
    bundleExchangeDone_fits, bundleExchangeDone_mismatch, bundleStageTimeout_completes, bundleBackoffExpiry_completes,
    bundleRetrain_completes, retrainAll_completes, elasticOverrun_completes⟩

end Sys2Proof.Machine
end

section
/-! ## The host link's flits and limits (R166, R171 to R173, R185, R186) -/

namespace Sys2Proof.Machine

/-! ### Acknowledgement and replay -/

/-- The fields that an ACK, and the resending of the held flits, may change (R171, R172). -/
def replayFields : List Fld :=
  [Reg.UAHUS_REPLAY_HELD, Reg.UAHUS_REPLAY_ACK, Ctr.UAHUS_REPLAYS.fld, Ctr.UAHUS_FLITS_TX.fld, Hdr.CNT_OVF 0x40]

theorem takeAck_kept (s : State) (a : Nat) : regsKept s (s.takeAck a) replayFields := by
  unfold State.takeAck
  dsimp only
  split
  · exact regsKept_refl _ _
  · exact regsKept_wr _ _ (regsKept_wr _ _ (regsKept_of_regs _ rfl) (by decide)) (by decide)

theorem replayHeld_kept (s : State) : regsKept s s.replayHeld replayFields :=
  regsKept_bump _ _ (regsKept_bump _ _ (regsKept_refl _ _) (by decide) (by decide)) (by decide) (by decide)

theorem nakFlitReceive_completes (ack : Nat) (s : State) : completes (.nakFlitReceive ack) s fun t =>
    t.rd Ctr.UAHUS_NAKS_RX.fld = (s.rd Ctr.UAHUS_NAKS_RX.fld + 1) % 2 ^ 64 := by
  refine ⟨(s.takeNak (ack % 4096)).send, rfl, ?_⟩
  dsimp only
  rw [(sends_send _).regs _ (by decide), State.takeNak, replayHeld_kept _ _ (by decide), takeAck_kept _ _ _ (by decide),
    rd_bump_same _ _ _ (by decide)]

theorem sendNak_uahus (s : State) (h : s.uahus.nakWait = false) :
    s.sendNak.uahus = { s.uahus with nakWait := true, reorder := [] } := by
  rw [State.sendNak, h, if_neg Bool.false_ne_true, bump_uahus]

theorem rd_sendNak_count (s : State) (h : s.uahus.nakWait = false) :
    s.sendNak.rd Ctr.UAHUS_NAKS_TX.fld = (s.rd Ctr.UAHUS_NAKS_TX.fld + 1) % 2 ^ 64 := by
  rw [State.sendNak, h, if_neg Bool.false_ne_true, rd_bump_same _ _ _ (by decide)]
  rfl

theorem flitGapTimeout_completes (s : State) (hgap : s.uahus.reorder ≠ []) (hnak : s.uahus.nakWait = false) :
    completes .flitGapTimeout s fun t => t.uahus = { s.uahus with nakWait := true, reorder := [] } ∧
      t.rd Ctr.UAHUS_NAKS_TX.fld = (s.rd Ctr.UAHUS_NAKS_TX.fld + 1) % 2 ^ 64 :=
  ⟨s.sendNak, if_pos hgap, sendNak_uahus s hnak, rd_sendNak_count s hnak⟩

theorem flitAckTimeout_completes (s : State) (hheld : s.uahus.held ≠ []) : completes .flitAckTimeout s fun t =>
    t.uahus = s.uahus ∧ t.rd Ctr.UAHUS_REPLAYS.fld = (s.rd Ctr.UAHUS_REPLAYS.fld + 1) % 2 ^ 64 := by
  refine ⟨s.replayHeld, if_pos hheld, ?_, ?_⟩
  · rw [State.replayHeld, bump_uahus, bump_uahus]
  · rw [State.replayHeld, rd_bump_ne _ _ _ _ (by decide) (by decide), rd_bump_same _ _ _ (by decide)]

/-! ### What the handling of a received flit leaves alone -/

/-- The fields of the host link's page, and of the errors it raises, that the handling of a received flit may change. -/
def receiveFields : List Fld :=
  [Ctr.UAHUS_NAKS_RX.fld, Ctr.UAHUS_NAKS_TX.fld, Ctr.UAHUS_CRC_DISCARDS.fld, Ctr.UAHUS_CLASS_BAD_FLITS.fld,
   Hdr.INJ_COUNT 0x40] ++ (replayFields ++ sendFields)

/-- From `s` to `t` a received flit may have been handled. -/
def receives (s t : State) : Prop := regsKept s t receiveFields

namespace receives

variable {s t u : State}

theorem refl (s : State) : receives s s := regsKept_refl s _

theorem upd (h : receives s t) (hr : u.regs = t.regs := by rfl) : receives s u := regsKept_upd h hr

theorem step {fs : List Fld} (h : receives s t) (hk : regsKept t u fs)
    (hs : ∀ g ∈ fs, g ∈ receiveFields := by decide) : receives s u := regsKept_trans h (regsKept_mono hk hs)

theorem wr {f : Fld} {v : Nat} (h : receives s t) (hf : f ∈ receiveFields := by decide) : receives s (t.wr f v) :=
  regsKept_wr f v h hf

theorem bump {c : Ctr} {n : Nat} (h : receives s t) (hf : c.fld ∈ receiveFields := by decide)
    (ho : Hdr.CNT_OVF c.page ∈ receiveFields := by decide) : receives s (t.bump c n) := regsKept_bump c n h hf ho

theorem raise {e : ErrBit} {o : Occ} (h : receives s t)
    (he : ∀ g ∈ raiseFields e.page, g ∈ receiveFields := by decide) : receives s (t.raise e o) :=
  h.step (regsKept_raise e o (regsKept_refl t _)) he

theorem ite {c : Prop} [Decidable c] (ht : receives s t) (hu : receives s u) : receives s (if c then t else u) :=
  regsKept_ite ht hu

theorem injectUse {page checker : Nat} (h : receives s t) (hf : Hdr.INJ_COUNT page ∈ receiveFields := by decide) :
    receives s (t.injectUse page checker).2 := by
  unfold State.injectUse
  split
  · exact h.wr hf
  · exact h

theorem takeAck {a : Nat} (h : receives s t) : receives s (t.takeAck a) := h.step (takeAck_kept t a)

theorem takeNak {a : Nat} (h : receives s t) : receives s (t.takeNak a) :=
  h.bump.takeAck.step (replayHeld_kept _)

theorem sendNak (h : receives s t) : receives s t.sendNak := by
  unfold State.sendNak
  exact h.ite (bump (upd (t := t) h))

theorem setCredits {c : Map Nat} (h : receives s t) : receives s (t.setCredits c) := by
  unfold State.setCredits
  exact wr (wr (wr (upd (t := t) h)))

theorem takeCredit {cls count : Nat} (h : receives s t) : receives s (t.takeCredit cls count) := by
  unfold State.takeCredit
  dsimp only
  have hset {v : State} (hv : v.regs = t.regs) {c : Map Nat} : receives s (v.setCredits c) := (h.upd hv).setCredits
  exact ite (h.ite (ite (upd (hset rfl)) (hset rfl))) h

theorem freeRoom {cls n : Nat} (h : receives s t) : receives s (t.freeRoom cls n) := by
  unfold State.freeRoom
  exact h.upd.ite h

theorem classBad (h : receives s t) : receives s t.classBad := h.bump.raise

theorem acceptFlit {f : Flit} (h : receives s t) : receives s (t.acceptFlit f) := by
  unfold State.acceptFlit
  extract_lets _ s0 _ _ _ s1 _ s2
  have h0 : receives s s0 := h.upd
  have h1 : receives s s1 := h0.ite h0.upd
  have h2 : receives s s2 := h1.upd
  exact h0.classBad.ite (h1.upd.ite (h2.upd.ite h2.freeRoom.classBad))

theorem drainReorder {k : Nat} (h : receives s t) : receives s (t.drainReorder k) := by
  induction k generalizing t with
  | zero => exact h
  | succ k ih =>
    unfold State.drainReorder
    split
    · exact h
    · exact (ih (acceptFlit (upd (t := t) h))).ite (raise (upd (t := t) h))

theorem dataFlit {f : Flit} (h : receives s t) : receives s (t.dataFlit f) := by
  unfold State.dataFlit
  exact (h.acceptFlit.drainReorder.ite h.raise).ite (h.ite (h.upd.ite h))

theorem send (h : receives s t) : receives s t.send := h.step (sends_send t).regs

/-- The count of received flits is not among the fields that handling one may change. -/
theorem flitsRx (h : receives s t) : t.rd Ctr.UAHUS_FLITS_RX.fld = s.rd Ctr.UAHUS_FLITS_RX.fld := h _ (by decide)

end receives

/-- The count of received flits stays as it is where bundle `n` alone is concerned. -/
theorem flitsRx_not_bundle (n : Nat) (hn : n < 6) :
    ∀ g ∈ [(Ctr.BUNDLE_FLITS_RX n).fld, (Ctr.BUNDLE_CRC_DISCARDS n).fld] ++ retrainFields n ++
      raiseFields (Err.BUNDLE_BUNDLE_CRC n).page, Ctr.UAHUS_FLITS_RX.fld.key ≠ g.key := by
  revert n
  decide

/-- A flit whose CRC does not check is counted as received all the same (R166). -/
theorem rd_badFlit_flitsRx (s : State) (n : Nat) (hn : n < 6) :
    (s.badFlit n).rd Ctr.UAHUS_FLITS_RX.fld = s.rd Ctr.UAHUS_FLITS_RX.fld := by
  have hkeys := flitsRx_not_bundle n hn
  have hretrain (u : State) (r : Nat) : (u.bundleRetrain n r).rd Ctr.UAHUS_FLITS_RX.fld = u.rd Ctr.UAHUS_FLITS_RX.fld :=
    bundleRetrain_kept u n r _ fun g hg => hkeys g (by simp [hg])
  have hcount (u : State) : (u.bump (Ctr.BUNDLE_CRC_DISCARDS n) 1).rd Ctr.UAHUS_FLITS_RX.fld =
      u.rd Ctr.UAHUS_FLITS_RX.fld :=
    rd_bump_ne _ _ _ _ (hkeys _ (by simp)) (hkeys _ (by simp [retrainFields, Ctr.BUNDLE_CRC_DISCARDS]))
  unfold State.badFlit
  extract_lets b at' s1 s2
  have h2 : s2.rd Ctr.UAHUS_FLITS_RX.fld = s.rd Ctr.UAHUS_FLITS_RX.fld :=
    calc s2.rd Ctr.UAHUS_FLITS_RX.fld
      _ = s1.rd Ctr.UAHUS_FLITS_RX.fld := (receives.refl s1).sendNak.flitsRx
      _ = (s.bump Ctr.UAHUS_CRC_DISCARDS 1).rd Ctr.UAHUS_FLITS_RX.fld :=
        (rd_congr (setBundle_regs ..) _).trans (hcount _)
      _ = s.rd Ctr.UAHUS_FLITS_RX.fld := (receives.refl s).bump.flitsRx
  split
  · rw [hretrain, rd_raise_ne _ _ _ _ fun g hg => hkeys g (by simp [hg]), h2]
  · split
    · rw [hretrain, h2]
    · exact h2

theorem flitReceive_completes (n : Nat) (flit : List Byte) (s : State) (hn : n < 6) (hst : s.bundleStage n = 4)
    (hlen : flit.length = 256) : completes (.flitReceive n flit) s fun t =>
      t.rd Ctr.UAHUS_FLITS_RX.fld = (s.rd Ctr.UAHUS_FLITS_RX.fld + 1) % 2 ^ 64 := by
  have hkeys := flitsRx_not_bundle n hn
  show ∃ t, execFlitReceive n flit s = .next t ∧ _
  rw [execFlitReceive, if_neg (by omega)]
  extract_lets s0
  have h0 : s0.rd Ctr.UAHUS_FLITS_RX.fld = (s.rd Ctr.UAHUS_FLITS_RX.fld + 1) % 2 ^ 64 := by
    rw [rd_bump_ne _ _ _ _ (hkeys _ (by simp)) (hkeys _ (by simp [retrainFields, Ctr.BUNDLE_FLITS_RX])),
      rd_bump_same _ _ _ (by decide)]
  have hinj : receives s0 (s0.injectUse 0x40 0).2 := (receives.refl s0).injectUse
  split
  next inj s1 e =>
    have h1 : receives s0 s1 := by rwa [e] at hinj
    split
    · exact ⟨_, rfl, by rw [rd_badFlit_flitsRx _ _ hn, h1.flitsRx, h0]⟩
    · extract_lets _ s2 s3 s4 s5
      have h2 : receives s0 s2 := h1.upd
      have h4 : receives s0 s4 := (h2.takeAck.ite h2).takeCredit
      have h5 : receives s0 s5 := h4.dataFlit.ite (h4.takeNak.ite h4)
      exact ⟨_, rfl, h5.send.flitsRx.trans h0⟩

/-! ### The link's limits -/

theorem linkStall_completes (s : State) (hheld : s.uahus.held ≠ []) (hlate : s.uahus.ackAt + 1024 ≤ s.ticks) :
    completes .linkStall s fun t =>
      t.uahus.ackAt = s.ticks ∧ (∀ n < 6, t.bundleStage n = 0) ∧ errUp t Err.UAHUS_LINK_STALL := by
  have hstage (n : Nat) (hn : n < 6) : (s.retrainAll.raise Err.UAHUS_LINK_STALL).bundleStage n = 0 :=
    (raise_keeps_inDetect _ _ _ n 11 hn (.inl rfl) (retrainAll_inDetect s n hn)).1
  have hup : errUp (s.retrainAll.raise Err.UAHUS_LINK_STALL) Err.UAHUS_LINK_STALL :=
    raise_sets _ _ _ (by decide) (by decide)
  show ∃ t, execLinkStall s = .next t ∧ _
  rw [execLinkStall, if_pos ⟨hheld, hlate⟩]
  generalize s.retrainAll.raise Err.UAHUS_LINK_STALL = u at *
  exact ⟨_, rfl, rfl, hstage, hup⟩

theorem linkDownLimit_completes (down : Nat) (s : State) (hdown : s.uahus.downAt = some down)
    (hraised : s.uahus.downRaised = false) (hlate : down + s.rd Reg.UAHUS_DOWN_LIMIT_BELLS ≤ s.ticks) :
    completes .linkDownLimit s fun t => t.uahus.held = [] ∧ t.uahus.waiting = [] ∧ t.uahus.nextSeq = 0 ∧
      t.uahus.caps = none ∧ t.uahus.downRaised = true ∧ errUp t Err.UAHUS_LINK_DOWN := by
  show ∃ t, execLinkDownLimit s = .next t ∧ _
  simp only [execLinkDownLimit, hdown]
  rw [if_pos ⟨hraised, hlate⟩]
  refine ⟨_, rfl, ?_⟩
  rw [raise_uahus, bump_uahus]
  exact ⟨rfl, rfl, rfl, rfl, rfl, raise_sets _ _ _ (by decide) (by decide)⟩

theorem hostStall_completes (s : State) (hreads : s.uahus.reads ≠ []) (hraised : s.uahus.stallRaised = false)
    (hlate : s.uahus.memAt + s.rd Reg.UAHUS_STALL_LIMIT_BELLS ≤ s.ticks) : completes .hostStall s fun t =>
      t.uahus = { s.uahus with stallRaised := true } ∧ raises s t Err.UAHUS_HOST_STALL [] := by
  show ∃ t, execHostStall s = .next t ∧ _
  rw [execHostStall, if_pos (by simp [hreads, hraised, hlate])]
  exact ⟨_, rfl, by rw [raise_uahus], raises_of_regs _ _ rfl (by decide) (by decide)⟩

/-- Settles O24: one lemma for each clause; the count of received flits is kept by all that handles the flit. -/
theorem flitsAndLinkLimits : Obligations.FlitsAndLinkLimits :=
  ⟨flitReceive_completes, nakFlitReceive_completes, flitGapTimeout_completes, flitAckTimeout_completes,
    linkStall_completes, linkDownLimit_completes, hostStall_completes⟩

end Sys2Proof.Machine
end

section
/-! ## The monitors, the loops of the rings, and wear (R214 to R219, R222, R224, R227, R240) -/

namespace Sys2Proof.Machine

/-! ### A monitor channel -/

/-- A channel just stored reads as stored. -/
theorem monitor_of_stored {s t : State} {ch : Nat} {x : Monitor}
    (h : t.monitors = mset s.monitors ch x Monitor.blank) : t.monitor ch = x := by
  rw [State.monitor, h, mget_mset_same]

/-- A sample of an unpinned channel that did not just move: it starts no run of moves, so it cannot pin (R214, R215). -/
theorem monitorSample_settled (ch code : Nat) (loop : Bool) (s : State) (hch : ch < 1536) (hcode : code < 4096)
    (hpin : (s.monitor ch).pin = none) (hmoved : (s.monitor ch).moved = false) :
    completes (.monitorSample ch code loop) s fun t => t.monitor ch =
      { range := nextRange (s.monitor ch).range code, word := sampleOf (s.monitor ch).range code false false,
        moved := nextRange (s.monitor ch).range code != (s.monitor ch).range, run := 0, pin := none } := by
  show ∃ t, execMonitorSample ch code loop s = .next t ∧ _
  simp only [execMonitorSample, hpin, hmoved, Bool.false_eq_true, reduceCtorEq, if_false, OfNat.zero_ne_ofNat]
  rw [if_neg (by omega)]
  refine ⟨_, rfl, monitor_of_stored (s := s) ?_⟩
  split <;> split <;> simp only [bump_monitors]

/-- The fourth sample of a run of moves pins the range (R216). -/
theorem monitorSample_pins (ch code : Nat) (loop : Bool) (s : State) (hch : ch < 1536) (hcode : code < 4096)
    (hpin : (s.monitor ch).pin = none) (hmoved : (s.monitor ch).moved = true) (hrun : (s.monitor ch).run = 2) :
    completes (.monitorSample ch code loop) s fun t => (t.monitor ch).pin = some 64 ∧
      (t.monitor ch).range = (s.monitor ch).range ∧ errUp t Err.HTR_RANGE_PIN := by
  show ∃ t, execMonitorSample ch code loop s = .next t ∧ _
  simp only [execMonitorSample, hpin, hmoved, hrun, reduceCtorEq, if_false, if_true]
  rw [if_neg (by omega)]
  refine ⟨_, rfl, ?_⟩
  rw [monitor_of_stored (s := s) (x := ⟨(s.monitor ch).range, sampleOf (s.monitor ch).range code true false, false, 0,
    some 64⟩) (by split <;> simp only [raise_monitors, bump_monitors])]
  exact ⟨rfl, rfl, raise_sets _ _ _ (by decide) (by decide)⟩

theorem rangePinEnd_completes (ch : Nat) (s : State) (hpin : (s.monitor ch).pin = some 0) :
    completes (.rangePinEnd ch) s fun t => t.monitor ch = { s.monitor ch with pin := none } ∧ t.regs = s.regs :=
  ⟨_, if_pos hpin, monitor_of_stored rfl, rfl⟩

/-! ### The converters' reference check -/

theorem adcReferenceCheck_fails (adc : Nat) (s : State) (hadc : adc < 64) :
    completes (.adcReferenceCheck adc false) s fun t =>
      bit t.adcFault adc = true ∧ raises s t Err.HTR_MON_ADC_FAULT [] := by
  show ∃ t, execAdcReferenceCheck adc false s = .next t ∧ _
  rw [execAdcReferenceCheck, if_neg (by omega), if_neg Bool.false_ne_true]
  exact ⟨_, rfl, by rw [raise_adcFault]; exact bit_setBit_same .., raises_of_regs _ _ rfl (by decide) (by decide)⟩

theorem adcReferenceCheck_passes (adc : Nat) (s : State) (hadc : adc < 64) :
    exec (.adcReferenceCheck adc true) s = .next { s with adcFault := clearBit s.adcFault adc } := by
  show execAdcReferenceCheck adc true s = _
  rw [execAdcReferenceCheck, if_neg (by omega), if_pos rfl]
  rfl

/-! ### The two Hearths, and what leaves their loops alone -/

/-- A Hearth is a part of the twins alone. -/
theorem hearth_congr {s t : State} (h : t.twins = s.twins) (k : Nat) : t.hearth k = s.hearth k := by
  simp only [State.hearth, h]

@[simp] theorem hearth_setHearth_same (s : State) (h : Nat) (u : HearthUnit) : (s.setHearth h u).hearth h = u := by
  unfold State.setHearth State.hearth
  split <;> rfl

/-- Replacing Hearth B leaves Hearth A. -/
@[simp] theorem hearthA_setHearthB (s : State) (u : HearthUnit) : (s.setHearth 1 u).hearth 0 = s.hearth 0 := rfl

@[simp] theorem loop_setLoop_same (u : HearthUnit) (i : Nat) (l : Loop) : (u.setLoop i l).loop i = l :=
  mget_mset_same ..

/-- The loops of a Hearth. -/
def State.loopsOf (s : State) (k : Nat) : Map Loop := (s.hearth k).loops

theorem loop_congr {s t : State} {k : Nat} (h : t.loopsOf k = s.loopsOf k) (i : Nat) :
    (t.hearth k).loop i = (s.hearth k).loop i := congrArg (mget · i Loop.blank) h

theorem loopsOf_congr {s t : State} (h : t.twins = s.twins) (k : Nat) : t.loopsOf k = s.loopsOf k :=
  congrArg HearthUnit.loops (hearth_congr h k)

/-- Replacing a Hearth by one with the same loops leaves the loops of both. -/
theorem loopsOf_setHearth (s : State) (h k : Nat) (u : HearthUnit) (hu : u.loops = s.loopsOf h) :
    (s.setHearth h u).loopsOf k = s.loopsOf k := by
  simp only [State.loopsOf, State.hearth, State.setHearth] at hu ⊢
  by_cases hh : h = 0 <;> by_cases hk : k = 0 <;> simp only [hh, hk, if_true, if_false] at hu ⊢
  · exact hu
  · exact hu

theorem noteRow_loopsOf (s : State) (h i k : Nat) : (s.noteRow h i).loopsOf k = s.loopsOf k := by
  unfold State.noteRow
  split
  · rfl
  · exact loopsOf_congr (raise_twins ..) k

/-- Commanding a heater writes the Hearth's codes alone (R230, R232). -/
theorem commandHeater_loopsOf (s : State) (h i k : Nat) : (s.commandHeater h i).loopsOf k = s.loopsOf k := by
  unfold State.commandHeater
  extract_lets u pc pfs c s1 s2
  have h1 : s1.loopsOf k = s.loopsOf k := noteRow_loopsOf s h i k
  have h2 : s2.twins = s1.twins := by unfold s2; split <;> simp only [bump_twins]
  rw [loopsOf_setHearth s2 h k _ (by rfl), loopsOf_congr h2, h1]

theorem setTargets_loopsOf (s : State) (h : Nat) (ts : List (Nat × Int)) (k : Nat) :
    (s.setTargets h ts).loopsOf k = s.loopsOf k := by
  unfold State.setTargets
  extract_lets u changed s1
  rw [foldl_keeps (State.loopsOf · k) _ fun a i => commandHeater_loopsOf a h i k]
  exact loopsOf_setHearth s h k _ rfl

theorem writeDac_twins (s : State) (i c : Nat) : (s.writeDac i c).twins = s.twins := by
  unfold State.writeDac
  split
  · rfl
  · exact bump_twins ..

theorem writeCodes_twins (s : State) (h : Nat) (hs : List Nat) : (s.writeCodes h hs).twins = s.twins :=
  foldl_keeps State.twins _ (fun _ _ => writeDac_twins ..) hs s

theorem showHeadroom_twins (s : State) (h f : Nat) : (s.showHeadroom h f).twins = s.twins := by
  unfold State.showHeadroom
  dsimp only
  split <;> rfl

/-! ### One Hearth's update of a loop -/

/-- A loop without its note of an episode of low headroom. -/
def Loop.plain (l : Loop) : Loop := { l with headLow := false }

/-- The headroom check replaces the Hearth by one whose loop differs in its note alone (R238). -/
theorem checkHeadroom_twins (s : State) (h i : Nat) : ∃ low, (s.checkHeadroom h i).twins = s.twins ∨
    (s.checkHeadroom h i).twins =
      (s.setHearth h ((s.hearth h).setLoop i { (s.hearth h).loop i with headLow := low })).twins := by
  unfold State.checkHeadroom
  extract_lets q f j u l low s1
  split
  · refine ⟨decide low, .inr ?_⟩
    have h1 : s1.twins = (s.setHearth h (u.setLoop i { l with headLow := decide low })).twins := showHeadroom_twins ..
    split
    · exact (raise_twins ..).trans h1
    · exact h1
  · exact ⟨false, .inl rfl⟩

theorem checkHeadroom_plain (s : State) (h i : Nat) :
    (((s.checkHeadroom h i).hearth h).loop i).plain = ((s.hearth h).loop i).plain := by
  obtain ⟨low, e | e⟩ := checkHeadroom_twins s h i
  · rw [hearth_congr e]
  · rw [hearth_congr e, hearth_setHearth_same, loop_setLoop_same]
    rfl

theorem checkHeadroomB_hearthA (s : State) (i : Nat) : (s.checkHeadroom 1 i).hearth 0 = s.hearth 0 := by
  obtain ⟨low, e | e⟩ := checkHeadroom_twins s 1 i
  · exact hearth_congr e 0
  · exact hearth_congr e 0

/-- What an update of a loop stores: the loop after its step, and the targets that it sets. -/
def State.storeStep (s : State) (h i : Nat) (r : LoopStep) : State :=
  (s.setHearth h ((s.hearth h).setLoop i r.loop)).setTargets h r.targets

/-- An update stores the loop's step, reports it, and checks the headroom (R224, R228, R238). -/
theorem updateLoop_eq_checkHeadroom (s : State) (h i : Nat) (phase : Int) (hst : ((s.hearth h).loop i).st ≠ 0) :
    ∃ u : State, u.twins = (s.storeStep h i (s.loopStep h i phase)).twins ∧ s.updateLoop h i phase = u.checkHeadroom h i := by
  unfold State.updateLoop
  rw [if_neg hst]
  refine ⟨_, ?_, rfl⟩
  simp only [apply_ite State.twins, bump_twins, raise_twins, ite_self]
  rfl

theorem storeStep_loop (s : State) (h i : Nat) (r : LoopStep) : ((s.storeStep h i r).hearth h).loop i = r.loop := by
  rw [State.storeStep, loop_congr (setTargets_loopsOf ..), hearth_setHearth_same, loop_setLoop_same]

/-- A Hearth's update leaves in its loop what the loop's step gives. -/
theorem updateLoop_plain (s : State) (h i : Nat) (phase : Int) (hst : ((s.hearth h).loop i).st ≠ 0) :
    (((s.updateLoop h i phase).hearth h).loop i).plain = (s.loopStep h i phase).loop.plain := by
  obtain ⟨u, hu, e⟩ := updateLoop_eq_checkHeadroom s h i phase hst
  rw [e, checkHeadroom_plain, hearth_congr hu, storeStep_loop]

/-- An update by Hearth B leaves the loops of Hearth A. -/
theorem updateLoopB_loopsA (s : State) (i : Nat) (phase : Int) : (s.updateLoop 1 i phase).loopsOf 0 = s.loopsOf 0 := by
  by_cases hst : ((s.hearth 1).loop i).st = 0
  · unfold State.updateLoop
    rw [if_pos hst]
  · obtain ⟨u, hu, e⟩ := updateLoop_eq_checkHeadroom s 1 i phase hst
    calc (s.updateLoop 1 i phase).loopsOf 0
      _ = u.loopsOf 0 := by rw [e]; exact congrArg HearthUnit.loops (checkHeadroomB_hearthA u i)
      _ = (s.storeStep 1 i (s.loopStep 1 i phase)).loopsOf 0 := loopsOf_congr hu 0
      _ = s.loopsOf 0 := setTargets_loopsOf ..

/-! ### The update command -/

theorem hearthLoopUpdate_inBell (loop : Nat) (phase : Int) (fault : Bool) (s : State) (hl : loop < 1024)
    (hbell : s.bellNum % 8 = 4 * (loop / 4 % 32 % 2) + loop % 4) (howner : s.owner.isSome = true)
    (hcomp : s.computes 0 = true) (hst : ((s.hearth 0).loop loop).st ≠ 0) :
    completes (.hearthLoopUpdate loop phase fault) s fun t =>
      { (t.hearth 0).loop loop with headLow := false } = { (s.loopStep 0 loop phase).loop with headLow := false } ∧
      (fault = true → errUp t Err.HTR_HTR_DAC_FAULT) := by
  have howner' : s.owner ≠ none := by
    intro h
    simp [h] at howner
  show ∃ t, execHearthLoopUpdate loop phase fault s = .next t ∧ _
  unfold execHearthLoopUpdate
  extract_lets q j s1 s2 f heaters s3
  rw [if_neg (by simp [q, j, hbell, howner', hl])]
  have h1 : ((s1.hearth 0).loop loop).plain = (s.loopStep 0 loop phase).loop.plain := by
    have hA := updateLoop_plain s 0 loop phase hst
    simp only [s1, List.foldl_cons, List.foldl_nil, hcomp, if_true]
    split
    · rw [loop_congr (updateLoopB_loopsA ..), hA]
    · exact hA
  have h3 : s3.twins = s1.twins := by
    unfold s3
    split
    · rfl
    · split
      · exact writeCodes_twins ..
      · rfl
  refine ⟨_, rfl, ?_, ?_⟩
  · have h4 : (if fault = true then s3.raise Err.HTR_HTR_DAC_FAULT else s3).twins = s1.twins := by
      split
      · exact (raise_twins ..).trans h3
      · exact h3
    rw [hearth_congr h4]
    exact h1
  · rintro rfl
    exact raise_sets _ _ _ (by decide) (by decide)

theorem hearthLoopUpdate_outsideBell (loop : Nat) (phase : Int) (fault : Bool) (s : State)
    (hbell : s.bellNum % 8 ≠ 4 * (loop / 4 % 32 % 2) + loop % 4) :
    exec (.hearthLoopUpdate loop phase fault) s = .next s := if_pos (.inr (.inl hbell))

theorem parkMove_completes (loop o e : Nat) (s : State) (howner : s.owner = some o)
    (hpark : s.parkedElem (loop % 4) (loop / 128) (loop / 4 % 32) = some e) (hl : loop < 1024)
    (hnear : ((s.hearth o).loop loop).parkNear = true) : completes (.parkMove loop) s fun t =>
      mget t.twins.parkAdj (heaterNo (loop / 128) (loop / 4 % 32) e) 0 =
        mget s.twins.parkAdj (heaterNo (loop / 128) (loop / 4 % 32) e) 0 +
          Config.parkDelta (s.cal 1 (heaterNo (loop / 128) (loop / 4 % 32) e)) ∧ t.regs = s.regs := by
  show ∃ t, execParkMove loop s = .next t ∧ _
  simp only [execParkMove, howner, hpark]
  rw [if_pos ⟨hl, hnear⟩]
  exact ⟨_, rfl, mget_mset_same .., rfl⟩

/-! ### The wear move -/

theorem busAdd_move (s : State) (w : BusWork) : (s.busAdd w).lantern.move = s.lantern.move := by
  unfold State.busAdd
  split <;> rfl

theorem askLevel_move (s : State) (src : Source) (line : Nat) (p : Int) :
    (s.askLevel src line p).lantern.move = s.lantern.move := by
  unfold State.askLevel
  split
  · rfl
  · exact busAdd_move ..

theorem beginMove_move (s : State) (line : Nat) (dst : Source) :
    (s.beginMove line dst).lantern.move = some { line := line, dst := dst, level := false } :=
  (busAdd_move ..).trans (askLevel_move ..)

/-- There are two Hearths to own the rings (R247). -/
theorem owner_lt {s : State} {o : Nat} (h : s.owner = some o) : o < 2 := by
  unfold State.owner at h
  split at h
  · cases h
  · cases h
    exact rd_lt s (Reg.HEARTH_OWNER_OWNER 0)

/-- The fields written after HEARTH_WEAR_LAST.VALID where a wear move is recorded. -/
def wearRestFields (o : Nat) : List Fld :=
  [Reg.HEARTH_WEAR_LAST_TO o, Reg.HEARTH_WEAR_LAST_LINE o, (Ctr.HEARTH_WEAR_MOVES o).fld,
   Hdr.CNT_OVF (Ctr.HEARTH_WEAR_MOVES o).page]

theorem wearPeriod_completes (o : Nat) (src : Source) (l : Nat) (s : State) (howner : s.owner = some o)
    (hchoice : s.wearChoice = some (src, l)) (hen : s.rd (Reg.HEARTH_CTRL_WEAR_EN 0) = 1) (hmode : s.lightMode = 0)
    (hmove : s.lantern.move = none) (hline : s.lineFailed src.other l = false) (hcount : s.drawnCount src.other < 17) :
    completes .wearPeriod s fun t => t.lantern.move = some { line := l, dst := src.other, level := false } ∧
      t.rd (Reg.HEARTH_WEAR_LAST_VALID o) = 1 := by
  have hkeys : ∀ o < 2, ∀ g ∈ wearRestFields o, (Reg.HEARTH_WEAR_LAST_VALID o).key ≠ g.key := by decide
  have hrest (u : State) (v w : Nat) : regsKept u (((u.wr (Reg.HEARTH_WEAR_LAST_TO o) v).wr
      (Reg.HEARTH_WEAR_LAST_LINE o) w).bump (Ctr.HEARTH_WEAR_MOVES o) 1) (wearRestFields o) :=
    regsKept_bump _ _ (regsKept_wr _ _ (regsKept_wr _ _ (regsKept_refl _ _) (by simp [wearRestFields]))
      (by simp [wearRestFields])) (by simp [wearRestFields]) (by simp [wearRestFields])
  show ∃ t, execWearPeriod s = .next t ∧ _
  simp only [execWearPeriod, howner, hchoice]
  rw [if_pos (by simp [State.is, hen, hmode, hmove, hline, hcount])]
  refine ⟨_, rfl, ?_, ?_⟩
  · rw [bump_lantern]
    exact beginMove_move ..
  · rw [hrest _ _ _ _ (hkeys o (owner_lt howner)), rd_wr_same]
    rfl

/-- Settles O31: one lemma for each clause; an update stores the loop that its step gives, and nothing after it, the
other Hearth's update included, touches more of that loop than its note of low headroom. -/
theorem monitorsAndLoops : Obligations.MonitorsAndLoops :=
  ⟨monitorSample_settled, monitorSample_pins, rangePinEnd_completes, adcReferenceCheck_fails, adcReferenceCheck_passes,
    hearthLoopUpdate_inBell, hearthLoopUpdate_outsideBell, parkMove_completes, wearPeriod_completes⟩

end Sys2Proof.Machine
end

section
/-! ## The ownership of the rings: grant and cut, handovers, and the return of a failed Hearth (R247, R253 to R261) -/

namespace Sys2Proof.Machine

/-! ### What each shared operation of the pair changes -/

theorem setHearth_regs (s : State) (h : Nat) (u : HearthUnit) : (s.setHearth h u).regs = s.regs := by
  unfold State.setHearth
  split <;> rfl

theorem setHearth_dual (s : State) (h : Nat) (u : HearthUnit) : (s.setHearth h u).twins.dual = s.twins.dual := by
  unfold State.setHearth
  split <;> rfl

/-- Replacing a Hearth leaves the other one of the pair. -/
theorem hearth_setHearth_other (s : State) (h : Nat) (u : HearthUnit) (hh : h < 2) :
    (s.setHearth h u).hearth (1 - h) = s.hearth (1 - h) := by
  obtain rfl | rfl : h = 0 ∨ h = 1 := by omega
  · rfl
  · rfl

theorem role_setHearth (s : State) (h k : Nat) (u : HearthUnit) : (s.setHearth h u).role k = s.role k :=
  rd_congr (setHearth_regs ..) _

theorem role_setRole_same (s : State) (h r : Nat) (hr : r < 8) : (s.setRole h r).role h = r :=
  (rd_wr_same ..).trans (Nat.mod_eq_of_lt hr)

/-- The copy of a field of HEARTH_OWNER on Hearth A's page, once both are written. -/
theorem rd_setOwnerFld_same (s : State) (fld : Nat → Fld) (v : Nat) (hne : (fld 0).key ≠ (fld 1).key) :
    (s.setOwnerFld fld v).rd (fld 0) = v % 2 ^ (fld 0).width :=
  (rd_wr_ne _ _ _ _ hne).trans (rd_wr_same ..)

theorem rd_setOwnerFld_ne (s : State) (fld : Nat → Fld) (v : Nat) (f : Fld) (h0 : f.key ≠ (fld 0).key)
    (h1 : f.key ≠ (fld 1).key) : (s.setOwnerFld fld v).rd f = s.rd f :=
  (rd_wr_ne _ _ _ _ h1).trans (rd_wr_ne _ _ _ _ h0)

theorem setOwnerFld_twins (s : State) (fld : Nat → Fld) (v : Nat) : (s.setOwnerFld fld v).twins = s.twins := rfl

/-- A handover is decided where no other is under way (R256). -/
theorem plan_of_idle (s : State) (dst cause : Nat) (auto : Bool) (hgrant : s.twins.grant = none)
    (hdual : s.twins.dual = none) : s.plan dst cause auto =
      { s with twins := { s.twins with
        grant := some { dst := dst, cause := cause, auto := auto, since := s.ticks } } } := by
  simp only [State.plan, hgrant, hdual, Option.isNone_none, Bool.and_self, if_true]

theorem plan_regs (s : State) (dst cause : Nat) (auto : Bool) : (s.plan dst cause auto).regs = s.regs := by
  unfold State.plan
  extract_lets free
  clear_value free
  split <;> rfl

/-! ### A Hearth leaves service -/

/-- The fields that change where Hearth `h` becomes FAILED. -/
def failFields (h : Nat) : List Fld := [Reg.HEARTH_ROLE_ROLE h, Reg.HEARTH_ROLE_CLEAN h]

theorem failHearth_kept (s : State) (h : Nat) : regsKept s (s.failHearth h) (failFields h) :=
  regsKept_upd (regsKept_wr _ _ (regsKept_wr _ _ (regsKept_refl _ _) (by simp [failFields])) (by simp [failFields]))
    (setHearth_regs ..)

theorem role_key_ne_clean : ∀ h < 2, (Reg.HEARTH_ROLE_ROLE h).key ≠ (Reg.HEARTH_ROLE_CLEAN h).key := by decide

theorem role_failHearth (s : State) (h : Nat) (hh : h < 2) : (s.failHearth h).role h = 4 := by
  rw [State.failHearth, role_setHearth, State.role, rd_wr_ne _ _ _ _ (role_key_ne_clean h hh)]
  exact role_setRole_same s h 4 (by decide)

/-! ### The grant -/

/-- The fields that change once the owner and the roles are written: the count of fail-overs and the error. -/
def grantReportFields (dst : Nat) : List Fld :=
  (Ctr.HEARTH_FAILOVERS dst).fld :: Hdr.CNT_OVF (Ctr.HEARTH_FAILOVERS dst).page ::
    raiseFields (Err.HEARTH_OWNER_CHANGE (1 - dst)).page

theorem grant_keys_ne_report : ∀ dst < 2, ∀ f ∈ [Reg.HEARTH_OWNER_OWNER 0, Reg.HEARTH_OWNER_DUAL 0,
    Reg.HEARTH_ROLE_ROLE dst], ∀ g ∈ grantReportFields dst, f.key ≠ g.key := by decide

theorem owner_keys_ne_role : ∀ dst < 2, ∀ f ∈ [Reg.HEARTH_OWNER_OWNER 0, Reg.HEARTH_OWNER_DUAL 0],
    f.key ≠ (Reg.HEARTH_ROLE_ROLE dst).key := by decide

/-- After the grant boundary the new owner is named, both are granted, and the new owner's role says so (R247). -/
theorem rd_grantTo (s : State) (g : Grant) (hdst : g.dst < 2) :
    (s.grantTo g).rd (Reg.HEARTH_OWNER_OWNER 0) = g.dst ∧ (s.grantTo g).rd (Reg.HEARTH_OWNER_DUAL 0) = 1 ∧
    (s.grantTo g).role g.dst = 1 := by
  have hreport := grant_keys_ne_report g.dst hdst
  have hrole := owner_keys_ne_role g.dst hdst
  unfold State.grantTo
  extract_lets s1 s2 s3 s4 _ s5
  have h4 : regsKept s3 s4 (grantReportFields g.dst) := regsKept_ite (regsKept_refl _ _)
    (regsKept_bump _ _ (regsKept_refl _ _) (by simp [grantReportFields]) (by simp [grantReportFields]))
  have hkept : regsKept s3 (s5.raise (Err.HEARTH_OWNER_CHANGE (1 - g.dst))) (grantReportFields g.dst) :=
    regsKept_trans (regsKept_upd h4 rfl) (regsKept_mono (regsKept_raise _ _ (regsKept_refl _ _))
      fun _ h => List.mem_cons_of_mem _ (List.mem_cons_of_mem _ h))
  have hown : ∀ f ∈ [Reg.HEARTH_OWNER_OWNER 0, Reg.HEARTH_OWNER_DUAL 0],
      (s5.raise (Err.HEARTH_OWNER_CHANGE (1 - g.dst))).rd f = s2.rd f := fun f hf =>
    (hkept f (hreport f (List.mem_append_left [_] hf))).trans (rd_wr_ne _ _ _ _ (hrole f hf))
  refine ⟨(hown _ (by simp)).trans ?_, (hown _ (by simp)).trans ?_, ?_⟩
  · simp (disch := decide) only [s2, s1, rd_setOwnerFld_ne, rd_setOwnerFld_same]
    exact Nat.mod_eq_of_lt hdst
  · simp (disch := decide) only [s2, s1, rd_setOwnerFld_ne, rd_setOwnerFld_same]
    rfl
  · exact (hkept _ (hreport _ (by simp))).trans (role_setRole_same _ _ _ (by decide))

/-- The granted change is in its grant bell from now on, and no other is decided (R247). -/
theorem grantTo_twins (s : State) (g : Grant) : (s.grantTo g).twins.grant = none ∧
    (s.grantTo g).twins.dual = some { g with since := s.ticks } := by
  unfold State.grantTo
  rw [raise_twins]
  exact ⟨rfl, rfl⟩

theorem failoverGrant_completes (g : Grant) (s : State) (hgrant : s.twins.grant = some g) (hauto : g.auto = true)
    (hsince : g.since < s.ticks) (hdst : g.dst < 2) : completes .failoverGrant s fun t =>
      t.rd (Reg.HEARTH_OWNER_OWNER 0) = g.dst ∧ t.rd (Reg.HEARTH_OWNER_DUAL 0) = 1 ∧ t.role g.dst = 1 ∧
      t.twins.grant = none ∧ t.twins.dual = some { g with since := s.ticks } ∧
      errUp t (Err.HEARTH_OWNER_CHANGE (1 - g.dst)) := by
  obtain ⟨howner, hdual, hrole⟩ := rd_grantTo s g hdst
  obtain ⟨hgranted, hbell⟩ := grantTo_twins s g
  show ∃ t, execFailoverGrant s = .next t ∧ _
  simp only [execFailoverGrant, hgrant]
  rw [if_pos ⟨hauto, hsince⟩]
  exact ⟨_, rfl, howner, hdual, hrole, hgranted, hbell,
    raise_sets _ _ _ (by simp only [Err.HEARTH_OWNER_CHANGE]; omega) (by simp [Err.HEARTH_OWNER_CHANGE])⟩

theorem plannedHandover_completes (g : Grant) (s : State) (hgrant : s.twins.grant = some g) (hauto : g.auto = false)
    (hsince : g.since < s.ticks) (hdst : g.dst < 2) (hrole : s.role g.dst = 2)
    (hrelock : ¬ ((g.cause = 5 ∨ g.cause = 6) ∧ s.rd Reg.BOOT_RELOCK_ACTIVE = 1)) :
    completes .plannedHandover s fun t => t.rd (Reg.HEARTH_OWNER_OWNER 0) = g.dst ∧ t.role g.dst = 1 ∧
      t.twins.dual = some { g with since := s.ticks } := by
  obtain ⟨howner, -, hnew⟩ := rd_grantTo s g hdst
  show ∃ t, execPlannedHandover s = .next t ∧ _
  simp only [execPlannedHandover, hgrant]
  rw [if_neg (by simp [hauto, hsince]), if_neg (not_not.2 hrole), if_neg (by simpa [State.is] using hrelock)]
  exact ⟨_, rfl, howner, hnew, (grantTo_twins s g).2⟩

/-! ### The cut -/

/-- The grant bell goes on, or is over, in both states alike: HEARTH_OWNER.DUAL and the change in its grant bell. -/
structure dualKept (s t : State) : Prop where
  reg  : t.rd (Reg.HEARTH_OWNER_DUAL 0) = s.rd (Reg.HEARTH_OWNER_DUAL 0)
  dual : t.twins.dual = s.twins.dual

namespace dualKept

variable {s t u : State}

theorem refl (s : State) : dualKept s s := ⟨rfl, rfl⟩

theorem wr {f : Fld} {v : Nat} (h : dualKept s t) (hf : (Reg.HEARTH_OWNER_DUAL 0).key ≠ f.key) :
    dualKept s (t.wr f v) := ⟨(rd_wr_ne _ _ _ _ hf).trans h.reg, h.dual⟩

theorem ite {c : Prop} [Decidable c] (ht : dualKept s t) (hu : dualKept s u) : dualKept s (if c then t else u) := by
  split
  · exact ht
  · exact hu

theorem foldl {β : Type} {g : State → β → State} {l : List β} (hg : ∀ a, ∀ x ∈ l, dualKept s a → dualKept s (g a x))
    (h : dualKept s t) : dualKept s (l.foldl g t) := by
  induction l generalizing t with
  | nil => exact h
  | cons x l ih => exact ih (fun a y hy => hg a y (List.mem_cons_of_mem _ hy)) (hg t x List.mem_cons_self h)

theorem bump {c : Ctr} {n : Nat} (h : dualKept s t) (hc : (Reg.HEARTH_OWNER_DUAL 0).key ≠ c.fld.key)
    (ho : (Reg.HEARTH_OWNER_DUAL 0).key ≠ (Hdr.CNT_OVF c.page).key) : dualKept s (t.bump c n) :=
  ⟨(rd_bump_ne _ _ _ _ hc ho).trans h.reg, by rw [bump_twins, h.dual]⟩

theorem raise {e : ErrBit} {o : Occ} (h : dualKept s t)
    (he : ∀ g ∈ raiseFields e.page, (Reg.HEARTH_OWNER_DUAL 0).key ≠ g.key) : dualKept s (t.raise e o) :=
  ⟨(rd_raise_ne _ _ _ _ he).trans h.reg, by rw [raise_twins, h.dual]⟩

theorem setHearth {h' : Nat} {w : HearthUnit} (h : dualKept s t) : dualKept s (t.setHearth h' w) :=
  ⟨(rd_congr (setHearth_regs ..) _).trans h.reg, (setHearth_dual ..).trans h.dual⟩

theorem failHearth {h' : Nat} (h : dualKept s t) (hh : h' < 2) : dualKept s (t.failHearth h') := by
  have hkeys : ∀ k < 2, ∀ g ∈ failFields k, (Reg.HEARTH_OWNER_DUAL 0).key ≠ g.key := by decide
  exact ⟨(failHearth_kept t h' _ (hkeys h' hh)).trans h.reg, (setHearth_dual ..).trans h.dual⟩

/-- A row noted bad is reported on both pages, and on the owner's as an error (R231). -/
theorem noteRow {h' i : Nat} (h : dualKept s t) : dualKept s (t.noteRow h' i) := by
  have hkeys : ∀ o < 2, ∀ g ∈ raiseFields (Err.HEARTH_XT_MATRIX_BAD o).page,
      (Reg.HEARTH_OWNER_DUAL 0).key ≠ g.key := by decide
  have howner : t.owner.getD 0 < 2 := by
    cases ho : t.owner with
    | none => decide
    | some o => exact owner_lt ho
  have hbad : ∀ p ∈ [0, 1], (Reg.HEARTH_OWNER_DUAL 0).key ≠ (Reg.HEARTH_XT_BAD_VALID p).key ∧
      (Reg.HEARTH_OWNER_DUAL 0).key ≠ (Reg.HEARTH_XT_BAD_FERRY p).key ∧
      (Reg.HEARTH_OWNER_DUAL 0).key ≠ (Reg.HEARTH_XT_BAD_ROW p).key := by decide
  unfold State.noteRow
  extract_lets _ s1 s2
  have h1 : dualKept s s1 := ⟨h.reg, h.dual⟩
  have h2 : dualKept s s2 := foldl (fun a p hp ha => by
    obtain ⟨hvalid, hferry, hrow⟩ := hbad p hp
    exact ((ha.wr hvalid).wr hferry).wr hrow) h1
  clear_value s2
  exact h.ite (h2.raise (hkeys _ howner))

theorem commandHeater {h' i : Nat} (h : dualKept s t) (hh : h' < 2) : dualKept s (t.commandHeater h' i) := by
  have hkeys : ∀ k < 2, (Reg.HEARTH_OWNER_DUAL 0).key ≠ (Ctr.HEARTH_CLAMPS k).fld.key ∧
      (Reg.HEARTH_OWNER_DUAL 0).key ≠ (Hdr.CNT_OVF (Ctr.HEARTH_CLAMPS k).page).key := by decide
  obtain ⟨hcount, hovf⟩ := hkeys h' hh
  unfold State.commandHeater
  exact (h.noteRow.ite (h.noteRow.bump hcount hovf)).setHearth

theorem writeDac {i c : Nat} (h : dualKept s t) : dualKept s (t.writeDac i c) := by
  have hcodes : dualKept s { t with codes := mset t.codes i c 0 } := ⟨h.reg, h.dual⟩
  exact h.ite (hcodes.bump (by decide) (by decide))

theorem writeCodes {h' : Nat} {hs : List Nat} (h : dualKept s t) : dualKept s (t.writeCodes h' hs) :=
  foldl (fun _ _ _ h => h.writeDac) h

end dualKept

/-- The cut ends the grant bell; the roles, the repair and the refresh of every code that follow leave it ended. -/
theorem cutTo_endsDual (s : State) (g : Grant) (hdst : g.dst < 2) :
    (s.cutTo g).rd (Reg.HEARTH_OWNER_DUAL 0) = 0 ∧ (s.cutTo g).twins.dual = none := by
  have hold : 1 - g.dst < 2 := by omega
  have hkeys : ∀ k < 2, (Reg.HEARTH_OWNER_DUAL 0).key ≠ (Reg.HEARTH_ROLE_ROLE k).key ∧
      (Reg.HEARTH_OWNER_DUAL 0).key ≠ (Hdr.SRST_BUSY (0x0A + k)).key := by decide
  obtain ⟨hrole, hbusy⟩ := hkeys _ hold
  unfold State.cutTo
  extract_lets old r s1 _ s2 s3 _ s4 s5 _ s6 s7
  have h2 : s2.rd (Reg.HEARTH_OWNER_DUAL 0) = 0 :=
    (rd_wr_ne _ _ _ _ hrole).trans (rd_setOwnerFld_same s Reg.HEARTH_OWNER_DUAL 0 (by decide))
  have h3 : dualKept s2 s3 := ((dualKept.refl s2).failHearth hold).ite (dualKept.refl s2)
  have h4 : dualKept s2 s4 := h3.setHearth
  have h6 : dualKept s2 s6 := ((h4.wr hbusy).ite h4).setHearth
  have h7 : dualKept s2 s7 := dualKept.foldl (fun _ _ _ h => h.commandHeater hdst) h6
  have hend : dualKept s2 (s7.writeCodes g.dst allHeaters) := h7.writeCodes
  exact ⟨hend.reg.trans h2, hend.dual⟩

theorem failoverCut_completes (g : Grant) (s : State) (hdual : s.twins.dual = some g) (hauto : g.auto = true)
    (hsince : g.since < s.ticks) (hdst : g.dst < 2) : completes .failoverCut s fun t =>
      t.rd (Reg.HEARTH_OWNER_DUAL 0) = 0 ∧ t.twins.dual = none := by
  show ∃ t, execFailoverCut s = .next t ∧ _
  simp only [execFailoverCut, hdual]
  rw [if_neg (by simp [hauto, hsince])]
  exact ⟨_, rfl, cutTo_endsDual _ g hdst⟩

/-! ### Handovers that are asked for (R260, R261) -/

theorem reclaim_completes (h : Nat) (s : State) (hother : s.nonOwner = some h)
    (hmode : s.rd (Reg.HEARTH_RETURN_MODE 0) = 1) (hrole : s.role h = 2) (hwas : (s.hearth h).wasOwner = true)
    (hno : (s.hearth h).noReclaim = false) (hclean : 1024 ≤ (s.hearth h).sinceStandby)
    (hgrant : s.twins.grant = none) (hdual : s.twins.dual = none) : completes .reclaim s fun t =>
      t = { s with twins := { s.twins with
        grant := some { dst := h, cause := 5, auto := false, since := s.ticks } } } := by
  show ∃ t, execReclaim s = .next t ∧ _
  simp only [execReclaim, hother]
  rw [if_pos (by simp [State.is, hmode, hrole, hwas, hno, hclean])]
  exact ⟨_, rfl, plan_of_idle s h 5 false hgrant hdual⟩

theorem hearthSwitchRequest_completes (h : Nat) (val : Word) (s : State) (hkey : bits val.toNat 8 8 = 0xA5)
    (hreq : bit val.toNat 0 = true) (hother : s.nonOwner = some h) :
    completes (.hearthSwitchRequest val) s fun t =>
      (s.role h = 2 → s.twins.grant = none → s.twins.dual = none → t.rd (Reg.HEARTH_OWNER_REQ_REFUSED 0) = 0 ∧
        t.twins.grant = some { dst := h, cause := 6, auto := false, since := s.ticks }) ∧
      (s.role h ≠ 2 → t.rd (Reg.HEARTH_OWNER_REQ_REFUSED 0) = 1 ∧ t.twins = s.twins) := by
  have hrefused (v : Nat) : (s.setOwnerFld Reg.HEARTH_OWNER_REQ_REFUSED v).rd (Reg.HEARTH_OWNER_REQ_REFUSED 0) =
      v % 2 := rd_setOwnerFld_same _ _ _ (by decide)
  refine ⟨s.switchRequest val.toNat, rfl, ?_⟩
  rw [State.switchRequest, if_pos ⟨hkey, hreq⟩]
  simp only [hother]
  by_cases hrole : s.role h = 2
  · rw [if_pos hrole]
    refine ⟨fun _ hgrant hdual => ⟨(rd_congr (plan_regs ..) _).trans (hrefused 0), ?_⟩, fun hne => absurd hrole hne⟩
    rw [plan_of_idle (s.setOwnerFld Reg.HEARTH_OWNER_REQ_REFUSED 0) h 6 false hgrant hdual]
    rfl
  · rw [if_neg hrole]
    exact ⟨fun h2 => absurd h2 hrole, fun _ => ⟨hrefused 1, setOwnerFld_twins ..⟩⟩

/-! ### A Hearth is reset, or stops (R101, R253, R261) -/

theorem hearthSoftReset_completes (h : Nat) (s : State) (hh : h < 2) (howner : s.owner ≠ some h) (hrole : s.role h ≠ 0) :
    completes (.hearthSoftReset h) s fun t =>
      t.role h = 4 ∧ (t.hearth h).loops = [] ∧ t.rd (Hdr.SRST_BUSY (0x0A + h)) = 1 := by
  have hkeys : ∀ k < 2, (Reg.HEARTH_ROLE_ROLE k).key ≠ (Hdr.SRST_BUSY (0x0A + k)).key := by decide
  refine ⟨s.softResetHearth h, if_pos hh, ?_⟩
  rw [State.softResetHearth, if_neg howner, if_neg hrole]
  refine ⟨?_, ?_, rd_wr_same ..⟩
  · rw [State.role, rd_wr_ne _ _ _ _ (hkeys h hh)]
    exact (role_setHearth ..).trans (role_failHearth s h hh)
  · rw [hearth_congr (wr_twins ..), hearth_setHearth_same]

theorem hearthControllerStop_completes (h : Nat) (s : State) (hh : h < 2) :
    completes (.hearthControllerStop h) s fun t => (t.hearth h).stopped = true ∧ t.regs = s.regs ∧
      t.hearth (1 - h) = s.hearth (1 - h) :=
  ⟨_, if_pos hh, by rw [hearth_setHearth_same], setHearth_regs .., hearth_setHearth_other _ _ _ hh⟩

/-! ### Repair and return (R258, R259) -/

theorem hearthRepair_fails (h : Nat) (s : State) (hh : h < 2) (hrole : s.role h = 4)
    (hat : (s.hearth h).repairAt ≤ s.ticks) : completes (.hearthRepair h false) s fun t =>
      t.role h = 4 ∧ (t.hearth h).repairFails = (s.hearth h).repairFails + 1 := by
  show ∃ t, execHearthRepair h false s = .next t ∧ _
  rw [execHearthRepair, if_neg (by omega)]
  exact ⟨_, rfl, (role_setHearth ..).trans hrole, by rw [hearth_setHearth_same]⟩

theorem hearthRepair_entersResync (h : Nat) (s : State) (hh : h < 2) (hrole : s.role h = 4)
    (hat : (s.hearth h).repairAt ≤ s.ticks) (howned : s.rd (Reg.HEARTH_OWNER_NONE 0) = 0) :
    completes (.hearthRepair h true) s fun t => t.role h = 3 ∧ (t.hearth h).resyncAt = s.ticks := by
  have hnone : ¬ (s.is (Reg.HEARTH_OWNER_NONE 0) = true ∧ s.rd Reg.DEVICE_STATE_STATE ≠ 3) := by
    simp [State.is, howned]
  show ∃ t, execHearthRepair h true s = .next t ∧ _
  rw [execHearthRepair, if_neg (by omega)]
  extract_lets u n _ u1 s1
  rw [if_neg (by decide), if_neg hnone]
  have h1 : s1.hearth h = u1 := hearth_setHearth_same s h u1
  exact ⟨_, rfl, role_setRole_same _ _ _ (by decide), (congrArg HearthUnit.resyncAt h1).trans rfl⟩

theorem resyncCopy_completes (h o : Nat) (crc : Bool) (s : State) (howner : s.owner = some o) (hh : h < 2)
    (hne : h ≠ o) (hrole : s.role h = 3) : completes (.resyncCopy h crc) s fun t =>
      (t.hearth h).loops = (s.hearth o).loops ∧ (t.hearth h).copied = crc ∧ t.rd (Reg.HEARTH_ROLE_CLEAN h) = 0 := by
  show ∃ t, execResyncCopy h crc s = .next t ∧ _
  simp only [execResyncCopy, howner]
  rw [if_neg (by omega)]
  have hcopied := hearth_setHearth_same s h { s.hearth h with
    loops := (s.hearth o).loops, targets := (s.hearth o).targets, codes := (s.hearth o).codes, copied := crc }
  refine ⟨_, rfl, (congrArg HearthUnit.loops hcopied).trans rfl, (congrArg HearthUnit.copied hcopied).trans rfl, ?_⟩
  exact (rd_wr_same ..).trans (Nat.zero_mod _)

theorem resyncComplete_completes (h : Nat) (s : State) (hh : h < 2) (hrole : s.role h = 3)
    (hcopied : (s.hearth h).copied = true) (hclean : 8 ≤ s.rd (Reg.HEARTH_ROLE_CLEAN h)) :
    completes (.resyncComplete h) s fun t => t.role h = 2 ∧ (t.hearth h).sinceStandby = 0 :=
  ⟨_, if_pos ⟨hh, hrole, hcopied, hclean⟩, (role_setHearth ..).trans (role_setRole_same _ _ _ (by decide)),
    by rw [hearth_setHearth_same]⟩

theorem resyncTimeout_completes (h : Nat) (s : State) (hh : h < 2) (hrole : s.role h = 3)
    (hlate : (s.hearth h).resyncAt + 1048576 ≤ s.ticks) : completes (.resyncTimeout h) s fun t =>
      t.role h = 4 ∧ errUp t (Err.HEARTH_SELFTEST_FAIL h) := by
  have hkeys : ∀ k < 2, ∀ g ∈ failFields k, (Hdr.PG_ERR (Err.HEARTH_SELFTEST_FAIL k).page).key ≠ g.key := by decide
  refine ⟨_, if_pos ⟨hh, hrole, hlate⟩, role_failHearth _ h hh, ?_⟩
  rw [errUp, failHearth_kept _ h _ (hkeys h hh)]
  exact raise_sets _ _ _ (by simp only [Err.HEARTH_SELFTEST_FAIL]; omega) (by simp [Err.HEARTH_SELFTEST_FAIL])

/-- Settles O33: one lemma for each clause; both ways of granting go through `grantTo`, and what the cut does after
ending the grant bell keeps it ended. -/
theorem ownershipOfTheRings : Obligations.OwnershipOfTheRings :=
  ⟨failoverGrant_completes, failoverCut_completes, plannedHandover_completes, reclaim_completes,
    hearthSwitchRequest_completes, hearthSoftReset_completes, hearthControllerStop_completes, hearthRepair_fails,
    hearthRepair_entersResync, resyncCopy_completes, resyncComplete_completes, resyncTimeout_completes⟩

end Sys2Proof.Machine
end

section
/-! ## The links of a Ferry: what work on them leaves alone (R103, R114, R280, R281) -/

namespace Sys2Proof.Machine

/-! ### Keys -/

/-- Fields that lie at different offsets, or bits, of their pages have different keys, whatever the pages. -/
theorem key_ne_of_place {f g : Fld} (hf : f.off < 4096 ∧ f.lo < 32) (hg : g.off < 4096 ∧ g.lo < 32)
    (h : f.off ≠ g.off ∨ f.lo ≠ g.lo) : f.key ≠ g.key := by
  unfold Fld.key
  intro e
  split at e <;> split at e <;> omega

/-! ### A link -/

theorem link_setLink_same (s : State) (k : Nat) (l : Link) : (s.setLink k l).link k = l := mget_mset_same ..

theorem link_setLink_ne (s : State) (k q : Nat) (l : Link) (h : q ≠ k) : (s.setLink k l).link q = s.link q :=
  mget_mset_ne _ _ _ _ _ _ h

theorem link_congr {s t : State} (h : t.links = s.links) (k : Nat) : t.link k = s.link k := by
  simp only [State.link, h]

/-- The number of a link gives its Ferry and its place there. -/
theorem linkNum_div (f j : Nat) (hj : j < 32) : (32 * f + j) / 32 = f := by omega

theorem linkNum_mod (f j : Nat) (hj : j < 32) : (32 * f + j) % 32 = j := by omega

theorem stageOf_linkNum (s : State) (f j : Nat) (hj : j < 32) :
    s.stageOf (32 * f + j) = s.rd (Reg.FERRY_LANE_STATE_STAGE f j) := by
  rw [State.stageOf, linkNum_div f j hj, linkNum_mod f j hj]

/-! ### The error bits and the counts of a Ferry -/

/-- The counts of a Ferry that its links' work leaves to the command: bad headers, attempts, completed bring-ups and
training frames. -/
def countedFields (f : Nat) : List Fld :=
  [(Ctr.CNT_HEADER_CRC_ERRORS f).fld, (Ctr.CNT_BRINGUP_ATTEMPTS f).fld, (Ctr.CNT_BRINGUPS_COMPLETED f).fld,
   (Ctr.CNT_TRAINING_FRAMES_RX f).fld]

/-- Whether a field lies outside the pages of the Ferries. -/
def offFerries (g : Fld) : Bool :=
  g.idx == 0 && decide (g.page < 256) && (decide (g.page < 0x20) || decide (0x40 ≤ g.page))

/-- Whether a field is neither PG_ERR of a Ferry's page nor one of its `countedFields`, as its place tells. -/
def spare (g : Fld) : Bool :=
  decide (g.off < 4096) && decide (g.lo < 32) && (!([0x14, 0x70, 0x80, 0x88, 0xB0].contains g.off) || offFerries g)

theorem key_ne_of_spare {f : Nat} (hf : f < 8) {g : Fld} (hg : spare g = true) :
    ∀ w ∈ Hdr.PG_ERR (0x20 + 4 * f) :: countedFields f, w.key ≠ g.key := by
  simp only [spare, offFerries, Bool.and_eq_true, Bool.or_eq_true, decide_eq_true_eq, beq_iff_eq] at hg
  obtain ⟨hplace, hg⟩ := hg
  intro w hw
  have hw' : w.ok ∧ w.idx = 0 ∧ 0x20 ≤ w.page ∧ w.page < 0x40 ∧ w.off ∈ [0x14, 0x70, 0x80, 0x88, 0xB0] := by
    simp only [countedFields, List.mem_cons, List.not_mem_nil, or_false] at hw
    rcases hw with rfl | rfl | rfl | rfl | rfl <;> refine ⟨⟨?_, ?_, ?_⟩, rfl, ?_, ?_, ?_⟩ <;>
      simp [Hdr.PG_ERR, Ctr.fld, Ctr.CNT_HEADER_CRC_ERRORS, Ctr.CNT_BRINGUP_ATTEMPTS, Ctr.CNT_BRINGUPS_COMPLETED,
        Ctr.CNT_TRAINING_FRAMES_RX] <;> omega
  obtain ⟨hok, hidx, hlo, hhi, hoff⟩ := hw'
  rcases hg with hg | ⟨⟨hgi, hgp⟩, hg⟩
  · refine key_ne_of_place hok.2 hplace (.inl fun e => ?_)
    rw [e] at hoff
    simp [hoff] at hg
  · exact key_ne hok ⟨hgp, hplace⟩ (.inr (.inl (by omega)))

theorem spare_of_off {g : Fld} (h : 0xB0 < g.off ∧ g.off < 4096 ∧ g.lo < 32) : spare g = true := by
  obtain ⟨hoff, hplace⟩ := h
  have hnot : [0x14, 0x70, 0x80, 0x88, 0xB0].contains g.off = false := by
    simp only [List.contains_eq_mem, List.mem_cons, List.not_mem_nil, or_false, decide_eq_false_iff_not]
    omega
  simp only [spare, hplace, hnot, decide_true, Bool.not_false, Bool.true_or, Bool.and_true]

/-- A field that stands once for each link of a Ferry, in a row of words beyond the page's header and counters. -/
theorem spare_of_row {g : Fld} {a b j : Nat} (hj : j < 32) (hoff : g.off = a + b * j)
    (h : (decide (0xB0 < a) && decide (a + b * 31 < 4096) && decide (g.lo < 32)) = true) : spare g = true := by
  simp only [Bool.and_eq_true, decide_eq_true_eq] at h
  obtain ⟨⟨hlo, hhi⟩, hbit⟩ := h
  have hrow : b * j ≤ b * 31 := Nat.mul_le_mul_left b (by omega)
  exact spare_of_off ⟨by omega, by omega, hbit⟩

/-- From `s` to `t` links may have been worked on: every error bit of a Ferry's page that was set still is, and the
`countedFields` read as before. -/
structure laneWork (s t : State) : Prop where
  errs   : ∀ f < 8, ∀ b < 32, bit (s.rd (Hdr.PG_ERR (0x20 + 4 * f))) b = true →
             bit (t.rd (Hdr.PG_ERR (0x20 + 4 * f))) b = true
  counts : ∀ f < 8, ∀ w ∈ countedFields f, t.rd w = s.rd w

namespace laneWork

variable {s t u : State}

theorem refl (s : State) : laneWork s s := ⟨fun _ _ _ _ h => h, fun _ _ _ _ => rfl⟩

theorem trans (h : laneWork s t) (h' : laneWork t u) : laneWork s u :=
  ⟨fun f hf b hb e => h'.errs f hf b hb (h.errs f hf b hb e),
    fun f hf w hw => (h'.counts f hf w hw).trans (h.counts f hf w hw)⟩

/-- Changes of spare fields alone. -/
theorem step {fs : List Fld} (h : laneWork s t) (hk : regsKept t u fs) (hs : ∀ g ∈ fs, spare g = true) :
    laneWork s u := by
  have hrd : ∀ f < 8, ∀ w ∈ Hdr.PG_ERR (0x20 + 4 * f) :: countedFields f, u.rd w = t.rd w :=
    fun f hf w hw => hk w fun g hg => key_ne_of_spare hf (hs g hg) w hw
  refine h.trans ⟨fun f hf b _ e => ?_, fun f hf w hw => hrd f hf w (List.mem_cons_of_mem _ hw)⟩
  rwa [hrd f hf _ List.mem_cons_self]

theorem upd (h : laneWork s t) (hr : u.regs = t.regs) : laneWork s u :=
  h.step (regsKept_of_regs [] hr) (by simp)

theorem wr {g : Fld} {v : Nat} (h : laneWork s t) (hg : spare g = true) : laneWork s (t.wr g v) :=
  h.step (regsKept_wr g v (regsKept_refl t [g]) (List.mem_singleton.2 rfl)) (by simpa using hg)

theorem wrB {g : Fld} {b : Bool} (h : laneWork s t) (hg : spare g = true) : laneWork s (t.wrB g b) :=
  h.wr hg

theorem wrI {g : Fld} {v : Int} (h : laneWork s t) (hg : spare g = true) : laneWork s (t.wrI g v) :=
  h.wr hg

theorem addSat {g : Fld} {n : Nat} (h : laneWork s t) (hg : spare g = true) : laneWork s (t.addSat g n) :=
  h.wr hg

theorem bump {c : Ctr} {n : Nat} (h : laneWork s t) (hc : spare c.fld = true) : laneWork s (t.bump c n) :=
  h.step (regsKept_bump c n (regsKept_refl t [c.fld, Hdr.CNT_OVF c.page]) (by simp) (by simp))
    (by simpa using ⟨hc, rfl⟩)

theorem ite {c : Prop} [Decidable c] (ht : laneWork s t) (hu : laneWork s u) : laneWork s (if c then t else u) := by
  split
  · exact ht
  · exact hu

theorem foldl {β : Type} {g : State → β → State} {l : List β} (hg : ∀ a, ∀ x ∈ l, laneWork s a → laneWork s (g a x))
    (h : laneWork s t) : laneWork s (l.foldl g t) := by
  induction l generalizing t with
  | nil => exact h
  | cons x l ih =>
    exact ih (fun a y hy => hg a y (List.mem_cons_of_mem _ hy)) (hg t x List.mem_cons_self h)

/-- A fold over a pair, of which one part is the state. -/
theorem foldlSnd {α β : Type} {g : α × State → β → α × State} {l : List β} {a : α × State}
    (hg : ∀ a x, laneWork s a.2 → laneWork s (g a x).2) (h : laneWork s a.2) : laneWork s (l.foldl g a).2 := by
  induction l generalizing a with
  | nil => exact h
  | cons x l ih => exact ih (hg a x h)

/-- The fields that an occurrence changes, PG_ERR apart, are spare. -/
theorem raiseFields_spare (p : Nat) : ∀ g ∈ raiseFields p, g = Hdr.PG_ERR p ∨ spare g = true := by
  have hfixed : ∀ g ∈ alarmFields ++ ledgerFields, spare g = true := by decide
  intro g hg
  rcases List.mem_append.1 hg with hg | hg
  · simp only [errFields, List.mem_cons, List.not_mem_nil, or_false] at hg
    rcases hg with rfl | rfl | rfl | rfl
    · exact .inl rfl
    · exact .inr rfl
    · exact .inr rfl
    · exact .inr rfl
  · exact .inr (hfixed g hg)

theorem log {x : Entry} (h : laneWork s t) : laneWork s (t.log x) := by
  refine h.trans ⟨fun f hf b hb e => log_keeps _ _ _ _ (by omega) hb e, fun f hf w hw => ?_⟩
  refine regsKept_log 6 x (regsKept_refl t _) w fun g hg => ?_
  have hspare : ∀ g ∈ raiseFields 6, spare g = true := by decide
  exact key_ne_of_spare hf (hspare g hg) w (List.mem_cons_of_mem _ hw)

theorem markErr {e : ErrBit} {o : Occ} (h : laneWork s t) (he : e.page < 256) : laneWork s (t.markErr e o).1 := by
  refine h.trans ⟨fun f hf b hb hup => markErr_keeps _ _ _ _ _ (by omega) he hb hup, fun f hf w hw => ?_⟩
  refine regsKept_markErr e.page e o (regsKept_refl t _) (.inl rfl) w fun g hg => ?_
  rcases raiseFields_spare e.page g hg with rfl | hg
  · have hoff : ∀ w ∈ countedFields f, w.off ≠ 0x14 ∧ w.off < 4096 ∧ w.lo < 32 := by
      simp [countedFields, Ctr.fld, Ctr.CNT_HEADER_CRC_ERRORS, Ctr.CNT_BRINGUP_ATTEMPTS, Ctr.CNT_BRINGUPS_COMPLETED,
        Ctr.CNT_TRAINING_FRAMES_RX]
    obtain ⟨hne, hplace⟩ := hoff w hw
    exact key_ne_of_place hplace ⟨by simp [Hdr.PG_ERR], by simp [Hdr.PG_ERR]⟩ (.inl hne)
  · exact key_ne_of_spare hf hg w (List.mem_cons_of_mem _ hw)

theorem raise {e : ErrBit} {o : Occ} (h : laneWork s t) (he : e.page < 256) :
    laneWork s (t.raise e o) := (h.markErr he).log

theorem raiseTasks {e : ErrBit} {tags : List EntryTag} {o : Occ} (h : laneWork s t)
    (he : e.page < 256) : laneWork s (t.raiseTasks e tags o) := by
  unfold State.raiseTasks
  split
  · exact h.raise he
  · exact foldl (fun _ _ _ h => h.log) (h.raise he)

theorem record {page code detail : Nat} {tag : EntryTag} (h : laneWork s t) :
    laneWork s (t.record page code detail tag) := h.log

theorem injectUse {page checker : Nat} (h : laneWork s t) : laneWork s (t.injectUse page checker).2 := by
  unfold State.injectUse
  split
  · exact h.wr (by rfl)
  · exact h

theorem setLink {k : Nat} {l : Link} (h : laneWork s t) : laneWork s (t.setLink k l) := h.upd rfl
theorem setHop {k : Nat} {x : Hop} (h : laneWork s t) : laneWork s (t.setHop k x) := h.upd rfl
theorem setCredit {k : Nat} {c : Credit} (h : laneWork s t) : laneWork s (t.setCredit k c) := h.upd rfl
theorem setTask {n : Nat} {x : Machine.Task} (h : laneWork s t) : laneWork s (t.setTask n x) := h.upd rfl
theorem setLane {k : Nat} {l : LaneTime} (h : laneWork s t) : laneWork s (t.setLane k l) := h.upd rfl

/-! ### The operations on a link -/

theorem showTaps {k : Nat} (h : laneWork s t) : laneWork s (t.showTaps k) := by
  unfold State.showTaps
  extract_lets f j _
  have hj : j < 32 := Nat.mod_lt _ (by decide)
  exact (((h.wr (spare_of_row hj rfl rfl)).wr (spare_of_row hj rfl rfl)).wr (spare_of_row hj rfl rfl)).wr
    (spare_of_row hj rfl rfl)

theorem line {k : Nat} {r : LineReport} (h : laneWork s t) : laneWork s (t.line k r) := by
  unfold State.line
  extract_lets f j _ _ _ _ _ s1 s2 s3
  have hj : j < 32 := Nat.mod_lt _ (by decide)
  have h1 : laneWork s s1 := wr (setLink (upd h (by rfl))) (spare_of_row hj rfl rfl)
  have h2 : laneWork s s2 := h1.ite h1.showTaps
  have h3 : laneWork s s3 := (h2.wr (spare_of_row hj rfl rfl)).ite h2
  exact h3.wrI (spare_of_row hj rfl rfl)

theorem linkFields_spare {f j : Nat} (hj : j < 32) : ∀ g ∈ linkFields f j, spare g = true := by
  intro g hg
  simp only [linkFields, List.mem_cons, List.not_mem_nil, or_false] at hg
  rcases hg with rfl | rfl | rfl | rfl | rfl | rfl | rfl | rfl | rfl | rfl | rfl | rfl | rfl | rfl | rfl | rfl <;>
    exact spare_of_row hj rfl rfl

/-- Writes of a list of spare fields. -/
theorem wrs {l : List (Fld × Nat)} (h : laneWork s t) (hl : ∀ p ∈ l, spare p.1 = true) :
    laneWork s (l.foldl (fun a p => a.wr p.1 p.2) t) := foldl (fun _ p hp h => h.wr (hl p hp)) h

theorem mirrorPair {f j : Nat} (h : laneWork s t) (hj : 0 < j ∧ j < 32) : laneWork s (t.mirrorPair f j) := by
  unfold State.mirrorPair
  have hzip {i : Nat} (hi : i < 32) (vs : List Nat) : ∀ p ∈ (linkFields f i).zip vs, spare p.1 = true :=
    fun p hp => linkFields_spare hi p.1 (List.of_mem_zip (a := p.1) (b := p.2) hp).1
  exact ((h.wrs (hzip hj.2 _)).wrs (hzip (by omega) _)).setLink.setLink

theorem setReversed {f : Nat} {r : Bool} (h : laneWork s t) : laneWork s (t.setReversed f r) := by
  unfold State.setReversed
  refine h.ite (wrB (foldl (fun _ j hj h => h.mirrorPair ?_) h) (by rfl))
  have := List.mem_range.1 hj
  omega

theorem orient {f : Nat} {r : Bool} (h : laneWork s t) : laneWork s (t.orient f r) := h.setReversed.wr (by rfl)

theorem enter {k st : Nat} (h : laneWork s t) : laneWork s (t.enter k st) := by
  unfold State.enter
  exact wr (setLink (h.wr (spare_of_row (Nat.mod_lt k (by decide)) rfl rfl))) (by rfl)

theorem settle {f : Nat} (h : laneWork s t) : laneWork s (t.settle f) := by
  unfold State.settle
  exact ((h.setReversed.wr (by rfl)).wr (by rfl)).ite h

theorem showHop {k : Nat} (h : laneWork s t) : laneWork s (t.showHop k) := by
  unfold State.showHop
  have hj : k % 32 < 32 := Nat.mod_lt _ (by decide)
  exact (h.wr (spare_of_row hj rfl rfl)).wr (spare_of_row hj rfl rfl)

theorem leaveActive {k at' : Nat} (h : laneWork s t) : laneWork s (t.leaveActive k at') := by
  unfold State.leaveActive
  exact h.setHop.showHop.setCredit

theorem forgetLane {k : Nat} (h : laneWork s t) (hk : k < 256) : laneWork s (t.forgetLane k) := by
  unfold State.forgetLane
  exact wr (upd h (by rfl)) (spare_of_off (by simp [Reg.BELL_LANE_RTT_RTT]; omega))

theorem toDetect {k reason : Nat} {b : BackOff} {at' : Nat} (h : laneWork s t) (hk : k < 256) :
    laneWork s (t.toDetect k reason b at') := by
  unfold State.toDetect
  extract_lets f j _ _ bells _ l1 s1 s2 land s3 s4
  have hj : j < 32 := Nat.mod_lt _ (by decide)
  have h1 : laneWork s s1 := (setLink h).enter.forgetLane hk
  have h2 : laneWork s s2 := by
    refine h1.wrs ?_
    simp only [List.forall_mem_cons]
    exact ⟨spare_of_row hj rfl rfl, spare_of_row hj rfl rfl, spare_of_row hj rfl rfl, spare_of_row hj rfl rfl,
      spare_of_row hj rfl rfl, spare_of_row hj rfl rfl, by simp⟩
  have h3 : laneWork s s3 := h2.wr (spare_of_off (by simp [land, Reg.BELL_LAND_H3_H0]; omega))
  have h4 : laneWork s s4 := h3.leaveActive.ite h3
  exact h4.settle

theorem raiseLink {e : Nat → ErrBit} {k : Nat} (h : laneWork s t) (he : (e (k / 32)).page < 256) :
    laneWork s (t.raiseLink e k) := h.raiseTasks he

theorem stageFail' {k reason : Nat} (h : laneWork s t) (hk : k < 256) : laneWork s (t.stageFail' k reason) := by
  unfold State.stageFail'
  extract_lets f st s0 s1 s2 s3 s4
  have hpage : 0x20 + 4 * f < 256 := by omega
  have h0 : laneWork s s0 := h.wr (spare_of_row (Nat.mod_lt k (by decide)) rfl rfl)
  have h1 : laneWork s s1 := (h0.bump (by rfl)).ite ((h0.bump (by rfl)).ite (h0.bump (by rfl)))
  have h2 : laneWork s s2 := h1.raise hpage
  have h3 : laneWork s s3 := (h2.raise hpage).ite ((h2.raise hpage).ite ((h2.raise hpage).ite h2))
  have h4 : laneWork s s4 := h3.toDetect hk
  exact (h4.wr (by rfl)).ite h4

theorem activeExit {k reason : Nat} {b : BackOff} (h : laneWork s t) (hk : k < 256) :
    laneWork s (t.activeExit k reason b) := by
  unfold State.activeExit
  extract_lets f s0 s1
  have hpage : 0x20 + 4 * f < 256 := by omega
  have h0 : laneWork s s0 := h.wr (spare_of_row (Nat.mod_lt k (by decide)) rfl rfl)
  have h1 : laneWork s s1 := ((h0.bump (by rfl)).raiseLink hpage).ite ((h0.raiseLink hpage).ite
    (((h0.bump (by rfl)).raiseTasks (by decide)).ite h0))
  exact h1.toDetect hk

end laneWork

end Sys2Proof.Machine
end

section
/-! ## The stages of the links (R280, R281, R286) -/

namespace Sys2Proof.Machine

/-! ### What leaves every stage as it is -/

/-- Whether a field is no link's STAGE, as its place tells. -/
def offStage (g : Fld) : Bool :=
  decide (g.off < 4096) && decide (g.lo < 32) &&
    (g.lo != 0 || decide (g.off < 0x180) || decide (0x200 ≤ g.off) || g.page % 4 != 0)

theorem key_ne_of_offStage {g : Fld} (hg : offStage g = true) (f j : Nat) (hj : j < 32) :
    (Reg.FERRY_LANE_STATE_STAGE f j).key ≠ g.key := by
  simp only [offStage, Bool.and_eq_true, Bool.or_eq_true, decide_eq_true_eq, bne_iff_ne] at hg
  unfold Fld.key
  dsimp only [Reg.FERRY_LANE_STATE_STAGE]
  simp only [Bool.false_eq_true, if_false]
  intro e
  split at e <;> omega

theorem offStage_of_off {g : Fld} (h : 0x200 ≤ g.off ∧ g.off < 4096 ∧ g.lo < 32) : offStage g = true := by
  simp [offStage, h]

/-- A field that stands once for each link of a Ferry, and is not STAGE. -/
theorem offStage_of_row {g : Fld} {a b j : Nat} (hj : j < 32) (hoff : g.off = a + b * j)
    (h : (decide (a + b * 31 < 4096) && decide (g.lo < 32) && (g.lo != 0 || decide (0x200 ≤ a))) = true) :
    offStage g = true := by
  simp only [Bool.and_eq_true, Bool.or_eq_true, decide_eq_true_eq] at h
  obtain ⟨⟨hhi, hbit⟩, hrow⟩ := h
  have hle : b * j ≤ b * 31 := Nat.mul_le_mul_left b (by omega)
  simp only [offStage, Bool.and_eq_true, Bool.or_eq_true, decide_eq_true_eq]
  exact ⟨⟨by omega, hbit⟩, .inl (hrow.elim (fun h => .inl (.inl h)) fun h => .inr (by omega))⟩

/-- Every link is in the stage in which it was. -/
def stagesKept (s t : State) : Prop := ∀ k, t.stageOf k = s.stageOf k

namespace stagesKept

variable {s t u : State}

theorem refl (s : State) : stagesKept s s := fun _ => rfl

theorem trans (h : stagesKept s t) (h' : stagesKept t u) : stagesKept s u := fun k => (h' k).trans (h k)

theorem step {fs : List Fld} (h : stagesKept s t) (hk : regsKept t u fs) (hs : ∀ g ∈ fs, offStage g = true) :
    stagesKept s u :=
  fun k => (hk _ fun g hg => key_ne_of_offStage (hs g hg) _ _ (Nat.mod_lt k (by decide))).trans (h k)

theorem upd (h : stagesKept s t) (hr : u.regs = t.regs) : stagesKept s u :=
  h.step (regsKept_of_regs [] hr) (by simp)

theorem wr {g : Fld} {v : Nat} (h : stagesKept s t) (hg : offStage g = true) : stagesKept s (t.wr g v) :=
  h.step (regsKept_wr g v (regsKept_refl t [g]) (List.mem_singleton.2 rfl)) (by simpa using hg)

theorem wrB {g : Fld} {b : Bool} (h : stagesKept s t) (hg : offStage g = true) : stagesKept s (t.wrB g b) :=
  h.wr hg

theorem wrI {g : Fld} {v : Int} (h : stagesKept s t) (hg : offStage g = true) : stagesKept s (t.wrI g v) :=
  h.wr hg

theorem addSat {g : Fld} {n : Nat} (h : stagesKept s t) (hg : offStage g = true) :
    stagesKept s (t.addSat g n) := h.wr hg

theorem wrs {l : List (Fld × Nat)} (h : stagesKept s t) (hl : ∀ p ∈ l, offStage p.1 = true) :
    stagesKept s (l.foldl (fun a p => a.wr p.1 p.2) t) := by
  induction l generalizing t with
  | nil => exact h
  | cons p l ih =>
    exact ih (h.wr (hl p List.mem_cons_self)) fun q hq => hl q (List.mem_cons_of_mem _ hq)

theorem bump {c : Ctr} {n : Nat} (h : stagesKept s t) (hc : offStage c.fld = true) :
    stagesKept s (t.bump c n) :=
  h.step (regsKept_bump c n (regsKept_refl t [c.fld, Hdr.CNT_OVF c.page]) (by simp) (by simp))
    (by simpa using ⟨hc, rfl⟩)

theorem raise {e : ErrBit} {o : Occ} (h : stagesKept s t) : stagesKept s (t.raise e o) := by
  refine h.step (regsKept_raise e o (regsKept_refl t _)) fun g hg => ?_
  have hfixed : ∀ g ∈ alarmFields ++ ledgerFields, offStage g = true := by decide
  rcases List.mem_append.1 hg with hg | hg
  · simp only [errFields, List.mem_cons, List.not_mem_nil, or_false] at hg
    rcases hg with rfl | rfl | rfl | rfl <;> rfl
  · exact hfixed g hg

theorem injectUse {page checker : Nat} (h : stagesKept s t) : stagesKept s (t.injectUse page checker).2 := by
  unfold State.injectUse
  split
  · exact h.wr (by rfl)
  · exact h

theorem ite {c : Prop} [Decidable c] (ht : stagesKept s t) (hu : stagesKept s u) :
    stagesKept s (if c then t else u) := by
  split
  · exact ht
  · exact hu

theorem setLink {k : Nat} {l : Link} (h : stagesKept s t) : stagesKept s (t.setLink k l) := h.upd rfl
theorem setHop {k : Nat} {x : Hop} (h : stagesKept s t) : stagesKept s (t.setHop k x) := h.upd rfl
theorem setCredit {k : Nat} {c : Credit} (h : stagesKept s t) : stagesKept s (t.setCredit k c) := h.upd rfl

theorem showTaps {k : Nat} (h : stagesKept s t) : stagesKept s (t.showTaps k) := by
  unfold State.showTaps
  extract_lets f j _
  have hj : j < 32 := Nat.mod_lt _ (by decide)
  exact (((h.wr (offStage_of_row hj rfl rfl)).wr (offStage_of_row hj rfl rfl)).wr (offStage_of_row hj rfl rfl)).wr
    (offStage_of_row hj rfl rfl)

theorem line {k : Nat} {r : LineReport} (h : stagesKept s t) : stagesKept s (t.line k r) := by
  unfold State.line
  extract_lets f j _ _ _ _ _ s1 s2 s3
  have hj : j < 32 := Nat.mod_lt _ (by decide)
  have h1 : stagesKept s s1 := wr (setLink (upd h (by rfl))) (offStage_of_row hj rfl rfl)
  have h2 : stagesKept s s2 := h1.ite h1.showTaps
  have h3 : stagesKept s s3 := (h2.wr (offStage_of_row hj rfl rfl)).ite h2
  exact h3.wrI (offStage_of_row hj rfl rfl)

theorem showHop {k : Nat} (h : stagesKept s t) : stagesKept s (t.showHop k) := by
  unfold State.showHop
  have hj : k % 32 < 32 := Nat.mod_lt _ (by decide)
  exact (h.wr (offStage_of_row hj rfl rfl)).wr (offStage_of_row hj rfl rfl)

theorem leaveActive {k at' : Nat} (h : stagesKept s t) : stagesKept s (t.leaveActive k at') := by
  unfold State.leaveActive
  exact h.setHop.showHop.setCredit

theorem forgetLane {k : Nat} (h : stagesKept s t) (hk : k < 256) : stagesKept s (t.forgetLane k) := by
  unfold State.forgetLane
  exact wr (upd h (by rfl)) (offStage_of_off (by simp [Reg.BELL_LANE_RTT_RTT]; omega))

end stagesKept

/-! ### A change of stage -/

theorem stage_key_inj {f j i : Nat}
    (h : (Reg.FERRY_LANE_STATE_STAGE f j).key = (Reg.FERRY_LANE_STATE_STAGE f i).key) : j = i := by
  unfold Fld.key at h
  dsimp only [Reg.FERRY_LANE_STATE_STAGE] at h
  simp only [Bool.false_eq_true, if_false] at h
  omega

theorem rd_stage_wr_stage (s : State) (f j i v : Nat) (hv : v < 8) :
    (s.wr (Reg.FERRY_LANE_STATE_STAGE f j) v).rd (Reg.FERRY_LANE_STATE_STAGE f i) =
      if i = j then v else s.rd (Reg.FERRY_LANE_STATE_STAGE f i) := by
  split
  · next h => subst h; exact (rd_wr_same ..).trans (Nat.mod_eq_of_lt hv)
  · next h => exact rd_wr_ne _ _ _ _ fun e => h (stage_key_inj e)

theorem stageOf_enter_same (s : State) (k v : Nat) (hv : v < 8) : (s.enter k v).stageOf k = v := by
  unfold State.enter
  exact (((stagesKept.refl (s.wr (Reg.FERRY_LANE_STATE_STAGE (k / 32) (k % 32)) v)).setLink.wr (by rfl)) k).trans
    ((rd_wr_same ..).trans (Nat.mod_eq_of_lt hv))

/-- Entering a stage changes the stage of the link alone. -/
theorem stageOf_enter (s : State) (f j i v : Nat) (hj : j < 32) (hi : i < 32) (hv : v < 8) :
    (s.enter (32 * f + j) v).stageOf (32 * f + i) = if i = j then v else s.stageOf (32 * f + i) := by
  have hkept : stagesKept (s.wr (Reg.FERRY_LANE_STATE_STAGE f j) v) (s.enter (32 * f + j) v) := by
    unfold State.enter
    simp only [linkNum_div f j hj, linkNum_mod f j hj]
    exact (stagesKept.refl _).setLink.wr (by rfl)
  rw [hkept, stageOf_linkNum _ _ _ hi, stageOf_linkNum _ _ _ hi, rd_stage_wr_stage _ _ _ _ _ hv]

theorem link_enter_same (s : State) (k v : Nat) : (s.enter k v).link k = { s.link k with since := s.ticks } :=
  link_setLink_same ..

theorem link_enter_ne (s : State) (k q v : Nat) (h : q ≠ k) : (s.enter k v).link q = s.link q := by
  exact link_setLink_ne _ _ _ _ h

/-! ### The orientation of a Ferry whose links are all in DETECT -/

/-- Every link of Ferry `f` is in DETECT. -/
def allDetect (f : Nat) (s : State) : Prop := ∀ i < 32, s.rd (Reg.FERRY_LANE_STATE_STAGE f i) = 0

theorem allDetect_of_kept {f : Nat} {s t : State} (h : allDetect f s) (hk : stagesKept s t) : allDetect f t := by
  intro i hi
  rw [← stageOf_linkNum _ _ _ hi, hk, stageOf_linkNum _ _ _ hi]
  exact h i hi

theorem allDetect_wrs {f : Nat} {s : State} {l : List (Fld × Nat)} (h : allDetect f s)
    (hl : ∀ p ∈ l, (∃ j < 32, p = (Reg.FERRY_LANE_STATE_STAGE f j, 0)) ∨ offStage p.1 = true) :
    allDetect f (l.foldl (fun a p => a.wr p.1 p.2) s) := by
  induction l generalizing s with
  | nil => exact h
  | cons p l ih =>
    refine ih ?_ fun q hq => hl q (List.mem_cons_of_mem _ hq)
    rcases hl p List.mem_cons_self with ⟨j, hj, rfl⟩ | hp
    · intro i hi
      rw [rd_stage_wr_stage _ _ _ _ _ (Nat.zero_lt_succ 7)]
      split
      · rfl
      · exact h i hi
    · exact allDetect_of_kept h ((stagesKept.refl s).wr hp)

/-- What link `i` holds, written into the fields of link `j`: its stage is DETECT, and the other fields are no stages. -/
theorem zip_linkFields {f j i : Nat} {s : State} (h : s.rd (Reg.FERRY_LANE_STATE_STAGE f i) = 0) (hj : j < 32) :
    ∀ p ∈ (linkFields f j).zip ((linkFields f i).map s.rd),
      (∃ j < 32, p = (Reg.FERRY_LANE_STATE_STAGE f j, 0)) ∨ offStage p.1 = true := by
  have row {g : Fld} {a b v : Nat} (hoff : g.off = a + b * j)
      (h : (decide (a + b * 31 < 4096) && decide (g.lo < 32) && (g.lo != 0 || decide (0x200 ≤ a))) = true) :
      (∃ j < 32, (g, v) = (Reg.FERRY_LANE_STATE_STAGE f j, 0)) ∨ offStage (g, v).1 = true :=
    .inr (offStage_of_row hj hoff h)
  simp only [linkFields, List.map_cons, List.map_nil, List.zip_cons_cons, List.zip_nil_right, List.forall_mem_cons, h]
  exact ⟨row rfl rfl, row rfl rfl, row rfl rfl, row rfl rfl, row rfl rfl, row rfl rfl, row rfl rfl, .inl ⟨j, hj, rfl⟩,
    row rfl rfl, row rfl rfl, row rfl rfl, row rfl rfl, row rfl rfl, row rfl rfl, row rfl rfl, row rfl rfl, by simp⟩

theorem allDetect_mirrorPair {f j : Nat} {s : State} (h : allDetect f s) (hj : 0 < j ∧ j < 32) :
    allDetect f (s.mirrorPair f j) := by
  unfold State.mirrorPair
  extract_lets i vals others put s1
  have h1 : allDetect f s1 :=
    allDetect_wrs (allDetect_wrs h (zip_linkFields (h i (by omega)) hj.2)) (zip_linkFields (h j hj.2) (by omega))
  exact allDetect_of_kept h1 (stagesKept.refl _).setLink.setLink

theorem allDetect_setReversed {f : Nat} {r : Bool} {s : State} (h : allDetect f s) : allDetect f (s.setReversed f r) := by
  have hfold (l : List Nat) (hl : ∀ j ∈ l, j < 15) {t : State} (ht : allDetect f t) :
      allDetect f (l.foldl (fun acc j => acc.mirrorPair f (j + 1)) t) := by
    induction l generalizing t with
    | nil => exact ht
    | cons j l ih =>
      have hj := hl j List.mem_cons_self
      exact ih (fun i hi => hl i (List.mem_cons_of_mem _ hi)) (allDetect_mirrorPair ht (by omega))
  unfold State.setReversed
  split
  · exact h
  · exact allDetect_of_kept (hfold _ (fun j => List.mem_range.1) h) ((stagesKept.refl _).wrB (by rfl))

/-- Settling a Ferry keeps the stages of its links: where it changes anything they are all DETECT (R286). -/
theorem stageOf_settle (s : State) (f i : Nat) (hi : i < 32) :
    (s.settle f).stageOf (32 * f + i) = s.stageOf (32 * f + i) := by
  unfold State.settle
  split
  · next hall =>
    have h : allDetect f s := fun i hi => by
      have := List.all_eq_true.1 hall i (List.mem_range.2 hi)
      rwa [stageOf_linkNum _ _ _ hi, beq_iff_eq] at this
    have ht : allDetect f (((s.setReversed f false).wr (Reg.FERRY_STATUS_REV_VALID f) 0).wr
        (Reg.FERRY_STATUS_CABLING f) 0) :=
      allDetect_of_kept (allDetect_setReversed h) (((stagesKept.refl _).wr (by rfl)).wr (by rfl))
    rw [stageOf_linkNum _ _ _ hi, stageOf_linkNum _ _ _ hi, h i hi, ht i hi]
  · rfl

/-- With a link of the Ferry past DETECT, settling does nothing. -/
theorem settle_of_stage (s : State) (f i : Nat) (hi : i < 32) (h : s.stageOf (32 * f + i) ≠ 0) : s.settle f = s := by
  refine if_neg fun hall => h ?_
  simpa using List.all_eq_true.1 hall i (List.mem_range.2 hi)

/-! ### The return to DETECT -/

/-- A return to DETECT is the entry of DETECT, what leaves every stage and link as it is, and the settling of the
Ferry. -/
theorem toDetect_eq_settle (s : State) (k reason : Nat) (b : BackOff) (at' : Nat) (hk : k < 256) : ∃ l u,
    s.toDetect k reason b at' = u.settle (k / 32) ∧ stagesKept ((s.setLink k l).enter k 0) u ∧
      u.links = ((s.setLink k l).enter k 0).links := by
  unfold State.toDetect
  extract_lets f j _ _ bells _ l1 s1 s2 land s3 s4
  have hj : j < 32 := Nat.mod_lt _ (by decide)
  have h1 : stagesKept ((s.setLink k l1).enter k 0) s1 := (stagesKept.refl _).forgetLane hk
  have h2 : stagesKept ((s.setLink k l1).enter k 0) s2 := by
    refine h1.wrs ?_
    simp only [List.forall_mem_cons]
    exact ⟨offStage_of_row hj rfl rfl, offStage_of_row hj rfl rfl, offStage_of_row hj rfl rfl,
      offStage_of_row hj rfl rfl, offStage_of_row hj rfl rfl, offStage_of_row hj rfl rfl, by simp⟩
  have h3 : stagesKept ((s.setLink k l1).enter k 0) s3 :=
    h2.wr (offStage_of_off (by simp [land, Reg.BELL_LAND_H3_H0]; omega))
  have hl2 : s2.links = s1.links := foldl_keeps State.links (fun a (p : Fld × Nat) => a.wr p.1 p.2) (fun _ _ => rfl) _ s1
  refine ⟨l1, s4, rfl, h3.leaveActive.ite h3, ?_⟩
  calc s4.links
    _ = s3.links := by unfold s4; split <;> rfl
    _ = s1.links := hl2

/-- A link returns to DETECT; the other links of its Ferry stay in their stages (R281). -/
theorem stageOf_toDetect (s : State) (f j i reason : Nat) (b : BackOff) (at' : Nat) (hf : f < 8) (hj : j < 32)
    (hi : i < 32) : (s.toDetect (32 * f + j) reason b at').stageOf (32 * f + i) =
      if i = j then 0 else s.stageOf (32 * f + i) := by
  obtain ⟨l, u, hu, hstage, -⟩ := toDetect_eq_settle s (32 * f + j) reason b at' (by omega)
  rw [hu, linkNum_div f j hj, stageOf_settle _ _ _ hi, hstage, stageOf_enter _ _ _ _ _ hj hi (by decide)]
  exact if_congr Iff.rfl rfl ((stagesKept.refl s).setLink _)

theorem stageOf_toDetect_same (s : State) (f j reason : Nat) (b : BackOff) (at' : Nat) (hf : f < 8) (hj : j < 32) :
    (s.toDetect (32 * f + j) reason b at').stageOf (32 * f + j) = 0 :=
  (stageOf_toDetect s f j j reason b at' hf hj hj).trans (if_pos rfl)

/-- A return to DETECT leaves another link of the Ferry alone that is past DETECT. -/
theorem link_toDetect_ne (s : State) (f j i reason : Nat) (b : BackOff) (at' : Nat) (hf : f < 8) (hj : j < 32)
    (hi : i < 32) (hne : i ≠ j) (hstage : s.stageOf (32 * f + i) ≠ 0) :
    (s.toDetect (32 * f + j) reason b at').link (32 * f + i) = s.link (32 * f + i) := by
  obtain ⟨l, u, hu, hstages, hlinks⟩ := toDetect_eq_settle s (32 * f + j) reason b at' (by omega)
  have hstay : u.stageOf (32 * f + i) ≠ 0 := by
    rw [hstages, stageOf_enter _ _ _ _ _ hj hi (by decide), if_neg hne, (stagesKept.refl s).setLink]
    exact hstage
  rw [hu, linkNum_div f j hj, settle_of_stage _ _ _ hi hstay, link_congr hlinks, link_enter_ne _ _ _ _ (by omega),
    link_setLink_ne _ _ _ _ (by omega)]

theorem stageOf_activeExit (s : State) (f j reason : Nat) (b : BackOff) (hf : f < 8) (hj : j < 32) :
    (s.activeExit (32 * f + j) reason b).stageOf (32 * f + j) = 0 := stageOf_toDetect_same _ f j reason b _ hf hj

theorem stageOf_stageFail' (s : State) (f j reason : Nat) (hf : f < 8) (hj : j < 32) :
    (s.stageFail' (32 * f + j) reason).stageOf (32 * f + j) = 0 := by
  unfold State.stageFail'
  extract_lets f' st s0 s1 s2 s3 s4
  have h4 : s4.stageOf (32 * f + j) = 0 := stageOf_toDetect_same _ f j reason _ _ hf hj
  exact (((stagesKept.refl s4).wr (by rfl)).ite (stagesKept.refl s4) _).trans h4

/-- An error of a Ferry's page that is up stays up while its links are worked on. -/
theorem errUp_of_laneWork {s t : State} {e : ErrBit} (f : Nat) (h : laneWork s t) (hup : errUp s e) (hf : f < 8)
    (hp : e.page = 0x20 + 4 * f) (hb : decide (e.bit < 32) = true) : errUp t e := by
  rw [errUp, hp] at hup ⊢
  exact h.errs f hf _ (of_decide_eq_true hb) hup

/-- A stage that fails raises LANE_BRINGUP_FAIL (R280). -/
theorem stageFail'_errUp (s : State) (k reason : Nat) (hk : k < 256) :
    errUp (s.stageFail' k reason) (Err.LANE_BRINGUP_FAIL (k / 32)) := by
  unfold State.stageFail'
  extract_lets f st s0 s1 s2 s3 s4
  have hpage : 0x20 + 4 * f < 256 := by omega
  have hup : errUp s2 (Err.LANE_BRINGUP_FAIL f) := raise_sets _ _ _ hpage (by simp [Err.LANE_BRINGUP_FAIL])
  have h3 : laneWork s2 s3 := ((laneWork.refl s2).raise hpage).ite
    (((laneWork.refl s2).raise hpage).ite (((laneWork.refl s2).raise hpage).ite (laneWork.refl s2)))
  have h4 : laneWork s2 s4 := h3.toDetect hk
  exact errUp_of_laneWork f ((h4.wr (by rfl)).ite h4) hup (by omega) rfl rfl

end Sys2Proof.Machine
end

section
/-! ## The links leave DETECT and TRAIN (R281, R282, R285 to R289, R294, R295) -/

namespace Sys2Proof.Machine

/-! ### Loss of signal (R282, R294) -/

theorem linkOfWave_lt (s : State) (f w : Nat) (hw : w < 32) : s.linkOfWave f w < 32 := by
  unfold State.linkOfWave
  split
  · exact hw
  · exact Nat.mod_lt _ (by decide)

theorem losEvaluate_asserts (f w : Nat) (carrier : Int) (s : State) (hf : f < 8) (hw : w < 32) (hlow : carrier < -270)
    (hst : s.stageOf (32 * f + s.linkOfWave f w) ≠ 4) : completes (.losEvaluate f w carrier) s fun t =>
      t.rd (Reg.FERRY_LANE_STATE_LOS f (s.linkOfWave f w)) = 1 ∧ t.link (32 * f + s.linkOfWave f w) =
        { s.link (32 * f + s.linkOfWave f w) with clear := 0, dark := (s.link (32 * f + s.linkOfWave f w)).dark + 1 } := by
  show ∃ t, execLosEvaluate f w carrier s = .next t ∧ _
  rw [execLosEvaluate, if_neg (by omega)]
  extract_lets j k l los l1 s1
  have hlos : los = true := if_pos hlow
  have hl1 : l1 = { l with clear := 0, dark := l.dark + 1 } := if_pos hlos
  rw [if_neg fun h => hst h.1]
  exact ⟨s1, rfl, by rw [rd_wrB_same _ _ _ rfl, hlos]; rfl, (link_setLink_same ..).trans hl1⟩

theorem losEvaluate_clears (f w : Nat) (carrier : Int) (s : State) (hf : f < 8) (hw : w < 32) (hhigh : -250 < carrier) :
    completes (.losEvaluate f w carrier) s fun t =>
      t.rd (Reg.FERRY_LANE_STATE_LOS f (s.linkOfWave f w)) = 0 ∧ t.link (32 * f + s.linkOfWave f w) =
        { s.link (32 * f + s.linkOfWave f w) with dark := 0, clear := (s.link (32 * f + s.linkOfWave f w)).clear + 1 } := by
  show ∃ t, execLosEvaluate f w carrier s = .next t ∧ _
  rw [execLosEvaluate, if_neg (by omega)]
  extract_lets j k l los l1 s1
  have hlos : los = false := (if_neg (by omega)).trans (if_pos hhigh)
  have hl1 : l1 = { l with clear := l.clear + 1, dark := 0 } := if_neg (by simp [hlos])
  rw [if_neg fun h => by simp [hl1] at h]
  exact ⟨s1, rfl, by rw [rd_wrB_same _ _ _ rfl, hlos]; rfl, (link_setLink_same ..).trans hl1⟩

theorem losEvaluate_secondDark (f w : Nat) (carrier : Int) (s : State) (hf : f < 8) (hw : w < 32)
    (hlow : carrier < -270) (hst : s.stageOf (32 * f + s.linkOfWave f w) = 4)
    (hdark : 1 ≤ (s.link (32 * f + s.linkOfWave f w)).dark) : completes (.losEvaluate f w carrier) s fun t =>
      t.stageOf (32 * f + s.linkOfWave f w) = 0 := by
  show ∃ t, execLosEvaluate f w carrier s = .next t ∧ _
  rw [execLosEvaluate, if_neg (by omega)]
  extract_lets j k l los l1 s1
  have hlos : los = true := if_pos hlow
  have hl1 : l1 = { l with clear := 0, dark := l.dark + 1 } := if_pos hlos
  rw [if_pos ⟨hst, by rw [hl1]; exact Nat.succ_le_succ hdark⟩]
  exact ⟨_, rfl, stageOf_activeExit _ _ _ _ _ hf (linkOfWave_lt s f w hw)⟩

/-! ### The end of DETECT (R282, R288, R289) -/

theorem enter_kept (s : State) (k v : Nat) :
    regsKept s (s.enter k v) [Reg.FERRY_LANE_STATE_STAGE (k / 32) (k % 32), Reg.FERRY_ACTIVE_LINKS (k / 32)] :=
  regsKept_wr _ _ (regsKept_upd (regsKept_wr _ _ (regsKept_refl _ _) (by simp)) rfl) (by simp)

/-- A field of a link's row of words is not what the entry of a stage changes. -/
theorem rd_enter_of_off (s : State) (k v : Nat) (g : Fld) (hg : (0x104 < g.off ∧ g.off < 4096) ∧ 0 < g.lo ∧ g.lo < 32 ∨
    0x200 ≤ g.off ∧ g.off < 4096 ∧ g.lo < 32) : (s.enter k v).rd g = s.rd g := by
  refine enter_kept s k v g ?_
  simp only [List.forall_mem_cons]
  have hj : k % 32 < 32 := Nat.mod_lt _ (by decide)
  refine ⟨key_ne_of_place (by omega) ?_ ?_, key_ne_of_place (by omega) ?_ (.inl ?_), by simp⟩ <;>
    simp only [Reg.FERRY_LANE_STATE_STAGE, Reg.FERRY_ACTIVE_LINKS] <;> omega

/-- A count of a Ferry's page counts modulo 2^64, with its carry shown elsewhere. -/
theorem rd_bump_ferry (s : State) (c : Ctr) (n : Nat) (hc : decide (c.n < 400) = true) :
    (s.bump c n).rd c.fld = (s.rd c.fld + n) % 2 ^ 64 := by
  have hn : c.n < 400 := of_decide_eq_true hc
  refine rd_bump_same s c n (key_ne_of_place ?_ ⟨by simp [Hdr.CNT_OVF], by simp [Hdr.CNT_OVF]⟩ (.inl ?_)) <;>
    simp only [Ctr.fld, Hdr.CNT_OVF] <;> omega

theorem laneDetectExit_completes (f j : Nat) (s : State) (hf : f < 8) (hj : j < 32) (hst : s.stageOf (32 * f + j) = 0)
    (hstarted : bit s.boot.lanesStarted f = true) (hclear : 16 ≤ (s.link (32 * f + j)).clear)
    (hback : (s.link (32 * f + j)).backoffTo = none) (hdrop : s.loopSt f (s.rxWave f j) 2 = 3)
    (hpol : s.loopSt f (s.rxWave f j) 3 = 3) : completes (.laneDetectExit f j) s fun t => t.stageOf (32 * f + j) = 1 ∧
      t.rd (Ctr.CNT_BRINGUP_ATTEMPTS f).fld = (s.rd (Ctr.CNT_BRINGUP_ATTEMPTS f).fld + 1) % 2 ^ 64 ∧
      (if bit (s.rd (Reg.FERRY_EQ_FREEZE_LINKS f)) j = true then t.rd (Reg.FERRY_LANE_STATE_EQ_CONVERGED f j) = 1
       else (t.link (32 * f + j)).eq = Equaliser.blank ∧ t.rd (Reg.FERRY_EQ_TAPS0_I1_I4 f j) = 0) := by
  show ∃ t, execLaneDetectExit f j s = .next t ∧ _
  rw [execLaneDetectExit, if_neg (by omega)]
  extract_lets k l w frozen s1 s2
  rw [if_pos ⟨hst, hstarted, hclear, hback, hdrop, hpol⟩]
  have h1 : laneWork (s.bump (Ctr.CNT_BRINGUP_ATTEMPTS f) 1) s1 := (laneWork.refl _).addSat (spare_of_row hj rfl rfl)
  have h2 : laneWork (s.bump (Ctr.CNT_BRINGUP_ATTEMPTS f) 1) s2 :=
    (h1.wr (spare_of_row hj rfl rfl)).ite ((((h1.setLink.wr (spare_of_row hj rfl rfl)).wr (spare_of_row hj rfl rfl)).wr
      (spare_of_row hj rfl rfl)).wr (spare_of_row hj rfl rfl))
  refine ⟨_, rfl, ?_, ?_, ?_⟩
  · exact (stageOf_enter _ _ _ _ _ hj hj (by decide)).trans (if_pos rfl)
  · exact (h2.enter.counts f hf _ (by simp [countedFields])).trans (rd_bump_ferry s _ 1 rfl)
  · split
    · next hfrozen =>
      have hs2 : s2 = s1.wr (Reg.FERRY_LANE_STATE_EQ_CONVERGED f j) 1 := if_pos hfrozen
      rw [rd_enter_of_off _ _ _ _ (.inl (by simp only [Reg.FERRY_LANE_STATE_EQ_CONVERGED]; omega)), hs2, rd_wr_same]
      rfl
    · next hfrozen =>
      have hs2 : s2 = ((((s1.setLink k { l with eq := Equaliser.blank }).wr (Reg.FERRY_EQ_TAPS0_I1_I4 f j) 0).wr
          (Reg.FERRY_EQ_TAPS1_Q1_Q4 f j) 0).wr (Reg.FERRY_EQ_TAPS2_I5 f j) 0).wr (Reg.FERRY_EQ_TAPS2_Q5 f j) 0 :=
        if_neg hfrozen
      have hlink : s2.link k = { l with eq := Equaliser.blank } := by rw [hs2]; exact link_setLink_same ..
      constructor
      · rw [link_enter_same, hlink]
      · have hplace : (Reg.FERRY_EQ_TAPS0_I1_I4 f j).off < 4096 ∧ (Reg.FERRY_EQ_TAPS0_I1_I4 f j).lo < 32 := by
          simp only [Reg.FERRY_EQ_TAPS0_I1_I4]; omega
        have hkeys : ∀ g ∈ [Reg.FERRY_EQ_TAPS1_Q1_Q4 f j, Reg.FERRY_EQ_TAPS2_I5 f j, Reg.FERRY_EQ_TAPS2_Q5 f j],
            (Reg.FERRY_EQ_TAPS0_I1_I4 f j).key ≠ g.key := by
          simp only [List.forall_mem_cons]
          refine ⟨key_ne_of_place hplace ?_ ?_, key_ne_of_place hplace ?_ ?_, key_ne_of_place hplace ?_ ?_, by simp⟩ <;>
            simp only [Reg.FERRY_EQ_TAPS0_I1_I4, Reg.FERRY_EQ_TAPS1_Q1_Q4, Reg.FERRY_EQ_TAPS2_I5,
              Reg.FERRY_EQ_TAPS2_Q5] <;> omega
        rw [rd_enter_of_off _ _ _ _ (.inr (by simp only [Reg.FERRY_EQ_TAPS0_I1_I4]; omega)), hs2,
          rd_wr_ne _ _ _ _ (hkeys _ (by simp)), rd_wr_ne _ _ _ _ (hkeys _ (by simp)), rd_wr_ne _ _ _ _ (hkeys _ (by simp)),
          rd_wr_same]
        rfl

/-! ### Training frames (R285 to R287, R290, R295) -/

theorem trainingFrameReceive_inDetect (f j : Nat) (frame : TrainFrame) (s : State) (hst : s.stageOf (32 * f + j) = 0) :
    exec (.trainingFrameReceive f j frame) s = .next s := by
  show execTrainingFrameReceive f j frame s = _
  unfold execTrainingFrameReceive
  split
  · rfl
  · exact if_pos hst

theorem laneWork.takeClass {s t : State} {f : Nat} {c : Option Orientation} (h : laneWork s t) :
    laneWork s (t.takeClass f c).2 := by
  unfold State.takeClass
  split
  · exact h
  · exact h
  · dsimp only
    split
    · exact h.orient
    · split
      · exact h
      · exact h

/-- All that a training frame does to a link in TRAIN, its count apart, is work on links. -/
theorem trainRx_laneWork (s : State) (k : Nat) (t : TrainFrame) (hk : k < 256) :
    laneWork (s.bump (Ctr.CNT_TRAINING_FRAMES_RX (k / 32)) 1) (s.trainRx k t) := by
  have hj : k % 32 < 32 := Nat.mod_lt _ (by decide)
  unfold State.trainRx
  extract_lets f j s0 l conv runs corr fits b valid who l1 s1 s2 s3
  clear_value corr
  have h1 : laneWork (s.bump (Ctr.CNT_TRAINING_FRAMES_RX f) 1) s1 := (laneWork.refl _).line.setLink
  have h2 : laneWork (s.bump (Ctr.CNT_TRAINING_FRAMES_RX f) 1) s2 := by
    unfold s2
    split
    · exact h1
    · exact (h1.wr (spare_of_row hj rfl rfl)).wr (spare_of_row hj rfl rfl)
  have h3 : laneWork (s.bump (Ctr.CNT_TRAINING_FRAMES_RX f) 1) s3 := (h2.wr (spare_of_row hj rfl rfl)).ite h2
  have h4 := h3.takeClass (f := f) (c := s3.classify f b)
  split
  · exact h3.stageFail' hk
  · split
    · exact h3
    · split
      · next heq => rwa [heq] at h4
      · next heq => rw [heq] at h4; exact h4.stageFail' hk

theorem trainingFrameReceive_counts (f j : Nat) (frame : TrainFrame) (s : State) (hf : f < 8) (hj : j < 32)
    (hst : s.stageOf (32 * f + j) = 1) : completes (.trainingFrameReceive f j frame) s fun t =>
      t.rd (Ctr.CNT_TRAINING_FRAMES_RX f).fld = (s.rd (Ctr.CNT_TRAINING_FRAMES_RX f).fld + 1) % 2 ^ 64 := by
  have hwork := trainRx_laneWork s (32 * f + j) frame (by omega)
  rw [linkNum_div f j hj] at hwork
  show ∃ t, execTrainingFrameReceive f j frame s = .next t ∧ _
  rw [execTrainingFrameReceive, if_neg (by omega)]
  extract_lets k l st
  rw [if_neg (by simp [st, k, hst]), if_pos hst]
  exact ⟨_, rfl, (hwork.counts f hf _ (by simp [countedFields])).trans (rd_bump_ferry s _ 1 rfl)⟩

theorem trainingFrameReceive_restarts (f j : Nat) (frame : TrainFrame) (c : Nat) (s : State) (hf : f < 8) (hj : j < 32)
    (hst : 3 ≤ s.stageOf (32 * f + j)) (hcorr : (s.link (32 * f + j)).corr = some c)
    (hfits : preambleFits c frame = true) : completes (.trainingFrameReceive f j frame) s fun t =>
      t.stageOf (32 * f + j) = 0 := by
  show ∃ t, execTrainingFrameReceive f j frame s = .next t ∧ _
  rw [execTrainingFrameReceive, if_neg (by omega)]
  simp only [hcorr, hfits]
  rw [if_neg (by omega), if_neg (by omega), if_neg (by simp), if_neg (by omega)]
  exact ⟨_, rfl, stageOf_activeExit _ _ _ _ _ hf hj⟩

/-! ### The equaliser's freeze (R289) -/

/-- Links that are made converged one by one are converged in the end. -/
theorem foldl_converged (f : Nat) (p : Nat → Bool) (l : List Nat) (s : State) (j : Nat)
    (h : j ∈ l ∧ p j = true ∨ s.rd (Reg.FERRY_LANE_STATE_EQ_CONVERGED f j) = 1) :
    (l.foldl (fun acc i => if p i = true then acc.wr (Reg.FERRY_LANE_STATE_EQ_CONVERGED f i) 1 else acc) s).rd
      (Reg.FERRY_LANE_STATE_EQ_CONVERGED f j) = 1 := by
  induction l generalizing s with
  | nil => exact h.resolve_left fun h => List.not_mem_nil h.1
  | cons i l ih =>
    refine ih _ ?_
    dsimp only
    by_cases hi : i = j
    · subst hi
      split
      · exact .inr (rd_wr_same ..)
      · next hp => exact .inr (h.resolve_left fun h => hp h.2)
    · refine h.imp (fun h => ⟨(List.mem_cons.1 h.1).resolve_left (Ne.symm hi), h.2⟩) fun h => ?_
      split
      · have hkey : (Reg.FERRY_LANE_STATE_EQ_CONVERGED f j).key ≠ (Reg.FERRY_LANE_STATE_EQ_CONVERGED f i).key := by
          simp only [Fld.key, Reg.FERRY_LANE_STATE_EQ_CONVERGED, Bool.false_eq_true, if_false]
          omega
        exact (rd_wr_ne _ _ _ _ hkey).trans h
      · exact h

theorem eqFreezeWrite_completes (f : Nat) (val : Word) (s : State) (hf : f < 8) : completes (.eqFreezeWrite f val) s fun t =>
    t.rd (Reg.FERRY_EQ_FREEZE_LINKS f) = val.toNat ∧ ∀ j < 32, bit val.toNat j = true →
      bit (s.rd (Reg.FERRY_EQ_FREEZE_LINKS f)) j = false → s.stageOf (32 * f + j) = 1 →
      t.rd (Reg.FERRY_LANE_STATE_EQ_CONVERGED f j) = 1 := by
  refine ⟨s.writeFreeze f val.toNat, if_pos hf, ?_, fun j hj hbit hold hst => ?_⟩
  · unfold State.writeFreeze
    rw [foldl_keeps (fun u : State => u.rd (Reg.FERRY_EQ_FREEZE_LINKS f)), rd_wr_same]
    · exact Nat.mod_eq_of_lt val.isLt
    · intro u j
      split
      · refine rd_wr_ne _ _ _ _ ?_
        simp only [Fld.key, Reg.FERRY_EQ_FREEZE_LINKS, Reg.FERRY_LANE_STATE_EQ_CONVERGED, Bool.false_eq_true, if_false,
          if_true]
        omega
      · rfl
  · exact foldl_converged f _ _ _ j (.inl ⟨List.mem_range.2 hj, by simp [hbit, hold, hst]⟩)

/-! ### The end of TRAIN (R286, R287) -/

theorem laneTrainDone_completes (f j : Nat) (s : State) (hf : f < 8) (hj : j < 32) (hst : s.stageOf (32 * f + j) = 1)
    (hown : s.ownTrained (32 * f + j) = true) (hor : s.oriented (32 * f + j) = true)
    (hfar : (s.link (32 * f + j)).farDone = true) : completes (.laneTrainDone f j) s fun t =>
      t.stageOf (32 * f + j) = 2 ∧ (t.link (32 * f + j)).good = 0 ∧ (t.link (32 * f + j)).trained = s.ticks := by
  show ∃ t, execLaneTrainDone f j s = .next t ∧ _
  rw [execLaneTrainDone, if_neg (by simp [hst, hown, hf, hj])]
  extract_lets s1 s2 l
  have hs1 : s1 = s := if_pos hor
  rw [if_pos (by rw [hs1]; exact hfar)]
  refine ⟨_, rfl, ?_, ?_, ?_⟩
  · exact ((stagesKept.refl _).setLink _).trans ((stageOf_enter s1 f j j 2 hj hj (by decide)).trans (if_pos rfl))
  · rw [link_setLink_same]
  · rw [link_setLink_same]

/-- Settles O34: one lemma for each clause; every return to DETECT goes through `stageOf_toDetect`, and the counts
through `laneWork`. -/
theorem linksLeaveDetectAndTrain : Obligations.LinksLeaveDetectAndTrain :=
  ⟨losEvaluate_asserts, losEvaluate_clears, losEvaluate_secondDark, laneDetectExit_completes,
    trainingFrameReceive_inDetect, trainingFrameReceive_counts, trainingFrameReceive_restarts, eqFreezeWrite_completes,
    laneTrainDone_completes⟩

end Sys2Proof.Machine
end

section
/-! ## The links leave LOCK and EXCHANGE, time out, and are reset (R280, R281, R290 to R292, R296) -/

namespace Sys2Proof.Machine

/-! ### The end of LOCK (R290) -/

theorem laneLockDone_completes (f j : Nat) (s : State) (hf : f < 8) (hj : j < 32) (hst : s.stageOf (32 * f + j) = 2)
    (hgood : 4 ≤ (s.link (32 * f + j)).good) : completes (.laneLockDone f j) s fun t => t.stageOf (32 * f + j) = 3 ∧
      t.bell.firstExchange = some (s.bell.firstExchange.getD s.ticks) := by
  have hstage := (stageOf_enter s f j j 3 hj hj (by decide)).trans (if_pos rfl)
  show ∃ t, execLaneLockDone f j s = .next t ∧ _
  rw [execLaneLockDone, if_pos ⟨hf, hj, hst, hgood⟩]
  cases hfirst : s.bell.firstExchange with
  | none => exact ⟨_, rfl, hstage, rfl⟩
  | some n => exact ⟨_, rfl, hstage, hfirst⟩

/-! ### The end of EXCHANGE (R292) -/

theorem laneWork.reserveCells {s t : State} {k : Nat} (h : laneWork s t) : laneWork s (t.reserveCells k) := by
  unfold State.reserveCells
  split
  · exact h
  · extract_lets want left n _ s1
    have h1 : laneWork s s1 := h.setCredit.bump (by rfl)
    exact (h1.raise (by decide)).ite h1

/-- The fields that reserving Weir cells may change. -/
def cellFields : List Fld :=
  Ctr.WEIR_CREDITS_GRANTED.fld :: Hdr.CNT_OVF Ctr.WEIR_CREDITS_GRANTED.page :: raiseFields Err.WEIR_POOL_SHORT.page

theorem reserveCells_kept (s : State) (k : Nat) : regsKept s (s.reserveCells k) cellFields := by
  unfold State.reserveCells
  split
  · exact regsKept_refl _ _
  · extract_lets want left n _ s1
    have h1 : regsKept s s1 cellFields :=
      regsKept_bump _ _ (regsKept_of_regs _ rfl) List.mem_cons_self (List.mem_cons_of_mem _ List.mem_cons_self)
    refine regsKept_ite (regsKept_trans h1 (regsKept_mono (regsKept_raise _ _ (regsKept_refl _ _)) fun g hg => ?_)) h1
    exact List.mem_cons_of_mem _ (List.mem_cons_of_mem _ hg)

theorem reserveCells_links (s : State) (k : Nat) : (s.reserveCells k).links = s.links := by
  unfold State.reserveCells
  split
  · rfl
  · dsimp only
    split
    · rw [raise_links, bump_links]; rfl
    · rw [bump_links]; rfl

theorem bit_setBit_mod (v j w : Nat) (hj : j < w) : bit (setBit v j % 2 ^ w) j = true :=
  (bit_mod _ _ _ hj).trans (bit_setBit_same v j)

/-- Reserving Weir cells changes no field of a Ferry's pages. -/
theorem rd_reserveCells (s : State) (k : Nat) (g : Fld) (hg : g.ok) (hp : 0x20 ≤ g.page ∧ g.page < 0x40) :
    (s.reserveCells k).rd g = s.rd g := by
  have hcell : ∀ g ∈ cellFields, g.ok ∧ (g.page < 0x20 ∨ 0x40 ≤ g.page) := by decide
  refine reserveCells_kept s k g fun x hx => key_ne hg (hcell x hx).1 (.inr (.inl ?_))
  have := (hcell x hx).2
  omega

/-- Of a list of writes in which one field is written once, that field reads what the list gives it. -/
theorem rd_wrs_mem (l : List (Fld × Nat)) (s : State) (g : Fld) (v : Nat)
    (hv : v < 2 ^ g.width) (hl : ∀ p ∈ l, p = (g, v) ∨ g.key ≠ p.1.key) (h : (g, v) ∈ l ∨ s.rd g = v) :
    (l.foldl (fun a p => a.wr p.1 p.2) s).rd g = v := by
  induction l generalizing s with
  | nil => exact h.resolve_left List.not_mem_nil
  | cons p l ih =>
    refine ih (s.wr p.1 p.2) (fun q hq => hl q (List.mem_cons_of_mem _ hq)) ?_
    rcases hl p List.mem_cons_self with rfl | hne
    · exact .inr ((rd_wr_same ..).trans (Nat.mod_eq_of_lt hv))
    · refine h.imp (fun h => (List.mem_cons.1 h).resolve_left ?_) fun h => (rd_wr_ne _ _ _ _ hne).trans h
      rintro rfl
      exact hne rfl

/-- A link that enters ACTIVE is shown in FERRY_ACTIVE (R297). -/
theorem active_enter (s : State) (k : Nat) :
    bit ((s.enter k 4).rd (Reg.FERRY_ACTIVE_LINKS (k / 32))) (k % 32) = true := by
  unfold State.enter
  rw [rd_wr_same]
  exact bit_setBit_mod _ _ 32 (Nat.mod_lt _ (by decide))

theorem rd_setLink (s : State) (k : Nat) (l : Link) (g : Fld) : (s.setLink k l).rd g = s.rd g := rfl

/-- The fields of a far end that EXCHANGE fills beside FAR0.VALID and the back-off (R298). -/
def farFields (f j : Nat) : List Fld :=
  [Reg.FERRY_FAR0_PORT f j, Reg.FERRY_FAR0_FERRY f j, Reg.FERRY_FAR0_NODE f j, Reg.FERRY_FAR2_STEPPING f j,
   Reg.FERRY_FAR2_LAND f j, Reg.FERRY_FAR2_SKEW f j, Reg.FERRY_FAR3_CAP f j, Reg.FERRY_REPLAY_RT f j,
   Reg.FERRY_REPLAY_FAIL_CAUSE f j]

theorem farFields_keys (f j : Nat) : (∀ g ∈ farFields f j, (Reg.FERRY_FAR0_VALID f j).key ≠ g.key ∧
    (Reg.FERRY_LANE_BACKOFF_BELLS f j).key ≠ g.key) ∧
      (Reg.FERRY_FAR0_VALID f j).key ≠ (Reg.FERRY_LANE_BACKOFF_BELLS f j).key := by
  simp only [farFields, List.forall_mem_cons, List.not_mem_nil, false_imp_iff, implies_true, and_true, Fld.key,
    Reg.FERRY_FAR0_VALID, Reg.FERRY_FAR0_PORT, Reg.FERRY_FAR0_FERRY, Reg.FERRY_FAR0_NODE, Reg.FERRY_FAR2_STEPPING,
    Reg.FERRY_FAR2_LAND, Reg.FERRY_FAR2_SKEW, Reg.FERRY_FAR3_CAP, Reg.FERRY_LANE_BACKOFF_BELLS, Reg.FERRY_REPLAY_RT,
    Reg.FERRY_REPLAY_FAIL_CAUSE, Bool.false_eq_true, if_false]
  omega

/-- What the messages of EXCHANGE show of the far end is written where the link becomes ACTIVE (R298). -/
theorem becomeActive_laneWork (s : State) (k : Nat) (hk : k < 256) : ∃ u, s.becomeActive k =
    (u.bump (Ctr.CNT_BRINGUPS_COMPLETED (k / 32)) 1).reserveCells k ∧ laneWork s u ∧ u.stageOf k = 4 ∧
      bit (u.rd (Reg.FERRY_ACTIVE_LINKS (k / 32))) (k % 32) = true ∧ u.rd (Reg.FERRY_FAR0_VALID (k / 32) (k % 32)) = 1 ∧
      u.rd (Reg.FERRY_LANE_BACKOFF_BELLS (k / 32) (k % 32)) = 1 ∧ (u.link k).fails = 0 := by
  have hj : k % 32 < 32 := Nat.mod_lt _ (by decide)
  unfold State.becomeActive
  extract_lets f j l m s1 land s2 s3 h s4
  have h1 : laneWork s s1 := (laneWork.refl s).wr (spare_of_off (by simp [Reg.BELL_LAND_H3_H0]; omega))
  have h2 : laneWork s s2 := by
    refine h1.wrs ?_
    simp only [List.forall_mem_cons]
    have row {g : Fld} {a b : Nat} := @spare_of_row g a b j hj
    exact ⟨row rfl rfl, row rfl rfl, row rfl rfl, row rfl rfl, row rfl rfl, row rfl rfl, row rfl rfl, row rfl rfl,
      row rfl rfl, row rfl rfl, row rfl rfl, by simp⟩
  have h3 : laneWork s s3 := h2.setLink.enter
  have hstage : s3.stageOf k = 4 := stageOf_enter_same _ k 4 (by decide)
  have hactive : bit (s3.rd (Reg.FERRY_ACTIVE_LINKS f)) j = true := active_enter _ k
  obtain ⟨hother, hpair⟩ := farFields_keys f j
  have hvalid : s3.rd (Reg.FERRY_FAR0_VALID f j) = 1 := by
    have h2 : s2.rd (Reg.FERRY_FAR0_VALID f j) = 1 := by
      refine rd_wrs_mem _ s1 _ 1 (Nat.one_lt_two_pow (by simp [Reg.FERRY_FAR0_VALID])) ?_ (.inl (by simp))
      have hne (g : Fld) (v : Nat) (hg : g ∈ farFields f j) : (g, v) = (Reg.FERRY_FAR0_VALID f j, 1) ∨
          (Reg.FERRY_FAR0_VALID f j).key ≠ (g, v).1.key := .inr (hother g hg).1
      simp only [List.forall_mem_cons]
      refine ⟨.inl trivial, hne _ _ ?_, hne _ _ ?_, hne _ _ ?_, hne _ _ ?_, hne _ _ ?_, hne _ _ ?_, hne _ _ ?_, .inr hpair,
        hne _ _ ?_, hne _ _ ?_, by simp⟩ <;> simp [farFields]
    exact (rd_enter_of_off (s2.setLink k _) k 4 _ (.inr (by simp only [Reg.FERRY_FAR0_VALID]; omega))).trans
      ((rd_setLink s2 k _ _).trans h2)
  have hbells : s3.rd (Reg.FERRY_LANE_BACKOFF_BELLS f j) = 1 := by
    have h2 : s2.rd (Reg.FERRY_LANE_BACKOFF_BELLS f j) = 1 := by
      refine rd_wrs_mem _ s1 _ 1 (Nat.one_lt_two_pow (by simp [Reg.FERRY_LANE_BACKOFF_BELLS])) ?_ (.inl (by simp))
      have hne (g : Fld) (v : Nat) (hg : g ∈ farFields f j) : (g, v) = (Reg.FERRY_LANE_BACKOFF_BELLS f j, 1) ∨
          (Reg.FERRY_LANE_BACKOFF_BELLS f j).key ≠ (g, v).1.key := .inr (hother g hg).2
      simp only [List.forall_mem_cons]
      refine ⟨.inr hpair.symm, hne _ _ ?_, hne _ _ ?_, hne _ _ ?_, hne _ _ ?_, hne _ _ ?_, hne _ _ ?_, hne _ _ ?_,
        .inl trivial, hne _ _ ?_, hne _ _ ?_, by simp⟩ <;> simp [farFields]
    exact (rd_enter_of_off (s2.setLink k _) k 4 _ (.inr (by simp only [Reg.FERRY_LANE_BACKOFF_BELLS]; omega))).trans
      ((rd_setLink s2 k _ _).trans h2)
  have hlink : (s3.link k).fails = 0 :=
    (congrArg Link.fails (link_enter_same _ k 4)).trans (congrArg Link.fails (link_setLink_same s2 k _))
  clear_value s3
  have hregs : s4.regs = s3.regs := rfl
  have hlinks : s4.links = s3.links := rfl
  refine ⟨s4, rfl, h3.setHop, (rd_congr hregs _).trans hstage, ?_, (rd_congr hregs _).trans hvalid,
    (rd_congr hregs _).trans hbells, (congrArg Link.fails (link_congr hlinks k)).trans hlink⟩
  rwa [rd_congr hregs]

theorem laneExchangeDone_fits (f j : Nat) (s : State) (hf : f < 8) (hj : j < 32) (hst : s.stageOf (32 * f + j) = 3)
    (hfit : s.exchangeVerdict (32 * f + j) = none) : completes (.laneExchangeDone f j) s fun t =>
      t.stageOf (32 * f + j) = 4 ∧ bit (t.rd (Reg.FERRY_ACTIVE_LINKS f)) j = true ∧
      t.rd (Reg.FERRY_FAR0_VALID f j) = 1 ∧ t.rd (Reg.FERRY_LANE_BACKOFF_BELLS f j) = 1 ∧
      (t.link (32 * f + j)).fails = 0 ∧
      t.rd (Ctr.CNT_BRINGUPS_COMPLETED f).fld = (s.rd (Ctr.CNT_BRINGUPS_COMPLETED f).fld + 1) % 2 ^ 64 := by
  obtain ⟨u, hu, hwork, hstage, hactive, hvalid, hbells, hfails⟩ := becomeActive_laneWork s (32 * f + j) (by omega)
  simp only [linkNum_div f j hj, linkNum_mod f j hj] at hu hactive hvalid hbells
  have hcount : (u.bump (Ctr.CNT_BRINGUPS_COMPLETED f) 1).rd (Ctr.CNT_BRINGUPS_COMPLETED f).fld =
      (s.rd (Ctr.CNT_BRINGUPS_COMPLETED f).fld + 1) % 2 ^ 64 := by
    rw [rd_bump_ferry u (Ctr.CNT_BRINGUPS_COMPLETED f) 1 rfl, hwork.counts f hf _ (by simp [countedFields])]
  have hkept (g : Fld) (hg : g.ok ∧ (0x20 ≤ g.page ∧ g.page < 0x40) ∧ 0x100 ≤ g.off ∧ g.off < 0xFF0) :
      (s.becomeActive (32 * f + j)).rd g = u.rd g := by
    obtain ⟨hg, hp, ho⟩ := hg
    rw [hu, rd_reserveCells _ _ g hg hp]
    refine rd_bump_ne _ _ _ _ (key_ne_of_place hg.2 ?_ (.inl ?_)) (key_ne_of_place hg.2 ?_ (.inl ?_)) <;>
      simp only [Ctr.fld, Ctr.CNT_BRINGUPS_COMPLETED, Hdr.CNT_OVF] <;> omega
  show ∃ t, execLaneExchangeDone f j s = .next t ∧ _
  simp only [execLaneExchangeDone, hfit]
  rw [if_neg (by omega)]
  refine ⟨_, rfl, ?_, ?_, ?_, ?_, ?_, ?_⟩
  · rw [stageOf_linkNum _ _ _ hj] at hstage ⊢
    exact (hkept _ (by simp only [Fld.ok, Reg.FERRY_LANE_STATE_STAGE]; omega)).trans hstage
  · exact (congrArg (bit · j) (hkept _ (by simp only [Fld.ok, Reg.FERRY_ACTIVE_LINKS]; omega))).trans hactive
  · exact (hkept _ (by simp only [Fld.ok, Reg.FERRY_FAR0_VALID]; omega)).trans hvalid
  · exact (hkept _ (by simp only [Fld.ok, Reg.FERRY_LANE_BACKOFF_BELLS]; omega)).trans hbells
  · rw [hu, link_congr (reserveCells_links ..), link_congr (bump_links ..)]
    exact hfails
  · rw [hu, (laneWork.refl _).reserveCells.counts f hf _ (by simp [countedFields])]
    exact hcount

theorem laneExchangeDone_fails (f j r : Nat) (s : State) (hf : f < 8) (hj : j < 32) (hst : s.stageOf (32 * f + j) = 3)
    (hverdict : s.exchangeVerdict (32 * f + j) = some r) (hr : r ≠ 0) : completes (.laneExchangeDone f j) s fun t =>
      t.stageOf (32 * f + j) = 0 ∧ errUp t (Err.LANE_BRINGUP_FAIL f) := by
  have hup := stageFail'_errUp s (32 * f + j) r (by omega)
  rw [linkNum_div f j hj] at hup
  obtain ⟨n, rfl⟩ := Nat.exists_eq_succ_of_ne_zero hr
  show ∃ t, execLaneExchangeDone f j s = .next t ∧ _
  simp only [execLaneExchangeDone, hverdict]
  rw [if_neg (by omega)]
  exact ⟨_, rfl, stageOf_stageFail' s f j _ hf hj, hup⟩

/-! ### Time-outs (R280) -/

theorem laneStageTimeout_completes (f j : Nat) (s : State) (hf : f < 8) (hj : j < 32)
    (hlate : (s.stageOf (32 * f + j) = 1 ∧ (s.link (32 * f + j)).since + 8192 ≤ s.ticks) ∨
      (s.stageOf (32 * f + j) = 2 ∧ (s.link (32 * f + j)).since + 64 ≤ s.ticks) ∨
      (s.stageOf (32 * f + j) = 3 ∧ (s.link (32 * f + j)).since + 8192 ≤ s.ticks)) :
    completes (.laneStageTimeout f j) s fun t =>
      t.stageOf (32 * f + j) = 0 ∧ errUp t (Err.LANE_BRINGUP_FAIL f) := by
  have hfail (r : Nat) : ∃ t, ok (s.stageFail' (32 * f + j) r) = .next t ∧ t.stageOf (32 * f + j) = 0 ∧
      errUp t (Err.LANE_BRINGUP_FAIL f) := by
    have hup := stageFail'_errUp s (32 * f + j) r (by omega)
    rw [linkNum_div f j hj] at hup
    exact ⟨_, rfl, stageOf_stageFail' s f j r hf hj, hup⟩
  show ∃ t, execLaneStageTimeout f j s = .next t ∧ _
  unfold execLaneStageTimeout
  dsimp only
  rw [if_neg (by omega)]
  rcases hlate with ⟨hst, ht⟩ | ⟨hst, ht⟩ | ⟨hst, ht⟩
  · simp only [hst]
    split
    · exact hfail _
    · rw [if_pos (by omega)]
      exact hfail _
  · simp only [hst]
    rw [if_pos (by omega)]
    exact hfail _
  · simp only [hst]
    rw [if_pos (by omega)]
    exact hfail _

/-! ### The end of a back-off (R281) -/

theorem laneBackoffExpiry_completes (f j last : Nat) (s : State) (hf : f < 8) (hj : j < 32)
    (hback : (s.link (32 * f + j)).backoffTo = some last) (hlast : last ≤ s.ticks) :
    completes (.laneBackoffExpiry f j) s fun t => t.rd (Reg.FERRY_LANE_STATE_BACKOFF f j) = 0 ∧
      t.link (32 * f + j) = { s.link (32 * f + j) with backoffTo := none } ∧
      regsKept s t [Reg.FERRY_LANE_STATE_BACKOFF f j] := by
  show ∃ t, execLaneBackoffExpiry f j s = .next t ∧ _
  simp only [execLaneBackoffExpiry, hback]
  rw [if_pos ⟨hf, hj, hlast⟩]
  exact ⟨_, rfl, (rd_wr_same ..).trans (Nat.zero_mod _), link_setLink_same ..,
    regsKept_wr _ _ (regsKept_of_regs _ rfl) (List.mem_singleton.2 rfl)⟩

/-! ### FERRY_LANE_RESET (R296) -/

/-- A link that begins to send RETRAIN, where it does not send it already. -/
def Link.retrained (l : Link) : Link := if l.retrain = 0 then { l with retrain := 8 } else l

theorem retrained_idem (l : Link) : l.retrained.retrained = l.retrained := by
  unfold Link.retrained
  by_cases h : l.retrain = 0 <;> simp [h]

/-- A reset of any link keeps the stage of a link past TRAIN, and begins RETRAIN where it is that link. -/
theorem laneReset_of_late (s : State) (f j i : Nat) (hf : f < 8) (hj : j < 32) (hi : i < 32)
    (hst : 2 ≤ s.stageOf (32 * f + i)) :
    (s.laneReset (32 * f + j)).stageOf (32 * f + i) = s.stageOf (32 * f + i) ∧
      (s.laneReset (32 * f + j)).link (32 * f + i) =
        if i = j then (s.link (32 * f + i)).retrained else s.link (32 * f + i) := by
  unfold State.laneReset
  by_cases hij : i = j
  · subst hij
    rw [if_pos hst, if_pos rfl, Link.retrained]
    split
    · exact ⟨(stagesKept.refl s).setLink _, link_setLink_same ..⟩
    · exact ⟨rfl, rfl⟩
  · have hne : 32 * f + i ≠ 32 * f + j := by omega
    rw [if_neg hij]
    split
    · split
      · exact ⟨(stagesKept.refl s).setLink _, link_setLink_ne _ _ _ _ hne⟩
      · exact ⟨rfl, rfl⟩
    · exact ⟨(stageOf_toDetect _ _ _ _ _ _ _ hf hj hi).trans (if_neg hij),
        link_toDetect_ne _ _ _ _ _ _ _ hf hj hi hij (by omega)⟩

/-- A reset of any link keeps the stage of a link before LOCK, or returns it to DETECT where it is that link. -/
theorem laneReset_of_early (s : State) (f j i : Nat) (hf : f < 8) (hj : j < 32) (hi : i < 32)
    (hst : s.stageOf (32 * f + i) < 2) :
    (s.laneReset (32 * f + j)).stageOf (32 * f + i) = if i = j then 0 else s.stageOf (32 * f + i) := by
  have hne : 2 ≤ s.stageOf (32 * f + j) → i ≠ j := fun hlate e => by subst e; omega
  unfold State.laneReset
  split
  · next hlate =>
    refine Eq.trans ?_ (if_neg (hne hlate)).symm
    split
    · exact (stagesKept.refl s).setLink _
    · rfl
  · exact stageOf_toDetect _ _ _ _ _ _ _ hf hj hi

/-- The links of a list that a mask names, reset one after another. -/
def State.resetLinks (s : State) (f mask : Nat) (l : List Nat) : State :=
  l.foldl (fun acc j => if bit mask j then acc.laneReset (32 * f + j) else acc) s

theorem resetLinks_cons (s : State) (f mask j : Nat) (l : List Nat) : s.resetLinks f mask (j :: l) =
    (if bit mask j = true then s.laneReset (32 * f + j) else s).resetLinks f mask l := rfl

theorem resetLinks_of_late (f mask i : Nat) (hf : f < 8) (hi : i < 32) (hbit : bit mask i = true) (r : Link)
    (l : List Nat) (s : State) (hl : ∀ j ∈ l, j < 32) (hst : 2 ≤ s.stageOf (32 * f + i))
    (hr : (s.link (32 * f + i)).retrained = r) (h : i ∈ l ∨ s.link (32 * f + i) = r) :
    (s.resetLinks f mask l).stageOf (32 * f + i) = s.stageOf (32 * f + i) ∧
      (s.resetLinks f mask l).link (32 * f + i) = r := by
  induction l generalizing s with
  | nil => exact ⟨rfl, h.resolve_left List.not_mem_nil⟩
  | cons j l ih =>
    have hrest : ∀ i ∈ l, i < 32 := fun i hi => hl i (List.mem_cons_of_mem _ hi)
    by_cases hj : bit mask j = true
    · obtain ⟨hstage, hlink⟩ := laneReset_of_late s f j i hf (hl j List.mem_cons_self) hi hst
      rw [resetLinks_cons, if_pos hj, ← hstage]
      refine ih (s.laneReset (32 * f + j)) hrest (by omega) ?_ ?_
      · rw [hlink]
        split
        · rw [retrained_idem, hr]
        · exact hr
      · rw [hlink]
        split
        · exact .inr hr
        · next hij => exact h.imp_left fun h => (List.mem_cons.1 h).resolve_left hij
    · have hij : i ≠ j := fun e => hj (e ▸ hbit)
      rw [resetLinks_cons, if_neg hj]
      exact ih s hrest hst hr (h.imp_left fun h => (List.mem_cons.1 h).resolve_left hij)

theorem resetLinks_of_early (f mask i : Nat) (hf : f < 8) (hi : i < 32) (hbit : bit mask i = true)
    (l : List Nat) (s : State) (hl : ∀ j ∈ l, j < 32) (hst : s.stageOf (32 * f + i) < 2)
    (h : i ∈ l ∨ s.stageOf (32 * f + i) = 0) : (s.resetLinks f mask l).stageOf (32 * f + i) = 0 := by
  induction l generalizing s with
  | nil => exact h.resolve_left List.not_mem_nil
  | cons j l ih =>
    have hrest : ∀ i ∈ l, i < 32 := fun i hi => hl i (List.mem_cons_of_mem _ hi)
    by_cases hj : bit mask j = true
    · have hstage := laneReset_of_early s f j i hf (hl j List.mem_cons_self) hi hst
      rw [resetLinks_cons, if_pos hj]
      by_cases hij : i = j
      · rw [if_pos hij] at hstage
        exact ih _ hrest (by omega) (.inr hstage)
      · rw [if_neg hij] at hstage
        refine ih _ hrest (by omega) ?_
        rw [hstage]
        exact h.imp_left fun h => (List.mem_cons.1 h).resolve_left hij
    · have hij : i ≠ j := fun e => hj (e ▸ hbit)
      rw [resetLinks_cons, if_neg hj]
      exact ih s hrest hst (h.imp_left fun h => (List.mem_cons.1 h).resolve_left hij)

theorem ferryLaneReset_completes (f : Nat) (mask : Word) (s : State) (hf : f < 8) :
    completes (.ferryLaneReset f mask) s fun t => ∀ j < 32, bit mask.toNat j = true →
      if 2 ≤ s.stageOf (32 * f + j) then t.stageOf (32 * f + j) = s.stageOf (32 * f + j) ∧
        ((s.link (32 * f + j)).retrain = 0 → t.link (32 * f + j) = { s.link (32 * f + j) with retrain := 8 })
      else t.stageOf (32 * f + j) = 0 := by
  refine ⟨s.resetLinks f mask.toNat (List.range 32), if_pos hf, fun j hj hbit => ?_⟩
  have hl : ∀ i ∈ List.range 32, i < 32 := fun i => List.mem_range.1
  have hmem : j ∈ List.range 32 := List.mem_range.2 hj
  split
  · next hst =>
    obtain ⟨hstage, hlink⟩ := resetLinks_of_late f mask.toNat j hf hj hbit _ _ s hl hst rfl (.inl hmem)
    exact ⟨hstage, fun hidle => hlink.trans (if_pos hidle)⟩
  · next hst => exact resetLinks_of_early f mask.toNat j hf hj hbit _ s hl (by omega) (.inl hmem)

/-- Settles O35: one lemma for each clause; every return to DETECT goes through `stageOf_toDetect`, and a stage that
fails through `stageFail'_errUp`. -/
theorem linksLockExchangeAndReset : Obligations.LinksLockExchangeAndReset :=
  ⟨laneLockDone_completes, laneExchangeDone_fits, laneExchangeDone_fails, laneStageTimeout_completes,
    laneBackoffExpiry_completes, ferryLaneReset_completes⟩

end Sys2Proof.Machine
end

section
/-! ## What a landed frame leaves alone: the time it carries (R39, R45, R55, R342) -/

namespace Sys2Proof.Machine

/-! ### The fields that the time of a header may change -/

/-- The register fields that the time fields of a header received on lane `k` may change. -/
def timeFields (k : Nat) : List Fld :=
  Reg.BELL_LANE_RTT_RTT k :: ([Reg.BELL_STATUS_PARENT_VALID, Reg.BELL_STATUS_PARENT_FERRY, Reg.BELL_STATUS_PARENT_LANE,
    Ctr.BELL_PARENT_CHANGES.fld, Hdr.CNT_OVF Ctr.BELL_PARENT_CHANGES.page, Reg.BELL_ROOT_ID_ROOT_ID,
    Reg.BELL_STATUS_ROOT_EPOCH, Reg.BELL_STATUS_DEPTH, Reg.BELL_STATUS_STATE, Reg.BELL_STATUS_ROOT_DEMOTED] ++
    raiseFields Err.BELL_BELL_NUMBER_CONFLICT.page)

/-- From `s` to `t` time may have been heard on lane `k`: the links, and the register fields but `timeFields`, are as
before. -/
structure hears (k : Nat) (s t : State) : Prop where
  regs  : regsKept s t (timeFields k)
  links : t.links = s.links

namespace hears

variable {k : Nat} {s t u : State}

theorem refl (s : State) : hears k s s := ⟨regsKept_refl s _, rfl⟩

theorem upd (h : hears k s t) (hr : u.regs = t.regs := by rfl) (hl : u.links = t.links := by rfl) : hears k s u :=
  ⟨regsKept_upd h.regs hr, hl.trans h.links⟩

theorem wr {g : Fld} {v : Nat} (h : hears k s t) (hg : g ∈ timeFields k := by simp [timeFields]) :
    hears k s (t.wr g v) := ⟨regsKept_wr g v h.regs hg, h.links⟩

theorem bump {c : Ctr} {n : Nat} (h : hears k s t) (hf : c.fld ∈ timeFields k := by simp [timeFields])
    (ho : Hdr.CNT_OVF c.page ∈ timeFields k := by simp [timeFields]) : hears k s (t.bump c n) :=
  ⟨regsKept_bump c n h.regs hf ho, (bump_links ..).trans h.links⟩

theorem raise {e : ErrBit} {o : Occ} (h : hears k s t) (he : e.page = 1 := by rfl) : hears k s (t.raise e o) := by
  refine ⟨regsKept_trans h.regs (regsKept_mono (regsKept_raise e o (regsKept_refl t _)) fun g hg => ?_),
    (raise_links ..).trans h.links⟩
  rw [he] at hg
  exact List.mem_cons_of_mem _ (List.mem_append_right _ hg)

theorem ite {c : Prop} [Decidable c] (ht : hears k s t) (hu : hears k s u) : hears k s (if c then t else u) := by
  split
  · exact ht
  · exact hu

theorem setLane {q : Nat} {l : LaneTime} (h : hears k s t) : hears k s (t.setLane q l) := h.upd

theorem setParent {q : Nat} (h : hears k s t) : hears k s (t.setParent q) := by
  unfold State.setParent
  exact h.wr.wr.wr.ite h.wr.wr.wr.bump

theorem follow {q : Nat} (h : hears k s t) : hears k s (t.follow q) := by
  unfold State.follow
  exact h.wr.wr.wr

theorem seeRoot {q : Nat} (h : hears k s t) : hears k s (t.seeRoot q) := by
  unfold State.seeRoot
  extract_lets l own id s0 d names
  have h0 : hears k s s0 := h.setLane.ite h
  clear_value s0 names
  split
  · exact h
  · split
    · exact h
    · split
      · exact h.ite h.setLane.raise
      · split
        · split
          · exact h0
          · extract_lets s1 s2
            have h1 : hears k s s1 := h0.setParent.follow
            have h2 : hears k s s2 := h1.wr.wr
            exact (raise (upd h2)).ite h1
        · exact h0

theorem measure {mine : Nat} {seen : Option Nat} (h : hears k s t) : hears k s (t.measure k mine seen) := by
  unfold State.measure
  extract_lets l seen'
  clear_value seen'
  split
  · exact h.setLane
  · exact h.setLane.wr

theorem hearTime {q st depth root epoch : Nat} (h : hears k s t) : hears k s (t.hearTime q st depth root epoch) := by
  unfold State.hearTime
  extract_lets l s1 newer _ s2
  have h2 : hears k s s2 := (upd (t := s1) h.setLane).ite h.setLane
  exact h2.wr.ite h2

theorem headerTime {fr : RxFrame} (h : hears k s t) : hears k s (t.headerTime k fr) := by
  unfold State.headerTime
  exact h.hearTime.measure.seeRoot

end hears

/-! ### The fields that catching up with a swap may change -/

/-- The register fields that arming the device-wide swap may change (R108, R342). -/
def catchUpFields : List Fld :=
  Hdr.SWAP_BELL_LO 0x52 :: Hdr.SWAP_BELL_HI 0x52 :: (shadowPages.map Hdr.SWAP_STATE ++ (shadowPages.map Hdr.DEV ++
    raiseFields Err.SCHED_SWAP_CAUGHT_UP.page))

theorem setSwap_kept (ps : List Nat) (s : State) (st d : Nat) (hps : ∀ p ∈ ps, p ∈ shadowPages) :
    regsKept s (s.setSwap ps st (some d)) catchUpFields := by
  unfold State.setSwap
  induction ps generalizing s with
  | nil => exact regsKept_refl _ _
  | cons p ps ih =>
    have hfields : ∀ p ∈ shadowPages, Hdr.SWAP_STATE p ∈ catchUpFields ∧ Hdr.DEV p ∈ catchUpFields := by decide
    obtain ⟨hstate, hdev⟩ := hfields p (hps p List.mem_cons_self)
    exact regsKept_trans (regsKept_wr _ _ (regsKept_wr _ _ (regsKept_refl _ _) hstate) hdev)
      (ih _ fun q hq => hps q (List.mem_cons_of_mem _ hq))

theorem setSwap_links (ps : List Nat) (s : State) (st d : Nat) : (s.setSwap ps st (some d)).links = s.links :=
  foldl_keeps State.links (fun (a : State) (p : Nat) => (a.wr (Hdr.SWAP_STATE p) st).wr (Hdr.DEV p) d)
    (fun _ _ => rfl) ps s

theorem catchUp_kept (s : State) (v : Nat) : regsKept s (s.catchUp v) catchUpFields := by
  unfold State.catchUp
  split
  · extract_lets b s1
    have h1 : regsKept s s1 catchUpFields :=
      regsKept_wr _ _ (regsKept_wr _ _ (regsKept_refl _ _) (by simp [catchUpFields])) (by simp [catchUpFields])
    refine regsKept_trans (regsKept_trans h1 (setSwap_kept _ s1 1 1 fun p hp => (List.mem_filter.1 hp).1))
      (regsKept_mono (regsKept_raise _ _ (regsKept_refl _ _)) fun g hg => ?_)
    simp [catchUpFields, hg]
  · exact regsKept_refl _ _

theorem catchUp_links (s : State) (v : Nat) : (s.catchUp v).links = s.links := by
  unfold State.catchUp
  split
  · rw [raise_links, setSwap_links]; rfl
  · rfl

/-! ### Neither touches the stages, the errors or the counts of a Ferry -/

theorem timeFields_off (k : Nat) (hk : k < 256) : ∀ g ∈ timeFields k, spare g = true ∧ offStage g = true := by
  have hrtt : 0x200 ≤ (Reg.BELL_LANE_RTT_RTT k).off ∧ (Reg.BELL_LANE_RTT_RTT k).off < 4096 ∧
      (Reg.BELL_LANE_RTT_RTT k).lo < 32 := by
    simp only [Reg.BELL_LANE_RTT_RTT]
    omega
  refine List.forall_mem_cons.2 ⟨⟨spare_of_off (by omega), offStage_of_off hrtt⟩, ?_⟩
  decide

theorem catchUpFields_off : ∀ g ∈ catchUpFields, spare g = true ∧ offStage g = true := by decide

namespace laneWork

variable {s t u : State}

theorem headerTime {k : Nat} {fr : RxFrame} (h : laneWork s t) (hk : k < 256) : laneWork s (t.headerTime k fr) :=
  h.step (hears.refl t).headerTime.regs fun g hg => (timeFields_off k hk g hg).1

theorem catchUp {v : Nat} (h : laneWork s t) : laneWork s (t.catchUp v) :=
  h.step (catchUp_kept t v) fun g hg => (catchUpFields_off g hg).1

end laneWork

namespace stagesKept

variable {s t u : State}

theorem headerTime {k : Nat} {fr : RxFrame} (h : stagesKept s t) (hk : k < 256) : stagesKept s (t.headerTime k fr) :=
  h.step (hears.refl t).headerTime.regs fun g hg => (timeFields_off k hk g hg).2

theorem catchUp {v : Nat} (h : stagesKept s t) : stagesKept s (t.catchUp v) :=
  h.step (catchUp_kept t v) fun g hg => (catchUpFields_off g hg).2

end stagesKept

end Sys2Proof.Machine
end

section
/-! ## What a landed frame leaves alone: its sheaves, acknowledgements and messages (R299, R316, R322, R331, R332) -/

namespace Sys2Proof.Machine.laneWork

variable {s t u : State}

/-! ### Tasks and open sheaves -/

theorem sendOpen {own : Nat} {x : Sheaf} (h : laneWork s t) : laneWork s (t.sendOpen own x) :=
  h.step ((sends.refl t).sendOpen).regs (by decide)

theorem noRoute {x : Sheaf} (h : laneWork s t) : laneWork s (t.noRoute x) := (h.bump (by rfl)).raise (by decide)

theorem undefineRegion {n : Nat} (h : laneWork s t) : laneWork s (t.undefineRegion n) := by
  unfold State.undefineRegion
  extract_lets d s1
  have h1 : laneWork s s1 := foldl (fun _ _ _ h => h.upd rfl) h
  exact h1.upd rfl

theorem loseResults {n status : Nat} (h : laneWork s t) : laneWork s (t.loseResults n status) := by
  unfold State.loseResults
  exact h.undefineRegion.ite h

theorem abortNotice {n origin reason : Nat} (h : laneWork s t) : laneWork s (t.abortNotice n origin reason) := by
  unfold State.abortNotice
  exact h.ite (foldl (fun _ _ _ h => h.sendOpen) (h.upd rfl))

theorem flushTask {n : Nat} (h : laneWork s t) : laneWork s (t.flushTask n) := by
  unfold State.flushTask
  extract_lets tk s1 opens gone
  have h1 : laneWork s s1 := foldl (fun _ _ _ h => h.ite (h.bump (by rfl)).setHop.showHop) h
  clear_value s1
  exact bump (upd (t := s1) h1 (by rfl)) (by rfl)

theorem countEnd {n status : Nat} (h : laneWork s t) : laneWork s (t.countEnd n status) := by
  unfold State.countEnd
  split
  · exact h.bump (by rfl)
  · exact h.bump (by rfl)
  · exact h.bump (by rfl)
  · exact (h.bump (by rfl)).raise (by decide)
  · exact h.bump (by rfl)
  · exact (h.bump (by rfl)).raise (by decide)
  · exact h

theorem finish {n status detail : Nat} (h : laneWork s t) : laneWork s (t.finish n status detail) := by
  unfold State.finish
  extract_lets tk st origin s0 s1 _ s2
  have h0 : laneWork s s0 := h.loseResults
  have h1 : laneWork s s1 := h0.abortNotice.flushTask.ite h0
  have h2 : laneWork s s2 := h1.upd rfl
  exact h.ite h2.setTask.countEnd

theorem askStop {n status detail : Nat} (h : laneWork s t) : laneWork s (t.askStop n status detail) := by
  unfold State.askStop
  exact h.setTask.finish.ite (h.setTask.ite h)

/-! ### The Granary -/

theorem poisonMet {p : Port} {a : Nat} {o : Occ} (h : laneWork s t) : laneWork s (t.poisonMet p a o) := by
  unfold State.poisonMet State.granaryNote
  exact ((((((h.wr (by rfl)).wrB (by rfl)).wrB (by rfl)).wr (by rfl)).wr (by rfl)).wr (by rfl)).raise (by decide)

theorem granaryPoke {a : Nat} {d : List Byte} (h : laneWork s t) : laneWork s (t.granaryPoke a d) := h.upd rfl

theorem granaryWriteLine {p : Port} {a : Nat} {d : List Byte} {o : Occ} (h : laneWork s t) :
    laneWork s (t.granaryWriteLine p a d o).2 := by
  unfold State.granaryWriteLine
  split
  · exact h.granaryPoke
  · split
    · exact granaryPoke (bump (upd (t := t) h (by rfl)) (by rfl))
    · exact h.poisonMet

theorem granaryWrite {p : Port} {a : Nat} {d : List Byte} {o : Occ} (h : laneWork s t) :
    laneWork s (t.granaryWrite p a d o).2 := by
  unfold State.granaryWrite
  exact foldlSnd (fun _ _ h => h.granaryWriteLine) h

/-! ### Sheaves that land, go on, or are refused -/

theorem deliver {i k : Nat} {l : Landing} (h : laneWork s t) : laneWork s (State.deliver i k t l) := by
  induction k generalizing t l with
  | zero => exact h.upd rfl
  | succ k ih =>
    unfold State.deliver
    split
    · exact h.upd rfl
    · refine ite (h.upd rfl) (ih ?_)
      split
      · exact h.upd rfl
      · exact (h.bump (by rfl)).raise (by decide)

theorem landSheaf {k i : Nat} {le : LandEntry} {x : Sheaf} {who : Nat} (h : laneWork s t) :
    laneWork s (t.landSheaf k i le x who).2 := by
  unfold State.landSheaf
  extract_lets
  split
  · exact h.bump (by rfl)
  · split
    · exact h
    · exact (h.granaryWrite.bump (by rfl)).deliver

theorem keepTransit {x : Transit} (h : laneWork s t) : laneWork s (t.keepTransit x).2 := by
  unfold State.keepTransit
  split
  · exact h
  · exact h.upd rfl

theorem actOn {b : Map Byte} {k n e : Nat} {late noted : Bool} {x : Sheaf} (h : laneWork s t) :
    laneWork s (t.actOn b k n e late noted x).2 := by
  unfold State.actOn
  split
  · exact h.keepTransit
  · exact h.landSheaf

theorem flowSheaf {b : Map Byte} {k n : Nat} {direct : Bool} {x : Sheaf} (h : laneWork s t) :
    laneWork s (t.flowSheaf b k n direct x).2 := by
  unfold State.flowSheaf
  extract_lets e odd s1
  have h1 : laneWork s s1 := ((h.bump (by rfl)).raise (by decide)).ite h
  split
  · exact h.actOn
  · split
    · exact (h1.bump (by rfl)).raise (by decide)
    · exact h1.actOn

theorem keepNotice {n : Notice} (h : laneWork s t) : laneWork s (t.keepNotice n) := by
  unfold State.keepNotice
  split
  · exact h.upd rfl
  · exact ite (h.upd rfl) (record (upd (t := t) h (by rfl)))

theorem abortArrive {src : Nat} {x : Sheaf} (h : laneWork s t) : laneWork s (t.abortArrive src x) := by
  unfold State.abortArrive
  extract_lets g i origin _ s1 d
  have h1 : laneWork s s1 := h.upd rfl
  clear_value s1
  split
  · exact h1.askStop
  · exact h1.keepNotice.ite h1

theorem l0Fail {f : Nat} (h : laneWork s t) : laneWork s (t.l0Fail f) := by
  unfold State.l0Fail
  extract_lets _ s0 s1 l _ s2 r
  have h0 : laneWork s s0 := ite (h.upd rfl) h
  have h2 : laneWork s s2 := upd (t := s1) (h0.bump (by rfl)) rfl
  clear_value s2
  exact (raise (upd (t := s2) h2 (by rfl)) (by decide)).ite h2

theorem l0Arrive {f : Nat} {x : Sheaf} (h : laneWork s t) : laneWork s (t.l0Arrive f x) := by
  unfold State.l0Arrive
  exact (h.bump (by rfl)).ite (h.ite h.l0Fail)

theorem bgArrive {x : Sheaf} (h : laneWork s t) : laneWork s (t.bgArrive x) := by
  unfold State.bgArrive
  exact (h.bump (by rfl)).ite (h.granaryWrite.bump (by rfl))

theorem markApplied {x : Sheaf} (h : laneWork s t) : laneWork s (t.markApplied x) := h.upd rfl

theorem grantCell {k : Nat} (h : laneWork s t) : laneWork s (t.grantCell k) := by
  unfold State.grantCell
  exact (h.setCredit.bump (by rfl)).ite h

theorem openSheaf {k : Nat} {x : Sheaf} (h : laneWork s t) : laneWork s (t.openSheaf k x).2 := by
  unfold State.openSheaf
  extract_lets s1
  have h1 : laneWork s s1 := h.bump (by rfl)
  clear_value s1
  split
  · exact h.setCredit.ite h
  · split
    · exact h.bump (by rfl)
    · split
      · exact h
      · split
        · split
          · exact h1.abortArrive.markApplied.grantCell
          · split
            · exact h1.bgArrive.markApplied.grantCell
            · exact h1.upd rfl
        · split
          · exact ((h1.bump (by rfl)).raise (by decide)).grantCell
          · split
            · exact h1.noRoute.grantCell
            · exact h1.upd rfl

theorem kindBad {k : Nat} {x : Sheaf} (h : laneWork s t) (hk : k < 256) : laneWork s (t.kindBad k x) := by
  unfold State.kindBad
  exact (h.bump (by rfl)).raise (by simp only [Err.LANE_SHEAF_KIND_BAD]; omega)

theorem tallyInject {checker : Nat} {place : Option Nat} (h : laneWork s t) :
    laneWork s (t.tallyInject checker place).2 := by
  unfold State.tallyInject
  split
  · exact h.injectUse
  · split
    · exact h.injectUse
    · exact h

theorem tallyNote {wh tag place kind flow : Nat} {inj : Bool} (h : laneWork s t) :
    laneWork s (t.tallyNote wh tag place kind flow inj) := by
  unfold State.tallyNote
  refine h.wrs ?_
  simp only [List.forall_mem_cons]
  exact ⟨rfl, rfl, rfl, rfl, rfl, rfl, rfl, rfl, by simp⟩

theorem slotLand {set : Option (Map Byte)} {hdr : List Byte} {k n : Nat} {bytes : List Byte} (h : laneWork s t)
    (hk : k < 256) : laneWork s (t.slotLand set hdr k n bytes).2 := by
  unfold State.slotLand
  extract_lets f x s0 r s1 s2
  have h1 : laneWork s s1 := (((h.bump (by rfl)).bump (by rfl)).bump (by rfl)).tallyInject
  have h2 : laneWork s s2 := (h1.tallyNote.bump (by rfl)).raise (by decide)
  clear_value s1 s2
  split
  · exact h
  · split
    · exact h2.l0Fail.ite h2
    · split
      · exact h1.l0Arrive.ite (h1.kindBad hk)
      · split
        · exact h1.kindBad hk
        · split
          · exact h1
          · split
            · split
              · exact h1.keepTransit
              · split
                · exact h1.flowSheaf
                · exact h1.openSheaf
            · split
              · exact h1.flowSheaf
              · exact h1.openSheaf

theorem slotsLand {set : Option (Map Byte)} {hdr : List Byte} {k : Nat} {slots : List (List Byte)} {ns : List Nat}
    {p : Nat × Nat × State} (h : laneWork s p.2.2) (hk : k < 256) :
    laneWork s (State.slotsLand set hdr k slots ns p).2.2 := by
  induction ns generalizing p with
  | nil => exact h
  | cons n ns ih =>
    unfold State.slotsLand
    refine ih ?_
    split
    · exact h.slotLand hk
    · exact h.slotLand hk

theorem versionMiss {k v : Nat} (h : laneWork s t) : laneWork s (t.versionMiss k v) := by
  unfold State.versionMiss
  exact (((((h.wr (by rfl)).wr (by rfl)).wr (by rfl)).wr (by rfl)).bump (by rfl)).raise (by decide)

theorem fillsLand {k : Nat} {fr : RxFrame} (h : laneWork s t) (hk : k < 256) :
    laneWork s (t.fillsLand k fr).2.2 := by
  unfold State.fillsLand
  extract_lets
  split
  · exact h
  · exact slotsLand (h.versionMiss.ite h) hk

/-! ### Acknowledgements, announcements and fences -/

theorem declareFailing {k cause : Nat} (h : laneWork s t) (hk : k < 256) : laneWork s (t.declareFailing k cause) := by
  unfold State.declareFailing
  extract_lets x f s1
  have h1 : laneWork s s1 := (wr h.setHop (spare_of_row (Nat.mod_lt k (by decide)) rfl rfl)).bump (by rfl)
  exact h.ite (h1.raiseLink (by simp only [Err.LANE_LANE_FAILING]; omega))

theorem nakRate {k : Nat} (h : laneWork s t) (hk : k < 256) : laneWork s (t.nakRate k) := by
  unfold State.nakRate
  exact (h.declareFailing hk).ite h

theorem hearAck {k : Nat} {b : List Byte} (h : laneWork s t) (hk : k < 256) : laneWork s (t.hearAck k b) := by
  unfold State.hearAck
  exact h.ite (nakRate h.setHop hk)

theorem announce {hdr : List Byte} (h : laneWork s t) : laneWork s (t.announce hdr) := by
  unfold State.announce
  exact h.ite (h.ite ((((h.wr (by rfl)).wr (by rfl)).wr (by rfl)).wr (by rfl)).record)

theorem sendFence {k kind flow seq origin tag : Nat} (h : laneWork s t) :
    laneWork s (t.sendFence k kind flow seq origin tag) := by
  unfold State.sendFence
  extract_lets s1
  have h1 : laneWork s s1 := (h.bump (by rfl)).ite (h.bump (by rfl))
  split
  · exact ite h1.setHop h1.setHop
  · exact h1.setHop

theorem tryMark {m : Mark} (h : laneWork s t) : laneWork s (t.tryMark m) := by
  unfold State.tryMark
  extract_lets put
  have hput : ∀ u d, laneWork s u → laneWork s (put u d) := fun _ _ h => h.upd rfl
  clear_value put
  split
  · exact h
  · split
    · exact h
    · split
      · exact h.ite (hput _ _ h.sendFence)
      · extract_lets
        split
        · exact hput _ _ h.sendFence
        · exact h

theorem fenceGot {flow tag : Nat} (h : laneWork s t) : laneWork s (t.fenceGot flow tag) := by
  unfold State.fenceGot
  exact foldl (fun _ _ _ h => ite h.setTask h) h

theorem fenceArrive {k : Nat} {m : List Byte} (h : laneWork s t) : laneWork s (t.fenceArrive k m) := by
  unfold State.fenceArrive
  extract_lets
  split
  · exact h.setHop
  · split
    · exact foldl (fun _ _ _ h => h.tryMark) (h.upd rfl)
    · split
      · exact h.fenceGot
      · split
        · exact h
        · exact sendFence (upd (t := t) h (by rfl))

/-! ### The frame -/

theorem activeLand {k : Nat} {fr : RxFrame} {hok : Bool} (h : laneWork s t) (hk : k < 256) :
    laneWork s (t.activeLand k fr hok) := by
  have hj : k % 32 < 32 := Nat.mod_lt _ (by decide)
  unfold State.activeLand
  extract_lets f j hdr l who misses s1 msg land s2 s3 bell _ r _ s4 s5
  have h1 : laneWork s s1 := h.setLink
  have h2 : laneWork s s2 := ((h1.wr (spare_of_row hj rfl rfl)).wr (spare_of_row hj rfl rfl)).ite h1
  have h3 : laneWork s s3 := (h2.hearAck hk).ite ((h2.hearAck hk).ite h2)
  have h5 : laneWork s s5 := announce (setHop (h3.fillsLand hk))
  clear_value s3 s5
  split
  · exact h.activeExit hk
  · exact (h.activeExit hk).ite (ite h3.setHop (h5.fenceArrive.ite h5))

theorem laterLand {k : Nat} {fr : RxFrame} {hok : Bool} (h : laneWork s t) (hk : k < 256) :
    laneWork s (t.laterLand k fr hok) := by
  have hj : k % 32 < 32 := Nat.mod_lt _ (by decide)
  unfold State.laterLand
  extract_lets f j hdr msg l l1 _ s1 s2 s3
  have h2 : laneWork s s2 := (setLane h.setLink).headerTime hk
  have h3 : laneWork s s3 := ((h2.wr (spare_of_row hj rfl rfl)).wr (spare_of_row hj rfl rfl)).catchUp
  clear_value s2 s3
  split
  · exact (h.activeLand hk).ite h
  · exact (h2.activeExit hk).ite ((h3.activeExit hk).ite ((h3.activeLand hk).ite h3))

end Sys2Proof.Machine.laneWork
end

section
/-! ## A landed frame (R271, R278, R279, R290, R294) -/

namespace Sys2Proof.Machine

/-! ### What comes before the link's own part -/

/-- The number of codewords that a frame holds past repair, one of them by the injection `inj` (R278). -/
def uncorrectable (frame : RxFrame) (inj : Bool) : Nat :=
  (frame.errors.filter (fun e => 15 < e)).length + (if inj ∧ frame.errors.getD 0 0 ≤ 15 then 1 else 0)

theorem uncorrectable_pos {frame : RxFrame} (inj : Bool) (h : frame.errors.any (fun e => 15 < e) = true) :
    uncorrectable frame inj ≠ 0 := by
  obtain ⟨e, he, hbad⟩ := List.any_eq_true.1 h
  have hmem : e ∈ frame.errors.filter (fun e => 15 < e) := List.mem_filter.2 ⟨he, hbad⟩
  have := List.length_pos_of_mem hmem
  unfold uncorrectable
  omega

theorem uncorrectable_zero {frame : RxFrame} (h : frame.errors.all (fun e => e ≤ 15) = true) :
    uncorrectable frame false = 0 := by
  have hnil : frame.errors.filter (fun e => 15 < e) = [] := by
    simpa [List.filter_eq_nil_iff] using h
  simp [uncorrectable, hnil]

/-- What a link's stage does with a frame whose parts are checked: LOCK counts it, and a later stage takes it (R290). -/
def State.takeFrame (t : State) (st k : Nat) (frame : RxFrame) (hok : Bool) (unc : Nat) : State :=
  if st = 2 then
    if hok ∧ hdrNum (msgOf frame.header) 0 1 = 2 then t.activeExit k 19 .one
    else t.setLink k { t.link k with good := if hok ∧ frame.guard ∧ unc = 0 then (t.link k).good + 1 else 0 }
  else t.laterLand k frame hok

theorem laneWork.takeFrame {s t : State} {st k unc : Nat} {frame : RxFrame} {hok : Bool} (h : laneWork s t)
    (hk : k < 256) : laneWork s (t.takeFrame st k frame hok unc) := by
  unfold State.takeFrame
  exact ((h.activeExit hk).ite h.setLink).ite (h.laterLand hk)

/-- From `s` to `t` a frame on link `j` of Ferry `f` was decoded and checked: its header is good or not (`hok`), and
`unc` of its codewords are past repair. -/
structure frameChecked (f j : Nat) (hok : Bool) (unc : Nat) (s t : State) : Prop where
  stages  : stagesKept s t
  good    : (t.link (32 * f + j)).good = (s.link (32 * f + j)).good
  farWho  : (t.link (32 * f + j)).farWho = (s.link (32 * f + j)).farWho
  words   : unc ≠ 0 → errUp t (Err.LANE_FEC_UNCORRECTABLE f)
  header  : hok = false → errUp t (Err.LANE_HEADER_CRC f)
  counted : hok = false →
    t.rd (Ctr.CNT_HEADER_CRC_ERRORS f).fld = (s.rd (Ctr.CNT_HEADER_CRC_ERRORS f).fld + 1) % 2 ^ 64

theorem injectUse_links (s : State) (page checker : Nat) : (s.injectUse page checker).2.links = s.links := by
  unfold State.injectUse
  split <;> rfl

theorem injectUse_of_none (s : State) (page checker : Nat) (h : s.rd (Hdr.INJ_COUNT page) = 0) :
    s.injectUse page checker = (false, s) := if_neg (by simp [h])

/-- The line under a frame changes no more of a link than its equaliser and its run of high errors. -/
theorem line_link (s : State) (k : Nat) (r : LineReport) :
    ∃ eq run, (s.line k r).link k = { s.link k with eq := eq, rmsRun := run } := by
  unfold State.line
  extract_lets f j l mu frozen eq run s1 s2 s3
  have h2 : s2.links = s1.links := by unfold s2; split <;> rfl
  have h3 : s3.links = s2.links := by unfold s3; split <;> rfl
  refine ⟨eq, run, ?_⟩
  calc (s3.wrI (Reg.FERRY_EQ_TAPS3_PHASE f j) r.phase).link k
    _ = s1.link k := link_congr (h3.trans h2) k
    _ = { l with eq := eq, rmsRun := run } := link_setLink_same ..

/-- An error bit is none of what a count changes. -/
theorem errUp_bump {s : State} {e : ErrBit} (c : Ctr) (n : Nat) (h : errUp s e)
    (hc : decide (c.n < 400) = true) : errUp (s.bump c n) e := by
  have hn : c.n < 400 := of_decide_eq_true hc
  rw [errUp, rd_bump_ne]
  · exact h
  · refine key_ne_of_place ⟨?_, ?_⟩ ⟨?_, ?_⟩ (.inl ?_) <;> simp only [Hdr.PG_ERR, Ctr.fld] <;> omega
  · refine key_ne_of_place ⟨?_, ?_⟩ ⟨?_, ?_⟩ (.inl ?_) <;> simp only [Hdr.PG_ERR, Hdr.CNT_OVF] <;> omega

/-- From `s` to `t` links may have been worked on, none changed its stage, and link `k` still counts the good frames and
knows the far end that it did. -/
structure wordsTaken (k : Nat) (s t : State) : Prop where
  stages : stagesKept s t
  work   : laneWork s t
  good   : (t.link k).good = (s.link k).good
  farWho : (t.link k).farWho = (s.link k).farWho

namespace wordsTaken

variable {k : Nat} {s t u : State}

theorem refl (s : State) : wordsTaken k s s := ⟨.refl s, .refl s, rfl, rfl⟩

/-- A step that leaves the links themselves alone. -/
theorem step (h : wordsTaken k s t) (hs : stagesKept t u) (hw : laneWork t u) (hl : u.links = t.links) :
    wordsTaken k s u := by
  refine ⟨h.stages.trans hs, h.work.trans hw, ?_, ?_⟩
  · rw [link_congr hl, h.good]
  · rw [link_congr hl, h.farWho]

theorem injectIf (h : wordsTaken k s t) (b : Bool) (page checker : Nat) :
    wordsTaken k s (if b then t.injectUse page checker else (false, t)).2 := by
  split
  · exact h.step (stagesKept.refl t).injectUse (laneWork.refl t).injectUse (injectUse_links ..)
  · exact h

theorem bump {c : Ctr} {n : Nat} (h : wordsTaken k s t) (hs : offStage c.fld = true)
    (hw : spare c.fld = true) : wordsTaken k s (t.bump c n) :=
  h.step ((stagesKept.refl t).bump hs) ((laneWork.refl t).bump hw) (bump_links ..)

theorem addSat {g : Fld} {n : Nat} (h : wordsTaken k s t) (hs : offStage g = true) (hw : spare g = true) :
    wordsTaken k s (t.addSat g n) := h.step ((stagesKept.refl t).addSat hs) ((laneWork.refl t).addSat hw) rfl

theorem raise {e : ErrBit} {o : Occ} (h : wordsTaken k s t) (he : e.page < 256) : wordsTaken k s (t.raise e o) :=
  h.step (stagesKept.refl t).raise ((laneWork.refl t).raise he) (raise_links ..)

theorem setLink {l : Link} (h : wordsTaken k s t) (hgood : l.good = (t.link k).good)
    (hwho : l.farWho = (t.link k).farWho) : wordsTaken k s (t.setLink k l) :=
  ⟨h.stages.setLink, h.work.setLink, by rw [link_setLink_same, hgood, h.good],
    by rw [link_setLink_same, hwho, h.farWho]⟩

theorem line {r : LineReport} (h : wordsTaken k s t) : wordsTaken k s (t.line k r) := by
  obtain ⟨eq, run, hlink⟩ := line_link t k r
  exact ⟨h.stages.line, h.work.line, by rw [hlink]; exact h.good, by rw [hlink]; exact h.farWho⟩

end wordsTaken

/-- A bad header counts, raises its error, and leaves another error of the page up. -/
theorem badHeader_counts (s : State) (f k : Nat) (o : Occ) (e : ErrBit) (hf : f < 8) (he : e.page = 0x20 + 4 * f)
    (hb : e.bit < 32) (t : State) (ht : t = (s.bump (Ctr.CNT_HEADER_CRC_ERRORS f) 1).raise (Err.LANE_HEADER_CRC f) o) :
    stagesKept s t ∧ t.link k = s.link k ∧ (errUp s e → errUp t e) ∧ errUp t (Err.LANE_HEADER_CRC f) ∧
      t.rd (Ctr.CNT_HEADER_CRC_ERRORS f).fld = (s.rd (Ctr.CNT_HEADER_CRC_ERRORS f).fld + 1) % 2 ^ 64 := by
  subst ht
  have hpage : (Err.LANE_HEADER_CRC f).page < 256 := by simp only [Err.LANE_HEADER_CRC]; omega
  have hraise := (laneWork.refl (s.bump (Ctr.CNT_HEADER_CRC_ERRORS f) 1)).raise (o := o) hpage
  have hlinks := (raise_links (s.bump (Ctr.CNT_HEADER_CRC_ERRORS f) 1) (Err.LANE_HEADER_CRC f) o).trans (bump_links ..)
  refine ⟨((stagesKept.refl s).bump (by rfl)).raise, link_congr hlinks k, fun hup => ?_, ?_, ?_⟩
  · exact raise_keeps _ _ _ _ _ (by omega) hpage hb (errUp_bump _ _ hup rfl)
  · exact raise_sets _ _ _ hpage (by simp [Err.LANE_HEADER_CRC])
  · exact (hraise.counts f hf _ (by simp [countedFields])).trans (rd_bump_ferry s _ 1 rfl)

/-- FRAME_LAND past TRAIN: the frame is decoded and checked, and then the link's stage takes it. An injected error makes
a codeword (`i0`) or the header (`i1`) bad, and there is none without a count of them (R118). -/
theorem frameLand_eq (f j : Nat) (frame : RxFrame) (s : State) (hf : f < 8) (hj : j < 32)
    (hst : 2 ≤ s.stageOf (32 * f + j)) : ∃ (i0 i1 : Bool) (t : State),
      exec (.frameLand f j frame) s = .next (t.takeFrame (s.stageOf (32 * f + j)) (32 * f + j) frame
        (hdrOk frame.header && !i1) (uncorrectable frame i0)) ∧
      frameChecked f j (hdrOk frame.header && !i1) (uncorrectable frame i0) s t ∧
      (s.rd (Hdr.INJ_COUNT (0x20 + 4 * f)) = 0 → i0 = false ∧ i1 = false) := by
  show ∃ (i0 i1 : Bool) (t : State), execFrameLand f j frame s = _ ∧ _
  unfold execFrameLand
  extract_lets k page named i0 i1 errs unc corr s1 s2 _ s3 hok s4 s5 l
  rw [if_neg (by simp only [k]; omega)]
  have hpage : 0x20 + 4 * f < 256 := by omega
  have hi1 : wordsTaken k s i1.2 := ((wordsTaken.refl s).injectIf _ _ _).injectIf _ _ _
  have hnone : s.rd (Hdr.INJ_COUNT page) = 0 → i0.1 = false ∧ i1.1 = false := by
    intro h
    have h0 : i0 = (false, s) := by
      unfold i0
      rw [injectUse_of_none s _ 0 h, ite_self]
    have h1 : i1 = (false, s) := by
      unfold i1
      rw [h0, injectUse_of_none s _ 1 h, ite_self]
    exact ⟨congrArg Prod.fst h0, congrArg Prod.fst h1⟩
  refine ⟨i0.1, i1.1, s5, ?_, ?_, hnone⟩
  · unfold State.takeFrame
    split
    · split
      · rfl
      · rfl
    · rfl
  clear_value i0 i1 corr
  have h1 : wordsTaken k s s1 :=
    ((hi1.bump (by rfl) (by rfl)).addSat (offStage_of_row hj rfl rfl) (spare_of_row hj rfl rfl)).line
  have hbad : wordsTaken k s (((s1.bump (Ctr.CNT_FEC_UNCORRECTABLE_CODEWORDS f) unc).addSat (Reg.FERRY_FEC_UNC f j)
      unc).raise (Err.LANE_FEC_UNCORRECTABLE f) { injected := i0.1, detail := j }) :=
    ((h1.bump (by rfl) (by rfl)).addSat (offStage_of_row hj rfl rfl) (spare_of_row hj rfl rfl)).raise hpage
  have h2 : wordsTaken k s s2 := by
    unfold s2
    split
    · exact h1
    · exact hbad
  have hwords : unc ≠ 0 → errUp s2 (Err.LANE_FEC_UNCORRECTABLE f) := by
    intro h
    unfold s2
    rw [if_neg h]
    exact raise_sets _ _ _ hpage (by simp [Err.LANE_FEC_UNCORRECTABLE])
  clear_value s1 s2
  have h3 : wordsTaken k s s3 := h2.setLink rfl rfl
  have hwords3 : unc ≠ 0 → errUp s3 (Err.LANE_FEC_UNCORRECTABLE f) := fun h =>
    errUp_of_laneWork f (laneWork.refl s2).setLink (hwords h) hf rfl rfl
  clear_value s3
  have h5 : stagesKept s4 s5 ∧ laneWork s4 s5 ∧ s5.link k = s4.link k := by
    unfold s5
    split
    · exact ⟨(stagesKept.refl s4).wr (offStage_of_row hj rfl rfl), (laneWork.refl s4).wr (spare_of_row hj rfl rfl), rfl⟩
    · exact ⟨.refl s4, .refl s4, rfl⟩
  clear_value s5
  obtain ⟨hstage5, hwork5, hlink5⟩ := h5
  by_cases hgood : hok = true
  · have hs4 : s4 = s3 := if_pos hgood
    rw [hs4] at hstage5 hwork5 hlink5
    exact ⟨h3.stages.trans hstage5, by rw [hlink5, h3.good], by rw [hlink5, h3.farWho],
      fun h => errUp_of_laneWork f hwork5 (hwords3 h) hf rfl rfl, fun h => absurd h (ne_false_of_eq_true hgood),
      fun h => absurd h (ne_false_of_eq_true hgood)⟩
  · obtain ⟨hstage4, hlink4, hkeep, hup, hcount⟩ :=
      badHeader_counts s3 f k _ (Err.LANE_FEC_UNCORRECTABLE f) hf rfl (by simp [Err.LANE_FEC_UNCORRECTABLE]) s4
        (if_neg hgood)
    have hcnt : (Ctr.CNT_HEADER_CRC_ERRORS f).fld ∈ countedFields f := by simp [countedFields]
    exact ⟨(h3.stages.trans hstage4).trans hstage5, by rw [hlink5, hlink4, h3.good], by rw [hlink5, hlink4, h3.farWho],
      fun h => errUp_of_laneWork f hwork5 (hkeep (hwords3 h)) hf rfl rfl,
      fun _ => errUp_of_laneWork f hwork5 hup hf rfl rfl,
      fun _ => by rw [hwork5.counts f hf _ hcnt, hcount, h3.work.counts f hf _ hcnt]⟩

/-! ### A link in DETECT, TRAIN or LOCK (R279, R290) -/

theorem frameLand_early (f j : Nat) (frame : RxFrame) (s : State) (hst : s.stageOf (32 * f + j) < 2) :
    exec (.frameLand f j frame) s = .next s := if_pos (.inr (.inr hst))

theorem frameLand_uncorrectable (f j : Nat) (frame : RxFrame) (s : State) (hf : f < 8) (hj : j < 32)
    (hst : 2 ≤ s.stageOf (32 * f + j)) (hbad : frame.errors.any (fun e => 15 < e) = true) :
    completes (.frameLand f j frame) s fun t => errUp t (Err.LANE_FEC_UNCORRECTABLE f) := by
  obtain ⟨i0, i1, t, hexec, hchecked, -⟩ := frameLand_eq f j frame s hf hj hst
  have hup := hchecked.words (uncorrectable_pos i0 hbad)
  exact ⟨_, hexec, errUp_of_laneWork f ((laneWork.refl t).takeFrame (by omega)) hup hf rfl rfl⟩

theorem frameLand_good (f j : Nat) (frame : RxFrame) (s : State) (hf : f < 8) (hj : j < 32)
    (hst : s.stageOf (32 * f + j) = 2) (hinj : s.rd (Hdr.INJ_COUNT (0x20 + 4 * f)) = 0)
    (hhdr : hdrOk frame.header = true) (hmsg : hdrNum (msgOf frame.header) 0 1 ≠ 2) (hguard : frame.guard = true)
    (hwords : frame.errors.all (fun e => e ≤ 15) = true) : completes (.frameLand f j frame) s fun t =>
      (t.link (32 * f + j)).good = (s.link (32 * f + j)).good + 1 ∧ t.stageOf (32 * f + j) = 2 := by
  obtain ⟨i0, i1, t, hexec, hchecked, hnone⟩ := frameLand_eq f j frame s hf hj (by omega)
  obtain ⟨rfl, rfl⟩ := hnone hinj
  refine ⟨_, hexec, ?_⟩
  rw [State.takeFrame, if_pos hst, if_neg (fun h => hmsg h.2)]
  constructor
  · rw [link_setLink_same]
    simp [hhdr, hguard, uncorrectable_zero hwords, hchecked.good]
  · exact (hchecked.stages.setLink _).trans hst

theorem frameLand_badHeader (f j : Nat) (frame : RxFrame) (s : State) (hf : f < 8) (hj : j < 32)
    (hst : s.stageOf (32 * f + j) = 2) (hhdr : hdrOk frame.header = false) : completes (.frameLand f j frame) s fun t =>
      (t.link (32 * f + j)).good = 0 ∧ errUp t (Err.LANE_HEADER_CRC f) ∧
        t.rd (Ctr.CNT_HEADER_CRC_ERRORS f).fld = (s.rd (Ctr.CNT_HEADER_CRC_ERRORS f).fld + 1) % 2 ^ 64 := by
  obtain ⟨i0, i1, t, hexec, hchecked, -⟩ := frameLand_eq f j frame s hf hj (by omega)
  have hbad : (hdrOk frame.header && !i1) = false := by simp [hhdr]
  rw [hbad] at hexec hchecked
  refine ⟨_, hexec, ?_⟩
  simp only [State.takeFrame, if_pos hst, Bool.false_eq_true, false_and, if_false]
  refine ⟨?_, hchecked.header rfl, (rd_setLink ..).trans (hchecked.counted rfl)⟩
  rw [link_setLink_same]

/-! ### An ACTIVE link and its far end (R294) -/

/-- A good frame that names another far end than the EXCHANGE did ends an ACTIVE link. -/
theorem activeLand_otherEnd (s : State) (f j : Nat) (frame : RxFrame) (hf : f < 8) (hj : j < 32)
    (hwho : [hdrNum frame.header 8 4 % 2 ^ 20, hdrNum frame.header 3 1 / 32, hdrNum frame.header 3 1 % 32] ≠
      (s.link (32 * f + j)).farWho) : (s.activeLand (32 * f + j) frame true).stageOf (32 * f + j) = 0 := by
  unfold State.activeLand
  rw [if_pos ⟨rfl, hwho⟩]
  exact stageOf_activeExit s f j 16 .doubled hf hj

theorem laterLand_otherEnd (s : State) (f j : Nat) (frame : RxFrame) (hf : f < 8) (hj : j < 32)
    (hst : s.stageOf (32 * f + j) = 4)
    (hwho : [hdrNum frame.header 8 4 % 2 ^ 20, hdrNum frame.header 3 1 / 32, hdrNum frame.header 3 1 % 32] ≠
      (s.link (32 * f + j)).farWho) : (s.laterLand (32 * f + j) frame true).stageOf (32 * f + j) = 0 := by
  unfold State.laterLand
  extract_lets f' j' hdr msg l l1 _ s1 s2 s3
  have hactive : s.isActive (32 * f + j) = true := by simp [State.isActive, hst]
  have hl1 : l1.farWho = (s.link (32 * f + j)).farWho := by
    unfold l1
    split
    · rfl
    · rfl
  have h2 : s2.link (32 * f + j) = l1 := (link_congr (hears.refl s1).headerTime.links _).trans (link_setLink_same ..)
  have h3 : s3.link (32 * f + j) = l1 := (link_congr (catchUp_links ..) _).trans h2
  clear_value s2 s3
  rw [if_neg (by decide)]
  split
  · exact stageOf_activeExit s2 f j 17 .doubled hf hj
  · split
    · exact stageOf_activeExit s3 f j 19 .one hf hj
    · exact activeLand_otherEnd s3 f j frame hf hj (by rwa [h3, hl1])

theorem frameLand_otherEnd (f j : Nat) (frame : RxFrame) (s : State) (hf : f < 8) (hj : j < 32)
    (hst : s.stageOf (32 * f + j) = 4) (hinj : s.rd (Hdr.INJ_COUNT (0x20 + 4 * f)) = 0)
    (hhdr : hdrOk frame.header = true)
    (hwho : [hdrNum frame.header 8 4 % 2 ^ 20, hdrNum frame.header 3 1 / 32, hdrNum frame.header 3 1 % 32] ≠
      (s.link (32 * f + j)).farWho) : completes (.frameLand f j frame) s fun t => t.stageOf (32 * f + j) = 0 := by
  obtain ⟨i0, i1, t, hexec, hchecked, hnone⟩ := frameLand_eq f j frame s hf hj (by omega)
  obtain ⟨rfl, rfl⟩ := hnone hinj
  refine ⟨_, hexec, ?_⟩
  rw [State.takeFrame, if_neg (by omega), hhdr]
  exact laterLand_otherEnd t f j frame hf hj ((hchecked.stages _).trans hst) (hchecked.farWho ▸ hwho)

/-- Settles O36: one lemma for each clause; `frameLand_eq` parts the checks of a frame from what the link's stage does
with it. -/
theorem framesLand : Obligations.FramesLand :=
  ⟨frameLand_early, frameLand_uncorrectable, frameLand_good, frameLand_badHeader, frameLand_otherEnd⟩

end Sys2Proof.Machine
end

section
/-! ## The counters of a Ferry's CNT page, read by a word (R114, R115, R325) -/

namespace Sys2Proof.Machine

/-- A word read at a counter's LO offset answers its low half, by whatever path, where no snapshot is in view. -/
theorem readPage_counterLo (s : State) (path : Sys2Proof.Path) (page n : Nat) (hn : n < numCounters page)
    (hoff : n < 24) (hview : s.is (Hdr.SNAP_VIEW page) = false) :
    (s.readPage path page (0x40 + 8 * n)).1 = s.rd (pageCtr page n).fld % 2 ^ 32 := by
  have hnum : (0x40 + 8 * n - 0x40) / 8 = n := by omega
  have hlow : (0x40 + 8 * n) % 8 = 0 := by omega
  have hlive : s.ctrView page n = s.rd (pageCtr page n).fld := if_neg (by simp [hview])
  rw [State.readPage, if_neg (by omega), if_pos (by omega), State.counterWord, hnum, if_neg (by omega), if_pos hlow,
    ctrReadLo_eq, hlive]

theorem numCounters_ferryCnt (f : Nat) (hf : f < 8) : numCounters (0x22 + 4 * f) = 22 := by
  have hall : ∀ f < 8, numCounters (0x22 + 4 * f) = 22 := by decide
  exact hall f hf

/-- The counts of a Ferry's replays and detours, in the order of R325. -/
def replayCounters (f : Nat) : List Ctr :=
  [Ctr.CNT_REPLAYS_SENT f, Ctr.CNT_NAK_SHEAVES_RX f, Ctr.CNT_DEADLINE_MISSES f, Ctr.CNT_DUPLICATES_RX f,
   Ctr.CNT_DETOUR_SHEAVES_TX f, Ctr.CNT_DETOUR_FORWARDED f, Ctr.CNT_LINKS_FAILED f]

theorem replayCounters_getD : ∀ f < 8, ∀ k < 7,
    (replayCounters f).getD k ⟨0, 0, false⟩ = pageCtr (0x22 + 4 * f) (15 + k) := by decide

/-- Settles O19: each of the seven is the page's counter of its number, and a word's read finds it there. -/
theorem replayCountersStandInOrder : Obligations.ReplayCountersStandInOrder := by
  intro f hf k hk path s hview c
  have hc : c = pageCtr (0x22 + 4 * f) (15 + k) := replayCounters_getD f hf k hk
  have hoff : 0x0B8 + 8 * k = 0x40 + 8 * (15 + k) := by omega
  rw [hc, hoff]
  exact ⟨rfl, rfl, readPage_counterLo s path _ _ (by rw [numCounters_ferryCnt f hf]; omega) (by omega) hview⟩

end Sys2Proof.Machine
end

section
/-! ## Spares, detours and sheaves passed on (R306, R307, R310 to R317, R335) -/

namespace Sys2Proof.Machine

/-! ### A link's queues -/

theorem hop_setHop_same (s : State) (k : Nat) (h : Hop) : (s.setHop k h).hop k = h := mget_mset_same ..

theorem rd_setHop (s : State) (k : Nat) (h : Hop) (w : Fld) : (s.setHop k h).rd w = s.rd w := rfl

theorem hop_congr {s t : State} (h : t.hops = s.hops) (k : Nat) : t.hop k = s.hop k := by simp only [State.hop, h]

/-- A field that stands at none of the offsets of FERRY_REPLAY (R324). -/
abbrev Fld.offReplay (w : Fld) : Prop := (w.off < 0x300 ∨ 0x380 ≤ w.off) ∧ w.off < 4096 ∧ w.lo < 32

theorem key_ne_replay {w g : Fld} {j : Nat} (hw : w.offReplay) (hj : j < 32) (hoff : g.off = 0x300 + 4 * j)
    (hlo : g.lo < 32) : w.key ≠ g.key := by
  obtain ⟨hout, hplace⟩ := hw
  exact key_ne_of_place hplace ⟨by omega, hlo⟩ (.inl (by omega))

/-- Showing a link's queues changes its word of FERRY_REPLAY alone. -/
theorem rd_showHop (s : State) (k : Nat) (w : Fld) (hw : w.offReplay) : (s.showHop k).rd w = s.rd w := by
  have hj : k % 32 < 32 := Nat.mod_lt _ (by decide)
  unfold State.showHop
  rw [rd_wr_ne _ _ _ _ (key_ne_replay hw hj rfl (by simp [Reg.FERRY_REPLAY_HELD])),
    rd_wr_ne _ _ _ _ (key_ne_replay hw hj rfl (by simp [Reg.FERRY_REPLAY_QUEUED]))]

/-! ### The Shepherd's note (R323) -/

/-- The fields of SHEPHERD_LAST. -/
def lastFields : List Fld :=
  [Reg.SHEPHERD_LAST_KIND, Reg.SHEPHERD_LAST_WAVE_LINK, Reg.SHEPHERD_LAST_FERRY, Reg.SHEPHERD_LAST_BELL]

theorem regsKept_shepherdNote {s t : State} {fs : List Fld} (kind f wl : Nat) (h : regsKept s t fs)
    (hfs : ∀ g ∈ lastFields, g ∈ fs) : regsKept s (t.shepherdNote kind f wl) fs :=
  regsKept_wr _ _ (regsKept_wr _ _ (regsKept_wr _ _ (regsKept_wr _ _ h (hfs _ (by decide))) (hfs _ (by decide)))
    (hfs _ (by decide))) (hfs _ (by decide))

theorem rd_shepherdNote_off (s : State) (kind f wl : Nat) (w : Fld) (hw : ∀ g ∈ lastFields, w.key ≠ g.key) :
    (s.shepherdNote kind f wl).rd w = s.rd w :=
  regsKept_shepherdNote kind f wl (regsKept_refl s _) (fun _ h => h) w hw

theorem rd_shepherdNote (s : State) (kind f wl : Nat) :
    (s.shepherdNote kind f wl).rd Reg.SHEPHERD_LAST_KIND = kind % 8 ∧
    (s.shepherdNote kind f wl).rd Reg.SHEPHERD_LAST_FERRY = f % 8 ∧
    (s.shepherdNote kind f wl).rd Reg.SHEPHERD_LAST_WAVE_LINK = wl % 32 := by
  unfold State.shepherdNote
  simp (disch := decide) only [rd_wr_ne, rd_wr_same]
  exact ⟨rfl, rfl, rfl⟩

/-! ### Spares (R306, R307) -/

/-- The register fields that commanding heaters may change: the report of a bad crosstalk row, and the clamps. -/
def commandFields : List Fld :=
  [0, 1].flatMap fun p => [Reg.HEARTH_XT_BAD_VALID p, Reg.HEARTH_XT_BAD_FERRY p, Reg.HEARTH_XT_BAD_ROW p,
    (Ctr.HEARTH_CLAMPS p).fld, Hdr.CNT_OVF (Ctr.HEARTH_CLAMPS p).page] ++ raiseFields (Err.HEARTH_XT_MATRIX_BAD p).page

theorem commandFields_clamps : ∀ p < 2, (Ctr.HEARTH_CLAMPS p).fld ∈ commandFields ∧
    Hdr.CNT_OVF (Ctr.HEARTH_CLAMPS p).page ∈ commandFields := by decide

theorem commandFields_raise : ∀ p < 2, ∀ g ∈ raiseFields (Err.HEARTH_XT_MATRIX_BAD p).page, g ∈ commandFields := by
  decide

theorem owner_getD_lt (s : State) : s.owner.getD 0 < 2 := by
  cases h : s.owner with
  | none => exact Nat.zero_lt_two
  | some o => exact owner_lt h

theorem regsKept_noteRow (s : State) (h i : Nat) : regsKept s (s.noteRow h i) commandFields := by
  unfold State.noteRow
  refine regsKept_ite (regsKept_refl _ _) ?_
  extract_lets _ s1 s2
  have h2 : regsKept s1 s2 commandFields := by
    simp only [s2, List.foldl_cons, List.foldl_nil]
    refine regsKept_wr _ _ (regsKept_wr _ _ (regsKept_wr _ _ (regsKept_wr _ _ (regsKept_wr _ _ (regsKept_wr _ _
      (regsKept_refl _ _) ?_) ?_) ?_) ?_) ?_) ?_ <;> decide
  refine regsKept_trans (regsKept_trans (regsKept_of_regs _ rfl) h2) (regsKept_mono (regsKept_raise _ _
    (regsKept_refl _ _)) (commandFields_raise _ (owner_getD_lt s)))

theorem regsKept_commandHeater (s : State) (h i : Nat) (hh : h < 2) :
    regsKept s (s.commandHeater h i) commandFields := by
  unfold State.commandHeater
  extract_lets u pc pfs c s1 s2
  have h1 : regsKept s s1 commandFields := regsKept_noteRow s h i
  have h2 : regsKept s s2 commandFields :=
    regsKept_ite h1 (regsKept_bump _ _ h1 (commandFields_clamps h hh).1 (commandFields_clamps h hh).2)
  exact regsKept_upd h2 (setHearth_regs ..)

theorem regsKept_foldl {β : Type} {fs : List Fld} {g : State → β → State} (l : List β) (s : State)
    (hg : ∀ a, ∀ x ∈ l, regsKept a (g a x) fs) : regsKept s (l.foldl g s) fs := by
  induction l generalizing s with
  | nil => exact regsKept_refl _ _
  | cons x l ih =>
    exact regsKept_trans (hg s x List.mem_cons_self) (ih (g s x) fun a y hy => hg a y (List.mem_cons_of_mem _ hy))

theorem regsKept_setTargets (s : State) (h : Nat) (ts : List (Nat × Int)) (hh : h < 2) :
    regsKept s (s.setTargets h ts) commandFields := by
  unfold State.setTargets
  exact regsKept_trans (regsKept_of_regs _ (setHearth_regs ..))
    (regsKept_foldl _ _ fun a i _ => regsKept_commandHeater a h i hh)

/-- A lane's loop that goes over to another unit changes no register field but those of the heaters' commands. -/
theorem regsKept_spareLoop (s : State) (f j q : Nat) : regsKept s (s.spareLoop f j q) commandFields := by
  unfold State.spareLoop
  refine regsKept_foldl [0, 1] s fun a h hh => regsKept_ite (regsKept_refl _ _) ?_
  exact regsKept_trans (regsKept_of_regs _ (setHearth_regs ..)) (regsKept_setTargets _ h _ (by
    simp only [List.mem_cons, List.not_mem_nil, or_false] at hh
    omega))

theorem componentSpare_moves (f w : Nat) (s : State) (hf : f < 8) (hw : w < 32) (htrig : s.spareTrigger f w 0 = true)
    (hauto : s.is Reg.SHEPHERD_CTRL_AUTO_SPARE = true) (hfree : s.spareMod f w = false) :
    completes (.componentSpare f w 0) s fun t => bit (t.rd (Reg.HTR_SPARE_MOD_LANES f)) w = true ∧
      t.rd Reg.SHEPHERD_LAST_KIND = 1 ∧ errUp t Err.SHEPHERD_SPARE_MOD ∧
      t.rd Ctr.SHEPHERD_SPARES_MOD.fld = (s.rd Ctr.SHEPHERD_SPARES_MOD.fld + 1) % 2 ^ 64 := by
  have hlanes : ∀ f < 8, ∀ g ∈ commandFields ++ Ctr.SHEPHERD_SPARES_MOD.fld ::
      Hdr.CNT_OVF Ctr.SHEPHERD_SPARES_MOD.page :: raiseFields Err.SHEPHERD_SPARE_MOD.page,
      (Reg.HTR_SPARE_MOD_LANES f).key ≠ g.key := by decide
  have hfixed : ∀ f < 8, Reg.SHEPHERD_LAST_KIND.key ≠ (Reg.HTR_SPARE_MOD_LANES f).key ∧
      Ctr.SHEPHERD_SPARES_MOD.fld.key ≠ (Reg.HTR_SPARE_MOD_LANES f).key := by decide
  obtain ⟨hkind, hcount⟩ := hfixed f hf
  have hexec : execComponentSpare f w 0 s = ok ((s.shepherdNote 1 f w).moveSpare f w 0) := by
    rw [execComponentSpare, if_neg (by simp [htrig]; omega), if_neg (by simp [hauto]),
      if_pos (by simp [State.spareFree, hfree])]
  refine ⟨_, hexec, ?_⟩
  rw [State.moveSpare, if_pos rfl]
  have hloop (u : State) := regsKept_spareLoop u f w 1
  refine ⟨?_, ?_, raise_sets _ _ _ (by decide) (by decide), ?_⟩
  · have hkeep (u : State) : ((((u.spareLoop f w 1).bump Ctr.SHEPHERD_SPARES_MOD 1).raise
        Err.SHEPHERD_SPARE_MOD).rd (Reg.HTR_SPARE_MOD_LANES f)) = u.rd (Reg.HTR_SPARE_MOD_LANES f) :=
      regsKept_trans (regsKept_mono (hloop u) fun _ h => List.mem_append_left _ h) (regsKept_trans
        (regsKept_bump _ _ (regsKept_refl _ _) (by simp) (by simp)) (regsKept_mono (regsKept_raise _ _
        (regsKept_refl _ _)) fun _ h => by simp [h])) _ (hlanes f hf)
    rw [hkeep, rd_wr_same]
    exact (bit_mod _ _ _ hw).trans (bit_setBit_same _ _)
  · rw [rd_raise_ne _ _ _ _ (by decide), rd_bump_ne _ _ _ _ (by decide) (by decide), hloop _ _ (by decide),
      rd_wr_ne _ _ _ _ hkind]
    exact (rd_shepherdNote ..).1
  · rw [rd_raise_ne _ _ _ _ (by decide), rd_bump_same _ _ _ (by decide), hloop _ _ (by decide),
      rd_wr_ne _ _ _ _ hcount, rd_shepherdNote_off _ _ _ _ _ (by decide)]

theorem componentSpare_exhausted (f w kind : Nat) (s : State) (hf : f < 8) (hw : w < 32) (hk : kind < 3)
    (htrig : s.spareTrigger f w kind = true) (hauto : s.is Reg.SHEPHERD_CTRL_AUTO_SPARE = true)
    (hfree : s.spareFree f w kind = false) (hnew : s.shepherd.exhausted.contains (96 * f + 3 * w + kind) = false) :
    completes (.componentSpare f w kind) s fun t =>
      t.shepherd = { s.shepherd with exhausted := s.shepherd.exhausted ++ [96 * f + 3 * w + kind] } ∧
      t.rd Reg.SHEPHERD_LAST_KIND = 4 ∧ errUp t Err.SHEPHERD_SPARE_EXHAUSTED := by
  have hexec : execComponentSpare f w kind s = ok (({ s with shepherd := { s.shepherd with
      exhausted := s.shepherd.exhausted ++ [96 * f + 3 * w + kind] } }.shepherdNote 4 f w).raise
        Err.SHEPHERD_SPARE_EXHAUSTED) := by
    rw [execComponentSpare, if_neg (by simp [htrig]; omega), if_neg (by simp [hauto]), if_neg (by simp [hfree])]
    exact if_neg (by rw [hnew]; decide)
  refine ⟨_, hexec, raise_shepherd .., ?_, raise_sets _ _ _ (by decide) (by decide)⟩
  rw [rd_raise_ne _ _ _ _ (by decide)]
  exact (rd_shepherdNote ..).1

/-- A note changes registers alone. -/
theorem frame_shepherdNote (s : State) (kind f wl : Nat) : frame [.regs] s (s.shepherdNote kind f wl) := by
  intro p hp
  cases p with
  | regs => exact absurd List.mem_cons_self hp
  | _ => rfl

theorem componentSpare_records (f w kind : Nat) (s : State) (hf : f < 8) (hw : w < 32) (hk : kind < 3)
    (htrig : s.spareTrigger f w kind = true) (hauto : s.is Reg.SHEPHERD_CTRL_AUTO_SPARE = false) :
    completes (.componentSpare f w kind) s fun t => t.rd Reg.SHEPHERD_LAST_KIND = kind + 1 ∧
      t.rd Reg.SHEPHERD_LAST_FERRY = f ∧ t.rd Reg.SHEPHERD_LAST_WAVE_LINK = w ∧ frame [.regs] s t := by
  have hexec : execComponentSpare f w kind s = ok (s.shepherdNote (kind + 1) f w) := by
    rw [execComponentSpare, if_neg (by simp [htrig]; omega), if_pos (by simp [hauto])]
  obtain ⟨hkind, hferry, hwave⟩ := rd_shepherdNote s (kind + 1) f w
  exact ⟨_, hexec, hkind.trans (Nat.mod_eq_of_lt (by omega)), hferry.trans (Nat.mod_eq_of_lt hf),
    hwave.trans (Nat.mod_eq_of_lt hw), frame_shepherdNote _ _ _ _⟩

/-! ### The error of a link (R319) -/

theorem regsKept_raiseTasks (s : State) (e : ErrBit) (tags : List EntryTag) (o : Occ) :
    regsKept s (s.raiseTasks e tags o) (raiseFields e.page) := by
  unfold State.raiseTasks
  split
  · exact regsKept_raise _ _ (regsKept_refl _ _)
  · exact regsKept_trans (regsKept_raise _ _ (regsKept_refl _ _))
      (regsKept_foldl _ _ fun _ _ _ => regsKept_log _ _ (regsKept_refl _ _))

theorem raiseTasks_hops (s : State) (e : ErrBit) (tags : List EntryTag) (o : Occ) :
    (s.raiseTasks e tags o).hops = s.hops := by
  unfold State.raiseTasks
  split
  · exact raise_hops ..
  · rw [foldl_keeps State.hops _ fun a _ => by rw [log_eq], raise_hops]

theorem raiseTasks_errUp (s : State) (e : ErrBit) (tags : List EntryTag) (o : Occ) (hp : e.page < 256)
    (hb : e.bit < 32) : errUp (s.raiseTasks e tags o) e := by
  unfold State.raiseTasks
  split
  · exact raise_sets _ _ _ hp hb
  · exact List.foldlRecOn (motive := fun u => errUp u e) _ _ (raise_sets _ _ _ hp hb)
      fun _ hu _ _ => log_keeps _ _ _ _ hp hb hu

theorem raiseFields_offReplay (p : Nat) : ∀ g ∈ raiseFields p, g.offReplay := by
  have hfixed : ∀ g ∈ alarmFields ++ ledgerFields, g.offReplay := by decide
  intro g hg
  rcases List.mem_append.1 hg with hg | hg
  · simp only [errFields, List.mem_cons, List.not_mem_nil, or_false] at hg
    rcases hg with rfl | rfl | rfl | rfl <;> exact of_decide_eq_true rfl
  · exact hfixed g hg

/-! ### Detours (R310, R311, R315) -/

theorem detour_key_ne {f j : Nat} (hj : j < 32) {g : Fld} (hg : g.offReplay) :
    (Reg.FERRY_REPLAY_DETOUR f j).key ≠ g.key :=
  (key_ne_replay hg hj rfl (by simp [Reg.FERRY_REPLAY_DETOUR])).symm

/-- The end of a start or a withdrawal: it is counted, noted, announced and shown (R311, R315, R316, R323). -/
def State.tellDetour (s : State) (c : Ctr) (kind f j ann : Nat) : State :=
  (((s.bump c 1).shepherdNote kind f j).announceDetour (32 * f + j) ann).showDetours

/-- What `tellDetour` does after the count, of the registers. -/
theorem rd_tellDetour (s : State) (c : Ctr) (kind f j ann : Nat) (w : Fld)
    (hw : w.key ≠ Reg.SHEPHERD_DETOURS_FERRIES.key) :
    (s.tellDetour c kind f j ann).rd w = ((s.bump c 1).shepherdNote kind f j).rd w := by
  unfold State.tellDetour State.showDetours State.announceDetour
  rw [rd_wr_ne _ _ _ _ hw, rd_setHop]

theorem rd_tellDetour_mark (s : State) (c : Ctr) (kind f j ann : Nat) (hj : j < 32)
    (hc : decide (c.n < 60) = true) :
    (s.tellDetour c kind f j ann).rd (Reg.FERRY_REPLAY_DETOUR f j) = s.rd (Reg.FERRY_REPLAY_DETOUR f j) := by
  have hn : c.n < 60 := of_decide_eq_true hc
  have hlast : ∀ g ∈ lastFields, g.offReplay := by decide
  rw [rd_tellDetour _ _ _ _ _ _ _ (detour_key_ne hj (by decide)),
    rd_shepherdNote_off _ _ _ _ _ fun g hg => detour_key_ne hj (hlast g hg),
    rd_bump_ne _ _ _ _ (detour_key_ne hj (by simp only [Fld.offReplay, Ctr.fld]; omega))
      (detour_key_ne hj (by simp [Fld.offReplay, Hdr.CNT_OVF]))]

theorem rd_tellDetour_count (s : State) (c : Ctr) (kind f j ann : Nat)
    (hc : c ∈ [Ctr.SHEPHERD_DETOURS_STARTED, Ctr.SHEPHERD_DETOURS_WITHDRAWN]) :
    (s.tellDetour c kind f j ann).rd c.fld = (s.rd c.fld + 1) % 2 ^ 64 := by
  have hfields : ∀ c ∈ [Ctr.SHEPHERD_DETOURS_STARTED, Ctr.SHEPHERD_DETOURS_WITHDRAWN],
      ∀ g ∈ Reg.SHEPHERD_DETOURS_FERRIES :: Hdr.CNT_OVF c.page :: lastFields, c.fld.key ≠ g.key := by decide
  obtain ⟨hshow, hne⟩ := List.forall_mem_cons.1 (hfields c hc)
  obtain ⟨hovf, hlast⟩ := List.forall_mem_cons.1 hne
  rw [rd_tellDetour _ _ _ _ _ _ _ hshow, rd_shepherdNote_off _ _ _ _ _ hlast, rd_bump_same _ _ _ hovf]

theorem rd_tellDetour_kind (s : State) (c : Ctr) (kind f j ann : Nat) :
    (s.tellDetour c kind f j ann).rd Reg.SHEPHERD_LAST_KIND = kind % 8 := by
  rw [rd_tellDetour _ _ _ _ _ _ _ (by decide), (rd_shepherdNote ..).1]

theorem showDetours_hops (s : State) : s.showDetours.hops = s.hops := rfl

theorem hop_tellDetour (s : State) (c : Ctr) (kind f j ann : Nat) :
    (s.tellDetour c kind f j ann).hop (32 * f + j) =
      { s.hop (32 * f + j) with ann := ann, annAt := s.ticks, annBell := s.bellNum % 65536 } := by
  have hhop : ((s.bump c 1).shepherdNote kind f j).hop (32 * f + j) = s.hop (32 * f + j) :=
    hop_congr (bump_hops ..) _
  have hticks : ((s.bump c 1).shepherdNote kind f j).ticks = s.ticks := bump_ticks ..
  have hbell : ((s.bump c 1).shepherdNote kind f j).bellNum = s.bellNum := bump_bellNum ..
  unfold State.tellDetour
  rw [hop_congr (showDetours_hops _), State.announceDetour, hop_setHop_same, hhop, hticks, hbell]

theorem raiseLink_keeps (s : State) (e : Nat → ErrBit) (f j : Nat) (hj : j < 32) :
    regsKept s (s.raiseLink e (32 * f + j)) (raiseFields (e f).page) ∧
      (s.raiseLink e (32 * f + j)).hops = s.hops := by
  unfold State.raiseLink
  rw [linkNum_div f j hj]
  exact ⟨regsKept_raiseTasks _ _ _ _, raiseTasks_hops ..⟩

theorem raiseLink_errUp (s : State) (e : Nat → ErrBit) (f j : Nat) (hj : j < 32) (hp : (e f).page < 256)
    (hb : (e f).bit < 32) : errUp (s.raiseLink e (32 * f + j)) (e f) := by
  unfold State.raiseLink
  rw [linkNum_div f j hj]
  exact raiseTasks_errUp _ _ _ _ hp hb

/-- The detour `d` of a link comes into force: of the sheaves that its queues `h` hold, those that were not on a detour
already go its way (R311). -/
def State.onDetour (s : State) (f j : Nat) (h : Hop) (d : Detour) : State :=
  let k := 32 * f + j
  ((s.setHop k { s.hop k with
      detour := some d, held := h.held.filter (fun x => x.sheaf.detoured),
      folded := h.folded ++ (h.held.filter (fun x => !x.sheaf.detoured)).map (detoured d.target) }).showHop k).wr
    (Reg.FERRY_REPLAY_DETOUR f j) 1

theorem hop_onDetour (s : State) (f j : Nat) (h : Hop) (d : Detour) :
    ((s.onDetour f j h d).hop (32 * f + j)).detour = some d ∧
      ((s.onDetour f j h d).hop (32 * f + j)).decided = (s.hop (32 * f + j)).decided := by
  unfold State.onDetour State.showHop
  extract_lets k h1 h2
  have hhop (u : State) (a b c : Fld) (x y z : Nat) : (((u.wr a x).wr b y).wr c z).hop k = u.hop k := rfl
  rw [hhop, hop_setHop_same]
  exact ⟨rfl, rfl⟩

theorem rd_onDetour_off (s : State) (f j : Nat) (h : Hop) (d : Detour) (hj : j < 32) (w : Fld) (hw : w.offReplay) :
    (s.onDetour f j h d).rd w = s.rd w := by
  unfold State.onDetour
  extract_lets k h1
  rw [rd_wr_ne _ _ _ _ (detour_key_ne hj hw).symm, rd_showHop _ _ _ hw]
  rfl

theorem detourStart_found (f j left : Nat) (d : Detour) (s : State) (hf : f < 8) (hj : j < 32)
    (hleft : (s.hop (32 * f + j)).leftAt = some left) (hdue : left + 2 ≤ s.ticks)
    (hdown : s.isActive (32 * f + j) = false) (hnew : (s.hop (32 * f + j)).decided = false)
    (hoff : s.is (Reg.FERRY_REPLAY_DETOUR f j) = false) (hd : s.detourOf (32 * f + j) = some d) :
    completes (.detourStart f j) s fun t => t.rd (Reg.FERRY_REPLAY_DETOUR f j) = 1 ∧
      (t.hop (32 * f + j)).detour = some d ∧ (t.hop (32 * f + j)).decided = true ∧ (t.hop (32 * f + j)).ann = 1 ∧
      errUp t (Err.LANE_DETOUR_ACTIVE f) ∧
      t.rd Ctr.SHEPHERD_DETOURS_STARTED.fld = (s.rd Ctr.SHEPHERD_DETOURS_STARTED.fld + 1) % 2 ^ 64 := by
  have hexec : execDetourStart f j s = ok ((((s.setHop (32 * f + j) { s.hop (32 * f + j) with decided := true }).onDetour
      f j (s.hop (32 * f + j)) d).tellDetour Ctr.SHEPHERD_DETOURS_STARTED 5 f j 1).raiseLink Err.LANE_DETOUR_ACTIVE
      (32 * f + j)) := by
    simp only [execDetourStart, hleft]
    rw [if_neg (by simp [hdown, hnew]; omega), if_neg (by simp [hoff]), hd]
    rfl
  refine ⟨_, hexec, ?_⟩
  have hcount : ∀ f < 8, ∀ g ∈ raiseFields (Err.LANE_DETOUR_ACTIVE f).page,
      Ctr.SHEPHERD_DETOURS_STARTED.fld.key ≠ g.key := by decide
  obtain ⟨hdet, hdec⟩ := hop_onDetour (s.setHop (32 * f + j) { s.hop (32 * f + j) with decided := true }) f j
    (s.hop (32 * f + j)) d
  have hmark : ((s.setHop (32 * f + j) { s.hop (32 * f + j) with decided := true }).onDetour f j (s.hop (32 * f + j)) d).rd
      (Reg.FERRY_REPLAY_DETOUR f j) = 1 := rd_wr_same ..
  have hpre := rd_onDetour_off (s.setHop (32 * f + j) { s.hop (32 * f + j) with decided := true }) f j
    (s.hop (32 * f + j)) d hj Ctr.SHEPHERD_DETOURS_STARTED.fld (by decide)
  rw [hop_setHop_same] at hdec
  generalize (s.setHop (32 * f + j) { s.hop (32 * f + j) with decided := true }).onDetour f j
    (s.hop (32 * f + j)) d = u at *
  obtain ⟨hregs, hhops⟩ := raiseLink_keeps (u.tellDetour Ctr.SHEPHERD_DETOURS_STARTED 5 f j 1) Err.LANE_DETOUR_ACTIVE f j
    hj
  have hhop := (hop_congr hhops (32 * f + j)).trans (hop_tellDetour u _ 5 f j 1)
  refine ⟨?_, by rw [hhop]; exact hdet, by rw [hhop]; exact hdec, by rw [hhop], raiseLink_errUp _ _ _ _ hj
    (by simp only [Err.LANE_DETOUR_ACTIVE]; omega) (by simp [Err.LANE_DETOUR_ACTIVE]), ?_⟩
  · rw [hregs _ fun g hg => detour_key_ne hj (raiseFields_offReplay _ g hg), rd_tellDetour_mark _ _ _ _ _ _ hj rfl, hmark]
  · rw [hregs _ (hcount f hf), rd_tellDetour_count _ _ _ _ _ _ (by decide), hpre]
    rfl

theorem detourStart_none (f j left : Nat) (s : State) (hf : f < 8) (hj : j < 32)
    (hleft : (s.hop (32 * f + j)).leftAt = some left) (hdue : left + 2 ≤ s.ticks)
    (hdown : s.isActive (32 * f + j) = false) (hnew : (s.hop (32 * f + j)).decided = false)
    (hoff : s.is (Reg.FERRY_REPLAY_DETOUR f j) = false) (hd : s.detourOf (32 * f + j) = none) :
    completes (.detourStart f j) s fun t => t.hop (32 * f + j) = { s.hop (32 * f + j) with decided := true } ∧
      t.rd Reg.SHEPHERD_LAST_KIND = 7 ∧ errUp t (Err.LANE_DETOUR_NONE f) := by
  have hexec : execDetourStart f j s = ok (((s.setHop (32 * f + j) { s.hop (32 * f + j) with
      decided := true }).shepherdNote 7 f j).raiseLink Err.LANE_DETOUR_NONE (32 * f + j)) := by
    simp only [execDetourStart, hleft]
    rw [if_neg (by simp [hdown, hnew]; omega), if_neg (by simp [hoff]), hd]
  have hkind : ∀ f < 8, ∀ g ∈ raiseFields (Err.LANE_DETOUR_NONE f).page, Reg.SHEPHERD_LAST_KIND.key ≠ g.key := by
    decide
  obtain ⟨hregs, hhops⟩ := raiseLink_keeps ((s.setHop (32 * f + j) { s.hop (32 * f + j) with
    decided := true }).shepherdNote 7 f j) Err.LANE_DETOUR_NONE f j hj
  refine ⟨_, hexec, (hop_congr hhops _).trans (hop_setHop_same ..), ?_, raiseLink_errUp _ _ _ _ hj
    (by simp only [Err.LANE_DETOUR_NONE]; omega) (by simp [Err.LANE_DETOUR_NONE])⟩
  rw [hregs _ (hkind f hf)]
  exact (rd_shepherdNote ..).1

theorem detourWithdraw_completes (f j back : Nat) (s : State) (hf : f < 8) (hj : j < 32)
    (hback : (s.hop (32 * f + j)).backAt = some back) (hdue : back + 2 ≤ s.ticks)
    (hup : s.isActive (32 * f + j) = true) (hon : s.is (Reg.FERRY_REPLAY_DETOUR f j) = true) :
    completes (.detourWithdraw f j) s fun t => t.rd (Reg.FERRY_REPLAY_DETOUR f j) = 0 ∧
      (t.hop (32 * f + j)).leftAt = none ∧ (t.hop (32 * f + j)).ann = 2 ∧ t.rd Reg.SHEPHERD_LAST_KIND = 6 ∧
      t.rd Ctr.SHEPHERD_DETOURS_WITHDRAWN.fld = (s.rd Ctr.SHEPHERD_DETOURS_WITHDRAWN.fld + 1) % 2 ^ 64 := by
  have hexec : execDetourWithdraw f j s = ok (((s.setHop (32 * f + j) { s.hop (32 * f + j) with
      leftAt := none, decided := false }).wr (Reg.FERRY_REPLAY_DETOUR f j) 0).tellDetour Ctr.SHEPHERD_DETOURS_WITHDRAWN
      6 f j 2) := by
    simp only [execDetourWithdraw, hback]
    rw [if_neg (by simp [hup, hon]; omega)]
    rfl
  refine ⟨_, hexec, ?_, ?_, ?_, rd_tellDetour_kind .., ?_⟩
  · rw [rd_tellDetour_mark _ _ _ _ _ _ hj rfl, rd_wr_same, Nat.zero_mod]
  · rw [hop_tellDetour]
    exact congrArg Hop.leftAt (hop_setHop_same ..)
  · rw [hop_tellDetour]
  · rw [rd_tellDetour_count _ _ _ _ _ _ (by decide), rd_wr_ne _ _ _ _ (detour_key_ne hj (by decide)).symm]
    rfl

/-! ### Sheaves passed on, and the cap of a hold episode (R313, R317, R333 to R336) -/

/-- A sheaf passed on: it takes one more hop, and belongs to no task here (R334). -/
def passedOn (d : Transit) : Held := freshHeld 64 { d.sheaf with hops := d.sheaf.hops + 1 } none

/-- The state in which a transit sheaf is no longer waiting to be placed. -/
def State.taken (s : State) (d : Transit) : State :=
  { s with shepherd := { s.shepherd with transit := s.shepherd.transit.erase d } }

theorem placeNext_due (s : State) (p : Transit → Bool) (d : Transit) (hrun : s.frozen = false)
    (hdue : s.dueTransit p = some d) : s.placeNext p = (s.taken d).place d := by
  simp only [State.placeNext, hrun, hdue, Bool.false_eq_true, if_false]
  rfl

/-- The sheaf that is due is one of those asked for. -/
theorem dueTransit_some {s : State} {p : Transit → Bool} {d : Transit} (h : s.dueTransit p = some d) : p d = true := by
  have := List.find?_some h
  simp only [Bool.and_eq_true] at this
  exact this.2

theorem sheafForward_late (d : Transit) (s : State) (hrun : s.frozen = false)
    (hdue : s.dueTransit (fun d => d.target.isNone) = some d) (hhops : d.sheaf.hops < 7) (hlate : d.late = true)
    (hnoted : d.noted = true) : completes .sheafForward s fun t =>
      t.shepherd = { s.shepherd with transit := s.shepherd.transit.erase d } ∧
      (t.hop d.out).fwd = (s.hop d.out).fwd ++ [freshHeld 64 { d.sheaf with hops := d.sheaf.hops + 1 } none] ∧
      t.rd Ctr.SCHED_FORWARDED.fld = (s.rd Ctr.SCHED_FORWARDED.fld + 1) % 2 ^ 64 := by
  have htarget : d.target = none := Option.isNone_iff_eq_none.1 (dueTransit_some hdue)
  have hplace : (s.taken d).place d = (((s.taken d).bump Ctr.SCHED_FORWARDED 1).setHop d.out { (s.taken d).hop d.out with
      fwd := ((s.taken d).hop d.out).fwd ++ [passedOn d] }).bump Ctr.SCHED_LATE_FORWARDED 1 := by
    rw [State.place, if_neg (by omega)]
    simp only [htarget, hlate, if_true, hnoted, Bool.true_or]
    rfl
  refine ⟨_, congrArg ok ((placeNext_due s _ d hrun hdue).trans hplace), ?_, ?_, ?_⟩
  · rw [bump_shepherd]
    exact bump_shepherd ..
  · rw [hop_congr (bump_hops ..), hop_setHop_same]
    rfl
  · rw [rd_bump_ne _ _ _ _ (by decide) (by decide)]
    exact rd_bump_same _ _ _ (by decide)

theorem forwardSlot_congr {s t : State} (ha : t.active = s.active) (hh : t.hops = s.hops) (d : Transit) :
    t.forwardSlot d = s.forwardSlot d := by
  rw [State.forwardSlot, State.forwardSlot, ha, hop_congr hh]

theorem sheafForward_slot (d : Transit) (n : Nat) (s : State) (hrun : s.frozen = false)
    (hdue : s.dueTransit (fun d => d.target.isNone) = some d) (hhops : d.sheaf.hops < 7) (hlate : d.late = false)
    (hslot : s.forwardSlot d = some n) : completes .sheafForward s fun t =>
      t.shepherd = { s.shepherd with transit := s.shepherd.transit.erase d } ∧
      mfind (t.hop d.out).placed n = some (freshHeld 64 { d.sheaf with hops := d.sheaf.hops + 1 } none) := by
  have htarget : d.target = none := Option.isNone_iff_eq_none.1 (dueTransit_some hdue)
  have hslot' : ((s.taken d).bump Ctr.SCHED_FORWARDED 1).forwardSlot d = some n :=
    (forwardSlot_congr (bump_active ..) (bump_hops ..) d).trans hslot
  have hplace : (s.taken d).place d = ((s.taken d).bump Ctr.SCHED_FORWARDED 1).setHop d.out { (s.taken d).hop d.out with
      placed := mput ((s.taken d).hop d.out).placed n (passedOn d) } := by
    rw [State.place, if_neg (by omega)]
    simp only [htarget, hlate, Bool.false_eq_true, if_false, hslot']
    rfl
  refine ⟨_, congrArg ok ((placeNext_due s _ d hrun hdue).trans hplace), bump_shepherd .., ?_⟩
  rw [hop_setHop_same]
  exact mfind_mput_same ..

theorem detourIntermediate_completes (d : Transit) (g : Target) (s : State) (hrun : s.frozen = false)
    (hdue : s.dueTransit (fun d => d.target.isSome) = some d) (hhops : d.sheaf.hops < 7) (htarget : d.target = some g) :
    completes .detourIntermediate s fun t => t.regs = s.regs ∧
      t.shepherd = { s.shepherd with transit := s.shepherd.transit.erase d } ∧
      (t.hop d.out).fwd = (s.hop d.out).fwd ++
        [{ freshHeld 64 { d.sheaf with hops := d.sheaf.hops + 1 } none with target := some { g with next := 0 } }] := by
  have hplace : (s.taken d).place d = (s.taken d).setHop d.out { (s.taken d).hop d.out with
      fwd := ((s.taken d).hop d.out).fwd ++ [{ passedOn d with target := some { g with next := 0 } }] } := by
    rw [State.place, if_neg (by omega)]
    simp only [htarget]
    rfl
  refine ⟨_, congrArg ok ((placeNext_due s _ d hrun hdue).trans hplace), rfl, rfl, ?_⟩
  rw [hop_setHop_same]
  rfl

theorem holdEpisodeCap_completes (f j : Nat) (s : State) (hf : f < 8) (hj : j < 32)
    (hlong : 64 ≤ (s.hop (32 * f + j)).episode) (hnew : (s.hop (32 * f + j)).capped = false) :
    completes (.holdEpisodeCap f j) s fun t => t.hop (32 * f + j) = { s.hop (32 * f + j) with capped := true } ∧
      t.rd Ctr.SHEPHERD_HOLD_CAPS.fld = (s.rd Ctr.SHEPHERD_HOLD_CAPS.fld + 1) % 2 ^ 64 :=
  ⟨_, if_pos ⟨hf, hj, hlong, hnew⟩, (hop_congr (bump_hops ..) _).trans (hop_setHop_same ..),
    rd_bump_same _ _ _ (by decide)⟩

/-- Settles O39: one lemma for each clause; a start and a withdrawal of a detour end alike, in `tellDetour`. -/
theorem shepherdSparesAndDetours : Obligations.ShepherdSparesAndDetours :=
  ⟨componentSpare_moves, componentSpare_exhausted, componentSpare_records, fun _ => rfl, detourStart_found,
    detourStart_none, detourWithdraw_completes, sheafForward_late, sheafForward_slot, detourIntermediate_completes,
    holdEpisodeCap_completes⟩

end Sys2Proof.Machine
end

section
/-! ## The end of a task: what it leaves of other tasks, of its own, and of the registers (R318, R368, R372, R378) -/

namespace Sys2Proof.Machine

/-! ### The tasks -/

theorem task_setTask_ne (s : State) (n m : Nat) (t : Task) (h : m ≠ n) : (s.setTask n t).task m = s.task m :=
  mget_mset_ne _ _ _ _ _ _ h

/-- A sheaf that no task owns goes out, or is dropped, without a task's notice. -/
theorem sendOpen_tasks (s : State) (own : Nat) (x : Sheaf) (h : 64 ≤ own) : (s.sendOpen own x).tasks = s.tasks := by
  have hown : ¬ own < 64 := by omega
  unfold State.sendOpen
  extract_lets y _ s1
  have h1 : s1.tasks = s.tasks := bump_tasks ..
  clear_value s1
  split
  · exact h1
  · split
    · rw [State.dropPiece, if_neg (by simp [hown]), State.noRoute, raise_tasks, bump_tasks, h1]
    · exact h1

theorem abortNotice_tasks (s : State) (n origin reason : Nat) : (s.abortNotice n origin reason).tasks = s.tasks := by
  unfold State.abortNotice
  extract_lets t g dests _ s1
  split
  · rfl
  · exact foldl_keeps State.tasks _ (fun _ _ => sendOpen_tasks _ _ _ (Nat.le_refl _)) dests s1

theorem undefineRegion_keeps (s : State) (n : Nat) :
    (s.undefineRegion n).tasks = s.tasks ∧ (s.undefineRegion n).regs = s.regs := by
  unfold State.undefineRegion
  extract_lets d s1
  exact ⟨foldl_keeps State.tasks (fun acc i => acc.granaryPoke (descRegion d + i)
    [BitVec.ofNat 8 (Config.freeVec (acc.draws + i))]) (fun _ _ => rfl) _ s, foldl_keeps State.regs (fun acc i =>
    acc.granaryPoke (descRegion d + i) [BitVec.ofNat 8 (Config.freeVec (acc.draws + i))]) (fun _ _ => rfl) _ s⟩

theorem loseResults_keeps (s : State) (n status : Nat) :
    (s.loseResults n status).tasks = s.tasks ∧ (s.loseResults n status).regs = s.regs := by
  unfold State.loseResults
  split
  · exact undefineRegion_keeps s n
  · exact ⟨rfl, rfl⟩

/-- A flush empties the task's own send queue, and touches no other task (R318). -/
theorem flushTask_tasks (s : State) (n : Nat) :
    (s.flushTask n).tasks = (s.setTask n { s.task n with sendq := [] }).tasks := by
  unfold State.flushTask
  extract_lets t s1 opens gone
  have h1 : s1.tasks = s.tasks := foldl_keeps State.tasks _ (fun a q => by
    dsimp only
    split
    · rfl
    · exact bump_tasks ..) s.hops s
  rw [bump_tasks]
  show mset s1.tasks n { s1.task n with sendq := [] } Task.free = _
  rw [task_congr h1 n, h1]
  rfl

/-! ### The registers -/

/-- Whether a field is none of those that a task's sheaves change, sent or flushed. -/
def offSheaves (w : Fld) : Bool :=
  decide w.offReplay && (Ctr.SHEPHERD_FLUSHED_SHEAVES.fld :: Hdr.CNT_OVF Ctr.SHEPHERD_FLUSHED_SHEAVES.page ::
    sendFields).all fun g => w.key != g.key

theorem offSheaves_ne {w : Fld} (hw : offSheaves w = true) : w.offReplay ∧
    w.key ≠ Ctr.SHEPHERD_FLUSHED_SHEAVES.fld.key ∧ w.key ≠ (Hdr.CNT_OVF Ctr.SHEPHERD_FLUSHED_SHEAVES.page).key ∧
    ∀ g ∈ sendFields, w.key ≠ g.key := by
  simpa only [offSheaves, List.all_cons, Bool.and_eq_true, decide_eq_true_eq, bne_iff_ne, List.all_eq_true] using hw

theorem rd_sendOpen (s : State) (own : Nat) (x : Sheaf) (w : Fld) (hw : offSheaves w = true) :
    (s.sendOpen own x).rd w = s.rd w := (sends.refl s).sendOpen.regs w (offSheaves_ne hw).2.2.2

theorem rd_abortNotice (s : State) (n origin reason : Nat) (w : Fld) (hw : offSheaves w = true) :
    (s.abortNotice n origin reason).rd w = s.rd w := by
  unfold State.abortNotice
  extract_lets t g dests _ s1
  split
  · rfl
  · exact foldl_keeps (State.rd · w) _ (fun _ _ => rd_sendOpen _ _ _ w hw) dests s1

theorem rd_flushTask (s : State) (n : Nat) (w : Fld) (hw : offSheaves w = true) :
    (s.flushTask n).rd w = s.rd w := by
  obtain ⟨hrow, hcount, hovf, -⟩ := offSheaves_ne hw
  unfold State.flushTask
  extract_lets t s1 opens gone
  have h1 : s1.rd w = s.rd w := foldl_keeps (State.rd · w) _ (fun a q => by
    dsimp only
    split
    · rfl
    · exact (rd_showHop _ _ _ hrow).trans ((rd_setHop ..).trans (rd_bump_ne _ _ _ _ hcount hovf))) s.hops s
  clear_value s1
  rw [rd_bump_ne _ _ _ _ hcount hovf]
  exact h1

/-- The register fields that counting a task's end may change (R378). -/
def endFields : List Fld :=
  [Ctr.TASK_TASKS_OK.fld, Ctr.TASK_TASKS_RECOVERED.fld, Ctr.TASK_TASKS_DEGRADED.fld, Ctr.TASK_TASKS_ABORTED.fld,
   Ctr.TASK_TASKS_PEER_ABORTED.fld, Ctr.TASK_TASKS_TIMED_OUT.fld, Hdr.CNT_OVF 0x51] ++ raiseFields 0x51

theorem regsKept_countEnd (s : State) (n status : Nat) : regsKept s (s.countEnd n status) endFields := by
  have hbump {c : Ctr} (hc : c.fld ∈ endFields) (ho : Hdr.CNT_OVF c.page ∈ endFields) :
      regsKept s (s.bump c 1) endFields := regsKept_bump c 1 (regsKept_refl _ _) hc ho
  have hraise {t : State} {e : ErrBit} (h : regsKept s t endFields) (he : e.page = 0x51) :
      regsKept s (t.raise e (s.occOf n)) endFields :=
    regsKept_trans h (regsKept_mono (regsKept_raise e _ (regsKept_refl _ _)) fun g hg => by
      rw [he] at hg
      exact List.mem_append_right _ hg)
  unfold State.countEnd
  split
  · exact hbump (by decide) (by decide)
  · exact hbump (by decide) (by decide)
  · exact hbump (by decide) (by decide)
  · exact hraise (hbump (by decide) (by decide)) rfl
  · exact hbump (by decide) (by decide)
  · exact hraise (hbump (by decide) (by decide)) rfl
  · exact regsKept_refl _ _

/-! ### The end -/

/-- The status with which a task ends that is to end with `status` (R319). -/
def endStatus (t : Task) (status : Nat) : Nat := if status = 0 ∧ t.recovered = true then 1 else status

/-- From `s` to `u` the task of slot `n` has ended with a status and DETAIL, and its end is still to be counted: only
its own entry of the tasks has changed, and of the registers only what its sheaves change. -/
structure taskOver (s u : State) (n status detail : Nat) : Prop where
  regs   : ∀ w, offSheaves w = true → u.rd w = s.rd w
  others : ∀ m, m ≠ n → u.task m = s.task m
  own    : ∃ q, u.task n =
    { s.task n with sendq := q, st := 4, status := status, detail := detail, stop := none }

theorem finish_over (s : State) (n status detail : Nat) (h0 : (s.task n).st ≠ 0) (h4 : (s.task n).st ≠ 4) :
    ∃ u, s.finish n status detail = u.countEnd n (endStatus (s.task n) status) ∧
      taskOver s u n (endStatus (s.task n) status) detail := by
  unfold State.finish
  extract_lets t st origin s0 s1 _ s2
  rw [if_neg (not_or.2 ⟨h0, h4⟩)]
  obtain ⟨htask0, hregs0⟩ := loseResults_keeps s n st
  have h1 : (∀ w, offSheaves w = true → s1.rd w = s.rd w) ∧ (∀ m, m ≠ n → s1.task m = s.task m) ∧
      ∃ q, s1.task n = { s.task n with sendq := q } := by
    unfold s1
    split
    · have htasks := (flushTask_tasks (s0.abortNotice n origin st) n)
      have hnotice := task_congr ((abortNotice_tasks s0 n origin st).trans htask0)
      refine ⟨fun w hw => ?_, fun m hm => ?_, [], ?_⟩
      · rw [rd_flushTask _ _ _ hw, rd_abortNotice _ _ _ _ _ hw]
        exact rd_congr hregs0 w
      · rw [task_congr htasks, task_setTask_ne _ _ _ _ hm, hnotice]
      · rw [task_congr htasks, task_setTask_same, hnotice]
    · exact ⟨fun w _ => rd_congr hregs0 w, fun m _ => task_congr htask0 m, (s.task n).sendq, task_congr htask0 n⟩
  obtain ⟨hregs, hothers, q, hown⟩ := h1
  refine ⟨_, rfl, hregs, fun m hm => (task_setTask_ne _ _ _ _ hm).trans (hothers m hm), q, ?_⟩
  rw [task_setTask_same]
  show ({ s1.task n with st := 4, status := st, detail := detail, stop := none } : Task) = _
  rw [hown]
  rfl

/-- A task's end touches no other task. -/
theorem finish_task_ne (s : State) (n status detail m : Nat) (hm : m ≠ n) :
    (s.finish n status detail).task m = s.task m := by
  by_cases hlive : (s.task n).st = 0 ∨ (s.task n).st = 4
  · unfold State.finish
    rw [if_pos hlive]
  · obtain ⟨h0, h4⟩ := not_or.1 hlive
    obtain ⟨u, hu, hover⟩ := finish_over s n status detail h0 h4
    rw [hu, task_congr (countEnd_tasks ..), hover.others m hm]

/-- A task's end leaves its start and its number within its group. -/
theorem finish_task_started (s : State) (n status detail : Nat) :
    ((s.finish n status detail).task n).start = (s.task n).start ∧
      ((s.finish n status detail).task n).inst = (s.task n).inst := by
  by_cases hlive : (s.task n).st = 0 ∨ (s.task n).st = 4
  · unfold State.finish
    rw [if_pos hlive]
    exact ⟨rfl, rfl⟩
  · obtain ⟨h0, h4⟩ := not_or.1 hlive
    obtain ⟨u, hu, hover⟩ := finish_over s n status detail h0 h4
    obtain ⟨q, hown⟩ := hover.own
    rw [hu, task_congr (countEnd_tasks ..), hown]
    exact ⟨rfl, rfl⟩

/-- Whether a field is none of those that the end of a task may change. -/
def offEnd (w : Fld) : Bool := offSheaves w && endFields.all fun g => w.key != g.key

theorem rd_finish (s : State) (n status detail : Nat) (w : Fld) (hw : offEnd w = true) :
    (s.finish n status detail).rd w = s.rd w := by
  simp only [offEnd, Bool.and_eq_true, List.all_eq_true, bne_iff_ne] at hw
  obtain ⟨hsheaves, hend⟩ := hw
  by_cases hlive : (s.task n).st = 0 ∨ (s.task n).st = 4
  · unfold State.finish
    rw [if_pos hlive]
  · obtain ⟨h0, h4⟩ := not_or.1 hlive
    obtain ⟨u, hu, hover⟩ := finish_over s n status detail h0 h4
    rw [hu, regsKept_countEnd u _ _ w hend, hover.regs w hsheaves]

/-- A running task that ends with OK shows it, or OK_RECOVERED where a sheaf of it was replayed (R319). -/
theorem finish_ok (s : State) (n : Nat) (hrun : (s.task n).st = 2) :
    ((s.finish n 0 0).task n).st = 4 ∧ ((s.finish n 0 0).task n).status = b2n (s.task n).recovered := by
  obtain ⟨hst, hstatus, -⟩ := finish_task s n 0 0 (by rw [hrun]; decide) (by rw [hrun]; decide)
  refine ⟨hst, hstatus.trans ?_⟩
  cases (s.task n).recovered with
  | false => rfl
  | true => rfl

end Sys2Proof.Machine
end

section
/-! ## The admission of NOP and CANCEL_ALL, and the cancels (O41: R318, R364, R366, R369, R454) -/

namespace Sys2Proof.Machine

/-! ### What a host write leaves of the tasks -/

theorem issueFlit_tasks (s : State) (fl : Flit) (rest : List Flit) (spend : Bool) :
    (s.issueFlit fl rest spend).tasks = s.tasks := by
  unfold State.issueFlit
  extract_lets u s1 s2
  rw [bump_tasks, wr_tasks]
  unfold s2
  split
  · rfl
  · rfl

theorem pump_tasks (k : Nat) (s : State) : (s.pump k).tasks = s.tasks := by
  induction k generalizing s with
  | zero => rfl
  | succ k ih =>
    unfold State.pump
    split
    · rfl
    · split
      · dsimp only
        split
        · rfl
        · exact (ih _).trans (issueFlit_tasks ..)
      · split
        · rfl
        · exact ih _

theorem hostTx_tasks (s : State) (x : HostTx) : (s.hostTx x).tasks = s.tasks := pump_tasks _ _

theorem issueWrites_tasks (ns : List Nat) (s : State) (slot attr a : Nat) (d : List Byte) :
    (s.issueWrites slot attr a d ns).tasks = s.tasks := by
  induction ns generalizing s a d with
  | nil => rfl
  | cons n rest ih => exact (ih ..).trans (hostTx_tasks ..)

theorem windowFault_tasks (s : State) (w : Nat) (o : Occ) : (s.windowFault w o).tasks = s.tasks := by
  unfold State.windowFault
  rw [raise_tasks, bump_tasks, wr_tasks]

theorem hostWrite_tasks (s : State) (slot a : Nat) (d : List Byte) (o : Occ) :
    (s.hostWrite slot a d o).2.tasks = s.tasks := by
  unfold State.hostWrite
  dsimp only
  split
  · exact issueWrites_tasks ..
  · exact windowFault_tasks ..

/-! ### The event of a retired descriptor -/

/-- The register fields that writing an event may change (R353, R357, R372). -/
def eventFields : List Fld :=
  [Reg.EVT_TAIL_TAIL, Reg.EVT_TAIL_PHASE, Ctr.CMD_EVENTS_WRITTEN.fld, Hdr.CNT_OVF Ctr.CMD_EVENTS_WRITTEN.page,
   Reg.CMD_STATUS_FAULT, Reg.CMD_FAULT_REASON, Reg.CMD_FAULT_ENTRY] ++
    (raiseFields Err.CMD_RING_FAULT.page ++ sendFields)

theorem sendFields_eventFields : ∀ g ∈ sendFields, g ∈ eventFields := fun _ hg =>
  List.mem_append_right _ (List.mem_append_right _ hg)

theorem eventDone_kept (s : State) (v : Option Nat) :
    (s.eventDone v).tasks = s.tasks ∧ regsKept s (s.eventDone v) eventFields := by
  unfold State.eventDone
  extract_lets n s1 s2
  have h2 : s2.tasks = s.tasks ∧ regsKept s s2 eventFields :=
    ⟨bump_tasks .., regsKept_bump _ _ (regsKept_wr _ _ (regsKept_wr _ _ (regsKept_refl _ _) (by decide)) (by decide))
      (by decide) (by decide)⟩
  split
  · exact h2
  · exact ⟨h2.1, regsKept_upd h2.2 rfl⟩

theorem ringFault_kept (s : State) (reason entry : Nat) :
    (s.ringFault reason entry).tasks = s.tasks ∧ regsKept s (s.ringFault reason entry) eventFields := by
  unfold State.ringFault
  split
  · exact ⟨rfl, regsKept_refl _ _⟩
  · extract_lets s1
    have h1 : regsKept s s1 eventFields := regsKept_wr _ _ (regsKept_wr _ _ (regsKept_wr _ _ (regsKept_refl _ _)
      (by decide)) (by decide)) (by decide)
    refine ⟨raise_tasks s1 _ _, regsKept_upd (t := s1.raise Err.CMD_RING_FAULT) (regsKept_trans h1 (regsKept_mono
      (regsKept_raise _ _ (regsKept_refl _ _)) fun g hg => ?_)) rfl⟩
    exact List.mem_append_right _ (List.mem_append_left _ hg)

theorem postEvent_kept (s : State) (tag op status slot progress detail result : Nat) (late : Bool) (v : Option Nat) :
    (s.postEvent tag op status slot progress detail result late v).tasks = s.tasks ∧
      regsKept s (s.postEvent tag op status slot progress detail result late v) eventFields := by
  unfold State.postEvent
  extract_lets e d r
  have htasks : r.2.tasks = s.tasks := hostWrite_tasks ..
  have hregs : regsKept s r.2 eventFields := regsKept_mono (sends.refl s).hostWrite.regs sendFields_eventFields
  clear_value r
  split
  · obtain ⟨hdone, hkept⟩ := eventDone_kept (r.2.eventOut s e d) v
    exact ⟨hdone.trans htasks, regsKept_trans (regsKept_upd hregs rfl) hkept⟩
  · obtain ⟨hfault, hkept⟩ := ringFault_kept { r.2 with
      ring := { r.2.ring with retry := mput r.2.ring.retry e (d ++ leBytes 1 (v.getD 255)) } } 4 e
    exact ⟨hfault.trans htasks, regsKept_trans (regsKept_upd hregs rfl) hkept⟩

theorem rd_postEvent (s : State) (tag op status slot progress detail result : Nat) (late : Bool) (v : Option Nat)
    (w : Fld) (hw : eventFields.all (fun g => w.key != g.key) = true) :
    (s.postEvent tag op status slot progress detail result late v).rd w = s.rd w := by
  simp only [List.all_eq_true, bne_iff_ne] at hw
  exact (postEvent_kept ..).2 w hw

theorem postRetired_tasks (s : State) (d : List Byte) (status detail : Nat) :
    (s.postRetired d status detail).tasks = s.tasks := (postEvent_kept ..).1

/-! ### HEAD and the count of admissions -/

/-- From `s` to `t` an admission has been counted, and HEAD has still to move on. -/
structure admitted (s t : State) : Prop where
  head  : t.rd Reg.CMD_HEAD_HEAD = s.rd Reg.CMD_HEAD_HEAD
  size  : t.rd Reg.CMD_SIZE_SIZE = s.rd Reg.CMD_SIZE_SIZE
  count : t.rd Ctr.CMD_ADMITTED.fld = (s.rd Ctr.CMD_ADMITTED.fld + 1) % 2 ^ 64

theorem admitted_bump {s t : State} (h : ∀ w, offEnd w = true → t.rd w = s.rd w) :
    admitted s (t.bump Ctr.CMD_ADMITTED 1) where
  head := (rd_bump_ne _ _ _ _ (by decide) (by decide)).trans (h _ (by decide))
  size := (rd_bump_ne _ _ _ _ (by decide) (by decide)).trans (h _ (by decide))
  count := by rw [rd_bump_same _ _ _ (by decide), h _ (by decide)]

/-- A descriptor whose event is asked for writes it, and the admission stands. -/
theorem admitted.retired {s t : State} (h : admitted s t) (d : List Byte) (status detail : Nat) :
    admitted s (t.postRetired d status detail) where
  head := (rd_postEvent (w := Reg.CMD_HEAD_HEAD) (hw := by decide) ..).trans h.head
  size := (rd_postEvent (w := Reg.CMD_SIZE_SIZE) (hw := by decide) ..).trans h.size
  count := (rd_postEvent (w := Ctr.CMD_ADMITTED.fld) (hw := by decide) ..).trans h.count

theorem admitted.regs {s t u : State} (h : admitted s t) (hu : u.regs = t.regs) : admitted s u :=
  ⟨(rd_congr hu _).trans h.head, (rd_congr hu _).trans h.size, (rd_congr hu _).trans h.count⟩

theorem rd_advanceHead_head (s : State) :
    s.advanceHead.rd Reg.CMD_HEAD_HEAD = (s.rd Reg.CMD_HEAD_HEAD + 1) % s.cmdSize % 65536 := by
  unfold State.advanceHead
  rw [rd_mk, rd_fold, rd_wr_same]
  rfl

theorem rd_advanceHead_ne (s : State) (f : Fld) (h : f.key ≠ Reg.CMD_HEAD_HEAD.key) :
    s.advanceHead.rd f = s.rd f := rd_wr_ne s Reg.CMD_HEAD_HEAD f _ h

/-- HEAD moves on past the descriptor that was admitted (R364). -/
theorem admitted.advance {s t : State} (h : admitted s t) :
    t.advanceHead.rd Reg.CMD_HEAD_HEAD = (s.rd Reg.CMD_HEAD_HEAD + 1) % s.cmdSize % 65536 ∧
      t.advanceHead.rd Ctr.CMD_ADMITTED.fld = (s.rd Ctr.CMD_ADMITTED.fld + 1) % 2 ^ 64 := by
  rw [rd_advanceHead_head, rd_advanceHead_ne _ _ (by decide), h.head, h.count, State.cmdSize, h.size]
  exact ⟨rfl, rfl⟩

/-! ### OP_NOP -/

/-- The conditions under which admission takes the descriptor at HEAD as it stands (R364 to R366). -/
structure admissible (s : State) (d : List Byte) : Prop where
  head   : s.headDesc = some d
  admits : s.admits = true
  taken  : s.ring.taken < 8
  going  : s.breaks d = false
  kept   : s.ring.sampled.contains (descTag d) = false
  good   : s.descBad d = none
  room   : descFlag d 0 = true → s.evtFull = false

theorem admissible.admitOne_nop {s : State} {d : List Byte} (h : admissible s d) (hop : descOp d = 1) :
    s.admitOne.2 = (if descFlag d 0 then (s.bump Ctr.CMD_ADMITTED 1).postRetired d 0 0
      else s.bump Ctr.CMD_ADMITTED 1).advanceHead := by
  have hroom : (descFlag d 0 && s.evtFull) = false := by
    rw [Bool.and_eq_false_imp]
    exact h.room
  have htaken : ¬ 8 ≤ s.ring.taken := Nat.not_le.2 h.taken
  simp only [State.admitOne, h.head, h.admits, htaken, h.going, h.kept, h.good, hop, hroom, if_true, if_false,
    Bool.not_true, Bool.false_eq_true, decide_false, Bool.or_self]

theorem opNop_admitted (d : List Byte) (s : State) (h : admissible s d) (hop : descOp d = 1) :
    completes .opNop s fun t => t.rd Reg.CMD_HEAD_HEAD = (s.rd Reg.CMD_HEAD_HEAD + 1) % s.cmdSize % 65536 ∧
      t.rd Ctr.CMD_ADMITTED.fld = (s.rd Ctr.CMD_ADMITTED.fld + 1) % 2 ^ 64 ∧ t.tasks = s.tasks := by
  show ∃ t, execOpNop s = .next t ∧ _
  simp only [execOpNop, h.head, if_pos hop, h.admitOne_nop hop]
  have hcount : admitted s (s.bump Ctr.CMD_ADMITTED 1) := admitted_bump fun _ _ => rfl
  have hstep : ∀ t, admitted s t → t.tasks = s.tasks → _ ∧ _ ∧ t.advanceHead.tasks = s.tasks :=
    fun t ht htasks => ⟨ht.advance.1, ht.advance.2, htasks⟩
  refine ⟨_, rfl, hstep _ ?_ ?_⟩
  · split
    · exact hcount.retired d 0 0
    · exact hcount
  · split
    · exact (postRetired_tasks ..).trans (bump_tasks ..)
    · exact bump_tasks ..

/-! ### OP_CANCEL_ALL -/

/-- The task of slot `n` has been asked to stop with ABORTED. -/
def askedAbort (s : State) (n : Nat) : Prop := (s.task n).st = 3 ∧ (s.task n).stop = some (4, 0)

theorem cancelSlot_running (s : State) (n : Nat) (hst : (s.task n).st = 2) : askedAbort (s.cancelSlot n) n := by
  have h4 : (s.task n).st ≠ 4 := by rw [hst]; decide
  have h1 : (s.task n).st ≠ 1 := by rw [hst]; decide
  unfold State.cancelSlot State.askStop
  rw [if_neg h4, if_neg h1, if_pos hst, askedAbort, task_setTask_same]
  exact ⟨rfl, rfl⟩

theorem cancelSlot_stopping (s : State) (n : Nat) (hst : (s.task n).st = 3) : s.cancelSlot n = s := by
  unfold State.cancelSlot State.askStop
  rw [if_neg (by rw [hst]; decide), if_neg (by rw [hst]; decide), if_neg (by rw [hst]; decide)]

theorem cancelSlot_task_ne (s : State) (n m : Nat) (h : m ≠ n) : (s.cancelSlot n).task m = s.task m := by
  unfold State.cancelSlot State.askStop
  extract_lets t
  split
  · exact task_setTask_ne _ _ _ _ h
  · split
    · exact (finish_task_ne _ _ _ _ _ h).trans (task_setTask_ne _ _ _ _ h)
    · split
      · exact task_setTask_ne _ _ _ _ h
      · rfl

theorem rd_cancelSlot (s : State) (n : Nat) (w : Fld) (hw : offEnd w = true) : (s.cancelSlot n).rd w = s.rd w := by
  unfold State.cancelSlot State.askStop
  extract_lets t
  split
  · rfl
  · split
    · exact (rd_finish _ _ _ _ w hw).trans rfl
    · split
      · rfl
      · rfl

/-- A cancelling of every slot of a list asks each running task of the list to stop. -/
theorem foldl_cancelSlot (n : Nat) (l : List Nat) (s : State)
    (h : ((s.task n).st = 2 ∧ n ∈ l) ∨ askedAbort s n) :
    askedAbort (l.foldl (fun (acc : State) m => acc.cancelSlot m) s) n := by
  induction l generalizing s with
  | nil => exact h.resolve_left fun hl => absurd hl.2 List.not_mem_nil
  | cons m l ih =>
    refine ih _ ?_
    by_cases hm : m = n
    · subst hm
      refine .inr (h.elim (fun hl => cancelSlot_running s m hl.1) fun ha => ?_)
      show askedAbort (s.cancelSlot m) m
      rw [cancelSlot_stopping s m ha.1]
      exact ha
    · have htask := cancelSlot_task_ne s m n (Ne.symm hm)
      refine h.imp (fun hl => ⟨by rw [htask]; exact hl.1, List.mem_of_ne_of_mem (Ne.symm hm) hl.2⟩) fun ha => ?_
      rw [askedAbort, htask]
      exact ha

theorem admitCancelAll_admitted (d : List Byte) (s : State) : admitted s (s.admitCancelAll d) ∧
    ∀ n < 64, (s.task n).st = 2 → askedAbort (s.admitCancelAll d) n := by
  unfold State.admitCancelAll
  extract_lets live s1
  have hcount : admitted s s1 := admitted_bump fun w hw =>
    foldl_keeps (State.rd · w) _ (fun a n => rd_cancelSlot a n w hw) live s
  have hasked : ∀ n < 64, (s.task n).st = 2 → askedAbort s1 n := fun n hn hst => by
    have hlive : n ∈ live := List.mem_filter.2 ⟨List.mem_range.2 hn, by rw [hst]; rfl⟩
    rw [askedAbort, task_congr (bump_tasks ..)]
    exact foldl_cancelSlot n live s (.inl ⟨hst, hlive⟩)
  clear_value s1
  split
  · split
    · refine ⟨hcount.retired d 0 0, fun n hn hst => ?_⟩
      rw [askedAbort, task_congr (postRetired_tasks ..)]
      exact hasked n hn hst
    · exact ⟨hcount, hasked⟩
  · exact ⟨hcount.regs rfl, hasked⟩

theorem admissible.admitOne_cancelAll {s : State} {d : List Byte} (h : admissible s d) (hop : descOp d = 10) :
    s.admitOne.2 = (s.admitCancelAll d).advanceHead := by
  have hroom : (s.liveSlots.isEmpty && descFlag d 0 && s.evtFull) = false := by
    rw [Bool.and_assoc, Bool.and_eq_false_imp.2 h.room, Bool.and_false]
  have htaken : ¬ 8 ≤ s.ring.taken := Nat.not_le.2 h.taken
  have hnop : ¬ (10 : Nat) = 1 := by decide
  simp only [State.admitOne, h.head, h.admits, htaken, h.going, h.kept, h.good, hop, hnop, hroom, if_true, if_false,
    Bool.not_true, Bool.false_eq_true, decide_false, Bool.or_self]

theorem opCancelAll_admitted (d : List Byte) (s : State) (h : admissible s d) (hop : descOp d = 10) :
    completes .opCancelAll s fun t => t.rd Reg.CMD_HEAD_HEAD = (s.rd Reg.CMD_HEAD_HEAD + 1) % s.cmdSize % 65536 ∧
      t.rd Ctr.CMD_ADMITTED.fld = (s.rd Ctr.CMD_ADMITTED.fld + 1) % 2 ^ 64 ∧
      ∀ n < 64, (s.task n).st = 2 → (t.task n).st = 3 ∧ (t.task n).stop = some (4, 0) := by
  show ∃ t, execOpCancelAll s = .next t ∧ _
  simp only [execOpCancelAll, h.head, if_pos hop, h.admitOne_cancelAll hop]
  obtain ⟨hcount, hasked⟩ := admitCancelAll_admitted d s
  exact ⟨_, rfl, hcount.advance.1, hcount.advance.2, hasked⟩

/-! ### The cancels -/

theorem cmdCancelWrite_kept (tag : Word) (s : State) (h : s.ring.cancels.length < 16) :
    completes (.cmdCancelWrite tag) s fun t =>
      t.ring = { s.ring with cancels := s.ring.cancels ++ [{ tag := tag.toNat, age := 0 }] } ∧
      t.rd Ctr.CMD_CANCELS_ACCEPTED.fld = (s.rd Ctr.CMD_CANCELS_ACCEPTED.fld + 1) % 2 ^ 64 := by
  show ∃ t, execCmdCancelWrite tag s = .next t ∧ _
  rw [execCmdCancelWrite, State.writeCancel, if_pos h]
  exact ⟨_, rfl, bump_ring .., rd_bump_same _ _ _ (by decide)⟩

theorem cmdCancelWrite_full (tag : Word) (s : State) (h : 16 ≤ s.ring.cancels.length) :
    completes (.cmdCancelWrite tag) s fun t =>
      t.ring.cancels = s.ring.cancels ∧ raises s t Err.CMD_CANCEL_OVERFLOW [] := by
  show ∃ t, execCmdCancelWrite tag s = .next t ∧ _
  rw [execCmdCancelWrite, State.writeCancel, if_neg (Nat.not_lt.2 h)]
  refine ⟨_, rfl, ?_, raises_of_regs (u := s) Err.CMD_CANCEL_OVERFLOW _ rfl (by decide) (by decide)⟩
  show (s.raise _ _).ring.cancels = _
  rw [raise_ring]

theorem cancelExpired_removes (tag : Word) (c : Cancel) (s : State)
    (h : s.ring.cancels.find? (fun c => c.tag == tag.toNat && s.cancelTtl ≤ c.age) = some c) :
    completes (.cancelExpired tag) s fun t => t.ring.cancels = s.ring.cancels.erase c ∧
      t.rd Ctr.CMD_CANCELS_EXPIRED.fld = (s.rd Ctr.CMD_CANCELS_EXPIRED.fld + 1) % 2 ^ 64 := by
  show ∃ t, execCancelExpired tag s = .next t ∧ _
  simp only [execCancelExpired, h]
  refine ⟨_, rfl, ?_, (rd_congr rfl _).trans (rd_bump_same { s with ring := { s.ring with
    cancels := s.ring.cancels.erase c } } Ctr.CMD_CANCELS_EXPIRED 1 (by decide))⟩
  show ((State.bump _ _ _).ring).cancels = _
  rw [bump_ring]

end Sys2Proof.Machine
end

section
/-! ## The start and the time-out of a task, and the marks of a FENCE (O41: R318, R322, R362, R363, R367, R454) -/

namespace Sys2Proof.Machine

/-! ### What a task's start keeps -/

/-- The part of a task's start that every kind of task has: it runs, and its start is counted (R367). -/
def State.begun (s : State) (n : Nat) : State :=
  (s.setTask n { s.task n with
    st := 2, start := s.bellNum, sentAt := if isTransfer (s.task n).desc then s.ticks else 0,
    bank := s.rd Reg.LOOM_STATUS_ACTIVE_BANK,
    drop := captureDrop (s.task n).desc (s.rd Reg.SIEVE_CTRL_NAN) }).bump Ctr.TASK_TASKS_STARTED 1

theorem begun_task (s : State) (n : Nat) : (s.begun n).task n = { s.task n with
    st := 2, start := s.bellNum, sentAt := if isTransfer (s.task n).desc then s.ticks else 0,
    bank := s.rd Reg.LOOM_STATUS_ACTIVE_BANK,
    drop := captureDrop (s.task n).desc (s.rd Reg.SIEVE_CTRL_NAN) } := by
  rw [State.begun, task_congr (bump_tasks ..), task_setTask_same]

theorem rd_begun (s : State) (n : Nat) :
    (s.begun n).rd Ctr.TASK_TASKS_STARTED.fld = (s.rd Ctr.TASK_TASKS_STARTED.fld + 1) % 2 ^ 64 :=
  rd_bump_same _ _ _ (by decide)

/-- From `s` to `t` no start of a task is counted, and the task of slot `n` keeps its start. -/
structure startKept (s t : State) (n : Nat) : Prop where
  count : t.rd Ctr.TASK_TASKS_STARTED.fld = s.rd Ctr.TASK_TASKS_STARTED.fld
  start : (t.task n).start = (s.task n).start

theorem startKept.trans {s t u : State} {n : Nat} (h : startKept s t n) (h' : startKept t u n) : startKept s u n :=
  ⟨h'.count.trans h.count, h'.start.trans h.start⟩

theorem startKept.refl (s : State) (n : Nat) : startKept s s n := ⟨rfl, rfl⟩

theorem startKept_finish (s : State) (n status detail : Nat) : startKept s (s.finish n status detail) n :=
  ⟨rd_finish _ _ _ _ _ (by decide), (finish_task_started s n status detail).1⟩

/-- A request to stop leaves the start, the number within the group and the count of starts. -/
theorem askStop_started (s : State) (n status detail : Nat) :
    startKept s (s.askStop n status detail) n ∧ ((s.askStop n status detail).task n).inst = (s.task n).inst := by
  unfold State.askStop
  extract_lets t
  split
  · have hcleared : startKept s (s.setTask n { t with progress := 0 }) n :=
      ⟨rfl, by rw [task_setTask_same]⟩
    refine ⟨hcleared.trans (startKept_finish ..), ?_⟩
    rw [(finish_task_started ..).2, task_setTask_same]
  · split
    · exact ⟨⟨rfl, by rw [task_setTask_same]⟩, by rw [task_setTask_same]⟩
    · exact ⟨startKept.refl s n, rfl⟩

/-! ### The kinds of tasks -/

/-- A source outside its window ends the task at its start (R360). -/
theorem startKept_sourceStart (s : State) (n : Nat) : startKept s (s.sourceStart n) n := by
  unfold State.sourceStart
  extract_lets r w
  split
  · have hfault : startKept s (s.windowFault w (s.occOf n)) n :=
      ⟨(sends.refl s).windowFault.regs Ctr.TASK_TASKS_STARTED.fld (by decide),
        by rw [task_congr (windowFault_tasks ..)]⟩
    exact hfault.trans (startKept_finish ..)
  · exact startKept.refl s n

theorem startKept_fenceFlows (s : State) (n : Nat) : startKept s (s.fenceFlows n).2 n := by
  have hclear : ∀ (a : State) (k : Nat),
      ((a.setTask k { a.task k with flows := [] }).task n).start = (a.task n).start := fun a k => by
    by_cases hk : n = k
    · subst hk
      rw [task_setTask_same]
    · rw [task_setTask_ne _ _ _ _ hk]
  unfold State.fenceFlows
  exact ⟨foldl_keeps (fun t : State => t.rd Ctr.TASK_TASKS_STARTED.fld)
    (fun (a : State) k => a.setTask k { a.task k with flows := [] }) (fun _ _ => rfl) _ s,
    foldl_keeps (fun t : State => (t.task n).start)
    (fun (a : State) k => a.setTask k { a.task k with flows := [] }) hclear _ s⟩

theorem setSwap_none_kept (ps : List Nat) (s : State) (st : Nat) (hps : ∀ p ∈ ps, p ∈ shadowPages) :
    regsKept s (s.setSwap ps st none) catchUpFields :=
  regsKept_foldl ps s fun _ p hp => regsKept_wr _ _ (regsKept_refl _ _) (by
    have hstates : ∀ p ∈ shadowPages, Hdr.SWAP_STATE p ∈ catchUpFields := by decide
    exact hstates p (hps p hp))

theorem setSwap_tasks (ps : List Nat) (s : State) (st : Nat) (dev : Option Nat) :
    (s.setSwap ps st dev).tasks = s.tasks :=
  foldl_keeps State.tasks _ (fun _ _ => by
    cases dev with
    | none => rfl
    | some d => rfl) ps s

/-- Arming the device-wide swap, or failing to, changes only fields of the swap (R108, R342). -/
theorem swapArm_device (s : State) :
    (s.swapArm 0x52).tasks = s.tasks ∧ regsKept s (s.swapArm 0x52) catchUpFields := by
  have hpages : ∀ p ∈ s.followers, p ∈ shadowPages := fun p hp => (List.mem_filter.1 hp).1
  by_cases harmed : s.armed 0x52 = true
  · rw [State.swapArm, if_pos harmed]
    exact ⟨rfl, regsKept_refl _ _⟩
  · by_cases hbell : bellAfter (s.swapBell 0x52) s.bellNum = true
    · simp only [State.swapArm, if_neg harmed, if_pos hbell, ne_eq, not_true_eq_false, decide_false, Bool.false_and,
        Bool.false_eq_true, if_false, if_true]
      exact ⟨setSwap_tasks .., setSwap_kept _ _ _ _ hpages⟩
    · simp only [State.swapArm, if_neg harmed, if_neg hbell, ne_eq, not_true_eq_false, decide_false, Bool.false_and,
        Bool.false_eq_true, if_false, if_true]
      refine ⟨(raise_tasks ..).trans (setSwap_tasks ..), regsKept_trans (setSwap_none_kept _ _ _ hpages)
        (regsKept_mono (regsKept_raise _ _ (regsKept_refl _ _)) fun g hg => ?_)⟩
      exact List.mem_cons_of_mem _ (List.mem_cons_of_mem _ (List.mem_append_right _ (List.mem_append_right _ hg)))

theorem writeSwapBell_device (s : State) (hi : Bool) (v : Nat) :
    (s.writeSwapBell 0x52 hi v).tasks = s.tasks ∧ regsKept s (s.writeSwapBell 0x52 hi v) catchUpFields := by
  unfold State.writeSwapBell
  split
  · exact ⟨rfl, regsKept_refl _ _⟩
  · cases hi with
    | true => exact ⟨rfl, regsKept_wr _ _ (regsKept_refl _ _) (by decide)⟩
    | false => exact ⟨rfl, regsKept_wr _ _ (regsKept_refl _ _) (by decide)⟩

theorem writeSwap_device (s : State) : s.writeSwap 0x52 1 = s.swapArm 0x52 := by
  have hfollow : s.swapFollow 0x52 (bit 1 5) = s := if_pos (.inl rfl)
  have hok : shadowOk 0x52 = true := by decide
  have hdisarm : bit 1 1 = false := by decide
  have harm : bit 1 0 = true := by decide
  simp only [State.writeSwap, hok, hfollow, hdisarm, harm, Bool.not_true, Bool.false_eq_true, if_false, if_true]

/-- Writing the bell of the device-wide swap and arming it changes only fields of the swap (R362). -/
theorem armAt_kept (s : State) (lo hi : Nat) :
    (((s.writeSwapBell 0x52 false lo).writeSwapBell 0x52 true hi).writeSwap 0x52 1).tasks = s.tasks ∧
      regsKept s (((s.writeSwapBell 0x52 false lo).writeSwapBell 0x52 true hi).writeSwap 0x52 1) catchUpFields := by
  obtain ⟨htasksLo, hlo⟩ := writeSwapBell_device s false lo
  obtain ⟨htasksHi, hhi⟩ := writeSwapBell_device (s.writeSwapBell 0x52 false lo) true hi
  obtain ⟨htasks, harm⟩ := swapArm_device ((s.writeSwapBell 0x52 false lo).writeSwapBell 0x52 true hi)
  rw [writeSwap_device]
  exact ⟨htasks.trans (htasksHi.trans htasksLo), regsKept_trans (regsKept_trans hlo hhi) harm⟩

theorem catchUpFields_started : ∀ g ∈ catchUpFields, Ctr.TASK_TASKS_STARTED.fld.key ≠ g.key := by
  have hoff : catchUpFields.all (fun g => Ctr.TASK_TASKS_STARTED.fld.key != g.key) = true := by decide
  simpa only [List.all_eq_true, bne_iff_ne] using hoff

theorem startKept_swapStart (s : State) (n : Nat) : startKept s (s.swapStart n) n := by
  unfold State.swapStart
  extract_lets b s1
  split
  · exact startKept_finish ..
  · have h1 : startKept s s1 n := by
      obtain ⟨htasks, hregs⟩ := armAt_kept s (b % 2 ^ 32) (b / 2 ^ 32)
      have htask : s1.task n = s.task n := task_congr htasks n
      exact ⟨hregs _ catchUpFields_started, by rw [htask]⟩
    clear_value s1
    split
    · exact ⟨h1.count, by rw [task_setTask_same]; exact h1.start⟩
    · exact h1.trans (startKept_finish ..)

/-- A group's task takes the next number of its group, also where an abort is already known (R363, R454). -/
theorem groupStart_started (s : State) (n : Nat) : startKept s (s.groupStart n) n ∧
    ((s.groupStart n).task n).inst = (mget s.groups.inst (descGroup (s.task n).desc) 0 + 1) % 65536 := by
  unfold State.groupStart
  extract_lets g i _ _ s1 _ s2
  have h2 : startKept s s2 n ∧ (s2.task n).inst = i := by
    have htask : s2.task n = { s1.task n with inst := i } := task_setTask_same _ _ _
    exact ⟨⟨rfl, by rw [htask]; rfl⟩, by rw [htask]⟩
  clear_value s2
  split
  · exact h2
  · next p _ =>
    obtain ⟨hstarted, hinst⟩ := askStop_started
      { s2 with groups := { s2.groups with pending := s2.groups.pending.erase p } } n 5 p.origin
    exact ⟨h2.1.trans ⟨hstarted.count, hstarted.start⟩, hinst.trans h2.2⟩

/-! ### TASK_START -/

theorem startKept_startTask (s : State) (n : Nat) : startKept (s.begun n) (s.startTask n) n := by
  unfold State.startTask
  extract_lets _ s1 d f
  have h1 : s.begun n = s1 := rfl
  rw [h1]
  clear_value s1
  split
  · exact startKept_sourceStart s1 n
  · exact startKept_sourceStart s1 n
  · split
    · exact startKept_finish ..
    · have hflows : startKept s1 f.2 n := startKept_fenceFlows s1 n
      exact hflows.trans ⟨rfl, by rw [task_setTask_same]⟩
  · exact startKept_swapStart s1 n
  · exact (groupStart_started s1 n).1
  · exact (groupStart_started s1 n).1
  · exact (groupStart_started s1 n).1
  · exact startKept.refl s1 n

theorem startTask_get (s : State) (n : Nat) (hop : descOp (s.task n).desc = 4) : s.startTask n = s.begun n := by
  unfold State.startTask
  simp only [hop]
  rfl

theorem startTask_group (s : State) (n : Nat) (hop : usesGroup (descOp (s.task n).desc) = true) :
    s.startTask n = (s.begun n).groupStart n := by
  simp only [usesGroup, Bool.or_eq_true, beq_iff_eq] at hop
  unfold State.startTask
  rcases hop with (hop | hop) | hop
  · simp only [hop]
    rfl
  · simp only [hop]
    rfl
  · simp only [hop]
    rfl

theorem taskStart_started (slot : Nat) (s : State) (hslot : slot < 64) (h : s.mayStart slot = true) :
    completes (.taskStart slot) s fun t =>
      t.rd Ctr.TASK_TASKS_STARTED.fld = (s.rd Ctr.TASK_TASKS_STARTED.fld + 1) % 2 ^ 64 ∧
      (t.task slot).start = s.bellNum ∧ (descOp (s.task slot).desc = 4 → (t.task slot).st = 2 ∧
        (t.task slot).sentAt = s.ticks) ∧
      (usesGroup (descOp (s.task slot).desc) = true → (t.task slot).inst =
        (mget s.groups.inst (descGroup (s.task slot).desc) 0 + 1) % 65536) := by
  show ∃ t, execTaskStart slot s = .next t ∧ _
  rw [execTaskStart, if_pos ⟨hslot, h⟩]
  have hkept := startKept_startTask s slot
  refine ⟨_, rfl, hkept.count.trans (rd_begun s slot), ?_, fun hop => ?_, fun hop => ?_⟩
  · rw [hkept.start, begun_task]
  · have htransfer : isTransfer (s.task slot).desc = true := by rw [isTransfer, hop]; rfl
    rw [startTask_get s slot hop, begun_task, htransfer]
    exact ⟨rfl, rfl⟩
  · rw [startTask_group s slot hop, (groupStart_started _ _).2, begun_task, State.begun, bump_groups]
    rfl

/-! ### TASK_TIMEOUT -/

theorem taskTimeout_ends (slot : Nat) (s : State) (hslot : slot < 64) (h : s.timedOut slot = true) :
    completes (.taskTimeout slot) s fun t =>
      (t.task slot).st = 4 ∧ (t.task slot).status = 6 ∧ (t.task slot).detail = (s.task slot).counted ∧
      errUp t Err.TASK_TASK_TIMEOUT ∧
      t.rd Ctr.TASK_TASKS_TIMED_OUT.fld = (s.rd Ctr.TASK_TASKS_TIMED_OUT.fld + 1) % 2 ^ 64 := by
  show ∃ t, execTaskTimeout slot s = .next t ∧ _
  rw [execTaskTimeout, if_pos ⟨hslot, h⟩]
  have hlive : (s.task slot).st ≠ 0 ∧ (s.task slot).st ≠ 4 := by
    simp only [State.timedOut, Bool.and_eq_true, Bool.or_eq_true, beq_iff_eq] at h
    omega
  obtain ⟨u, hu, hover⟩ := finish_over s slot 6 (s.task slot).counted hlive.1 hlive.2
  obtain ⟨q, hown⟩ := hover.own
  have hend : s.finish slot 6 (s.task slot).counted =
      (u.bump Ctr.TASK_TASKS_TIMED_OUT 1).raise Err.TASK_TASK_TIMEOUT (u.occOf slot) := hu
  have htask : ((u.bump Ctr.TASK_TASKS_TIMED_OUT 1).raise Err.TASK_TASK_TIMEOUT (u.occOf slot)).task slot =
      u.task slot := task_congr ((raise_tasks ..).trans (bump_tasks ..)) slot
  have hstatus : endStatus (s.task slot) 6 = 6 := if_neg fun h6 => absurd h6.1 (by decide)
  rw [hend]
  refine ⟨_, rfl, ?_, ?_, ?_, raise_sets _ _ _ (by decide) (by decide), ?_⟩
  · rw [htask, hown]
  · rw [htask, hown]
    exact hstatus
  · rw [htask, hown]
  · rw [rd_raise_ne _ _ _ _ (by decide), rd_bump_same _ _ _ (by decide), hover.regs _ (by decide)]

/-! ### FENCE_MARK_SEND -/

theorem queueMsg_keeps (s : State) (k : Nat) (m : LaneMsg) :
    (s.queueMsg k m).tasks = s.tasks ∧ (s.queueMsg k m).regs = s.regs := ⟨rfl, rfl⟩

/-- A fence's mark is counted and queued on its link, or on the detour of its link (R322). -/
theorem sendFence_mark (s : State) (k flow seq origin tag : Nat) :
    (s.sendFence k 16 flow seq origin tag).tasks = s.tasks ∧
      (s.sendFence k 16 flow seq origin tag).rd Ctr.SHEPHERD_FENCE_MARKS.fld =
        (s.rd Ctr.SHEPHERD_FENCE_MARKS.fld + 1) % 2 ^ 64 := by
  have hcount : ∀ t : State, t.tasks = (s.bump Ctr.SHEPHERD_FENCE_MARKS 1).tasks ∧
      t.regs = (s.bump Ctr.SHEPHERD_FENCE_MARKS 1).regs → t.tasks = s.tasks ∧
      t.rd Ctr.SHEPHERD_FENCE_MARKS.fld = (s.rd Ctr.SHEPHERD_FENCE_MARKS.fld + 1) % 2 ^ 64 :=
    fun t ⟨htasks, hregs⟩ => ⟨htasks.trans (bump_tasks ..), (rd_congr hregs _).trans (rd_bump_same _ _ _ (by decide))⟩
  refine hcount _ ?_
  unfold State.sendFence
  rw [if_pos rfl]
  dsimp only
  split
  · split
    · exact queueMsg_keeps ..
    · exact queueMsg_keeps ..
  · exact queueMsg_keeps ..

theorem fenceMarkSend_marks (slot flow : Nat) (q : FenceFlow) (k : Nat) (s : State) (hslot : slot < 64)
    (hq : (s.task slot).fences.find? (fun q => q.flow == flow && !q.sent) = some q) (hst : (s.task slot).st = 2)
    (hop : descOp (s.task slot).desc = 8) (hheld : s.holdsFlow flow q.seq = false) (hlink : s.flowLink flow = some k) :
    completes (.fenceMarkSend slot flow) s fun t => (∀ x ∈ (t.task slot).fences, x.flow = flow → x.sent = true) ∧
      t.rd Ctr.SHEPHERD_FENCE_MARKS.fld = (s.rd Ctr.SHEPHERD_FENCE_MARKS.fld + 1) % 2 ^ 64 := by
  have hgoes : ¬ (64 ≤ slot ∨ (s.task slot).st ≠ 2 ∨ descOp (s.task slot).desc ≠ 8 ∨
      s.holdsFlow flow q.seq = true) := by
    simp only [hst, hop, hheld, Nat.not_le.2 hslot, ne_eq, not_true_eq_false, Bool.false_eq_true, or_self,
      not_false_eq_true]
  show ∃ t, execFenceMarkSend slot flow s = .next t ∧ _
  simp only [execFenceMarkSend, hq, if_neg hgoes, hlink]
  obtain ⟨htasks, hcount⟩ := sendFence_mark (s.setTask slot { s.task slot with
    fences := (s.task slot).fences.map (fun x => if x.flow == flow then { x with sent := true } else x) }) k flow q.seq
    s.nodeId (s.taskTag slot)
  refine ⟨_, rfl, fun x hx hflow => ?_, hcount⟩
  rw [task_congr htasks, task_setTask_same] at hx
  obtain ⟨y, -, rfl⟩ := List.mem_map.1 hx
  by_cases hy : y.flow = flow
  · rw [if_pos (beq_iff_eq.2 hy)]
  · rw [if_neg (by simpa using hy)] at hflow
    exact absurd hflow hy

/-! ### Admission and cancels -/

/-- Settles O41: a clause per command. -/
theorem admissionAndCancels : Obligations.AdmissionAndCancels := by
  unfold Obligations.AdmissionAndCancels
  exact ⟨fun d s hhead hop hadm htaken hbreak hcancel hbad hroom =>
      opNop_admitted d s ⟨hhead, hadm, htaken, hbreak, hcancel, hbad, hroom⟩ hop,
    fun d s hhead hop hadm htaken hbreak hcancel hbad hroom =>
      opCancelAll_admitted d s ⟨hhead, hadm, htaken, hbreak, hcancel, hbad, hroom⟩ hop,
    cmdCancelWrite_kept, cmdCancelWrite_full, cancelExpired_removes, taskStart_started, taskTimeout_ends,
    fenceMarkSend_marks⟩

end Sys2Proof.Machine
end

section
/-! ## The pieces of a transfer, and how transfers, fences and swaps end (O42: R321, R360 to R363) -/

namespace Sys2Proof.Machine

/-! ### A running task -/

theorem runs_iff (s : State) (n op : Nat) :
    s.runs n op = true ↔ n < 64 ∧ (s.task n).st = 2 ∧ descOp (s.task n).desc = op ∧ s.frozen = false := by
  simp only [State.runs, Bool.and_eq_true, decide_eq_true_eq, beq_iff_eq, Bool.not_eq_true', and_assoc]

theorem maySend_iff (s : State) (n : Nat) : s.maySend n = true ↔ (s.task n).sentAt ≠ s.ticks ∧
    (s.task n).dropped = none ∧ (s.task n).made < xferPieces (s.task n).desc := by
  simp only [State.maySend, Bool.and_eq_true, bne_iff_ne, Option.isNone_iff_eq_none, decide_eq_true_eq, and_assoc]

/-- A transfer whose every piece is made has none to send. -/
theorem maySend_of_made {s : State} {n : Nat} (h : (s.task n).made = xferPieces (s.task n).desc) :
    s.maySend n = false := by
  rw [Bool.eq_false_iff, ne_eq, maySend_iff, h]
  exact fun hmay => Nat.lt_irrefl _ hmay.2.2

/-! ### The end of a transfer -/

/-- A PUT or SEND that runs ends once every piece is made and acknowledged (R360). -/
theorem transferEnd_acked {s : State} {n : Nat} (hst : (s.task n).st = 2) (hfrozen : s.frozen = false)
    (hdrop : (s.task n).dropped = none) (hop : descOp (s.task n).desc = 3 ∨ isSend (s.task n).desc = true)
    (hmade : (s.task n).made = xferPieces (s.task n).desc) (hacked : xferPieces (s.task n).desc ≤ (s.task n).acked) :
    s.transferEnd n = s.finish n 0 0 := by
  have hget : descOp (s.task n).desc ≠ 4 := by
    rcases hop with hput | hsend
    · rw [hput]
      decide
    · simp only [isSend, Bool.and_eq_true, beq_iff_eq] at hsend
      rw [hsend.1]
      decide
  have hruns : ¬ ((s.task n).st ≠ 2 ∨ s.frozen = true) := by rw [hst, hfrozen]; decide
  simp only [State.transferEnd, if_neg hruns, hdrop, if_neg hget]
  exact if_pos ⟨hop, hmade, hacked⟩

/-- A GET that runs ends once every reply is written (R361). -/
theorem transferEnd_replied {s : State} {n : Nat} (hst : (s.task n).st = 2) (hfrozen : s.frozen = false)
    (hdrop : (s.task n).dropped = none) (hop : descOp (s.task n).desc = 4)
    (hreplies : (s.task n).replies.length = xferPieces (s.task n).desc) : s.transferEnd n = s.finish n 0 0 := by
  have hruns : ¬ ((s.task n).st ≠ 2 ∨ s.frozen = true) := by rw [hst, hfrozen]; decide
  simp only [State.transferEnd, if_neg hruns, hdrop, if_pos hop, if_pos hreplies]

/-- A transfer with an answer still missing goes on. -/
theorem transferEnd_waits {s : State} {n : Nat} (hdrop : (s.task n).dropped = none)
    (hget : descOp (s.task n).desc = 4 → (s.task n).replies.length < xferPieces (s.task n).desc)
    (hput : descOp (s.task n).desc ≠ 4 → (s.task n).acked < xferPieces (s.task n).desc) : s.transferEnd n = s := by
  simp only [State.transferEnd, hdrop]
  split
  · rfl
  · split
    · next hop => exact if_neg (Nat.ne_of_lt (hget hop))
    · next hop => exact if_neg fun h => Nat.not_le.2 (hput hop) h.2.2

/-! ### The next piece -/

/-- The sheaf outside any flow of piece `p` of a transfer, in turn `seq` (R381 to R383). -/
def State.pieceSheaf (s : State) (n kind p seq : Nat) (tail : List Byte) : Sheaf :=
  let d := (s.task n).desc
  tallied { Sheaf.empty with
    kind := kind, tag := s.taskTag n, dest := xferDest d, hostTally := kind != 3 && descFlag d 3, flow := 0, seq := seq,
    payload := openPayload (((if kind = 3 then descNum d 32 8 else xferTarget d) + 496 * p) % 2 ^ 64) (pieceLen d p)
      s.nodeId tail }

/-- From `s` to `t` piece `p` of the transfer of slot `n` has gone out as one sheaf outside any flow on link `k`. -/
structure pieceOut (s t : State) (n kind p k : Nat) (tail : List Byte) : Prop where
  task    : t.task n = { s.task n with made := p + 1, sentAt := s.ticks }
  openSeq : t.sched.openSeq = (s.sched.openSeq + 1) % 2 ^ 24
  opens   : t.sched.opens = s.sched.opens ++ [
    { own := n, out := k, at' := s.ticks, sheaf := s.pieceSheaf n kind p s.sched.openSeq tail }]

theorem sendPiece_out (s : State) (n kind p k : Nat) (tail : List Byte) (hdest : xferDest (s.task n).desc ≠ s.nodeId)
    (hroute : s.routeOpen (xferDest (s.task n).desc) = some k) :
    pieceOut s (s.sendPiece n kind p tail) n kind p k tail := by
  have hroute' (t : Task) : (s.setTask n t).routeOpen (xferDest (s.task n).desc) = some k := hroute
  have hdest' (t : Task) : xferDest (s.task n).desc ≠ (s.setTask n t).nodeId := hdest
  simp only [State.sendPiece, State.sendOpen, if_neg (hdest' _), hroute']
  refine ⟨?_, ?_, ?_⟩
  · exact (task_congr (bump_tasks ..) n).trans (task_setTask_same ..)
  · rw [bump_sched]
    rfl
  · rw [bump_sched]
    rfl

/-! ### A GET's requests -/

/-- A GET with one piece left sends its request, and stops. -/
theorem getPieces_last (m n : Nat) (s : State) (hst : (s.task n).st = 2) (hdrop : (s.task n).dropped = none)
    (hlast : (s.task n).made + 1 = xferPieces (s.task n).desc) (k : Nat)
    (hdest : xferDest (s.task n).desc ≠ s.nodeId) (hroute : s.routeOpen (xferDest (s.task n).desc) = some k) :
    pieceOut s (State.getPieces (m + 2) n s) n 3 (s.task n).made k
      (leBytes 8 ((descNum (s.task n).desc 40 8 + 496 * (s.task n).made) % 2 ^ 64)) := by
  have hout := sendPiece_out s n 3 (s.task n).made k
    (leBytes 8 ((descNum (s.task n).desc 40 8 + 496 * (s.task n).made) % 2 ^ 64)) hdest hroute
  have hsends : ¬ ((s.task n).st ≠ 2 ∨ (s.task n).dropped.isSome = true ∨
      xferPieces (s.task n).desc ≤ (s.task n).made) := by
    rw [hst, hdrop, ← hlast]
    simp
  rw [State.getPieces]
  simp only [if_neg hsends]
  rw [State.getPieces]
  rw [if_pos]
  · exact hout
  · refine .inr (.inr ?_)
    rw [hout.task]
    exact hlast.ge

theorem opGet_sends (slot p : Nat) (d : List Byte) (k : Nat) (s : State) (hruns : s.runs slot 4 = true)
    (hd : d = (s.task slot).desc) (hp : p = (s.task slot).made) (hmay : s.maySend slot = true)
    (hlast : p + 1 = xferPieces d) (hreplies : (s.task slot).replies.length ≤ p) (hdest : xferDest d ≠ s.nodeId)
    (hroute : s.routeOpen (xferDest d) = some k) : completes (.opGet slot) s fun t =>
      (t.task slot).made = p + 1 ∧ t.sched.opens = s.sched.opens ++ [
        { own := slot, out := k, at' := s.ticks,
          sheaf := tallied { Sheaf.empty with
            kind := 3, tag := s.taskTag slot, dest := xferDest d, flow := 0, seq := s.sched.openSeq,
            payload := openPayload ((descNum d 32 8 + 496 * p) % 2 ^ 64) (pieceLen d p) s.nodeId
              (leBytes 8 ((descNum d 40 8 + 496 * p) % 2 ^ 64)) } }] := by
  subst hd hp
  obtain ⟨-, hst, hop, -⟩ := (runs_iff s slot 4).1 hruns
  obtain ⟨-, hdrop, -⟩ := (maySend_iff s slot).1 hmay
  have hout := getPieces_last 22 slot s hst hdrop hlast k hdest hroute
  show ∃ t, execOpGet slot s = .next t ∧ _
  rw [execOpGet, if_neg (by rw [hruns]; decide), if_pos hmay, transferEnd_waits]
  · exact ⟨_, rfl, by rw [hout.task], hout.opens⟩
  · rw [hout.task]
    exact hdrop
  · rw [hout.task]
    exact fun _ => by
      rw [← hlast]
      exact Nat.lt_succ_of_le hreplies
  · rw [hout.task]
    exact fun h => absurd hop h

/-! ### A PUT's pieces -/

/-- The line port's count leaves the links on which sheaves outside any flow go. -/
theorem routeOpen_linePort (s : State) (len dest : Nat) : (s.linePort len).routeOpen dest = s.routeOpen dest := by
  have hactive (k : Nat) : (s.linePort len).isActive k = s.isActive k :=
    congrArg (· == 4) ((stagesKept.refl s).bump (c := Ctr.GRANARY_LINE_PORT_BYTES) (n := len) (by rfl) k)
  have hfar (k : Nat) : (s.linePort len).farNode k = s.farNode k := by
    have hk : k % 32 < 32 := Nat.mod_lt k (by decide)
    refine rd_bump_ne _ _ _ _ (key_ne_of_place ⟨?_, ?_⟩ ⟨?_, ?_⟩ (.inl ?_))
      (key_ne_of_place ⟨?_, ?_⟩ ⟨?_, ?_⟩ (.inl ?_)) <;>
      simp only [Reg.FERRY_FAR0_NODE, Ctr.fld, Ctr.GRANARY_LINE_PORT_BYTES, Hdr.CNT_OVF] <;> omega
  have htables : (s.linePort len).active = s.active := bump_active ..
  simp only [State.routeOpen, hactive, hfar, htables]

/-- A piece's bytes come from the Granary as they stand, where no line of them is poisoned and no error is injected. -/
theorem sourceBytes_granary (s : State) (n a len : Nat) (hlocal : localWindow a = false)
    (hinj : s.rd (Hdr.INJ_COUNT 0x62) = 0) (hpoison : ∀ l ∈ linesOf a len, s.poisoned l = false) :
    s.sourceBytes n a len .ok = (some (some (s.granaryBytes a len)), s.linePort len) := by
  have hgranary : (s.linePort len).granary = s.granary := bump_granary ..
  have hclean : (linesOf a len).find? (s.linePort len).poisoned = none := by
    rw [List.find?_eq_none]
    intro l hl
    rw [State.poisoned, hgranary]
    exact Bool.eq_false_iff.1 (hpoison l hl)
  have hinj' : (s.linePort len).rd (Hdr.INJ_COUNT 0x62) = 0 :=
    (rd_bump_ne _ _ _ _ (by decide) (by decide)).trans hinj
  simp only [State.sourceBytes, hlocal, Bool.false_eq_true, if_false, State.granaryRead, State.granaryCheck, hclean,
    if_pos hinj', if_true, State.granaryBytes, hgranary]

theorem pieceOut_linePort {s t : State} {n kind p k len : Nat} {tail : List Byte}
    (h : pieceOut (s.linePort len) t n kind p k tail) : pieceOut s t n kind p k tail := by
  have htask : (s.linePort len).task n = s.task n := task_congr (bump_tasks ..) n
  have hsched : (s.linePort len).sched = s.sched := bump_sched ..
  have hticks : (s.linePort len).ticks = s.ticks := bump_ticks ..
  have hnode : (s.linePort len).nodeId = s.nodeId := rd_bump_ne _ _ _ _ (by decide) (by decide)
  obtain ⟨h1, h2, h3⟩ := h
  simp only [State.pieceSheaf, State.taskTag, State.tagOf, htask, hsched, hticks, hnode] at h1 h2 h3
  exact ⟨h1, h2, h3⟩

/-- A PUT whose next piece lies in the Granary sends it, and goes on with its pieces. -/
theorem sendNext_granary (s : State) (n k : Nat) (hst : (s.task n).st = 2) (hdrop : (s.task n).dropped = none)
    (hmade : (s.task n).made < xferPieces (s.task n).desc) (hflag : descFlag (s.task n).desc 3 = false)
    (hlocal : localWindow (descNum (s.task n).desc 32 8 + 496 * (s.task n).made) = false)
    (hinj : s.rd (Hdr.INJ_COUNT 0x62) = 0)
    (hpoison : ∀ l ∈ linesOf (descNum (s.task n).desc 32 8 + 496 * (s.task n).made)
      (pieceLen (s.task n).desc (s.task n).made), s.poisoned l = false)
    (hdest : xferDest (s.task n).desc ≠ s.nodeId) (hroute : s.routeOpen (xferDest (s.task n).desc) = some k) :
    ∃ t, s.sendNext n 2 .ok = (true, t) ∧ pieceOut s t n 2 (s.task n).made k
      (s.granaryBytes (descNum (s.task n).desc 32 8 + 496 * (s.task n).made)
        (pieceLen (s.task n).desc (s.task n).made)) := by
  have hsends : ¬ ((s.task n).st ≠ 2 ∨ (s.task n).dropped.isSome = true ∨
      xferPieces (s.task n).desc ≤ (s.task n).made) := by
    rw [hst, hdrop]
    simpa using hmade
  simp only [State.sendNext, if_neg hsends, hflag, Bool.false_eq_true, if_false, Bool.not_false, if_true,
    sourceBytes_granary s n _ _ hlocal hinj hpoison]
  have htask (len : Nat) : (s.linePort len).task n = s.task n := task_congr (bump_tasks ..) n
  refine ⟨_, rfl, pieceOut_linePort (sendPiece_out _ _ _ _ _ _ ?_ ?_)⟩
  · rw [htask, State.nodeId, State.linePort, rd_bump_ne _ _ _ _ (by decide) (by decide)]
    exact hdest
  · rw [htask, routeOpen_linePort]
    exact hroute

/-- A transfer with every piece made sends nothing. -/
theorem sendNext_done (s : State) (n kind : Nat) (ecc : EccResult)
    (h : xferPieces (s.task n).desc ≤ (s.task n).made) : s.sendNext n kind ecc = (false, s) := by
  simp only [State.sendNext, if_pos (Or.inr (Or.inr h) : (s.task n).st ≠ 2 ∨ (s.task n).dropped.isSome = true ∨
    xferPieces (s.task n).desc ≤ (s.task n).made)]

theorem askSource_granary (s : State) (n : Nat) (h : localWindow (descNum (s.task n).desc 32 8) = false) :
    s.askSource n = s := by
  simp only [State.askSource, h, Bool.not_false, Bool.true_or, if_true]

theorem opPut_sends (slot p : Nat) (d : List Byte) (k : Nat) (s : State) (hruns : s.runs slot 3 = true)
    (hd : d = (s.task slot).desc) (hp : p = (s.task slot).made) (hmay : s.maySend slot = true)
    (hlast : p + 1 = xferPieces d) (hacked : (s.task slot).acked ≤ p) (hflag : descFlag d 3 = false)
    (hsource : localWindow (descNum d 32 8) = false) (hlocal : localWindow (descNum d 32 8 + 496 * p) = false)
    (hinj : s.rd (Hdr.INJ_COUNT 0x62) = 0)
    (hpoison : ∀ l ∈ linesOf (descNum d 32 8 + 496 * p) (pieceLen d p), s.poisoned l = false)
    (hdest : xferDest d ≠ s.nodeId) (hroute : s.routeOpen (xferDest d) = some k) :
    completes (.opPut slot []) s fun t =>
      (t.task slot).made = p + 1 ∧ t.sched.openSeq = (s.sched.openSeq + 1) % 2 ^ 24 ∧
      t.sched.opens = s.sched.opens ++ [
        { own := slot, out := k, at' := s.ticks,
          sheaf := tallied { Sheaf.empty with
            kind := 2, tag := s.taskTag slot, dest := xferDest d, flow := 0, seq := s.sched.openSeq,
            payload := openPayload ((xferTarget d + 496 * p) % 2 ^ 64) (pieceLen d p) s.nodeId
              (s.granaryBytes (descNum d 32 8 + 496 * p) (pieceLen d p)) } }] := by
  subst hd hp
  obtain ⟨-, hst, hop, -⟩ := (runs_iff s slot 3).1 hruns
  obtain ⟨-, hdrop, hmade⟩ := (maySend_iff s slot).1 hmay
  obtain ⟨t, hnext, hout⟩ := sendNext_granary s slot k hst hdrop hmade hflag hlocal hinj hpoison hdest hroute
  have hdone : xferPieces (t.task slot).desc ≤ (t.task slot).made := by
    rw [hout.task]
    exact hlast.ge
  have hpieces : s.sendPieces slot 2 (padEcc []) = t := by
    have hpad : padEcc [] = .ok :: .ok :: List.replicate 22 .ok := rfl
    simp only [hpad, State.sendPieces, hnext, sendNext_done t slot 2 .ok hdone, Bool.false_eq_true, if_false, if_true]
  show ∃ t, execOpPut slot [] s = .next t ∧ _
  rw [execOpPut, if_pos hruns, State.putBell, if_pos hmay, askSource_granary s slot hsource, hpieces,
    transferEnd_waits]
  · refine ⟨_, rfl, by rw [hout.task], hout.openSeq, hout.opens.trans ?_⟩
    simp only [State.pieceSheaf, hflag, Bool.and_false]
    rfl
  · rw [hout.task]
    exact hdrop
  · rw [hout.task, hop]
    exact fun h => absurd h (by decide)
  · rw [hout.task]
    exact fun _ => by
      rw [← hlast]
      exact Nat.lt_succ_of_le hacked

/-! ### Transfers that end -/

/-- What an operation shows of a task that ended with OK, or with OK_RECOVERED (R319). -/
def endedOk (s t : State) (slot : Nat) : Prop :=
  (t.task slot).st = 4 ∧ (t.task slot).status = b2n (s.task slot).recovered

theorem putBell_ends {s : State} {slot : Nat} (kind : Nat) (eccs : List EccResult) (hst : (s.task slot).st = 2)
    (hfrozen : s.frozen = false) (hop : descOp (s.task slot).desc = 3 ∨ isSend (s.task slot).desc = true)
    (hdrop : (s.task slot).dropped = none) (hmade : (s.task slot).made = xferPieces (s.task slot).desc)
    (hacked : xferPieces (s.task slot).desc ≤ (s.task slot).acked) :
    s.putBell slot kind eccs = s.finish slot 0 0 := by
  rw [State.putBell, if_neg (by rw [maySend_of_made hmade]; decide),
    transferEnd_acked hst hfrozen hdrop hop hmade hacked]

theorem opPut_ends (slot : Nat) (eccs : List EccResult) (s : State) (hruns : s.runs slot 3 = true)
    (hdrop : (s.task slot).dropped = none) (hmade : (s.task slot).made = xferPieces (s.task slot).desc)
    (hacked : xferPieces (s.task slot).desc ≤ (s.task slot).acked) :
    completes (.opPut slot eccs) s fun t => endedOk s t slot := by
  obtain ⟨-, hst, hop, hfrozen⟩ := (runs_iff s slot 3).1 hruns
  show ∃ t, execOpPut slot eccs s = .next t ∧ _
  rw [execOpPut, if_pos hruns, putBell_ends 2 eccs hst hfrozen (.inl hop) hdrop hmade hacked]
  exact ⟨_, rfl, finish_ok s slot hst⟩

theorem opProgramSend_ends (slot : Nat) (eccs : List EccResult) (s : State) (hruns : s.runs slot 5 = true)
    (hsend : isSend (s.task slot).desc = true) (hdrop : (s.task slot).dropped = none)
    (hmade : (s.task slot).made = xferPieces (s.task slot).desc)
    (hacked : xferPieces (s.task slot).desc ≤ (s.task slot).acked) :
    completes (.opProgramSend slot eccs) s fun t => endedOk s t slot := by
  obtain ⟨-, hst, -, hfrozen⟩ := (runs_iff s slot 5).1 hruns
  show ∃ t, execOpProgramSend slot eccs s = .next t ∧ _
  rw [execOpProgramSend, if_pos (Bool.and_eq_true_iff.2 ⟨hruns, hsend⟩),
    putBell_ends 6 eccs hst hfrozen (.inr hsend) hdrop hmade hacked]
  exact ⟨_, rfl, finish_ok s slot hst⟩

theorem opGet_ends (slot : Nat) (s : State) (hruns : s.runs slot 4 = true) (hdrop : (s.task slot).dropped = none)
    (hmade : (s.task slot).made = xferPieces (s.task slot).desc)
    (hreplies : (s.task slot).replies.length = xferPieces (s.task slot).desc) :
    completes (.opGet slot) s fun t => endedOk s t slot := by
  obtain ⟨-, hst, hop, hfrozen⟩ := (runs_iff s slot 4).1 hruns
  show ∃ t, execOpGet slot s = .next t ∧ _
  rw [execOpGet, if_neg (by rw [hruns]; decide), if_neg (by rw [maySend_of_made hmade]; decide),
    transferEnd_replied hst hfrozen hdrop hop hreplies]
  exact ⟨_, rfl, finish_ok s slot hst⟩

/-! ### FENCE and SWAP -/

theorem opFence_ends (slot : Nat) (s : State) (hruns : s.runs slot 8 = true)
    (hgot : (s.task slot).fences.all (fun q => q.got) = true) :
    completes (.opFence slot) s fun t => endedOk s t slot := by
  obtain ⟨-, hst, -, -⟩ := (runs_iff s slot 8).1 hruns
  show ∃ t, execOpFence slot s = .next t ∧ _
  rw [execOpFence, if_pos hruns, State.fenceEnd, if_pos ⟨hst, hgot⟩]
  exact ⟨_, rfl, finish_ok s slot hst⟩

theorem swapEnd_armed {s : State} {n : Nat} (hst : (s.task n).st = 2) (harmed : (s.task n).armed = true) :
    s.swapEnd n = if s.rd (Hdr.SWAP_STATE 0x52) = 2 then s.finish n 0 0
      else if s.rd (Hdr.SWAP_STATE 0x52) = 0 then s.finish n 4 0 else s := by
  simp only [State.swapEnd, hst, harmed, ne_eq, not_true_eq_false, Bool.not_true, Bool.false_eq_true, or_self, if_false]

theorem opSwap_done (slot : Nat) (s : State) (hruns : s.runs slot 9 = true) (harmed : (s.task slot).armed = true)
    (hdone : s.rd (Hdr.SWAP_STATE 0x52) = 2) : completes (.opSwap slot) s fun t => endedOk s t slot := by
  obtain ⟨-, hst, -, -⟩ := (runs_iff s slot 9).1 hruns
  show ∃ t, execOpSwap slot s = .next t ∧ _
  rw [execOpSwap, if_pos hruns, swapEnd_armed hst harmed, if_pos hdone]
  exact ⟨_, rfl, finish_ok s slot hst⟩

theorem opSwap_disarmed (slot : Nat) (s : State) (hruns : s.runs slot 9 = true) (harmed : (s.task slot).armed = true)
    (hidle : s.rd (Hdr.SWAP_STATE 0x52) = 0) : completes (.opSwap slot) s fun t =>
      (t.task slot).st = 4 ∧ (t.task slot).status = 4 ∧ errUp t Err.TASK_TASK_ABORTED := by
  obtain ⟨-, hst, -, -⟩ := (runs_iff s slot 9).1 hruns
  have h0 : (s.task slot).st ≠ 0 := by rw [hst]; decide
  have h4 : (s.task slot).st ≠ 4 := by rw [hst]; decide
  obtain ⟨u, hu, -⟩ := finish_over s slot 4 0 h0 h4
  obtain ⟨hended, hstatus, -⟩ := finish_task s slot 4 0 h0 h4
  have hend : s.finish slot 4 0 = (u.bump Ctr.TASK_TASKS_ABORTED 1).raise Err.TASK_TASK_ABORTED (u.occOf slot) := hu
  show ∃ t, execOpSwap slot s = .next t ∧ _
  rw [execOpSwap, if_pos hruns, swapEnd_armed hst harmed, if_neg (by rw [hidle]; decide), if_pos hidle]
  refine ⟨_, rfl, hended, hstatus, ?_⟩
  rw [hend]
  exact raise_sets _ _ _ (by decide) (by decide)

/-! ### Transfers, fences and swaps -/

/-- Settles O42: a clause per operation and way. -/
theorem transfersSendAndEnd : Obligations.TransfersSendAndEnd := by
  unfold Obligations.TransfersSendAndEnd
  exact ⟨opPut_ends, opProgramSend_ends, opGet_ends, opPut_sends, opGet_sends, opFence_ends, opSwap_done,
    opSwap_disarmed⟩

end Sys2Proof.Machine
end

section
/-! ## Delivery to the host, the shadow's scan, credit reports, stale sheaves and abort notices (R330, R339, R340, R346,
R348, R391, R394, R469, R523) -/

namespace Sys2Proof.Machine

/-! ### What a host write leaves alone -/

theorem frame_trans {ps : List Part} {s t u : State} (h : frame ps s t) (h' : frame ps t u) : frame ps s u :=
  fun p hp => part_same_trans (h p hp) (h' p hp)

/-- The host link's own state is the registers and the UAHUS part. -/
theorem frame_host (s : State) (regs : Map Nat) (uahus : UahusState) :
    frame [.regs, .uahus] s { s with regs := regs, uahus := uahus } := by
  intro p hp
  cases p with
  | regs => exact absurd (by decide) hp
  | uahus => exact absurd (by decide) hp
  | _ => rfl

theorem frame_issueFlit (s : State) (fl : Flit) (rest : List Flit) (spend : Bool) :
    frame [.regs, .uahus] s (s.issueFlit fl rest spend) := by
  unfold State.issueFlit
  rw [bump_eq]
  cases spend with
  | true => exact frame_host s _ _
  | false => exact frame_host s _ _

theorem frame_pump (k : Nat) (s : State) : frame [.regs, .uahus] s (s.pump k) := by
  induction k generalizing s with
  | zero => exact frame_host s _ _
  | succ k ih =>
    unfold State.pump
    split
    · exact frame_host s _ _
    · split
      · dsimp only
        split
        · exact frame_host s _ _
        · exact frame_trans (frame_issueFlit s _ _ _) (ih _)
      · split
        · exact frame_host s _ _
        · exact frame_trans (frame_host s _ _) (ih _)

theorem frame_issueWrites (ns : List Nat) (s : State) (slot attr a : Nat) (d : List Byte) :
    frame [.regs, .uahus] s (s.issueWrites slot attr a d ns) := by
  induction ns generalizing s a d with
  | nil => exact frame_host s _ _
  | cons n rest ih => exact frame_trans (frame_trans (frame_host s _ _) (frame_pump 2048 _)) (ih _ _ _)

/-- A write that a window admits goes to the host link alone. -/
theorem frame_hostWrite {s : State} {slot a : Nat} {d : List Byte} {o : Occ} (h : (s.hostWrite slot a d o).1 = true) :
    frame [.regs, .uahus] s (s.hostWrite slot a d o).2 := by
  unfold State.hostWrite at h ⊢
  dsimp only at h ⊢
  split
  · exact frame_issueWrites _ s _ _ _ _
  · next hrefused => rw [if_neg hrefused] at h; cases h

theorem hostWrite_fst (s : State) (slot a : Nat) (d : List Byte) (o : Occ) :
    (s.hostWrite slot a d o).1 = (s.window (bits a 32 8)).admits true (a % 2 ^ 32) d.length := by
  unfold State.hostWrite
  dsimp only
  split
  · next h => exact h.symm
  · next h => exact (Bool.eq_false_iff.2 h).symm

/-- Whether a window admits a write is told by the window table and the number of bytes. -/
theorem hostWrite_admits {s t : State} (slot a : Nat) {d d' : List Byte} (o o' : Occ) (htable : t.active = s.active)
    (hlen : d.length = d'.length) : (t.hostWrite slot a d o).1 = (s.hostWrite slot a d' o').1 := by
  rw [hostWrite_fst, hostWrite_fst, State.window, State.window, htable, hlen]

@[simp] theorem length_padTo (n : Nat) (l : List Byte) : (padTo n l).length = n := by
  simp only [padTo, List.length_append, List.length_take, List.length_replicate]
  omega

/-! ### The halts of the landing entries (R391) -/

/-- Whether a field is none of TALLY_HALTED, as its place tells. -/
def offHalts (g : Fld) : Bool :=
  decide (g.off < 4096) && decide (g.lo < 32) && decide (g.page < 256) &&
    (g.page != 0x54 || decide (g.off < 0x200) || decide (0x280 ≤ g.off))

theorem key_ne_halts {i : Nat} (hi : i < 32) {g : Fld} (hg : offHalts g = true) :
    (Reg.TALLY_HALTED_ENTRIES i).key ≠ g.key := by
  simp only [offHalts, Bool.and_eq_true, Bool.or_eq_true, decide_eq_true_eq, bne_iff_ne] at hg
  obtain ⟨⟨⟨hoff, hlo⟩, hpage⟩, hg⟩ := hg
  refine key_ne ⟨?_, ?_, ?_⟩ ⟨hpage, hoff, hlo⟩ (.inr ?_) <;> simp only [Reg.TALLY_HALTED_ENTRIES] <;> omega

/-- Work that writes none of TALLY_HALTED halts no entry and ends no halt. -/
theorem halted_of_regsKept {s t : State} {fs : List Fld} (h : regsKept s t fs) (hfs : fs.all offHalts = true)
    {land : Nat} (hland : land < 1024) : t.halted land = s.halted land := by
  have hrd : t.rd (Reg.TALLY_HALTED_ENTRIES (land / 32)) = s.rd (Reg.TALLY_HALTED_ENTRIES (land / 32)) :=
    h _ fun g hg => key_ne_halts (by omega) (List.all_eq_true.1 hfs g hg)
  rw [State.halted, State.halted, hrd]

theorem haltLand_halted (s : State) (land flow seq : Nat) (hland : land < 1024) :
    (s.haltLand land flow seq).halted land = true := by
  have hlog : regsKept (s.wr (Reg.TALLY_HALTED_ENTRIES (land / 32))
      (setBit (s.rd (Reg.TALLY_HALTED_ENTRIES (land / 32))) (land % 32))) (s.haltLand land flow seq)
      (raiseFields 0x54) :=
    regsKept_log 0x54 _ (regsKept_refl _ _)
  rw [halted_of_regsKept hlog (by decide) hland, State.halted, rd_wr_same]
  exact (bit_mod _ _ 32 (Nat.mod_lt _ (by decide))).trans (bit_setBit_same _ _)

theorem haltLand_errUp (s : State) (land flow seq : Nat) (hland : land < 1024) (h : errUp s Err.TALLY_DELIVERY_FAIL) :
    errUp (s.haltLand land flow seq) Err.TALLY_DELIVERY_FAIL := by
  refine log_keeps _ _ _ _ (by decide) (by decide) ?_
  rw [rd_wr_ne]
  · exact h
  · refine key_ne_of_place (by decide) ⟨?_, ?_⟩ (.inl ?_) <;>
      simp only [Hdr.PG_ERR, Reg.TALLY_HALTED_ENTRIES] <;> omega

/-! ### HOST_DELIVERY (R339, R386, R391) -/

/-- A read of lines that are not poisoned, with no error injected or found, gives the bytes and changes nothing. -/
theorem granaryRead_clean {s : State} (p : Port) (a n : Nat) (o : Occ) (hinj : s.rd (Hdr.INJ_COUNT 0x62) = 0)
    (hpoison : ∀ l ∈ linesOf a n, s.poisoned l = false) :
    s.granaryRead p a n .ok o = (some (s.granaryBytes a n), s) := by
  have hfind : (linesOf a n).find? s.poisoned = none := List.find?_eq_none.2 fun l hl => by simp [hpoison l hl]
  simp only [State.granaryRead, State.granaryCheck, hfind, if_pos hinj, if_true]

/-- The sheaf that a landing entry holds for a place `p`. -/
def State.landedSheaf (s : State) (le : LandEntry) (p : Nat × Nat) : Sheaf :=
  parseSheaf (s.granaryBytes (le.base + 528 * (p.1 % 2 ^ le.depth)) 528)

/-- The window address to which a landed sheaf goes. -/
def hostPlace (le : LandEntry) (p : Nat × Nat) : Nat :=
  le.window + 512 * (((p.1 + 2 ^ 24 - le.first) % 2 ^ 24) % 2 ^ le.hostDepth)

/-- The counts of a delivery's read: the line port's bytes and the tally checked. -/
def State.readLanded (s : State) : State := (s.linePort 528).bump Ctr.TALLY_TALLIES_CHECKED 1

/-- The fields of those counts. -/
def readLandedFields : List Fld :=
  [Ctr.GRANARY_LINE_PORT_BYTES.fld, Hdr.CNT_OVF Ctr.GRANARY_LINE_PORT_BYTES.page, Ctr.TALLY_TALLIES_CHECKED.fld,
    Hdr.CNT_OVF Ctr.TALLY_TALLIES_CHECKED.page]

theorem regsKept_readLanded (s : State) : regsKept s s.readLanded readLandedFields :=
  regsKept_bump _ _ (regsKept_bump _ _ (regsKept_refl s _) (by decide) (by decide)) (by decide) (by decide)

theorem readLanded_granary (s : State) : s.readLanded.granary = s.granary := (bump_granary ..).trans (bump_granary ..)

theorem readLanded_active (s : State) : s.readLanded.active = s.active := (bump_active ..).trans (bump_active ..)

/-- The host write of the sheaf that a landing entry holds for a place; answers whether its window admits it. -/
def State.sendLanded (s : State) (le : LandEntry) (p : Nat × Nat) : Bool × State :=
  s.readLanded.hostWrite 64 (hostPlace le p) (padTo 512 (s.landedSheaf le p).payload)
    { tag := .tag16 (s.landedSheaf le p).tag }

theorem sendLanded_admits {s : State} {le : LandEntry} {p : Nat × Nat}
    (hwin : (s.hostWrite 64 (hostPlace le p) (List.replicate 512 0)).1 = true) : (s.sendLanded le p).1 = true :=
  (hostWrite_admits _ _ _ {} (readLanded_active s) (by rw [length_padTo, List.length_replicate])).trans hwin

theorem sendLanded_granary {s : State} {le : LandEntry} {p : Nat × Nat} (hadmits : (s.sendLanded le p).1 = true) :
    (s.sendLanded le p).2.granary = s.granary := by
  unfold State.sendLanded at hadmits ⊢
  exact (frame_hostWrite hadmits .granary (by decide)).trans (readLanded_granary s)

theorem sendLanded_halted (s : State) (le : LandEntry) (p : Nat × Nat) {land : Nat} (hland : land < 1024) :
    (s.sendLanded le p).2.halted land = s.halted land := by
  have hkept : regsKept s.readLanded (s.sendLanded le p).2 sendFields := (sends.refl _).hostWrite.regs
  calc (s.sendLanded le p).2.halted land
    _ = s.readLanded.halted land := halted_of_regsKept hkept (by decide) hland
    _ = s.halted land := halted_of_regsKept (regsKept_readLanded s) (by decide) hland

/-- A sheaf whose tally fits, and which its window admits, is written to the host, and its entry moves on. -/
theorem hostDeliver_good {s : State} (land : Nat) {le : LandEntry} (l : Landing) {p : Nat × Nat}
    (hinjG : s.rd (Hdr.INJ_COUNT 0x62) = 0) (hinjT : s.rd (Hdr.INJ_COUNT 0x54) = 0)
    (hpoison : ∀ n ∈ linesOf (le.base + 528 * (p.1 % 2 ^ le.depth)) 528, s.poisoned n = false)
    (htally : (s.landedSheaf le p).tally = sheafTally (s.landedSheaf le p)) (hadmits : (s.sendLanded le p).1 = true) :
    s.hostDeliver land le l p .ok = State.deliver land (l.landed.erase p).length (s.sendLanded le p).2
      { next := (l.next + 1) % 2 ^ 24, landed := l.landed.erase p } := by
  unfold State.hostDeliver
  extract_lets a x o r t off w l1
  have hr : r = (some (s.granaryBytes a 528), s) := granaryRead_clean .line a 528 o hinjG hpoison
  have ht : t = (false, s.readLanded) := by
    unfold t
    rw [hr]
    exact injectUse_of_none _ _ _ ((regsKept_readLanded s _ (by decide)).trans hinjT)
  have hw : w = s.sendLanded le p := by
    simp only [w, ht, off, x, o, a, State.sendLanded, hostPlace, State.landedSheaf]
  have hfits : x.tally = sheafTally x := htally
  rw [if_neg (by simp [hr, ht, hfits]), if_neg (by simp [hw, hadmits]), hw]

theorem landState_setLand_same (s : State) (i first : Nat) (l : Landing) : (s.setLand i l).landState i first = l :=
  mget_mput_same ..

theorem halted_setLand (s : State) (i land : Nat) (l : Landing) : (s.setLand i l).halted land = s.halted land := rfl

theorem granary_setLand (s : State) (i : Nat) (l : Landing) : (s.setLand i l).granary = s.granary := rfl

theorem hostDelivery_delivers (land : Nat) (le : LandEntry) (l : Landing) (p : Nat × Nat) (s : State)
    (hland : land < 1024) (hnext : s.hostNext land = some (le, l, p)) (hone : l.landed = [p])
    (hinjG : s.rd (Hdr.INJ_COUNT 0x62) = 0) (hinjT : s.rd (Hdr.INJ_COUNT 0x54) = 0)
    (hpoison : ∀ n ∈ linesOf (le.base + 528 * (p.1 % 2 ^ le.depth)) 528, s.poisoned n = false)
    (htally : (s.landedSheaf le p).tally = sheafTally (s.landedSheaf le p))
    (hwin : (s.hostWrite 64 (hostPlace le p) (List.replicate 512 0)).1 = true) :
    completes (.hostDelivery land .ok) s fun t =>
      t.landState land le.first = { next := (l.next + 1) % 2 ^ 24, landed := [] } ∧ t.halted land = s.halted land ∧
      t.granary = s.granary := by
  have hadmits : (s.sendLanded le p).1 = true := sendLanded_admits hwin
  have hempty : l.landed.erase p = [] := by simp [hone]
  have hexec : execHostDelivery land .ok s =
      ok ((s.sendLanded le p).2.setLand land { next := (l.next + 1) % 2 ^ 24, landed := [] }) := by
    simp only [execHostDelivery, hnext, if_pos hland, hostDeliver_good land l hinjG hinjT hpoison htally hadmits,
      hempty, List.length_nil, State.deliver]
  exact ⟨_, hexec, landState_setLand_same .., (halted_setLand ..).trans (sendLanded_halted s le p hland),
    (granary_setLand ..).trans (sendLanded_granary hadmits)⟩

/-- A failed delivery raises DELIVERY_FAIL and halts the entry (R387, R391). -/
theorem hostDelivery_fails (land : Nat) (ecc : EccResult) (le : LandEntry) (l : Landing) (p : Nat × Nat) (s : State)
    (hland : land < 1024) (hnext : s.hostNext land = some (le, l, p))
    (htally : (s.landedSheaf le p).tally ≠ sheafTally (s.landedSheaf le p)) :
    completes (.hostDelivery land ecc) s fun t => t.halted land = true ∧ errUp t Err.TALLY_DELIVERY_FAIL := by
  have hfail : ∃ u x inj, s.hostDeliver land le l p ecc = (State.deliveryFail u 0 x inj).haltLand land le.flow p.1 := by
    refine ⟨_, _, _, if_pos ?_⟩
    simp only [Bool.or_eq_true, bne_iff_ne]
    exact .inr htally
  obtain ⟨u, x, inj, hfail⟩ := hfail
  have hexec : execHostDelivery land ecc s = ok ((u.deliveryFail 0 x inj).haltLand land le.flow p.1) := by
    simp only [execHostDelivery, hnext, if_pos hland, hfail]
  exact ⟨_, hexec, haltLand_halted _ _ _ _ hland,
    haltLand_errUp _ _ _ _ hland (raise_sets _ _ _ (by decide) (by decide))⟩

/-! ### SCHED_SHADOW_SCAN (R330) -/

theorem schedShadowScan_good (s : State) (harmed : s.armed 0x52 = true) (hnew : s.sched.scanned = false)
    (hscan : scanSet s.shadow.sched = none) :
    exec .schedShadowScan s = .next { s with sched := { s.sched with scanned := true } } := by
  show execSchedShadowScan s = _
  rw [execSchedShadowScan, if_neg (by simp [harmed, hnew])]
  simp only [hscan]
  rfl

theorem schedShadowScan_bad (b : Nat × Nat) (s : State) (harmed : s.armed 0x52 = true) (hnew : s.sched.scanned = false)
    (hscan : scanSet s.shadow.sched = some b) : completes .schedShadowScan s fun t =>
      t.sched.scanned = true ∧ t.rd Reg.SCHED_BAD_VALID = 1 ∧
      t.rd Reg.SCHED_BAD_TABLE = b.1 % 2 ^ Reg.SCHED_BAD_TABLE.width ∧
      t.rd Reg.SCHED_BAD_INDEX = b.2 % 2 ^ Reg.SCHED_BAD_INDEX.width ∧
      raises s t Err.SCHED_ENTRY_BAD [Reg.SCHED_BAD_VALID, Reg.SCHED_BAD_TABLE, Reg.SCHED_BAD_INDEX] := by
  have hexec : execSchedShadowScan s = ok ((((({ s with sched := { s.sched with scanned := true } } : State).wr
      Reg.SCHED_BAD_VALID 1).wr Reg.SCHED_BAD_TABLE b.1).wr Reg.SCHED_BAD_INDEX b.2).raise Err.SCHED_ENTRY_BAD) := by
    rw [execSchedShadowScan, if_neg (by simp [harmed, hnew])]
    simp only [hscan]
  refine ⟨_, hexec, by rw [raise_sched]; rfl, ?_, ?_, ?_, raise_sets _ _ _ (by decide) (by decide), ?_⟩
  · rw [rd_raise_ne _ _ _ _ (by decide)]
    simp (disch := decide) only [rd_wr_ne, rd_wr_same]
    rfl
  · rw [rd_raise_ne _ _ _ _ (by decide)]
    simp (disch := decide) only [rd_wr_ne, rd_wr_same]
  · rw [rd_raise_ne _ _ _ _ (by decide), rd_wr_same]
  · have hbad : regsKept s ((((({ s with sched := { s.sched with scanned := true } } : State).wr
        Reg.SCHED_BAD_VALID 1).wr Reg.SCHED_BAD_TABLE b.1).wr Reg.SCHED_BAD_INDEX b.2))
        ([Reg.SCHED_BAD_VALID, Reg.SCHED_BAD_TABLE, Reg.SCHED_BAD_INDEX] ++ raiseFields Err.SCHED_ENTRY_BAD.page) :=
      regsKept_wr _ _ (regsKept_wr _ _ (regsKept_wr _ _ (regsKept_of_regs _ rfl) (by decide)) (by decide)) (by decide)
    exact regsKept_trans hbad (regsKept_mono (regsKept_raise _ _ (regsKept_refl _ _)) fun _ => List.mem_append_right _)

/-! ### Credits and stale sheaves (R346, R348) -/

theorem creditSheafSend_marks (f j : Nat) (s : State) (hf : f < 8) (hj : j < 32)
    (hdue : s.creditDue (32 * f + j) = true) : completes (.creditSheafSend f j) s fun t =>
      t.credit (32 * f + j) = { s.credit (32 * f + j) with due := true } ∧ t.regs = s.regs := by
  have hexec : execCreditSheafSend f j s =
      ok (s.setCredit (32 * f + j) { s.credit (32 * f + j) with due := true }) := by
    rw [execCreditSheafSend, if_pos ⟨hf, hj⟩, State.askCredit, if_pos hdue]
  exact ⟨_, hexec, mget_mset_same .., rfl⟩

/-- The cell of a stale sheaf is granted again: its link's grant, and its count, change alone. -/
theorem grantCell_kept (s : State) (k : Nat) : (s.grantCell k).sched.cells = s.sched.cells ∧
    regsKept s (s.grantCell k) [Ctr.WEIR_CREDITS_GRANTED.fld, Hdr.CNT_OVF Ctr.WEIR_CREDITS_GRANTED.page] := by
  unfold State.grantCell
  dsimp only
  split
  · exact ⟨by rw [bump_sched]; rfl, regsKept_bump _ _ (regsKept_of_regs _ rfl) (by decide) (by decide)⟩
  · exact ⟨rfl, regsKept_refl _ _⟩

theorem dropPiece_kept (s : State) (own : Nat) (x : Sheaf) :
    (s.dropPiece own x).sched = s.sched ∧ (s.dropPiece own x).regs = s.regs := by
  unfold State.dropPiece
  split
  · exact ⟨rfl, rfl⟩
  · exact ⟨rfl, rfl⟩

/-- A stale sheaf taken from its cell, counted and raised. -/
def State.staleTaken (s : State) (c : Cell) : State :=
  (({ s with sched := { s.sched with cells := s.sched.cells.erase c } } : State).bump Ctr.WEIR_STALE_DROPS 1).raise
    Err.WEIR_WEIR_STALE { tag := .tag16 c.sheaf.tag }

/-- The cell of the taken sheaf is granted again, or its owner's piece dropped: neither undoes what the taking did. -/
theorem execWeirStale_kept {c : Cell} {s : State}
    (hstale : s.sched.cells.find? (fun c => c.at' + s.rd Reg.WEIR_STALE_BELLS ≤ s.ticks) = some c) :
    ∃ t, execWeirStale s = ok t ∧ t.sched.cells = (s.staleTaken c).sched.cells ∧
      regsKept (s.staleTaken c) t [Ctr.WEIR_CREDITS_GRANTED.fld, Hdr.CNT_OVF Ctr.WEIR_CREDITS_GRANTED.page] := by
  unfold execWeirStale
  rw [hstale]
  dsimp only
  split
  · exact ⟨_, rfl, grantCell_kept ..⟩
  · split
    · exact ⟨_, rfl, rfl, regsKept_refl _ _⟩
    · next n _ =>
      obtain ⟨hsched, hregs⟩ := dropPiece_kept (s.staleTaken c) n c.sheaf
      exact ⟨_, rfl, congrArg _ hsched, regsKept_of_regs _ hregs⟩

theorem weirStale_discards (c : Cell) (s : State)
    (hstale : s.sched.cells.find? (fun c => c.at' + s.rd Reg.WEIR_STALE_BELLS ≤ s.ticks) = some c) :
    completes .weirStale s fun t => t.sched.cells = s.sched.cells.erase c ∧ errUp t Err.WEIR_WEIR_STALE ∧
      t.rd Ctr.WEIR_STALE_DROPS.fld = (s.rd Ctr.WEIR_STALE_DROPS.fld + 1) % 2 ^ 64 := by
  obtain ⟨t, hexec, hcells, hkept⟩ := execWeirStale_kept hstale
  refine ⟨t, hexec, hcells.trans ?_, ?_, (hkept _ (by decide)).trans ?_⟩
  · rw [State.staleTaken, raise_sched, bump_sched]
  · rw [errUp, hkept _ (by decide)]
    exact raise_sets _ _ _ (by decide) (by decide)
  · rw [State.staleTaken, rd_raise_ne _ _ _ _ (by decide)]
    exact rd_bump_same _ _ _ (by decide)

/-! ### BG_SHEAF_RECEIVE (R523) -/

/-- The register fields that a Granary write may change: its poison's report and count. -/
def granaryWriteFields : List Fld :=
  [Reg.GRANARY_LAST_ERR_VALID, Reg.GRANARY_LAST_ERR_UE, Reg.GRANARY_LAST_ERR_SCRUB, Reg.GRANARY_LAST_ERR_PORT,
    Reg.GRANARY_LAST_ERR_BANK, Reg.GRANARY_LAST_ADDR_ADDR, Ctr.GRANARY_POISON_CLEARED.fld,
    Hdr.CNT_OVF Ctr.GRANARY_POISON_CLEARED.page] ++ raiseFields Err.GRANARY_POISON_READ.page

theorem regsKept_poisonMet (s : State) (p : Port) (a : Nat) (o : Occ) :
    regsKept s (s.poisonMet p a o) granaryWriteFields := by
  have hnote : regsKept s (s.granaryNote p a true false) granaryWriteFields :=
    regsKept_wr _ _ (regsKept_wr _ _ (regsKept_wr _ _ (regsKept_wr _ _ (regsKept_wr _ _ (regsKept_wr _ _
      (regsKept_refl s _) (by decide)) (by decide)) (by decide)) (by decide)) (by decide)) (by decide)
  exact regsKept_trans hnote (regsKept_mono (regsKept_raise _ o (regsKept_refl _ _)) fun _ => List.mem_append_right _)

theorem regsKept_granaryWriteLine (s : State) (p : Port) (a : Nat) (d : List Byte) (o : Occ) :
    regsKept s (s.granaryWriteLine p a d o).2 granaryWriteFields := by
  unfold State.granaryWriteLine
  split
  · exact regsKept_of_regs _ rfl
  · split
    · refine regsKept_upd (t := State.bump _ Ctr.GRANARY_POISON_CLEARED 1) ?_ rfl
      exact regsKept_bump _ _ (regsKept_of_regs _ rfl) (by decide) (by decide)
    · exact regsKept_poisonMet s p a o

theorem regsKept_foldlSnd {α β : Type} {fs : List Fld} {g : α × State → β → α × State} (l : List β) (a : α × State)
    (hg : ∀ a x, regsKept a.2 (g a x).2 fs) : regsKept a.2 (l.foldl g a).2 fs := by
  induction l generalizing a with
  | nil => exact regsKept_refl _ _
  | cons x l ih => exact regsKept_trans (hg a x) (ih _)

theorem regsKept_granaryWrite (s : State) (p : Port) (a : Nat) (d : List Byte) (o : Occ) :
    regsKept s (s.granaryWrite p a d o).2 granaryWriteFields :=
  regsKept_foldlSnd _ (true, s) fun acc q => regsKept_granaryWriteLine acc.2 p q.1 q.2 o

theorem bgSheafReceive_digest (link : Nat) (sheaf : Sheaf) (s : State) (hkind : sheaf.kind = 9) (hlink : link % 32 ≠ 0)
    (hdest : sheaf.dest = s.nodeId) (hdigest : payNum sheaf 0 1 = 2) (hring : s.rd Reg.TELEM_COLLECT_CELLS_CELLS ≠ 0) :
    completes (.bgSheafReceive link sheaf) s fun t =>
      t.rd Ctr.TELEM_DIGESTS_RECEIVED.fld = (s.rd Ctr.TELEM_DIGESTS_RECEIVED.fld + 1) % 2 ^ 64 := by
  have hexec : execBgSheafReceive link sheaf s = ok (s.bgArrive sheaf) := by
    rw [execBgSheafReceive, if_neg (by simp [hkind]), if_neg hlink, if_pos hdest]
  refine ⟨_, hexec, ?_⟩
  rw [State.bgArrive, if_neg (by simp [hdigest, hring])]
  dsimp only
  rw [rd_bump_same _ _ _ (by decide), regsKept_granaryWrite _ _ _ _ _ _ (by decide)]

/-- A failed check on L0 is counted, whether or not it brings L0_CHECK_FAIL. -/
theorem rd_l0Fail (s : State) (f : Nat) :
    (s.l0Fail f).rd Ctr.TELEM_L0_CHECK_ERRORS.fld = (s.rd Ctr.TELEM_L0_CHECK_ERRORS.fld + 1) % 2 ^ 64 := by
  unfold State.l0Fail
  extract_lets _ s0 s1 l _ s2 r
  have h0 : s0.rd Ctr.TELEM_L0_CHECK_ERRORS.fld = s.rd Ctr.TELEM_L0_CHECK_ERRORS.fld := by
    unfold s0
    split
    · rfl
    · rfl
  have h2 : s2.rd Ctr.TELEM_L0_CHECK_ERRORS.fld = (s.rd Ctr.TELEM_L0_CHECK_ERRORS.fld + 1) % 2 ^ 64 := by
    rw [← h0]
    exact rd_bump_same s0 _ _ (by decide)
  split
  · rw [rd_raise_ne _ _ _ _ (by decide)]
    exact h2
  · exact h2

theorem bgSheafReceive_l0Bad (link : Nat) (sheaf : Sheaf) (s : State) (hkind : sheaf.kind = 9) (hlink : link % 32 = 0)
    (hcheck : payNum sheaf 0 1 = 1) (hbad : sheaf.payload ≠ l0Payload (payNum sheaf 4 4)) :
    completes (.bgSheafReceive link sheaf) s fun t =>
      t.rd Ctr.TELEM_L0_CHECK_ERRORS.fld = (s.rd Ctr.TELEM_L0_CHECK_ERRORS.fld + 1) % 2 ^ 64 := by
  have hexec : execBgSheafReceive link sheaf s = ok (s.l0Fail (link / 32)) := by
    rw [execBgSheafReceive, if_neg (by simp [hkind]), if_pos hlink, State.l0Arrive,
      if_neg (by simp [hcheck]), if_neg hbad]
  exact ⟨_, hexec, rd_l0Fail ..⟩

/-! ### Abort notices (R469) -/

/-- The task of slot `n` is the one that a notice of sheaf `x` names, and is no longer waiting to start. -/
def State.noticeFor (s : State) (x : Sheaf) (n : Nat) : Bool :=
  usesGroup (descOp (s.task n).desc) && descGroup (s.task n).desc == payNum x 0 2 % 4096 && (s.task n).st != 1 &&
    (s.task n).inst == payNum x 2 2

/-- The state in which a node has heard a notice from its neighbour `src`. -/
def State.heardNotice (s : State) (src : Nat) (x : Sheaf) : State :=
  { s with groups := { s.groups with
    heard := (s.groups.heard ++ [(payNum x 0 2 % 4096, payNum x 2 2, src)]).eraseDups } }

/-- How far the run of a group that a notice names is ahead of the last one this node knows. -/
def State.noticeAhead (s : State) (x : Sheaf) : Nat :=
  (payNum x 2 2 + 65536 - mget s.groups.inst (payNum x 0 2 % 4096) 0) % 65536

/-- What a notice is kept as. -/
def State.noticeOf (s : State) (x : Sheaf) : Notice :=
  { group := payNum x 0 2 % 4096, inst := payNum x 2 2, origin := payNum x 4 3 % 2 ^ 20, reason := payNum x 7 1,
    at' := s.ticks }

theorem abortArrive_found {s : State} (src : Nat) {x : Sheaf} {n : Nat}
    (hfind : s.liveSlots.find? (s.noticeFor x) = some n) :
    s.abortArrive src x = (s.heardNotice src x).askStop n 5 (payNum x 4 3 % 2 ^ 20) := by
  unfold State.noticeFor at hfind
  unfold State.abortArrive
  dsimp only
  rw [hfind]
  rfl

theorem abortArrive_later {s : State} (src : Nat) {x : Sheaf} (hfind : s.liveSlots.find? (s.noticeFor x) = none)
    (hahead : 1 ≤ s.noticeAhead x ∧ s.noticeAhead x < 32768) :
    s.abortArrive src x = (s.heardNotice src x).keepNotice (s.noticeOf x) := by
  unfold State.noticeFor at hfind
  unfold State.abortArrive
  dsimp only
  rw [hfind]
  exact if_pos hahead

theorem askStop_running (s : State) (n status detail : Nat) (hst : (s.task n).st = 2) :
    s.askStop n status detail = s.setTask n { s.task n with st := 3, stop := some (status, detail) } := by
  rw [State.askStop, if_neg (by rw [hst]; decide), if_pos hst]

theorem abortNoticeReceive_stops (src n : Nat) (sheaf : Sheaf) (s : State) (hkind : sheaf.kind = 7)
    (hfind : s.liveSlots.find? (s.noticeFor sheaf) = some n) (hst : (s.task n).st = 2) :
    completes (.abortNoticeReceive src sheaf) s fun t =>
      t.task n = { s.task n with st := 3, stop := some (5, payNum sheaf 4 3 % 2 ^ 20) } ∧ t.regs = s.regs := by
  have hexec : execAbortNoticeReceive src sheaf s = ok ((s.heardNotice src sheaf).setTask n
      { s.task n with st := 3, stop := some (5, payNum sheaf 4 3 % 2 ^ 20) }) := by
    rw [execAbortNoticeReceive, if_pos hkind, abortArrive_found src hfind,
      askStop_running (s.heardNotice src sheaf) _ _ _ hst]
    rfl
  exact ⟨_, hexec, task_setTask_same .., rfl⟩

/-- With room among the kept notices, a notice joins them. -/
theorem keepNotice_room (s : State) (n : Notice) (h : s.groups.pending.length < 16) :
    s.keepNotice n = { s with groups := { s.groups with pending := s.groups.pending ++ [n] } } := by
  unfold State.keepNotice
  split
  · next hnone => rw [hnone]; rfl
  · rw [if_pos h]

theorem abortNoticeReceive_keeps (src : Nat) (sheaf : Sheaf) (s : State) (hkind : sheaf.kind = 7)
    (hidle : s.liveSlots = []) (hroom : s.groups.pending.length < 16)
    (hlater : 1 ≤ (payNum sheaf 2 2 + 65536 - mget s.groups.inst (payNum sheaf 0 2 % 4096) 0) % 65536)
    (hnear : (payNum sheaf 2 2 + 65536 - mget s.groups.inst (payNum sheaf 0 2 % 4096) 0) % 65536 < 32768) :
    completes (.abortNoticeReceive src sheaf) s fun t => t.regs = s.regs ∧
      t.groups.pending = s.groups.pending ++ [
        { group := payNum sheaf 0 2 % 4096, inst := payNum sheaf 2 2,
          origin := payNum sheaf 4 3 % 2 ^ 20, reason := payNum sheaf 7 1, at' := s.ticks }] := by
  have hfind : s.liveSlots.find? (s.noticeFor sheaf) = none := by rw [hidle, List.find?_nil]
  have hexec : execAbortNoticeReceive src sheaf s = ok { s.heardNotice src sheaf with groups :=
      { (s.heardNotice src sheaf).groups with pending := s.groups.pending ++ [s.noticeOf sheaf] } } := by
    rw [execAbortNoticeReceive, if_pos hkind, abortArrive_later src hfind ⟨hlater, hnear⟩,
      keepNotice_room (s.heardNotice src sheaf) _ hroom]
    rfl
  exact ⟨_, hexec, rfl, rfl⟩

theorem abortNoticeExpired_drops (group inst : Nat) (p : Notice) (s : State)
    (hfind : s.groups.pending.find? (fun p => p.group == group && p.inst == inst && p.at' + 65536 ≤ s.ticks) = some p) :
    completes (.abortNoticeExpired group inst) s fun t =>
      t.groups = { s.groups with pending := s.groups.pending.erase p } := by
  have hexec : execAbortNoticeExpired group inst s =
      ok (({ s with groups := { s.groups with pending := s.groups.pending.erase p } } : State).noticeRecord 2 p) := by
    rw [execAbortNoticeExpired, hfind]
  refine ⟨_, hexec, ?_⟩
  rw [State.noticeRecord, State.record, log_eq]

/-- Settles O38: one lemma for each clause; a delivery is `hostDeliver_good`'s or fails, and a failed one ends in the
halt of its entry. -/
theorem landingsCreditsAndStaleSheaves : Obligations.LandingsCreditsAndStaleSheaves := by
  unfold Obligations.LandingsCreditsAndStaleSheaves
  exact ⟨hostDelivery_delivers, hostDelivery_fails, fun _ _ => rfl, schedShadowScan_good, schedShadowScan_bad,
    creditSheafSend_marks, weirStale_discards, bgSheafReceive_digest, bgSheafReceive_l0Bad,
    abortNoticeReceive_stops, abortNoticeReceive_keeps, abortNoticeExpired_drops⟩

end Sys2Proof.Machine
end

section
/-! ## A core operation issued where it can run at once (O46, O48: R397, R403, R425)

The word begins, the operation joins the empty stream of each row of its mask, one turn over the streams runs it in
every one of these rows, a second turn finds nothing left, and the word closes. What the operation makes of cores,
Granary and tasks is a parameter of this part: a predicate on the rows that are done, which `rowRuns` leads from row to
row and `issueCore_ran` draws its conclusion from. -/

namespace Sys2Proof.Machine

/-! ### Rows and their cores -/

theorem mem_rowsOf {mask r : Nat} : r ∈ rowsOf mask ↔ r < 8 ∧ bit mask r = true := by
  simp only [rowsOf, List.mem_filter, List.mem_range]

theorem rowsOf_nodup (mask : Nat) : (rowsOf mask).Nodup := List.nodup_range.filter _

theorem mem_coresOf {r c : Nat} : c ∈ coresOf r ↔ c / 16 = r := by
  simp only [coresOf, List.mem_map, List.mem_range]
  constructor
  · rintro ⟨d, hd, rfl⟩
    omega
  · intro h
    exact ⟨c % 16, Nat.mod_lt _ (by decide), by omega⟩

theorem coresOf_nodup (r : Nat) : (coresOf r).Nodup :=
  List.nodup_range.map fun a b h => by simpa using h

/-- The cores of a word's rows. -/
theorem mem_flatMap_coresOf {l : List Nat} {c : Nat} : c ∈ l.flatMap coresOf ↔ c / 16 ∈ l := by
  simp only [List.mem_flatMap, mem_coresOf, exists_eq_right']

/-- The low eight bits of a mask name its rows. -/
theorem rowsOf_low (mask : Nat) : rowsOf (mask % 256) = rowsOf mask := by
  refine List.filter_congr fun r hr => ?_
  have hr8 : r < 8 := List.mem_range.1 hr
  rw [bit_eq_testBit, bit_eq_testBit, show (256 : Nat) = 2 ^ 8 from rfl, Nat.testBit_mod_two_pow, decide_eq_true hr8,
    Bool.true_and]

/-- Rows of a word within its step's rows, one by one. -/
theorem rowsOf_filter_mem {mask rows : Nat} (h : mask % 256 &&& rows = mask % 256) :
    (rowsOf rows).filter (fun r => decide (r ∈ rowsOf mask)) = rowsOf mask := by
  have hsub : ∀ r, bit (mask % 256) r = true → bit rows r = true := fun r hr => by
    rw [← h, bit_eq_testBit, Nat.testBit_and, Bool.and_eq_true] at hr
    rw [bit_eq_testBit]
    exact hr.2
  rw [← rowsOf_low mask]
  unfold rowsOf
  rw [List.filter_filter]
  refine List.filter_congr fun r hr => ?_
  rw [Bool.eq_iff_iff]
  simp only [Bool.and_eq_true, decide_eq_true_eq, List.mem_filter]
  exact ⟨fun hb => hb.1.2, fun hb => ⟨⟨hr, hb⟩, hsub r hb⟩⟩

theorem rowsOf_sub {mask rows r : Nat} (h : mask % 256 &&& rows = mask % 256) (hr : r ∈ rowsOf mask) :
    r ∈ rowsOf rows := by
  rw [← rowsOf_filter_mem h] at hr
  exact (List.mem_filter.1 hr).1

/-! ### Streams and cores after a write of one of them -/

theorem stream_setStream_same (s : State) (r k : Nat) (q : StreamQ) : (s.setStream r k q).stream r k = q := by
  simp only [State.stream, State.setStream, State.rowUnit, State.setRow, mget_mput_same]

theorem stream_setStream_ne (s : State) (q : StreamQ) {r k r' k' : Nat} (h : r' = r → k' ≠ k) :
    (s.setStream r k q).stream r' k' = s.stream r' k' := by
  simp only [State.stream, State.setStream, State.rowUnit, State.setRow]
  by_cases hr : r' = r
  · subst hr
    rw [mget_mput_same, mget_mput_ne _ _ _ _ _ (h rfl)]
  · rw [mget_mput_ne _ _ _ _ _ hr]

theorem stream_congr {s t : State} (h : t.mill.rows = s.mill.rows) (r k : Nat) : t.stream r k = s.stream r k := by
  simp only [State.stream, State.rowUnit, h]

theorem mput_mput {α : Type} (m : Map α) (q : Nat) (v w : α) : mput (mput m q v) q w = mput m q w := by
  induction m with
  | nil => simp only [mput, Nat.lt_irrefl, if_false, if_true]
  | cons e t ih =>
    obtain ⟨k, x⟩ := e
    by_cases hlt : q < k
    · simp only [mput, if_pos hlt, Nat.lt_irrefl, if_false, if_true]
    · by_cases heq : q = k
      · simp only [mput, if_neg hlt, if_pos heq, Nat.lt_irrefl, if_false, if_true]
      · simp only [mput, if_neg hlt, if_neg heq, ih]

/-- Of two writes of one core the last stands. -/
theorem setCore_setCore (s : State) (c : Nat) (k k' : Core) : (s.setCore c k).setCore c k' = s.setCore c k' := by
  simp only [State.setCore, mput_mput]

/-! ### What core operations work on -/

/-- What core operations make: the cores, the Granary and the tasks. -/
structure Made where
  cores   : Map Core
  granary : GranaryState
  tasks   : Map Task

/-- What a state holds of these. -/
def State.made (s : State) : Made := ⟨s.mill.cores, s.granary, s.tasks⟩

/-- A core among them. -/
def Made.core (m : Made) (c : Nat) : Core := mget m.cores c Core.blank

theorem made_core (s : State) (c : Nat) : s.made.core c = s.core c := rfl

/-- The register fields that core operations read. -/
def coreFields : List Fld := [Hdr.INJ_COUNT 0x54, Hdr.INJ_COUNT 0x62, Reg.LOOM_STATUS_ACTIVE_BANK]

/-- From `s` to `t` nothing has changed that core operations only read. -/
structure steady (s t : State) : Prop where
  regs   : ∀ f ∈ coreFields, t.rd f = s.rd f
  sched  : t.sched = s.sched
  active : t.active = s.active
  shadow : t.shadow = s.shadow
  ticks  : t.ticks = s.ticks

namespace steady

variable {s t u : State}

theorem refl (s : State) : steady s s := ⟨fun _ _ => rfl, rfl, rfl, rfl, rfl⟩

theorem trans (h : steady s t) (h' : steady t u) : steady s u :=
  ⟨fun f hf => (h'.regs f hf).trans (h.regs f hf), h'.sched.trans h.sched, h'.active.trans h.active,
    h'.shadow.trans h.shadow, h'.ticks.trans h.ticks⟩

/-- A change of other parts of the state. -/
theorem upd (h : steady s t) (hr : u.regs = t.regs := by rfl) (hs : u.sched = t.sched := by rfl)
    (ha : u.active = t.active := by rfl) (hw : u.shadow = t.shadow := by rfl) (ht : u.ticks = t.ticks := by rfl) :
    steady s u :=
  h.trans ⟨fun f _ => rd_congr hr f, hs, ha, hw, ht⟩

theorem of_regsKept {fs : List Fld} (h : steady s t) (hk : regsKept t u fs)
    (hfs : ∀ f ∈ coreFields, ∀ g ∈ fs, f.key ≠ g.key) (hs : u.sched = t.sched) (ha : u.active = t.active)
    (hw : u.shadow = t.shadow) (ht : u.ticks = t.ticks) : steady s u :=
  h.trans ⟨fun f hf => hk f (hfs f hf), hs, ha, hw, ht⟩

theorem wr {f : Fld} {v : Nat} (h : steady s t) (hf : ∀ g ∈ coreFields, g.key ≠ f.key := by decide) :
    steady s (t.wr f v) :=
  h.trans ⟨fun g hg => rd_wr_ne t f g v (hf g hg), rfl, rfl, rfl, rfl⟩

theorem bump {c : Ctr} {n : Nat} (h : steady s t)
    (hc : ∀ f ∈ coreFields, ∀ g ∈ [c.fld, Hdr.CNT_OVF c.page], f.key ≠ g.key := by decide) : steady s (t.bump c n) :=
  h.of_regsKept (regsKept_bump c n (regsKept_refl t [c.fld, Hdr.CNT_OVF c.page]) (by simp) (by simp)) hc
    (by simp) (by simp) (by simp) (by simp)

theorem raise {e : ErrBit} {o : Occ} (h : steady s t)
    (he : ∀ f ∈ coreFields, ∀ g ∈ raiseFields e.page, f.key ≠ g.key := by decide) : steady s (t.raise e o) :=
  h.of_regsKept (regsKept_raise e o (regsKept_refl t _)) he (by simp) (by simp) (by simp) (by simp)

/-- No error is injected into a check of the TALLY page. -/
theorem noTallyInject (h : steady s t) (h0 : s.rd (Hdr.INJ_COUNT 0x54) = 0) : t.rd (Hdr.INJ_COUNT 0x54) = 0 :=
  (h.regs _ (by decide)).trans h0

/-- No error is injected into a read of the Granary. -/
theorem noGranaryInject (h : steady s t) (h0 : s.rd (Hdr.INJ_COUNT 0x62) = 0) : t.rd (Hdr.INJ_COUNT 0x62) = 0 :=
  (h.regs _ (by decide)).trans h0

end steady

/-- From `s` to `t` nothing has changed of streams, programs and what core operations only read. -/
structure worked (s t : State) : Prop extends steady s t where
  rows  : t.mill.rows = s.mill.rows
  progs : t.mill.progs = s.mill.progs

namespace worked

variable {s t u : State}

theorem refl (s : State) : worked s s := ⟨steady.refl s, rfl, rfl⟩

theorem trans (h : worked s t) (h' : worked t u) : worked s u :=
  ⟨h.tosteady.trans h'.tosteady, h'.rows.trans h.rows, h'.progs.trans h.progs⟩

theorem setCore (h : worked s t) (c : Nat) (k : Core) : worked s (t.setCore c k) := ⟨h.tosteady.upd, h.rows, h.progs⟩

theorem granaryPoke (h : worked s t) (a : Nat) (d : List Byte) : worked s (t.granaryPoke a d) :=
  ⟨h.tosteady.upd, h.rows, h.progs⟩

end worked

/-! ### The word begins -/

theorem fetchWord_good (s : State) (n word : Nat) (pb prefetch : Bool) (h : s.rd (Hdr.INJ_COUNT 0x60) = 0) :
    s.fetchWord n word pb .ok prefetch = (true, s.bump Ctr.MILLER_MILLER_FETCH_WORDS 1) := by
  have h0 : (s.bump Ctr.MILLER_MILLER_FETCH_WORDS 1).rd (Hdr.INJ_COUNT 0x60) = 0 := by
    rw [rd_bump_ne _ _ _ _ (by decide) (by decide), h]
  cases pb <;> simp [State.fetchWord, injectUse_of_none _ _ _ h0]

/-- From `s` to `t` the word of an operation has begun: its program has moved, and the Miller's words are counted. -/
structure begun (s t : State) : Prop extends steady s t where
  made    : t.made = s.made
  rows    : t.mill.rows = s.mill.rows
  stopped : t.millerStopped = s.millerStopped

namespace begun

variable {s t u : State}

theorem refl (s : State) : begun s s := ⟨steady.refl s, rfl, rfl, rfl⟩

theorem setProg (h : begun s t) (n : Nat) (p : Prog) : begun s (t.setProg n p) :=
  ⟨h.tosteady.upd, h.made, h.rows, h.stopped⟩

theorem bump {c : Ctr} {n : Nat} (h : begun s t)
    (hc : ∀ f ∈ coreFields, ∀ g ∈ [c.fld, Hdr.CNT_OVF c.page], f.key ≠ g.key := by decide)
    (hf : ∀ g ∈ [c.fld, Hdr.CNT_OVF c.page], Reg.DEVICE_STATE_DATA_FROZEN.key ≠ g.key := by decide) :
    begun s (t.bump c n) := by
  refine ⟨h.tosteady.bump hc, ?_, ?_, ?_⟩
  · rw [← h.made, State.made, bump_mill, bump_granary, bump_tasks]
    rfl
  · rw [bump_mill, h.rows]
  · rw [← h.stopped]
    simp only [List.forall_mem_cons, List.not_mem_nil, false_imp_iff, implies_true, and_true] at hf
    simp only [State.millerStopped, State.frozen, State.is, State.unit, bump_mgmt, rd_bump_ne _ _ _ _ hf.1 hf.2]

end begun

/-- The program of an operation that issues: its step runs. -/
theorem issuing_prog {s : State} {o : OpAt} {p : Prog} (h : s.issuing o = some p) :
    s.prog o.slot = some p ∧ p.running = true ∧ s.millerStopped = false := by
  unfold State.issuing at h
  split at h
  · cases h
  · next q hq =>
    dsimp only at h
    split at h
    · next hc =>
      cases h
      simp only [Bool.and_eq_true, Bool.not_eq_true'] at hc
      exact ⟨hq, hc.1.1.1.2, hc.1.1.1.1.2⟩
    · cases h

/-- A word that reads good begins, or has begun. -/
theorem beginWord_good {s : State} {o : OpAt} {p : Prog} (h : s.issues o p) :
    (s.beginWord o p).1 = true ∧ begun s (s.beginWord o p).2 ∧
      (s.beginWord o p).2.prog o.slot = some { p with inWord := true } := by
  obtain ⟨hissuing, hecc, hinj⟩ := h
  by_cases hin : p.inWord = true
  · have hb : s.beginWord o p = (true, s) := if_pos hin
    rw [hb]
    refine ⟨rfl, begun.refl s, (issuing_prog hissuing).1.trans ?_⟩
    cases p
    cases hin
    rfl
  · have hb : s.beginWord o p = (true,
        let s1 := ((s.bump Ctr.MILLER_MILLER_FETCH_WORDS 1).bump Ctr.MILLER_LONG_WORDS_ISSUED 1).setProg o.slot
          { p with inWord := true }
        if p.tail then s1.bump Ctr.MILLER_TAIL_WORDS_ISSUED 1 else s1) := by
      simp [State.beginWord, hin, hecc, fetchWord_good s _ _ _ _ hinj]
    have h1 : begun s (((s.bump Ctr.MILLER_MILLER_FETCH_WORDS 1).bump Ctr.MILLER_LONG_WORDS_ISSUED 1).setProg o.slot
        { p with inWord := true }) := ((begun.refl s).bump.bump).setProg _ _
    rw [hb]
    refine ⟨rfl, ?_, ?_⟩
    · dsimp only
      split
      · exact h1.bump
      · exact h1
    · dsimp only
      split
      · rw [prog_bump, prog_setProg_same]
      · rw [prog_setProg_same]

/-! ### The operation joins its streams -/

/-- A stream that holds one entry, issued to it empty. -/
def StreamQ.one (e : QEntry) : StreamQ :=
  { queue := [e], run := [], held := 0, opens := match e.op with
    | .loop _ n => [n]
    | _ => [] }

theorem pushOp_blank {s : State} {k r : Nat} (e : QEntry) (h : s.stream r k = StreamQ.blank) :
    s.pushOp k e r = s.setStream r k (StreamQ.one e) := by
  rw [State.pushOp, h]
  obtain ⟨op, -, -, -, -, -, -⟩ := e
  cases op <;> rfl

/-- An entry pushed onto empty streams of several rows. -/
structure pushed (s t : State) (l : List Nat) (k : Nat) (e : QEntry) : Prop extends steady s t where
  made    : t.made = s.made
  stopped : t.millerStopped = s.millerStopped
  progs   : t.mill.progs = s.mill.progs
  on      : ∀ r ∈ l, t.stream r k = StreamQ.one e
  off     : ∀ r j, (r ∈ l → j ≠ k) → t.stream r j = s.stream r j

theorem pushOps_pushed (l : List Nat) (s : State) (k : Nat) (e : QEntry) (hl : l.Nodup)
    (h : ∀ r ∈ l, s.stream r k = StreamQ.blank) :
    pushed s (l.foldl (fun (acc : State) r => acc.pushOp k e r) s) l k e := by
  induction l generalizing s with
  | nil => exact ⟨steady.refl s, rfl, rfl, rfl, fun _ h => absurd h List.not_mem_nil, fun _ _ _ => rfl⟩
  | cons r l ih =>
    obtain ⟨hr, hl⟩ := List.nodup_cons.1 hl
    have hother (q : Nat) (hq : q ≠ r) (j : Nat) (x : StreamQ) : (s.setStream r k x).stream q j = s.stream q j :=
      stream_setStream_ne s x fun e => absurd e hq
    rw [List.foldl_cons, pushOp_blank e (h r List.mem_cons_self)]
    have hp := ih (s.setStream r k (StreamQ.one e)) hl fun q hq => by
      rw [hother q (fun e => hr (e ▸ hq)), h q (List.mem_cons_of_mem _ hq)]
    refine ⟨(steady.upd (steady.refl s)).trans hp.tosteady, hp.made, hp.stopped, hp.progs, fun q hq => ?_,
      fun q j hj => ?_⟩
    · rcases List.mem_cons.1 hq with rfl | hq
      · rw [hp.off q k fun hq => absurd hq hr, stream_setStream_same]
      · exact hp.on q hq
    · rw [hp.off q j fun hq => hj (List.mem_cons_of_mem _ hq)]
      exact stream_setStream_ne s _ fun e => hj (e ▸ List.mem_cons_self)

/-! ### A turn over the streams -/

/-- One stream's part of a turn. -/
def turnStep (n : Nat) (acc : Bool × State) (q : Nat × Nat) : Bool × State :=
  (acc.2.runStream n q.1 q.2).elim acc fun s' => (true, s')

/-- The four streams of a row, in a turn's order. -/
def streamsOf (r : Nat) : List (Nat × Nat) := (List.range 4).map fun k => (r, k)

theorem runTurn_eq (s : State) (n rows : Nat) :
    s.runTurn n rows = ((rowsOf rows).flatMap streamsOf).foldl (turnStep n) (false, s) := by
  unfold State.runTurn streamsOf
  congr 1
  funext acc q
  unfold turnStep
  cases acc.2.runStream n q.1 q.2 <;> rfl

/-- Streams of which none can run leave the state as it is. -/
theorem foldl_turnStep_idle (n : Nat) (l : List (Nat × Nat)) (acc : Bool × State)
    (h : ∀ q ∈ l, acc.2.runStream n q.1 q.2 = none) : l.foldl (turnStep n) acc = acc := by
  induction l with
  | nil => rfl
  | cons q l ih =>
    have hq : turnStep n acc q = acc := by rw [turnStep, h q List.mem_cons_self, Option.elim_none]
    rw [List.foldl_cons, hq, ih fun q' hq' => h q' (List.mem_cons_of_mem _ hq')]

theorem runStream_blank (s : State) (n r k : Nat) (h : s.stream r k = StreamQ.blank) : s.runStream n r k = none := by
  simp only [State.runStream, h, StreamQ.blank, Option.map_none]

theorem runTurn_idle (s : State) (n rows : Nat)
    (h : ∀ r ∈ rowsOf rows, ∀ k < 4, s.runStream n r k = none) : s.runTurn n rows = (false, s) := by
  rw [runTurn_eq]
  refine foldl_turnStep_idle n _ _ fun q hq => ?_
  obtain ⟨r, hr, k, hk, rfl⟩ : ∃ r ∈ rowsOf rows, ∃ k < 4, (r, k) = q := by
    simpa only [List.mem_flatMap, streamsOf, List.mem_map, List.mem_range] using hq
  exact h r hr k hk

/-- The entry of a stream runs, and leaves nothing of itself. -/
def State.runsOut (s : State) (n r : Nat) (e : QEntry) (t : State) : Prop :=
  ∀ put : List QEntry → List QEntry → Nat → StreamQ, s.runEntry n r e [] put = some (t, put [] [] 0)

theorem runStream_one {s t : State} {n r k : Nat} {e : QEntry} (hs : s.stream r k = StreamQ.one e)
    (hop : (StreamQ.one e).opens = []) (h : s.runsOut n r e t) :
    s.runStream n r k = some (t.setStream r k StreamQ.blank) := by
  rw [← hs] at hop
  have hq : (s.stream r k).queue = [e] := by rw [hs]; rfl
  have hr : (s.stream r k).run = [] := by rw [hs]; rfl
  simp only [State.runStream, hq, hr, h _, Option.map_some, StreamQ.settle, List.isEmpty_nil, if_true, hop]
  rfl

/-- The part of a row in a turn: its one loaded stream runs. -/
theorem foldl_turnStep_row {s t : State} {n r k : Nat} {e : QEntry} (f : Bool) (hk : k < 4)
    (hs : s.stream r k = StreamQ.one e) (hoff : ∀ j < 4, j ≠ k → s.stream r j = StreamQ.blank)
    (hop : (StreamQ.one e).opens = []) (h : s.runsOut n r e t) (hrows : t.mill.rows = s.mill.rows) :
    (streamsOf r).foldl (turnStep n) (f, s) = (true, t.setStream r k StreamQ.blank) := by
  obtain ⟨l1, l2, hl⟩ := List.append_of_mem (List.mem_range.2 hk)
  have hnodup : (l1 ++ k :: l2).Nodup := hl ▸ List.nodup_range
  have hmem (j : Nat) (hj : j ∈ l1 ++ k :: l2) : j < 4 := List.mem_range.1 (hl ▸ hj)
  have hk1 : ∀ j ∈ l1, j ≠ k := fun j hj e => by
    subst e
    exact (List.nodup_append.1 hnodup).2.2 j hj j List.mem_cons_self rfl
  have hk2 : ∀ j ∈ l2, j ≠ k := fun j hj e =>
    (List.nodup_cons.1 (List.nodup_append.1 hnodup).2.1).1 (e ▸ hj)
  have hbefore : ∀ q ∈ l1.map fun j => (r, j), s.runStream n q.1 q.2 = none := fun q hq => by
    obtain ⟨j, hj, rfl⟩ := List.mem_map.1 hq
    exact runStream_blank s n r j (hoff j (hmem j (List.mem_append_left _ hj)) (hk1 j hj))
  have hafter : ∀ q ∈ l2.map fun j => (r, j), (t.setStream r k StreamQ.blank).runStream n q.1 q.2 = none :=
    fun q hq => by
      obtain ⟨j, hj, rfl⟩ := List.mem_map.1 hq
      refine runStream_blank _ n r j ?_
      rw [stream_setStream_ne t _ fun _ => hk2 j hj, stream_congr hrows,
        hoff j (hmem j (List.mem_append_right _ (List.mem_cons_of_mem _ hj))) (hk2 j hj)]
  have hstep : turnStep n (f, s) (r, k) = (true, t.setStream r k StreamQ.blank) := by
    rw [turnStep, runStream_one hs hop h, Option.elim_some]
  rw [streamsOf, hl, List.map_append, List.map_cons, List.foldl_append, foldl_turnStep_idle n _ (f, s) hbefore,
    List.foldl_cons, hstep, foldl_turnStep_idle n _ (true, t.setStream r k StreamQ.blank) hafter]

/-- What an operation makes of a row, as its turn comes: with `Z D` of what the rows `D` have made, the row's entry runs
out, and `Z` holds with the row among those done. -/
def rowRuns (s : State) (n : Nat) (e : QEntry) (rows : List Nat) (Z : List Nat → Made → Prop) : Prop :=
  ∀ D r a, steady s a → Z D a.made → r ∈ rows → r ∉ D →
    ∃ t, a.runsOut n r e t ∧ worked a t ∧ Z (D ++ [r]) t.made

/-- A state in the middle of a turn: the rows `D` are done, and the other rows of the operation hold its entry. -/
structure midTurn (s : State) (P : Map Prog) (e : QEntry) (all rows : List Nat) (k : Nat) (Z : List Nat → Made → Prop)
    (D : List Nat) (a : State) : Prop extends steady s a where
  progs : a.mill.progs = P
  made  : Z D a.made
  on    : ∀ r ∈ rows, r ∉ D → a.stream r k = StreamQ.one e
  off   : ∀ r ∈ all, ∀ j < 4, (r ∈ rows → r ∉ D → j ≠ k) → a.stream r j = StreamQ.blank

section

variable {s : State} {P : Map Prog} {n : Nat} {e : QEntry} {all rows : List Nat} {k : Nat} {Z : List Nat → Made → Prop}

/-- A row of the operation in its turn. -/
theorem midTurn_row {a : State} {D : List Nat} {r : Nat} (f : Bool) (hm : midTurn s P e all rows k Z D a) (hk : k < 4)
    (hop : (StreamQ.one e).opens = []) (hrow : rowRuns s n e rows Z) (hr : r ∈ rows) (hall : r ∈ all) (hD : r ∉ D) :
    ∃ t, (streamsOf r).foldl (turnStep n) (f, a) = (true, t) ∧ midTurn s P e all rows k Z (D ++ [r]) t := by
  obtain ⟨t, hruns, hw, hZ⟩ := hrow D r a hm.tosteady hm.made hr hD
  have hoff : ∀ j < 4, j ≠ k → a.stream r j = StreamQ.blank := fun j hj hjk => hm.off r hall j hj fun _ _ => hjk
  refine ⟨_, foldl_turnStep_row f hk (hm.on r hr hD) hoff hop hruns hw.rows,
    hm.tosteady.trans (hw.tosteady.upd), hw.progs.trans hm.progs, hZ, fun q hq hqD => ?_, fun q hq j hj h => ?_⟩
  · simp only [List.mem_append, List.mem_singleton, not_or] at hqD
    rw [stream_setStream_ne t _ fun e => absurd e hqD.2, stream_congr hw.rows, hm.on q hq hqD.1]
  · by_cases hqr : q = r ∧ j = k
    · rw [hqr.1, hqr.2, stream_setStream_same]
    · rw [stream_setStream_ne t _ fun e hjk => hqr ⟨e, hjk⟩, stream_congr hw.rows]
      refine hm.off q hq j hj fun hqrows hqD => ?_
      by_cases e : q = r
      · exact fun hjk => hqr ⟨e, hjk⟩
      · exact h hqrows (by simp [hqD, e])

/-- A turn over rows: the operation's among them are done after it. -/
theorem midTurn_rows (hk : k < 4) (hop : (StreamQ.one e).opens = []) (hrow : rowRuns s n e rows Z)
    (todo : List Nat) (hnodup : todo.Nodup) (hsub : ∀ r ∈ todo, r ∈ all) (D : List Nat) (hD : ∀ r ∈ todo, r ∉ D)
    (f : Bool) (a : State) (hm : midTurn s P e all rows k Z D a) :
    midTurn s P e all rows k Z (D ++ todo.filter fun r => decide (r ∈ rows))
      ((todo.flatMap streamsOf).foldl (turnStep n) (f, a)).2 := by
  induction todo generalizing D f a with
  | nil => simpa using hm
  | cons r todo ih =>
    obtain ⟨hr, hnodup⟩ := List.nodup_cons.1 hnodup
    have hsub' : ∀ q ∈ todo, q ∈ all := fun q hq => hsub q (List.mem_cons_of_mem _ hq)
    have hD' : ∀ q ∈ todo, q ∉ D := fun q hq => hD q (List.mem_cons_of_mem _ hq)
    rw [List.flatMap_cons, List.foldl_append]
    by_cases hin : r ∈ rows
    · obtain ⟨t, ht, hmt⟩ := midTurn_row f hm hk hop hrow hin (hsub r List.mem_cons_self) (hD r List.mem_cons_self)
      rw [ht, List.filter_cons_of_pos (by simpa using hin)]
      have hDr : ∀ q ∈ todo, q ∉ D ++ [r] := fun q hq => by
        simp only [List.mem_append, List.mem_singleton, not_or]
        exact ⟨hD' q hq, fun e => hr (e ▸ hq)⟩
      simpa only [List.append_assoc, List.singleton_append] using ih hnodup hsub' (D ++ [r]) hDr true t hmt
    · have hidle : ∀ q ∈ streamsOf r, a.runStream n q.1 q.2 = none := fun q hq => by
        obtain ⟨j, hj, rfl⟩ := List.mem_map.1 hq
        exact runStream_blank a n r j (hm.off r (hsub r List.mem_cons_self) j (List.mem_range.1 hj)
          fun h => absurd h hin)
      rw [foldl_turnStep_idle n _ (f, a) hidle, List.filter_cons_of_neg (by simpa using hin)]
      exact ih hnodup hsub' D hD' f a hm

end

/-! ### Turns until none does anything -/

theorem runFor_idle (f n rows : Nat) (s : State) (h : (s.runTurn n rows) = (false, s)) :
    State.runFor (f + 1) n rows s = s := by
  simp only [State.runFor, h, Bool.false_eq_true, if_false]

/-- A turn after which nothing can run is the whole run. -/
theorem runFor_turn (f n rows : Nat) (s : State)
    (h : (s.runTurn n rows).2.runTurn n rows = (false, (s.runTurn n rows).2)) :
    State.runFor (f + 2) n rows s = (s.runTurn n rows).2 := by
  rw [State.runFor]
  split
  · exact runFor_idle f n rows _ h
  · rfl

theorem runStreams_turn (s : State) (n : Nat) (p : Prog) (hp : s.prog n = some p) (hrun : p.running = true)
    (hstop : s.millerStopped = false)
    (h : (s.runTurn n p.rows).2.runTurn n p.rows = (false, (s.runTurn n p.rows).2)) :
    s.runStreams n = (s.runTurn n p.rows).2 := by
  have hfuel : (2 ^ 80 : Nat) = (2 ^ 80 - 2) + 2 := by norm_num
  have hgo : (p.running && !s.millerStopped) = true := by rw [hrun, hstop]; rfl
  simp only [State.runStreams, hp]
  rw [if_pos hgo, hfuel]
  exact runFor_turn _ n p.rows s h

/-! ### The word closes -/

theorem made_congr {s t : State} (h : t.made = s.made) :
    t.mill.cores = s.mill.cores ∧ t.granary = s.granary ∧ t.tasks = s.tasks :=
  ⟨congrArg Made.cores h, congrArg Made.granary h, congrArg Made.tasks h⟩

theorem made_bump (s : State) (c : Ctr) (n : Nat) : (s.bump c n).made = s.made := by
  rw [State.made, bump_mill, bump_granary, bump_tasks]
  rfl

theorem made_wr (s : State) (f : Fld) (v : Nat) : (s.wr f v).made = s.made := rfl

theorem made_setProg (s : State) (n : Nat) (p : Prog) : (s.setProg n p).made = s.made := rfl

theorem made_setTrace (s : State) (t : TraceState) :
    State.made { s with mill := { s.mill with trace := t } } = s.made :=
  rfl

theorem made_raise (s : State) (e : ErrBit) (o : Occ) : (s.raise e o).made = s.made := by
  rw [State.made, raise_mill, raise_granary, raise_tasks]
  rfl

theorem made_traceStore (s : State) (d : List Byte) : (s.traceStore d).made = s.made := by
  unfold State.traceStore
  extract_lets w tr full lost gs gs' s1 _ s2 s3 s4
  have h3 : s3.made = s.made := made_bump s2 _ _
  have h4 : s4.made = s.made := by
    unfold s4
    split
    · rw [made_raise, made_bump, h3]
    · exact h3
  split
  · rfl
  · split
    · rw [made_raise, made_bump]
    · split
      · exact h4
      · exact h4

/-- A trace record changes nothing that core operations make. -/
theorem made_trace (s : State) (kind n : Nat) (tail pb : Bool) (word rows data : Nat) :
    (s.trace kind n tail pb word rows data).made = s.made := by
  unfold State.trace
  extract_lets tag step one s1 s2 _ _ _ s3
  have h1 : s1.made = s.made := made_traceStore s _
  have h2 : s2.made = s.made := (made_bump _ _ _).trans ((made_traceStore s1 _).trans h1)
  have h3 : s3.made = s.made := (made_setTrace s2 _).trans h2
  split
  · rfl
  · split
    · split
      · exact (made_wr s3 _ _).trans h3
      · exact h3
    · exact h1

theorem wordDone_made (s : State) (o : OpAt) (result : Nat) : (s.wordDone o result).made = s.made := by
  unfold State.wordDone
  dsimp only
  rw [made_trace]
  split <;> rfl

theorem wordDone_traced (s : State) (o : OpAt) (result : Nat) : traced s (s.wordDone o result) := by
  unfold State.wordDone
  have hu : traced s (s.setUnit 3 { s.unit 3 with step := false }) := (traced.refl s).upd
  exact traced.trace (hu.ite (traced.refl s))

/-- A word closes: its program goes on if the operation was its last, and nothing else of the step changes. -/
theorem closeWord_closes {s : State} {o : OpAt} {q : Prog} (h : s.prog o.slot = some q) :
    (s.closeWord o).prog o.slot = some (if o.last then q.goto (o.word + 1) else q) ∧
      (s.closeWord o).made = s.made ∧ ∀ r k, (s.closeWord o).stream r k = s.stream r k := by
  have hw := wordDone_traced s o 0
  by_cases hlast : o.last = true
  · have hc : s.closeWord o = (s.wordDone o 0).setProg o.slot (q.goto (o.word + 1)) := by
      simp only [State.closeWord, hlast, if_true, State.nextWord, hw.prog_eq, h]
    rw [hc, if_pos hlast]
    exact ⟨prog_setProg_same _ _ _, (made_setProg _ _ _).trans (wordDone_made s o 0),
      fun r k => (stream_congr rfl r k).trans (hw.stream_eq r k)⟩
  · have hc : s.closeWord o = s := if_neg hlast
    rw [hc, if_neg hlast]
    exact ⟨h, rfl, fun _ _ => rfl⟩

/-! ### Issue -/

/-- The entry that an operation makes of itself. -/
def entryOf (o : OpAt) (p : Prog) (op : COp) (eccs : List EccResult) : QEntry :=
  { op := op, id := p.issued, word := o.word, pb := o.pb, rows := o.rows % 256, eccs := eccs, fin := 0 }

/-- The program of an operation once it is issued. -/
def Prog.counted (p : Prog) : Prog := { p with inWord := true, issued := p.issued + 1 }

/-- The state in which an operation has joined stream `k` of its rows. -/
def State.joined (s : State) (o : OpAt) (p : Prog) (k : Nat) (e : QEntry) : State :=
  (rowsOf o.rows).foldl (fun (acc : State) r => acc.pushOp k e r)
    ((s.beginWord o p).2.withProg o.slot fun q => { q with issued := q.issued + 1 })

/-- An operation that can run at once joins its streams, and they run. -/
theorem issueCore_eq {s : State} {o : OpAt} {p : Prog} {op : COp} (h : s.issuesCore o p op) {k : Nat} (hk : k < 4)
    (hloop : ∀ c n, op = .loop c n → 1 ≤ n ∧ n ≤ 16) (eccs : List EccResult) :
    s.issueCore o (some k) op eccs =
      ((s.joined o p k (entryOf o p op eccs)).runStreams o.slot).closeWord o := by
  obtain ⟨hissues, hrows, hlegal, hformed, hheld, hblank, -⟩ := h
  have hon : ∀ r ∈ rowsOf o.rows, s.stream r k = StreamQ.blank := fun r hr => hblank r (rowsOf_sub hrows hr) k hk
  have hfits (c n : Nat) (e : op = .loop c n) : ((rowsOf o.rows).any fun r => !loopFits (s.stream r k) n) = false := by
    obtain ⟨hn1, hn16⟩ := hloop c n e
    refine List.any_eq_false.2 fun r hr => ?_
    rw [hon r hr]
    simp [loopFits, StreamQ.blank, hn1, hn16]
  have hfree : (op.acc.isSome && (rowsOf o.rows).any (s.heldByOther o.slot)) = false := by
    by_cases ha : op.acc.isSome = true
    · rw [ha, Bool.true_and]
      exact List.any_eq_false.2 fun r hr => by rw [hheld ha r hr]; decide
    · rw [Bool.not_eq_true] at ha
      rw [ha, Bool.false_and]
  have hroom : ((rowsOf o.rows).any fun r => decide (16 ≤ (s.stream r k).used)) = false := by
    refine List.any_eq_false.2 fun r hr => ?_
    rw [hon r hr]
    decide
  have hgood : (o.rows % 256 &&& p.rows != o.rows % 256 || !op.legal p.mode || !op.formed || (some k).isNone) =
      false := by
    rw [hrows, hlegal, hformed]
    simp
  unfold State.issueCore
  rw [hissues.1]
  dsimp only
  rw [hgood, hfree, (beginWord_good hissues).1, Bool.false_or]
  simp only [Option.getD_some, hroom, Bool.and_false, Bool.not_true, Bool.false_eq_true, if_false]
  split
  · next c n => exact if_neg (ne_true_of_eq_false (hfits c n rfl))
  · exact if_neg Bool.false_ne_true

/-- What the streams run from: the word has begun, the operation is counted, and each of its rows holds its entry. -/
theorem joined_pushed {s : State} {o : OpAt} {p : Prog} {op : COp} (h : s.issuesCore o p op) {k : Nat} (hk : k < 4)
    (e : QEntry) : steady s (s.joined o p k e) ∧ (s.joined o p k e).made = s.made ∧
      (s.joined o p k e).millerStopped = false ∧ (s.joined o p k e).prog o.slot = some p.counted ∧
      (∀ r ∈ rowsOf o.rows, (s.joined o p k e).stream r k = StreamQ.one e) ∧
      ∀ r j, (r ∈ rowsOf o.rows → j ≠ k) → (s.joined o p k e).stream r j = s.stream r j := by
  obtain ⟨hissues, hrows, -, -, -, hblank, -⟩ := h
  obtain ⟨-, -, hgoes⟩ := issuing_prog hissues.1
  obtain ⟨-, hb, hprog⟩ := beginWord_good hissues
  have hq : (s.beginWord o p).2.withProg o.slot (fun q => { q with issued := q.issued + 1 }) =
      (s.beginWord o p).2.setProg o.slot p.counted := by
    simp only [State.withProg, hprog]
    rfl
  have hb' := hb.setProg o.slot p.counted
  have hp := pushOps_pushed (rowsOf o.rows) ((s.beginWord o p).2.setProg o.slot p.counted) k e (rowsOf_nodup _)
    fun r hr => (stream_congr hb'.rows r k).trans (hblank r (rowsOf_sub hrows hr) k hk)
  unfold State.joined
  rw [hq]
  refine ⟨hb'.tosteady.trans hp.tosteady, hp.made.trans hb'.made,
    (hp.stopped.trans hb'.stopped).trans hgoes, ?_, hp.on,
    fun r j hj => (hp.off r j hj).trans (stream_congr hb'.rows r j)⟩
  rw [State.prog, hp.progs]
  exact prog_setProg_same _ _ _

theorem issuesCore_prog {s : State} {o : OpAt} {p : Prog} {op : COp} (h : s.issuesCore o p op) :
    s.prog o.slot = some p := by
  obtain ⟨⟨hissuing, -⟩, -⟩ := h
  exact (issuing_prog hissuing).1

theorem issuesCore_ready {s : State} {o : OpAt} {p : Prog} {op : COp} (h : s.issuesCore o p op) :
    ∀ r ∈ rowsOf o.rows, ∀ c ∈ coresOf r, (s.core c).ready c op = true := by
  obtain ⟨-, -, -, -, -, -, hready, -⟩ := h
  exact hready

theorem issuesCore_noTallyInject {s : State} {o : OpAt} {p : Prog} {op : COp} (h : s.issuesCore o p op) :
    s.rd (Hdr.INJ_COUNT 0x54) = 0 := by
  obtain ⟨-, -, -, -, -, -, -, hinj, -⟩ := h
  exact hinj

theorem issuesCore_noGranaryInject {s : State} {o : OpAt} {p : Prog} {op : COp} (h : s.issuesCore o p op) :
    s.rd (Hdr.INJ_COUNT 0x62) = 0 := by
  obtain ⟨-, -, -, -, -, -, -, -, hinj⟩ := h
  exact hinj

/-- An operation that runs out in each of its rows: the word goes on, and `Z` holds of what all its rows have made. -/
theorem issueCore_ran {s : State} {o : OpAt} {p : Prog} {op : COp} (h : s.issuesCore o p op) {k : Nat} (hk : k < 4)
    (eccs : List EccResult) (hop : (StreamQ.one (entryOf o p op eccs)).opens = [])
    {Z : List Nat → Made → Prop} (h0 : Z [] s.made)
    (hrow : rowRuns s o.slot (entryOf o p op eccs) (rowsOf o.rows) Z)
    (hout : ∀ m, Z (rowsOf o.rows) m → ∀ c, c / 16 ∉ rowsOf o.rows → m.core c = s.core c) :
    coreRan s (s.issueCore o (some k) op eccs) o p ∧ Z (rowsOf o.rows) (s.issueCore o (some k) op eccs).made := by
  have hloop : ∀ c n, op = .loop c n → 1 ≤ n ∧ n ≤ 16 := fun c n e => by subst e; cases hop
  rw [issueCore_eq h hk hloop eccs]
  obtain ⟨hsteady, hmade, hstop, hprog, hon, hoff⟩ := joined_pushed h hk (entryOf o p op eccs)
  obtain ⟨⟨hissuing, -⟩, hrows, -, -, -, hblank, -⟩ := h
  obtain ⟨-, hrunning, -⟩ := issuing_prog hissuing
  generalize s.joined o p k (entryOf o p op eccs) = b at *
  have hm0 : midTurn s b.mill.progs (entryOf o p op eccs) (rowsOf p.rows) (rowsOf o.rows) k Z [] b :=
    ⟨hsteady, rfl, hmade ▸ h0, fun r hr _ => hon r hr, fun r hr j hj hrj =>
      (hoff r j fun hro => hrj hro List.not_mem_nil).trans (hblank r hr j hj)⟩
  have hm1 := midTurn_rows hk hop hrow (rowsOf p.rows) (rowsOf_nodup _) (fun _ hr => hr) []
    (fun _ _ => List.not_mem_nil) false b hm0
  rw [← runTurn_eq, List.nil_append, rowsOf_filter_mem hrows] at hm1
  have hclean : ∀ r ∈ rowsOf p.rows, ∀ j < 4, (b.runTurn o.slot p.rows).2.stream r j = StreamQ.blank :=
    fun r hr j hj => hm1.off r hr j hj fun hro hnot => absurd hro hnot
  have hrun : b.runStreams o.slot = (b.runTurn o.slot p.rows).2 :=
    runStreams_turn b o.slot p.counted hprog hrunning hstop
      (runTurn_idle _ _ _ fun r hr j hj => runStream_blank _ _ _ _ (hclean r hr j hj))
  rw [hrun]
  generalize (b.runTurn o.slot p.rows).2 = u at *
  have hup : u.prog o.slot = some p.counted := by rw [State.prog, hm1.progs]; exact hprog
  obtain ⟨hcprog, hcmade, hcstream⟩ := closeWord_closes hup
  rw [hcmade]
  refine ⟨⟨hcprog, fun r hr j hj => (hcstream r j).trans (hclean r hr j hj), fun c hc => ?_⟩, hm1.made⟩
  rw [← made_core, hcmade]
  exact hout _ hm1.made c hc

/-! ### The cores of a row, one after another -/

/-- The operations that a row performs in all its cores at once, without a condition of their own. -/
def COp.plain : COp → Bool
  | .loop _ _ => false
  | .sqSh _ _ _ => false
  | .ldSh _ _ _ => false
  | _ => true

theorem opens_of_plain {e : QEntry} (h : e.op.plain = true) : (StreamQ.one e).opens = [] := by
  unfold StreamQ.one
  dsimp only
  split
  · next c n hop => rw [hop] at h; cases h
  · rfl

theorem runEntry_ready {s : State} {n r : Nat} {e : QEntry} (hloop : ∀ c m, e.op ≠ .loop c m)
    (hsh : ∀ f q l, e.op ≠ .sqSh f q l) (h : ∀ c ∈ coresOf r, (s.core c).ready c e.op = true) :
    s.runsOut n r e (s.rowOp n r e) := by
  intro put
  unfold State.runEntry
  split
  · next c m hop => exact absurd hop (hloop c m)
  · next f q l hop => exact absurd hop (hsh f q l)
  · exact if_pos (List.all_eq_true.2 h)

/-- A row's cores, each performing the operation. -/
def State.eachOf (s : State) (n r : Nat) (e : QEntry) : State :=
  (coresOf r).foldl (fun (acc : State) c => acc.coreOp n c e) s

/-- In row `r` an operation is what its cores make of it, one after another. -/
def rowPerforms (s : State) (n r : Nat) (e : QEntry) : Prop :=
  worked (s.eachOf n r e) (s.rowOp n r e) ∧ (s.rowOp n r e).made = (s.eachOf n r e).made

theorem rowPerforms_plain (s : State) (n r : Nat) {e : QEntry} (h : e.op.plain = true) : rowPerforms s n r e := by
  have hop : s.rowOp n r e = { s.eachOf n r e with draws := (s.eachOf n r e).draws + 128 } := by
    unfold State.rowOp
    split
    · next q l m hop => rw [hop] at h; cases h
    · rfl
  unfold rowPerforms
  rw [hop]
  exact ⟨⟨(steady.refl _).upd, rfl, rfl⟩, rfl⟩

/-- What an operation makes of a core, as its turn comes: with `I D` of what the cores `D` have made, `I` holds with the
core among those done. -/
def coreRuns (s : State) (n : Nat) (e : QEntry) (rows : List Nat) (I : List Nat → Made → Prop) : Prop :=
  ∀ D c a, steady s a → I D a.made → c / 16 ∈ rows → c ∉ D →
    worked a (a.coreOp n c e) ∧ I (D ++ [c]) (a.coreOp n c e).made

theorem foldl_coreOp {s : State} {n : Nat} {e : QEntry} {rows : List Nat} {I : List Nat → Made → Prop}
    (h : coreRuns s n e rows I) (l : List Nat) (hnodup : l.Nodup) (hrows : ∀ c ∈ l, c / 16 ∈ rows) (D : List Nat)
    (hD : ∀ c ∈ l, c ∉ D) (a : State) (ha : steady s a) (hI : I D a.made) :
    worked a (l.foldl (fun (acc : State) c => acc.coreOp n c e) a) ∧
      I (D ++ l) (l.foldl (fun (acc : State) c => acc.coreOp n c e) a).made := by
  induction l generalizing D a with
  | nil => exact ⟨worked.refl a, by rwa [List.append_nil]⟩
  | cons c l ih =>
    obtain ⟨hc, hnodup⟩ := List.nodup_cons.1 hnodup
    obtain ⟨hw, hI'⟩ := h D c a ha hI (hrows c List.mem_cons_self) (hD c List.mem_cons_self)
    have hD' : ∀ d ∈ l, d ∉ D ++ [c] := fun d hd => by
      simp only [List.mem_append, List.mem_singleton, not_or]
      exact ⟨hD d (List.mem_cons_of_mem _ hd), fun e => hc (e ▸ hd)⟩
    obtain ⟨hw', hI''⟩ := ih hnodup (fun d hd => hrows d (List.mem_cons_of_mem _ hd)) (D ++ [c]) hD' _
      (ha.trans hw.tosteady) hI'
    exact ⟨hw.trans hw', by rw [← List.append_cons] at hI''; exact hI''⟩

/-- A row runs out where its cores are ready and it performs the operation core by core. -/
theorem rowRuns_of_coreRuns {s : State} {n : Nat} {e : QEntry} {rows : List Nat} {I : List Nat → Made → Prop}
    (hloop : ∀ c m, e.op ≠ .loop c m) (hsh : ∀ f q l, e.op ≠ .sqSh f q l)
    (hready : ∀ r ∈ rows, ∀ c ∈ coresOf r, (s.core c).ready c e.op = true)
    (htodo : ∀ D m, I D m → ∀ c, c ∉ D → m.core c = s.core c)
    (hrow : ∀ a r D, steady s a → I D a.made → r ∈ rows → rowPerforms a n r e)
    (h : coreRuns s n e rows I) : rowRuns s n e rows fun D => I (D.flatMap coresOf) := by
  intro D r a ha hI hr hD
  have hnot : ∀ c ∈ coresOf r, c ∉ D.flatMap coresOf := fun c hc hcD => by
    rw [mem_flatMap_coresOf, mem_coresOf.1 hc] at hcD
    exact hD hcD
  have hcores : ∀ c ∈ coresOf r, (a.core c).ready c e.op = true := fun c hc => by
    rw [← made_core, htodo _ _ hI c (hnot c hc)]
    exact hready r hr c hc
  obtain ⟨hperforms, hmade⟩ := hrow a r _ ha hI hr
  obtain ⟨hw, hI'⟩ := foldl_coreOp h (coresOf r) (coresOf_nodup r) (fun c hc => by rwa [mem_coresOf.1 hc])
    (D.flatMap coresOf) hnot a ha hI
  refine ⟨_, runEntry_ready hloop hsh hcores, hw.trans hperforms, ?_⟩
  dsimp only
  rw [hmade, List.flatMap_append, List.flatMap_singleton]
  exact hI'

/-! ### Operations that change nothing but their cores -/

/-- The cores `D` are done, as `Q` says of each, and every other core is as in `s`. -/
structure coresDone (s : State) (Q : Nat → Core → Prop) (D : List Nat) (m : Map Core) : Prop where
  todo : ∀ c ∉ D, mget m c Core.blank = s.core c
  done : ∀ c ∈ D, Q c (mget m c Core.blank)

theorem coresDone_nil (s : State) (Q : Nat → Core → Prop) : coresDone s Q [] s.mill.cores :=
  ⟨fun _ _ => rfl, fun _ h => absurd h List.not_mem_nil⟩

theorem coresDone_mput {s : State} {Q : Nat → Core → Prop} {D : List Nat} {m : Map Core} (h : coresDone s Q D m)
    {c : Nat} (hc : c ∉ D) {k : Core} (hk : Q c k) : coresDone s Q (D ++ [c]) (mput m c k) := by
  refine ⟨fun d hd => ?_, fun d hd => ?_⟩
  · simp only [List.mem_append, List.mem_singleton, not_or] at hd
    rw [mget_mput_ne _ _ _ _ _ hd.2, h.todo d hd.1]
  · rcases List.mem_append.1 hd with hd | hd
    · have hdc : d ≠ c := fun e => hc (e ▸ hd)
      rw [mget_mput_ne _ _ _ _ _ hdc]
      exact h.done d hd
    · obtain rfl := List.mem_singleton.1 hd
      rw [mget_mput_same]
      exact hk

/-- In core `c` an operation puts a core of which `Q` holds, and changes nothing else that operations work on. -/
def putsCore (s : State) (n : Nat) (e : QEntry) (Q : Nat → Core → Prop) (c : Nat) : Prop :=
  ∀ a, steady s a → a.granary = s.granary → a.tasks = s.tasks → a.core c = s.core c →
    ∃ u k, a.coreOp n c e = u.setCore c k ∧ worked a u ∧ u.made = a.made ∧ Q c k

/-- What such an operation has made when the cores `D` are done. -/
structure onlyCores (s : State) (Q : Nat → Core → Prop) (D : List Nat) (m : Made) : Prop where
  cores   : coresDone s Q D m.cores
  granary : m.granary = s.granary
  tasks   : m.tasks = s.tasks

theorem coreRuns_onlyCores {s : State} {n : Nat} {e : QEntry} {rows : List Nat} {Q : Nat → Core → Prop}
    (h : ∀ c, c / 16 ∈ rows → putsCore s n e Q c) : coreRuns s n e rows (onlyCores s Q) := by
  intro D c a ha ⟨hcores, hgranary, htasks⟩ hc hD
  obtain ⟨u, k, hop, hw, hu, hk⟩ := h c hc a ha hgranary htasks (hcores.todo c hD)
  obtain ⟨hucores, hugranary, hutasks⟩ := made_congr hu
  rw [hop]
  refine ⟨hw.setCore c k, ?_, hugranary.trans hgranary, hutasks.trans htasks⟩
  show coresDone s Q (D ++ [c]) (mput u.mill.cores c k)
  rw [hucores]
  exact coresDone_mput hcores hD hk

/-- An operation that puts a core in each core of its rows. -/
theorem issueCore_onlyCores {s : State} {o : OpAt} {p : Prog} {op : COp} (h : s.issuesCore o p op) {k : Nat}
    (hk : k < 4) (eccs : List EccResult) (hloop : ∀ c m, op ≠ .loop c m) (hsh : ∀ f q l, op ≠ .sqSh f q l)
    {Q : Nat → Core → Prop}
    (hrow : ∀ a r, steady s a → a.granary = s.granary → a.tasks = s.tasks → r ∈ rowsOf o.rows →
      rowPerforms a o.slot r (entryOf o p op eccs))
    (hcore : ∀ c, c / 16 ∈ rowsOf o.rows → putsCore s o.slot (entryOf o p op eccs) Q c) :
    coreRan s (s.issueCore o (some k) op eccs) o p ∧ (s.issueCore o (some k) op eccs).granary = s.granary ∧
      ∀ r ∈ rowsOf o.rows, ∀ c ∈ coresOf r, Q c ((s.issueCore o (some k) op eccs).core c) := by
  have hopens : (StreamQ.one (entryOf o p op eccs)).opens = [] := by
    cases op with
    | loop c m => exact absurd rfl (hloop c m)
    | _ => rfl
  have hrows := rowRuns_of_coreRuns (e := entryOf o p op eccs) (I := onlyCores s Q) hloop hsh
    (issuesCore_ready h) (fun _ _ hI => hI.cores.todo) (fun a r D ha hI => hrow a r ha hI.granary hI.tasks)
    (coreRuns_onlyCores hcore)
  obtain ⟨hran, hcores, hgranary, -⟩ := issueCore_ran h hk eccs hopens
    (Z := fun D => onlyCores s Q (D.flatMap coresOf)) ⟨coresDone_nil s Q, rfl, rfl⟩ hrows
    fun m hm c hc => hm.cores.todo c fun hcD => hc (mem_flatMap_coresOf.1 hcD)
  exact ⟨hran, hgranary, fun r hr c hc => hcores.done c (List.mem_flatMap.2 ⟨r, hr, hc⟩)⟩

theorem plain_ne {op : COp} (h : op.plain = true) :
    (∀ c m, op ≠ .loop c m) ∧ (∀ f q l, op ≠ .sqSh f q l) := by
  constructor
  · rintro c m rfl
    cases h
  · rintro f q l rfl
    cases h

/-- The same of a plain operation, whose rows need no condition. -/
theorem issueCore_plain {s : State} {o : OpAt} {p : Prog} {op : COp} (h : s.issuesCore o p op) {k : Nat} (hk : k < 4)
    (eccs : List EccResult) (hplain : op.plain = true) {Q : Nat → Core → Prop}
    (hcore : ∀ c, c / 16 ∈ rowsOf o.rows → putsCore s o.slot (entryOf o p op eccs) Q c) :
    coreRan s (s.issueCore o (some k) op eccs) o p ∧ (s.issueCore o (some k) op eccs).granary = s.granary ∧
      ∀ r ∈ rowsOf o.rows, ∀ c ∈ coresOf r, Q c ((s.issueCore o (some k) op eccs).core c) :=
  issueCore_onlyCores h hk eccs (plain_ne hplain).1 (plain_ne hplain).2
    (fun a r _ _ _ _ => rowPerforms_plain a o.slot r hplain) hcore

theorem streamOf_lt {m : RowMode} {engine : Nat} (h : engine < 4) : streamOf m engine < 4 := by
  unfold streamOf
  split
  · exact h
  · split <;> decide

theorem issueTo_eq {s : State} {o : OpAt} {p : Prog} {op : Prog → COp} (h : s.issuesCore o p (op p)) (engine : Nat)
    (eccs : List EccResult) :
    s.issueTo o engine eccs op = s.issueCore o (some (streamOf p.mode engine)) (op p) eccs := by
  simp only [State.issueTo, issuesCore_prog h]

/-- A command whose operation puts a core in each core of its rows. -/
theorem runsInCores_of {i : Instr} {o : OpAt} {engine : Nat} {op : Prog → COp}
    {f : State → Prog → Core → Nat → Nat → Core} (hexec : ∀ s, exec i s = ok (s.issueTo o engine [] op))
    (hengine : engine < 4) (hplain : ∀ p, (op p).plain = true)
    (hcore : ∀ p s c, s.issuesCore o p (op p) → c / 16 ∈ rowsOf o.rows →
      putsCore s o.slot (entryOf o p (op p) []) (fun c k => ∃ fr, k = f s p (s.core c) c fr) c) :
    runsInCores i o op f := by
  intro p s h
  refine ⟨_, hexec s, ?_⟩
  rw [issueTo_eq h]
  exact issueCore_plain h (streamOf_lt hengine) [] (hplain p) fun c hc => hcore p s c h hc

end Sys2Proof.Machine
end

section
/-! ## The vector operations (O46: R389, R433, R462, R511) -/

namespace Sys2Proof.Machine

/-- With no error injected a residue check finds nothing. -/
theorem residue_good {s : State} (n c : Nat) (h : s.rd (Hdr.INJ_COUNT 0x54) = 0) : s.residue n c = s := by
  have ht : s.tallyInject 4 (some c) = (false, s) := by
    unfold State.tallyInject
    dsimp only
    rw [injectUse_of_none s _ _ h]
    split <;> rfl
  simp only [State.residue, ht, Bool.false_eq_true, if_false]

theorem arith_good {s : State} (n c : Nat) (k : Core) (h : s.rd (Hdr.INJ_COUNT 0x54) = 0) :
    s.arith n c k = s.setCore c k := residue_good n c h

/-- A vector operation that puts a core, as `vectorOp` says of it. -/
theorem putsCore_vector {s : State} {n : Nat} {e : QEntry} {Q : Nat → Core → Prop} {c : Nat}
    (hinj : s.rd (Hdr.INJ_COUNT 0x54) = 0) (hop : ∀ a : State, a.coreOp n c e = a.vectorOp n c e.op)
    (h : ∀ a : State, a.rd (Hdr.INJ_COUNT 0x54) = 0 → a.core c = s.core c →
      ∃ k, a.vectorOp n c e.op = a.setCore c k ∧ Q c k) : putsCore s n e Q c := by
  intro a ha _ _ hcore
  obtain ⟨k, hk, hQ⟩ := h a (ha.noTallyInject hinj) hcore
  exact ⟨a, k, (hop a).trans hk, worked.refl a, rfl, hQ⟩

/-- A vector command whose operation puts in each core what `f` gives, with the free values of the state it runs in. -/
theorem runsInCores_vector {i : Instr} {o : OpAt} {op : Prog → COp} {f : Prog → Core → Nat → Nat → Core}
    (hexec : ∀ s, exec i s = ok (s.issueTo o 1 [] op)) (hplain : ∀ p, (op p).plain = true)
    (hop : ∀ p c (a : State), a.coreOp o.slot c (entryOf o p (op p) []) = a.vectorOp o.slot c (op p))
    (h : ∀ p c (a : State), a.rd (Hdr.INJ_COUNT 0x54) = 0 → a.vectorOp o.slot c (op p) =
      a.setCore c (f p (a.core c) c (Config.freeVec (a.draws + c) % 2 ^ 2048))) :
    runsInCores i o op fun _ => f :=
  runsInCores_of hexec (by decide) hplain fun p _ c hs _ =>
    putsCore_vector (issuesCore_noTallyInject hs) (hop p c) fun a ha hcore =>
      ⟨_, h p c a ha, Config.freeVec (a.draws + c) % 2 ^ 2048, by rw [hcore]⟩

/-- The operations of two operands. -/
theorem vbin_runsInCores {i : Instr} {o : OpAt} {b : VBin} {fmt : VFmt} {d x y : VReg} {p : Option Nat}
    (hexec : ∀ s, exec i s = ok (s.issueTo o 1 [] fun _ => .vbin b fmt d x y p)) :
    runsInCores i o (fun _ => .vbin b fmt d x y p) fun _ _ k c fr =>
      (k.two c x y).2.2.result c fr d p (vecBin b fmt fr (k.two c x y).1 (k.two c x y).2.1) :=
  runsInCores_vector hexec (fun _ => rfl) (fun _ _ _ => rfl) fun _ c a ha => by
    simp only [State.vectorOp, arith_good _ _ _ ha, ite_self]
    rfl

/-- The operations of one operand. -/
theorem vun_runsInCores {i : Instr} {o : OpAt} {u : VUn} {fmt : VFmt} {d x : VReg} {p : Option Nat}
    (hexec : ∀ s, exec i s = ok (s.issueTo o 1 [] fun _ => .vun u fmt d x p)) :
    runsInCores i o (fun _ => .vun u fmt d x p) fun _ _ k c fr =>
      (k.take c x).2.result c fr d p (vecUn u fmt (k.take c x).1) :=
  runsInCores_vector hexec (fun _ => rfl) (fun _ _ _ => rfl) fun _ _ _ ha => arith_good _ _ _ ha

theorem vFma_runsInCores (o : OpAt) (fmt : VFmt) (d x y z : VReg) (p : Option Nat) :
    runsInCores (.vFma o fmt d x y z p) o (fun _ => .vfma fmt d x y z p) fun _ _ k c fr =>
      (k.three c x y z).2.2.2.result c fr d p
        (vecFma fmt (k.three c x y z).1 (k.three c x y z).2.1 (k.three c x y z).2.2.1) :=
  runsInCores_vector (fun _ => rfl) (fun _ => rfl) (fun _ _ _ => rfl) fun _ _ _ ha => arith_good _ _ _ ha

/-- Taking a source leaves the predicates. -/
theorem pred_take (k : Core) (c : Nat) (x : VReg) (n : Nat) : (k.take c x).2.pred c n = k.pred c n := by
  cases x <;> rfl

theorem vCmp_runsInCores (o : OpAt) (cc : VCmp) (fmt : VFmt) (pd : Nat) (x y : VReg) (p : Option Nat) :
    runsInCores (.vCmp o cc fmt pd x y p) o (fun _ => .vcmp cc fmt pd x y p) fun _ _ k c fr =>
      (k.two c x y).2.2.setPred pd (packLanes 1 ((List.range 64).map fun j =>
        if bit ((k.mask c p).getD (2 ^ 64 - 1)) j then lane' 1 (vecCmp cc fmt fr (k.two c x y).1 (k.two c x y).2.1) j
        else lane' 1 (k.pred c pd) j)) :=
  runsInCores_vector (fun _ => rfl) (fun _ => rfl) (fun _ _ _ => rfl) fun _ _ _ _ => by
    simp only [State.vectorOp, pred_take]
    rfl

theorem vSel_runsInCores (o : OpAt) (d : VReg) (p : Nat) (x y : VReg) :
    runsInCores (.vSel o d p x y) o (fun _ => .vsel d p x y) fun _ _ k c _ =>
      (k.two c x y).2.2.give d (masked (some (k.pred c p)) (k.two c x y).2.1 (k.two c x y).1) :=
  runsInCores_vector (fun _ => rfl) (fun _ => rfl) (fun _ _ _ => rfl) fun _ _ _ _ => rfl

theorem vMov_runsInCores (o : OpAt) (d x : VReg) (p : Option Nat) :
    runsInCores (.vMov o d x p) o (fun _ => .vmov d x p) fun _ _ k c fr =>
      (k.take c x).2.result c fr d p (k.take c x).1 :=
  runsInCores_vector (fun _ => rfl) (fun _ => rfl) (fun _ _ _ => rfl) fun _ _ _ _ => rfl

theorem vBcast_runsInCores (o : OpAt) (fmt : VFmt) (d : VReg) (xs : Nat) (p : Option Nat) :
    runsInCores (.vBcast o fmt d xs p) o (fun q => .vbcast fmt d (q.xr xs) p) fun _ q k c fr =>
      k.result c fr d p (vecBcast fmt (q.xr xs)) :=
  runsInCores_vector (fun _ => rfl) (fun _ => rfl) (fun _ _ _ => rfl) fun _ _ _ _ => rfl

theorem vIota_runsInCores (o : OpAt) (fmt : VFmt) (d : VReg) (p : Option Nat) :
    runsInCores (.vIota o fmt d p) o (fun _ => .viota fmt d p) fun _ _ k c fr => k.result c fr d p (vecIota fmt) :=
  runsInCores_vector (fun _ => rfl) (fun _ => rfl) (fun _ _ _ => rfl) fun _ _ _ _ => rfl

theorem vPerm_runsInCores (o : OpAt) (fmt : VFmt) (d x i : VReg) (p : Option Nat) :
    runsInCores (.vPerm o fmt d x i p) o (fun _ => .vperm fmt d x i p) fun _ _ k c fr =>
      (k.two c x i).2.2.result c fr d p (vecPerm fmt (k.two c x i).1 (k.two c x i).2.1) :=
  runsInCores_vector (fun _ => rfl) (fun _ => rfl) (fun _ _ _ => rfl) fun _ _ _ _ => rfl

theorem vRed_runsInCores (o : OpAt) (op : VRed) (fmt : VFmt) (d x : VReg) (p : Option Nat) :
    runsInCores (.vRed o op fmt d x p) o (fun _ => .vred op fmt d x p) fun _ _ k c fr =>
      (k.take c x).2.result c fr d p (vecRed op fmt ((k.take c x).2.old c fr d) (k.take c x).1) :=
  runsInCores_vector (fun _ => rfl) (fun _ => rfl) (fun _ _ _ => rfl) fun _ _ _ ha => arith_good _ _ _ ha

theorem vCvt_runsInCores (o : OpAt) (src dst : VFmt) (d x : VReg) (p : Option Nat) :
    runsInCores (.vCvt o src dst d x p) o (fun _ => .vcvt src dst d x p) fun _ _ k c fr =>
      (k.take c x).2.result c fr d p (vecCvt src dst fr (k.take c x).1 fun _ => none) :=
  runsInCores_vector (fun _ => rfl) (fun _ => rfl) (fun _ _ _ => rfl) fun _ _ _ ha => arith_good _ _ _ ha

theorem vCvtSr_runsInCores (o : OpAt) (src dst : VFmt) (d x : VReg) (xseed xidx : Nat) (p : Option Nat) :
    runsInCores (.vCvtSr o src dst d x xseed xidx p) o (fun q => .vcvtSr src dst d x (q.xr xseed) (q.xr xidx) p)
      fun _ q k c fr => (k.take c x).2.result c fr d p
        (vecCvt src dst fr (k.take c x).1 fun i => some (srRandom ((q.xr xidx + i) % 2 ^ 64) (q.xr xseed))) :=
  runsInCores_vector (fun _ => rfl) (fun _ => rfl) (fun _ _ _ => rfl) fun _ _ _ ha => arith_good _ _ _ ha

/-! ### V.PWL (R511) -/

/-- The count of evaluations, and the report of a curve that is not valid. -/
def State.pwlReport (s : State) (n : Nat) (tb : List Nat) : State :=
  if curveOk tb then s.bump Ctr.LOOM_PWL_EVALS 64 else (s.bump Ctr.LOOM_PWL_EVALS 64).pwlBad n

theorem pwlReport_worked (s : State) (n : Nat) (tb : List Nat) :
    worked s (s.pwlReport n tb) ∧ (s.pwlReport n tb).made = s.made := by
  have hs : steady s (s.bump Ctr.LOOM_PWL_EVALS 64) := (steady.refl s).bump
  have hb : worked s (s.bump Ctr.LOOM_PWL_EVALS 64) := ⟨hs, by rw [bump_mill], by rw [bump_mill]⟩
  have hnote := ((hs.wr (f := Reg.LOOM_LAST_VALID) (v := 1)).wr (f := Reg.LOOM_LAST_KIND) (v := 0)).wr
    (f := Reg.LOOM_LAST_SLOT) (v := n)
  unfold State.pwlReport State.pwlBad State.loomNote
  split
  · exact ⟨hb, made_bump s _ _⟩
  · refine ⟨⟨hnote.raise, ?_, ?_⟩, (made_raise _ _ _).trans (made_bump s _ _)⟩ <;>
      simp only [raise_mill, wr_mill, bump_mill]

/-- The curve tables are read from a register, the tables in force and the tables in the shadow. -/
theorem steady.curveTable_eq {s a : State} (h : steady s a) (htasks : a.tasks = s.tasks) (n table : Nat) :
    a.curveTable (a.task n).bank table = s.curveTable (s.task n).bank table := by
  simp only [State.curveTable, h.regs Reg.LOOM_STATUS_ACTIVE_BANK (by decide), h.active, h.shadow, task_congr htasks]

theorem vPwl_runsInCores (o : OpAt) (d x : VReg) (table : Nat) (p : Option Nat) :
    runsInCores (.vPwl o d x table p) o (fun _ => .vpwl d x table p) fun s _ k c fr =>
      (k.take c x).2.result c fr d p (vecPwl (s.curveTable (s.task o.slot).bank table) (k.take c x).1) :=
  runsInCores_of (engine := 1) (fun _ => rfl) (by decide) (fun _ => rfl) fun q s c hs _ a ha _ htasks hcore => by
    have hw := pwlReport_worked a o.slot (s.curveTable (s.task o.slot).bank table)
    have hop : a.coreOp o.slot c (entryOf o q (.vpwl d x table p) []) =
        (a.pwlReport o.slot (a.curveTable (a.task o.slot).bank table)).arith o.slot c
          (((a.core c).take c x).2.result c (Config.freeVec (a.draws + c) % 2 ^ 2048) d p
            (vecPwl (a.curveTable (a.task o.slot).bank table) ((a.core c).take c x).1)) := rfl
    rw [ha.curveTable_eq htasks, hcore, arith_good _ _ _
      ((ha.trans hw.1.tosteady).noTallyInject (issuesCore_noTallyInject hs))] at hop
    exact ⟨_, _, hop, hw.1, hw.2, _, rfl⟩

/-- Settles O46: a lemma for each kind of operation; the operations of one kind differ in their lanes' function
alone. -/
theorem vectorOperations : Obligations.VectorOperations := by
  unfold Obligations.VectorOperations
  exact ⟨fun _ _ _ _ _ _ => vbin_runsInCores fun _ => rfl, fun _ _ _ _ _ _ => vbin_runsInCores fun _ => rfl,
    fun _ _ _ _ _ _ => vbin_runsInCores fun _ => rfl, vFma_runsInCores,
    fun _ _ _ _ _ _ => vbin_runsInCores fun _ => rfl, fun _ _ _ _ _ _ => vbin_runsInCores fun _ => rfl,
    fun _ _ _ _ _ => vun_runsInCores fun _ => rfl, fun _ _ _ _ _ => vun_runsInCores fun _ => rfl,
    fun _ _ _ _ _ _ => vbin_runsInCores fun _ => rfl, fun _ _ _ _ _ _ => vbin_runsInCores fun _ => rfl,
    fun _ _ _ _ _ _ => vbin_runsInCores fun _ => rfl, fun _ _ _ _ _ => vun_runsInCores fun _ => rfl,
    fun _ _ _ _ _ _ => vbin_runsInCores fun _ => rfl, fun _ _ _ _ _ _ => vbin_runsInCores fun _ => rfl,
    fun _ _ _ _ _ _ => vbin_runsInCores fun _ => rfl, vCmp_runsInCores, vSel_runsInCores, vMov_runsInCores,
    vBcast_runsInCores, vIota_runsInCores, vPerm_runsInCores, vRed_runsInCores, vCvt_runsInCores, vCvtSr_runsInCores,
    vPwl_runsInCores⟩

end Sys2Proof.Machine
end

section
/-! ## Bytes of the Granary written and read (O48: R408, R409, R415) -/

namespace Sys2Proof.Machine

theorem length_leBytes (n v : Nat) : (leBytes n v).length = n := by
  induction n generalizing v with
  | zero => rfl
  | succ n ih => rw [leBytes, List.length_cons, ih]

theorem length_readBytes (m : Map Byte) (d : Byte) (a n : Nat) : (readBytes m d a n).length = n := by
  induction n generalizing a with
  | zero => rfl
  | succ n ih => rw [readBytes, List.length_cons, ih]

theorem getElem_readBytes (m : Map Byte) (d : Byte) (a n i : Nat) (h : i < (readBytes m d a n).length) :
    (readBytes m d a n)[i] = mget m (a + i) d := by
  induction n generalizing a i with
  | zero => exact absurd h (Nat.not_lt_zero i)
  | succ n ih =>
    cases i with
    | zero => rfl
    | succ i =>
      have hi := ih (a + 1) i (Nat.lt_of_succ_lt_succ h)
      rw [show a + (i + 1) = a + 1 + i by omega, ← hi]
      rfl

/-- Bytes read where they were just written. -/
theorem readBytes_writeBytes (m : Map Byte) (d : Byte) (a : Nat) (bs : List Byte) :
    readBytes (writeBytes m d a bs) d a bs.length = bs := by
  refine List.ext_getElem (length_readBytes ..) fun i h hbs => ?_
  rw [getElem_readBytes, mget_writeBytes_in m d a bs i hbs]

/-- Bytes read depend on the bytes of their range alone. -/
theorem readBytes_congr {m m' : Map Byte} {d : Byte} {a n : Nat}
    (h : ∀ b, a ≤ b → b < a + n → mget m b d = mget m' b d) : readBytes m d a n = readBytes m' d a n := by
  refine List.ext_getElem (by rw [length_readBytes, length_readBytes]) fun i hi _ => ?_
  rw [length_readBytes] at hi
  rw [getElem_readBytes, getElem_readBytes]
  exact h _ (by omega) (by omega)

theorem writeBytes_append (m : Map Byte) (d : Byte) (a : Nat) (x y : List Byte) :
    writeBytes m d a (x ++ y) = writeBytes (writeBytes m d a x) d (a + x.length) y := by
  induction x generalizing m a with
  | nil => rfl
  | cons b t ih => rw [List.cons_append, writeBytes, ih, writeBytes, List.length_cons, Nat.add_right_comm]; rfl

theorem mem_linesOf {a n l : Nat} : l ∈ linesOf a n ↔ a / 64 ≤ l ∧ l < (a + n + 63) / 64 := by
  simp only [linesOf, List.mem_map, List.mem_range]
  constructor
  · rintro ⟨i, hi, rfl⟩
    omega
  · intro h
    exact ⟨l - a / 64, by omega, by omega⟩

theorem granaryPoke_append (s : State) (a : Nat) (x y : List Byte) :
    (s.granaryPoke a x).granaryPoke (a + x.length) y = s.granaryPoke a (x ++ y) := by
  simp only [State.granaryPoke, writeBytes_append]

/-- The pieces of a write to lines that are not poisoned are stored one behind the other. -/
theorem foldl_linePieces (p : Port) (o : Occ) (k : Nat) (s : State) (a : Nat) (d : List Byte) (hk : d.length < k)
    (h : ∀ l ∈ linesOf a d.length, s.poisoned l = false) :
    (linePieces k a d).foldl (fun (acc : Bool × State) q =>
      let r := acc.2.granaryWriteLine p q.1 q.2 o
      (acc.1 && r.1, r.2)) (true, s) = (true, s.granaryPoke a d) := by
  induction k generalizing s a d with
  | zero => exact absurd hk (Nat.not_lt_zero _)
  | succ k ih =>
    unfold linePieces
    by_cases hd : d = []
    · subst hd
      rfl
    · have hpos : 0 < d.length := List.length_pos_iff.2 hd
      have hline : s.poisoned (a / 64) = false := h _ (mem_linesOf.2 ⟨Nat.le_refl _, by omega⟩)
      have hwrite : s.granaryWriteLine p a (d.take (64 - a % 64)) o =
          (true, s.granaryPoke a (d.take (64 - a % 64))) := by
        simp only [State.granaryWriteLine, hline, Bool.not_false, if_true]
      have hempty : d.isEmpty = false := by simpa using hd
      rw [hempty]
      simp only [Bool.false_eq_true, if_false, List.foldl_cons, hwrite, Bool.and_self]
      rw [ih _ _ _ (by rw [List.length_drop]; omega) fun l hl => ?_]
      · by_cases hlong : 64 - a % 64 ≤ d.length
        · have hlen : (d.take (64 - a % 64)).length = 64 - a % 64 := List.length_take_of_le hlong
          have hjoin := granaryPoke_append s a (d.take (64 - a % 64)) (d.drop (64 - a % 64))
          rw [hlen, List.take_append_drop] at hjoin
          rw [hjoin]
        · have hrest : d.drop (64 - a % 64) = [] := List.drop_eq_nil_of_le (by omega)
          rw [hrest, List.take_of_length_le (by omega)]
          rfl
      · refine h l (mem_linesOf.2 ?_)
        rw [List.length_drop] at hl
        have hl' := mem_linesOf.1 hl
        omega

theorem granaryWrite_clean {s : State} (p : Port) (a : Nat) (d : List Byte) (o : Occ)
    (h : ∀ l ∈ linesOf a d.length, s.poisoned l = false) : s.granaryWrite p a d o = (true, s.granaryPoke a d) :=
  foldl_linePieces p o _ s a d (Nat.lt_succ_self _) h

/-! ### Loads and stores of a core -/

/-- A load of aligned bytes of the Granary, not poisoned, gives the bytes and changes nothing. -/
theorem coreLoad_good {s : State} (n : Nat) {a len : Nat} (hinj : s.rd (Hdr.INJ_COUNT 0x62) = 0) (ha : a % 64 = 0)
    (hin : inGranary a len = true) (hpoison : ∀ l ∈ linesOf a len, s.poisoned l = false) :
    s.coreLoad n a len .ok = (some (ofLe (s.granaryBytes a len)), s) := by
  have hlegal : ¬(a % 64 ≠ 0 ∨ (!inGranary a len) = true) := by simp [ha, hin]
  rw [State.coreLoad, if_neg hlegal, granaryRead_clean .mill a len _ hinj hpoison]

/-- An aligned store within the region to lines that are not poisoned stores its bytes. -/
theorem coreStore_good {s : State} (n c : Nat) (e : QEntry) {a len : Nat} (v : Nat) (ha : a % 64 = 0)
    (hin : s.inRegion n a len = true) (hpoison : ∀ l ∈ linesOf a len, s.poisoned l = false) :
    s.coreStore n c e a len v = s.granaryPoke a (leBytes len v) := by
  have hwrite : s.taskWrite n c a (leBytes len v) = (true, s.granaryPoke a (leBytes len v)) := by
    simp only [State.taskWrite, length_leBytes, hin, Bool.not_true, Bool.false_eq_true, if_false,
      granaryWrite_clean .mill a (leBytes len v) (s.occOf n) (by rwa [length_leBytes]), if_true]
  simp only [State.coreStore, hin, if_true, ha, hwrite]

theorem inRegion_congr {s t : State} (h : t.tasks = s.tasks) (n a len : Nat) :
    t.inRegion n a len = s.inRegion n a len := by
  simp only [State.inRegion, task_congr h]

theorem poisoned_congr {s t : State} (h : t.granary.poison = s.granary.poison) (l : Nat) :
    t.poisoned l = s.poisoned l := by
  simp only [State.poisoned, h]

theorem granaryBytes_congr {s t : State} (h : t.granary = s.granary) (a n : Nat) :
    t.granaryBytes a n = s.granaryBytes a n := by
  simp only [State.granaryBytes, h]

end Sys2Proof.Machine
end

section
/-! ## Address registers, loads, sheaves and tokens of the cores (O48: R386, R425, R430, R431, R435) -/

namespace Sys2Proof.Machine

/-! ### Address registers and tokens -/

/-- An operation that puts a core that depends on the core before it alone. -/
theorem putsCore_of_core {s : State} {n : Nat} {e : QEntry} {c : Nat} {f : Core → Core} {Q : Nat → Core → Prop}
    (hop : ∀ a : State, a.coreOp n c e = a.setCore c (f (a.core c))) (hQ : Q c (f (s.core c))) : putsCore s n e Q c :=
  fun a _ _ _ hcore => ⟨a, _, hop a, worked.refl a, rfl, by rw [hcore]; exact hQ⟩

theorem aSet_runsInCores (o : OpAt) (an xs : Nat) :
    runsInCores (.aSet o an xs) o (fun p => .aSet an (p.xr xs)) fun _ p k _ _ => k.setAddr an (p.xr xs) :=
  runsInCores_of (engine := 0) (fun _ => rfl) (by decide) (fun _ => rfl) fun p _ _ _ _ =>
    putsCore_of_core (f := fun k => k.setAddr an (p.xr xs)) (fun _ => rfl) ⟨0, rfl⟩

theorem aSetc_runsInCores (o : OpAt) (an xs stride : Nat) :
    runsInCores (.aSetc o an xs stride) o (fun p => .aSetc an (p.xr xs) stride) fun _ p k c _ =>
      k.setAddr an (p.xr xs + rankOf (o.rows % 256) c * stride) :=
  runsInCores_of (engine := 0) (fun _ => rfl) (by decide) (fun _ => rfl) fun p _ c _ _ =>
    putsCore_of_core (f := fun k => k.setAddr an (p.xr xs + rankOf (o.rows % 256) c * stride)) (fun _ => rfl) ⟨0, rfl⟩

theorem aAdd_runsInCores (o : OpAt) (an : Nat) (imm : Int) :
    runsInCores (.aAdd o an imm) o (fun _ => .aAdd an imm) fun _ _ k c _ =>
      k.setAddr an (ofSigned 32 (k.addr c an + imm)) :=
  runsInCores_of (engine := 0) (fun _ => rfl) (by decide) (fun _ => rfl) fun _ _ c _ _ =>
    putsCore_of_core (f := fun k => k.setAddr an (ofSigned 32 (k.addr c an + imm))) (fun _ => rfl) ⟨0, rfl⟩

theorem loopStream_lt {m : RowMode} {st : Stream} {k : Nat} (h : loopStream m st = some k) : k < 4 := by
  cases st with
  | access =>
    cases h
    decide
  | vector | matrix | sieve | execute =>
    dsimp only [loopStream] at h
    split at h
    · cases h
      decide
    · cases h

theorem sig_moves (o : OpAt) (st : Stream) (tok : Nat) (p : Prog) (s : State)
    (hst : (loopStream p.mode st).isSome = true) (h : s.issuesCore o p (.sig tok)) :
    completes (.sig o st tok) s fun t => coreRan s t o p ∧ ∀ r ∈ rowsOf o.rows, ∀ c ∈ coresOf r,
      t.core c = (s.core c).setToken tok ((s.core c).token c tok + 1) := by
  obtain ⟨k, hk⟩ := Option.isSome_iff_exists.1 hst
  have hexec : exec (.sig o st tok) s = ok (s.issueCore o (some k) (.sig tok) []) := by
    show execSig o st tok s = _
    simp only [execSig, issuesCore_prog h, hk]
  obtain ⟨hran, -, hcores⟩ := issueCore_plain h (loopStream_lt hk) [] rfl
    (Q := fun c k => k = (s.core c).setToken tok ((s.core c).token c tok + 1)) fun c _ =>
      putsCore_of_core (f := fun k => k.setToken tok (k.token c tok + 1)) (fun _ => rfl) rfl
  exact ⟨_, hexec, hran, hcores⟩

theorem wait_moves (o : OpAt) (st : Stream) (tok : Nat) (p : Prog) (s : State)
    (hst : (loopStream p.mode st).isSome = true) (h : s.issuesCore o p (.wait tok)) :
    completes (.wait o st tok) s fun t => coreRan s t o p ∧ ∀ r ∈ rowsOf o.rows, ∀ c ∈ coresOf r,
      t.core c = (s.core c).setToken tok ((s.core c).token c tok - 1) := by
  obtain ⟨k, hk⟩ := Option.isSome_iff_exists.1 hst
  have hexec : exec (.wait o st tok) s = ok (s.issueCore o (some k) (.wait tok) []) := by
    show execWait o st tok s = _
    simp only [execWait, issuesCore_prog h, hk]
  obtain ⟨hran, -, hcores⟩ := issueCore_plain h (loopStream_lt hk) [] rfl
    (Q := fun c k => k = (s.core c).setToken tok ((s.core c).token c tok - 1)) fun c _ =>
      putsCore_of_core (f := fun k => k.setToken tok (k.token c tok - 1)) (fun _ => rfl) rfl
  exact ⟨_, hexec, hran, hcores⟩

/-! ### Loads -/

/-- The bytes at core `c`'s address register can be loaded: aligned, in the Granary, not poisoned. -/
def State.loadable (s : State) (c an len : Nat) : Prop :=
  (s.core c).addr c an % 64 = 0 ∧ inGranary ((s.core c).addr c an) len = true ∧
    ∀ l ∈ linesOf ((s.core c).addr c an) len, s.poisoned l = false

theorem coreLoad_loadable {s a : State} {n c an len : Nat} (hl : s.loadable c an len)
    (hinj : a.rd (Hdr.INJ_COUNT 0x62) = 0) (hgranary : a.granary = s.granary) :
    a.coreLoad n ((s.core c).addr c an) len .ok = (some (ofLe (s.granaryBytes ((s.core c).addr c an) len)), a) := by
  obtain ⟨halign, hin, hpoison⟩ := hl
  rw [coreLoad_good n hinj halign hin fun l hl => (poisoned_congr (by rw [hgranary]) l).trans (hpoison l hl),
    granaryBytes_congr hgranary]

/-- LD.V and LD.Q: the bytes at the address, put where `f` puts them in the core with its register advanced. -/
theorem putsCore_load {s : State} {n an len : Nat} {inc : Int} {e : QEntry} {c : Nat} (f : Core → Nat → Core)
    (hinj : s.rd (Hdr.INJ_COUNT 0x62) = 0) (hl : s.loadable c an len)
    (hop : ∀ a : State, a.coreOp n c e =
      let r := (a.setCore c ((a.core c).step c an inc).2).coreLoad n ((a.core c).addr c an) len .ok
      r.1.elim r.2 fun v => r.2.setCore c (f ((a.core c).step c an inc).2 v)) :
    putsCore s n e (fun c k => k = f ((s.core c).setAddr an (ofSigned 32 ((s.core c).addr c an + inc)))
      (ofLe (s.granaryBytes ((s.core c).addr c an) len))) c := by
  intro a ha hgranary _ hcore
  have hload := coreLoad_loadable (n := n) (a := a.setCore c ((s.core c).step c an inc).2) hl
    (ha.noGranaryInject hinj) hgranary
  refine ⟨a, _, ?_, worked.refl a, rfl, rfl⟩
  rw [hop a, hcore]
  dsimp only
  rw [hload, Option.elim_some, setCore_setCore]
  rfl

theorem ldV_loads (o : OpAt) (vd an : Nat) (inc : Int) (p : Prog) (s : State) (h : s.issuesCore o p (.ldV vd an inc))
    (hl : ∀ r ∈ rowsOf o.rows, ∀ c ∈ coresOf r, s.loadable c an 256) :
    completes (.ldV o vd an inc []) s fun t => coreRan s t o p ∧ t.granary = s.granary ∧ ∀ r ∈ rowsOf o.rows,
      ∀ c ∈ coresOf r, t.core c = ((s.core c).setAddr an (ofSigned 32 ((s.core c).addr c an + inc))).setVec vd
        (ofLe (s.granaryBytes ((s.core c).addr c an) 256)) := by
  refine ⟨s.issueTo o 0 [] fun _ => .ldV vd an inc, rfl, ?_⟩
  rw [issueTo_eq (op := fun _ => .ldV vd an inc) h]
  exact issueCore_plain h (streamOf_lt (by decide)) [] rfl fun c hc =>
    putsCore_load (fun k v => k.setVec vd v) (issuesCore_noGranaryInject h) (hl _ hc c (mem_coresOf.2 rfl)) fun _ => rfl

theorem ldQ_loads (o : OpAt) (qn an : Nat) (inc : Int) (p : Prog) (s : State) (h : s.issuesCore o p (.ldQ qn an inc))
    (hl : ∀ r ∈ rowsOf o.rows, ∀ c ∈ coresOf r, s.loadable c an 256) :
    completes (.ldQ o qn an inc []) s fun t => coreRan s t o p ∧ t.granary = s.granary ∧ ∀ r ∈ rowsOf o.rows,
      ∀ c ∈ coresOf r, t.core c = ((s.core c).setAddr an (ofSigned 32 ((s.core c).addr c an + inc))).push qn
        (ofLe (s.granaryBytes ((s.core c).addr c an) 256)) := by
  refine ⟨s.issueTo o 0 [] fun _ => .ldQ qn an inc, rfl, ?_⟩
  rw [issueTo_eq (op := fun _ => .ldQ qn an inc) h]
  exact issueCore_plain h (streamOf_lt (by decide)) [] rfl fun c hc =>
    putsCore_load (fun k v => k.push qn v) (issuesCore_noGranaryInject h) (hl _ hc c (mem_coresOf.2 rfl)) fun _ => rfl

theorem accAt_setAcc_same (k : Core) (c i v : Nat) : (k.setAcc i v).accAt c i = v % 2 ^ 32 := mget_mput_same ..

theorem accAt_setAcc_ne (k : Core) (c v : Nat) {i j : Nat} (h : j % 1024 ≠ i % 1024) :
    (k.setAcc i v).accAt c j = k.accAt c j := mget_mput_ne _ _ _ _ _ h

/-- Elements of one accumulator, written one after another. -/
def Core.fillAcc (k : Core) (base : Nat) (g : Nat → Nat) (n : Nat) : Core :=
  (List.range n).foldl (fun (acc : Core) i => acc.setAcc (base + i) (g i)) k

theorem accAt_fillAcc (k : Core) (c : Nat) {base : Nat} (g : Nat → Nat) {n i : Nat} (hi : i < n)
    (hn : base + n ≤ 1024) : (k.fillAcc base g n).accAt c (base + i) = g i % 2 ^ 32 := by
  induction n with
  | zero => exact absurd hi (Nat.not_lt_zero i)
  | succ n ih =>
    rw [Core.fillAcc, List.range_succ, List.foldl_append, List.foldl_cons, List.foldl_nil]
    by_cases hin : i = n
    · rw [hin, accAt_setAcc_same]
    · have hkey : (base + i) % 1024 ≠ (base + n) % 1024 := by omega
      rw [accAt_setAcc_ne _ _ _ hkey]
      exact ih (by omega) (by omega)

theorem lane_mod (w v i : Nat) : lane' w v i % 2 ^ w = lane' w v i := Nat.mod_mod _ _

theorem accLd_loads (o : OpAt) (cn an : Nat) (p : Prog) (s : State) (h : s.issuesCore o p (.accLd cn an))
    (hl : ∀ r ∈ rowsOf o.rows, ∀ c ∈ coresOf r, s.loadable c an 1024) :
    completes (.accLd o cn an []) s fun t => coreRan s t o p ∧ t.granary = s.granary ∧ ∀ r ∈ rowsOf o.rows,
      ∀ c ∈ coresOf r, ∀ i < 256, (t.core c).accAt c (256 * (cn % 4) + i) =
        lane' 32 (ofLe (s.granaryBytes ((s.core c).addr c an) 1024)) i := by
  refine ⟨s.issueTo o 0 [] fun _ => .accLd cn an, rfl, ?_⟩
  rw [issueTo_eq (op := fun _ => .accLd cn an) h]
  refine issueCore_plain h (streamOf_lt (by decide)) [] rfl (Q := fun c k => ∀ i < 256,
    k.accAt c (256 * (cn % 4) + i) = lane' 32 (ofLe (s.granaryBytes ((s.core c).addr c an) 1024)) i)
    fun c hc a ha hgranary _ hcore => ?_
  have hload := coreLoad_loadable (n := o.slot) (hl _ hc c (mem_coresOf.2 rfl))
    (ha.noGranaryInject (issuesCore_noGranaryInject h)) hgranary
  have hop : a.coreOp o.slot c (entryOf o p (.accLd cn an) []) =
      let r := a.coreLoad o.slot ((a.core c).addr c an) 1024 .ok
      r.1.elim r.2 fun v => r.2.setCore c ((a.core c).fillAcc (256 * (cn % 4)) (lane' 32 v) 256) := rfl
  rw [hcore] at hop
  dsimp only at hop
  rw [hload, Option.elim_some] at hop
  refine ⟨a, _, hop, worked.refl a, rfl, fun i hi => ?_⟩
  rw [accAt_fillAcc _ _ _ hi (by omega), lane_mod]

/-! ### LD.SH (R386, R431) -/

/-- A sheaf in its cell whose tally fits is read, and its check counted. -/
theorem loadSheaf_good {s : State} {x : Sheaf} (n core land seq : Nat) (hinjT : s.rd (Hdr.INJ_COUNT 0x54) = 0)
    (hinjG : s.rd (Hdr.INJ_COUNT 0x62) = 0)
    (hx : x = parseSheaf (s.granaryBytes (cellAddr (s.landOf land) seq) 528)) (htally : x.tally = sheafTally x)
    (hpoison : ∀ l ∈ linesOf (cellAddr (s.landOf land) seq) 528, s.poisoned l = false) :
    s.loadSheaf n core land seq .ok = (some x, s.bump Ctr.TALLY_TALLIES_CHECKED 1) := by
  have hsteady : steady s (s.bump Ctr.TALLY_TALLIES_CHECKED 1) := (steady.refl s).bump
  have hinj : (s.bump Ctr.TALLY_TALLIES_CHECKED 1).tallyInject 2 (some core) =
      (false, s.bump Ctr.TALLY_TALLIES_CHECKED 1) := by
    unfold State.tallyInject
    dsimp only
    rw [injectUse_of_none _ _ _ (hsteady.noTallyInject hinjT)]
    split <;> rfl
  simp only [State.loadSheaf, granaryRead_clean .mill _ 528 _ hinjG hpoison, hinj, ← hx, htally, Option.isNone_some,
    Bool.or_self, bne_self_eq_false, Bool.false_eq_true, if_false]

theorem steady.shLegal_eq {s a : State} (h : steady s a) (hgranary : a.granary = s.granary) (htasks : a.tasks = s.tasks)
    (n land seq : Nat) : a.shLegal n land seq = s.shLegal n land seq := by
  simp only [State.shLegal, State.landOf, h.active, granaryBytes_congr hgranary, State.isDelivered, h.sched,
    State.taskTag, State.tagOf, task_congr htasks]

theorem ldSh_loads (o : OpAt) (qn xland xseq : Nat) (x : Sheaf) (p : Prog) (s : State)
    (h : s.issuesCore o p (.ldSh qn (p.xr xland % 1024) (p.xr xseq % 2 ^ 24)))
    (hlegal : s.shLegal o.slot (p.xr xland % 1024) (p.xr xseq % 2 ^ 24) = true)
    (hx : x = parseSheaf (s.granaryBytes (cellAddr (s.landOf (p.xr xland % 1024)) (p.xr xseq % 2 ^ 24)) 528))
    (htally : x.tally = sheafTally x)
    (hpoison : ∀ l ∈ linesOf (cellAddr (s.landOf (p.xr xland % 1024)) (p.xr xseq % 2 ^ 24)) 528,
      s.poisoned l = false) :
    completes (.ldSh o qn xland xseq []) s fun t => coreRan s t o p ∧ t.granary = s.granary ∧ ∀ r ∈ rowsOf o.rows,
      ∀ c ∈ coresOf r, t.core c =
        ((s.core c).push qn (ofLe (x.payload.take 256))).push qn (ofLe (x.payload.drop 256)) := by
  refine ⟨s.issueTo o 0 [] fun p => .ldSh qn (p.xr xland % 1024) (p.xr xseq % 2 ^ 24), rfl, ?_⟩
  rw [issueTo_eq (op := fun p => .ldSh qn (p.xr xland % 1024) (p.xr xseq % 2 ^ 24)) h]
  generalize p.xr xland % 1024 = land at *
  generalize p.xr xseq % 2 ^ 24 = seq at *
  refine issueCore_onlyCores h (streamOf_lt (by decide)) [] (fun _ _ => COp.noConfusion) (fun _ _ _ => COp.noConfusion)
    (Q := fun c k => k = ((s.core c).push qn (ofLe (x.payload.take 256))).push qn (ofLe (x.payload.drop 256)))
    (fun a r ha hgranary htasks _ => ?_) fun c _ a ha hgranary _ hcore => ?_
  · have hrow : a.rowOp o.slot r (entryOf o p (.ldSh qn land seq) []) =
        a.eachOf o.slot r (entryOf o p (.ldSh qn land seq) []) :=
      if_pos ((ha.shLegal_eq hgranary htasks o.slot land seq).trans hlegal)
    unfold rowPerforms
    rw [hrow]
    exact ⟨worked.refl _, rfl⟩
  · have hland : a.landOf land = s.landOf land := by simp only [State.landOf, ha.active]
    have hload := loadSheaf_good (s := a) (x := x) o.slot c land seq
      (ha.noTallyInject (issuesCore_noTallyInject h)) (ha.noGranaryInject (issuesCore_noGranaryInject h))
      (by rw [hland, granaryBytes_congr hgranary]; exact hx) htally fun l hl =>
        (poisoned_congr (by rw [hgranary]) l).trans (hpoison l (hland ▸ hl))
    have hop : a.coreOp o.slot c (entryOf o p (.ldSh qn land seq) []) =
        let r := a.loadSheaf o.slot c land seq .ok
        r.1.elim (r.2.noteWord o.slot o.word o.pb) fun x => r.2.setCore c
          (((a.core c).push qn (ofLe (x.payload.take 256))).push qn (ofLe (x.payload.drop 256))) := rfl
    rw [hload, hcore] at hop
    have hsteady : steady a (a.bump Ctr.TALLY_TALLIES_CHECKED 1) := (steady.refl a).bump
    exact ⟨_, _, hop, ⟨hsteady, by rw [bump_mill], by rw [bump_mill]⟩, made_bump a _ _, rfl⟩

end Sys2Proof.Machine
end

section
/-! ## Stores of the cores (O48: R415, R430) -/

namespace Sys2Proof.Machine

/-- What cores store: core `c` the `len` bytes `data c` at `addr c`. -/
structure Stores where
  addr : Nat → Nat
  len  : Nat
  data : Nat → List Byte

/-- The ranges of two cores have no byte in common. -/
def Stores.apart (w : Stores) (c d : Nat) : Prop := w.addr c + w.len ≤ w.addr d ∨ w.addr d + w.len ≤ w.addr c

/-- The stores of the cores `D` are done, `K` holds of the cores, and every other byte is as in `s`. -/
structure stored (s : State) (K : List Nat → Map Core → Prop) (w : Stores) (D : List Nat) (m : Made) : Prop where
  cores  : K D m.cores
  tasks  : m.tasks = s.tasks
  poison : m.granary.poison = s.granary.poison
  done   : ∀ c ∈ D, readBytes m.granary.mem granaryDefault (w.addr c) w.len = w.data c
  rest   : ∀ b, (∀ c ∈ D, b < w.addr c ∨ w.addr c + w.len ≤ b) →
    mget m.granary.mem b granaryDefault = mget s.granary.mem b granaryDefault

/-- In core `c` an operation stores that core's bytes, and changes of the cores what leads `K` on. -/
def storesOf (s : State) (n : Nat) (e : QEntry) (K : List Nat → Map Core → Prop) (w : Stores) (c : Nat) : Prop :=
  (w.data c).length = w.len ∧ ∀ a, steady s a → a.tasks = s.tasks → a.granary.poison = s.granary.poison →
    a.core c = s.core c → ∃ u, a.coreOp n c e = u.granaryPoke (w.addr c) (w.data c) ∧ worked a u ∧
      u.granary = a.granary ∧ u.tasks = a.tasks ∧ ∀ D, c ∉ D → K D a.mill.cores → K (D ++ [c]) u.mill.cores

theorem readBytes_writeBytes_apart (m : Map Byte) (d : Byte) (a n : Nat) (x : Nat) (bs : List Byte)
    (h : x + bs.length ≤ a ∨ a + n ≤ x) : readBytes (writeBytes m d x bs) d a n = readBytes m d a n :=
  readBytes_congr fun _ _ _ => mget_writeBytes_out _ _ _ _ _ _ (by omega)

theorem coreRuns_stored {s : State} {n : Nat} {e : QEntry} {rows : List Nat} {K : List Nat → Map Core → Prop}
    {w : Stores} (hK : ∀ D m, K D m → ∀ c, c ∉ D → mget m c Core.blank = s.core c)
    (hapart : ∀ c d, c / 16 ∈ rows → d / 16 ∈ rows → d ≠ c → w.apart c d)
    (h : ∀ c, c / 16 ∈ rows → storesOf s n e K w c) :
    coreRuns s n e rows fun D m => (∀ c ∈ D, c / 16 ∈ rows) ∧ stored s K w D m := by
  rintro D c a ha ⟨hD, hst⟩ hc hcD
  obtain ⟨hlen, hcore⟩ := h c hc
  obtain ⟨u, hop, hw, hgranary, htasks, hnext⟩ := hcore a ha hst.tasks hst.poison (hK D _ hst.cores c hcD)
  have hmem : (u.granaryPoke (w.addr c) (w.data c)).granary.mem =
      writeBytes a.granary.mem granaryDefault (w.addr c) (w.data c) := by rw [← hgranary]; rfl
  have hpoison : (u.granaryPoke (w.addr c) (w.data c)).granary.poison = a.granary.poison := by rw [← hgranary]; rfl
  rw [hop]
  refine ⟨hw.granaryPoke _ _, fun d hd => ?_, hnext D hcD hst.cores, htasks.trans hst.tasks, hpoison.trans hst.poison,
    fun d hd => ?_, fun b hb => ?_⟩
  · rcases List.mem_append.1 hd with hd | hd
    · exact hD d hd
    · rwa [List.mem_singleton.1 hd]
  · show readBytes (u.granaryPoke (w.addr c) (w.data c)).granary.mem granaryDefault (w.addr d) w.len = w.data d
    rw [hmem]
    rcases List.mem_append.1 hd with hd | hd
    · have hne : d ≠ c := fun e => hcD (e ▸ hd)
      rw [readBytes_writeBytes_apart _ _ _ _ _ _ (by rw [hlen]; exact hapart c d hc (hD d hd) hne)]
      exact hst.done d hd
    · rw [List.mem_singleton.1 hd, ← hlen, readBytes_writeBytes]
  · show mget (u.granaryPoke (w.addr c) (w.data c)).granary.mem b granaryDefault = _
    rw [hmem, mget_writeBytes_out _ _ _ _ _ _ (by rw [hlen]; exact hb c (List.mem_append_right _ List.mem_cons_self))]
    exact hst.rest b fun d hd => hb d (List.mem_append_left _ hd)

/-- An operation that stores in each core of its rows, each clear of the others. -/
theorem issueCore_stores {s : State} {o : OpAt} {p : Prog} {op : COp} (h : s.issuesCore o p op) {k : Nat} (hk : k < 4)
    (hplain : op.plain = true) {K : List Nat → Map Core → Prop} {w : Stores} (hK0 : K [] s.mill.cores)
    (hK : ∀ D m, K D m → ∀ c, c ∉ D → mget m c Core.blank = s.core c)
    (hapart : ∀ c d, c / 16 ∈ rowsOf o.rows → d / 16 ∈ rowsOf o.rows → d ≠ c → w.apart c d)
    (hcore : ∀ c, c / 16 ∈ rowsOf o.rows → storesOf s o.slot (entryOf o p op []) K w c) :
    coreRan s (s.issueCore o (some k) op []) o p ∧
      memKeptBut s (s.issueCore o (some k) op []) w.len (((rowsOf o.rows).flatMap coresOf).map w.addr) ∧
      K ((rowsOf o.rows).flatMap coresOf) (s.issueCore o (some k) op []).mill.cores ∧
      ∀ c ∈ (rowsOf o.rows).flatMap coresOf,
        (s.issueCore o (some k) op []).granaryBytes (w.addr c) w.len = w.data c := by
  have hrows := rowRuns_of_coreRuns (e := entryOf o p op []) (plain_ne hplain).1 (plain_ne hplain).2
    (issuesCore_ready h)
    (fun D m hI => hK D m.cores hI.2.cores) (fun a r _ _ _ _ => rowPerforms_plain a o.slot r hplain)
    (coreRuns_stored hK hapart hcore)
  obtain ⟨hran, -, hst⟩ := issueCore_ran h hk [] (opens_of_plain hplain)
    (Z := fun D m => (∀ c ∈ D.flatMap coresOf, c / 16 ∈ rowsOf o.rows) ∧ stored s K w (D.flatMap coresOf) m)
    ⟨fun _ hc => absurd hc List.not_mem_nil, hK0, rfl, rfl, fun _ hc => absurd hc List.not_mem_nil, fun _ _ => rfl⟩
    hrows fun m hm c hc => hK _ m.cores hm.2.cores c fun hcD => hc (mem_flatMap_coresOf.1 hcD)
  refine ⟨hran, fun b hb => ?_, hst.cores, hst.done⟩
  have hb' : ∀ c ∈ (rowsOf o.rows).flatMap coresOf, b < w.addr c ∨ w.addr c + w.len ≤ b :=
    fun c hc => hb _ (List.mem_map_of_mem hc)
  exact congrArg (fun x => [x]) (hst.rest b hb')

/-- Core `c` may store `len` bytes at its address register: aligned, in the task's region, not poisoned. -/
def State.storable (s : State) (slot c an len : Nat) : Prop :=
  (s.core c).addr c an % 64 = 0 ∧ s.inRegion slot ((s.core c).addr c an) len = true ∧
    ∀ l ∈ linesOf ((s.core c).addr c an) len, s.poisoned l = false

theorem coreStore_storable {s a : State} {n c an len : Nat} (e : QEntry) (v : Nat) (hs : s.storable n c an len)
    (htasks : a.tasks = s.tasks) (hpoison : a.granary.poison = s.granary.poison) :
    a.coreStore n c e ((s.core c).addr c an) len v = a.granaryPoke ((s.core c).addr c an) (leBytes len v) := by
  obtain ⟨halign, hin, hclean⟩ := hs
  exact coreStore_good n c e v halign ((inRegion_congr htasks _ _ _).trans hin)
    fun l hl => (poisoned_congr hpoison l).trans (hclean l hl)

/-- ST.V and SQ.ST: the core is put, then its bytes are stored. -/
theorem storesOf_put {s : State} {n an len : Nat} {e : QEntry} {c : Nat} {Q : Nat → Core → Prop} {data : Nat → Nat}
    (k : Core) (hs : s.storable n c an len) (hQ : Q c k)
    (hop : ∀ a : State, a.core c = s.core c → a.coreOp n c e =
      (a.setCore c k).coreStore n c e ((s.core c).addr c an) len (data c)) :
    storesOf s n e (coresDone s Q) ⟨fun c => (s.core c).addr c an, len, fun c => leBytes len (data c)⟩ c := by
  refine ⟨length_leBytes _ _, fun a _ htasks hpoison hcore => ⟨a.setCore c k, ?_,
    (worked.refl a).setCore _ _, rfl, rfl, fun D hD hK => coresDone_mput hK hD hQ⟩⟩
  exact (hop a hcore).trans (coreStore_storable (a := a.setCore c k) e _ hs htasks hpoison)

/-- Each core of `l` may store `len` bytes at its address register, clear of the others. -/
def State.storesApart (s : State) (slot an len : Nat) (l : List Nat) : Prop :=
  ∀ c ∈ l, (s.core c).addr c an % 64 = 0 ∧ s.inRegion slot ((s.core c).addr c an) len = true ∧
    (∀ n ∈ linesOf ((s.core c).addr c an) len, s.poisoned n = false) ∧ ∀ d ∈ l, d ≠ c →
      (s.core c).addr c an + len ≤ (s.core d).addr d an ∨ (s.core d).addr d an + len ≤ (s.core c).addr c an

theorem State.storesApart.storable {s : State} {slot an len : Nat} {rows : List Nat}
    (h : s.storesApart slot an len (rows.flatMap coresOf)) {c : Nat} (hc : c / 16 ∈ rows) :
    s.storable slot c an len := by
  obtain ⟨halign, hin, hpoison, -⟩ := h c (mem_flatMap_coresOf.2 hc)
  exact ⟨halign, hin, hpoison⟩

theorem State.storesApart.apart {s : State} {slot an len : Nat} {rows : List Nat}
    (h : s.storesApart slot an len (rows.flatMap coresOf)) (data : Nat → List Byte) (c d : Nat) (hc : c / 16 ∈ rows)
    (hd : d / 16 ∈ rows) (hne : d ≠ c) : Stores.apart ⟨fun c => (s.core c).addr c an, len, data⟩ c d := by
  obtain ⟨-, -, -, hapart⟩ := h c (mem_flatMap_coresOf.2 hc)
  exact hapart d (mem_flatMap_coresOf.2 hd) hne

/-- ST.V and SQ.ST issued: what their cores hold, and the bytes stored. -/
theorem issueTo_putStores {s : State} {o : OpAt} {p : Prog} {op : COp} {an len : Nat} (h : s.issuesCore o p op)
    (hplain : op.plain = true) (f : Nat → Core) (data : Nat → Nat) {Q : Nat → Core → Prop}
    (hs : s.storesApart o.slot an len ((rowsOf o.rows).flatMap coresOf)) (hQ : ∀ c, Q c (f c))
    (hop : ∀ c (a : State), a.core c = s.core c → a.coreOp o.slot c (entryOf o p op []) =
      (a.setCore c (f c)).coreStore o.slot c (entryOf o p op []) ((s.core c).addr c an) len (data c)) :
    coreRan s (s.issueTo o 0 [] fun _ => op) o p ∧
      memKeptBut s (s.issueTo o 0 [] fun _ => op) len
        (((rowsOf o.rows).flatMap coresOf).map fun c => (s.core c).addr c an) ∧
      ∀ c ∈ (rowsOf o.rows).flatMap coresOf, Q c ((s.issueTo o 0 [] fun _ => op).core c) ∧
        (s.issueTo o 0 [] fun _ => op).granaryBytes ((s.core c).addr c an) len = leBytes len (data c) := by
  rw [issueTo_eq (op := fun _ => op) h]
  obtain ⟨hran, hmem, hcores, hdone⟩ := issueCore_stores h (streamOf_lt (m := p.mode) (engine := 0) (by decide)) hplain
    (coresDone_nil s Q) (fun _ _ hK => hK.todo) (hs.apart fun c => leBytes len (data c))
    fun c hc => storesOf_put (f c) (hs.storable hc) (hQ c) (hop c)
  exact ⟨hran, hmem, fun c hc => ⟨hcores.done c hc, hdone c hc⟩⟩

theorem stV_stores (o : OpAt) (an : Nat) (inc : Int) (vs : Nat) (p : Prog) (l : List Nat) (s : State)
    (h : s.issuesCore o p (.stV an inc vs)) (hl : l = (rowsOf o.rows).flatMap coresOf)
    (hs : s.storesApart o.slot an 256 l) :
    completes (.stV o an inc vs) s fun t => coreRan s t o p ∧
      memKeptBut s t 256 (l.map fun c => (s.core c).addr c an) ∧ ∀ c ∈ l,
        t.core c = (s.core c).setAddr an (ofSigned 32 ((s.core c).addr c an + inc)) ∧
        t.granaryBytes ((s.core c).addr c an) 256 = leBytes 256 ((s.core c).vec c vs) := by
  subst hl
  exact ⟨_, rfl, issueTo_putStores h rfl
    (fun c => (s.core c).setAddr an (ofSigned 32 ((s.core c).addr c an + inc))) (fun c => (s.core c).vec c vs)
    (Q := fun c k => k = (s.core c).setAddr an (ofSigned 32 ((s.core c).addr c an + inc))) hs (fun _ => rfl)
    fun c a hcore => by rw [← hcore]; rfl⟩

theorem sqSt_stores (o : OpAt) (an : Nat) (inc : Int) (p : Prog) (l : List Nat) (s : State)
    (h : s.issuesCore o p (.sqSt an inc)) (hl : l = (rowsOf o.rows).flatMap coresOf)
    (hs : s.storesApart o.slot an 256 l) :
    completes (.sqSt o an inc) s fun t => coreRan s t o p ∧ memKeptBut s t 256 (l.map fun c => (s.core c).addr c an) ∧
      ∀ c ∈ l, (t.core c).sq = (s.core c).sq.tail ∧
        t.granaryBytes ((s.core c).addr c an) 256 = leBytes 256 ((s.core c).sq.headD 0) := by
  subst hl
  exact ⟨_, rfl, issueTo_putStores h rfl
    (fun c => { (s.core c).setAddr an (ofSigned 32 ((s.core c).addr c an + inc)) with sq := (s.core c).sq.tail })
    (fun c => (s.core c).sq.headD 0)
    (Q := fun c k => k.sq = (s.core c).sq.tail) hs (fun _ => rfl) fun c a hcore => by rw [← hcore]; rfl⟩

theorem accSt_stores (o : OpAt) (an cn : Nat) (p : Prog) (l : List Nat) (s : State)
    (h : s.issuesCore o p (.accSt an cn)) (hl : l = (rowsOf o.rows).flatMap coresOf)
    (hs : s.storesApart o.slot an 1024 l) :
    completes (.accSt o an cn) s fun t => coreRan s t o p ∧ t.mill.cores = s.mill.cores ∧
      memKeptBut s t 1024 (l.map fun c => (s.core c).addr c an) ∧ ∀ c ∈ l,
        t.granaryBytes ((s.core c).addr c an) 1024 = leBytes 1024 (packLanes 32 ((List.range 256).map fun i =>
          (s.core c).accAt c (256 * (cn % 4) + i))) := by
  subst hl
  refine ⟨s.issueTo o 0 [] fun _ => .accSt an cn, rfl, ?_⟩
  rw [issueTo_eq (op := fun _ => .accSt an cn) h]
  obtain ⟨hran, hmem, hcores, hdone⟩ := issueCore_stores h (streamOf_lt (m := p.mode) (engine := 0) (by decide)) rfl
    (K := fun _ m => m = s.mill.cores) rfl (fun _ m hK _ _ => by rw [hK]; rfl)
    (hs.apart fun c => leBytes 1024 (packLanes 32 ((List.range 256).map fun i =>
      (s.core c).accAt c (256 * (cn % 4) + i))))
    fun c hc => ⟨length_leBytes _ _, fun a _ htasks hp hcore =>
      ⟨a, by rw [← coreStore_storable _ _ (hs.storable hc) htasks hp, ← hcore]; rfl,
        worked.refl a, rfl, rfl, fun _ _ hK => hK⟩⟩
  exact ⟨hran, hcores, hmem, hdone⟩

end Sys2Proof.Machine
end

section
/-! ## SQ.SH and engine loops (O48: R390, R425, R427, R432) -/

namespace Sys2Proof.Machine

/-! ### SQ.SH -/

theorem popCount_zero (n : Nat) : popCount n 0 = 0 := by
  induction n with
  | zero => rfl
  | succ n ih => rw [popCount, Nat.zero_shiftRight, ih]

/-- Among the rows of one row's mask, a core's rank is its place in the row. -/
theorem rankOf_single {mask r : Nat} (h : rowsOf mask = [r]) {d : Nat} (hd : d < 16) :
    rankOf (mask % 256) (16 * r + d) = d := by
  have hr8 : r < 8 := (mem_rowsOf.1 (h ▸ List.mem_singleton.2 rfl)).1
  have hlow : mask % 256 % 2 ^ r = 0 := by
    refine Nat.eq_of_testBit_eq fun i => ?_
    rw [Nat.testBit_mod_two_pow, Nat.zero_testBit]
    by_cases hi : i < r
    · have hnot : i ∉ rowsOf (mask % 256) := by
        rw [rowsOf_low, h, List.mem_singleton]
        omega
      rw [mem_rowsOf, bit_eq_testBit] at hnot
      have hbit : (mask % 256).testBit i = false := by simpa [show i < 8 by omega] using hnot
      rw [hbit, Bool.and_false]
    · rw [decide_eq_false hi, Bool.false_and]
  have hdiv : (16 * r + d) / 16 = r := by omega
  have hmod : (16 * r + d) % 16 = d := by omega
  rw [rankOf, hdiv, hmod, hlow, popCount_zero]
  omega

/-- The sheaf that SQ.SH queues of core `d` of row `r`. -/
def State.coreSheaf (s : State) (n r flow seq : Nat) (last : Bool) (d : Nat) : Nat × Sheaf :=
  (s.ticks, tallied { Sheaf.empty with
    flow := flow, kind := 1, seq := (seq + d) % 2 ^ 24, last := last, tag := s.taskTag n,
    payload := leBytes 256 ((s.core (16 * r + d)).sq.getD 0 0) ++ leBytes 256 ((s.core (16 * r + d)).sq.getD 1 0) })

/-- Core `d` of row `r`, which holds `k`, queues its sheaf. -/
def State.sendCore (s : State) (k : Core) (n r flow seq : Nat) (last : Bool) (d : Nat) : State :=
  (s.setCore (16 * r + d) { k with sq := k.sq.drop 2 }).queueSheaf n flow (seq + d) last
    (leBytes 256 (k.sq.getD 0 0) ++ leBytes 256 (k.sq.getD 1 0))

/-- The first `d` cores of row `r` have queued their sheaves. -/
structure queuedTo (s : State) (n r flow seq : Nat) (last : Bool) (d : Nat) (a : State) : Prop where
  steady  : steady s a
  granary : a.granary = s.granary
  cores   : coresDone s (fun c k => k.sq = (s.core c).sq.drop 2) ((List.range d).map (16 * r + ·)) a.mill.cores
  desc    : (a.task n).desc = (s.task n).desc
  sendq   : (a.task n).sendq = (s.task n).sendq ++ (List.range d).map (s.coreSheaf n r flow seq last)

namespace queuedTo

variable {s a : State} {n r flow seq : Nat} {last : Bool} {d : Nat}

/-- Each sheaf queued takes one place of the flow's room. -/
theorem sendRoom_eq (h : queuedTo s n r flow seq last d a) (hflow : flow % 2 ^ 20 = flow) :
    a.sendRoom n flow = s.sendRoom n flow - d := by
  have hall : ((List.range d).map (s.coreSheaf n r flow seq last)).filter (fun q => q.2.flow == flow) =
      (List.range d).map (s.coreSheaf n r flow seq last) := List.filter_eq_self.2 fun q hq => by
    obtain ⟨i, -, rfl⟩ := List.mem_map.1 hq
    exact beq_self_eq_true flow
  simp only [State.sendRoom, h.sendq, hflow, List.filter_append, hall, List.length_append, List.length_map,
    List.length_range]
  omega

theorem core_eq (h : queuedTo s n r flow seq last d a) : a.core (16 * r + d) = s.core (16 * r + d) :=
  h.cores.todo _ fun hd => by
    obtain ⟨i, hi, e⟩ := List.mem_map.1 hd
    have hid := List.mem_range.1 hi
    omega

theorem taskTag_eq (h : queuedTo s n r flow seq last d a) : a.taskTag n = s.taskTag n := by
  simp only [State.taskTag, State.tagOf, h.desc]

/-- The next core queues its sheaf. -/
theorem next (h : queuedTo s n r flow seq last d a) (hflow : flow % 2 ^ 20 = flow) :
    queuedTo s n r flow seq last (d + 1) (a.sendCore (s.core (16 * r + d)) n r flow seq last d) := by
  have hnot : 16 * r + d ∉ (List.range d).map (16 * r + ·) := fun hd => by
    obtain ⟨i, hi, e⟩ := List.mem_map.1 hd
    have hid := List.mem_range.1 hi
    omega
  have htag (k : Core) : (a.setCore (16 * r + d) k).taskTag n = s.taskTag n := h.taskTag_eq
  refine ⟨h.steady.upd, h.granary, ?_, ?_, ?_⟩
  · rw [List.range_succ, List.map_append, List.map_singleton]
    exact coresDone_mput h.cores hnot rfl
  · rw [State.sendCore, State.queueSheaf, task_setTask_same]
    exact h.desc
  · rw [State.sendCore, State.queueSheaf, task_setTask_same, htag, hflow, List.range_succ, List.map_append, List.map_singleton,
      ← List.append_assoc, ← h.sendq, State.coreSheaf, ← h.steady.ticks]
    rfl

end queuedTo

/-- With room in the send queue and two vectors in every store queue, all cores of a row that is alone in its word queue
their sheaves. -/
theorem sendCores_all {s : State} {n r : Nat} {e : QEntry} {flow seq : Nat} {last : Bool}
    (hinj : s.rd (Hdr.INJ_COUNT 0x54) = 0) (hflow : flow % 2 ^ 20 = flow) (hroom : 16 ≤ s.sendRoom n flow)
    (hsq : ∀ c ∈ coresOf r, 2 ≤ (s.core c).sq.length) (hrank : ∀ d < 16, rankOf e.rows (16 * r + d) = d)
    (f d : Nat) (hd : d + f = 16) (a b : State) (hw : worked b a) (h : queuedTo s n r flow seq last d a) :
    (a.sendCores n r e flow seq last f d).1 = 16 ∧ worked b (a.sendCores n r e flow seq last f d).2 ∧
      queuedTo s n r flow seq last 16 (a.sendCores n r e flow seq last f d).2 := by
  induction f generalizing d a with
  | zero =>
    obtain rfl : d = 16 := by omega
    exact ⟨rfl, hw, h⟩
  | succ f ih =>
    have hc : 16 * r + d ∈ coresOf r := mem_coresOf.2 (by omega)
    have hgo : ¬(16 ≤ d ∨ (a.core (16 * r + d)).sq.length < 2 ∨ a.sendRoom n flow = 0) := by
      rw [h.core_eq, h.sendRoom_eq hflow]
      have hlen := hsq _ hc
      omega
    have hinja : (a.setCore (16 * r + d) { s.core (16 * r + d) with sq := (s.core (16 * r + d)).sq.drop 2 }).rd
        (Hdr.INJ_COUNT 0x54) = 0 := h.steady.noTallyInject hinj
    have hstep : a.sendCores n r e flow seq last (f + 1) d =
        (a.sendCore (s.core (16 * r + d)) n r flow seq last d).sendCores n r e flow seq last f (d + 1) := by
      rw [State.sendCores]
      dsimp only
      rw [if_neg hgo, h.core_eq, residue_good _ _ hinja, hrank d (by omega), State.sendCore]
    rw [hstep]
    exact ih (d + 1) (by omega) _ ⟨hw.tosteady.upd, hw.rows, hw.progs⟩ (h.next hflow)

/-- What SQ.SH of a single row has made before its row's turn, and after it. -/
def sentRow (s : State) (n r flow seq : Nat) (last : Bool) (D : List Nat) (m : Made) : Prop :=
  (D = [] ∧ m = s.made) ∨ (r ∈ D ∧ m.granary = s.granary ∧
    coresDone s (fun c k => k.sq = (s.core c).sq.drop 2) (coresOf r) m.cores ∧
    (mget m.tasks n Task.free).sendq = (s.task n).sendq ++ (List.range 16).map (s.coreSheaf n r flow seq last))

theorem queuedTo_zero {s a : State} (n r flow seq : Nat) (last : Bool) (ha : steady s a) (hmade : a.made = s.made) :
    queuedTo s n r flow seq last 0 a := by
  obtain ⟨hcores, hgranary, htasks⟩ := made_congr hmade
  refine ⟨ha, hgranary, ?_, by rw [task_congr htasks], by rw [task_congr htasks, List.range_zero]; simp⟩
  rw [hcores]
  exact coresDone_nil s _

/-- No lower row of the word has sheaves to queue where the word has one row. -/
theorem shWaits_single (a : State) {r : Nat} {e : QEntry} (h : rowsOf e.rows = [r]) : a.shWaits r e = false := by
  simp [State.shWaits, h]

/-- SQ.SH runs out in the one row of its word. -/
theorem rowRuns_sqSh {s : State} {n r : Nat} {e : QEntry} {flow seq : Nat} {last : Bool} {mask : Nat}
    (hop : e.op = .sqSh flow seq last) (hfin : e.fin = 0) (hmask : e.rows = mask % 256) (hrows : rowsOf mask = [r])
    (hinj : s.rd (Hdr.INJ_COUNT 0x54) = 0) (hflow : flow % 2 ^ 20 = flow) (hroom : 16 ≤ s.sendRoom n flow)
    (hsq : ∀ c ∈ coresOf r, 2 ≤ (s.core c).sq.length) :
    rowRuns s n e (rowsOf mask) (sentRow s n r flow seq last) := by
  intro D q a ha hZ hq hD
  obtain rfl : q = r := by simpa [hrows] using hq
  rcases hZ with ⟨rfl, hmade⟩ | ⟨hin, -⟩
  · obtain ⟨hall, hw, hsent⟩ := sendCores_all hinj hflow hroom hsq
      (fun d hd => by rw [hmask]; exact rankOf_single hrows hd) 16 0 rfl a a (worked.refl a)
      (queuedTo_zero n q flow seq last ha hmade) (e := e)
    refine ⟨_, fun put => ?_, hw, .inr ⟨List.mem_singleton.2 rfl, hsent.granary, hsent.cores, hsent.sendq⟩⟩
    have hwait := shWaits_single a (e := e) (by rw [hmask, rowsOf_low, hrows])
    unfold State.runEntry
    rw [hop]
    dsimp only
    rw [hwait, hfin, hall]
    rfl
  · exact absurd hin hD

theorem sqSh_queues (o : OpAt) (xflow xseq : Nat) (lastSheaf : Bool) (r : Nat) (p : Prog) (s : State)
    (h : s.issuesCore o p (.sqSh (p.xr xflow % 2 ^ 20) (p.xr xseq % 2 ^ 24) lastSheaf)) (hrows : rowsOf o.rows = [r])
    (hsq : ∀ c ∈ coresOf r, 2 ≤ (s.core c).sq.length) (hroom : 16 ≤ s.sendRoom o.slot (p.xr xflow % 2 ^ 20)) :
    completes (.sqSh o xflow xseq lastSheaf) s fun t => coreRan s t o p ∧ t.granary = s.granary ∧
      (∀ c ∈ coresOf r, (t.core c).sq = (s.core c).sq.drop 2) ∧
      (t.task o.slot).sendq = (s.task o.slot).sendq ++ (List.range 16).map
        (s.coreSheaf o.slot r (p.xr xflow % 2 ^ 20) (p.xr xseq % 2 ^ 24) lastSheaf) := by
  refine ⟨s.issueTo o 0 [] fun p => .sqSh (p.xr xflow % 2 ^ 20) (p.xr xseq % 2 ^ 24) lastSheaf, rfl, ?_⟩
  rw [issueTo_eq (op := fun p => .sqSh (p.xr xflow % 2 ^ 20) (p.xr xseq % 2 ^ 24) lastSheaf) h]
  obtain ⟨hran, hsent⟩ := issueCore_ran h (streamOf_lt (m := p.mode) (engine := 0) (by decide)) [] rfl
    (.inl ⟨rfl, rfl⟩) (rowRuns_sqSh rfl rfl rfl hrows (issuesCore_noTallyInject h) (Nat.mod_mod _ _) hroom hsq)
    fun m hm c hc => by
      rcases hm with ⟨hnil, -⟩ | ⟨-, -, hcores, -⟩
      · rw [hrows] at hnil
        cases hnil
      · exact hcores.todo c fun hcr => hc (by rw [hrows, mem_coresOf.1 hcr]; exact List.mem_singleton.2 rfl)
  rcases hsent with ⟨hnil, -⟩ | ⟨-, hgranary, hcores, hsendq⟩
  · rw [hrows] at hnil
    cases hnil
  · exact ⟨hran, hgranary, hcores.done, hsendq⟩

/-! ### LOOP.E -/

/-- A loop whose body has not been issued does not run. -/
theorem runStream_loop {s : State} {n r k : Nat} {e : QEntry} {c m : Nat} (hs : s.stream r k = StreamQ.one e)
    (hop : e.op = .loop c m) (hm : 1 ≤ m) : s.runStream n r k = none := by
  have hentry (put : List QEntry → List QEntry → Nat → StreamQ) : s.runEntry n r e [] put = none := by
    unfold State.runEntry
    rw [hop]
    exact if_pos hm
  simp only [State.runStream, hs, StreamQ.one, hentry, Option.map_none]

/-- Streams of which none can run stay as they are. -/
theorem runStreams_idle {s : State} {n : Nat} {p : Prog} (hp : s.prog n = some p) (hrun : p.running = true)
    (hstop : s.millerStopped = false) (h : ∀ r ∈ rowsOf p.rows, ∀ k < 4, s.runStream n r k = none) :
    s.runStreams n = s := by
  have hidle := runTurn_idle s n p.rows h
  have hturn := runStreams_turn s n p hp hrun hstop (by rw [hidle]; exact hidle)
  rwa [hidle] at hturn

theorem loopE_waits (o : OpAt) (st : Stream) (xc n k : Nat) (p : Prog) (s : State) (hst : loopStream p.mode st = some k)
    (h : s.issuesCore o p (.loop (p.xr xc % 2 ^ 32) n)) (hn1 : 1 ≤ n) (hn16 : n ≤ 16) :
    completes (.loopE o st xc n) s fun t => t.mill.cores = s.mill.cores ∧ ∀ r ∈ rowsOf o.rows,
      (t.stream r k).queue.map (·.op) = [.loop (p.xr xc % 2 ^ 32) n] ∧ (t.stream r k).opens = [n] ∧
      (t.stream r k).run = [] := by
  have hk := loopStream_lt hst
  have hexec : exec (.loopE o st xc n) s = ok (s.issueCore o (some k) (.loop (p.xr xc % 2 ^ 32) n) []) := by
    show execLoopE o st xc n s = _
    simp only [execLoopE, issuesCore_prog h, hst]
  refine ⟨_, hexec, ?_⟩
  rw [issueCore_eq h hk (fun c m e => by cases e; exact ⟨hn1, hn16⟩) []]
  obtain ⟨-, hmade, hstop, hprog, hon, hoff⟩ := joined_pushed h hk (entryOf o p (.loop (p.xr xc % 2 ^ 32) n) [])
  obtain ⟨⟨hissuing, -⟩, -, -, -, -, hblank, -⟩ := h
  obtain ⟨-, hrunning, -⟩ := issuing_prog hissuing
  generalize s.joined o p k (entryOf o p (.loop (p.xr xc % 2 ^ 32) n) []) = b at *
  have hidle : ∀ r ∈ rowsOf p.rows, ∀ j < 4, b.runStream o.slot r j = none := fun r hr j hj => by
    by_cases hin : r ∈ rowsOf o.rows ∧ j = k
    · obtain ⟨hro, rfl⟩ := hin
      exact runStream_loop (hon r hro) rfl hn1
    · exact runStream_blank b _ r j ((hoff r j fun hro hjk => hin ⟨hro, hjk⟩).trans (hblank r hr j hj))
  rw [runStreams_idle hprog hrunning hstop hidle]
  obtain ⟨-, hcmade, hcstream⟩ := closeWord_closes hprog
  refine ⟨(made_congr (hcmade.trans hmade)).1, fun r hr => ?_⟩
  rw [hcstream, hon r hr]
  exact ⟨rfl, rfl, rfl⟩

/-- Settles O48: a lemma for each operation; loads, address registers and tokens put a core, stores put bytes as
well, and SQ.SH puts sheaves into the task's send queue. -/
theorem coreAccessOperations : Obligations.CoreAccessOperations := by
  unfold Obligations.CoreAccessOperations
  exact ⟨aSet_runsInCores, aSetc_runsInCores, aAdd_runsInCores, ldV_loads, ldQ_loads, accLd_loads, stV_stores,
    sqSt_stores, accSt_stores, sqSh_queues, ldSh_loads, sig_moves, wait_moves, loopE_waits⟩

end Sys2Proof.Machine
end

section
/-! ## The matrix and Sieve operations (O47: R401, R434, R473, R475, R489) -/

namespace Sys2Proof.Machine

/-- A command whose operation puts in each core what `f` gives from the core before it, where no error is injected into
its residue check. -/
theorem runsInCores_of_core {i : Instr} {o : OpAt} (engine : Nat) {op : Prog → COp}
    {f : Prog → Core → Nat → Core}
    (hexec : ∀ s, exec i s = ok (s.issueTo o engine [] op)) (hengine : engine < 4)
    (hplain : ∀ p, (op p).plain = true)
    (hop : ∀ p c (a : State), a.rd (Hdr.INJ_COUNT 0x54) = 0 →
      a.coreOp o.slot c (entryOf o p (op p) []) = a.setCore c (f p (a.core c) c)) :
    runsInCores i o op fun _ p k c _ => f p k c :=
  runsInCores_of hexec hengine hplain fun p _ c hs _ a ha _ _ hcore =>
    ⟨a, _, hop p c a (ha.noTallyInject (issuesCore_noTallyInject hs)), worked.refl a, rfl, 0, by rw [hcore]⟩

/-! ### Matrix operations -/

theorem mZero_runsInCores (o : OpAt) (cn : Nat) :
    runsInCores (.mZero o cn) o (fun _ => .mZero cn) fun _ _ k _ _ =>
      (List.range 256).foldl (fun (acc : Core) i => acc.setAcc (256 * (cn % 4) + i) 0) k :=
  runsInCores_of_core 2 (fun _ => rfl) (by decide) (fun _ => rfl) fun _ _ _ _ => rfl

theorem mOpa_runsInCores (o : OpAt) (cn : Nat) (x y : VReg) (e : Nat) :
    runsInCores (.mOpa o cn x y e) o (fun _ => .mOpa cn x y e) fun _ _ k c _ =>
      (k.two c x y).2.2.outer c (cn % 4) (k.two c x y).1 (k.two c x y).2.1 e :=
  runsInCores_of_core 2 (fun _ => rfl) (by decide) (fun _ => rfl) fun _ _ _ ha => arith_good _ _ _ ha

theorem mRd_runsInCores (o : OpAt) (d : VReg) (cn r : Nat) :
    runsInCores (.mRd o d cn r) o (fun _ => .mRd d cn r) fun _ _ k c _ =>
      k.give d (packLanes 32 ((accRows (cn % 4) r).map (k.accAt c))) :=
  runsInCores_of_core 2 (fun _ => rfl) (by decide) (fun _ => rfl) fun _ _ _ _ => rfl

theorem mWr_runsInCores (o : OpAt) (cn : Nat) (v : VReg) (r : Nat) :
    runsInCores (.mWr o cn v r) o (fun _ => .mWr cn v r) fun _ _ k c _ =>
      (accRows (cn % 4) r).zipIdx.foldl (fun (acc : Core) i => acc.setAcc i.1 (lane' 32 (k.take c v).1 i.2))
        (k.take c v).2 :=
  runsInCores_of_core 2 (fun _ => rfl) (by decide) (fun _ => rfl) fun _ _ _ _ => rfl

theorem mAdd_runsInCores (o : OpAt) (cn : Nat) (v : VReg) (r : Nat) :
    runsInCores (.mAdd o cn v r) o (fun _ => .mAdd cn v r) fun _ _ k c _ =>
      (accRows (cn % 4) r).zipIdx.foldl (fun (acc : Core) i =>
        acc.setAcc i.1 (FFmt.f32.add (acc.accAt c i.1) (lane' 32 (k.take c v).1 i.2))) (k.take c v).2 :=
  runsInCores_of_core 2 (fun _ => rfl) (by decide) (fun _ => rfl) fun _ _ _ ha => arith_good _ _ _ ha

/-! ### Sieve operations -/

theorem sInit_runsInCores (o : OpAt) (xk xflags : Nat) :
    runsInCores (.sInit o xk xflags) o (fun p => .sInit (p.xr xk) (p.xr xflags)) fun _ p k _ _ =>
      { k with sieve := some { cap := p.xr xk, flags := p.xr xflags, keys := [], nans := 0 } } :=
  runsInCores_of_core 3 (fun _ => rfl) (by decide) (fun _ => rfl) fun _ _ _ _ => rfl

theorem sIns_runsInCores (o : OpAt) (vk vi : Nat) (p : Option Nat) :
    runsInCores (.sIns o vk vi p) o (fun _ => .sIns vk vi p) fun _ _ k c _ =>
      k.withList fun l => (((pairsOf (k.vec c vk) (k.vec c vi)).zipIdx.filter fun q =>
        bit ((k.mask c p).getD (2 ^ 64 - 1)) q.2).map (·.1)).foldl SieveList.insert l :=
  runsInCores_of_core 3 (fun _ => rfl) (by decide) (fun _ => rfl) fun _ _ _ ha => arith_good _ _ _ ha

theorem sBitSort_runsInCores (o : OpAt) (vk vi : Nat) :
    runsInCores (.sBitSort o vk vi) o (fun _ => .sSort vk vi) fun _ _ k c _ =>
      let d := dropNans (k.sFlags c) (pairsOf (k.vec c vk) (k.vec c vi))
      let v := vectorsOf (rankSort (sInt (k.sFlags c)) (sDir (k.sFlags c)) d.1)
      ((k.withList fun l => { l with nans := l.nans + d.2 }).setVec vk v.1).setVec vi v.2 :=
  runsInCores_of_core 3 (fun _ => rfl) (by decide) (fun _ => rfl) fun _ _ _ ha => arith_good _ _ _ ha

theorem sBitMerge_runsInCores (o : OpAt) (vk vi vk2 vi2 : Nat) :
    runsInCores (.sBitMerge o vk vi vk2 vi2) o (fun _ => .sMerge vk vi vk2 vi2) fun _ _ k c _ =>
      let d := dropNans (k.sFlags c) (pairsOf (k.vec c vk) (k.vec c vi) ++ pairsOf (k.vec c vk2) (k.vec c vi2))
      let v := vectorsOf (rankSort (sInt (k.sFlags c)) (sDir (k.sFlags c)) d.1)
      ((k.withList fun l => { l with nans := l.nans + d.2 }).setVec vk v.1).setVec vi v.2 :=
  runsInCores_of_core 3 (fun _ => rfl) (by decide) (fun _ => rfl) fun _ _ _ ha => arith_good _ _ _ ha

theorem sExcl_runsInCores (o : OpAt) (pd vk vi xv xi : Nat) :
    runsInCores (.sExcl o pd vk vi xv xi) o (fun p => .sExcl pd vk vi (p.xr xv % 2 ^ 32) (p.xr xi % 2 ^ 32))
      fun _ p k c _ => k.setPred pd (packLanes 1 ((pairsOf (k.vec c vk) (k.vec c vi)).map fun q =>
        b2n (pairAbove (sInt (k.sFlags c)) (sDir (k.sFlags c)) (p.xr xv % 2 ^ 32, p.xr xi % 2 ^ 32) q &&
          !(sDrop (k.sFlags c) && keyNan (sInt (k.sFlags c)) q.1)))) :=
  runsInCores_of_core 3 (fun _ => rfl) (by decide) (fun _ => rfl) fun _ _ _ ha => arith_good _ _ _ ha

theorem sMrg_runsInCores (o : OpAt) (vk vi xn : Nat) :
    runsInCores (.sMrg o vk vi xn) o (fun p => .sMrg vk vi (p.xr xn)) fun _ p k c _ =>
      k.withList fun l => ((pairsOf (k.vec c vk) (k.vec c vi)).take (p.xr xn)).foldl SieveList.insert l :=
  runsInCores_of_core 3 (fun _ => rfl) (by decide) (fun _ => rfl) fun _ _ _ ha => arith_good _ _ _ ha

/-- S.GET of a list that has begun puts its first 16 pairs. -/
theorem sieveOp_sGet {s : State} {n c vk vi : Nat} {l : SieveList} (hinj : s.rd (Hdr.INJ_COUNT 0x54) = 0)
    (hl : (s.core c).sieve = some l) : s.sieveOp n c (.sGet vk vi) =
      s.setCore c (((s.core c).setVec vk (vectorsOf (l.keys.take 16)).1).setVec vi (vectorsOf (l.keys.take 16)).2) := by
  simp only [State.sieveOp, hl]
  exact arith_good _ _ _ hinj

theorem sGet_reads (o : OpAt) (vk vi : Nat) (l : SieveList) (p : Prog) (s : State)
    (h : s.issuesCore o p (.sGet vk vi))
    (hl : ∀ r ∈ rowsOf o.rows, ∀ c ∈ coresOf r, (s.core c).sieve = some l) :
    completes (.sGet o vk vi) s fun t => coreRan s t o p ∧ ∀ r ∈ rowsOf o.rows, ∀ c ∈ coresOf r,
      t.core c = ((s.core c).setVec vk (vectorsOf (l.keys.take 16)).1).setVec vi (vectorsOf (l.keys.take 16)).2 := by
  refine ⟨s.issueTo o 3 [] fun _ => .sGet vk vi, rfl, ?_⟩
  rw [issueTo_eq (op := fun _ => .sGet vk vi) h]
  obtain ⟨hran, -, hcores⟩ := issueCore_plain h (streamOf_lt (engine := 3) (by decide)) [] rfl
    (Q := fun c k => k =
      ((s.core c).setVec vk (vectorsOf (l.keys.take 16)).1).setVec vi (vectorsOf (l.keys.take 16)).2)
    fun c hc a ha _ _ hcore =>
      have hsieve : (a.core c).sieve = some l := by rw [hcore, hl _ hc c (mem_coresOf.2 rfl)]
      have hop : a.coreOp o.slot c (entryOf o p (.sGet vk vi) []) = a.sieveOp o.slot c (.sGet vk vi) := rfl
      ⟨a, _, hop.trans (sieveOp_sGet (ha.noTallyInject (issuesCore_noTallyInject h)) hsieve), worked.refl a, rfl,
        by rw [hcore]⟩
  exact ⟨hran, hcores⟩

/-- Settles O47: a lemma for each operation; all but S.GET put in each core a function of the core before it. -/
theorem matrixAndSieveOperations : Obligations.MatrixAndSieveOperations := by
  unfold Obligations.MatrixAndSieveOperations
  exact ⟨mZero_runsInCores, mOpa_runsInCores, mRd_runsInCores, mWr_runsInCores, mAdd_runsInCores, sInit_runsInCores,
    sIns_runsInCores, sBitSort_runsInCores, sBitMerge_runsInCores, sExcl_runsInCores, sMrg_runsInCores,
    fun o vk vi l p s => sGet_reads o vk vi l p s⟩

end Sys2Proof.Machine
end

section
/-! ## The slots of background work (O57: R410, R411, R518 to R520) -/

namespace Sys2Proof.Machine

/-! ### A bank -/

theorem bank_setBank_same (s : State) (n : Nat) (b : BgBank) : (s.setBank n b).bank n = b := mget_mset_same ..

theorem bank_congr {s t : State} (h : t.banks = s.banks) (n : Nat) : t.bank n = s.bank n := by
  simp only [State.bank, h]

@[simp] theorem setBank_regs (s : State) (n : Nat) (b : BgBank) : (s.setBank n b).regs = s.regs := rfl
@[simp] theorem setBank_calib (s : State) (n : Nat) (b : BgBank) : (s.setBank n b).calib = s.calib := rfl

theorem errUp_congr {s t : State} {e : ErrBit} (h : t.regs = s.regs) : errUp t e ↔ errUp s e := by
  rw [errUp, errUp, rd_congr h]

/-! ### SCRUB_SLOT (R410, R518) -/

/-- The bank's slot is used for its next line, and the line is counted. -/
def State.scrubLine (s : State) (n : Nat) : State :=
  (s.setBank n { (s.bank n).next s.ticks with line := ((s.bank n).line + 1) % 16384 }).bump Ctr.GRANARY_SCRUB_LINES 1

/-- What the checker finds of an injected error in the line at `a`. -/
def State.scrubInject (s : State) (a : Nat) : Bool × State :=
  if s.granaryArmed 0 a then (true, (s.injectUse 0x62 0).2) else (false, s)

/-- The error counts of a pass end with its last line. -/
def State.scrubWrap (s : State) (n line : Nat) : State :=
  if line = 0 then s.setBank n { s.bank n with errs := [] } else s

theorem scrubLine_bank (s : State) (n : Nat) : (s.scrubLine n).bank n =
    { (s.bank n).next s.ticks with line := ((s.bank n).line + 1) % 16384 } :=
  (bank_congr (bump_banks ..) n).trans (bank_setBank_same ..)

theorem scrubLine_granary (s : State) (n : Nat) : (s.scrubLine n).granary = s.granary := bump_granary ..

theorem scrubLine_counts (s : State) (n : Nat) :
    (s.scrubLine n).rd Ctr.GRANARY_SCRUB_LINES.fld = (s.rd Ctr.GRANARY_SCRUB_LINES.fld + 1) % 2 ^ 64 :=
  rd_bump_same _ _ _ (by decide)

theorem scrubInject_rest (s : State) (a : Nat) :
    (s.scrubInject a).2.banks = s.banks ∧ (s.scrubInject a).2.granary = s.granary := by
  unfold State.scrubInject State.injectUse
  split
  · split <;> exact ⟨rfl, rfl⟩
  · exact ⟨rfl, rfl⟩

theorem scrubInject_of_none (s : State) (a : Nat) (h : s.rd (Hdr.INJ_COUNT 0x62) = 0) :
    s.scrubInject a = (false, s) := by
  simp [State.scrubInject, State.granaryArmed, h]

theorem scrubWrap_bank (s : State) (n line : Nat) :
    ((s.scrubWrap n line).bank n).line = (s.bank n).line ∧ ((s.scrubWrap n line).bank n).slot = (s.bank n).slot := by
  unfold State.scrubWrap
  split
  · rw [bank_setBank_same]
    exact ⟨rfl, rfl⟩
  · exact ⟨rfl, rfl⟩

theorem scrubWrap_rest (s : State) (n line : Nat) :
    (s.scrubWrap n line).regs = s.regs ∧ (s.scrubWrap n line).granary = s.granary := by
  unfold State.scrubWrap
  split <;> exact ⟨rfl, rfl⟩

theorem scrubBad_banks (s : State) (a : Nat) (inj : Bool) : (s.scrubBad a inj).banks = s.banks := by
  rw [State.scrubBad, raise_banks, State.poisonLine]
  split
  · rfl
  · rw [bump_banks]
    rfl

/-- An uncorrectable line is poisoned, and its bytes stay (R409). -/
theorem scrubBad_poisons (s : State) (a : Nat) (inj : Bool) :
    (s.scrubBad a inj).poisoned (a / 64) = true ∧ (s.scrubBad a inj).granary.mem = s.granary.mem := by
  rw [State.poisoned, State.scrubBad, raise_granary, State.poisonLine]
  split
  · next h => exact ⟨h, rfl⟩
  · rw [bump_granary]
    dsimp only
    exact ⟨mget_mset_same .., rfl⟩

theorem scrubBad_errUp (s : State) (a : Nat) (inj : Bool) : errUp (s.scrubBad a inj) Err.GRANARY_SCRUB_UE :=
  raise_sets _ Err.GRANARY_SCRUB_UE _ (by decide) (by decide)

theorem execScrubSlot_clean {s : State} {n : Nat} (hdue : s.slotDue n = true) (hslot : (s.bank n).slot ≠ 4)
    (hinj : s.rd (Hdr.INJ_COUNT 0x62) = 0) (hpoison : s.poisoned (lineAddr n (s.bank n).line / 64) = false) :
    execScrubSlot n 0 false s = ok ((s.scrubLine n).scrubWrap n (((s.bank n).line + 1) % 16384)) := by
  have hinj' : (s.scrubLine n).rd (Hdr.INJ_COUNT 0x62) = 0 := (rd_bump_ne _ _ _ _ (by decide) (by decide)).trans hinj
  have hnone := scrubInject_of_none _ (lineAddr n (s.bank n).line) hinj'
  unfold State.scrubInject State.scrubLine at hnone
  simp only [execScrubSlot, hdue, hslot, hnone, hpoison, Bool.not_true, Bool.false_or, beq_iff_eq, Bool.false_eq_true,
    or_self, if_false, if_true]
  rfl

theorem execScrubSlot_bad {s : State} {n : Nat} (fixed : Nat) (hdue : s.slotDue n = true)
    (hslot : (s.bank n).slot ≠ 4) : execScrubSlot n fixed true s =
      ok ((((s.scrubLine n).scrubInject (lineAddr n (s.bank n).line)).2.scrubBad (lineAddr n (s.bank n).line)
        ((s.scrubLine n).scrubInject (lineAddr n (s.bank n).line)).1).scrubWrap n (((s.bank n).line + 1) % 16384)) := by
  simp only [execScrubSlot, hdue, hslot, Bool.not_true, Bool.false_or, beq_iff_eq, true_or, or_true, if_false, if_true]
  rfl

theorem scrubSlot_clean (n : Nat) (s : State) (hdue : s.slotDue n = true) (hslot : (s.bank n).slot ≠ 4)
    (hinj : s.rd (Hdr.INJ_COUNT 0x62) = 0) (hpoison : s.poisoned (lineAddr n (s.bank n).line / 64) = false) :
    completes (.scrubSlot n 0 false) s fun t => (t.bank n).line = ((s.bank n).line + 1) % 16384 ∧
      (t.bank n).slot = ((s.bank n).slot + 1) % 5 ∧ t.granary = s.granary ∧
      t.rd Ctr.GRANARY_SCRUB_LINES.fld = (s.rd Ctr.GRANARY_SCRUB_LINES.fld + 1) % 2 ^ 64 := by
  refine ⟨_, execScrubSlot_clean hdue hslot hinj hpoison, ?_⟩
  obtain ⟨hline, hnext⟩ := scrubWrap_bank (s.scrubLine n) n (((s.bank n).line + 1) % 16384)
  obtain ⟨hregs, hgranary⟩ := scrubWrap_rest (s.scrubLine n) n (((s.bank n).line + 1) % 16384)
  rw [hline, hnext, hgranary, rd_congr hregs, scrubLine_bank]
  exact ⟨rfl, rfl, scrubLine_granary s n, scrubLine_counts s n⟩

theorem scrubSlot_bad (n fixed : Nat) (s : State) (hdue : s.slotDue n = true) (hslot : (s.bank n).slot ≠ 4) :
    completes (.scrubSlot n fixed true) s fun t => (t.bank n).line = ((s.bank n).line + 1) % 16384 ∧
      errUp t Err.GRANARY_SCRUB_UE ∧ t.poisoned (lineAddr n (s.bank n).line / 64) = true ∧
      t.granary.mem = s.granary.mem := by
  refine ⟨_, execScrubSlot_bad fixed hdue hslot, ?_⟩
  have hbank := scrubLine_bank s n
  have hmem := congrArg GranaryState.mem (scrubLine_granary s n)
  generalize s.scrubLine n = s1 at *
  generalize lineAddr n (s.bank n).line = a
  obtain ⟨hbanks, hgranary⟩ := scrubInject_rest s1 a
  generalize s1.scrubInject a = q at *
  obtain ⟨hline, -⟩ := scrubWrap_bank (q.2.scrubBad a q.1) n (((s.bank n).line + 1) % 16384)
  obtain ⟨hregs, hkept⟩ := scrubWrap_rest (q.2.scrubBad a q.1) n (((s.bank n).line + 1) % 16384)
  obtain ⟨hpoison, hbytes⟩ := scrubBad_poisons q.2 a q.1
  refine ⟨?_, (errUp_congr hregs).2 (scrubBad_errUp q.2 a q.1), ?_, ?_⟩
  · rw [hline, bank_congr ((scrubBad_banks q.2 a q.1).trans hbanks), hbank]
  · exact (poisoned_congr (by rw [hkept]) _).trans hpoison
  · rw [hkept, hbytes, hgranary, hmem]

/-! ### SPARE_BIST_SLOT (R519) -/

/-- With no pass requested none ends. -/
theorem bistDone_of_idle {s : State} (h : s.calib.bist = false) : s.bistDone = s :=
  if_neg (by simp [h])

/-- The line of the march that the bank's slot takes. -/
def BgBank.marchAt (b : BgBank) : Nat := b.skipUsed 16 b.march

/-- The bank after a line of the march, with no pass requested. -/
def BgBank.marched (b : BgBank) (ticks : Nat) : BgBank :=
  { b.next ticks with march := (b.marchAt + 1) % 2048, asked := none }

/-- The bank after a line of the march that passed. -/
def BgBank.passLine (b : BgBank) (ticks : Nat) : BgBank :=
  { b.marched ticks with
    passed := mset b.passed (b.marchAt / 128) (setBit (mget b.passed (b.marchAt / 128) 0) (b.marchAt % 128)) 0 }

/-- The bank after a line of the march that failed. -/
def BgBank.failLine (b : BgBank) (ticks : Nat) : BgBank :=
  { b.marched ticks with
    passed := mset b.passed (b.marchAt / 128) 0 0, failed := setBit b.failed (b.marchAt / 128) }

/-- Bank `n` has its fifth slot for a line of the march, with no copy and no requested pass in progress. -/
structure State.marchDue (s : State) (n : Nat) : Prop where
  due  : s.slotDue n = true
  slot : (s.bank n).slot = 4
  copy : (s.bank n).copy = none
  idle : s.calib.bist = false

theorem execSpareBistSlot_pass {s : State} {n : Nat} (h : s.marchDue n) : execSpareBistSlot n true s =
    ok ((s.bump Ctr.TELEM_SPARE_BIST_LINES 1).setBank n ((s.bank n).passLine s.ticks)) := by
  obtain ⟨hdue, hslot, hcopy, hidle⟩ := h
  have hdone := bistDone_of_idle (s := (s.bump Ctr.TELEM_SPARE_BIST_LINES 1).setBank n ((s.bank n).passLine s.ticks))
    (by simpa using hidle)
  refine Eq.trans ?_ (congrArg ok hdone)
  simp only [execSpareBistSlot, hdue, hslot, hcopy, hidle, Bool.not_true, bne_self_eq_false, Option.isSome_none,
    Bool.or_self, Bool.false_and, Bool.false_eq_true, if_false, if_true]
  rfl

theorem execSpareBistSlot_fail {s : State} {n : Nat} (h : s.marchDue n) : execSpareBistSlot n false s =
    ok (State.raise { (s.bump Ctr.TELEM_SPARE_BIST_LINES 1).setBank n ((s.bank n).failLine s.ticks) with
      calib := { s.calib with bistBad := false } } Err.TELEM_SPARE_BIST_FAIL) := by
  obtain ⟨hdue, hslot, hcopy, hidle⟩ := h
  have hdone := bistDone_of_idle (s := State.raise
    { (s.bump Ctr.TELEM_SPARE_BIST_LINES 1).setBank n ((s.bank n).failLine s.ticks) with
      calib := { s.calib with bistBad := false } } Err.TELEM_SPARE_BIST_FAIL) (by rw [raise_calib]; exact hidle)
  refine Eq.trans ?_ (congrArg ok hdone)
  simp only [execSpareBistSlot, hdue, hslot, hcopy, hidle, Bool.not_true, bne_self_eq_false, Option.isSome_none,
    Bool.or_self, Bool.false_and, Bool.false_eq_true, if_false, setBank_calib, bump_calib]
  rfl

theorem spareBistSlot_pass (n : Nat) (s : State) (h : s.marchDue n) :
    completes (.spareBistSlot n true) s fun t =>
      (t.bank n).march = ((s.bank n).marchAt + 1) % 2048 ∧
      bit (mget (t.bank n).passed ((s.bank n).marchAt / 128) 0) ((s.bank n).marchAt % 128) = true ∧
      t.rd Ctr.TELEM_SPARE_BIST_LINES.fld = (s.rd Ctr.TELEM_SPARE_BIST_LINES.fld + 1) % 2 ^ 64 := by
  refine ⟨_, execSpareBistSlot_pass h, ?_⟩
  dsimp only
  rw [bank_setBank_same, rd_congr (setBank_regs ..)]
  refine ⟨rfl, ?_, rd_bump_same _ _ _ (by decide)⟩
  rw [BgBank.passLine, mget_mset_same]
  exact bit_setBit_same ..

theorem spareBistSlot_fail (n : Nat) (s : State) (h : s.marchDue n) :
    completes (.spareBistSlot n false) s fun t => errUp t Err.TELEM_SPARE_BIST_FAIL ∧
      bit (t.bank n).failed ((s.bank n).marchAt / 128) = true := by
  refine ⟨_, execSpareBistSlot_fail h, raise_sets _ Err.TELEM_SPARE_BIST_FAIL _ (by decide) (by decide), ?_⟩
  rw [bank_congr (raise_banks ..)]
  show bit (((s.bump Ctr.TELEM_SPARE_BIST_LINES 1).setBank n ((s.bank n).failLine s.ticks)).bank n).failed _ = true
  rw [bank_setBank_same]
  exact bit_setBit_same ..

/-! ### REMAP_COPY_SLOT and REMAP_SWITCH (R411, R520) -/

/-- A check of lines that are not poisoned, with no error injected or found, changes nothing. -/
theorem granaryCheck_clean {s : State} (p : Port) (a n : Nat) (o : Occ) (hinj : s.rd (Hdr.INJ_COUNT 0x62) = 0)
    (hpoison : ∀ l ∈ linesOf a n, s.poisoned l = false) : (s.granaryCheck p a n .ok o).2 = s :=
  congrArg Prod.snd (granaryRead_clean p a n o hinj hpoison)

/-- The bank after line `l` of a row was copied to its spare `r`. -/
def BgBank.copyLine (b : BgBank) (ticks row r l : Nat) : BgBank :=
  { b.next ticks with copy := some (row, r, l + 1), copied := if l = 127 then ticks + 1 else 0 }

theorem remapCopySlot_copies (n row r l : Nat) (s : State) (hcopy : (s.bank n).copy = some (row, r, l))
    (hdue : s.slotDue n = true) (hslot : (s.bank n).slot = 4) (hl : l < 128) (hinj : s.rd (Hdr.INJ_COUNT 0x62) = 0)
    (hpoison : ∀ q ∈ linesOf (lineAddr n (128 * row + l)) 64, s.poisoned q = false) :
    completes (.remapCopySlot n .ok) s fun t =>
      (t.bank n).copy = some (row, r, l + 1) ∧ t.granary = s.granary := by
  have hcheck : ((s.setBank n ((s.bank n).copyLine s.ticks row r l)).granaryCheck .background
      (lineAddr n (128 * row + l)) 64 .ok).2 = s.setBank n ((s.bank n).copyLine s.ticks row r l) :=
    granaryCheck_clean _ _ _ _ hinj hpoison
  have hgo : ¬ 128 ≤ l := by omega
  have hexec : exec (.remapCopySlot n .ok) s = ok (s.setBank n ((s.bank n).copyLine s.ticks row r l)) := by
    refine Eq.trans ?_ (congrArg ok hcheck)
    show execRemapCopySlot n .ok s = _
    simp only [execRemapCopySlot, hcopy, hdue, hslot, hgo, Bool.not_true, bne_self_eq_false, Bool.or_self,
      decide_false, Bool.false_eq_true, if_false]
    rfl
  exact ⟨_, hexec, by rw [bank_setBank_same]; rfl, rfl⟩

/-- A copy that starts leaves the rows that are mapped, and no register but the count of refused copies. -/
theorem startCopy_keeps (s : State) (n : Nat) : ((s.startCopy n).bank n).map = (s.bank n).map ∧
    ((s.startCopy n).bank n).used = (s.bank n).used ∧
    regsKept s (s.startCopy n) [Ctr.GRANARY_REMAP_REFUSED.fld, Hdr.CNT_OVF Ctr.GRANARY_REMAP_REFUSED.page] := by
  unfold State.startCopy
  extract_lets b
  split
  · split
    · rw [bank_congr (bump_banks ..), bank_setBank_same]
      exact ⟨rfl, rfl, regsKept_bump _ _ (regsKept_of_regs _ rfl) (by simp) (by simp)⟩
    · rw [bank_setBank_same]
      exact ⟨rfl, rfl, regsKept_of_regs _ rfl⟩
  · exact ⟨rfl, rfl, regsKept_refl _ _⟩

/-- The row is mapped to its spare, counted and raised. -/
def State.remapped (s : State) (n row r : Nat) : State :=
  ((s.setBank n { s.bank n with map := mput (s.bank n).map row r, used := setBit (s.bank n).used r, copy := none }).bump
    Ctr.GRANARY_REMAPS 1).raise Err.GRANARY_REMAP

theorem remapped_bank (s : State) (n row r : Nat) : (s.remapped n row r).bank n =
    { s.bank n with map := mput (s.bank n).map row r, used := setBit (s.bank n).used r, copy := none } := by
  rw [State.remapped, bank_congr (raise_banks ..), bank_congr (bump_banks ..), bank_setBank_same]

theorem remapped_counts (s : State) (n row r : Nat) :
    (s.remapped n row r).rd Ctr.GRANARY_REMAPS.fld = (s.rd Ctr.GRANARY_REMAPS.fld + 1) % 2 ^ 64 := by
  rw [State.remapped, rd_raise_ne _ _ _ _ (by decide), rd_bump_same _ _ _ (by decide), rd_congr (setBank_regs ..)]

theorem remapSwitch_maps (n row r : Nat) (s : State) (hcopy : (s.bank n).copy = some (row, r, 128))
    (hcopied : (s.bank n).copied ≤ s.ticks) : completes (.remapSwitch n) s fun t =>
      mfind (t.bank n).map row = some r ∧ bit (t.bank n).used r = true ∧ errUp t Err.GRANARY_REMAP ∧
      t.rd Ctr.GRANARY_REMAPS.fld = (s.rd Ctr.GRANARY_REMAPS.fld + 1) % 2 ^ 64 := by
  have hexec : exec (.remapSwitch n) s = ok ((s.remapped n row r).startCopy n) := by
    show execRemapSwitch n s = _
    simp only [execRemapSwitch, hcopy, hcopied, and_self, if_true]
    rfl
  obtain ⟨hmap, hused, hregs⟩ := startCopy_keeps (s.remapped n row r) n
  have hup : errUp (s.remapped n row r) Err.GRANARY_REMAP :=
    raise_sets _ Err.GRANARY_REMAP _ (by decide) (by decide)
  refine ⟨_, hexec, ?_, ?_, ?_, ?_⟩
  · rw [hmap, remapped_bank]
    exact mfind_mput_same ..
  · rw [hused, remapped_bank]
    exact bit_setBit_same ..
  · rwa [errUp, hregs _ (by decide)]
  · rw [hregs _ (by decide), remapped_counts]

end Sys2Proof.Machine
end

section
/-! ## Calibration passes and requests (O57: R521, R524 to R528) -/

namespace Sys2Proof.Machine

/-! ### DITHER_CAL_PASS (R521) -/

/-- The beginning of a pass is a change of the calibration's state alone. -/
theorem beginDither_eq (s : State) : s.beginDither = { s with calib := s.beginDither.calib } := by
  unfold State.beginDither
  dsimp only
  split
  · rfl
  · split
    · rfl
    · split <;> rfl

@[simp] theorem beginDither_regs (s : State) : s.beginDither.regs = s.regs := by rw [beginDither_eq]
@[simp] theorem beginDither_alm (s : State) : s.beginDither.alm = s.alm := by rw [beginDither_eq]

/-- With a request queued a pass is in progress. -/
theorem beginDither_isSome {s : State} (h : s.calib.dAsked ≠ 0) : s.beginDither.calib.dither.isSome = true := by
  unfold State.beginDither
  dsimp only
  split
  · assumption
  · rfl

/-- The fields that the end of a requested calibration writes (R526). -/
def calibEndFields : List Fld := [Reg.CALIB_STATUS_PENDING, Reg.CALIB_STATUS_RESULT]

theorem regsKept_calibEnd (s : State) (kind : Nat) (failed : Bool) :
    regsKept s (s.calibEnd kind failed) calibEndFields :=
  regsKept_wr _ _ (regsKept_wr _ _ (regsKept_refl s _) (by simp [calibEndFields])) (by simp [calibEndFields])

theorem ditherNext_more (s : State) (p : DitherPass) (g : Nat) (rest : List Nat) : s.ditherNext p (g :: rest) =
    { s with calib := { s.calib with dither := some { p with left := g :: rest, since := s.ticks } } } := rfl

/-- A pass that has ended is counted. -/
def State.ditherCounted (s : State) : State :=
  { s with calib := { s.calib with dither := none } }.bump Ctr.TELEM_DITHER_CAL_PASSES 1

theorem ditherNext_last (s : State) (p : DitherPass) : s.ditherNext p [] =
    (if p.asked then s.ditherCounted.calibEnd 0 p.odd else s.ditherCounted).beginDither := rfl

/-- Beyond the count, the end of a pass writes no more than the end of a request does. -/
theorem ditherNext_last_rd (s : State) (p : DitherPass) (f : Fld) (hf : ∀ g ∈ calibEndFields, f.key ≠ g.key) :
    (s.ditherNext p []).rd f = s.ditherCounted.rd f := by
  rw [ditherNext_last, rd_congr (beginDither_regs _)]
  split
  · exact regsKept_calibEnd _ 0 p.odd f hf
  · rfl

theorem ditherNext_counts (s : State) (p : DitherPass) : (s.ditherNext p []).rd Ctr.TELEM_DITHER_CAL_PASSES.fld =
    (s.rd Ctr.TELEM_DITHER_CAL_PASSES.fld + 1) % 2 ^ 64 :=
  (ditherNext_last_rd s p _ (by decide)).trans (rd_bump_same _ _ _ (by decide))

theorem ditherNext_errUp {s : State} (p : DitherPass) (rest : List Nat) (h : errUp s Err.TELEM_DITHER_CAL_ODD) :
    errUp (s.ditherNext p rest) Err.TELEM_DITHER_CAL_ODD := by
  cases rest with
  | nil =>
    have hcounted : errUp s.ditherCounted Err.TELEM_DITHER_CAL_ODD := errUp_bump _ _ h (by decide)
    rwa [errUp, ditherNext_last_rd s p _ (by decide)]
  | cons g rest => exact h

theorem ditherNext_alm (s : State) (p : DitherPass) (rest : List Nat) : (s.ditherNext p rest).alm = s.alm := by
  cases rest with
  | nil =>
    have hcounted : s.ditherCounted.alm = s.alm := bump_alm ..
    rw [ditherNext_last, beginDither_alm]
    split
    · exact hcounted
    · exact hcounted
  | cons g rest => rfl

/-- The new efficiencies of ferry `f`'s heaters, taken up one after another; whether one was odd. -/
def State.takeEtas (s : State) (f : Nat) (etas : List (Nat × Int)) : Bool × State :=
  etas.foldl (fun (acc : Bool × State) e =>
    if e.1 / 256 = f ∧ acc.2.elementLocked e.1 then
      let q := acc.2.takeEta e.1 e.2
      if q.1 then (true, q.2.raise Err.TELEM_DITHER_CAL_ODD) else (acc.1, q.2)
    else acc) (false, s)

/-- The pass is at ferry `f`, whose 512 bells are over, with the ferries `rest` after it. -/
structure State.ditherDue (s : State) (f : Nat) (p : DitherPass) (rest : List Nat) : Prop where
  pass : s.calib.dither = some p
  left : p.left = f :: rest
  done : p.since + 512 ≤ s.ticks
  limp : s.inLimp = false

theorem execDitherCalPass_due {s : State} {f : Nat} {p : DitherPass} {rest : List Nat} (h : s.ditherDue f p rest)
    (etas : List (Nat × Int)) : execDitherCalPass f etas s =
      ok ((s.takeEtas f etas).2.ditherNext { p with odd := p.odd || (s.takeEtas f etas).1 } rest) := by
  obtain ⟨hpass, hleft, hdone, hlimp⟩ := h
  have hgo : ¬(f ≠ f ∨ s.ticks < p.since + 512 ∨ s.inLimp = true) := by
    rw [hlimp]
    simp [hdone]
  simp only [execDitherCalPass, hpass, hleft, if_neg hgo]
  rfl

/-- An efficiency off by more than a quarter is not used. -/
theorem takeEta_odd {s : State} {h : Nat} {new : Int} (hodd : (s.cal 1 h).natAbs < 4 * (new - s.cal 1 h).natAbs) :
    s.takeEta h new = (true, s) := by
  unfold State.takeEta
  extract_lets old d
  rw [if_neg (by omega), if_neg (by omega)]

theorem takeEtas_odd {s : State} {f h : Nat} {new : Int} (hf : h / 256 = f) (hlock : s.elementLocked h = true)
    (hodd : (s.cal 1 h).natAbs < 4 * (new - s.cal 1 h).natAbs) :
    s.takeEtas f [(h, new)] = (true, s.raise Err.TELEM_DITHER_CAL_ODD) := by
  simp only [State.takeEtas, List.foldl_cons, List.foldl_nil, hf, hlock, takeEta_odd hodd, and_self, if_true]

theorem ditherCalPass_more (f : Nat) (p : DitherPass) (g : Nat) (rest : List Nat) (s : State)
    (h : s.ditherDue f p (g :: rest)) : completes (.ditherCalPass f []) s fun t =>
      t.calib = { s.calib with dither := some { p with left := g :: rest, since := s.ticks } } ∧ t.regs = s.regs := by
  refine ⟨_, execDitherCalPass_due h [], ?_, rfl⟩
  dsimp only [State.takeEtas, List.foldl_nil]
  rw [Bool.or_false, ditherNext_more]

theorem ditherCalPass_last (f : Nat) (p : DitherPass) (s : State) (h : s.ditherDue f p []) :
    completes (.ditherCalPass f []) s fun t => t.rd Ctr.TELEM_DITHER_CAL_PASSES.fld =
      (s.rd Ctr.TELEM_DITHER_CAL_PASSES.fld + 1) % 2 ^ 64 :=
  ⟨_, execDitherCalPass_due h [], ditherNext_counts s _⟩

theorem ditherCalPass_odd (f : Nat) (p : DitherPass) (q : Nat) (new : Int) (rest : List Nat) (s : State)
    (h : s.ditherDue f p rest) (hf : q / 256 = f) (hlock : s.elementLocked q = true)
    (hodd : (s.cal 1 q).natAbs < 4 * (new - s.cal 1 q).natAbs) : completes (.ditherCalPass f [(q, new)]) s fun t =>
      errUp t Err.TELEM_DITHER_CAL_ODD ∧ t.alm = s.alm := by
  refine ⟨_, execDitherCalPass_due h _, ?_⟩
  rw [takeEtas_odd hf hlock hodd]
  exact ⟨ditherNext_errUp _ _ (raise_sets s Err.TELEM_DITHER_CAL_ODD _ (by decide) (by decide)),
    (ditherNext_alm ..).trans (raise_alm ..)⟩

/-! ### CALIB_REQ (R525 to R528) -/

/-- A request with the key names its kind and ferry. -/
def State.calibNamed (s : State) (v : Nat) : State :=
  (s.wr Reg.CALIB_STATUS_KIND (v % 16)).wr Reg.CALIB_STATUS_FERRY (bits v 5 3)

/-- The ferries that a request names: all, or one. -/
def calibScope (v : Nat) : Nat := if bit v 4 then 0xFF else 2 ^ bits v 5 3

/-- The fields that an accepted request writes (R526). -/
def acceptFields : List Fld :=
  [Reg.CALIB_STATUS_RESULT, Reg.CALIB_STATUS_PENDING, Ctr.TELEM_CALIB_ACCEPTED.fld,
    Hdr.CNT_OVF Ctr.TELEM_CALIB_ACCEPTED.page]

theorem regsKept_accept (s : State) (kind : Nat) : regsKept s (s.accept kind) acceptFields :=
  regsKept_bump _ _ (regsKept_wr _ _ (regsKept_wr _ _ (regsKept_refl s _) (by simp [acceptFields]))
    (by simp [acceptFields])) (by simp [acceptFields]) (by simp [acceptFields])

@[simp] theorem accept_calib (s : State) (kind : Nat) : (s.accept kind).calib = s.calib := bump_calib ..

/-- An accepted request is QUEUED. -/
theorem accept_result (s : State) (kind : Nat) : (s.accept kind).rd Reg.CALIB_STATUS_RESULT = 1 := by
  rw [State.accept, rd_bump_ne _ _ _ _ (by decide) (by decide), rd_wr_ne _ _ _ _ (by decide), rd_wr_same]
  rfl

/-- An accepted request is pending. -/
theorem accept_pending (s : State) {kind : Nat} (hkind : kind < 5) :
    bit ((s.accept kind).rd Reg.CALIB_STATUS_PENDING) kind = true := by
  rw [State.accept, rd_bump_ne _ _ _ _ (by decide) (by decide), rd_wr_same]
  exact bit_setBit_mod _ _ _ hkind

theorem calibNamed_kind (s : State) (v : Nat) : (s.calibNamed v).rd Reg.CALIB_STATUS_KIND = v % 16 := by
  rw [State.calibNamed, rd_wr_ne _ _ _ _ (by decide), rd_wr_same]
  exact Nat.mod_mod v 16

theorem calibNamed_ferry (s : State) (v : Nat) : (s.calibNamed v).rd Reg.CALIB_STATUS_FERRY = bits v 5 3 := by
  rw [State.calibNamed, rd_wr_same]
  exact Nat.mod_mod _ 8

theorem accept_kind (s : State) (v kind : Nat) :
    ((s.calibNamed v).accept kind).rd Reg.CALIB_STATUS_KIND = v % 16 :=
  (regsKept_accept _ kind _ (by decide)).trans (calibNamed_kind s v)

theorem accept_ferry (s : State) (v kind : Nat) :
    ((s.calibNamed v).accept kind).rd Reg.CALIB_STATUS_FERRY = bits v 5 3 :=
  (regsKept_accept _ kind _ (by decide)).trans (calibNamed_ferry s v)

theorem calibRequest_bad {s : State} {v : Nat} (h : bits v 8 8 ≠ 0xA5 ∨ 4 < v % 16) :
    s.calibRequest v = s.wr Reg.CALIB_STATUS_RESULT 5 := if_pos h

section

variable {s : State} {v : Nat} (hkey : bits v 8 8 = 0xA5)
include hkey

/-- A request that has the key and a known kind is not bad. -/
theorem calibRequest_good (hkind : v % 16 ≤ 4) : ¬(bits v 8 8 ≠ 0xA5 ∨ 4 < v % 16) := by
  rw [hkey]
  omega

theorem calibRequest_dither (hkind : v % 16 = 0) : s.calibRequest v =
    State.beginDither { (s.calibNamed v).accept 0 with
      calib := { s.calib with dAsked := mergeScope s.calib.dAsked (calibScope v) } } := by
  unfold State.calibRequest
  dsimp only
  rw [if_neg (calibRequest_good hkey (by omega)), if_pos hkind]
  rfl

theorem calibRequest_l0 (hkind : v % 16 = 1) : s.calibRequest v =
    { (s.calibNamed v).accept 1 with
      calib := { s.calib with
        l0Ferries := mergeScope s.calib.l0Ferries (calibScope v), l0Left := 1024,
        l0Bad := s.calib.l0Ferries != 0 && s.calib.l0Bad } } := by
  unfold State.calibRequest
  dsimp only
  rw [if_neg (calibRequest_good hkey (by omega)), if_neg (by omega), if_pos hkind]
  rfl

theorem calibRequest_bist (hkind : v % 16 = 2) : s.calibRequest v =
    if s.calib.bist then (s.calibNamed v).accept 2
    else { (s.calibNamed v).accept 2 with calib := { s.calib with bist := true, bistBad := false } } := by
  have hcalib : ((s.calibNamed v).accept 2).calib = s.calib := accept_calib ..
  unfold State.calibNamed at hcalib ⊢
  unfold State.calibRequest
  dsimp only
  rw [if_neg (calibRequest_good hkey (by omega)), if_neg (by omega), if_neg (by omega), if_pos hkind, hcalib]

/-- A disruptive request waits for the next boundary to decide it. -/
theorem calibRequest_disruptive (hkind : v % 16 = 3 ∨ v % 16 = 4) : s.calibRequest v =
    { s.calibNamed v with calib := { s.calib with decide := s.calib.decide ++ [(v % 16, bits v 5 3)] } } := by
  unfold State.calibRequest
  dsimp only
  rw [if_neg (calibRequest_good hkey (by omega)), if_neg (by omega), if_neg (by omega), if_neg (by omega)]
  rfl

end

/-- Scopes merged name a ferry where one of them does. -/
theorem mergeScope_ne_zero {a b : Nat} (h : b ≠ 0) : mergeScope a b ≠ 0 := by
  unfold mergeScope
  split
  · exact h
  · split
    · assumption
    · decide

theorem calibScope_ne_zero (v : Nat) : calibScope v ≠ 0 := by
  unfold calibScope
  split
  · decide
  · exact (Nat.two_pow_pos _).ne'

theorem calibDitherCal_accepted (val : Word) (s : State) (hkey : bits val.toNat 8 8 = 0xA5)
    (hkind : val.toNat % 16 = 0) : completes (.calibDitherCal val) s fun t =>
      t.rd Reg.CALIB_STATUS_KIND = 0 ∧ t.rd Reg.CALIB_STATUS_FERRY = bits val.toNat 5 3 ∧
      t.rd Reg.CALIB_STATUS_RESULT = 1 ∧ bit (t.rd Reg.CALIB_STATUS_PENDING) 0 = true ∧
      t.calib.dither.isSome = true := by
  refine ⟨_, congrArg ok (calibRequest_dither hkey hkind), ?_⟩
  have hregs (f : Fld) : (State.beginDither { (s.calibNamed val.toNat).accept 0 with calib := { s.calib with
      dAsked := mergeScope s.calib.dAsked (calibScope val.toNat) } }).rd f =
      ((s.calibNamed val.toNat).accept 0).rd f := rd_congr (beginDither_regs _) f
  simp only [hregs]
  exact ⟨(accept_kind ..).trans hkind, accept_ferry .., accept_result .., accept_pending _ (by decide),
    beginDither_isSome (mergeScope_ne_zero (calibScope_ne_zero _))⟩

theorem calibL0Check_accepted (val : Word) (s : State) (hkey : bits val.toNat 8 8 = 0xA5)
    (hkind : val.toNat % 16 = 1) : completes (.calibL0Check val) s fun t =>
      t.rd Reg.CALIB_STATUS_KIND = 1 ∧ t.rd Reg.CALIB_STATUS_RESULT = 1 ∧ t.calib.l0Left = 1024 ∧
      t.calib.l0Ferries = mergeScope s.calib.l0Ferries (calibScope val.toNat) :=
  ⟨_, congrArg ok (calibRequest_l0 hkey hkind), (accept_kind s val.toNat 1).trans hkind, accept_result _ 1, rfl,
    rfl⟩

theorem calibSpareBist_accepted (val : Word) (s : State) (hkey : bits val.toNat 8 8 = 0xA5)
    (hkind : val.toNat % 16 = 2) : completes (.calibSpareBist val) s fun t =>
      t.rd Reg.CALIB_STATUS_KIND = 2 ∧ t.rd Reg.CALIB_STATUS_RESULT = 1 ∧ t.calib.bist = true := by
  refine ⟨_, congrArg ok (calibRequest_bist hkey hkind), ?_⟩
  dsimp only
  have hk := (accept_kind s val.toNat 2).trans hkind
  split
  · next hbist => exact ⟨hk, accept_result .., by rw [accept_calib]; exact hbist⟩
  · exact ⟨hk, accept_result _ 2, rfl⟩

theorem calibFerryRelock_waits (val : Word) (s : State) (hkey : bits val.toNat 8 8 = 0xA5)
    (hkind : val.toNat % 16 = 3) : completes (.calibFerryRelock val) s fun t => t.rd Reg.CALIB_STATUS_KIND = 3 ∧
      t.calib = { s.calib with decide := s.calib.decide ++ [(3, bits val.toNat 5 3)] } :=
  ⟨_, congrArg ok (calibRequest_disruptive hkey (.inl hkind)), (calibNamed_kind ..).trans hkind, by rw [hkind]⟩

theorem calibLaneBist_waits (val : Word) (s : State) (hkey : bits val.toNat 8 8 = 0xA5)
    (hkind : val.toNat % 16 = 4) : completes (.calibLaneBist val) s fun t => t.rd Reg.CALIB_STATUS_KIND = 4 ∧
      t.calib = { s.calib with decide := s.calib.decide ++ [(4, bits val.toNat 5 3)] } :=
  ⟨_, congrArg ok (calibRequest_disruptive hkey (.inr hkind)), (calibNamed_kind ..).trans hkind, by rw [hkind]⟩

theorem calibReqBad_answers (val : Word) (s : State) (h : bits val.toNat 8 8 ≠ 0xA5 ∨ 4 < val.toNat % 16) :
    completes (.calibReqBad val) s fun t => t.rd Reg.CALIB_STATUS_RESULT = 5 ∧
      regsKept s t [Reg.CALIB_STATUS_RESULT] ∧ frame [.regs] s t := by
  refine ⟨_, congrArg ok (calibRequest_bad h), rd_wr_same .., regsKept_wr _ _ (regsKept_refl s _) (by simp),
    fun q hq => ?_⟩
  cases q with
  | regs => exact absurd (List.mem_singleton.2 rfl) hq
  | _ => rfl

/-! ### The ends of the L0 checks and the lane tests (R525, R526, R528) -/

theorem bit_clearBit_same (v n : Nat) : bit (clearBit v n) n = false := by
  unfold clearBit
  split
  · next h =>
    have hodd : v / 2 ^ n % 2 = 1 := by simpa [bit, Nat.shiftRight_eq_div_pow] using h
    have hdiv : (v - 2 ^ n) / 2 ^ n = v / 2 ^ n - 1 := by simpa using Nat.sub_mul_div v (2 ^ n) 1
    have heven : (v / 2 ^ n - 1) % 2 = 0 := by omega
    simp [bit, Nat.shiftRight_eq_div_pow, Nat.one_shiftLeft, hdiv, heven]
  · next h => simpa using h

theorem calibEnd_pending (s : State) {kind : Nat} (failed : Bool) (hkind : kind < 5) :
    bit ((s.calibEnd kind failed).rd Reg.CALIB_STATUS_PENDING) kind = false := by
  rw [State.calibEnd, rd_wr_ne _ _ _ _ (by decide), rd_wr_same]
  exact (bit_mod _ _ _ hkind).trans (bit_clearBit_same ..)

theorem calibEnd_result (s : State) (kind : Nat) (failed : Bool) :
    (s.calibEnd kind failed).rd Reg.CALIB_STATUS_RESULT = if failed then 6 else 3 := by
  rw [State.calibEnd, rd_wr_same]
  cases failed <;> rfl

theorem calibL0CheckEnd_ends (s : State) (hruns : s.calib.l0Ferries ≠ 0) (hover : s.calib.l0Left = 0) :
    completes .calibL0CheckEnd s fun t => t.calib.l0Ferries = 0 ∧ bit (t.rd Reg.CALIB_STATUS_PENDING) 1 = false ∧
      t.rd Reg.CALIB_STATUS_RESULT = if s.calib.l0Bad then 6 else 3 :=
  ⟨_, if_pos ⟨hruns, hover⟩, rfl, calibEnd_pending _ _ (by decide), calibEnd_result ..⟩

theorem wrs_calib (l : List (Fld × Nat)) (s : State) : (l.foldl (fun a p => a.wr p.1 p.2) s).calib = s.calib :=
  foldl_keeps State.calib (fun a (p : Fld × Nat) => a.wr p.1 p.2) (fun _ _ => rfl) l s

theorem mirrorPair_calib (s : State) (f j : Nat) : (s.mirrorPair f j).calib = s.calib := by
  unfold State.mirrorPair
  extract_lets i vals others put s1
  have h1 : s1.calib = s.calib := (wrs_calib _ (put s (linkFields f j) others)).trans (wrs_calib _ s)
  clear_value s1
  exact h1

theorem setReversed_calib (s : State) (f : Nat) (r : Bool) : (s.setReversed f r).calib = s.calib := by
  unfold State.setReversed
  split
  · rfl
  · rw [wrB_eq, wr_calib]
    exact foldl_keeps State.calib _ (fun a j => mirrorPair_calib a f (j + 1)) _ s

theorem settle_calib (s : State) (f : Nat) : (s.settle f).calib = s.calib := by
  unfold State.settle
  split
  · rw [wr_calib, wr_calib, setReversed_calib]
  · rfl

/-- A link's return to DETECT leaves the calibration's state alone. -/
theorem toDetect_calib (s : State) (k reason : Nat) (b : BackOff) (at' : Nat) :
    (s.toDetect k reason b at').calib = s.calib := by
  unfold State.toDetect
  extract_lets f j _ _ bells _ l1 s1 s2 land s3 s4
  have h2 : s2.calib = s1.calib := wrs_calib _ s1
  have h4 : s4.calib = s3.calib := by
    unfold s4
    split <;> rfl
  exact (settle_calib s4 f).trans (h4.trans h2)

/-- The end of a requested calibration leaves every link in its stage. -/
theorem calibEnd_stagesKept (s : State) (kind : Nat) (failed : Bool) : stagesKept s (s.calibEnd kind failed) :=
  (stagesKept.refl s).step (regsKept_calibEnd s kind failed) (by decide)

/-- The calibration's state after link `j` of a ferry, tested as `p`, has counted `e` errors. -/
def CalibState.tested (c : CalibState) (p : Nat × Nat) (j e : Nat) : CalibState :=
  { c with
    links := c.links.erase p, errors := mset c.errors j (satAt 0xFFFFFFFF e) 0,
    run := if (c.links.erase p).isEmpty then none else c.run }

theorem execLaneBistEnd_counted {f j : Nat} (e : Nat) {p : Nat × Nat} {s : State}
    (hp : s.calib.links.find? (fun p => p.1 == 32 * f + j) = some p) (hstage : s.stageOf (32 * f + j) = 1)
    (hconv : s.is (Reg.FERRY_LANE_STATE_EQ_CONVERGED f j) = true) : execLaneBistEnd f j (some e) s =
      ok (if (s.calib.links.erase p).isEmpty then
        (State.toDetect { s with calib := s.calib.tested p j e } (32 * f + j) 19 .one s.ticks).calibEnd 4 false
      else State.toDetect { s with calib := s.calib.tested p j e } (32 * f + j) 19 .one s.ticks) := by
  simp only [execLaneBistEnd, hp, hstage, hconv, and_self, decide_true, Bool.not_true, Bool.false_eq_true, if_false]
  rfl

theorem laneBistEnd_ends (f j e : Nat) (p : Nat × Nat) (s : State) (hf : f < 8) (hj : j < 32)
    (hp : s.calib.links.find? (fun p => p.1 == 32 * f + j) = some p) (hstage : s.stageOf (32 * f + j) = 1)
    (hconv : s.is (Reg.FERRY_LANE_STATE_EQ_CONVERGED f j) = true) : completes (.laneBistEnd f j (some e)) s fun t =>
      t.calib.links = s.calib.links.erase p ∧ mget t.calib.errors j 0 = satAt 0xFFFFFFFF e ∧
      t.stageOf (32 * f + j) = 0 := by
  refine ⟨_, execLaneBistEnd_counted e hp hstage hconv, ?_⟩
  dsimp only
  have hcalib := toDetect_calib { s with calib := s.calib.tested p j e } (32 * f + j) 19 .one s.ticks
  have hdetect := stageOf_toDetect_same { s with calib := s.calib.tested p j e } f j 19 .one s.ticks hf hj
  generalize State.toDetect { s with calib := s.calib.tested p j e } (32 * f + j) 19 .one s.ticks = u at *
  have hu : u.calib.links = s.calib.links.erase p ∧ mget u.calib.errors j 0 = satAt 0xFFFFFFFF e := by
    rw [hcalib]
    exact ⟨rfl, mget_mset_same ..⟩
  split
  · exact ⟨hu.1, hu.2, (calibEnd_stagesKept u 4 false _).trans hdetect⟩
  · exact ⟨hu.1, hu.2, hdetect⟩

/-! ### TELEM_AGE_RESET (R524) -/

theorem telemAgeReset_marks (val : Word) (s : State) : completes (.telemAgeReset val) s fun t =>
    t.age (val.toNat % 64) = { s.age (val.toNat % 64) with renew := true } ∧ frame [.ageing] s t := by
  refine ⟨_, rfl, mget_mset_same .., fun q hq => ?_⟩
  cases q with
  | ageing => exact absurd (List.mem_singleton.2 rfl) hq
  | _ => rfl

/-- Settles O57: one lemma for each clause. -/
theorem backgroundMaintenance : Obligations.BackgroundMaintenance := by
  unfold Obligations.BackgroundMaintenance
  exact ⟨scrubSlot_clean, scrubSlot_bad,
    fun n s hdue hslot hcopy hidle => spareBistSlot_pass n s ⟨hdue, hslot, hcopy, hidle⟩,
    fun n s hdue hslot hcopy hidle => spareBistSlot_fail n s ⟨hdue, hslot, hcopy, hidle⟩,
    remapCopySlot_copies, remapSwitch_maps,
    fun f p g rest s hpass hleft hdone hlimp => ditherCalPass_more f p g rest s ⟨hpass, hleft, hdone, hlimp⟩,
    fun f p s hpass hleft hdone hlimp => ditherCalPass_last f p s ⟨hpass, hleft, hdone, hlimp⟩,
    fun f p q new rest s hpass hleft hdone hlimp => ditherCalPass_odd f p q new rest s ⟨hpass, hleft, hdone, hlimp⟩,
    calibDitherCal_accepted, calibL0Check_accepted, calibSpareBist_accepted, calibFerryRelock_waits,
    calibLaneBist_waits, calibReqBad_answers, calibL0CheckEnd_ends, laneBistEnd_ends, telemAgeReset_marks⟩

end Sys2Proof.Machine
end

section
/-! ## A step, and what reports leave of the block's work (O1: spec/95; R102, R446, R447) -/

namespace Sys2Proof.Machine

/-! ### A step -/

theorem step_front (c : Instr) (rest : List Instr) (s : State) (h : s.pending = c :: rest) :
    step s = exec c { s with pending := rest } := by
  simp only [step, h]

theorem step_idle (s : State) (h : s.pending = []) : step s = .next s := by
  simp only [step, h]

/-- Settles O1: a case for each form of the queue. -/
theorem stepRunsFrontCommand : Obligations.StepRunsFrontCommand := ⟨step_front, step_idle⟩

/-! ### What programs, layers and routines work on -/

/-- What programs, layers and routines work on beside the programs themselves: a count, an error raised or a trace
record changes none of it. -/
structure Work where
  bellNum  : Nat
  ticks    : Nat
  active   : TableSet
  shadow   : TableSet
  hops     : Map Hop
  sched    : SchedState
  tasks    : Map Task
  granary  : GranaryState
  miller   : MillerState
  rows     : Map RowUnit
  cores    : Map Core
  groups   : GroupState
  routines : Map Routine

/-- What a state holds of it. -/
def State.work (s : State) : Work :=
  ⟨s.bellNum, s.ticks, s.active, s.shadow, s.hops, s.sched, s.tasks, s.granary, s.miller, s.mill.rows, s.mill.cores,
    s.groups, s.routines⟩

theorem work_bump (s : State) (c : Ctr) (n : Nat) : (s.bump c n).work = s.work := by
  rw [bump_eq]
  rfl

theorem work_raise (s : State) (e : ErrBit) (o : Occ) : (s.raise e o).work = s.work := by
  rw [raise_eq]
  rfl

/-- From `s` to `t` only reports have been made: of the registers only the fields `fs` may have changed, and what
programs and routines work on is as it was. -/
structure reported (fs : List Fld) (s t : State) : Prop where
  regs  : regsKept s t fs
  progs : t.mill.progs = s.mill.progs
  work  : t.work = s.work

namespace reported

variable {fs gs : List Fld} {s t u : State}

theorem refl (s : State) : reported fs s s := ⟨regsKept_refl s fs, rfl, rfl⟩

theorem trans (h : reported fs s t) (h' : reported fs t u) : reported fs s u :=
  ⟨regsKept_trans h.regs h'.regs, h'.progs.trans h.progs, h'.work.trans h.work⟩

theorem mono (h : reported gs s t) (hs : ∀ g ∈ gs, g ∈ fs) : reported fs s t :=
  ⟨regsKept_mono h.regs hs, h.progs, h.work⟩

/-- A change of other parts of the state. -/
theorem upd (h : reported fs s t) (hr : u.regs = t.regs := by rfl) (hp : u.mill.progs = t.mill.progs := by rfl)
    (hw : u.work = t.work := by rfl) : reported fs s u :=
  ⟨regsKept_upd h.regs hr, hp.trans h.progs, hw.trans h.work⟩

theorem wr {f : Fld} {v : Nat} (h : reported fs s t) (hf : f ∈ fs) : reported fs s (t.wr f v) :=
  ⟨regsKept_wr f v h.regs hf, h.progs, h.work⟩

theorem bump {c : Ctr} {n : Nat} (h : reported fs s t) (hc : c.fld ∈ fs) (ho : Hdr.CNT_OVF c.page ∈ fs) :
    reported fs s (t.bump c n) :=
  ⟨regsKept_bump c n h.regs hc ho, by rw [bump_mill, h.progs], (work_bump t c n).trans h.work⟩

theorem raise {e : ErrBit} {o : Occ} (h : reported fs s t) (he : ∀ g ∈ raiseFields e.page, g ∈ fs) :
    reported fs s (t.raise e o) :=
  ⟨regsKept_trans h.regs (regsKept_mono (regsKept_raise e o (regsKept_refl t _)) he), by rw [raise_mill, h.progs],
    (work_raise t e o).trans h.work⟩

theorem ite {c : Prop} [Decidable c] (ht : reported fs s t) (hu : reported fs s u) :
    reported fs s (if c then t else u) := by
  split
  · exact ht
  · exact hu

theorem foldl {β : Type} {g : State → β → State} {l : List β} (hg : ∀ a x, reported fs s a → reported fs s (g a x))
    (h : reported fs s t) : reported fs s (l.foldl g t) := by
  induction l generalizing t with
  | nil => exact h
  | cons x l ih => exact ih (hg t x h)

theorem traceStore {d : List Byte} (h : reported fs s t) (hfs : ∀ g ∈ traceFields, g ∈ fs) :
    reported fs s (t.traceStore d) := by
  unfold State.traceStore
  extract_lets w tr full lost gs gs' s1 _ s2 s3 s4
  have hdropped {a : State} {k : Nat} (ha : reported fs s a) :
      reported fs s ((a.bump Ctr.TRACE_RECORDS_DROPPED k).raise Err.TRACE_TRACE_DROPPED) :=
    raise (bump ha (hfs _ (by decide)) (hfs _ (by decide))) fun g hg =>
      hfs g (List.mem_append_right _ hg)
  have h1 : reported fs s s1 := wr (wr h (hfs _ (by decide))) (hfs _ (by decide))
  have h2 : reported fs s s2 := h1.upd
  have h3 : reported fs s s3 := h2.bump (hfs _ (by decide)) (hfs _ (by decide))
  have h4 : reported fs s s4 := (hdropped h3).ite h3
  exact h.ite ((hdropped h).ite ((wr h4 (hfs _ (by decide))).ite h4))

theorem trace {kind n : Nat} {tail pb : Bool} {word rows data : Nat} (h : reported fs s t)
    (hfs : ∀ g ∈ traceFields, g ∈ fs) : reported fs s (t.trace kind n tail pb word rows data) := by
  unfold State.trace
  extract_lets _ _ _ s1 s2 _ _ _ s3
  have h1 : reported fs s s1 := h.traceStore hfs
  have h2 : reported fs s s2 := (h1.traceStore hfs).bump (hfs _ (by decide)) (hfs _ (by decide))
  have h3 : reported fs s s3 := h2.upd
  exact h.ite (((wr h3 (hfs _ (by decide))).ite h3).ite h1)

variable (h : reported fs s t)
include h

theorem ticks : t.ticks = s.ticks := congrArg Work.ticks h.work
theorem sched : t.sched = s.sched := congrArg Work.sched h.work
theorem tasks : t.tasks = s.tasks := congrArg Work.tasks h.work
theorem granary : t.granary = s.granary := congrArg Work.granary h.work
theorem miller : t.miller = s.miller := congrArg Work.miller h.work
theorem rows : t.mill.rows = s.mill.rows := congrArg Work.rows h.work
theorem cores : t.mill.cores = s.mill.cores := congrArg Work.cores h.work
theorem groups : t.groups = s.groups := congrArg Work.groups h.work
theorem routines : t.routines = s.routines := congrArg Work.routines h.work
theorem hops : t.hops = s.hops := congrArg Work.hops h.work

theorem task (n : Nat) : t.task n = s.task n := task_congr h.tasks n
theorem prog (n : Nat) : t.prog n = s.prog n := by simp only [State.prog, h.progs]
theorem core (c : Nat) : t.core c = s.core c := by simp only [State.core, h.cores]

end reported

end Sys2Proof.Machine
end

section
/-! ## The Miller's word: how it begins and ends, and an illegal operation (O43 to O45: R397, R398, R442, R443, R446) -/

namespace Sys2Proof.Machine

/-! ### What the Miller reports -/

/-- The register fields that count the words of a program. -/
def wordFields : List Fld :=
  [Ctr.MILLER_MILLER_FETCH_WORDS.fld, Ctr.MILLER_LONG_WORDS_ISSUED.fld, Ctr.MILLER_TAIL_WORDS_ISSUED.fld,
   Hdr.CNT_OVF 0x60]

/-- The register fields that a word of a program may change: its counts, the trace, and what the faults of its memories
and operations record (R417, R446). -/
def millerFields : List Fld :=
  wordFields ++ traceFields ++ raiseFields 0x60 ++ raiseFields 0x61 ++
    [Hdr.INJ_COUNT 0x60, Reg.MILLER_ERR_ADDR_VALID, Reg.MILLER_ERR_ADDR_MEMORY, Reg.MILLER_ERR_ADDR_UE,
     Reg.MILLER_ERR_ADDR_ADDR, Reg.TRACE_FAULT_LO_STEP, Reg.TRACE_FAULT_LO_TASK_TAG, Reg.TRACE_FAULT_HI_VALID,
     Reg.TRACE_FAULT_HI_PB, Reg.TRACE_FAULT_HI_SLOT, Reg.TRACE_FAULT_HI_WORD]

theorem wordFields_miller : ∀ g ∈ wordFields, g ∈ millerFields := by decide

theorem traceFields_miller : ∀ g ∈ traceFields, g ∈ millerFields := by decide

namespace reported

variable {s t : State}

theorem noteWord (h : reported millerFields s t) (n word : Nat) (pb : Bool) :
    reported millerFields s (t.noteWord n word pb) := by
  unfold State.noteWord
  simp only [List.foldl_cons, List.foldl_nil]
  exact wr (wr (wr (wr (wr (wr h (by decide)) (by decide)) (by decide)) (by decide)) (by decide)) (by decide)

theorem millerErr (h : reported millerFields s t) (memory : Nat) (ue : Bool) (addr : Nat) :
    reported millerFields s (t.millerErr memory ue addr) :=
  wr (wr (wr (wr h (by decide)) (by decide)) (by decide)) (by decide)

theorem millerInject (h : reported millerFields s t) (checker : Nat) :
    reported millerFields s (t.injectUse 0x60 checker).2 := by
  unfold State.injectUse
  split
  · exact h.wr (by decide)
  · exact h

/-- The fetch of a word, whatever it finds. -/
theorem fetchWord (h : reported millerFields s t) (n word : Nat) (pb : Bool) (ecc : EccResult) (prefetch : Bool) :
    reported millerFields s (t.fetchWord n word pb ecc prefetch).2 := by
  unfold State.fetchWord
  extract_lets s0 r _ o m _ s1 e s2 s1'
  have h0 : reported millerFields s s0 := h.bump (by decide) (by decide)
  have hr : reported millerFields s r.2 := by
    unfold r
    split
    · exact h0
    · exact h0.millerInject 0
  have h1 : reported millerFields s s1 := millerErr (upd hr) _ _ _
  have h1' : reported millerFields s s1' := millerErr (upd hr) _ _ _
  have h2 : reported millerFields s s2 := h1.ite (h1.noteWord n word pb)
  have he : ∀ g ∈ raiseFields e.page, g ∈ millerFields := by
    unfold e
    split <;> decide
  split
  · exact (h2.raise he).ite ((h2.raise he).trace traceFields_miller)
  · split
    · exact h1'.ite (h1'.raise (by decide))
    · exact hr

/-- A word's record, and a debug step that it uses up. -/
theorem wordDone {fs : List Fld} (h : reported fs s t) (hfs : ∀ g ∈ traceFields, g ∈ fs) (o : OpAt) (result : Nat) :
    reported fs s (t.wordDone o result) := by
  unfold State.wordDone
  exact (h.upd.ite h).trace hfs

/-- The words beyond a taken branch. -/
theorem discardWords (h : reported millerFields s t) (o : OpAt) : reported millerFields s (t.discardWords o) :=
  foldl (fun _ e ha => ha.fetchWord o.slot (o.word + 1) o.pb e true) h

end reported

/-! ### A program that moves -/

/-- From `s` to `t` slot `n`'s program has become `q`, and beyond that only reports have been made. -/
structure stepped (fs : List Fld) (s t : State) (n : Nat) (q : Prog) : Prop where
  regs   : regsKept s t fs
  prog   : t.prog n = some q
  others : ∀ m, m ≠ n → t.prog m = s.prog m
  work   : t.work = s.work

namespace stepped

variable {fs gs : List Fld} {s t u : State} {n : Nat} {o : OpAt} {q : Prog}

theorem refl (h : s.prog n = some q) : stepped fs s s n q := ⟨regsKept_refl s fs, h, fun _ _ => rfl, rfl⟩

theorem mono (h : stepped gs s t n q) (hs : ∀ g ∈ gs, g ∈ fs) : stepped fs s t n q :=
  ⟨regsKept_mono h.regs hs, h.prog, h.others, h.work⟩

theorem report (h : stepped fs s t n q) (h' : reported fs t u) : stepped fs s u n q :=
  ⟨regsKept_trans h.regs h'.regs, (h'.prog n).trans h.prog, fun m hm => (h'.prog m).trans (h.others m hm),
    h'.work.trans h.work⟩

theorem setProg (h : stepped fs s t n q) (q' : Prog) : stepped fs s (t.setProg n q') n q' :=
  ⟨h.regs, prog_setProg_same t n q', fun m hm => (mfind_mput_ne _ _ _ _ hm).trans (h.others m hm), h.work⟩

theorem withProg (h : stepped fs s t n q) (f : Prog → Prog) : stepped fs s (t.withProg n f) n (f q) := by
  simp only [State.withProg, h.prog]
  exact h.setProg (f q)

theorem setX (h : stepped fs s t n q) (r v : Nat) : stepped fs s (t.setX n r v) n (q.setX r v) := by
  simp only [State.setX, h.prog]
  exact h.setProg _

theorem trace {kind : Nat} {tail pb : Bool} {word rows data : Nat} (h : stepped fs s t n q)
    (hfs : ∀ g ∈ traceFields, g ∈ fs) : stepped fs s (t.trace kind n tail pb word rows data) n q :=
  h.report ((reported.refl t).trace hfs)

theorem wordDone (h : stepped fs s t n q) (hfs : ∀ g ∈ traceFields, g ∈ fs) (o : OpAt) (result : Nat) :
    stepped fs s (t.wordDone o result) n q :=
  h.report ((reported.refl t).wordDone hfs o result)

/-- The word is done, and control goes on to the next. -/
theorem nextWord (h : stepped fs s t o.slot q) (hfs : ∀ g ∈ traceFields, g ∈ fs) (result : Nat) :
    stepped fs s (t.nextWord o result) o.slot (q.goto (o.word + 1)) := by
  have hd := h.wordDone hfs o result
  simp only [State.nextWord, hd.prog]
  exact hd.setProg _

theorem task (h : stepped fs s t n q) (m : Nat) : t.task m = s.task m := task_congr (congrArg Work.tasks h.work) m
theorem core (h : stepped fs s t n q) (c : Nat) : t.core c = s.core c := by
  simp only [State.core, show t.mill.cores = s.mill.cores from congrArg Work.cores h.work]
theorem granary (h : stepped fs s t n q) : t.granary = s.granary := congrArg Work.granary h.work
theorem miller (h : stepped fs s t n q) : t.miller = s.miller := congrArg Work.miller h.work
theorem sched (h : stepped fs s t n q) : t.sched = s.sched := congrArg Work.sched h.work
theorem rows (h : stepped fs s t n q) : t.mill.rows = s.mill.rows := congrArg Work.rows h.work

/-- What the statements about scalar operations say. -/
theorem ran (h : stepped fs s t o.slot q) : ran s t o q :=
  ⟨h.prog, h.others, congrArg Work.cores h.work, h.rows, h.granary, h.miller, congrArg Work.tasks h.work, h.sched⟩

end stepped

/-! ### The word begins -/

theorem beginWord_stepped {s : State} {o : OpAt} {p : Prog} (h : s.issues o p) :
    (s.beginWord o p).1 = true ∧ stepped wordFields s (s.beginWord o p).2 o.slot { p with inWord := true } := by
  obtain ⟨hissuing, hecc, hinj⟩ := h
  obtain ⟨hprog, -, -⟩ := issuing_prog hissuing
  by_cases hin : p.inWord = true
  · have hb : s.beginWord o p = (true, s) := if_pos hin
    rw [hb]
    refine ⟨rfl, stepped.refl (hprog.trans ?_)⟩
    cases p
    cases hin
    rfl
  · have hb : s.beginWord o p = (true,
        let s1 := ((s.bump Ctr.MILLER_MILLER_FETCH_WORDS 1).bump Ctr.MILLER_LONG_WORDS_ISSUED 1).setProg o.slot
          { p with inWord := true }
        if p.tail then s1.bump Ctr.MILLER_TAIL_WORDS_ISSUED 1 else s1) := by
      simp [State.beginWord, hin, hecc, fetchWord_good s _ _ _ _ hinj]
    rw [hb]
    have hcount : reported wordFields s
        ((s.bump Ctr.MILLER_MILLER_FETCH_WORDS 1).bump Ctr.MILLER_LONG_WORDS_ISSUED 1) :=
      ((reported.refl s).bump (by decide) (by decide)).bump (by decide) (by decide)
    have h1 := ((stepped.refl hprog).report hcount).setProg { p with inWord := true }
    refine ⟨rfl, ?_⟩
    dsimp only
    split
    · exact h1.report ((reported.refl _).bump (by decide) (by decide))
    · exact h1

/-- The operation of an issuing program belongs to a task that runs or is stopping. -/
theorem issues_task {s : State} {o : OpAt} {p : Prog} (h : s.issues o p) :
    (s.task o.slot).st = 2 ∨ (s.task o.slot).st = 3 := by
  have hissuing := h.1
  unfold State.issuing at hissuing
  split at hissuing
  · cases hissuing
  · dsimp only at hissuing
    split at hissuing
    · next hc =>
      simp only [Bool.and_eq_true, Bool.or_eq_true, beq_iff_eq] at hc
      exact hc.1.1.1.1.1.2
    · cases hissuing

/-- A scalar operation with an effect of its own. -/
theorem control_eq {s : State} {o : OpAt} {p : Prog} (h : s.issues o p) (f : Prog → State → Nat × State) :
    s.control o f =
      (f p (s.beginWord o p).2).2.nextWord o (f p (s.beginWord o p).2).1 := by
  simp only [State.control, h.1, (beginWord_stepped h).1, Bool.not_true, Bool.false_eq_true, if_false]

/-! ### An illegal operation (R443) -/

/-- A failed task that has not ended stops with DATA_SUSPECT at its next step point (R392). -/
theorem failTask_suspect {s : State} {n : Nat} (h : (s.task n).st = 2 ∨ (s.task n).st = 3) :
    s.failTask n 8 = s.setTask n { s.task n with st := 3, stop := some (8, 0) } := by
  simp [State.failTask, h]

theorem illegalOp_eq {s : State} {n : Nat} (word : Nat) (pb : Bool) (rows : Nat)
    (h : (s.task n).st = 2 ∨ (s.task n).st = 3) : ∃ u, reported millerFields s u ∧ errUp u Err.MILL_ILLEGAL_OP ∧
      s.illegalOp n word pb rows = u.setTask n { s.task n with st := 3, stop := some (8, 0) } := by
  have hn : reported millerFields s ((s.noteWord n word pb).raise Err.MILL_ILLEGAL_OP (s.occOf n)) :=
    ((reported.refl s).noteWord n word pb).raise (by decide)
  have hup : errUp ((s.noteWord n word pb).raise Err.MILL_ILLEGAL_OP (s.occOf n)) Err.MILL_ILLEGAL_OP :=
    raise_sets _ _ _ (by decide) (by decide)
  unfold State.illegalOp State.traceFault
  generalize (s.noteWord n word pb).raise Err.MILL_ILLEGAL_OP (s.occOf n) = a at *
  have ht : reported traceFields a (a.trace 5 n (a.onTail n) pb word rows
      (Err.MILL_ILLEGAL_OP.bit + 256 * Err.MILL_ILLEGAL_OP.page)) := (reported.refl a).trace fun _ hg => hg
  have hu := hn.trans (ht.mono traceFields_miller)
  refine ⟨_, hu, ?_, ?_⟩
  · unfold errUp at hup ⊢
    rw [ht.regs _ (by decide)]
    exact hup
  · rw [failTask_suspect (by rwa [hu.task]), hu.task]

/-- The word of an illegal operation goes on to the next. -/
theorem illegalOp_nextWord {fs : List Fld} {s a : State} {o : OpAt} {p : Prog} (h : s.issues o p)
    (ha : stepped fs s a o.slot { p with inWord := true }) :
    let t := (a.illegalOp o.slot o.word o.pb o.rows).nextWord o 0
    wasIllegal s t o ∧ t.prog o.slot = some (p.goto (o.word + 1)) := by
  obtain ⟨u, hu, hup, he⟩ := illegalOp_eq (s := a) o.word o.pb o.rows (by rw [ha.task]; exact issues_task h)
  intro t
  have hprog : (u.setTask o.slot { a.task o.slot with st := 3, stop := some (8, 0) }).prog o.slot =
      some { p with inWord := true } :=
    (hu.prog o.slot).trans ha.prog
  have ht := (stepped.refl (fs := traceFields) hprog).nextWord (fun _ hg => hg) 0
  have htu : t = (u.setTask o.slot { a.task o.slot with st := 3, stop := some (8, 0) }).nextWord o 0 := by
    rw [← he]
  rw [htu]
  refine ⟨⟨?_, ?_, ?_, ?_, ?_⟩, ht.prog⟩
  · unfold errUp at hup ⊢
    rw [ht.regs _ (by decide)]
    exact hup
  · rw [ht.task, task_setTask_same]
  · exact (congrArg Work.cores ht.work).trans (hu.cores.trans (congrArg Work.cores ha.work))
  · exact ht.granary.trans (hu.granary.trans ha.granary)
  · exact ht.miller.trans (hu.miller.trans ha.miller)

end Sys2Proof.Machine
end

section
/-! ## The Miller's integer and compare operations (O43: R421, R426, R428) -/

namespace Sys2Proof.Machine

/-! ### The result of a scalar operation -/

/-- A register holds 64 bits. -/
theorem setX_mod (p : Prog) (n v : Nat) : p.setX n (v % 2 ^ 64) = p.setX n v := by
  simp only [Prog.setX, Nat.mod_mod]

theorem setX_congr (p : Prog) (n : Nat) {v w : Nat} (h : v % 2 ^ 64 = w % 2 ^ 64) : p.setX n v = p.setX n w := by
  rw [← setX_mod p n v, h, setX_mod]

/-- That its word has begun is no part of what a write of a register or a jump makes of a program. -/
theorem setX_goto_begun (p : Prog) (n v w : Nat) :
    (Prog.setX { p with inWord := true } n v).goto w = (p.setX n v).goto w := by
  unfold Prog.setX
  split <;> rfl

/-- A scalar operation leaves its result in its register, and control goes on to the next word. -/
theorem scalar_ran {s : State} {o : OpAt} {p : Prog} (h : s.issues o p) (xd : Nat) (f : Prog → Nat) :
    ran s (s.scalar o xd f) o ((p.setX xd (f p)).goto (o.word + 1)) := by
  obtain ⟨hgo, hb⟩ := beginWord_stepped h
  have ht := ((hb.mono wordFields_miller).setX xd (f p % 2 ^ 64)).nextWord traceFields_miller (f p)
  simp only [State.scalar, h.1, hgo, if_true]
  rw [setX_goto_begun, setX_mod] at ht
  exact ht.ran

/-- A command whose meaning is a scalar operation with a result that agrees with `v` modulo 2^64. -/
theorem scalar_completes {i : Instr} {s : State} {o : OpAt} {p : Prog} {xd v : Nat} {f : Prog → Nat}
    (hexec : exec i s = ok (s.scalar o xd f)) (h : s.issues o p) (hv : f p % 2 ^ 64 = v % 2 ^ 64) :
    completes i s fun t => ran s t o ((p.setX xd v).goto (o.word + 1)) := by
  refine ⟨_, hexec, ?_⟩
  rw [← setX_congr p xd hv]
  exact scalar_ran h xd f

/-! ### 64-bit arithmetic -/

theorem sx_eq_toInt (v : Nat) : sx v = (BitVec.ofNat 64 v).toInt := by
  rw [BitVec.toInt_eq_toNat_cond, BitVec.toNat_ofNat, sx, toSigned]
  split <;> split <;> omega

theorem ofSigned_toInt (b : BitVec 64) : ofSigned 64 b.toInt = b.toNat := by
  have hb := b.isLt
  rw [BitVec.toInt_eq_toNat_cond, ofSigned]
  split <;> omega

theorem toNat_sub_ofNat (a b : Nat) :
    (a + (2 ^ 64 - b % 2 ^ 64)) % 2 ^ 64 = (BitVec.ofNat 64 a - BitVec.ofNat 64 b).toNat % 2 ^ 64 := by
  rw [BitVec.toNat_sub, BitVec.toNat_ofNat, BitVec.toNat_ofNat]
  omega

theorem toNat_and_ofNat (a b : Nat) :
    (a &&& b) % 2 ^ 64 = (BitVec.ofNat 64 a &&& BitVec.ofNat 64 b).toNat % 2 ^ 64 := by
  rw [← BitVec.ofNat_and, BitVec.toNat_ofNat, Nat.mod_mod]

theorem toNat_or_ofNat (a b : Nat) :
    (a ||| b) % 2 ^ 64 = (BitVec.ofNat 64 a ||| BitVec.ofNat 64 b).toNat % 2 ^ 64 := by
  rw [← BitVec.ofNat_or, BitVec.toNat_ofNat, Nat.mod_mod]

theorem toNat_xor_ofNat (a b : Nat) :
    (a ^^^ b) % 2 ^ 64 = (BitVec.ofNat 64 a ^^^ BitVec.ofNat 64 b).toNat % 2 ^ 64 := by
  rw [← BitVec.ofNat_xor, BitVec.toNat_ofNat, Nat.mod_mod]

/-- An arithmetic shift divides the signed value and rounds down. -/
theorem ofSigned_sra (a k : Nat) :
    ofSigned 64 (sx a / 2 ^ k) = ((BitVec.ofNat 64 a).sshiftRight k).toNat := by
  rw [← ofSigned_toInt, BitVec.toInt_sshiftRight, Int.shiftRight_eq_div_pow, sx_eq_toInt]
  norm_cast

theorem b2n_decide (c : Prop) [Decidable c] : b2n (decide c) = if c then 1 else 0 := by
  simp only [b2n, decide_eq_true_eq]

theorem b2n_beq (a b : Nat) : b2n (a == b) = if a = b then 1 else 0 := by
  simp only [b2n, beq_iff_eq]

/-- Settles O43: each operation is a scalar operation, and its result agrees with the statement's modulo 2^64. -/
theorem scalarArithmetic : Obligations.ScalarArithmetic := by
  unfold Obligations.ScalarArithmetic
  refine ⟨fun o xd xa xb p s h => scalar_completes rfl h rfl,
    fun o xd xa xb p s h => scalar_completes rfl h (toNat_sub_ofNat _ _),
    fun o xd xa xb p s h => scalar_completes rfl h rfl,
    fun o xd xa xb p s h => scalar_completes rfl h (toNat_and_ofNat _ _),
    fun o xd xa xb p s h => scalar_completes rfl h (toNat_or_ofNat _ _),
    fun o xd xa xb p s h => scalar_completes rfl h (toNat_xor_ofNat _ _),
    fun o xd xa xb p s h => scalar_completes rfl h (by rw [Nat.shiftLeft_eq]),
    fun o xd xa xb p s h => scalar_completes rfl h (by rw [Nat.shiftRight_eq_div_pow]),
    fun o xd xa xb p s h => scalar_completes rfl h (by rw [ofSigned_sra]),
    fun o xd imm p s h => scalar_completes rfl h rfl,
    fun o xd xa xb p s h => scalar_completes rfl h (by rw [b2n_decide, sx_eq_toInt, sx_eq_toInt]),
    fun o xd xa xb p s h => scalar_completes rfl h (by rw [b2n_decide]),
    fun o xd xa xb p s h => scalar_completes rfl h (by rw [b2n_beq])⟩

end Sys2Proof.Machine
end

section
/-! ## Branches, loops, calls and the ends of steps (O44: R422, R423, R426, R428, R429, R431, R436, R437, R441, R443) -/

namespace Sys2Proof.Machine

/-! ### Branches -/

/-- Words beyond a taken branch are fetched and discarded: no program moves by them. -/
theorem branch_ran {s : State} {o : OpAt} {p : Prog} (h : s.issues o p) (label : Nat) (f : Prog → Bool) :
    ran s (s.branch o label f) o (p.goto (if f p = true then label else o.word + 1)) := by
  obtain ⟨hgo, hbegun⟩ := beginWord_stepped h
  have hb := hbegun.mono wordFields_miller
  simp only [State.branch, h.1, hgo, Bool.not_true, Bool.false_eq_true, if_false]
  by_cases hf : f p = true
  · have ht := (hb.wordDone traceFields_miller o 0).report ((reported.refl _).discardWords o)
    simp only [hf, Bool.not_true, Bool.false_eq_true, if_false, if_true, ht.prog]
    exact (ht.setProg _).ran
  · simp only [hf, Bool.not_false, Bool.false_eq_true, if_false, if_true]
    exact (hb.nextWord traceFields_miller 0).ran

/-- A command whose meaning is a branch on a condition that says `c`. -/
theorem branch_completes {i : Instr} {s : State} {o : OpAt} {p : Prog} {label : Nat} {f : Prog → Bool} {c : Prop}
    [Decidable c] (hexec : exec i s = ok (s.branch o label f)) (h : s.issues o p) (hc : f p = true ↔ c) :
    completes i s fun t => ran s t o (p.goto (if c then label else o.word + 1)) := by
  refine ⟨_, hexec, ?_⟩
  simp only [← hc]
  exact branch_ran h label f

theorem jmp_ran {s : State} {o : OpAt} {p : Prog} (label : Nat) (h : s.issues o p) :
    completes (.jmp o label) s fun t => ran s t o (p.goto label) := by
  simpa only [if_true] using branch_completes (c := True) (i := .jmp o label) rfl h (by simp)

/-! ### Loops and calls -/

theorem loopM_opens {s : State} {o : OpAt} {p : Prog} (xc stop : Nat) (h : s.issues o p) (hdeep : p.loops.length < 4)
    (hcount : p.xr xc % 2 ^ 32 ≠ 0) : completes (.loopM o xc stop) s fun t =>
      ran s t o ({ p with loops :=
        { left := p.xr xc % 2 ^ 32, start := o.word + 1, stop := stop, pb := o.pb } :: p.loops }.goto (o.word + 1)) := by
  obtain ⟨hgo, hb⟩ := beginWord_stepped h
  refine ⟨_, rfl, ?_⟩
  simp only [h.1, hgo, Nat.not_le.2 hdeep, hcount, Bool.not_true, Bool.false_eq_true, if_false]
  exact ((hb.mono wordFields_miller).withProg _).nextWord traceFields_miller 0 |>.ran

theorem loopM_skips {s : State} {o : OpAt} {p : Prog} (xc stop : Nat) (h : s.issues o p) (hdeep : p.loops.length < 4)
    (hcount : p.xr xc % 2 ^ 32 = 0) : completes (.loopM o xc stop) s fun t => ran s t o (p.goto stop) := by
  obtain ⟨hgo, hb⟩ := beginWord_stepped h
  refine ⟨_, rfl, ?_⟩
  simp only [h.1, hgo, Nat.not_le.2 hdeep, hcount, Bool.not_true, Bool.false_eq_true, if_false, if_true]
  exact ((hb.mono wordFields_miller).wordDone traceFields_miller o 0).withProg (fun q => q.goto stop) |>.ran

theorem loopM_illegal {s : State} {o : OpAt} {p : Prog} (xc stop : Nat) (h : s.issues o p)
    (hdeep : 4 ≤ p.loops.length) : completes (.loopM o xc stop) s fun t =>
      wasIllegal s t o ∧ t.prog o.slot = some (p.goto (o.word + 1)) := by
  obtain ⟨hgo, hb⟩ := beginWord_stepped h
  refine ⟨_, rfl, ?_⟩
  simp only [h.1, hgo, hdeep, Bool.not_true, Bool.false_eq_true, if_false, if_true]
  exact illegalOp_nextWord h hb

theorem callPb_enters {s : State} {o : OpAt} {p : Prog} (routine e : Nat) (h : s.issues o p)
    (hdeep : p.rets.length < 8) : completes (.callPb o routine (some e)) s fun t =>
      ran s t o { p with pc := e, pb := true, inWord := false, rets := (o.pb, o.word + 1) :: p.rets } := by
  obtain ⟨hgo, hb⟩ := beginWord_stepped h
  refine ⟨_, rfl, ?_⟩
  simp only [h.1, hgo, Nat.not_le.2 hdeep, Bool.not_true, Bool.false_eq_true, if_false]
  exact (((hb.mono wordFields_miller).wordDone traceFields_miller o 0).trace traceFields_miller).withProg
    (fun q => { q with pc := e, pb := true, inWord := false, rets := (o.pb, o.word + 1) :: q.rets }) |>.ran

theorem callPb_illegal {s : State} {o : OpAt} {p : Prog} (routine : Nat) (h : s.issues o p) :
    completes (.callPb o routine none) s fun t =>
      wasIllegal s t o ∧ t.prog o.slot = some (p.goto (o.word + 1)) := by
  obtain ⟨hgo, hb⟩ := beginWord_stepped h
  refine ⟨_, rfl, ?_⟩
  simp only [h.1, hgo, Bool.not_true, Bool.false_eq_true, if_false]
  exact illegalOp_nextWord h hb

theorem ret_returns {s : State} {o : OpAt} {p : Prog} {b : Bool} {w : Nat} {rest : List (Bool × Nat)}
    (h : s.issues o p) (hrets : p.rets = (b, w) :: rest) : completes (.ret o) s fun t =>
      ran s t o ({ p with pb := b, rets := rest }.goto w) := by
  obtain ⟨hgo, hb⟩ := beginWord_stepped h
  refine ⟨_, rfl, ?_⟩
  simp only [h.1, hgo, hrets, Bool.not_true, Bool.false_eq_true, if_false]
  exact ((hb.mono wordFields_miller).wordDone traceFields_miller o 0).withProg
    (fun q => { q with pb := b, rets := rest }.goto w) |>.ran

/-! ### The ends of steps -/

theorem step_ends {s : State} {o : OpAt} {p : Prog} (rows : Nat) (mode : RowMode) (hold : Bool) (h : s.issues o p) :
    completes (.step o rows mode hold) s fun t =>
      t.prog o.slot = some ({ p with nextRows := rows % 256, nextMode := mode, hold := hold, ended := some .step }.goto
        (o.word + 1)) ∧ (t.task o.slot).progress = (s.task o.slot).progress + 1 ∧ t.mill.cores = s.mill.cores := by
  obtain ⟨-, hbegun⟩ := beginWord_stepped h
  refine ⟨_, congrArg ok (control_eq h _), ?_⟩
  dsimp only
  have hb := hbegun.withProg fun q =>
    { q with nextRows := rows % 256, nextMode := mode, hold := hold, ended := some .step }
  have htask := hbegun.task o.slot
  generalize (s.beginWord o p).2.withProg o.slot _ = a at *
  rw [htask]
  have hprog := hb.prog
  have ht := (stepped.refl (fs := traceFields) (s := a.setTask o.slot
    { s.task o.slot with progress := (s.task o.slot).progress + 1 }) hprog).nextWord (fun _ hg => hg) 0
  refine ⟨ht.prog, ?_, (congrArg Work.cores ht.work).trans (congrArg Work.cores hb.work)⟩
  rw [ht.task, task_setTask_same]

theorem isDelivered_congr {s t : State} (hs : t.sched = s.sched) (ht : t.tasks = s.tasks) (n land seq : Nat) :
    t.isDelivered n land seq = s.isDelivered n land seq := by
  simp only [State.isDelivered, State.taskTag, State.tagOf, hs, task_congr ht]

/-- WAIT.L sees the deliveries as they are before its word. -/
theorem waitL_sees {fs : List Fld} {s a : State} {n : Nat} {q : Prog} (h : stepped fs s a n q) (m land seq : Nat) :
    a.isDelivered m land seq = s.isDelivered m land seq :=
  isDelivered_congr h.sched (congrArg Work.tasks h.work) m land seq

theorem waitL_goes {s : State} {o : OpAt} {p : Prog} (xland xseq : Nat) (h : s.issues o p)
    (hd : s.isDelivered o.slot (p.xr xland % 1024) (p.xr xseq % 2 ^ 24) = true) :
    completes (.waitL o xland xseq) s fun t => ran s t o (p.goto (o.word + 1)) := by
  obtain ⟨hgo, hb⟩ := beginWord_stepped h
  refine ⟨_, rfl, ?_⟩
  simp only [h.1, hgo, waitL_sees hb, hd, Bool.not_true, Bool.false_eq_true, if_false, if_true]
  exact ((hb.mono wordFields_miller).nextWord traceFields_miller 0).ran

theorem waitL_waits {s : State} {o : OpAt} {p : Prog} (xland xseq : Nat) (h : s.issues o p)
    (hd : s.isDelivered o.slot (p.xr xland % 1024) (p.xr xseq % 2 ^ 24) = false) :
    completes (.waitL o xland xseq) s fun t => ran s t o { p with inWord := true, ended := some .waitL } := by
  obtain ⟨hgo, hb⟩ := beginWord_stepped h
  refine ⟨_, rfl, ?_⟩
  simp only [h.1, hgo, waitL_sees hb, hd, Bool.not_true, Bool.false_eq_true, if_false]
  exact ((hb.mono wordFields_miller).wordDone traceFields_miller o 0).withProg
    (fun q => { q with ended := some .waitL }) |>.ran

theorem endOp_ends {s : State} {o : OpAt} {p : Prog} (xs : Nat) (h : s.issues o p) :
    completes (.endOp o xs) s fun t =>
      ran s t o ({ p with ended := some (.endOp (p.xr xs)) }.goto (o.word + 1)) := by
  obtain ⟨-, hb⟩ := beginWord_stepped h
  refine ⟨_, congrArg ok (control_eq h _), ?_⟩
  exact ((hb.mono wordFields_miller).withProg _).nextWord traceFields_miller 0 |>.ran

/-! ### Ordering -/

/-- A word that does nothing but go on. -/
theorem control_goes {s : State} {o : OpAt} {p : Prog} (h : s.issues o p) :
    ran s (s.control o fun _ a => (0, a)) o (p.goto (o.word + 1)) := by
  obtain ⟨-, hb⟩ := beginWord_stepped h
  rw [control_eq h]
  exact ((hb.mono wordFields_miller).nextWord traceFields_miller 0).ran

theorem goWait_goes {s : State} {o : OpAt} {p : Prog} (h : s.issues o p) :
    completes (.goWait o) s fun t => ran s t o (p.goto (o.word + 1)) := ⟨_, rfl, control_goes h⟩

theorem fenceG_goes {s : State} {o : OpAt} {p : Prog} (h : s.issues o p)
    (hidle : ∀ r ∈ rowsOf p.rows, (s.stream r 0).queue = [] ∧ (s.stream r 0).run = []) :
    completes (.fenceG o) s fun t => ran s t o (p.goto (o.word + 1)) := by
  have hall : (rowsOf p.rows).all (fun r => (s.stream r 0).queue.isEmpty && (s.stream r 0).run.isEmpty) = true :=
    List.all_eq_true.2 fun r hr => by rw [(hidle r hr).1, (hidle r hr).2]; rfl
  refine ⟨_, rfl, ?_⟩
  simp only [h.1, hall, if_true]
  exact control_goes h

/-- Settles O44: one lemma for each operation and way; the branches differ in their comparison. -/
theorem millerControlFlow : Obligations.MillerControlFlow := by
  unfold Obligations.MillerControlFlow
  refine ⟨fun o xa xb label p s h => branch_completes rfl h (by simp),
    fun o xa xb label p s h => branch_completes rfl h (by simp),
    fun o xa xb label p s h => branch_completes rfl h (by simp [sx_eq_toInt]),
    fun o xa xb label p s h => branch_completes rfl h (by simp [sx_eq_toInt]),
    fun o xa xb label p s h => branch_completes rfl h (by simp),
    fun o label p s h => jmp_ran label h,
    fun o xc stop p s h => loopM_opens xc stop h, fun o xc stop p s h => loopM_skips xc stop h,
    fun o xc stop p s h => loopM_illegal xc stop h, fun o routine e p s h => callPb_enters routine e h,
    fun o routine p s h => callPb_illegal routine h, fun o b w rest p s h => ret_returns h,
    fun o rows mode hold p s h => step_ends rows mode hold h, fun o xland xseq p s h => waitL_goes xland xseq h,
    fun o xland xseq p s h => waitL_waits xland xseq h, fun o xs p s h => endOp_ends xs h,
    fun o p s h => fenceG_goes h, fun o p s h => goWait_goes h⟩

end Sys2Proof.Machine
end

section
/-! ## The Miller's data memory, patches and moves (O45: R424, R426, R437 to R440, R443, R489) -/

namespace Sys2Proof.Machine

/-! ### Data memory -/

theorem ldD_reads {s : State} {o : OpAt} {p : Prog} (xd xa : Nat) (imm : Int) {addr : Nat} (h : s.issues o p)
    (haddr : p.dataAt xa imm = some addr) : completes (.ldD o xd xa imm .ok) s fun t =>
      ran s t o ((p.setX xd (ofLe (readBytes s.miller.dmem 0 addr 8))).goto (o.word + 1)) := by
  obtain ⟨-, hb⟩ := beginWord_stepped h
  have hinj : (s.beginWord o p).2.rd (Hdr.INJ_COUNT 0x60) = 0 := (hb.regs _ (by decide)).trans h.2.2
  refine ⟨_, congrArg ok (control_eq h _), ?_⟩
  simp only [haddr, dmemRead_ok _ _ _ hinj, if_true]
  have ht := ((hb.mono wordFields_miller).setX xd (ofLe (readBytes s.miller.dmem 0 addr 8))).nextWord
    traceFields_miller (ofLe (readBytes s.miller.dmem 0 addr 8))
  rw [setX_goto_begun] at ht
  exact ht.ran

theorem ldD_illegal {s : State} {o : OpAt} {p : Prog} (xd xa : Nat) (imm : Int) (ecc : EccResult) (h : s.issues o p)
    (haddr : p.dataAt xa imm = none) : completes (.ldD o xd xa imm ecc) s fun t =>
      wasIllegal s t o ∧ t.prog o.slot = some (p.goto (o.word + 1)) := by
  refine ⟨_, congrArg ok (control_eq h _), ?_⟩
  simp only [haddr]
  exact illegalOp_nextWord h (beginWord_stepped h).2

theorem stD_illegal {s : State} {o : OpAt} {p : Prog} (xa : Nat) (imm : Int) (xs : Nat) (h : s.issues o p)
    (haddr : p.dataAt xa imm = none) : completes (.stD o xa imm xs) s fun t =>
      wasIllegal s t o ∧ t.prog o.slot = some (p.goto (o.word + 1)) := by
  refine ⟨_, congrArg ok (control_eq h _), ?_⟩
  simp only [haddr]
  exact illegalOp_nextWord h (beginWord_stepped h).2

/-- A word whose operation has left a state `a` of its own goes on to the next: its program moves, and what it worked
on stays. -/
theorem nextWord_from {a : State} {o : OpAt} {q : Prog} (h : a.prog o.slot = some q) (result : Nat) :
    stepped traceFields a (a.nextWord o result) o.slot (q.goto (o.word + 1)) :=
  (stepped.refl h).nextWord (fun _ hg => hg) result

theorem stD_writes {s : State} {o : OpAt} {p : Prog} (xa : Nat) (imm : Int) (xs : Nat) {addr : Nat}
    (h : s.issues o p) (haddr : p.dataAt xa imm = some addr) : completes (.stD o xa imm xs) s fun t =>
      t.prog o.slot = some (p.goto (o.word + 1)) ∧ t.granary = s.granary ∧ t.mill.cores = s.mill.cores ∧
      t.miller.imem = s.miller.imem ∧ readBytes t.miller.dmem 0 addr 8 = leBytes 8 (p.xr xs) ∧
      ∀ b, b < addr ∨ addr + 8 ≤ b → mget t.miller.dmem b 0 = mget s.miller.dmem b 0 := by
  obtain ⟨-, hb⟩ := beginWord_stepped h
  refine ⟨_, congrArg ok (control_eq h _), ?_⟩
  simp only [haddr]
  generalize (s.beginWord o p).2 = a at hb ⊢
  have ht := nextWord_from (a := { a with miller := { a.miller with
    dmem := writeBytes a.miller.dmem 0 addr (leBytes 8 (p.xr xs)) } }) hb.prog 0
  have hread := readBytes_writeBytes s.miller.dmem 0 addr (leBytes 8 (p.xr xs))
  rw [length_leBytes] at hread
  have hmiller := ht.miller
  dsimp only at hmiller
  rw [hb.miller] at hmiller
  refine ⟨ht.prog, ht.granary.trans hb.granary, (congrArg Work.cores ht.work).trans (congrArg Work.cores hb.work), ?_,
    ?_, fun b hout => ?_⟩
  · rw [hb.miller, hmiller]
  · rw [hb.miller, hmiller]
    exact hread
  · rw [hb.miller, hmiller]
    exact mget_writeBytes_out _ _ _ _ _ _ (by rwa [length_leBytes])

/-! ### Instruction memory -/

theorem stI_patches {s : State} {o : OpAt} {p : Prog} {wi pi : Nat} (h : s.issues o p) (hwi : wi < p.words)
    (hpi : pi < p.patches.length) : completes (.stI o wi pi) s fun t =>
      t.prog o.slot = some ({ p with stale := (wi :: p.stale).eraseDups }.goto (o.word + 1)) ∧
      t.miller.dmem = s.miller.dmem ∧ mget t.miller.imem (2 ^ 20 * o.slot + wi) 0 = p.patches.getD pi 0 := by
  obtain ⟨-, hb⟩ := beginWord_stepped h
  refine ⟨_, congrArg ok (control_eq h _), ?_⟩
  simp only [hwi, hpi, and_self, if_true]
  generalize (s.beginWord o p).2 = a at hb ⊢
  have hq := (stepped.refl (fs := traceFields) (s := { a with miller := { a.miller with
    imem := mset a.miller.imem (2 ^ 20 * o.slot + wi) (p.patches.getD pi 0) 0 } }) hb.prog).withProg
      fun q => { q with stale := (wi :: q.stale).eraseDups }
  have ht := hq.nextWord (fun _ hg => hg) 0
  refine ⟨ht.prog, ?_, ?_⟩
  · rw [ht.miller, ← hb.miller]
  · rw [ht.miller]
    exact mget_mset_same _ _ _ _

theorem syncI_syncs {s : State} {o : OpAt} {p : Prog} (h : s.issues o p) : completes (.syncI o) s fun t =>
    ran s t o ({ p with stale := [] }.goto (o.word + 1)) := by
  obtain ⟨-, hb⟩ := beginWord_stepped h
  refine ⟨_, congrArg ok (control_eq h _), ?_⟩
  exact (((hb.mono wordFields_miller).withProg fun q => { q with stale := [] }).trace traceFields_miller).nextWord
    traceFields_miller 0 |>.ran

/-! ### Values read into a register -/

/-- The value of a read of the bell or of arrivals goes into its register, with a record of the read. -/
theorem readX_ran {s a : State} {o : OpAt} {p : Prog} (ha : stepped wordFields s a o.slot { p with inWord := true })
    (xd v kind : Nat) (tail : Bool) (data : Nat) :
    ran s (((a.setX o.slot xd v).trace kind o.slot tail o.pb o.word o.rows data).nextWord o v) o
      ((p.setX xd v).goto (o.word + 1)) := by
  have ht := (((ha.mono wordFields_miller).setX xd v).trace (kind := kind) (tail := tail) (pb := o.pb) (word := o.word)
    (rows := o.rows) (data := data) traceFields_miller).nextWord traceFields_miller v
  rw [setX_goto_begun] at ht
  exact ht.ran

theorem rdBell_reads {s : State} {o : OpAt} {p : Prog} (xd : Nat) (h : s.issues o p) :
    completes (.rdBell o xd) s fun t => ran s t o ((p.setX xd p.window).goto (o.word + 1)) := by
  refine ⟨_, congrArg ok (control_eq h _), ?_⟩
  exact readX_ran (beginWord_stepped h).2 xd p.window 9 p.tail 0

theorem rdArr_reads {s : State} {o : OpAt} {p : Prog} (xd : Nat) (h : s.issues o p) :
    completes (.rdArr o xd) s fun t => ran s t o ((p.setX xd (s.task o.slot).arr).goto (o.word + 1)) := by
  obtain ⟨-, hb⟩ := beginWord_stepped h
  refine ⟨_, congrArg ok (control_eq h _), ?_⟩
  rw [← hb.task o.slot]
  exact readX_ran hb xd _ 9 p.tail 1

/-- A value from the cores goes into its register where the stream that it comes from has run dry. -/
theorem toMiller_ran {s : State} {o : OpAt} {p : Prog} (h : s.issues o p) (engine xd : Nat)
    (hrows : o.rows % 256 &&& p.rows = o.rows % 256)
    (hidle : ∀ r ∈ rowsOf p.rows, s.stream r (streamOf p.mode engine) = StreamQ.blank) {f : Prog → State → Option Nat}
    {v : Nat} (hv : f p (s.beginWord o p).2 = some v) :
    ran s (s.toMiller o engine xd f) o ((p.setX xd v).goto (o.word + 1)) := by
  obtain ⟨hgo, hb⟩ := beginWord_stepped h
  have hdry : ((rowsOf p.rows).any fun r =>
      !(s.stream r (streamOf p.mode engine)).queue.isEmpty || !(s.stream r (streamOf p.mode engine)).run.isEmpty) =
        false := List.any_eq_false.2 fun r hr => by rw [hidle r hr]; decide
  simp only [State.toMiller, h.1, hrows, bne_self_eq_false, hdry, hgo, hv, Bool.not_true, Bool.false_eq_true, if_false]
  have hdraw : stepped wordFields s { (s.beginWord o p).2 with draws := (s.beginWord o p).2.draws + 1 } o.slot
      { p with inWord := true } := hb.report ((reported.refl _).upd)
  have ht := ((hdraw.mono wordFields_miller).setX xd v).nextWord traceFields_miller v
  rw [setX_goto_begun] at ht
  exact ht.ran

/-- Both modes have the vector engine's operations in stream 1. -/
theorem streamOf_vector (m : RowMode) : streamOf m 1 = 1 := by
  cases m <;> rfl

theorem mvXv_reads {s : State} {o : OpAt} {p : Prog} (xd vs lane : Nat) {core : Nat} (h : s.issues o p)
    (hrows : o.rows % 256 &&& p.rows = o.rows % 256) (hidle : ∀ r ∈ rowsOf p.rows, s.stream r 1 = StreamQ.blank)
    (hcore : core < 128) (hmine : bit p.rows (core / 16) = true) : completes (.mvXv o xd vs lane core) s fun t =>
      ran s t o ((p.setX xd (lane' 32 ((s.core core).vec core vs) (lane % 64))).goto (o.word + 1)) := by
  refine ⟨_, rfl, toMiller_ran h 1 xd hrows (by rwa [streamOf_vector]) ?_⟩
  rw [(beginWord_stepped h).2.core]
  exact if_pos ⟨hcore, hmine⟩

/-- A list of which every element is `v` has `v` alone once its repetitions are left out. -/
theorem eraseDups_all_eq {α : Type} [BEq α] [LawfulBEq α] {v : α} {l : List α} (hne : l ≠ []) (h : ∀ x ∈ l, x = v) :
    l.eraseDups = [v] := by
  cases l with
  | nil => exact absurd rfl hne
  | cons x l =>
    obtain rfl := h x List.mem_cons_self
    have hrest : l.filter (fun b => !b == x) = [] :=
      List.filter_eq_nil_iff.2 fun y hy => by simp [h y (List.mem_cons_of_mem _ hy)]
    rw [List.eraseDups_cons, hrest, List.eraseDups_nil]

theorem sCnt_counts {s : State} {o : OpAt} {p : Prog} {v : Nat} (xd : Nat) (h : s.issues o p)
    (hrows : o.rows % 256 &&& p.rows = o.rows % 256) (hsome : rowsOf o.rows ≠ [])
    (hidle : ∀ r ∈ rowsOf p.rows, s.stream r (streamOf p.mode 3) = StreamQ.blank)
    (hv : ∀ r ∈ rowsOf o.rows, ∀ c ∈ coresOf r, (s.core c).sieve.map (·.nans) = some v) :
    completes (.sCnt o xd) s fun t => ran s t o ((p.setX xd v).goto (o.word + 1)) := by
  refine ⟨_, rfl, toMiller_ran h 3 xd hrows hidle ?_⟩
  have hcores : (((rowsOf o.rows).flatMap coresOf).map
      fun c => ((s.beginWord o p).2.core c).sieve.map (·.nans)).eraseDups = [some v] := by
    obtain ⟨r, l, hl⟩ := List.exists_cons_of_ne_nil hsome
    refine eraseDups_all_eq (by rw [hl]; simp [coresOf]) fun x hx => ?_
    obtain ⟨c, hc, rfl⟩ := List.mem_map.1 hx
    obtain ⟨q, hq, hcq⟩ := List.mem_flatMap.1 hc
    rw [(beginWord_stepped h).2.core]
    exact hv q hq c hcq
  simp only [hcores]

/-! ### Configuration words -/

/-- Configuration word `n` of row `r` written with `v`. -/
def State.setCfg (s : State) (n v r : Nat) : State :=
  s.setRow r { s.rowUnit r with cfg := mput (s.rowUnit r).cfg n v }

theorem rowUnit_setRow_same (s : State) (r : Nat) (u : RowUnit) : (s.setRow r u).rowUnit r = u := mget_mput_same ..

theorem rowUnit_setRow_ne (s : State) {r q : Nat} (u : RowUnit) (h : q ≠ r) :
    (s.setRow r u).rowUnit q = s.rowUnit q := mget_mput_ne _ _ _ _ _ h

theorem setCfg_other (s : State) (n v r q : Nat) {m : Nat} (hm : m ≠ n) (d : Nat) :
    mget ((s.setCfg n v r).rowUnit q).cfg m d = mget (s.rowUnit q).cfg m d := by
  unfold State.setCfg
  by_cases hq : q = r
  · subst hq
    rw [rowUnit_setRow_same, mget_mput_ne _ _ _ _ _ hm]
  · rw [rowUnit_setRow_ne s _ hq]

/-- Every row written, or that held the value before, holds it. -/
theorem foldl_setCfg (l : List Nat) (s : State) (n v r d : Nat) (h : r ∈ l ∨ mget (s.rowUnit r).cfg n d = v) :
    mget ((l.foldl (fun (a : State) q => a.setCfg n v q) s).rowUnit r).cfg n d = v := by
  induction l generalizing s with
  | nil => exact h.resolve_left List.not_mem_nil
  | cons q l ih =>
    refine ih _ ?_
    by_cases hq : r = q
    · right
      subst hq
      simp only [State.setCfg, rowUnit_setRow_same, mget_mput_same]
    · rcases h with h | h
      · exact .inl ((List.mem_cons.1 h).resolve_left hq)
      · right
        simp only [State.setCfg, rowUnit_setRow_ne s _ hq, h]

theorem cfgL_writes {s : State} {o : OpAt} {p : Prog} {n : Nat} (xs : Nat) (h : s.issues o p)
    (hrows : o.rows % 256 &&& p.rows = o.rows % 256) (hn : n < 16) : completes (.cfgL o n xs) s fun t =>
      t.prog o.slot = some (p.goto (o.word + 1)) ∧ t.mill.cores = s.mill.cores ∧
      ∀ r ∈ rowsOf o.rows, t.cfgWord r n = p.xr xs ∧ ∀ m < 16, m ≠ n → t.cfgWord r m = s.cfgWord r m := by
  obtain ⟨-, hb⟩ := beginWord_stepped h
  refine ⟨_, congrArg ok (control_eq h _), ?_⟩
  simp only [hrows, bne_self_eq_false, Bool.false_eq_true, if_false, Nat.mod_eq_of_lt hn]
  generalize (s.beginWord o p).2 = a at hb ⊢
  have hother (r m : Nat) (hm : m ≠ n) (d : Nat) := foldl_keeps (fun u : State => mget (u.rowUnit r).cfg m d) _
    (fun u q => setCfg_other u n (p.xr xs) q r hm d) (rowsOf o.rows) a
  have hsame (r : Nat) (hr : r ∈ rowsOf o.rows) (d : Nat) := foldl_setCfg _ a n (p.xr xs) r d (.inl hr)
  have hprogs := foldl_keeps (fun u : State => u.mill.progs) _ (fun u q => show (u.setCfg n (p.xr xs) q).mill.progs = _
    from rfl) (rowsOf o.rows) a
  have hcores := foldl_keeps (fun u : State => u.mill.cores) _ (fun u q => show (u.setCfg n (p.xr xs) q).mill.cores = _
    from rfl) (rowsOf o.rows) a
  unfold State.setCfg at hother hsame hprogs hcores
  generalize (rowsOf o.rows).foldl _ a = u at *
  have hq : u.prog o.slot = some { p with inWord := true } := by rw [State.prog, hprogs]; exact hb.prog
  have ht := nextWord_from hq 0
  have hc : (u.nextWord o 0).mill.cores = s.mill.cores :=
    (congrArg Work.cores ht.work).trans (hcores.trans (congrArg Work.cores hb.work))
  have hunit (r : Nat) : (u.nextWord o 0).rowUnit r = u.rowUnit r := by rw [State.rowUnit, ht.rows]; rfl
  have hunit' (r : Nat) : a.rowUnit r = s.rowUnit r := by rw [State.rowUnit, hb.rows]; rfl
  refine ⟨ht.prog, hc, fun r hr => ⟨?_, fun m _ hm => ?_⟩⟩
  · rw [State.cfgWord, hunit]
    exact hsame r hr _
  · rw [State.cfgWord, hunit, hother r m hm, hunit', State.core, hc]
    rfl

/-- Settles O45: one lemma for each operation and way. -/
theorem millerMemoryAndMoves : Obligations.MillerMemoryAndMoves := by
  unfold Obligations.MillerMemoryAndMoves
  refine ⟨fun o xd xa imm addr p s h => ldD_reads xd xa imm h, fun o xd xa imm ecc p s h => ldD_illegal xd xa imm ecc h,
    fun o xa imm xs addr p s h => stD_writes xa imm xs h, fun o xa imm xs p s h => stD_illegal xa imm xs h,
    fun o wi pi p s h => stI_patches h, fun o p s h => syncI_syncs h, fun o xd p s h => rdBell_reads xd h,
    fun o xd p s h => rdArr_reads xd h, fun o xd vs lane core p s h => mvXv_reads xd vs lane h,
    fun o xd v p s h => sCnt_counts xd h, fun o n xs p s h => cfgL_writes xs h⟩

end Sys2Proof.Machine
end

section
/-! ## Layers: what they read and write, and COPY, REDUCE, SIEVE and SCAN (O49: R409, R415, R437, R463, R490, R498) -/

namespace Sys2Proof.Machine

/-! ### Reads and writes of a layer -/

/-- No line of the Granary is poisoned, and no error is injected into its reads. -/
structure State.clean (s : State) : Prop where
  inject : s.rd (Hdr.INJ_COUNT 0x62) = 0
  poison : ∀ l, s.poisoned l = false

/-- From `s` to `t` a layer has worked: of the registers only the fields `fs` may have changed, and programs, tasks and
poison are as they were. -/
structure layered (fs : List Fld) (s t : State) : Prop where
  regs   : regsKept s t fs
  progs  : t.mill.progs = s.mill.progs
  tasks  : t.tasks = s.tasks
  poison : t.granary.poison = s.granary.poison

namespace layered

variable {fs gs : List Fld} {s t u : State}

theorem refl (s : State) : layered fs s s := ⟨regsKept_refl s fs, rfl, rfl, rfl⟩

theorem trans (h : layered fs s t) (h' : layered fs t u) : layered fs s u :=
  ⟨regsKept_trans h.regs h'.regs, h'.progs.trans h.progs, h'.tasks.trans h.tasks, h'.poison.trans h.poison⟩

theorem mono (h : layered gs s t) (hs : ∀ g ∈ gs, g ∈ fs) : layered fs s t :=
  ⟨regsKept_mono h.regs hs, h.progs, h.tasks, h.poison⟩

theorem upd (h : layered fs s t) (hr : u.regs = t.regs := by rfl) (hp : u.mill.progs = t.mill.progs := by rfl)
    (ht : u.tasks = t.tasks := by rfl) (hg : u.granary.poison = t.granary.poison := by rfl) : layered fs s u :=
  ⟨regsKept_upd h.regs hr, hp.trans h.progs, ht.trans h.tasks, hg.trans h.poison⟩

theorem wr {f : Fld} {v : Nat} (h : layered fs s t) (hf : f ∈ fs) : layered fs s (t.wr f v) :=
  ⟨regsKept_wr f v h.regs hf, h.progs, h.tasks, h.poison⟩

theorem bump {c : Ctr} {n : Nat} (h : layered fs s t) (hc : c.fld ∈ fs) (ho : Hdr.CNT_OVF c.page ∈ fs) :
    layered fs s (t.bump c n) :=
  ⟨regsKept_bump c n h.regs hc ho, by rw [bump_mill, h.progs], by rw [bump_tasks, h.tasks],
    by rw [bump_granary, h.poison]⟩

theorem raise {e : ErrBit} {o : Occ} (h : layered fs s t) (he : ∀ g ∈ raiseFields e.page, g ∈ fs) :
    layered fs s (t.raise e o) :=
  ⟨regsKept_trans h.regs (regsKept_mono (regsKept_raise e o (regsKept_refl t _)) he), by rw [raise_mill, h.progs],
    by rw [raise_tasks, h.tasks], by rw [raise_granary, h.poison]⟩

theorem ite {c : Prop} [Decidable c] (ht : layered fs s t) (hu : layered fs s u) :
    layered fs s (if c then t else u) := by
  split
  · exact ht
  · exact hu

theorem foldl {β : Type} {g : State → β → State} {l : List β} (hg : ∀ a x, layered fs s a → layered fs s (g a x))
    (h : layered fs s t) : layered fs s (l.foldl g t) := by
  induction l generalizing t with
  | nil => exact h
  | cons x l ih => exact ih (hg t x h)

theorem poisoned (h : layered fs s t) (l : Nat) : t.poisoned l = s.poisoned l := poisoned_congr h.poison l

theorem inRegion (h : layered fs s t) (n a len : Nat) : t.inRegion n a len = s.inRegion n a len :=
  inRegion_congr h.tasks n a len

theorem clean (h : layered fs s t) (hs : s.clean)
    (hfs : ∀ g ∈ fs, (Hdr.INJ_COUNT 0x62).key ≠ g.key := by decide) : t.clean :=
  ⟨(h.regs _ hfs).trans hs.inject, fun l => (h.poisoned l).trans (hs.poison l)⟩

end layered

theorem layerRead_clean {s : State} (hc : s.clean) (n a len : Nat) :
    s.layerRead n a len .ok = (some (s.granaryBytes a len), s) := by
  simp only [State.layerRead, granaryRead_clean .mill a len _ hc.inject fun l _ => hc.poison l]

/-- The state in which a layer's write of `d` at `a` within the region has been made. -/
def State.layerStored (s : State) (a : Nat) (d : List Byte) : State :=
  State.granaryPoke { s with draws := s.draws + 1 } a d

theorem layerWrite_clean {s : State} (hc : s.clean) {n a : Nat} {d : List Byte}
    (hin : s.inRegion n a d.length = true) : s.layerWrite n a d = (true, s.layerStored a d) := by
  have hin' : State.inRegion { s with draws := s.draws + 1 } n a d.length = true := hin
  have hwrite := granaryWrite_clean (s := { s with draws := s.draws + 1 }) .mill a d
    (State.occOf { s with draws := s.draws + 1 } n) fun l _ => hc.poison l
  simp only [State.layerWrite, State.taskWrite, hin', hwrite, Bool.not_true, Bool.false_eq_true, if_false, if_true]
  rfl

theorem layerStored_layered (s : State) (a : Nat) (d : List Byte) : layered [] s (s.layerStored a d) :=
  (layered.refl s).upd

theorem layerStored_bytes (s : State) (a : Nat) (d : List Byte) :
    (s.layerStored a d).granaryBytes a d.length = d := readBytes_writeBytes ..

/-! ### GO -/

theorem stepped.clean {s a : State} {n : Nat} {q : Prog} (h : stepped wordFields s a n q)
    (hinj : s.rd (Hdr.INJ_COUNT 0x62) = 0) (hpoison : ∀ l, s.poisoned l = false) : a.clean :=
  ⟨(h.regs _ (by decide)).trans hinj, fun l => (poisoned_congr (by rw [h.granary]) l).trans (hpoison l)⟩

theorem stepped.cfgOf {fs : List Fld} {s a : State} {n : Nat} {q : Prog} (h : stepped fs s a n q) (r : Nat) :
    a.cfgOf r = s.cfgOf r :=
  List.map_congr_left fun k _ => by simp only [State.cfgWord, State.rowUnit, h.rows, h.core]

theorem stepped.inRegion {fs : List Fld} {s a : State} {n : Nat} {q : Prog} (h : stepped fs s a n q)
    (m b len : Nat) : a.inRegion m b len = s.inRegion m b len := inRegion_congr (congrArg Work.tasks h.work) m b len

theorem stepped.granaryBytes {fs : List Fld} {s a : State} {n : Nat} {q : Prog} (h : stepped fs s a n q)
    (b len : Nat) : a.granaryBytes b len = s.granaryBytes b len := granaryBytes_congr h.granary b len

theorem cfgOf_getD (s : State) (r : Nat) {k : Nat} (hk : k < 16) : (s.cfgOf r).getD k 0 = s.cfgWord r k := by
  simp [State.cfgOf, List.getD, hk]

/-- A layer on one row: its word begins, the layer runs, and the word goes on to the next. -/
theorem goLayer_eq {s : State} {o : OpAt} {p : Prog} {r : Nat} (h : s.issues o p)
    (hrows : o.rows % 256 &&& p.rows = o.rows % 256) (hone : rowsOf o.rows = [r])
    (f : State → Nat → List Nat → State) :
    s.goLayer o f = (f (s.beginWord o p).2 r (s.cfgOf r)).nextWord o 0 := by
  have hcfg := (beginWord_stepped h).2.cfgOf r
  rw [State.goLayer, control_eq h]
  simp only [hrows, bne_self_eq_false, Bool.false_eq_true, if_false, hone, List.map_cons, List.map_nil,
    List.foldl_cons, List.foldl_nil, List.any_nil, List.nil_append, hcfg]

/-- A GO on one row completes with what its layer leaves: `Q` may speak of what a layer works on, and of the registers
beside the trace's. -/
theorem goLayer_completes {i : Instr} {s : State} {o : OpAt} {p : Prog} {r : Nat}
    {f : State → Nat → List Nat → State} (hexec : exec i s = ok (s.goLayer o f)) (h : s.issues o p)
    (hrows : o.rows % 256 &&& p.rows = o.rows % 256) (hone : rowsOf o.rows = [r]) {Q : State → Prop}
    (hf : ∀ a, stepped wordFields s a o.slot { p with inWord := true } →
      (f a r (s.cfgOf r)).mill.progs = a.mill.progs ∧
        ∀ t, t.work = (f a r (s.cfgOf r)).work → regsKept (f a r (s.cfgOf r)) t traceFields → Q t) :
    completes i s fun t => t.prog o.slot = some (p.goto (o.word + 1)) ∧ Q t := by
  obtain ⟨-, hb⟩ := beginWord_stepped h
  obtain ⟨hprogs, hQ⟩ := hf _ hb
  refine ⟨_, hexec, ?_⟩
  rw [goLayer_eq h hrows hone]
  have hprog : (f (s.beginWord o p).2 r (s.cfgOf r)).prog o.slot = some { p with inWord := true } := by
    rw [State.prog, hprogs]
    exact hb.prog
  have ht := nextWord_from hprog 0
  exact ⟨ht.prog, hQ _ ht.work ht.regs⟩

/-! ### COPY (R437) -/

/-- What a byte of the Granary reads once the first `m` bytes from `src` have been copied to `dst`. -/
def copiedByte (s : State) (src dst m b : Nat) : Byte :=
  mget s.granary.mem (if dst ≤ b ∧ b < dst + m then src + (b - dst) else b) granaryDefault

/-- From `s` to `u` the first `m` bytes from `src` have been copied to `dst`. -/
structure copied (src dst m : Nat) (s u : State) : Prop extends layered [] s u where
  cores : u.mill.cores = s.mill.cores
  bytes : ∀ b, mget u.granary.mem b granaryDefault = copiedByte s src dst m b

/-- One line of a copy, of `k` bytes behind the first `m`. -/
theorem copied_line {src dst len m k : Nat} {s u : State} (h : copied src dst m s u) (hmk : m + k ≤ len)
    (hapart : src + len ≤ dst ∨ dst + len ≤ src) :
    copied src dst (m + k) s (u.layerStored (dst + m) (u.granaryBytes (src + m) k)) := by
  refine ⟨h.tolayered.trans (layerStored_layered u _ _), h.cores, fun b => ?_⟩
  have hlen : (u.granaryBytes (src + m) k).length = k := length_readBytes ..
  show mget (writeBytes u.granary.mem granaryDefault (dst + m) (u.granaryBytes (src + m) k)) b granaryDefault = _
  by_cases hin : dst + m ≤ b ∧ b < dst + m + k
  · obtain ⟨i, rfl⟩ := Nat.exists_eq_add_of_le hin.1
    have hi : i < (u.granaryBytes (src + m) k).length := by omega
    rw [mget_writeBytes_in _ _ _ _ _ hi]
    have hsrc := h.bytes (src + m + i)
    simp only [State.granaryBytes, getElem_readBytes]
    rw [hsrc, copiedByte, copiedByte, if_neg (by omega), if_pos (by omega)]
    congr 1
    omega
  · rw [mget_writeBytes_out _ _ _ _ _ _ (by omega), h.bytes b, copiedByte, copiedByte]
    congr 1
    split <;> split <;> omega

/-- Line by line, a copy within the region between ranges that do not overlap. -/
theorem copyLines_copied {s : State} (hc : s.clean) {n src dst len : Nat} (hin : s.inRegion n dst len = true)
    (hapart : src + len ≤ dst ∨ dst + len ≤ src) (k : Nat) (hk : k ≤ (len + 63) / 64) :
    ∃ u, copied src dst (min len (64 * k)) s u ∧
      (List.range k).foldl (fun (acc : Bool × State) i =>
        if !acc.1 then acc
        else
          match (acc.2.layerRead n (src + 64 * i) (min 64 (len - 64 * i)) .ok).1 with
          | some b => (acc.2.layerRead n (src + 64 * i) (min 64 (len - 64 * i)) .ok).2.layerWrite n (dst + 64 * i) b
          | none => (false, (acc.2.layerRead n (src + 64 * i) (min 64 (len - 64 * i)) .ok).2)) (true, s) = (true, u) := by
  induction k with
  | zero =>
    refine ⟨s, ⟨layered.refl s, rfl, fun b => ?_⟩, rfl⟩
    rw [copiedByte, if_neg (by omega)]
  | succ k ih =>
    obtain ⟨u, hu, hfold⟩ := ih (by omega)
    have huc : u.clean := hu.clean hc
    have hline := copied_line (k := min 64 (len - 64 * k)) hu (by omega) hapart
    have hregion : u.inRegion n (dst + 64 * k) (u.granaryBytes (src + 64 * k) (min 64 (len - 64 * k))).length = true := by
      rw [hu.inRegion, show (u.granaryBytes (src + 64 * k) (min 64 (len - 64 * k))).length = _ from length_readBytes ..]
      simp only [State.inRegion, Bool.and_eq_true, decide_eq_true_eq] at hin ⊢
      exact ⟨⟨hin.1.1, by omega⟩, by omega⟩
    rw [show min len (64 * k) = 64 * k by omega,
      show 64 * k + min 64 (len - 64 * k) = min len (64 * (k + 1)) by omega] at hline
    refine ⟨_, hline, ?_⟩
    rw [List.range_succ, List.foldl_append, hfold]
    simp only [List.foldl_cons, List.foldl_nil, Bool.not_true, Bool.false_eq_true, if_false, layerRead_clean huc,
      layerWrite_clean huc hregion]

theorem goCopy_copies {s : State} {o : OpAt} {p : Prog} {r len src dst : Nat} (h : s.issues o p)
    (hrows : o.rows % 256 &&& p.rows = o.rows % 256) (hone : rowsOf o.rows = [r])
    (hinj : s.rd (Hdr.INJ_COUNT 0x62) = 0) (hpoison : ∀ l, s.poisoned l = false) (hsrc : src = s.cfgWord r 0)
    (hdst : dst = s.cfgWord r 1) (hlen : len = s.cfgWord r 2) (hs64 : src % 64 = 0) (hd64 : dst % 64 = 0)
    (hgran : inGranary src len = true) (hin : s.inRegion o.slot dst len = true)
    (hapart : src + len ≤ dst ∨ dst + len ≤ src) : completes (.goCopy o []) s fun t =>
      t.prog o.slot = some (p.goto (o.word + 1)) ∧ t.mill.cores = s.mill.cores ∧
      t.granaryBytes dst len = s.granaryBytes src len ∧ memKeptBut s t len [dst] := by
  refine goLayer_completes rfl h hrows hone fun a ha => ?_
  obtain ⟨u, hu, hfold⟩ := copyLines_copied (ha.clean hinj hpoison) ((ha.inRegion _ _ _).trans hin) hapart
    ((len + 63) / 64) (Nat.le_refl _)
  have hlayer : a.copyLayer o.slot (s.cfgOf r) [] = u := by
    simp only [State.copyLayer, cfgOf_getD s r (show 0 < 16 by decide), cfgOf_getD s r (show 1 < 16 by decide),
      cfgOf_getD s r (show 2 < 16 by decide), ← hsrc, ← hdst, ← hlen, hs64, hd64, hgran, and_self, if_true,
      State.copyLines, List.getD_nil]
    exact congrArg Prod.snd hfold
  rw [hlayer]
  rw [show min len (64 * ((len + 63) / 64)) = len by omega] at hu
  have hbytes (t : State) (ht : t.work = u.work) (b : Nat) :
      mget t.granary.mem b granaryDefault = copiedByte s src dst len b := by
    rw [show t.granary = u.granary from congrArg Work.granary ht, hu.bytes, copiedByte, copiedByte, ha.granary]
  refine ⟨hu.progs, fun t ht _ => ⟨?_, ?_, fun b hb => ?_⟩⟩
  · exact (congrArg Work.cores ht).trans (hu.cores.trans (congrArg Work.cores ha.work))
  · refine List.ext_getElem (by simp only [State.granaryBytes, length_readBytes]) fun i hi _ => ?_
    simp only [State.granaryBytes, length_readBytes] at hi
    simp only [State.granaryBytes, getElem_readBytes, hbytes t ht, copiedByte]
    rw [if_pos (by omega), Nat.add_sub_cancel_left]
  · have hout := hb dst (List.mem_singleton.2 rfl)
    simp only [State.granaryBytes, readBytes, hbytes t ht, copiedByte]
    rw [if_neg (by omega)]

/-! ### REDUCE (R463) -/

/-- An array of elements in the Granary, as a REDUCE layer reads it. -/
def State.widened (s : State) (t : VFmt) (len e : Nat) : List Nat :=
  (elemsOf (fmtWidth t / 8) len (s.granaryBytes e (len * (fmtWidth t / 8)))).map (widen t)

theorem reduceInput_array {s : State} (hc : s.clean) (n core : Nat) {e : Nat} (t : VFmt) {len : Nat}
    (hlocal : bit e 63 = false) (h64 : e % 64 = 0) (hgran : inGranary e (len * (fmtWidth t / 8)) = true) :
    s.reduceInput n core e t len .ok = (some (some (s.widened t len e)), s) := by
  simp [State.reduceInput, hlocal, h64, hgran, layerRead_clean hc, State.widened]

/-- Two inputs of a fold, the second onto what there is. -/
def foldInto (t : VFmt) (redop : Nat) (acc : Option (List Nat)) (l : List Nat) : Option (List Nat) :=
  some (match acc with
    | none => l
    | some a => List.zipWith (combine t redop) a l)

theorem reduceInputs_arrays {s : State} (hc : s.clean) (n core redop : Nat) (t : VFmt) (len : Nat) (es : List Nat)
    (hes : ∀ e ∈ es, bit e 63 = false ∧ e % 64 = 0 ∧ inGranary e (len * (fmtWidth t / 8)) = true)
    (acc : Option (List Nat)) :
    s.reduceInputs n core redop t len (es.map fun e => (e, EccResult.ok)) acc =
      (some ((es.map (s.widened t len)).foldl (foldInto t redop) acc), s) := by
  induction es generalizing acc with
  | nil => rfl
  | cons e es ih =>
    obtain ⟨hlocal, h64, hgran⟩ := hes e List.mem_cons_self
    rw [List.map_cons, State.reduceInputs]
    simp only [reduceInput_array hc n core t hlocal h64 hgran]
    exact ih (fun e he => hes e (List.mem_cons_of_mem _ he)) _

/-- A fold that has begun goes on from what there is. -/
theorem foldl_foldInto_some (t : VFmt) (redop : Nat) (a : List Nat) (l : List (List Nat)) :
    l.foldl (foldInto t redop) (some a) = some (l.foldl (List.zipWith (combine t redop)) a) := by
  induction l generalizing a with
  | nil => rfl
  | cons x l ih => exact ih _

theorem foldl_foldInto (t : VFmt) (redop : Nat) {l : List (List Nat)} (h : l ≠ []) :
    l.foldl (foldInto t redop) none = some (l.tail.foldl (List.zipWith (combine t redop)) (l.headD [])) := by
  cases l with
  | nil => exact absurd rfl h
  | cons a l => exact foldl_foldInto_some t redop a l

theorem goReduce_folds {s : State} {o : OpAt} {p : Prog} {r num redop ti to' len dst : Nat} {ins : List (List Nat)}
    {v : List Nat} {out : List Byte} (h : s.issues o p) (hrows : o.rows % 256 &&& p.rows = o.rows % 256)
    (hone : rowsOf o.rows = [r]) (hinj : s.rd (Hdr.INJ_COUNT 0x62) = 0) (hpoison : ∀ l, s.poisoned l = false)
    (hnum : num = s.cfgWord r 2 % 16) (hredop : redop = bits (s.cfgWord r 2) 8 4)
    (hti : ti = bits (s.cfgWord r 2) 12 4) (hto : to' = bits (s.cfgWord r 2) 16 4) (hlen : len = s.cfgWord r 3)
    (hdst : dst = s.cfgWord r 0) (hn1 : 1 ≤ num) (hn8 : num ≤ 8) (hr7 : redop ≤ 7) (hti6 : ti ≤ 6) (hto6 : to' ≤ 6)
    (hd64 : dst % 64 = 0) (hgran : inGranary (s.cfgWord r 1) (8 * num) = true)
    (hes : ∀ e ∈ elemsOf 8 num (s.granaryBytes (s.cfgWord r 1) (8 * num)),
      bit e 63 = false ∧ e % 64 = 0 ∧ inGranary e (len * (fmtWidth (typeFmt ti) / 8)) = true)
    (hins : ins = (elemsOf 8 num (s.granaryBytes (s.cfgWord r 1) (8 * num))).map (s.widened (typeFmt ti) len))
    (hv : v = ins.tail.foldl (List.zipWith (combine (typeFmt ti) redop)) (ins.headD []))
    (hout : out = v.zipIdx.flatMap (fun q => leBytes (fmtWidth (typeFmt to') / 8) (outElem (typeFmt ti) (typeFmt to')
      (bit (s.cfgWord r 2) 20) (s.cfgWord r 4) (s.cfgWord r 5 + q.2) q.1)))
    (hin : s.inRegion o.slot dst out.length = true) : completes (.goReduce o []) s fun t =>
      t.prog o.slot = some (p.goto (o.word + 1)) ∧ t.granaryBytes dst out.length = out := by
  refine goLayer_completes rfl h hrows hone fun a ha => ?_
  have hc := ha.clean hinj hpoison
  have hwide : a.widened (typeFmt ti) len = s.widened (typeFmt ti) len := by
    funext e
    simp only [State.widened, ha.granaryBytes]
  have hne : ins ≠ [] := by
    rw [hins]
    refine fun he => absurd (congrArg List.length he) ?_
    simp only [elemsOf, List.length_map, List.length_range, List.length_nil]
    omega
  have hlist (b : List Byte) : (elemsOf 8 num b).zipIdx.map (fun q => (q.1, ([] : List EccResult).getD (q.2 + 1) .ok)) =
      (elemsOf 8 num b).map fun e => (e, EccResult.ok) := by
    simp only [List.getD_nil]
    rw [show (fun q : Nat × Nat => (q.1, EccResult.ok)) = (fun e => (e, EccResult.ok)) ∘ Prod.fst from rfl,
      ← List.map_map, List.zipIdx_map_fst]
  have hfold := reduceInputs_arrays hc o.slot (16 * r) redop (typeFmt ti) len _ hes none
  rw [hwide, ← hins, foldl_foldInto _ _ hne, ← hv] at hfold
  have hlayer : a.reduceLayer o.slot r (s.cfgOf r) [] = a.layerStored dst out := by
    have hlegal : ¬(num = 0 ∨ 8 < num ∨ 7 < redop ∨ 6 < ti ∨ 6 < to' ∨ dst % 64 ≠ 0 ∨
        (!inGranary (s.cfgWord r 1) (8 * num)) = true) := by
      rw [hgran]
      simp only [Bool.not_true, Bool.false_eq_true, or_false]
      omega
    simp only [State.reduceLayer, cfgOf_getD s r (show 0 < 16 by decide), cfgOf_getD s r (show 1 < 16 by decide),
      cfgOf_getD s r (show 2 < 16 by decide), cfgOf_getD s r (show 3 < 16 by decide),
      cfgOf_getD s r (show 4 < 16 by decide), cfgOf_getD s r (show 5 < 16 by decide), ← hnum, ← hredop, ← hti, ← hto,
      ← hlen, ← hdst, if_neg hlegal, List.headD_nil, layerRead_clean hc, ha.granaryBytes, hlist, hfold, ← hout,
      layerWrite_clean hc ((ha.inRegion _ _ _).trans hin)]
  rw [hlayer]
  refine ⟨rfl, fun t ht _ => ?_⟩
  rw [granaryBytes_congr (congrArg Work.granary ht), layerStored_bytes]

/-! ### SIEVE (R490) -/

/-- The register fields that a SIEVE layer counts in. -/
def sieveFields : List Fld :=
  [Ctr.SIEVE_NAN_COUNT.fld, Ctr.SIEVE_PASSES.fld, Hdr.CNT_OVF Ctr.SIEVE_PASSES.page]

theorem goSieve_ranks {s : State} {o : OpAt} {p : Prog} {r k ti m w : Nat} {l : List (Nat × Nat)} {out : List Byte}
    (h : s.issues o p) (hrows : o.rows % 256 &&& p.rows = o.rows % 256) (hone : rowsOf o.rows = [r])
    (hinj : s.rd (Hdr.INJ_COUNT 0x62) = 0) (hpoison : ∀ n, s.poisoned n = false) (hk : k = s.cfgWord r 2 % 4096 + 1)
    (hti : ti = bits (s.cfgWord r 2) 12 4) (hm : m = s.cfgWord r 1) (hm1 : 1 ≤ m) (hm4096 : m ≤ 4096) (hti6 : ti ≤ 6)
    (hmeth : bits (s.cfgWord r 2) 18 2 = 1 ∧ k ≤ 16 ∨ bits (s.cfgWord r 2) 18 2 = 2) (hd64 : s.cfgWord r 5 % 64 = 0)
    (hw : w = fmtWidth (typeFmt ti) / 8) (hgran : inGranary (s.cfgWord r 0) (m * w) = true)
    (hl : l = (partialList (isInt (typeFmt ti)) (bit (s.cfgWord r 2) 16) (bit (s.cfgWord r 2) 17) k
      (pieceKeys (typeFmt ti) (s.cfgWord r 3 % 2 ^ 40) (elemsOf w m (s.granaryBytes (s.cfgWord r 0) (m * w))))).1)
    (hout : out = l.flatMap (fun x =>
      listEntry (s.cfgWord r 4 % 65536) (nanFlag (isInt (typeFmt ti)) x.1) x) ++ leBytes 16 0)
    (hin : s.inRegion o.slot (s.cfgWord r 5) out.length = true) : completes (.goSieve o []) s fun t =>
      t.prog o.slot = some (p.goto (o.word + 1)) ∧ t.granaryBytes (s.cfgWord r 5) out.length = out ∧
      t.rd Ctr.SIEVE_ELEMENTS_SCANNED.fld = (s.rd Ctr.SIEVE_ELEMENTS_SCANNED.fld + m) % 2 ^ 64 := by
  refine goLayer_completes rfl h hrows hone fun a ha => ?_
  have hc := ha.clean hinj hpoison
  have hlayer : ∃ u, layered sieveFields (a.bump Ctr.SIEVE_ELEMENTS_SCANNED m) u ∧
      a.sieveLayer o.slot (s.cfgOf r) .ok = u.layerStored (s.cfgWord r 5) out := by
    have hlegal : ¬(m = 0 ∨ 4096 < m ∨ 6 < ti ∨ bits (s.cfgWord r 2) 18 2 = 0 ∨ bits (s.cfgWord r 2) 18 2 = 3 ∨
        (bits (s.cfgWord r 2) 18 2 = 1 ∧ 16 < k) ∨ s.cfgWord r 5 % 64 ≠ 0 ∨
        (!inGranary (s.cfgWord r 0) (m * w)) = true) := by
      rw [hgran]
      simp only [Bool.not_true, Bool.false_eq_true, or_false]
      omega
    simp only [State.sieveLayer, cfgOf_getD s r (show 0 < 16 by decide), cfgOf_getD s r (show 1 < 16 by decide),
      cfgOf_getD s r (show 2 < 16 by decide), cfgOf_getD s r (show 3 < 16 by decide),
      cfgOf_getD s r (show 4 < 16 by decide), cfgOf_getD s r (show 5 < 16 by decide), ← hk, ← hti, ← hm, ← hw,
      if_neg hlegal, layerRead_clean hc, ha.granaryBytes, ← hl, ← hout]
    generalize (partialList (isInt (typeFmt ti)) (bit (s.cfgWord r 2) 16) (bit (s.cfgWord r 2) 17) k
      (pieceKeys (typeFmt ti) (s.cfgWord r 3 % 2 ^ 40) (elemsOf w m (s.granaryBytes (s.cfgWord r 0) (m * w))))).2 = nans
    have h1 : layered sieveFields (a.bump Ctr.SIEVE_ELEMENTS_SCANNED m)
        ((a.bump Ctr.SIEVE_ELEMENTS_SCANNED m).bump Ctr.SIEVE_NAN_COUNT nans) :=
      (layered.refl _).bump (by decide) (by decide)
    have h2 := (h1.bump (c := Ctr.SIEVE_PASSES) (n := passesFor l.length) (by decide) (by decide)).ite
      (c := bits (s.cfgWord r 2) 18 2 = 2) h1
    have hcount : layered [Ctr.SIEVE_ELEMENTS_SCANNED.fld, Hdr.CNT_OVF Ctr.SIEVE_ELEMENTS_SCANNED.page] a
        (a.bump Ctr.SIEVE_ELEMENTS_SCANNED m) := (layered.refl a).bump (by simp) (by simp)
    refine ⟨_, h2, ?_⟩
    rw [layerWrite_clean (h2.clean (hcount.clean hc))
      ((h2.inRegion _ _ _).trans ((hcount.inRegion _ _ _).trans ((ha.inRegion _ _ _).trans hin)))]
  obtain ⟨u, hu, hlayer⟩ := hlayer
  rw [List.headD_nil, hlayer]
  refine ⟨hu.progs.trans (by rw [bump_mill]), fun t ht hregs => ⟨?_, ?_⟩⟩
  · rw [granaryBytes_congr (congrArg Work.granary ht), layerStored_bytes]
  · rw [hregs _ (by decide), show (u.layerStored (s.cfgWord r 5) out).rd Ctr.SIEVE_ELEMENTS_SCANNED.fld = u.rd _ from rfl,
      hu.regs _ (by decide), rd_bump_same _ _ _ (by decide), ha.regs _ (by decide)]

/-! ### SCAN (R498) -/

theorem loomPut_layered (s : State) (mask n base e v : Nat) : layered [] s (s.loomPut mask n base e v) :=
  (layered.refl s).upd

theorem loomGet_congr {s t : State} (h : t.mill.cores = s.mill.cores) (mask n base e : Nat) :
    t.loomGet mask n base e = s.loomGet mask n base e := by
  simp only [State.loomGet, State.core, h]

theorem loomPut_cores {s t : State} (h : t.mill.cores = s.mill.cores) (mask n base e v : Nat) :
    (t.loomPut mask n base e v).mill.cores = (s.loomPut mask n base e v).mill.cores := by
  simp only [State.loomPut, State.setCore, State.core, h]

theorem stateRecord_layered (s : State) (mask rows width : Nat) (x : List (Nat × Nat) × Nat) :
    layered [] s (s.stateRecord mask rows width x) :=
  (layered.refl s).foldl fun _ _ ha => ha.trans (loomPut_layered ..)

/-- A fold of steps that make the same cores of the same cores. -/
theorem foldl_cores {β : Type} (g : State → β → State)
    (hg : ∀ {a b : State} x, b.mill.cores = a.mill.cores → (g b x).mill.cores = (g a x).mill.cores) (l : List β)
    {s t : State} (h : t.mill.cores = s.mill.cores) : (l.foldl g t).mill.cores = (l.foldl g s).mill.cores := by
  induction l generalizing s t with
  | nil => exact h
  | cons x l ih => exact ih (hg x h)

theorem stateRecord_cores {s t : State} (h : t.mill.cores = s.mill.cores) (mask rows width : Nat)
    (x : List (Nat × Nat) × Nat) :
    (t.stateRecord mask rows width x).mill.cores = (s.stateRecord mask rows width x).mill.cores :=
  foldl_cores _ (fun q hab => by rw [loomGet_congr hab]; exact loomPut_cores hab ..) _ h

theorem loomAll_congr {s t : State} (h : t.mill.cores = s.mill.cores) (mask n base : Nat) :
    t.loomAll mask n base = s.loomAll mask n base := by
  simp only [State.loomAll, funext (loomGet_congr h mask n base)]

/-- A word that has begun leaves what other tasks hold. -/
theorem stepped.heldByOther {s a : State} {m : Nat} {q : Prog} (h : stepped wordFields s a m q) (n : Nat) {r : Nat}
    (hr : r < 8) : a.heldByOther n r = s.heldByOther n r := by
  have hv := h.regs (Reg.MILL_ACC_HELD_VALID r) ((by decide : ∀ r < 8, ∀ g ∈ wordFields,
    (Reg.MILL_ACC_HELD_VALID r).key ≠ g.key) r hr)
  have hs := h.regs (Reg.MILL_ACC_HELD_SLOT r) ((by decide : ∀ r < 8, ∀ g ∈ wordFields,
    (Reg.MILL_ACC_HELD_SLOT r).key ≠ g.key) r hr)
  simp only [State.heldByOther, State.is, hv, hs]

theorem rowsOf_single_lt {mask r : Nat} (h : rowsOf mask = [r]) : r < 8 :=
  (mem_rowsOf.1 (h ▸ List.mem_singleton.2 rfl : r ∈ rowsOf mask)).1

theorem goScan_passes {s : State} {o : OpAt} {p : Prog} {r : Nat} {c : ScanCfg} {out : List Byte} (h : s.issues o p)
    (hrows : o.rows % 256 &&& p.rows = o.rows % 256) (hone : rowsOf o.rows = [r])
    (hinj : s.rd (Hdr.INJ_COUNT 0x62) = 0) (hpoison : ∀ n, s.poisoned n = false)
    (hheld : s.heldByOther o.slot r = false) (hcfg : c = Config.scanCfg (s.cfgOf r)) (hpass : c.summary = false)
    (hsteps : c.steps = 1) (htin : c.tin ≤ 2) (htout : c.tout ≤ 2)
    (hgran : inGranary c.src (recordBytes c.rows c.width c.tin c.reset) = true)
    (hout : out = stateBytes c.tout ((s.stateRecord (2 ^ r) c.rows c.width (parseRecord c.rows c.width c.tin c.reset
      (s.granaryBytes c.src (recordBytes c.rows c.width c.tin c.reset)))).loomAll (2 ^ r) (c.rows * c.width) 0))
    (hin : s.inRegion o.slot c.dst out.length = true) : completes (.goScan o []) s fun t =>
      t.prog o.slot = some (p.goto (o.word + 1)) ∧ t.granaryBytes c.dst out.length = out := by
  refine goLayer_completes rfl h hrows hone fun a ha => ?_
  have hc := ha.clean hinj hpoison
  have hheld' := (ha.heldByOther o.slot (rowsOf_single_lt hone)).trans hheld
  have hcores : a.mill.cores = s.mill.cores := congrArg Work.cores ha.work
  generalize hx : parseRecord c.rows c.width c.tin c.reset
    (s.granaryBytes c.src (recordBytes c.rows c.width c.tin c.reset)) = x at hout
  have hu := stateRecord_layered a (2 ^ r) c.rows c.width x
  have hlayer : a.scanLayer o.slot r (s.cfgOf r) [] =
      (a.stateRecord (2 ^ r) c.rows c.width x).layerStored c.dst out := by
    have htypes : ¬(2 < c.tin) ∧ ¬(2 < c.tout) := ⟨by omega, by omega⟩
    simp only [State.scanLayer, ← hcfg, hsteps, hpass, Nat.one_mul, hgran, htypes.1, htypes.2, decide_false,
      Bool.not_true, Bool.or_self, Bool.false_eq_true, if_false, List.range_one, List.foldl_cons, List.foldl_nil,
      Nat.zero_mul, Nat.add_zero, List.getD_nil, layerRead_clean hc, ha.granaryBytes, hx,
      loomAll_congr (stateRecord_cores hcores _ _ _ _), ← hout,
      layerWrite_clean (hu.clean hc) ((hu.inRegion _ _ _).trans ((ha.inRegion _ _ _).trans hin))]
  simp only [hheld', Bool.false_eq_true, if_false, hlayer]
  refine ⟨hu.progs, fun t ht _ => ?_⟩
  rw [granaryBytes_congr (congrArg Work.granary ht), layerStored_bytes]

end Sys2Proof.Machine
end

section
/-! ## PIPE layers, and the layers of descriptor mode (O49: R437, R508, R509) -/

namespace Sys2Proof.Machine

/-! ### Curve evaluations -/

/-- The register fields beside the count of curve evaluations that a PIPE layer's steps may change. -/
def loomFields : List Fld :=
  [Reg.LOOM_LAST_VALID, Reg.LOOM_LAST_KIND, Reg.LOOM_LAST_SLOT, Hdr.CNT_OVF 0x64] ++ raiseFields 0x64

/-- From `s` to `t` a layer has worked and evaluated curves `k` times. -/
structure evals (k : Nat) (s t : State) : Prop extends layered (Ctr.LOOM_PWL_EVALS.fld :: loomFields) s t where
  count : t.rd Ctr.LOOM_PWL_EVALS.fld = (s.rd Ctr.LOOM_PWL_EVALS.fld + k) % 2 ^ 64

namespace evals

variable {j k : Nat} {s t u : State}

theorem of_layered (h : layered loomFields s t) : evals 0 s t :=
  ⟨h.mono fun _ hg => List.mem_cons_of_mem _ hg, by
    rw [h.regs _ (by decide), Nat.add_zero]
    exact (Nat.mod_eq_of_lt (rd_lt s Ctr.LOOM_PWL_EVALS.fld)).symm⟩

theorem trans (h : evals j s t) (h' : evals k t u) : evals (j + k) s u :=
  ⟨h.tolayered.trans h'.tolayered, by rw [h'.count, h.count, Nat.mod_add_mod, Nat.add_assoc]⟩

theorem trans_layered (h : evals k s t) (h' : layered loomFields t u) : evals k s u := h.trans (of_layered h')

theorem stored (h : evals k s t) (a : Nat) (d : List Byte) : evals k s (t.layerStored a d) :=
  h.trans_layered ((layerStored_layered t a d).mono fun _ hg => absurd hg List.not_mem_nil)

theorem bump (s : State) (k : Nat) : evals k s (s.bump Ctr.LOOM_PWL_EVALS k) :=
  ⟨(layered.refl s).bump (by decide) (by decide), rd_bump_same _ _ _ (by decide)⟩

end evals

theorem pwlBad_layered (s : State) (n : Nat) : layered loomFields s (s.pwlBad n) :=
  ((((layered.refl s).wr (by decide)).wr (by decide)).wr (by decide)).raise (by decide)

/-- What holds at the start of a fold over `List.range n` and is passed on by every step holds at its end. -/
theorem foldl_range_induct {α : Type} {g : α → Nat → α} (P : Nat → α → Prop) {n : Nat} {a : α} (h0 : P 0 a)
    (hstep : ∀ k < n, ∀ x, P k x → P (k + 1) (g x k)) : P n ((List.range n).foldl g a) := by
  induction n with
  | zero => exact h0
  | succ n ih =>
    rw [List.range_succ, List.foldl_append]
    exact hstep n (Nat.lt_succ_self n) _ (ih fun k hk => hstep k (Nat.lt_succ_of_lt hk))

/-! ### One step of a layer (R509) -/

/-- The batch rows of a step before row `k` have been worked, in a state that began as `s`. -/
def rowsWorked (s : State) (width k : Nat) (x : List Nat × State) : Prop := x.1.length = k * width ∧ layered [] s x.2

theorem length_pipeRow (tf tc to' ty : List Nat) (w : List (List Nat)) (bias : List Nat) (width : Nat)
    (wide ss : List Nat) : (pipeRow tf tc to' ty w bias width wide ss).length = width := by
  simp only [pipeRow, List.length_map, List.length_range]

theorem pipeStep_evals (s : State) (n row rows width : Nat) (l : PipeLayer) (w : List (List Nat)) (bias : List Nat)
    (inp : Nat) (x ys : List Nat) (m : Nat) :
    (s.pipeStep n row rows width l w bias inp x ys m).1.length = rows * width ∧
      evals (4 * (rows * width)) s (s.pipeStep n row rows width l w bias inp x ys m).2 := by
  unfold State.pipeStep
  extract_lets bank tf tc to' ty mask nn s0
  have h0 : evals (4 * nn) s (s0.bump Ctr.LOOM_PWL_EVALS (4 * nn)) := by
    have h : layered loomFields s s0 := (layered.refl s).ite (pwlBad_layered s n)
    simpa only [Nat.zero_add] using (evals.of_layered h).trans (evals.bump s0 (4 * nn))
  generalize s0.bump Ctr.LOOM_PWL_EVALS (4 * nn) = a at h0
  have hrows := foldl_range_induct (n := rows) (rowsWorked a width) (a := ([], a))
    (g := fun (acc : List Nat × State) r =>
      let reset := bit m r
      let y := if reset then List.replicate width 0 else (ys.drop (r * width)).take width
      let ss := (List.range width).map (fun i => if reset then 0 else acc.2.loomGet mask nn 0 (r * width + i))
      let out := pipeRow tf tc to' ty w bias width ((x.drop (r * inp)).take inp ++ y) ss
      (acc.1 ++ out.map (·.2),
        out.zipIdx.foldl (fun (a : State) q => a.loomPut mask nn 0 (r * width + q.2) q.1.1) acc.2))
    ⟨by simp, layered.refl a⟩ fun k _ acc hacc => ⟨by
      rw [List.length_append, List.length_map, length_pipeRow, hacc.1, Nat.succ_mul],
      hacc.2.foldl fun _ _ h => h.trans (loomPut_layered ..)⟩
  exact ⟨hrows.1, h0.trans_layered (hrows.2.mono fun _ hg => absurd hg List.not_mem_nil)⟩

/-! ### The steps of a block (R508 to R510) -/

/-- BUF of a PIPE block lies in the region of task `n`, vector by vector of `nn` elements in BF16. -/
def bufInRegion (s : State) (n : Nat) (b : PipeBlock) (nn : Nat) : Prop :=
  ∀ k < (2 * b.blk + 1) * b.g, s.inRegion n (b.buf + 2 * nn * k) (2 * nn) = true

theorem good_bufInRegion {s : State} {n : Nat} {b : PipeBlock} {rows width mask : Nat} (hrows : 1 ≤ rows)
    (h : b.good rows width mask (descRegion (s.task n).desc) (descRegionSize (s.task n).desc) = true) :
    bufInRegion s n b (rows * width) := by
  simp only [PipeBlock.good, Bool.and_eq_true, decide_eq_true_eq] at h
  obtain ⟨⟨⟨⟨⟨⟨-, hwidth⟩, -⟩, -⟩, hbase⟩, hend⟩, -⟩ := h
  intro k hk
  have hpos : 0 < rows * width := Nat.mul_pos hrows (by omega)
  have hfit : 2 * (rows * width) * (k + 1) ≤ (2 * b.blk + 1) * b.g * rows * width * 2 := by
    calc 2 * (rows * width) * (k + 1) ≤ 2 * (rows * width) * ((2 * b.blk + 1) * b.g) := Nat.mul_le_mul_left _ hk
      _ = (2 * b.blk + 1) * b.g * rows * width * 2 := by ring
  rw [Nat.mul_succ] at hfit
  simp only [State.inRegion, Bool.and_eq_true, decide_eq_true_eq, bne_iff_ne]
  generalize rows * width = nn at *
  omega

theorem outAt_inRegion {s : State} {n nn : Nat} {b : PipeBlock} (h : bufInRegion s n b nn) {half g i : Nat}
    (hhalf : half < 2) (hg : g < b.g) (hi : i < b.blk) : s.inRegion n (b.outAt nn half g i) (2 * nn) = true := by
  refine h _ ?_
  calc (half * b.g + g) * b.blk + i < (half * b.g + g) * b.blk + b.blk := Nat.add_lt_add_left hi _
    _ = (half * b.g + g + 1) * b.blk := (Nat.succ_mul _ _).symm
    _ ≤ (2 * b.g) * b.blk := Nat.mul_le_mul_right _ (by
        rcases Nat.le_one_iff_eq_zero_or_eq_one.1 (Nat.le_of_lt_succ hhalf) with rfl | rfl <;> omega)
    _ ≤ (2 * b.g) * b.blk + b.g := Nat.le_add_right _ _
    _ = (2 * b.blk + 1) * b.g := by ring

theorem yAt_inRegion {s : State} {n nn : Nat} {b : PipeBlock} (h : bufInRegion s n b nn) {g : Nat} (hg : g < b.g) :
    s.inRegion n (b.yAt nn g) (2 * nn) = true :=
  h _ (by rw [Nat.succ_mul (2 * b.blk)]; exact Nat.add_lt_add_left hg _)

theorem length_flatMap_leBytes (l : List Nat) : (l.flatMap (leBytes 2)).length = 2 * l.length := by
  induction l with
  | nil => rfl
  | cons v l ih => rw [List.flatMap_cons, List.length_append, ih, length_leBytes, List.length_cons]; omega

theorem pipeWeights_clean {s : State} (hc : s.clean) (n cols width : Nat) (l : PipeLayer) :
    ∃ w, s.pipeWeights n cols width l .ok = (some w, s) := by
  simp only [State.pipeWeights, layerRead_clean hc]
  exact ⟨_, rfl⟩

/-- The first `k` steps of a layer have been made, from `s` on. -/
def stepsMade (s : State) (nn k : Nat) (x : Option (List (List Nat) × List Nat) × State) : Prop :=
  ∃ outs ys, x.1 = some (outs, ys) ∧ ys.length = nn ∧ evals (4 * nn * k) s x.2

/-- A vector of BF16 values in BUF is written. -/
theorem vector_written {s t : State} {k n nn a : Nat} {ys : List Nat} (hc : s.clean) (h : evals k s t)
    (hin : s.inRegion n a (2 * nn) = true) (hys : ys.length = nn) :
    t.layerWrite n a (ys.flatMap (leBytes 2)) = (true, t.layerStored a (ys.flatMap (leBytes 2))) :=
  layerWrite_clean (h.clean hc) (by rw [h.inRegion, length_flatMap_leBytes, hys, hin])

theorem pipeRun_evals {s : State} {n g rows width count : Nat} {b : PipeBlock} (hc : s.clean)
    (hbuf : bufInRegion s n b (rows * width)) (hg : g < b.g) (hcount : count ≤ b.blk) (row first : Nat)
    (xs : List (List Nat × Nat)) : ∃ outs u, s.pipeRun n row b g rows width first count xs .ok = (some outs, u) ∧
      evals (4 * (rows * width) * count) s u := by
  unfold State.pipeRun
  extract_lets nn inp l half wr y0
  obtain ⟨w, hw⟩ := pipeWeights_clean hc n (inp + width) width l
  have hwr : wr = (some w, s) := hw
  have hy0 : ∃ yb, y0 = (some yb, s) := by
    unfold y0
    rw [hwr]
    split
    · exact ⟨_, rfl⟩
    · exact ⟨_, layerRead_clean hc ..⟩
  obtain ⟨yb, hy0⟩ := hy0
  rw [hwr, hy0]
  dsimp only
  generalize hr : List.foldl _ _ (List.range count) = r
  have hsteps : stepsMade s nn count r := by
    rw [← hr]
    refine foldl_range_induct (stepsMade s nn) ⟨[], _, rfl, by simp [elemsOf], evals.of_layered (layered.refl s)⟩ ?_
    rintro k hk ⟨_, t⟩ ⟨outs, ys, rfl, -, ht⟩
    dsimp only
    have hq : ∃ x, (if g = 0 then (some (xs.getD k ([], 0)).1, t)
        else ((t.layerRead n (b.outAt nn (1 - half) (g - 1) k) (2 * nn) .ok).1.map (elemsOf 2 nn),
          (t.layerRead n (b.outAt nn (1 - half) (g - 1) k) (2 * nn) .ok).2)) = (some x, t) := by
      rw [layerRead_clean (ht.clean hc)]
      split
      · exact ⟨_, rfl⟩
      · exact ⟨_, rfl⟩
    obtain ⟨x, hq⟩ := hq
    rw [hq]
    dsimp only
    obtain ⟨hlen, hstep⟩ := pipeStep_evals t n row rows width l w.1 w.2 inp x ys (xs.getD k ([], 0)).2
    have hwrite := vector_written hc (ht.trans hstep) (outAt_inRegion hbuf (half := half) (Nat.mod_lt _ (by decide)) hg
      (Nat.lt_of_lt_of_le hk hcount)) ((List.length_map toBf16).trans hlen)
    rw [hwrite]
    exact ⟨_, _, rfl, (List.length_map toBf16).trans hlen, (ht.trans hstep).stored _ _⟩
  obtain ⟨outs, ys, hr1, hys, hu⟩ := hsteps
  rw [hr1]
  dsimp only
  rw [vector_written hc hu (yAt_inRegion hbuf hg) hys]
  exact ⟨_, _, rfl, hu.stored _ _⟩

/-! ### GO PIPE -/

/-- A task that is stopped with DATA_SUSPECT: the registers and the programs are as they were. -/
theorem failTask_suspect_leaves (s : State) (n : Nat) :
    (s.failTask n 8).mill = s.mill ∧ (s.failTask n 8).regs = s.regs := by
  simp only [State.failTask, show ¬(8 : Nat) = 9 by decide, false_and, and_false, if_false]
  split
  · exact ⟨rfl, rfl⟩
  · exact ⟨rfl, rfl⟩

theorem regionViolation_leaves (s : State) (n core a : Nat) :
    (s.regionViolation n core a).mill = s.mill ∧
      (s.regionViolation n core a).rd Ctr.LOOM_PWL_EVALS.fld = s.rd Ctr.LOOM_PWL_EVALS.fld := by
  unfold State.regionViolation
  extract_lets s1
  generalize ho : s.occOf n = o
  obtain ⟨hmill, hr⟩ := failTask_suspect_leaves ((s1.bump Ctr.MILL_REGION_VIOLATIONS 1).raise Err.MILL_REGION_VIOLATION o) n
  constructor
  · rw [hmill, raise_mill, bump_mill]
    rfl
  · rw [rd_congr hr, rd_raise_ne _ _ _ _ (by decide), rd_bump_ne _ _ _ _ (by decide) (by decide)]
    unfold s1
    rw [rd_wr_ne _ _ _ _ (by decide), rd_wr_ne _ _ _ _ (by decide), rd_wr_ne _ _ _ _ (by decide),
      rd_wr_ne _ _ _ _ (by decide)]

/-- What a write of the last layer leaves, whether or not it lies in the region: programs and curve evaluations. -/
theorem layerWrite_evals (s : State) (hc : s.clean) (n a : Nat) (d : List Byte) :
    (s.layerWrite n a d).2.mill.progs = s.mill.progs ∧
      (s.layerWrite n a d).2.rd Ctr.LOOM_PWL_EVALS.fld = s.rd Ctr.LOOM_PWL_EVALS.fld := by
  cases hin : s.inRegion n a d.length with
  | true => rw [layerWrite_clean hc hin]; exact ⟨rfl, rfl⟩
  | false =>
    have hin' : State.inRegion { s with draws := s.draws + 1 } n a d.length = false := hin
    simp only [State.layerWrite, State.taskWrite, hin', Bool.not_false, if_true]
    obtain ⟨hmill, hrd⟩ := regionViolation_leaves { s with draws := s.draws + 1 } n (Config.freeCore s.draws % 128) a
    exact ⟨congrArg MillState.progs hmill, hrd⟩

theorem goPipe_counts {s : State} {o : OpAt} {p : Prog} {r : Nat} {c : PipeCfg} {b : PipeBlock} (h : s.issues o p)
    (hrows : o.rows % 256 &&& p.rows = o.rows % 256) (hone : rowsOf o.rows = [r])
    (hinj : s.rd (Hdr.INJ_COUNT 0x62) = 0) (hpoison : ∀ n, s.poisoned n = false)
    (hheld : s.heldByOther o.slot r = false) (hcfg : c = Config.pipeCfg (s.cfgOf r))
    (hblock : b = parsePipe (s.granaryBytes c.block 320))
    (hgood : b.good c.rows c.width (2 ^ b.g - 1) (descRegion (s.task o.slot).desc)
      (descRegionSize (s.task o.slot).desc) = true)
    (hlayer : c.layer < b.g) (hsteps : c.steps ≤ b.blk) (htin : c.tin ≤ 2) (htout : c.tout ≤ 2) (hrow : 1 ≤ c.rows)
    (hgran : inGranary (b.x + c.first * pipeXBytes c.rows b.inp c.tin c.reset)
      (c.steps * pipeXBytes c.rows b.inp c.tin c.reset) = true) : completes (.goPipe o []) s fun t =>
      t.prog o.slot = some (p.goto (o.word + 1)) ∧
        t.rd Ctr.LOOM_PWL_EVALS.fld = (s.rd Ctr.LOOM_PWL_EVALS.fld + 4 * (c.rows * c.width) * c.steps) % 2 ^ 64 := by
  refine goLayer_completes rfl h hrows hone fun a ha => ?_
  have hc := ha.clean hinj hpoison
  have hheld' := (ha.heldByOther o.slot (rowsOf_single_lt hone)).trans hheld
  have htask : a.task o.slot = s.task o.slot := task_congr (congrArg Work.tasks ha.work) _
  have hbuf : bufInRegion a o.slot b (c.rows * c.width) := good_bufInRegion (by exact hrow) (by rw [htask]; exact hgood)
  have hcount (t : State) (ht : regsKept (a.pipeLayer o.slot r (s.cfgOf r) []) t traceFields)
      (hw : (a.pipeLayer o.slot r (s.cfgOf r) []).rd Ctr.LOOM_PWL_EVALS.fld =
        (a.rd Ctr.LOOM_PWL_EVALS.fld + 4 * (c.rows * c.width) * c.steps) % 2 ^ 64) :
      t.rd Ctr.LOOM_PWL_EVALS.fld = (s.rd Ctr.LOOM_PWL_EVALS.fld + 4 * (c.rows * c.width) * c.steps) % 2 ^ 64 := by
    rw [ht _ (by decide), hw, ha.regs _ (by decide)]
  have hrun : (a.pipeLayer o.slot r (s.cfgOf r) []).mill.progs = a.mill.progs ∧
      (a.pipeLayer o.slot r (s.cfgOf r) []).rd Ctr.LOOM_PWL_EVALS.fld =
        (a.rd Ctr.LOOM_PWL_EVALS.fld + 4 * (c.rows * c.width) * c.steps) % 2 ^ 64 := by
    unfold State.pipeLayer
    have hlegal : (!b.good c.rows c.width (2 ^ b.g - 1) (descRegion (s.task o.slot).desc)
        (descRegionSize (s.task o.slot).desc) || decide (b.g ≤ c.layer) || decide (b.blk < c.steps) ||
        decide (2 < c.tin) || decide (2 < c.tout) || ((c.layer == 0 || c.reset) &&
          !inGranary (b.x + c.first * pipeXBytes c.rows b.inp c.tin c.reset)
            (c.steps * pipeXBytes c.rows b.inp c.tin c.reset))) = false := by
      rw [hgood, hgran]
      simp only [Bool.not_true, Bool.and_false, Bool.or_false, Bool.false_or, Bool.or_eq_false_iff,
        decide_eq_false_iff_not]
      omega
    simp only [← hcfg, List.headD_nil, List.getD_nil, layerRead_clean hc, ha.granaryBytes, ← hblock, htask, hlegal,
      Bool.false_eq_true, if_false]
    have hx : ∃ xb, (if c.layer = 0 ∨ c.reset = true then
        (some (s.granaryBytes (b.x + c.first * pipeXBytes c.rows b.inp c.tin c.reset)
          (c.steps * pipeXBytes c.rows b.inp c.tin c.reset)), a) else (some [], a)) = (some xb, a) := by
      split
      · exact ⟨_, rfl⟩
      · exact ⟨_, rfl⟩
    obtain ⟨xb, hx⟩ := hx
    rw [hx]
    dsimp only
    obtain ⟨outs, u, hpipe, hu⟩ := pipeRun_evals hc hbuf hlayer hsteps r c.first
      (pipeX c.rows b.inp c.tin c.reset c.steps xb)
    rw [hpipe]
    dsimp only
    obtain ⟨hprogs, hevals⟩ := layerWrite_evals u (hu.clean hc) o.slot c.dst (outs.flatMap (stateBytes c.tout))
    split
    · exact ⟨hprogs.trans hu.progs, hevals.trans hu.count⟩
    · exact ⟨hu.progs, hu.count⟩
  simp only [hheld', Bool.false_eq_true, if_false]
  exact ⟨hrun.1, fun t _ ht => hcount t ht hrun.2⟩

/-- Settles O49: one lemma for each layer. -/
theorem descriptorModeLayers : Obligations.DescriptorModeLayers := by
  unfold Obligations.DescriptorModeLayers
  exact ⟨fun _ _ _ _ _ _ _ => goCopy_copies, fun _ _ _ _ _ _ _ _ _ _ _ _ _ => goReduce_folds,
    fun _ _ _ _ _ _ _ _ _ _ => goSieve_ranks, fun _ _ _ _ _ _ => goScan_passes,
    fun _ _ _ _ _ _ => goPipe_counts⟩

end Sys2Proof.Machine
end

section
/-! ## The Ledger's commands (O28: R553 to R556) -/

namespace Sys2Proof.Machine

/-- The state in which an entry stands in the ring at the write pointer, with the current sequence number. -/
def State.ledgerStored (s : State) (e : Entry) : State :=
  let u := s.wr Reg.LEDGER_SEQ_SEQ (nextSeqNo (s.rd Reg.LEDGER_SEQ_SEQ))
  { u with ledger := { u.ledger with
    ring := mset u.ledger.ring (s.rd Reg.LEDGER_WP_INDEX) { e with seq := s.rd Reg.LEDGER_SEQ_SEQ } Entry.empty } }

/-- A write of an entry that verifies, with no error injected and room in the ring. -/
theorem ledgerWrite_good {s : State} (e : Entry) (hlost : s.rd Reg.LEDGER_STATUS_LOST = 0) (hfull : s.ringFull = false)
    (hinj : s.rd (Hdr.INJ_COUNT 0x06) = 0) : s.ledgerWrite e .ok =
      ((s.ledgerStored e).wr Reg.LEDGER_WP_INDEX ((s.rd Reg.LEDGER_WP_INDEX + 1) % 2048)).bump
        Ctr.LEDGER_LEDGER_WRITTEN 1 := by
  have hinj' : (s.ledgerStored e).rd (Hdr.INJ_COUNT 0x06) = 0 := by
    show (s.wr Reg.LEDGER_SEQ_SEQ _).rd _ = 0
    rw [rd_wr_ne _ _ _ _ (by decide), hinj]
  unfold State.ledgerWrite
  rw [if_neg (by simp [State.is, hlost]), if_neg (by simp [hfull])]
  extract_lets w r a l s1 inj s2
  have huse : inj = (false, s.ledgerStored e) := injectUse_of_none (s.ledgerStored e) 0x06 0 hinj'
  rw [if_neg (by simp [huse]), if_neg (by decide)]
  unfold s2
  rw [huse]

/-- The state in which the write queue holds no more than `rest`. -/
def State.ledgerTaken (s : State) (rest : List Entry) : State :=
  { s with ledger := { s.ledger with queue := rest, overflow := s.ledger.overflow && !rest.isEmpty } }

theorem ledgerEntryWrite_stores {s : State} {e : Entry} {rest : List Entry} (hqueue : s.ledger.queue = e :: rest)
    (hlost : s.rd Reg.LEDGER_STATUS_LOST = 0) (hfull : s.ringFull = false) (hinj : s.rd (Hdr.INJ_COUNT 0x06) = 0) :
    completes (.ledgerEntryWrite .ok) s fun t =>
      t.ledger.queue = rest ∧ t.rd Reg.LEDGER_WP_INDEX = (s.rd Reg.LEDGER_WP_INDEX + 1) % 2048 ∧
      mget t.ledger.ring (s.rd Reg.LEDGER_WP_INDEX) Entry.empty = { e with seq := s.rd Reg.LEDGER_SEQ_SEQ } ∧
      ∀ i, i ≠ s.rd Reg.LEDGER_WP_INDEX → mget t.ledger.ring i Entry.empty = mget s.ledger.ring i Entry.empty := by
  have hexec : exec (.ledgerEntryWrite .ok) s = execLedgerEntryWrite .ok s := rfl
  have hwrite := ledgerWrite_good (s := s.ledgerTaken rest) e hlost hfull hinj
  refine ⟨_, hexec.trans (by simp only [execLedgerEntryWrite, hqueue]; exact congrArg ok hwrite), ?_⟩
  dsimp only
  rw [bump_ledger]
  refine ⟨rfl, ?_, mget_mset_same .., fun i hi => mget_mset_ne _ _ _ _ _ _ hi⟩
  rw [rd_bump_ne _ _ _ _ (by decide) (by decide), rd_wr_same]
  exact Nat.mod_eq_of_lt (Nat.mod_lt _ (by decide))

theorem ledgerRpWrite_stores (val : Word) (s : State) : completes (.ledgerRpWrite val) s fun t =>
    t.rd Reg.LEDGER_RP_INDEX = val.toNat % 2 ^ Reg.LEDGER_RP_INDEX.width ∧
    regsKept s t [Reg.LEDGER_RP_INDEX, Reg.LEDGER_STATUS_FULL] := by
  refine ⟨_, rfl, ?_⟩
  have hkept : regsKept s (s.wr Reg.LEDGER_RP_INDEX val.toNat) [Reg.LEDGER_RP_INDEX, Reg.LEDGER_STATUS_FULL] :=
    regsKept_wr _ _ (regsKept_refl s _) (by decide)
  simp only [State.writeRp]
  split
  · exact ⟨rd_wr_same .., hkept⟩
  · exact ⟨(rd_wr_ne _ _ _ _ (by decide)).trans (rd_wr_same ..), regsKept_wr _ _ hkept (by decide)⟩

theorem ledgerBist_starts {s : State} (hlost : s.rd Reg.LEDGER_STATUS_LOST = 1)
    (hbusy : s.rd Reg.LEDGER_STATUS_BIST_BUSY ≠ 1) : completes .ledgerBist s fun t =>
      t.rd Reg.LEDGER_STATUS_BIST_BUSY = 1 ∧ t.ledger = s.ledger := by
  refine ⟨_, rfl, ?_⟩
  simp only [State.ledgerBist, State.is, hlost, beq_self_eq_true, beq_eq_false_iff_ne.2 hbusy, Bool.not_false,
    Bool.and_self, if_true]
  exact ⟨(rd_bump_ne _ _ _ _ (by decide) (by decide)).trans (rd_wr_same ..), bump_ledger ..⟩

theorem ledgerBistDone_reports {s : State} (pass : Bool) (hbusy : s.rd Reg.LEDGER_STATUS_BIST_BUSY = 1) :
    completes (.ledgerBistDone pass) s fun t =>
      t.rd Reg.LEDGER_STATUS_BIST_BUSY = 0 ∧ t.rd Reg.LEDGER_STATUS_BIST_PASS = b2n pass ∧
      regsKept s t [Reg.LEDGER_STATUS_BIST_BUSY, Reg.LEDGER_STATUS_BIST_PASS] := by
  have hexec : exec (.ledgerBistDone pass) s = execLedgerBistDone pass s := rfl
  refine ⟨_, hexec.trans (if_pos (by simp [State.is, hbusy])), ?_, rd_wrB_same _ _ _ rfl, ?_⟩
  · rw [rd_wrB_ne _ _ _ _ (by decide), rd_wr_same]
    rfl
  · exact regsKept_wr _ _ (regsKept_wr _ _ (regsKept_refl s _) (by decide)) (by decide)

/-! ### Re-arming (R556) -/

/-- The state in which a re-arm has emptied the ring and cleared its pointers and marks. -/
def State.ledgerEmptied (s : State) : State :=
  let u := [Reg.LEDGER_WP_INDEX, Reg.LEDGER_RP_INDEX, Reg.LEDGER_STATUS_LOST, Reg.LEDGER_STATUS_BIST_PASS,
    Reg.LEDGER_STATUS_FULL, Reg.LEDGER_STATUS_OVERFLOW].foldl (fun (acc : State) f => acc.wr f 0) s
  { u with ledger := { u.ledger with ring := [] }, draws := u.draws + 1 }

theorem ledgerEmptied_regs (s : State) : s.ledgerEmptied.rd Reg.LEDGER_WP_INDEX = 0 ∧
    s.ledgerEmptied.rd Reg.LEDGER_RP_INDEX = 0 ∧ s.ledgerEmptied.rd Reg.LEDGER_STATUS_LOST = 0 ∧
    s.ledgerEmptied.rd (Hdr.INJ_COUNT 0x06) = s.rd (Hdr.INJ_COUNT 0x06) := by
  have hrd (f : Fld) : s.ledgerEmptied.rd f = ((((((s.wr Reg.LEDGER_WP_INDEX 0).wr Reg.LEDGER_RP_INDEX 0).wr
    Reg.LEDGER_STATUS_LOST 0).wr Reg.LEDGER_STATUS_BIST_PASS 0).wr Reg.LEDGER_STATUS_FULL 0).wr
    Reg.LEDGER_STATUS_OVERFLOW 0).rd f := rfl
  refine ⟨?_, ?_, ?_, ?_⟩
  · rw [hrd, rd_wr_ne _ _ _ _ (by decide), rd_wr_ne _ _ _ _ (by decide), rd_wr_ne _ _ _ _ (by decide),
      rd_wr_ne _ _ _ _ (by decide), rd_wr_ne _ _ _ _ (by decide), rd_wr_same, Nat.zero_mod]
  · rw [hrd, rd_wr_ne _ _ _ _ (by decide), rd_wr_ne _ _ _ _ (by decide), rd_wr_ne _ _ _ _ (by decide),
      rd_wr_ne _ _ _ _ (by decide), rd_wr_same, Nat.zero_mod]
  · rw [hrd, rd_wr_ne _ _ _ _ (by decide), rd_wr_ne _ _ _ _ (by decide), rd_wr_ne _ _ _ _ (by decide), rd_wr_same,
      Nat.zero_mod]
  · rw [hrd, rd_wr_ne _ _ _ _ (by decide), rd_wr_ne _ _ _ _ (by decide), rd_wr_ne _ _ _ _ (by decide),
      rd_wr_ne _ _ _ _ (by decide), rd_wr_ne _ _ _ _ (by decide), rd_wr_ne _ _ _ _ (by decide)]

theorem ledgerRearm_leaves_lost {s : State} {val : Word} (hkey : bits val.toNat 8 8 = 0xA5)
    (hgo : bit val.toNat 0 = true) (hpass : s.rd Reg.LEDGER_STATUS_BIST_PASS = 1)
    (hinj : s.rd (Hdr.INJ_COUNT 0x06) = 0) : completes (.ledgerRearm val .ok) s fun t =>
      t.rd Reg.LEDGER_STATUS_LOST = 0 ∧ t.rd Reg.LEDGER_RP_INDEX = 0 ∧ t.ledger.queue = s.ledger.queue := by
  obtain ⟨hwp, hrp, hlost, hcount⟩ := ledgerEmptied_regs s
  have hfull : s.ledgerEmptied.ringFull = false := by simp [State.ringFull, hwp, hrp]
  have hrearm : ∃ e, s.ledgerRearm val.toNat .ok = s.ledgerEmptied.ledgerWrite e .ok :=
    ⟨_, if_neg (by simp [State.is, hkey, hgo, hpass])⟩
  obtain ⟨e, hrearm⟩ := hrearm
  refine ⟨_, congrArg ok (hrearm.trans (ledgerWrite_good e hlost hfull (hcount.trans hinj))), ?_⟩
  dsimp only
  rw [bump_ledger]
  have hrd (f : Fld) (hf : f.key ≠ Reg.LEDGER_SEQ_SEQ.key) :
      (s.ledgerEmptied.ledgerStored e).rd f = s.ledgerEmptied.rd f := rd_wr_ne _ _ _ _ hf
  refine ⟨?_, ?_, rfl⟩
  · rw [rd_bump_ne _ _ _ _ (by decide) (by decide), rd_wr_ne _ _ _ _ (by decide), hrd _ (by decide), hlost]
  · rw [rd_bump_ne _ _ _ _ (by decide) (by decide), rd_wr_ne _ _ _ _ (by decide), hrd _ (by decide), hrp]

/-! ### LEDGER_CTRL (R554, R556) -/

theorem rd_wrap_ledgerBist (s : State) : s.ledgerBist.rd Reg.LEDGER_CTRL_WRAP = s.rd Reg.LEDGER_CTRL_WRAP := by
  unfold State.ledgerBist
  split
  · rw [rd_bump_ne _ _ _ _ (by decide) (by decide), rd_wr_ne _ _ _ _ (by decide)]
  · rfl

theorem rd_gaspClear (s : State) (f : Fld) : s.gaspClear.rd f = s.rd f := by
  unfold State.gaspClear
  split
  · rfl
  · rfl

theorem ledgerWrapWrite_stores (val : Word) (s : State) : completes (.ledgerWrapWrite val) s fun t =>
    t.rd Reg.LEDGER_CTRL_WRAP = b2n (bit val.toNat 0) := by
  refine ⟨_, rfl, ?_⟩
  unfold State.writeLedgerCtrl
  extract_lets s1 s2 s3
  have h1 : s1.rd Reg.LEDGER_CTRL_WRAP = b2n (bit val.toNat 0) := rd_wrB_same _ _ _ rfl
  have h2 : s2.rd Reg.LEDGER_CTRL_WRAP = b2n (bit val.toNat 0) := by
    unfold s2
    split
    · rw [rd_wr_ne _ _ _ _ (by decide), h1]
    · exact h1
  have h3 : s3.rd Reg.LEDGER_CTRL_WRAP = b2n (bit val.toNat 0) := by
    unfold s3
    split
    · rw [rd_wrap_ledgerBist, h2]
    · exact h2
  split
  · exact (rd_gaspClear ..).trans h3
  · exact h3

/-- Settles O28: one lemma for each command. -/
theorem ledgerCommands : Obligations.LedgerCommands := by
  unfold Obligations.LedgerCommands
  exact ⟨fun _ _ _ => ledgerEntryWrite_stores, ledgerRpWrite_stores, fun _ => ledgerBist_starts,
    fun pass _ => ledgerBistDone_reports pass, fun _ _ => ledgerRearm_leaves_lost, ledgerWrapWrite_stores⟩

end Sys2Proof.Machine
end

section
/-! ## The mailbox and the SMBus target (O53, O54: R560 to R565, R575 to R578) -/

namespace Sys2Proof.Machine

/-! ### A word read beside the management ports' own page -/

theorem fieldsAt_page {page off : Nat} {p : Fld × Acc} (h : p ∈ fieldsAt page off) : p.1.page = page := by
  obtain ⟨r, -, hr⟩ := List.mem_filterMap.1 h
  unfold FieldRow.at? at hr
  split at hr
  · cases hr
  · cases hr
    rfl

theorem fieldValue_mgmt (s : State) (m : MgmtState) (path : Path) {f : Fld} (a : Acc) (hf : f.page ≠ 8) :
    { s with mgmt := m }.fieldValue path f a = s.fieldValue path f a := by
  have hviewed : { s with mgmt := m }.viewed path f.page f.off f.lo = s.viewed path f.page f.off f.lo := by
    simp only [State.viewed, if_neg hf]
    rfl
  cases a <;> simp only [State.fieldValue, hviewed] <;> rfl

/-- What the management ports hold shows in no word of another page. -/
theorem wordOf_mgmt (s : State) (m : MgmtState) {f : Fld} (hf : f.page ≠ 8) :
    { s with mgmt := m }.wordOf f = s.wordOf f := by
  simp only [State.wordOf, State.blockWord]
  congr 1
  exact List.foldl_ext _ _ _ fun w p hp => by rw [fieldValue_mgmt s m .reeve p.2 (by rw [fieldsAt_page hp]; exact hf)]

theorem infoBytes_mgmt (s : State) (m : MgmtState) : { s with mgmt := m }.infoBytes = s.infoBytes := by
  simp only [State.infoBytes]
  rw [wordOf_mgmt s m (by decide), wordOf_mgmt s m (by decide), wordOf_mgmt s m (by decide),
    wordOf_mgmt s m (by decide), wordOf_mgmt s m (by decide), wordOf_mgmt s m (by decide),
    wordOf_mgmt s m (by decide), wordOf_mgmt s m (by decide), wordOf_mgmt s m (by decide)]

/-! ### The mailbox's commands (R575 to R578) -/

/-- The state in which no request waits. -/
def State.noRequests (s : State) : State := { s with mgmt := { s.mgmt with queue := [] } }

/-- What a request that has been answered on the SMBus channel leaves: no request, and the answer in the response
buffer. -/
def mbxAnswered (r : MbxReq) (status : Nat) (body : List Byte) (t : State) : Prop :=
  t.mgmt.queue = [] ∧ t.mgmt.ready = true ∧
    t.mgmt.response = mbxMessage (msgNum r.bytes 0 2) (msgNum r.bytes 2 2) status 1 body

section Served

variable {r : MbxReq} {s : State} (hqueue : s.mgmt.queue = [r]) (hup : s.reeveUp = true) (hchan : r.chan = 1)
include hqueue hup hchan

/-- A request of the SMBus channel that stands alone is served: what its command makes of it is answered, and beside
the management ports the command's own state stays. -/
theorem serve_alone {i : Instr} {command : Nat} {f : Nat → List Byte → State → MbxOut}
    (hexec : exec i s = ok (s.serve command f)) (hcmd : msgNum r.bytes 0 2 = command)
    {status : Nat} {body : List Byte} {u : State} (hf : f 1 (msgBody r.bytes) s.noRequests = (status, body, u))
    (hu : u.mgmt = s.noRequests.mgmt) {Q : State → Prop} (hQ : ∀ m, Q { u with mgmt := m }) :
    completes i s fun t => mbxAnswered r status body t ∧ Q t := by
  have hserve : s.serve command f = State.serveUnknown 16 (u.mbxAnswer 1 r.bytes status body) := by
    simp only [State.serve, hqueue, hup, hchan, hcmd, beq_self_eq_true, Bool.and_true, Bool.true_and]
    simp only [show f 1 (msgBody r.bytes) { s with mgmt := { s.mgmt with queue := [] } } = _ from hf]
    rfl
  have hempty : (u.mbxAnswer 1 r.bytes status body).mgmt.queue = [] := congrArg MgmtState.queue hu
  have hstop : State.serveUnknown 16 (u.mbxAnswer 1 r.bytes status body) = u.mbxAnswer 1 r.bytes status body := by
    rw [State.serveUnknown]
    simp only [hempty]
  exact ⟨_, hexec.trans (congrArg ok (hserve.trans hstop)), ⟨hempty, rfl, rfl⟩, hQ _⟩

theorem getInfo_answers (hcmd : msgNum r.bytes 0 2 = 0x0001) (hb : msgBody r.bytes = []) :
    completes .getInfo s fun t => mbxAnswered r 0 s.infoBytes t ∧ t.regs = s.regs :=
  serve_alone hqueue hup hchan rfl hcmd (u := s.noRequests)
    (by simp only [hb, List.isEmpty_nil, if_true, State.noRequests, infoBytes_mgmt]) rfl fun _ => rfl

theorem getTelem_answers {x : List Byte} (hcmd : msgNum r.bytes 0 2 = 0x0002) (hlen : (msgBody r.bytes).length = 2)
    (hn : msgNum (msgBody r.bytes) 0 2 ≤ 15) (hx : s.telem.recs[msgNum (msgBody r.bytes) 0 2]? = some x) :
    completes .getTelem s fun t => mbxAnswered r 0 x t ∧ t.regs = s.regs :=
  serve_alone hqueue hup hchan rfl hcmd (u := s.noRequests)
    (by
      rw [if_neg (by omega)]
      simp only [show s.noRequests.telem = s.telem from rfl, hx])
    rfl fun _ => rfl

theorem subTelem_refused (hcmd : msgNum r.bytes 0 2 = 0x0003) :
    completes .subTelem s fun t => mbxAnswered r 4 [] t ∧ t.regs = s.regs :=
  serve_alone hqueue hup hchan rfl hcmd (u := s.noRequests) (if_pos (by decide)) rfl fun _ => rfl

theorem almRead_answers (hcmd : msgNum r.bytes 0 2 = 0x0010) (hlen : (msgBody r.bytes).length = 6)
    (hpos : 0 < msgNum (msgBody r.bytes) 4 2) (hmax : msgNum (msgBody r.bytes) 4 2 ≤ 1000)
    (hin : msgNum (msgBody r.bytes) 0 4 + msgNum (msgBody r.bytes) 4 2 ≤ s.almLen) : completes .almRead s fun t =>
      mbxAnswered r 0 (readBytes s.alm.body 0 (msgNum (msgBody r.bytes) 0 4) (msgNum (msgBody r.bytes) 4 2)) t ∧
        t.alm = s.alm := by
  have hin' : msgNum (msgBody r.bytes) 0 4 + msgNum (msgBody r.bytes) 4 2 ≤ s.noRequests.almLen := hin
  exact serve_alone hqueue hup hchan rfl hcmd (u := s.noRequests) (if_neg (by omega)) rfl fun _ => rfl

theorem almWrite_edits (hcmd : msgNum r.bytes 0 2 = 0x0011) (hbusy : s.rd Reg.BOOT_ALM_STATUS_COMMIT_BUSY ≠ 1)
    (hmin : 7 ≤ (msgBody r.bytes).length) (hmax : (msgBody r.bytes).length ≤ 1006)
    (hin : msgNum (msgBody r.bytes) 2 4 + ((msgBody r.bytes).length - 6) ≤ 2093056)
    (hkey : msgNum (msgBody r.bytes) 0 1 = 0xA5) : completes .almWrite s fun t =>
      mbxAnswered r 0 [] t ∧ t.alm = (s.almEdit (msgNum (msgBody r.bytes) 2 4) ((msgBody r.bytes).drop 6)).alm := by
  have hbusy' : ¬(s.noRequests.is Reg.BOOT_ALM_STATUS_COMMIT_BUSY) = true :=
    fun h => hbusy (beq_iff_eq.1 h)
  exact serve_alone hqueue hup hchan rfl hcmd
    (u := s.noRequests.almEdit (msgNum (msgBody r.bytes) 2 4) ((msgBody r.bytes).drop 6))
    ((if_neg hbusy').trans ((if_neg (by rw [List.length_drop]; omega)).trans (if_neg (by simp [hkey])))) rfl
    fun _ => rfl

theorem almCommit_starts (hcmd : msgNum r.bytes 0 2 = 0x0012) (hbusy : s.rd Reg.BOOT_ALM_STATUS_COMMIT_BUSY ≠ 1)
    (hlen : (msgBody r.bytes).length = 1) (hkey : msgNum (msgBody r.bytes) 0 1 = 0xA5) : completes .almCommit s fun t =>
      mbxAnswered r 0 [] t ∧ t.rd Reg.BOOT_ALM_STATUS_COMMIT_BUSY = 1 := by
  have hbusy' : ¬(s.noRequests.is Reg.BOOT_ALM_STATUS_COMMIT_BUSY) = true :=
    fun h => hbusy (beq_iff_eq.1 h)
  have hcommit : s.noRequests.startCommit.mgmt = s.noRequests.mgmt ∧
      s.noRequests.startCommit.rd Reg.BOOT_ALM_STATUS_COMMIT_BUSY = 1 := by
    rw [State.startCommit, if_neg hbusy']
    have hset : (s.noRequests.wr Reg.BOOT_ALM_STATUS_COMMIT_BUSY 1).rd Reg.BOOT_ALM_STATUS_COMMIT_BUSY = 1 :=
      rd_wr_same ..
    exact ⟨rfl, (rd_congr rfl _).trans hset⟩
  exact serve_alone hqueue hup hchan rfl hcmd (u := s.noRequests.startCommit)
    ((if_neg hbusy').trans ((if_neg (by omega)).trans (if_neg (by simp [hkey])))) hcommit.1 fun _ => hcommit.2

theorem ledgerRead_answers (hcmd : msgNum r.bytes 0 2 = 0x0020) (hlen : (msgBody r.bytes).length = 3)
    (hpos : 0 < msgNum (msgBody r.bytes) 2 1) (hmax : msgNum (msgBody r.bytes) 2 1 ≤ 31)
    (hin : msgNum (msgBody r.bytes) 0 2 + msgNum (msgBody r.bytes) 2 1 ≤ 2048) : completes .ledgerRead s fun t =>
      mbxAnswered r 0 ((List.range (msgNum (msgBody r.bytes) 2 1)).flatMap fun k =>
        if (s.ledgerEntry (msgNum (msgBody r.bytes) 0 2 + k)).seq = 0 then List.replicate 32 0
        else entryBytes (s.ledgerEntry (msgNum (msgBody r.bytes) 0 2 + k))) t ∧ t.ledger = s.ledger :=
  serve_alone hqueue hup hchan rfl hcmd (u := s.noRequests) ((if_neg (by omega)).trans (if_pos hin)) rfl fun _ => rfl

end Served

/-- Settles O53: one lemma for each command. -/
theorem mailboxCommands : Obligations.MailboxCommands := by
  unfold Obligations.MailboxCommands
  intro r s hqueue hup hchan
  exact ⟨getInfo_answers hqueue hup hchan, fun _ => getTelem_answers hqueue hup hchan,
    subTelem_refused hqueue hup hchan, almRead_answers hqueue hup hchan, almWrite_edits hqueue hup hchan,
    almCommit_starts hqueue hup hchan, ledgerRead_answers hqueue hup hchan⟩

end Sys2Proof.Machine
end

section
/-! ## The SMBus target (O54: R560 to R565, R576) -/

namespace Sys2Proof.Machine

/-! ### Transactions and write commands (R560, R561) -/

theorem bootStep_counted (s : State) : (s.bump Ctr.MGMT_SMB_TRANSACTIONS 1).bootStep = s.bootStep :=
  rd_bump_ne _ _ _ _ (by decide) (by decide)

theorem wordOf_smbReturn (s : State) (d : List Byte) {f : Fld} (hf : f.page ≠ 8) :
    (s.smbReturn d).wordOf f = s.wordOf f := wordOf_mgmt s _ hf

theorem mbxServed_up {s : State} (hstep : 3 ≤ s.bootStep) (f : State → State) :
    (s.bump Ctr.MGMT_SMB_TRANSACTIONS 1).mbxServed f = f (s.bump Ctr.MGMT_SMB_TRANSACTIONS 1) :=
  if_pos (by rw [bootStep_counted]; exact hstep)

theorem portRead_of_word {s : State} {path : Path} {a w : Nat} (hstatus : s.portStatus a false = 0)
    (hword : s.readWord path a = (some w, s)) : s.portRead path a = (0, w, s) := by
  simp only [State.portRead, hstatus, hword, show ¬2 ≤ 0 by decide, if_false, Option.getD_some]

/-- A read of a word of the active schedule, from start-up step 3 on (R326, R563). -/
theorem portRead_schedule {s : State} {addr : Nat} (path : Path) (hstep : 3 ≤ s.bootStep) (halign : addr % 4 = 0)
    (hlo : 0x100000 ≤ addr) (hhi : addr < 0x180000) :
    s.portRead path addr = (0, schedWord s.active.sched (addr - 0x100000), s) := by
  have hmapped : mappedCtl addr = true := by
    rw [mappedCtl, if_neg (by omega)]
    simp only [Bool.or_eq_true, decide_eq_true_eq]
    omega
  have hstatus : s.portStatus addr false = 0 := by
    rw [State.portStatus, if_neg (by simp [halign]; omega), if_neg (by omega), if_pos hmapped]
  have hword : s.readWord path addr = (some (schedWord s.active.sched (addr - 0x100000)), s) := by
    rw [State.readWord, if_neg (by simp [hmapped]), if_neg (by omega), if_pos hhi]
  exact portRead_of_word hstatus hword

section Up

variable {s : State} (hup : s.portsUp = true)
include hup

theorem smbServe_up (f : State → State) : s.smbServe f = f (s.bump Ctr.MGMT_SMB_TRANSACTIONS 1) := if_pos hup

theorem smbWrite_good (f : State → State) : s.smbWrite (some true) f = f (s.bump Ctr.MGMT_SMB_TRANSACTIONS 1) := by
  rw [State.smbWrite, smbServe_up hup]
  rfl

/-! ### Reads -/

theorem getStatus_returns : completes .getStatus s fun t =>
    t.regs = (s.bump Ctr.MGMT_SMB_TRANSACTIONS 1).regs ∧
    t.mgmt.smbOut = t.wordOf Reg.DEVICE_STATE_STATE ++ t.wordOf Reg.ALARM_SUMMARY_BLOCKS ++
      t.wordOf Reg.BOOT_STATUS_STEP ++ leBytes 1 s.mgmt.wrote := by
  refine ⟨_, congrArg ok (smbServe_up hup _), rfl, ?_⟩
  rw [wordOf_smbReturn _ _ (by decide), wordOf_smbReturn _ _ (by decide), wordOf_smbReturn _ _ (by decide)]
  simp only [State.smbReturn, bump_mgmt]

theorem readReg_schedule {addr : Nat} (hstep : 3 ≤ s.bootStep) (halign : addr % 4 = 0) (hlo : 0x100000 ≤ addr)
    (hhi : addr < 0x180000) : completes (.readReg addr) s fun t =>
      t.mgmt.smbOut = leBytes 1 0 ++ leBytes 4 (schedWord s.active.sched (addr - 0x100000)) := by
  have hread := portRead_schedule (s := s.bump Ctr.MGMT_SMB_TRANSACTIONS 1) .smbus
    (by rw [bootStep_counted]; exact hstep) halign hlo hhi
  rw [bump_active] at hread
  generalize schedWord s.active.sched (addr - 0x100000) = w at hread ⊢
  refine ⟨_, congrArg ok (smbServe_up hup _), ?_⟩
  simp only [hread, State.smbReturn]

theorem mbxRead_returns (off : Nat) (hstep : 3 ≤ s.bootStep) : completes (.mbxRead off) s fun t =>
    t.mgmt = { s.mgmt with ready := false, smbOut := (s.mgmt.response.drop off).take 32 } := by
  refine ⟨_, congrArg ok ((smbServe_up hup _).trans (mbxServed_up hstep _)), ?_⟩
  simp only [State.smbReturn, bump_mgmt]

/-! ### Writes -/

theorem writeReg_badPec (addr : Nat) (val : Word) : completes (.writeReg addr val (some false)) s fun t =>
    errUp t Err.MGMT_SMB_PEC ∧ t.active = s.active ∧ t.shadow = s.shadow := by
  refine ⟨_, congrArg ok (smbServe_up hup _), ?_⟩
  rw [if_pos rfl]
  exact ⟨raise_sets _ _ _ (by decide) (by decide), by simp only [raise_active, bump_active],
    by simp only [raise_shadow, bump_shadow]⟩

theorem writeReg_unmapped {addr : Nat} (val : Word) (hstep : 3 ≤ s.bootStep) (halign : addr % 4 = 0)
    (hhi : addr < 0x200000) (hmapped : mappedCtl addr = false) : completes (.writeReg addr val (some true)) s fun t =>
      t.mgmt.wrote = 1 ∧ errUp t Err.TOP_UNMAPPED_ACCESS := by
  refine ⟨_, congrArg ok (smbWrite_good hup _), ?_⟩
  have hstatus : (s.bump Ctr.MGMT_SMB_TRANSACTIONS 1).portStatus addr true = 1 := by
    rw [State.portStatus, if_neg (by simp [halign]; omega), if_neg (by rw [bootStep_counted]; omega),
      if_neg (by simp [hmapped])]
  have hword : (s.bump Ctr.MGMT_SMB_TRANSACTIONS 1).writeWord .smbus addr val.toNat =
      (s.bump Ctr.MGMT_SMB_TRANSACTIONS 1).unmapped := if_pos (by simp [hmapped])
  have hraised : errUp (s.bump Ctr.MGMT_SMB_TRANSACTIONS 1).unmapped Err.TOP_UNMAPPED_ACCESS :=
    raise_sets _ _ _ (by decide) (by decide)
  have hwrite : (s.bump Ctr.MGMT_SMB_TRANSACTIONS 1).portWrite .smbus addr val.toNat =
      (1, (s.bump Ctr.MGMT_SMB_TRANSACTIONS 1).unmapped) := by
    simp only [State.portWrite, hstatus, hword, show ¬2 ≤ 1 by decide, if_false]
  generalize (s.bump Ctr.MGMT_SMB_TRANSACTIONS 1).unmapped = u at hraised hwrite
  rw [hwrite]
  exact ⟨rfl, hraised⟩

theorem mbxWrite_joins (data : List Byte) (hstep : 3 ≤ s.bootStep) : completes (.mbxWrite data (some true)) s fun t =>
    t.mgmt.request = (s.mgmt.request ++ data).take 1024 := by
  refine ⟨_, congrArg ok ((smbWrite_good hup _).trans (mbxServed_up hstep _)), ?_⟩
  simp only [bump_mgmt]

theorem mbxClear_empties (hstep : 3 ≤ s.bootStep) : completes (.mbxClear (some true)) s fun t =>
    t.mgmt = { s.mgmt with request := [], tooBig := false } := by
  refine ⟨_, congrArg ok ((smbWrite_good hup _).trans (mbxServed_up hstep _)), ?_⟩
  simp only [bump_mgmt]

theorem smbTimeout_raises : completes .smbTimeout s fun t =>
    raises s t Err.MGMT_SMB_TIMEOUT [Ctr.MGMT_SMB_TIMEOUTS.fld, Hdr.CNT_OVF 8] := by
  refine ⟨_, congrArg ok (if_pos hup), raise_sets _ _ _ (by decide) (by decide), ?_⟩
  exact regsKept_trans (regsKept_bump _ _ (regsKept_refl s _) (by decide) (by decide))
    (regsKept_mono (regsKept_raise _ _ (regsKept_refl _ _)) fun _ hg => List.mem_append_right _ hg)

theorem smbAlertResponse_returns (halert : s.smbAlert = true) : completes (.smbAlertResponse true) s fun t =>
    t.regs = s.regs ∧
    t.mgmt = { s.mgmt with rose := false, ready := false, smbOut := leBytes 1 (s.rd Reg.MGMT_SMB_STATUS_ADDR) } :=
  ⟨_, congrArg ok (if_pos (by simp [hup, halert])), rfl, rfl⟩

end Up

/-! ### The request buffer while a request is sent (R576) -/

/-- From `s` to `t` the request buffer is as it was. -/
def bufferKept (s t : State) : Prop := t.mgmt.request = s.mgmt.request ∧ t.mgmt.tooBig = s.mgmt.tooBig

namespace bufferKept

variable {s t u : State}

theorem refl (s : State) : bufferKept s s := ⟨rfl, rfl⟩

theorem upd (h : bufferKept s t) (hr : u.mgmt.request = t.mgmt.request := by rfl)
    (hb : u.mgmt.tooBig = t.mgmt.tooBig := by rfl) : bufferKept s u := ⟨hr.trans h.1, hb.trans h.2⟩

theorem bump {c : Ctr} {n : Nat} (h : bufferKept s t) : bufferKept s (t.bump c n) := h.upd (by rw [bump_mgmt]) (by rw [bump_mgmt])

theorem ite {c : Prop} [Decidable c] (ht : bufferKept s t) (hu : bufferKept s u) :
    bufferKept s (if c then t else u) := by
  split
  · exact ht
  · exact hu

theorem reportRising {page b cls : Nat} (h : bufferKept s t) : bufferKept s (t.reportRising page b cls) := by
  unfold State.reportRising State.consoleLog State.say
  extract_lets _ s1
  have h1 : bufferKept s s1 := ite h.upd h
  exact ite h1.upd h1

theorem react {e : ErrBit} {cls : Nat} {tag : EntryTag} (h : bufferKept s t) : bufferKept s (t.react e cls tag) := by
  unfold State.react
  extract_lets s1 s2 _ _ _ _ s3
  have h1 : bufferKept s s1 := h.bump.upd
  have h3 : bufferKept s s3 := by
    unfold s3
    rw [alarmAssert_eq]
    exact ite h1.upd h1.upd
  exact upd h3.reportRising

theorem markErr {e : ErrBit} {o : Occ} (h : bufferKept s t) : bufferKept s (t.markErr e o).1 := by
  unfold State.markErr
  extract_lets _ _ _ _ s1 s2 s3 s4
  have h1 : bufferKept s s1 := bump h.upd
  have h3 : bufferKept s s3 := by
    have h2 : bufferKept s s2 := ite h1.upd h1
    unfold s3
    rw [summarise_eq]
    exact h2.upd
  exact h3.ite h3.react

theorem log {e : Entry} (h : bufferKept s t) : bufferKept s (t.log e) := by
  unfold State.log
  extract_lets a s1 _ s2
  have ha : bufferKept s a := by
    unfold a
    rw [enqueue_eq]
    exact h.upd
  have h2 : bufferKept s s2 := ha.upd
  exact ha.upd.ite h2.markErr.bump

theorem raise {e : ErrBit} {o : Occ} (h : bufferKept s t) : bufferKept s (t.raise e o) := by
  unfold State.raise
  exact h.markErr.log

theorem pump {k : Nat} (h : bufferKept s t) : bufferKept s (t.pump k) := by
  induction k generalizing t with
  | zero => exact h
  | succ k ih =>
    have hflit {fl : Flit} {rest : List Flit} {spend : Bool} : bufferKept s (t.issueFlit fl rest spend) := by
      unfold State.issueFlit State.setCredits
      extract_lets _ s1 _ s2
      have h1 : bufferKept s s1 := h.upd
      have h2 : bufferKept s s2 := ite h1.upd h1
      exact bump h2.upd
    unfold State.pump
    split
    · exact h
    · split
      · exact h.ite (ih hflit)
      · split
        · exact h
        · exact ih h.upd

theorem mbxAnswer {chan : Nat} {req : List Byte} {status : Nat} {body : List Byte} (h : bufferKept s t) :
    bufferKept s (t.mbxAnswer chan req status body) := by
  unfold State.mbxAnswer State.hostTx State.send
  exact ite (pump (upd h)) h.upd

theorem serveUnknown {k : Nat} (h : bufferKept s t) : bufferKept s (State.serveUnknown k t) := by
  induction k generalizing t with
  | zero => exact h
  | succ k ih =>
    unfold State.serveUnknown
    split
    · exact h
    · exact (ih (mbxAnswer h.upd)).ite h

theorem mbxQueue {chan : Nat} {m : List Byte} (h : bufferKept s t) : bufferKept s (t.mbxQueue chan m).2 := by
  unfold State.mbxQueue
  split
  · exact h.bump.raise
  · exact serveUnknown (bump h.upd)

theorem mbxArrive {chan : Nat} {m : List Byte} {tooBig : Bool} (h : bufferKept s t) :
    bufferKept s (t.mbxArrive chan m tooBig) := by
  unfold State.mbxArrive
  extract_lets refuse r
  have hrefuse (n : Nat) : bufferKept s (refuse n) := h.bump.mbxAnswer
  have hr : bufferKept s r.2 := h.mbxQueue
  exact (hrefuse 6).ite ((hrefuse 2).ite (hr.ite hr.mbxAnswer))

end bufferKept

theorem mbxSend_empties {s : State} (hup : s.portsUp = true) (hstep : 3 ≤ s.bootStep) :
    completes (.mbxSend (some true)) s fun t => t.mgmt.request = [] ∧ t.mgmt.tooBig = false :=
  ⟨_, congrArg ok ((smbWrite_good hup _).trans (mbxServed_up hstep _)), (bufferKept.refl _).mbxArrive⟩

/-- Settles O54: one lemma for each command. -/
theorem smbusCommands : Obligations.SmbusCommands := by
  unfold Obligations.SmbusCommands
  exact ⟨fun _ hup => getStatus_returns hup, fun _ _ hup => readReg_schedule hup,
    fun addr val _ hup => writeReg_badPec hup addr val, fun _ val _ hup => writeReg_unmapped hup val,
    fun data _ hup => mbxWrite_joins hup data, fun _ hup => mbxClear_empties hup, fun _ hup => mbxSend_empties hup,
    fun off _ hup => mbxRead_returns hup off, fun _ hup => smbTimeout_raises hup,
    fun _ hup => smbAlertResponse_returns hup⟩

end Sys2Proof.Machine
end

section
/-! ## The routine record, a routine's step, and its end (O51, O52: R454, R466, R472) -/

namespace Sys2Proof.Machine

/-! ### The fields of a record -/

theorem ofLe_leBytes (k v : Nat) : ofLe (leBytes k v) = v % 256 ^ k := by
  induction k generalizing v with
  | zero => rw [Nat.pow_zero, Nat.mod_one]; rfl
  | succ k ih =>
    rw [leBytes, ofLe, ih, BitVec.toNat_ofNat, Nat.shiftRight_eq_div_pow, Nat.pow_succ' (m := 256) (n := k),
      Nat.mod_mul (a := 256) (b := 256 ^ k)]

theorem ofLe_replicate_zero (k : Nat) : ofLe (List.replicate k 0) = 0 := by
  induction k with
  | zero => rfl
  | succ k ih => rw [List.replicate_succ, ofLe, ih]; rfl

/-- The field of a record that holds its task's number among the tasks of the slot (R466). -/
abbrev RecFld.taskNum : RecFld := { off := 20, len := 2 }

/-- Two fields of a record share no byte. -/
abbrev RecFld.apart (f g : RecFld) : Prop := f.off + f.len ≤ g.off ∨ g.off + g.len ≤ f.off

theorem recd_congr {s t : State} (h : t.miller = s.miller) (n : Nat) (f : RecFld) : t.recd n f = s.recd n f := by
  simp only [State.recd, h]

theorem recd_setRec_same (s : State) (n : Nat) (f : RecFld) (v : Nat) :
    (s.setRec n f v).recd n f = v % 256 ^ f.len := by
  have hread := readBytes_writeBytes s.miller.dmem 0 (recAddr n + f.off) (leBytes f.len v)
  rw [length_leBytes] at hread
  rw [← ofLe_leBytes, ← hread]
  rfl

theorem recd_setRec_apart (s : State) (n : Nat) {f g : RecFld} (v : Nat) (h : f.apart g) :
    (s.setRec n f v).recd n g = s.recd n g :=
  congrArg ofLe (readBytes_writeBytes_apart _ _ _ _ _ _ (by rw [length_leBytes]; omega))

/-- The capture area of a slot lies before every record (R454, R466). -/
theorem captured_setRec (s : State) (n : Nat) (f : RecFld) (v : Nat) :
    (s.setRec n f v).captured n = s.captured n :=
  readBytes_writeBytes_apart _ _ _ _ _ _ (.inr (by rw [recAddr]; omega))

theorem routine_withRoutine (s : State) (n : Nat) (f : Routine → Routine) :
    (s.withRoutine n f).routine n = f (s.routine n) := mget_mput_same ..

/-! ### A fresh record (R466) -/

/-- `a` is `s` with a fresh record of a phase, in which the task's own input comes next. -/
structure freshRecord (s a : State) (n phase : Nat) : Prop where
  regs     : a.regs = s.regs
  work     : a.work = { s.work with miller := a.miller, routines := a.routines }
  routine  : a.routine n = Routine.blank
  captured : a.captured n = s.captured n
  phase    : a.recd n .phase = phase
  step     : a.recd n .step = 0
  child    : a.recd n .child = 6
  excluded : a.recd n .excluded = 0
  block    : a.recd n .block = 0
  peer     : a.recd n .peer = 0
  included : a.recd n .included = 1
  inst     : a.recd n .taskNum = (s.task n).inst % 65536

/-- The record of slot `n` all zeros. -/
def State.clearedRecord (s : State) (n : Nat) : State :=
  { s with miller := { s.miller with dmem := writeBytes s.miller.dmem 0 (recAddr n) (List.replicate 64 0) } }

theorem recd_cleared (s : State) (n : Nat) (f : RecFld) (hf : f.off + f.len ≤ 64) :
    (s.clearedRecord n).recd n f = 0 := by
  have hbytes : readBytes (writeBytes s.miller.dmem 0 (recAddr n) (List.replicate 64 0)) 0 (recAddr n + f.off) f.len =
      List.replicate f.len 0 := by
    refine List.ext_getElem (by rw [length_readBytes, List.length_replicate]) fun i hi _ => ?_
    rw [length_readBytes] at hi
    rw [getElem_readBytes, Nat.add_assoc, mget_writeBytes_in _ _ _ _ _ (by rw [List.length_replicate]; omega),
      List.getElem_replicate, List.getElem_replicate]
  simp only [State.recd, State.clearedRecord, hbytes, ofLe_replicate_zero]

/-- From `s` to `t` no more has changed than the Miller's memories. -/
structure millerOnly (s t : State) : Prop where
  regs : t.regs = s.regs
  work : t.work = { s.work with miller := t.miller }

theorem millerOnly.trans {s t u : State} (h : millerOnly s t) (h' : millerOnly t u) : millerOnly s u :=
  ⟨h'.regs.trans h.regs, by rw [h'.work, h.work]⟩

theorem millerOnly_set (s : State) (m : MillerState) : millerOnly s { s with miller := m } := ⟨rfl, rfl⟩

theorem setRec_millerOnly (s : State) (n : Nat) (f : RecFld) (v : Nat) : millerOnly s (s.setRec n f v) :=
  millerOnly_set s _

theorem clearedRecord_millerOnly (s : State) (n : Nat) : millerOnly s (s.clearedRecord n) := millerOnly_set s _

/-- The fields of a fresh record, as they are set. -/
def State.startedRecord (s : State) (n phase : Nat) : State :=
  ((((s.clearedRecord n).setRec n .phase phase).setRec n .child 6).setRec n .included 1).setRec n .taskNum
    (s.task n).inst

theorem newRecord_eq (s : State) (n phase : Nat) :
    s.newRecord n phase = (s.startedRecord n phase).setRoutine n Routine.blank := rfl

theorem setRoutine_regs (s : State) (n : Nat) (r : Routine) : (s.setRoutine n r).regs = s.regs := rfl

theorem setRoutine_work (s : State) (n : Nat) (r : Routine) :
    (s.setRoutine n r).work = { s.work with routines := (s.setRoutine n r).routines } := rfl

theorem startedRecord_millerOnly (s : State) (n phase : Nat) : millerOnly s (s.startedRecord n phase) :=
  ((((clearedRecord_millerOnly s n).trans (setRec_millerOnly ..)).trans (setRec_millerOnly ..)).trans
    (setRec_millerOnly ..)).trans (setRec_millerOnly ..)

theorem startedRecord_captured (s : State) (n phase : Nat) : (s.startedRecord n phase).captured n = s.captured n := by
  have hcleared : (s.clearedRecord n).captured n = s.captured n := by
    simp only [State.captured, State.clearedRecord]
    exact readBytes_writeBytes_apart _ _ _ _ _ _ (.inr (by rw [recAddr]; omega))
  rw [State.startedRecord, captured_setRec, captured_setRec, captured_setRec, captured_setRec, hcleared]

theorem startedRecord_zero (s : State) (n phase : Nat) {f : RecFld} (hf : f.off + f.len ≤ 64 := by decide)
    (h1 : RecFld.phase.apart f := by decide) (h2 : RecFld.child.apart f := by decide)
    (h3 : RecFld.included.apart f := by decide) (h4 : RecFld.taskNum.apart f := by decide) :
    (s.startedRecord n phase).recd n f = 0 := by
  rw [State.startedRecord, recd_setRec_apart _ _ _ h4, recd_setRec_apart _ _ _ h3, recd_setRec_apart _ _ _ h2,
    recd_setRec_apart _ _ _ h1, recd_cleared _ _ _ hf]

theorem newRecord_fresh (s : State) (n : Nat) {phase : Nat} (hphase : phase < 256) :
    freshRecord s (s.newRecord n phase) n phase := by
  have hmiller : (s.newRecord n phase).miller = (s.startedRecord n phase).miller := rfl
  have hrecd := recd_congr hmiller n
  have hcaptured : (s.newRecord n phase).captured n = (s.startedRecord n phase).captured n := by
    simp only [State.captured, hmiller]
  refine { regs := ?regs, work := ?work, routine := mget_mput_same .., captured := hcaptured.trans (startedRecord_captured s n phase),
           phase := ?phase, child := ?child, included := ?included, inst := ?inst,
           step := (hrecd _).trans (startedRecord_zero s n phase),
           excluded := (hrecd _).trans (startedRecord_zero s n phase),
           block := (hrecd _).trans (startedRecord_zero s n phase),
           peer := (hrecd _).trans (startedRecord_zero s n phase) }
  case regs =>
    rw [newRecord_eq, setRoutine_regs]
    exact (startedRecord_millerOnly s n phase).regs
  case work =>
    rw [newRecord_eq, setRoutine_work, (startedRecord_millerOnly s n phase).work]
    rfl
  case phase =>
    rw [hrecd, State.startedRecord, recd_setRec_apart _ _ _ (by decide), recd_setRec_apart _ _ _ (by decide),
      recd_setRec_apart _ _ _ (by decide), recd_setRec_same]
    exact Nat.mod_eq_of_lt hphase
  case child =>
    rw [hrecd, State.startedRecord, recd_setRec_apart _ _ _ (by decide), recd_setRec_apart _ _ _ (by decide),
      recd_setRec_same]
    rfl
  case included =>
    rw [hrecd, State.startedRecord, recd_setRec_apart _ _ _ (by decide), recd_setRec_same]
    rfl
  case inst =>
    rw [hrecd, State.startedRecord, recd_setRec_same]
    rfl

/-! ### The steps of a routine -/

/-- The state in which a routine's step has begun. -/
def State.begunStep (s : State) (n : Nat) : State :=
  ((s.setTask n { s.task n with sentAt := s.ticks }).bump Ctr.MILLER_STEPS_RUN 1).trace 2 n false true 0 0 0

/-- The state in which a routine's step has ended, at a step point that asks nothing of its task. -/
def State.endedStep (s : State) (n : Nat) : State :=
  let k := s.recd n .step + 1
  let t := (s.setRec n .step k).setTask n { s.task n with progress := k }
  t.trace 3 n false true 0 0 (Config.freeCycle t.draws)

/-- The register fields that the count of a step and its trace may change. -/
def stepFields : List Fld := [Ctr.MILLER_STEPS_RUN.fld, Hdr.CNT_OVF 0x60] ++ traceFields

theorem traceFields_step : ∀ g ∈ traceFields, g ∈ stepFields := fun _ hg => List.mem_append_right _ hg

theorem begunStep_reported (s : State) (n : Nat) :
    reported stepFields (s.setTask n { s.task n with sentAt := s.ticks }) (s.begunStep n) :=
  ((reported.refl _).bump (by decide) (by decide)).trace traceFields_step

theorem begunStep_task (s : State) (n : Nat) : (s.begunStep n).task n = { s.task n with sentAt := s.ticks } := by
  rw [(begunStep_reported s n).task, task_setTask_same]

theorem begunStep_recd (s : State) (n : Nat) (f : RecFld) : (s.begunStep n).recd n f = s.recd n f :=
  recd_congr (begunStep_reported s n).miller n f

theorem begunStep_routine (s : State) (n : Nat) : (s.begunStep n).routine n = s.routine n := by
  simp only [State.routine, (begunStep_reported s n).routines]
  rfl

theorem begunStep_captured (s : State) (n : Nat) : (s.begunStep n).captured n = s.captured n := by
  simp only [State.captured, (begunStep_reported s n).miller]
  rfl

theorem endedStep_reported (s : State) (n : Nat) : reported traceFields
    ((s.setRec n .step (s.recd n .step + 1)).setTask n { s.task n with progress := s.recd n .step + 1 })
    (s.endedStep n) := (reported.refl _).trace fun _ hg => hg

theorem endedStep_task (s : State) (n : Nat) :
    (s.endedStep n).task n = { s.task n with progress := s.recd n .step + 1 } := by
  rw [(endedStep_reported s n).task, task_setTask_same]

theorem endedStep_recd (s : State) (n : Nat) {f : RecFld} (h : RecFld.step.apart f) :
    (s.endedStep n).recd n f = s.recd n f :=
  (recd_congr (endedStep_reported s n).miller n f).trans (recd_setRec_apart s n _ h)

theorem endedStep_routine (s : State) (n : Nat) : (s.endedStep n).routine n = s.routine n := by
  simp only [State.routine, (endedStep_reported s n).routines]
  rfl

theorem endedStep_granary (s : State) (n : Nat) : (s.endedStep n).granary = s.granary :=
  (endedStep_reported s n).granary

/-- A routine's first step counts as its step 1. -/
theorem endedStep_first {s u : State} {n : Nat} (hstep : u.recd n .step = 0) (hsent : (u.task n).sentAt = s.ticks)
    (hinst : u.recd n .taskNum = (s.task n).inst % 65536) : firstStep s (u.endedStep n) n := by
  have hrecd := recd_congr (endedStep_reported u n).miller n .step
  have hset : (u.setRec n .step (u.recd n .step + 1)).recd n .step = 1 := by rw [recd_setRec_same, hstep]; rfl
  refine ⟨hrecd.trans hset, ?_, ?_, (endedStep_recd u n (by decide)).trans hinst⟩
  · rw [endedStep_task, hstep]
  · rw [endedStep_task, hsent]

/-! ### The pieces of work of a step -/

theorem flushOut_empty {s : State} {n : Nat} (k : Nat) (h : (s.routine n).out = []) : State.flushOut n k s = s := by
  cases k with
  | zero => rfl
  | succ k => simp only [State.flushOut, h]

section Work

variable {s b u : State} {n blocks : Nat} {eccs : List EccResult} {work : State → EccResult → Option State}

theorem workLoop_over (hover : (s.task n).st ≠ 2) (hout : (s.routine n).out = []) :
    State.workLoop work n blocks eccs s = s := by
  cases blocks with
  | zero => exact flushOut_empty 64 hout
  | succ k => rw [State.workLoop, flushOut_empty 64 hout, if_pos (.inl hover)]

theorem workLoop_piece (hst : (s.task n).st = 2) (hout : (s.routine n).out = [])
    (hwork : work s (eccs.headD .ok) = some b) :
    State.workLoop work n (blocks + 1) eccs s = State.workLoop work n blocks eccs.tail b := by
  rw [State.workLoop, flushOut_empty 64 hout, if_neg (by simp [hst, hout]), hwork]

theorem routineStep_quiet (hloop : State.workLoop work n blocks eccs (s.begunStep n) = u) (hst : (u.task n).st ≠ 4)
    (hstop : (u.task n).stop = none) : s.routineStep n blocks eccs work = u.endedStep n := by
  have hend : ((u.endedStep n).task n).stop = none := by rw [endedStep_task]; exact hstop
  have hpoint := stepPoint_none (u.endedStep n) n hend
  unfold State.routineStep
  extract_lets t s1 s2 k t2 s3
  have hs2 : s2 = u := hloop
  clear_value s2
  subst hs2
  rw [if_neg hst]
  exact congrArg Prod.snd hpoint

/-- A step of one piece of work that queues nothing and does not end its task. -/
theorem routineStep_one (hst : (s.task n).st = 2) (hout : (s.routine n).out = [])
    (hwork : work (s.begunStep n) (eccs.headD .ok) = some b) (hbout : (b.routine n).out = []) (hbst : (b.task n).st ≠ 4)
    (hbstop : (b.task n).stop = none) : s.routineStep n 1 eccs work = b.endedStep n := by
  refine routineStep_quiet (u := b) ?_ hbst hbstop
  rw [workLoop_piece (by rw [begunStep_task]; exact hst) (by rw [begunStep_routine]; exact hout) hwork]
  exact flushOut_empty 64 hbout

end Work

/-! ### The end of a routine (R458, R472) -/

theorem begunStep_allAcked (s : State) (n : Nat) : (s.begunStep n).allAcked n = s.allAcked n := by
  have h := begunStep_reported s n
  have htag : (s.begunStep n).taskTag n = s.taskTag n := by
    simp only [State.taskTag, State.tagOf, begunStep_task]
  simp only [State.allAcked, State.sheavesOut, begunStep_routine, begunStep_task, htag, h.sched, h.hops]
  rfl

/-- A task that ends with OK leaves what routines hold. -/
theorem finish_ok_routines (s : State) (n : Nat) (hrun : (s.task n).st = 2) :
    (s.finish n 0 0).routines = s.routines := by
  have hend (st : Nat) (a : State) : (a.countEnd n st).routines = a.routines := by
    unfold State.countEnd
    split <;> simp only [bump_routines, raise_routines]
  unfold State.finish
  extract_lets t st origin s0 s1 _ s2
  have hst : st = 0 ∨ st = 1 := by
    unfold st
    split
    · exact .inr rfl
    · exact .inl rfl
  have hs0 : s0 = s := if_neg (by rcases hst with h | h <;> simp [h])
  have hs1 : s1 = s0 := if_neg (by rcases hst with h | h <;> simp [h, endsBadly])
  rw [if_neg (by simp [t, hrun]), hend]
  exact (congrArg State.routines hs1).trans (congrArg State.routines hs0)

theorem endGroup_ok {s : State} {n : Nat} (low : Nat) (hrun : (s.task n).st = 2) :
    groupEnded s (s.endGroup n 0 0 low) n low ∧ (s.endGroup n 0 0 low).routines = s.routines := by
  let a := s.setTask n { s.task n with result := low % 2 ^ 32 + 2 ^ 32 * (s.task n).inst }
  have htask : a.task n = { s.task n with result := low % 2 ^ 32 + 2 ^ 32 * (s.task n).inst } := task_setTask_same ..
  have hst : (a.task n).st = 2 := by rw [htask]; exact hrun
  obtain ⟨hend, hstatus⟩ := finish_ok a n hst
  have hresult := finish_ok_result a n 0 (by rw [hst]; decide) (by rw [hst]; decide)
  rw [htask] at hstatus hresult
  exact ⟨⟨hend, hstatus, hresult⟩, finish_ok_routines a n hst⟩

/-- A step that finds only a routine's end left, with everything acknowledged: it ends the task with OK. -/
theorem routineStep_ends {s : State} {n blocks low : Nat} {eccs : List EccResult}
    {work : State → EccResult → Option State} (hrun : (s.task n).st = 2) (hacked : s.allAcked n = true)
    (hwork : ∀ e, work (s.begunStep n) e = some ((s.begunStep n).endGroup n 0 0 low)) :
    groupEnded s (s.routineStep n (blocks + 1) eccs work) n low := by
  have hout : (s.routine n).out = [] := by
    simp only [State.allAcked, Bool.and_eq_true, List.isEmpty_iff] at hacked
    exact hacked.1.1
  have hst : ((s.begunStep n).task n).st = 2 := by rw [begunStep_task]; exact hrun
  obtain ⟨hended, hroutines⟩ := endGroup_ok (s := s.begunStep n) low hst
  have hout' : (((s.begunStep n).endGroup n 0 0 low).routine n).out = [] := by
    rw [State.routine, hroutines]
    exact (congrArg Routine.out (begunStep_routine s n)).trans hout
  have hloop : State.workLoop work n (blocks + 1) eccs (s.begunStep n) = (s.begunStep n).endGroup n 0 0 low := by
    rw [workLoop_piece hst (by rw [begunStep_routine]; exact hout) (hwork _)]
    exact workLoop_over (by rw [hended.1]; decide) hout'
  have hstep : s.routineStep n (blocks + 1) eccs work = (s.begunStep n).endGroup n 0 0 low := by
    unfold State.routineStep
    extract_lets t s1 s2
    rw [show s2 = _ from hloop, if_pos hended.1]
  rw [hstep]
  simpa only [groupEnded, begunStep_task] using hended

end Sys2Proof.Machine
end

section
/-! ## What reads, writes and ends of tasks leave of the routines' records (O51, O52: R368, R409, R415, R456, R466) -/

namespace Sys2Proof.Machine

/-- From `s` to `t` the Miller's memories, and with them the records, and the routines are as they were. -/
def recordsKept (s t : State) : Prop := t.miller = s.miller ∧ t.routines = s.routines

namespace recordsKept

variable {s t u : State}

theorem refl (s : State) : recordsKept s s := ⟨rfl, rfl⟩

theorem trans (h : recordsKept s t) (h' : recordsKept t u) : recordsKept s u :=
  ⟨h'.1.trans h.1, h'.2.trans h.2⟩

theorem upd (h : recordsKept s t) (hm : u.miller = t.miller := by rfl) (hr : u.routines = t.routines := by rfl) :
    recordsKept s u := ⟨hm.trans h.1, hr.trans h.2⟩

theorem wr {f : Fld} {v : Nat} (h : recordsKept s t) : recordsKept s (t.wr f v) := h.upd

theorem bump {c : Ctr} {n : Nat} (h : recordsKept s t) : recordsKept s (t.bump c n) :=
  h.upd (bump_miller ..) (bump_routines ..)

theorem raise {e : ErrBit} {o : Occ} (h : recordsKept s t) : recordsKept s (t.raise e o) :=
  h.upd (raise_miller ..) (raise_routines ..)

theorem ite {c : Prop} [Decidable c] (ht : recordsKept s t) (hu : recordsKept s u) :
    recordsKept s (if c then t else u) := by
  split
  · exact ht
  · exact hu

theorem foldl {β : Type} {g : State → β → State} {l : List β} (hg : ∀ a x, recordsKept s a → recordsKept s (g a x))
    (h : recordsKept s t) : recordsKept s (l.foldl g t) := by
  induction l generalizing t with
  | nil => exact h
  | cons x l ih => exact ih (hg t x h)

/-! ### Writes -/

theorem issueFlit {fl : Flit} {rest : List Flit} {spend : Bool} (h : recordsKept s t) :
    recordsKept s (t.issueFlit fl rest spend) := by
  unfold State.issueFlit
  extract_lets _ s1 s2
  have h1 : recordsKept s s1 := h.upd
  have h2 : recordsKept s s2 := ite h1.upd h1
  exact bump (wr h2)

theorem pump {k : Nat} (h : recordsKept s t) : recordsKept s (t.pump k) := by
  induction k generalizing t with
  | zero => exact h
  | succ k ih =>
    unfold State.pump
    split
    · exact h
    · split
      · exact h.ite (ih h.issueFlit)
      · split
        · exact h
        · exact ih h.upd

theorem hostTx {x : HostTx} (h : recordsKept s t) : recordsKept s (t.hostTx x) := by
  unfold State.hostTx State.send
  exact pump h.upd

theorem issueWrites {slot attr a : Nat} {d : List Byte} {ns : List Nat} (h : recordsKept s t) :
    recordsKept s (t.issueWrites slot attr a d ns) := by
  induction ns generalizing t a d with
  | nil => exact h
  | cons n rest ih => exact ih h.hostTx

theorem hostWrite {slot a : Nat} {d : List Byte} {o : Occ} (h : recordsKept s t) :
    recordsKept s (t.hostWrite slot a d o).2 := by
  unfold State.hostWrite State.windowFault
  dsimp only
  split
  · exact h.issueWrites
  · exact raise (bump (wr h))

theorem granaryPoke {a : Nat} {d : List Byte} (h : recordsKept s t) : recordsKept s (t.granaryPoke a d) := h.upd

theorem granaryWriteLine {p : Port} {a : Nat} {d : List Byte} {o : Occ} (h : recordsKept s t) :
    recordsKept s (t.granaryWriteLine p a d o).2 := by
  unfold State.granaryWriteLine State.poisonMet
  split
  · exact h.upd
  · split
    · exact granaryPoke (bump h.upd)
    · unfold State.granaryNote
      exact raise (wr (wr (wr (wr (wr (wr h))))))

theorem granaryWrite {p : Port} {a : Nat} {d : List Byte} {o : Occ} (h : recordsKept s t) :
    recordsKept s (t.granaryWrite p a d o).2 := by
  unfold State.granaryWrite
  generalize linePieces (d.length + 1) a d = l
  suffices hfold : ∀ x : Bool × State, recordsKept s x.2 → recordsKept s (l.foldl (fun acc q =>
      (acc.1 && (acc.2.granaryWriteLine p q.1 q.2 o).1, (acc.2.granaryWriteLine p q.1 q.2 o).2)) x).2 from hfold _ h
  induction l with
  | nil => exact fun _ hx => hx
  | cons q l ih => exact fun x hx => ih _ hx.granaryWriteLine

/-! ### The end of a task -/

theorem noRoute {x : Sheaf} (h : recordsKept s t) : recordsKept s (t.noRoute x) := by
  unfold State.noRoute
  exact h.bump.raise

theorem dropPiece {own : Nat} {x : Sheaf} (h : recordsKept s t) : recordsKept s (t.dropPiece own x) := by
  unfold State.dropPiece
  exact h.upd.ite h

theorem sendOpen {own : Nat} {x : Sheaf} (h : recordsKept s t) : recordsKept s (t.sendOpen own x) := by
  unfold State.sendOpen
  extract_lets y _ s1
  have h1 : recordsKept s s1 := bump h.upd
  clear_value s1
  split
  · exact h1.upd
  · split
    · exact h1.noRoute.dropPiece
    · exact h1.upd

theorem abortNotice {n origin reason : Nat} (h : recordsKept s t) : recordsKept s (t.abortNotice n origin reason) := by
  unfold State.abortNotice
  exact h.ite (foldl (fun _ _ ha => ha.sendOpen) h.upd)

theorem showHop {k : Nat} {x : Hop} (h : recordsKept s t) : recordsKept s ((t.setHop k x).showHop k) := by
  unfold State.showHop
  exact wr (wr h.upd)

theorem flushTask {n : Nat} (h : recordsKept s t) : recordsKept s (t.flushTask n) := by
  unfold State.flushTask
  extract_lets t' s1 opens gone
  have h1 : recordsKept s s1 := foldl (fun _ _ ha => ite ha ha.bump.showHop) h
  exact bump h1.upd

theorem undefineRegion {n : Nat} (h : recordsKept s t) : recordsKept s (t.undefineRegion n) := by
  unfold State.undefineRegion
  extract_lets d s1
  have h1 : recordsKept s s1 := foldl (fun _ _ ha => ha.upd) h
  exact h1.upd

theorem countEnd {n status : Nat} (h : recordsKept s t) : recordsKept s (t.countEnd n status) := by
  unfold State.countEnd
  split
  · exact h.bump
  · exact h.bump
  · exact h.bump
  · exact h.bump.raise
  · exact h.bump
  · exact h.bump.raise
  · exact h

theorem finish {n status detail : Nat} (h : recordsKept s t) : recordsKept s (t.finish n status detail) := by
  unfold State.finish
  extract_lets t' st origin s0 s1 _ s2
  have h0 : recordsKept s s0 := ite h.undefineRegion h
  have h1 : recordsKept s s1 := ite h0.abortNotice.flushTask h0
  exact h.ite (countEnd h1.upd)

theorem failTask {n status : Nat} (h : recordsKept s t) : recordsKept s (t.failTask n status) := by
  unfold State.failTask
  exact h.finish.ite (ite h.upd h)

theorem stepPoint {n : Nat} (h : recordsKept s t) : recordsKept s (t.stepPoint n).2 := by
  unfold State.stepPoint
  split
  · exact h
  · split
    · exact h.finish
    · exact h.finish

/-! ### Writes for a task -/

theorem regionViolation {n core a : Nat} (h : recordsKept s t) : recordsKept s (t.regionViolation n core a) := by
  unfold State.regionViolation
  exact failTask (raise (bump (wr (wr (wr (wr h))))))

theorem taskWrite {n core a : Nat} {d : List Byte} (h : recordsKept s t) :
    recordsKept s (t.taskWrite n core a d).2 := by
  have hwrite : recordsKept s (t.granaryWrite .mill a d (t.occOf n)).2 := h.granaryWrite
  have hfail := hwrite.failTask (n := n) (status := 9)
  unfold State.taskWrite
  split
  · have hv := h.regionViolation (n := n) (core := core) (a := a)
    generalize t.regionViolation n core a = v at hv ⊢
    exact hv
  · dsimp only
    generalize t.granaryWrite .mill a d (t.occOf n) = r at hwrite hfail ⊢
    split
    · exact hwrite
    · exact hfail

theorem layerWrite {n a : Nat} {d : List Byte} (h : recordsKept s t) : recordsKept s (t.layerWrite n a d).2 := by
  unfold State.layerWrite
  exact taskWrite h.upd

theorem localWrite {n a off : Nat} {d : List Byte} (h : recordsKept s t) : recordsKept s (t.localWrite n a off d) := by
  unfold State.localWrite
  exact h.ite (ite h.layerWrite (ite h.hostWrite h.hostWrite.finish))

theorem trace {kind n word rows data : Nat} {tail pb : Bool} (h : recordsKept s t) :
    recordsKept s (t.trace kind n tail pb word rows data) :=
  have ht : reported traceFields t (t.trace kind n tail pb word rows data) := (reported.refl t).trace fun _ hg => hg
  h.upd ht.miller ht.routines

end recordsKept

end Sys2Proof.Machine
end

section
/-! ## The first step of a routine: its record, its source, and where a step leaves a routine (O51, O52: R360, R466) -/

namespace Sys2Proof.Machine

/-! ### The first piece of work -/

/-- In `a` the first step of slot `n`'s routine has begun, its record fresh and its data `r`, and no piece of work has
been done. -/
structure openedStep (s a : State) (n phase : Nat) (r : Routine) : Prop where
  ticks   : a.ticks = s.ticks
  granary : a.granary = s.granary
  inject  : a.rd (Hdr.INJ_COUNT 0x62) = s.rd (Hdr.INJ_COUNT 0x62)
  task    : a.task n = { s.task n with sentAt := s.ticks }
  routine : a.routine n = r
  phase   : a.recd n .phase = phase
  step    : a.recd n .step = 0
  block   : a.recd n .block = 0
  peer    : a.recd n .peer = 0
  inst    : a.recd n .taskNum = (s.task n).inst % 65536

/-- In `a` the first step of slot `n`'s collective has begun, and no piece of work has been done. -/
structure firstPiece (s a : State) (n phase : Nat) : Prop extends openedStep s a n phase Routine.blank where
  regs     : regsKept s a stepFields
  sched    : a.sched = s.sched
  groups   : a.groups = s.groups
  captured : a.captured n = s.captured n
  child    : a.recd n .child = 6
  included : a.recd n .included = 1

theorem newRecord_firstPiece (s : State) (n : Nat) {phase : Nat} (hphase : phase < 256) :
    firstPiece s ((s.newRecord n phase).begunStep n) n phase := by
  have hf := newRecord_fresh s n hphase
  generalize s.newRecord n phase = u at hf ⊢
  have hb := begunStep_reported u n
  have htask : u.task n = s.task n := task_congr (congrArg Work.tasks hf.work) n
  have hticks : u.ticks = s.ticks := congrArg Work.ticks hf.work
  exact
    { regs := fun f h => (hb.regs f h).trans (rd_congr hf.regs f)
      inject := (hb.regs _ (by decide)).trans (rd_congr hf.regs _)
      ticks := hb.ticks.trans hticks
      granary := hb.granary.trans (congrArg Work.granary hf.work)
      sched := hb.sched.trans (congrArg Work.sched hf.work)
      groups := hb.groups.trans (congrArg Work.groups hf.work)
      task := by rw [begunStep_task, htask, hticks]
      routine := (begunStep_routine u n).trans hf.routine
      captured := (begunStep_captured u n).trans hf.captured
      phase := (begunStep_recd u n _).trans hf.phase
      step := (begunStep_recd u n _).trans hf.step
      child := (begunStep_recd u n _).trans hf.child
      block := (begunStep_recd u n _).trans hf.block
      peer := (begunStep_recd u n _).trans hf.peer
      included := (begunStep_recd u n _).trans hf.included
      inst := (begunStep_recd u n _).trans hf.inst }

theorem openedStep.plainSource {s a : State} {n phase x len : Nat} {r : Routine} (ha : openedStep s a n phase r)
    (h : s.plainSource n x len) : a.plainSource n x len := by
  obtain ⟨htally, hlocal, hin, hpoison, hinj, hstop⟩ := h
  refine ⟨?_, hlocal, hin, fun l hl => ?_, ?_, ?_⟩
  · rw [ha.task]
    exact htally
  · rw [poisoned_congr (congrArg GranaryState.poison ha.granary)]
    exact hpoison l hl
  · rw [ha.inject, hinj]
  · rw [ha.task]
    exact hstop

/-- The first part of a plain source reads as its bytes, whatever the source holds beyond it. -/
theorem sourcePart_first {s : State} {n x len : Nat} (h : s.plainSource n x len) (total : Nat) {off : Nat}
    (hoff : off = 0) : s.sourcePart n x total off len .ok = (some (some (s.granaryBytes x len)), s) := by
  subst hoff
  rw [← sourcePart_plain s n x len h]
  simp only [State.sourcePart, h.1, Bool.not_false, if_true]

theorem openedStep.source {s a : State} {n phase x len : Nat} {r : Routine} (ha : openedStep s a n phase r)
    (h : s.plainSource n x len) (total : Nat) {off : Nat} (hoff : off = 0) :
    a.sourcePart n x total off len .ok = (some (some (s.granaryBytes x len)), a) := by
  rw [sourcePart_first (ha.plainSource h) total hoff, granaryBytes_congr ha.granary]

theorem routineDue_running {s : State} {n op : Nat} (h : s.routineDue n op = true) : (s.task n).st = 2 := by
  simp only [State.routineDue, State.runsRoutine, Bool.and_eq_true, beq_iff_eq] at h
  exact h.1.1.1.1.2

/-! ### Where a routine stands -/

/-- From `s` to `t` the routine of slot `n` stands where it stood: in its record no more than its step and its count of
sheaves sent may have changed, and its elements are as many. -/
def placeKept (n : Nat) (s t : State) : Prop :=
  (∀ f : RecFld, RecFld.sent.apart f → RecFld.step.apart f → t.recd n f = s.recd n f) ∧
    (t.routine n).elems = (s.routine n).elems

namespace placeKept

variable {n : Nat} {s t u : State}

theorem refl (n : Nat) (s : State) : placeKept n s s := ⟨fun _ _ _ => rfl, rfl⟩

theorem trans (h : placeKept n s t) (h' : placeKept n t u) : placeKept n s u :=
  ⟨fun f h1 h2 => (h'.1 f h1 h2).trans (h.1 f h1 h2), h'.2.trans h.2⟩

theorem records (h : placeKept n s t) (hr : recordsKept t u) : placeKept n s u :=
  ⟨fun f h1 h2 => (recd_congr hr.1 n f).trans (h.1 f h1 h2), by rw [State.routine, hr.2]; exact h.2⟩

theorem withRoutine {f : Routine → Routine} (h : placeKept n s t) (hf : ∀ r, (f r).elems = r.elems) :
    placeKept n s (t.withRoutine n f) :=
  ⟨fun g h1 h2 => (recd_congr rfl n g).trans (h.1 g h1 h2), by rw [routine_withRoutine, hf]; exact h.2⟩

theorem setSent {v : Nat} (h : placeKept n s t) : placeKept n s (t.setRec n .sent v) :=
  ⟨fun f h1 h2 => (recd_setRec_apart t n v h1).trans (h.1 f h1 h2), h.2⟩

theorem setStep {v : Nat} (h : placeKept n s t) : placeKept n s (t.setRec n .step v) :=
  ⟨fun f h1 h2 => (recd_setRec_apart t n v h2).trans (h.1 f h1 h2), h.2⟩

theorem ite {c : Prop} [Decidable c] (ht : placeKept n s t) (hu : placeKept n s u) :
    placeKept n s (if c then t else u) := by
  split
  · exact ht
  · exact hu

theorem emit {flow : Nat} {last : Bool} {d : List Byte} (h : placeKept n s t) :
    placeKept n s (t.emit n flow last d) := h.withRoutine fun _ => rfl

theorem emits {β : Type} {flow : β → Nat} {last : Bool} {d : β → List Byte} (l : List β) (h : placeKept n s t) :
    placeKept n s (l.foldl (fun (acc : State) x => acc.emit n (flow x) last (d x)) t) := by
  induction l generalizing t with
  | nil => exact h
  | cons x l ih => exact ih h.emit

theorem emitDown {last : Bool} {d : List Byte} (h : placeKept n s t) : placeKept n s (t.emitDown n last d) :=
  h.emits _

theorem sendElems {flush : Bool} {k : Nat} (h : placeKept n s t) : placeKept n s (State.sendElems n flush k t) := by
  induction k generalizing t with
  | zero => exact h
  | succ k ih =>
    unfold State.sendElems
    exact ite (ih (h.emitDown.withRoutine (f := fun r => { r with buf := _ }) fun _ => rfl)) h

theorem keepElems {k : Nat} {l : List Nat} (h : placeKept n s t) : placeKept n s (t.keepElems n k l) := by
  unfold State.keepElems
  exact ite (h.records (recordsKept.refl _).localWrite) (h.records (recordsKept.refl _).localWrite)

theorem rootEmit {k : Nat} {l : List Nat} (h : placeKept n s t) : placeKept n s (t.rootEmit n k l) := by
  unfold State.rootEmit
  extract_lets s1
  have h1 : placeKept n s s1 := h.keepElems
  exact ite (sendElems (h1.withRoutine fun _ => rfl)) h1

theorem flushOut {k : Nat} (h : placeKept n s t) : placeKept n s (State.flushOut n k t) := by
  induction k generalizing t with
  | zero => exact h
  | succ k ih =>
    unfold State.flushOut
    split
    · exact h
    next x rest _ =>
      extract_lets q s1 _ s2
      have h2 : placeKept n s s2 := (h.withRoutine (f := fun r => { r with out := rest }) fun _ => rfl).records
        (recordsKept.refl _).upd
      exact h.ite (ih h2.setSent)

end placeKept

/-- A step of one piece of work stands where that piece leaves it. -/
theorem routineStep_place {s b : State} {n : Nat} {eccs : List EccResult} {work : State → EccResult → Option State}
    (hst : (s.task n).st = 2) (hout : (s.routine n).out = [])
    (hwork : work (s.begunStep n) (eccs.headD .ok) = some b) : placeKept n b (s.routineStep n 1 eccs work) := by
  have hloop : State.workLoop work n 1 eccs (s.begunStep n) = State.flushOut n 64 b := by
    rw [workLoop_piece (by rw [begunStep_task]; exact hst) (by rw [begunStep_routine]; exact hout) hwork]
    rfl
  have hu : placeKept n b (State.flushOut n 64 b) := (placeKept.refl n b).flushOut
  unfold State.routineStep
  extract_lets t s1 s2 k t2 s3
  have hs2 : s2 = State.flushOut n 64 b := hloop
  clear_value s2
  subst hs2
  split
  · exact hu
  · have h3 : placeKept n b s3 := hu.setStep.records (recordsKept.refl _).upd
    exact h3.records (recordsKept.refl _).trace.stepPoint

end Sys2Proof.Machine
end

section
/-! ## Collectives: how each begins and ends (O51: R457 to R466, R472) -/

namespace Sys2Proof.Machine

/-! ### The end of a collective (R458, R472) -/

/-- A collective with no more than its end left ends with OK and INCLUDED. -/
theorem colStep_ends {s : State} {n op blocks : Nat} {eccs : List EccResult} {work : State → EccResult → Option State}
    (h : s.colClosing n op) (hwork : ∀ a e, a.recd n .phase = 3 → work a e = a.colEnd n) :
    groupEnded s ((s.colStart n).routineStep n (blocks + 1) eccs work) n (s.recd n .included) := by
  obtain ⟨hdue, hstarted, hphase, hacked, hincluded⟩ := h
  have hrun : (s.task n).st = 2 := by
    simp only [State.colDue, Bool.and_eq_true] at hdue
    exact routineDue_running hdue.1
  have hstart : s.colStart n = s := if_pos hstarted
  rw [hstart]
  refine routineStep_ends hrun hacked fun e => ?_
  rw [hwork _ _ ((begunStep_recd s n _).trans hphase)]
  simp only [State.colEnd, begunStep_allAcked, hacked, begunStep_recd, begunStep_captured, hincluded, Bool.not_true,
    Bool.false_eq_true, if_false, Nat.lt_irrefl, false_and]

theorem reduceWork_end (n : Nat) (a : State) (e : EccResult) (h : a.recd n .phase = 3) :
    a.reduceWork n e = a.colEnd n := by
  simp only [State.reduceWork, h]

theorem bcastWork_end (n : Nat) (a : State) (e : EccResult) (h : a.recd n .phase = 3) :
    a.bcastWork n e = a.colEnd n := by
  simp only [State.bcastWork, h]

theorem allGatherWork_end (n : Nat) (a : State) (e : EccResult) (h : a.recd n .phase = 3) :
    a.allGatherWork n e = a.colEnd n := by
  simp only [State.allGatherWork, h]

theorem allToAllWork_end (n : Nat) (a : State) (e : EccResult) (h : a.recd n .phase = 3) :
    a.allToAllWork n e = a.colEnd n := by
  simp only [State.allToAllWork, h]

/-! ### A collective's first piece of work -/

/-- A collective of operation `op` that is due its first step: it runs from a state `u` with a fresh record, and its
first piece of work finds that record in the operation's first phase. -/
theorem colDue_first {s : State} {n op phase : Nat} (hdue : s.colDue n op = true) (hnew : mfind s.routines n = none)
    (hphase : (if op = 6 then 2 else if op = 4 ∧ (!grpRoot (s.captured n)) = true then 1 else 0) = phase) :
    (s.task n).st = 2 ∧ colOp (s.task n).desc = op ∧ ∃ u, s.colStart n = u ∧ (u.task n).st = 2 ∧
      (u.routine n).out = [] ∧ firstPiece s (u.begunStep n) n phase := by
  simp only [State.colDue, Bool.and_eq_true, beq_iff_eq] at hdue
  have hrun := routineDue_running hdue.1
  have hlt : phase < 256 := by
    rw [← hphase]
    split
    · decide
    · split <;> decide
  have hstart : s.colStart n = s.newRecord n phase := by
    rw [State.colStart, if_neg (by simp [hnew])]
    simp only [hdue.2, hphase]
  have hfresh := newRecord_fresh s n hlt
  have hfirst := newRecord_firstPiece s n hlt
  generalize s.newRecord n phase = u at hstart hfresh hfirst
  have htask : u.task n = s.task n := task_congr (congrArg Work.tasks hfresh.work) n
  exact ⟨hrun, hdue.2, u, hstart, by rw [htask, hrun], by rw [hfresh.routine]; rfl, hfirst⟩

/-- The member's own block has been taken: the fold stands at child 0. -/
def State.ownTaken (a : State) (n : Nat) (acc : List Nat) : State :=
  (a.setRec n .child 0).withRoutine n fun q => { q with acc := acc }

theorem ownTaken_recd (a : State) (n : Nat) (acc : List Nat) {f : RecFld} (h : RecFld.child.apart f) :
    (a.ownTaken n acc).recd n f = a.recd n f := recd_setRec_apart a n 0 h

theorem ownTaken_routine (a : State) (n : Nat) (acc : List Nat) :
    (a.ownTaken n acc).routine n = { a.routine n with acc := acc } := routine_withRoutine ..

theorem ownTaken_task (a : State) (n : Nat) (acc : List Nat) : (a.ownTaken n acc).task n = a.task n := rfl

theorem reduceWork_own {s a : State} {n len : Nat} (ha : firstPiece s a n 0)
    (hlen : len = min 128 (foldTotal (s.task n).desc (s.captured n))) (h1 : 1 ≤ len)
    (hsrc : s.plainSource n (colSrc (s.task n).desc) (len * inBytes (s.task n).desc)) :
    a.reduceWork n .ok = some (a.ownTaken n ((elemsOf (inBytes (s.task n).desc) len
      (s.granaryBytes (colSrc (s.task n).desc) (len * inBytes (s.task n).desc))).map
        (widen (colIn (s.task n).desc)))) := by
  have hlen' : min 128 (foldTotal (s.task n).desc (s.captured n) - 128 * 0) = len := by omega
  have hblocks : 0 < (foldTotal (s.task n).desc (s.captured n) + 127) / 128 := by omega
  have hsource := ha.source hsrc (foldTotal (s.task n).desc (s.captured n) * inBytes (s.task n).desc)
    (off := 128 * 0 * inBytes (s.task n).desc) (by omega)
  simp only [State.reduceWork, ha.phase, State.upWork, ha.task, ha.captured, ha.block, ha.child, if_pos hblocks, if_true,
    hlen', hsource]
  rfl

/-- The first step of a reducing operation: the member's own first block is taken, widened (R457, R464). -/
theorem reduceStep_first {s : State} {n op len : Nat} (hdue : s.colDue n op = true) (hnew : mfind s.routines n = none)
    (hop : op ≠ 6) (hop' : op ≠ 4) (hlen : len = min 128 (foldTotal (s.task n).desc (s.captured n))) (h1 : 1 ≤ len)
    (hsrc : s.plainSource n (colSrc (s.task n).desc) (len * inBytes (s.task n).desc)) {t : State}
    (ht : t = (s.colStart n).routineStep n 1 [] fun a e => a.reduceWork n e) : firstStep s t n ∧
      t.granary = s.granary ∧ t.recd n .child = 0 ∧ (t.routine n).acc = (elemsOf (inBytes (s.task n).desc) len
        (s.granaryBytes (colSrc (s.task n).desc) (len * inBytes (s.task n).desc))).map (widen (colIn (s.task n).desc)) := by
  obtain ⟨hrun, -, u, hstart, hst, hout, ha⟩ := colDue_first (phase := 0) hdue hnew
    (by rw [if_neg hop, if_neg fun h => hop' h.1])
  generalize hacc : (elemsOf (inBytes (s.task n).desc) len (s.granaryBytes (colSrc (s.task n).desc)
    (len * inBytes (s.task n).desc))).map (widen (colIn (s.task n).desc)) = acc
  have hwork : (u.begunStep n).reduceWork n .ok = some ((u.begunStep n).ownTaken n acc) := by
    rw [reduceWork_own ha hlen h1 hsrc, hacc]
  have hquiet : t = ((u.begunStep n).ownTaken n acc).endedStep n := by
    rw [ht, hstart]
    refine routineStep_one hst hout hwork ?_ ?_ ?_
    · rw [ownTaken_routine, ha.routine]
      rfl
    · rw [ownTaken_task, ha.task, hrun]
      decide
    · rw [ownTaken_task, ha.task]
      exact hsrc.2.2.2.2.2
  generalize u.begunStep n = a at ha hquiet
  rw [hquiet]
  refine ⟨endedStep_first ?_ ?_ ?_, ?_, ?_, ?_⟩
  · rw [ownTaken_recd _ _ _ (by decide), ha.step]
  · rw [ownTaken_task, ha.task]
  · rw [ownTaken_recd _ _ _ (by decide), ha.inst]
  · exact (endedStep_granary _ n).trans ha.granary
  · rw [endedStep_recd _ _ (by decide)]
    exact recd_setRec_same ..
  · rw [endedStep_routine, ownTaken_routine]

end Sys2Proof.Machine
end

section
/-! ## Collectives: the first steps of BROADCAST, ALL_GATHER, ALL_TO_ALL and BARRIER, and an exclusion (O51: R457 to R460, R465) -/

namespace Sys2Proof.Machine

/-! ### BROADCAST and ALL_GATHER (R457, R459) -/

/-- The elements that a member's first piece of work takes from its plain source. -/
def State.ownElems (s : State) (n len : Nat) : List Nat :=
  elemsOf (inBytes (s.task n).desc) len (s.granaryBytes (colSrc (s.task n).desc) (len * inBytes (s.task n).desc))

theorem length_ownElems (s : State) (n len : Nat) : (s.ownElems n len).length = len := by
  simp only [State.ownElems, elemsOf, List.length_map, List.length_range]

/-- The routine's count of elements set. -/
def State.elemsSet (a : State) (n k : Nat) : State := a.withRoutine n fun q => { q with elems := k }

theorem elemsSet_elems (a : State) (n k : Nat) : ((a.elemsSet n k).routine n).elems = k := by
  rw [State.elemsSet, routine_withRoutine]

theorem elemsSet_recd (a : State) (n k : Nat) (f : RecFld) : (a.elemsSet n k).recd n f = a.recd n f := recd_congr rfl n f

section First

variable {s a : State} {n len : Nat} (ha : firstPiece s a n 0)
  (hlen : len = min (perSheaf (s.task n).desc) (colCount (s.task n).desc)) (h1 : 1 ≤ len)
  (hsrc : s.plainSource n (colSrc (s.task n).desc) (len * inBytes (s.task n).desc))
include ha hlen h1 hsrc

theorem bcastWork_first :
    a.bcastWork n .ok = some ((a.rootEmit n 0 (s.ownElems n len)).elemsSet n (0 + len)) := by
  have hsource := ha.source hsrc (colCount (s.task n).desc * inBytes (s.task n).desc)
    (off := 0 * inBytes (s.task n).desc) (by omega)
  have hlen' : min (perSheaf (s.task n).desc) (colCount (s.task n).desc - 0) = len := hlen.symm
  have hpos : ¬len = 0 := by omega
  simp only [State.bcastWork, ha.phase, State.broadcastWork, ha.task, ha.routine,
    show Routine.blank.elems = 0 from rfl, hlen', if_neg hpos, hsource]
  rfl

theorem allGatherWork_first : a.allGatherWork n .ok = some (a.gatherPut n (s.ownElems n len)) := by
  have hsource := ha.source hsrc (colCount (s.task n).desc * inBytes (s.task n).desc)
    (off := 0 * inBytes (s.task n).desc) (by omega)
  have hlen' : min (perSheaf (s.task n).desc) (colCount (s.task n).desc - 0) = len := hlen.symm
  have hpos : ¬len = 0 := by omega
  simp only [State.allGatherWork, ha.phase, State.gatherWork, ha.task, ha.routine, ha.child,
    show Routine.blank.elems = 0 from rfl, hlen', if_neg hpos, if_true, hsource]
  rfl

end First

theorem gatherPut_place (a : State) (n : Nat) (l : List Nat) :
    placeKept n (a.elemsSet n ((a.routine n).elems + l.length)) (a.gatherPut n l) := by
  unfold State.gatherPut
  extract_lets d g k s1 b e whole s2
  have h1 : placeKept n (a.elemsSet n ((a.routine n).elems + l.length)) s1 := placeKept.refl ..
  have h2 : placeKept n (a.elemsSet n ((a.routine n).elems + l.length)) s2 := h1.emits _
  exact h1.rootEmit.ite (h2.withRoutine fun _ => rfl)

theorem bcastStep_first {s : State} {n len : Nat} (hdue : s.colDue n 4 = true) (hnew : mfind s.routines n = none)
    (hroot : grpRoot (s.captured n) = true)
    (hlen : len = min (perSheaf (s.task n).desc) (colCount (s.task n).desc)) (h1 : 1 ≤ len)
    (hsrc : s.plainSource n (colSrc (s.task n).desc) (len * inBytes (s.task n).desc)) {t : State}
    (ht : t = (s.colStart n).routineStep n 1 [] fun a e => a.bcastWork n e) :
    (t.routine n).elems = len ∧ t.recd n .phase = 0 := by
  obtain ⟨-, -, u, hstart, hst, hout, ha⟩ := colDue_first (phase := 0) hdue hnew (by simp [hroot])
  obtain ⟨hrecd, helems⟩ := routineStep_place (eccs := []) (work := fun a e => a.bcastWork n e) hst hout
    (bcastWork_first ha hlen h1 hsrc)
  rw [hstart] at ht
  rw [ht, helems, elemsSet_elems, hrecd _ (by decide) (by decide), elemsSet_recd,
    (placeKept.refl n _).rootEmit.1 _ (by decide) (by decide)]
  exact ⟨Nat.zero_add len, ha.phase⟩

theorem gatherStep_first {s : State} {n len : Nat} (hdue : s.colDue n 3 = true) (hnew : mfind s.routines n = none)
    (hlen : len = min (perSheaf (s.task n).desc) (colCount (s.task n).desc)) (h1 : 1 ≤ len)
    (hsrc : s.plainSource n (colSrc (s.task n).desc) (len * inBytes (s.task n).desc)) {t : State}
    (ht : t = (s.colStart n).routineStep n 1 [] fun a e => a.allGatherWork n e) :
    (t.routine n).elems = len ∧ t.recd n .phase = 0 := by
  obtain ⟨-, -, u, hstart, hst, hout, ha⟩ := colDue_first (phase := 0) hdue hnew rfl
  have hplace := (gatherPut_place (u.begunStep n) n (s.ownElems n len)).trans
    (routineStep_place (eccs := []) (work := fun a e => a.allGatherWork n e) hst hout
      (allGatherWork_first ha hlen h1 hsrc))
  rw [hstart] at ht
  rw [ht, hplace.2, elemsSet_elems, hplace.1 _ (by decide) (by decide), elemsSet_recd, ha.routine, length_ownElems]
  exact ⟨Nat.zero_add len, ha.phase⟩

/-! ### ALL_TO_ALL (R458) -/

theorem peerTake_none {a : State} (n : Nat) (h : a.sched.delivered = []) (e : EccResult) : a.peerTake n e = none := by
  have hfound : (List.range (grpSize (a.captured n))).findSome? (fun j =>
      if j = grpRank (a.captured n) ∨ blockSheaves (a.task n).desc ≤ mget (a.routine n).got (16 + j) 0 then none
      else
        match (a.peerEntry n j).1 with
        | none => none
        | some e => if (a.nextSeq n e.2).isSome then some (j, e.2) else none) = none := by
    refine List.findSome?_eq_none_iff.2 fun j _ => ?_
    split
    · rfl
    · split
      · rfl
      · simp [State.nextSeq, h]
  unfold State.peerTake
  extract_lets d g found
  rw [show found = none from hfound]

/-- The first sheaf's turn of ALL_TO_ALL: whichever rank 0 is, it has been served, and rank 1 is next. -/
theorem allToAllWork_first {s a : State} {n : Nat} (ha : firstPiece s a n 2) (hnone : s.sched.delivered = [])
    (hsize : 2 ≤ grpSize (s.captured n)) (hbytes : 1 ≤ blockBytes (s.task n).desc)
    (hsrc : s.plainSource n (colSrc (s.task n).desc) (min 512 (blockBytes (s.task n).desc)))
    (hpoison : ∀ l, s.poisoned l = false) :
    ∃ u : State, a.allToAllWork n .ok = some (u.setRec n .peer 1) ∧ u.recd n .block = 0 := by
  have hsheaves : 0 < blockSheaves (s.task n).desc := by simp only [blockSheaves]; omega
  have hclean : a.clean := ⟨(ha.regs _ (by decide)).trans hsrc.2.2.2.2.1, fun l =>
    (poisoned_congr (congrArg GranaryState.poison ha.granary) l).trans (hpoison l)⟩
  have hsource := ha.source hsrc (grpSize (s.captured n) * blockBytes (s.task n).desc)
    (off := 0 * blockBytes (s.task n).desc + 512 * 0) (by omega)
  have hlen : min 512 (blockBytes (s.task n).desc - 512 * 0) = min 512 (blockBytes (s.task n).desc) := by omega
  have hnext : 0 + 1 < grpSize (s.captured n) := by omega
  have hentry : ∃ e, a.peerEntry n 0 = (some e, a) := by
    simp only [State.peerEntry, layerRead_clean hclean, Option.map_some]
    exact ⟨_, rfl⟩
  obtain ⟨e, hentry⟩ := hentry
  simp only [State.allToAllWork, ha.phase, State.peerWork, peerTake_none n (ha.sched ▸ hnone), ha.block, ha.task,
    if_pos hsheaves, State.peerSend, ha.captured, ha.peer, hlen, hsource, hentry, if_pos hnext]
  split
  · exact ⟨_, rfl, (recd_congr (recordsKept.refl a).localWrite.1 n _).trans ha.block⟩
  · exact ⟨_, rfl, (recd_congr rfl n _).trans ha.block⟩

theorem allToAllStep_first {s : State} {n : Nat} (hdue : s.colDue n 6 = true) (hnew : mfind s.routines n = none)
    (hnone : s.sched.delivered = []) (hsize : 2 ≤ grpSize (s.captured n)) (hbytes : 1 ≤ blockBytes (s.task n).desc)
    (hsrc : s.plainSource n (colSrc (s.task n).desc) (min 512 (blockBytes (s.task n).desc)))
    (hpoison : ∀ l, s.poisoned l = false) {t : State}
    (ht : t = (s.colStart n).routineStep n 1 [] fun a e => a.allToAllWork n e) :
    t.recd n .peer = 1 ∧ t.recd n .block = 0 := by
  obtain ⟨-, -, u, hstart, hst, hout, ha⟩ := colDue_first (phase := 2) hdue hnew rfl
  obtain ⟨v, hwork, hblock⟩ := allToAllWork_first ha hnone hsize hbytes hsrc hpoison
  obtain ⟨hrecd, -⟩ := routineStep_place (eccs := []) (work := fun a e => a.allToAllWork n e) hst hout hwork
  rw [hstart] at ht
  rw [ht, hrecd _ (by decide) (by decide), hrecd _ (by decide) (by decide), recd_setRec_same,
    recd_setRec_apart _ _ _ (by decide), hblock]
  exact ⟨rfl, rfl⟩

end Sys2Proof.Machine
end

section
/-! ## BARRIER's census, an exclusion, and the collectives together (O51: R457, R460, R465) -/

namespace Sys2Proof.Machine

/-! ### A sheaf that is queued (R305, R459) -/

/-- The sheaf that waits first has joined its task's send queue, and those after it wait. -/
def State.sheafQueued (s : State) (n : Nat) (x : OutSheaf) (rest : List OutSheaf) : State :=
  let q := mget s.groups.flowSeq x.flow 0
  let s1 := (s.withRoutine n (fun r => { r with out := rest })).queueSheaf n x.flow q x.last x.payload
  let s2 := { s1 with groups := { s1.groups with flowSeq := mset s1.groups.flowSeq x.flow ((q + 1) % 2 ^ 24) 0 } }
  s2.setRec n .sent (s2.recd n .sent + 1)

theorem sheafQueued_routine (s : State) (n : Nat) (x : OutSheaf) (rest : List OutSheaf) :
    (s.sheafQueued n x rest).routine n = { s.routine n with out := rest } := by
  have hroutines : (s.sheafQueued n x rest).routines = (s.withRoutine n fun r => { r with out := rest }).routines := rfl
  rw [State.routine, hroutines]
  exact routine_withRoutine ..

theorem flushOut_single {s : State} {n : Nat} {x : OutSheaf} (k : Nat) (hout : (s.routine n).out = [x])
    (hroom : s.sendRoom n x.flow ≠ 0) : State.flushOut n (k + 1) s = s.sheafQueued n x [] := by
  have hrest : ((s.sheafQueued n x []).routine n).out = [] := by rw [sheafQueued_routine]
  rw [← flushOut_empty k hrest, State.flushOut]
  simp only [hout, if_neg hroom]
  rfl

theorem sheafQueued_task (s : State) (n : Nat) (x : OutSheaf) (rest : List OutSheaf) :
    (s.sheafQueued n x rest).task n = { s.task n with sendq := (s.task n).sendq ++ [(s.ticks,
      tallied { Sheaf.empty with flow := x.flow % 2 ^ 20, kind := 1, seq := mget s.groups.flowSeq x.flow 0 % 2 ^ 24,
                                 last := x.last, tag := s.taskTag n, payload := x.payload })] } :=
  task_setTask_same ..

theorem sheafQueued_recd (s : State) (n : Nat) (x : OutSheaf) (rest : List OutSheaf) {f : RecFld}
    (h : RecFld.sent.apart f) : (s.sheafQueued n x rest).recd n f = s.recd n f :=
  (recd_setRec_apart _ n _ h).trans (recd_congr rfl n f)

/-! ### BARRIER (R457, R460) -/

/-- The census that a member without children sends up. -/
def State.ownCensus (s : State) (n : Nat) : OutSheaf :=
  { flow := grpUpFlow (s.captured n), last := true, payload := padTo 512 (censusBytes 1 (s.task n).inst 7 0) }

/-- A member without children has sent its census up: in `b` it waits for room, and the down phase is next. -/
structure censusUp (s b : State) (n : Nat) : Prop where
  out    : (b.routine n).out = [s.ownCensus n]
  task   : b.task n = { s.task n with sentAt := s.ticks }
  ticks  : b.ticks = s.ticks
  groups : b.groups = s.groups
  phase  : b.recd n .phase = 1
  step   : b.recd n .step = 0
  inst   : b.recd n .taskNum = (s.task n).inst % 65536

theorem barrierWork_first {s a : State} {n : Nat} (ha : firstPiece s a n 0)
    (htotal : foldTotal (s.task n).desc (s.captured n) = 0) :
    a.reduceWork n .ok = some (a.setRec n .child 0) := by
  simp only [State.reduceWork, ha.phase, State.upWork, ha.task, ha.captured, htotal, ha.block, ha.child, Nat.zero_add,
    show ¬(0 : Nat) < 127 / 128 by decide, if_false, if_true]

section Barrier

variable {s a : State} {n : Nat} (ha : firstPiece s a n 0) (hop : colOp (s.task n).desc = 7)
  (htotal : foldTotal (s.task n).desc (s.captured n) = 0) (hchildren : grpChildren (s.captured n) = 0)
  (hroot : grpRoot (s.captured n) = false)
include ha hop htotal hchildren hroot

theorem barrierWork_second : ∃ b, (a.setRec n .child 0).reduceWork n .ok = some b ∧ censusUp s b n := by
  have hrecd {f : RecFld} (h : RecFld.child.apart f) : (a.setRec n .child 0).recd n f = a.recd n f :=
    recd_setRec_apart a n 0 h
  have hchild : (a.setRec n .child 0).recd n .child = 0 := recd_setRec_same ..
  have hphase := (hrecd (f := .phase) (by decide)).trans ha.phase
  have hblock := (hrecd (f := .block) (by decide)).trans ha.block
  have hincluded := (hrecd (f := .included) (by decide)).trans ha.included
  have hstep := (hrecd (f := .step) (by decide)).trans ha.step
  have hinst := (hrecd (f := .taskNum) (by decide)).trans ha.inst
  have hcaptured := (captured_setRec a n .child 0).trans ha.captured
  have htask : (a.setRec n .child 0).task n = { s.task n with sentAt := s.ticks } := ha.task
  have hroutine : (a.setRec n .child 0).routine n = Routine.blank := ha.routine
  have hticks : (a.setRec n .child 0).ticks = s.ticks := ha.ticks
  have hgroups : (a.setRec n .child 0).groups = s.groups := ha.groups
  generalize a.setRec n .child 0 = c at *
  refine ⟨(c.emit n (grpUpFlow (s.captured n)) true (censusBytes 1 (s.task n).inst 7 0)).setRec n .phase 1, ?_,
    ⟨?_, htask, hticks, hgroups, recd_setRec_same .., ?_, ?_⟩⟩
  · simp only [State.reduceWork, hphase, State.upWork, htask, hcaptured, htotal, hblock, hchild, hchildren, hroot, hincluded,
      hop, Nat.zero_add, Nat.min_zero, show ¬(0 : Nat) < 127 / 128 by decide, show ¬(0 : Nat) = 6 by decide,
      Bool.false_eq_true, if_false]
    rfl
  · show ((c.emit n (grpUpFlow (s.captured n)) true (censusBytes 1 (s.task n).inst 7 0)).routine n).out = _
    rw [State.emit, routine_withRoutine, hroutine]
    rfl
  · exact (recd_setRec_apart _ n _ (by decide)).trans hstep
  · exact (recd_setRec_apart _ n _ (by decide)).trans hinst

end Barrier

theorem barrierStep_first {s : State} {n : Nat} (hdue : s.colDue n 7 = true) (hnew : mfind s.routines n = none)
    (htotal : foldTotal (s.task n).desc (s.captured n) = 0) (hchildren : grpChildren (s.captured n) = 0)
    (hroot : grpRoot (s.captured n) = false) (hstop : (s.task n).stop = none)
    (hroom : s.sendRoom n (grpUpFlow (s.captured n)) ≠ 0) {t : State}
    (ht : t = (s.colStart n).routineStep n 2 [] fun a e => a.reduceWork n e) :
    firstStep s t n ∧ t.recd n .phase = 1 ∧ (t.task n).sendq = (s.task n).sendq ++ [
      (s.ticks, tallied { Sheaf.empty with
        flow := grpUpFlow (s.captured n) % 2 ^ 20, kind := 1, last := true, tag := s.taskTag n,
        seq := mget s.groups.flowSeq (grpUpFlow (s.captured n)) 0 % 2 ^ 24,
        payload := padTo 512 (censusBytes 1 (s.task n).inst 7 0) })] := by
  obtain ⟨hrun, hop, u, hstart, hst, hout, ha⟩ := colDue_first (phase := 0) hdue hnew rfl
  obtain ⟨b, hwork, hb⟩ := barrierWork_second ha hop htotal hchildren hroot
  have hloop : State.workLoop (fun a e => a.reduceWork n e) n 2 [] (u.begunStep n) = b.sheafQueued n (s.ownCensus n) [] := by
    generalize u.begunStep n = a at ha hwork ⊢
    have hst' : (a.task n).st = 2 := by rw [ha.task]; exact hrun
    have hout' : (a.routine n).out = [] := by rw [ha.routine]; rfl
    have hroom' : b.sendRoom n (s.ownCensus n).flow ≠ 0 := by
      rw [State.sendRoom, hb.task]
      exact hroom
    rw [workLoop_piece hst' hout' (barrierWork_first ha htotal),
      workLoop_piece (s := a.setRec n .child 0) hst' hout' hwork]
    exact flushOut_single 63 hb.out hroom'
  have htask := sheafQueued_task b n (s.ownCensus n) []
  have htag : b.taskTag n = s.taskTag n := by simp only [State.taskTag, State.tagOf, hb.task]
  rw [hb.task, hb.ticks, hb.groups, htag] at htask
  have hrecd {f : RecFld} (hf : RecFld.sent.apart f) := sheafQueued_recd b n (s.ownCensus n) [] hf
  generalize b.sheafQueued n (s.ownCensus n) [] = c at hloop htask hrecd
  have hquiet : t = c.endedStep n := by
    rw [ht, hstart]
    refine routineStep_quiet hloop ?_ ?_
    · rw [htask, hrun]
      decide
    · rw [htask]
      exact hstop
  rw [hquiet]
  refine ⟨endedStep_first ?_ ?_ ?_, ?_, ?_⟩
  · rw [hrecd (by decide), hb.step]
  · rw [htask]
  · rw [hrecd (by decide), hb.inst]
  · rw [endedStep_recd _ _ (by decide), hrecd (by decide), hb.phase]
  · rw [endedStep_task, htask]
    rfl

/-! ### An exclusion (R465) -/

theorem setBit_lt {v i w : Nat} (hv : v < 2 ^ w) (hi : i < w) : setBit v i < 2 ^ w := by
  rw [setBit, Nat.one_shiftLeft]
  exact Nat.or_lt_two_pow hv (Nat.pow_lt_pow_right (by decide) hi)

theorem ofLe_lt (l : List Byte) : ofLe l < 256 ^ l.length := by
  induction l with
  | nil => decide
  | cons b l ih =>
    have hb := b.isLt
    rw [ofLe, List.length_cons, Nat.pow_succ]
    omega

theorem partialExclusion_excludes {s : State} {n child : Nat} (hrun : s.runsRoutine n = true)
    (hop : descOp (s.task n).desc = 2) (hstarted : (mfind s.routines n).isSome = true)
    (hchild : child < grpChildren (s.captured n)) (hphase : s.recd n .phase = 0) (hdue : s.exclusionDue n child = true) :
    completes (.partialExclusion n child) s fun t => t.recd n .child = child + 1 ∧
      t.recd n .excluded = setBit (s.recd n .excluded) child ∧ t.regs = s.regs := by
  have hexec : exec (.partialExclusion n child) s = execPartialExclusion n child s := rfl
  have hchild' : child < 7 := by
    have : grpChildren (s.captured n) < 8 := Nat.mod_lt _ (by decide)
    omega
  have hexcluded : s.recd n .excluded < 2 ^ 8 :=
    Nat.lt_of_lt_of_eq (ofLe_lt _) (by rw [length_readBytes]; rfl)
  refine ⟨s.exclude n child, hexec.trans (if_pos (by simp [hrun, hop, hstarted, hchild, hphase, hdue])), ?_, ?_, rfl⟩
  · refine (recd_congr rfl n _).trans ((recd_setRec_same ..).trans (Nat.mod_eq_of_lt ?_))
    show child + 1 < 256
    omega
  · refine (recd_congr rfl n _).trans ((recd_setRec_apart _ n _ (by decide)).trans
      ((recd_setRec_same ..).trans (Nat.mod_eq_of_lt (setBit_lt hexcluded (by omega)))))

/-! ### The commands -/

/-- Settles O51: one lemma for each kind of end and of first step. -/
theorem collectivesBeginAndEnd : Obligations.CollectivesBeginAndEnd := by
  unfold Obligations.CollectivesBeginAndEnd
  refine ⟨?_, ?_, ?_, ?_, ?_, ?_, ?_, ?_, ?_, ?_, ?_, ?_, ?_, ?_, ?_⟩
  · exact fun n _ _ _ h => ⟨_, if_pos h.1, colStep_ends h (reduceWork_end n)⟩
  · exact fun n _ _ _ h => ⟨_, if_pos h.1, colStep_ends h (reduceWork_end n)⟩
  · exact fun n _ _ _ h => ⟨_, if_pos h.1, colStep_ends h (reduceWork_end n)⟩
  · exact fun n _ _ _ h => ⟨_, if_pos h.1, colStep_ends h (bcastWork_end n)⟩
  · exact fun n _ _ _ h => ⟨_, if_pos h.1, colStep_ends h (allGatherWork_end n)⟩
  · exact fun n _ _ _ h => ⟨_, if_pos h.1, colStep_ends h (allToAllWork_end n)⟩
  · exact fun n _ _ _ h => ⟨_, if_pos h.1, colStep_ends h (reduceWork_end n)⟩
  · rintro n _ len s hdue hnew rfl hlen h1 hsrc
    exact ⟨_, if_pos hdue, reduceStep_first hdue hnew (by decide) (by decide) hlen h1 hsrc rfl⟩
  · rintro n _ len s hdue hnew rfl hlen h1 hsrc
    exact ⟨_, if_pos hdue, reduceStep_first hdue hnew (by decide) (by decide) hlen h1 hsrc rfl⟩
  · rintro n _ len s hdue hnew rfl hlen h1 hsrc
    exact ⟨_, if_pos hdue, reduceStep_first hdue hnew (by decide) (by decide) hlen h1 hsrc rfl⟩
  · rintro n _ len s hdue hnew rfl hroot hlen h1 hsrc
    exact ⟨_, if_pos hdue, bcastStep_first hdue hnew hroot hlen h1 hsrc rfl⟩
  · rintro n _ len s hdue hnew rfl hlen h1 hsrc
    exact ⟨_, if_pos hdue, gatherStep_first hdue hnew hlen h1 hsrc rfl⟩
  · rintro n _ s hdue hnew rfl hnone hsize hbytes hsrc hpoison
    exact ⟨_, if_pos hdue, allToAllStep_first hdue hnew hnone hsize hbytes hsrc hpoison rfl⟩
  · intro n s hdue hnew htotal hchildren hroot hstop hroom
    exact ⟨_, if_pos hdue, barrierStep_first hdue hnew htotal hchildren hroot hstop hroom rfl⟩
  · exact fun _ _ _ => partialExclusion_excludes

end Sys2Proof.Machine
end

section
/-! ## How a routine opens, and SELECT's beginning and end (O52: R466, R474, R481, R484, R494) -/

namespace Sys2Proof.Machine

/-! ### The first step of a routine -/

/-- From `w` to `u` a routine's first step prepares its cores and its own data: of the registers only the fields `fs`
may have changed. -/
structure prepared (fs : List Fld) (w u : State) : Prop where
  regs    : regsKept w u fs
  ticks   : u.ticks = w.ticks
  tasks   : u.tasks = w.tasks
  granary : u.granary = w.granary
  miller  : u.miller = w.miller

namespace prepared

variable {fs gs : List Fld} {w t u : State}

theorem refl (w : State) : prepared fs w w := ⟨regsKept_refl w fs, rfl, rfl, rfl, rfl⟩

theorem trans (h : prepared fs w t) (h' : prepared fs t u) : prepared fs w u :=
  ⟨regsKept_trans h.regs h'.regs, h'.ticks.trans h.ticks, h'.tasks.trans h.tasks, h'.granary.trans h.granary,
    h'.miller.trans h.miller⟩

theorem mono (h : prepared gs w u) (hs : ∀ g ∈ gs, g ∈ fs) : prepared fs w u :=
  ⟨regsKept_mono h.regs hs, h.ticks, h.tasks, h.granary, h.miller⟩

theorem wr {f : Fld} {v : Nat} (h : prepared fs w t) (hf : f ∈ fs) : prepared fs w (t.wr f v) :=
  ⟨regsKept_wr f v h.regs hf, h.ticks, h.tasks, h.granary, h.miller⟩

theorem report (h : prepared fs w t) (hu : reported fs t u) : prepared fs w u :=
  h.trans ⟨hu.regs, hu.ticks, hu.tasks, hu.granary, hu.miller⟩

theorem ite {c : Prop} [Decidable c] (ht : prepared fs w t) (hu : prepared fs w u) :
    prepared fs w (if c then t else u) := by
  split
  · exact ht
  · exact hu

theorem foldl {β : Type} {g : State → β → State} {l : List β}
    (hg : ∀ a, ∀ x ∈ l, prepared fs w a → prepared fs w (g a x))
    (h : prepared fs w t) : prepared fs w (l.foldl g t) := by
  induction l generalizing t with
  | nil => exact h
  | cons x l ih => exact ih (fun a y hy => hg a y (List.mem_cons_of_mem x hy)) (hg t x List.mem_cons_self h)

theorem withRoutine {n : Nat} {f : Routine → Routine} (h : prepared fs w t) : prepared fs w (t.withRoutine n f) :=
  ⟨regsKept_upd h.regs rfl, h.ticks, h.tasks, h.granary, h.miller⟩

theorem loomPut {mask n base e v : Nat} (h : prepared fs w t) : prepared fs w (t.loomPut mask n base e v) :=
  ⟨regsKept_upd h.regs rfl, h.ticks, h.tasks, h.granary, h.miller⟩

theorem loomFill {mask n base : Nat} {l : List Nat} (h : prepared fs w t) :
    prepared fs w (t.loomFill mask n base l) := h.foldl fun _ _ _ ha => ha.loomPut

/-- The step that begins in `u` opens with a fresh record. -/
theorem opened {s : State} {n phase : Nat} (h : prepared fs (s.newRecord n phase) u) (hphase : phase < 256)
    (hfs : ∀ g ∈ fs, (Hdr.INJ_COUNT 0x62).key ≠ g.key := by decide) :
    openedStep s (u.begunStep n) n phase (u.routine n) := by
  have hf := newRecord_fresh s n hphase
  have hb := begunStep_reported u n
  generalize s.newRecord n phase = w at h hf
  have htask : u.task n = s.task n := task_congr (h.tasks.trans (congrArg Work.tasks hf.work)) n
  have hticks : u.ticks = s.ticks := h.ticks.trans (congrArg Work.ticks hf.work)
  have hrecd (f : RecFld) : (u.begunStep n).recd n f = w.recd n f :=
    (begunStep_recd u n f).trans (recd_congr h.miller n f)
  exact
    { ticks := hb.ticks.trans hticks
      granary := hb.granary.trans (h.granary.trans (congrArg Work.granary hf.work))
      inject := (hb.regs _ (by decide)).trans ((h.regs _ hfs).trans (rd_congr hf.regs _))
      task := by rw [begunStep_task, htask, hticks]
      routine := begunStep_routine u n
      phase := (hrecd _).trans hf.phase
      step := (hrecd _).trans hf.step
      block := (hrecd _).trans hf.block
      peer := (hrecd _).trans hf.peer
      inst := (hrecd _).trans hf.inst }

end prepared

/-- From `a` to `b` a piece of work of slot `n`'s routine has been done that queues nothing: its task, the count of its
steps and the task number of its record are as they were. -/
structure pieceDone (n : Nat) (a b : State) : Prop where
  task : b.task n = a.task n
  step : b.recd n .step = a.recd n .step
  inst : b.recd n .taskNum = a.recd n .taskNum
  out  : (b.routine n).out = (a.routine n).out

/-- A first step of one piece of work that queues nothing. -/
theorem openedStep.one {s u b : State} {n phase : Nat} {r : Routine} {eccs : List EccResult}
    {work : State → EccResult → Option State} (ha : openedStep s (u.begunStep n) n phase r) (hrun : (s.task n).st = 2)
    (hstop : (s.task n).stop = none) (hr : r.out = []) (hwork : work (u.begunStep n) (eccs.headD .ok) = some b)
    (hb : pieceDone n (u.begunStep n) b) :
    u.routineStep n 1 eccs work = b.endedStep n ∧ firstStep s (b.endedStep n) n := by
  have htask : b.task n = { s.task n with sentAt := s.ticks } := hb.task.trans ha.task
  have hst : (u.task n).st = 2 := by
    have h := congrArg Task.st (begunStep_task u n)
    rw [ha.task] at h
    exact h.symm.trans hrun
  have hout : (u.routine n).out = [] := by rw [← begunStep_routine, ha.routine, hr]
  refine ⟨routineStep_one hst hout hwork ?_ ?_ ?_, endedStep_first ?_ ?_ ?_⟩
  · rw [hb.out, ha.routine, hr]
  · rw [htask, hrun]
    decide
  · rw [htask]
    exact hstop
  · rw [hb.step, ha.step]
  · rw [htask]
  · rw [hb.inst, ha.inst]

theorem openedStep.localBytes {s a : State} {n phase x len : Nat} {r : Routine} (ha : openedStep s a n phase r)
    (h : s.plainSource n x len) : a.localBytes n x len .ok = (some (some (s.granaryBytes x len)), a) := by
  have hpart := ha.source h 0 (off := 0) rfl
  rwa [State.sourcePart, ha.task, if_pos (by rw [h.1]; rfl)] at hpart

/-- The first part of a plain source goes to what is made of its bytes. -/
theorem openedStep.withPiece {s a : State} {n phase x len : Nat} {r : Routine} (ha : openedStep s a n phase r)
    (h : s.plainSource n x len) (total : Nat) {off : Nat} (hoff : off = 0) (f : State → List Byte → State) :
    a.withPiece n x total off len .ok f = some (f a (s.granaryBytes x len)) := by
  simp only [State.withPiece, ha.source h total hoff]

/-! ### SELECT's first piece (R474, R475, R481) -/

/-- What a SELECT counts of its first piece: the elements, the NaNs dropped, and by the BITONIC method the passes. -/
def State.selCounted (a : State) (n len : Nat) (q : List (Nat × Nat) × Nat) : State :=
  let s1 := (a.bump Ctr.SIEVE_ELEMENTS_SCANNED len).bump Ctr.SIEVE_NAN_COUNT q.2
  if selBitonic (a.task n).desc then s1.bump Ctr.SIEVE_PASSES (passesFor q.1.length) else s1

/-- The register fields that counting a piece writes after its elements. -/
def selFields : List Fld := [Ctr.SIEVE_NAN_COUNT.fld, Ctr.SIEVE_PASSES.fld, Hdr.CNT_OVF Ctr.SIEVE_PASSES.page]

theorem selCounted_reported (a : State) (n len : Nat) (q : List (Nat × Nat) × Nat) :
    reported selFields (a.bump Ctr.SIEVE_ELEMENTS_SCANNED len) (a.selCounted n len q) := by
  have h1 : reported selFields (a.bump Ctr.SIEVE_ELEMENTS_SCANNED len)
      ((a.bump Ctr.SIEVE_ELEMENTS_SCANNED len).bump Ctr.SIEVE_NAN_COUNT q.2) :=
    (reported.refl _).bump (by decide) (by decide)
  exact (h1.bump (by decide) (by decide)).ite h1

theorem selCounted_work (a : State) (n len : Nat) (q : List (Nat × Nat) × Nat) :
    (a.selCounted n len q).work = a.work :=
  (selCounted_reported a n len q).work.trans (work_bump ..)

/-- SELECT's first piece has been ranked: it is counted, its list is row 0's, and the next piece or row follows. -/
def State.selRanked (a : State) (n len : Nat) (q : List (Nat × Nat) × Nat) : State :=
  let s3 := (a.selCounted n len q).mergeRow n 0 q.1
  if 0 + 1 < selPieces (a.task n).desc then s3.setRec n .peer (0 + 1)
  else (s3.setRec n .peer 0).setRec n .block (0 + 1)

theorem length_elemsOf (w n : Nat) (b : List Byte) : (elemsOf w n b).length = n := by
  rw [elemsOf, List.length_map, List.length_range]

theorem selWork_first {s a : State} {n len : Nat} {d : List Byte} (ha : openedStep s a n 0 Routine.blank)
    (hd : d = (s.task n).desc) (hrows : 1 ≤ selRows d) (hlen : len = min 4096 (selLen d))
    (hsrc : s.plainSource n (selSrc d) (len * selWidth d)) :
    a.selWork n .ok = some (a.selRanked n len (partialList (selInt d) (selSmallest d) (s.task n).drop (selK d)
      (pieceKeys (selType d) (selBase d)
        (elemsOf (selWidth d) len (s.granaryBytes (selSrc d) (len * selWidth d)))))) := by
  subst hd
  have hlen' : min 4096 (selLen (s.task n).desc - 4096 * 0) = len := hlen.symm
  have hpiece : a.selPiece n 0 0 .ok = (some (some (elemsOf (selWidth (s.task n).desc) len
      (s.granaryBytes (selSrc (s.task n).desc) (len * selWidth (s.task n).desc)))), a) := by
    simp only [State.selPiece, ha.task, hlen', ha.source hsrc _ (off := 0 * selStride (s.task n).desc +
      4096 * 0 * selWidth (s.task n).desc) (by omega), Option.map_some]
  simp only [State.selWork, ha.phase, State.selLocal, ha.block, ha.peer, ha.task, if_neg (Nat.not_le.2 hrows), hpiece,
    length_elemsOf, State.selRanked, State.selCounted, Nat.mul_zero, Nat.add_zero]

theorem setRec_routine (s : State) (n m : Nat) (f : RecFld) (v : Nat) :
    (s.setRec n f v).routine m = s.routine m := rfl

theorem selRanked_routine (a : State) (n len : Nat) (q : List (Nat × Nat) × Nat) :
    (a.selRanked n len q).routine n = ((a.selCounted n len q).mergeRow n 0 q.1).routine n := by
  unfold State.selRanked
  extract_lets s3
  split
  · rw [setRec_routine]
  · rw [setRec_routine, setRec_routine]

theorem selRanked_recd (a : State) (n len : Nat) (q : List (Nat × Nat) × Nat) {f : RecFld}
    (hpeer : RecFld.peer.apart f) (hblock : RecFld.block.apart f) : (a.selRanked n len q).recd n f = a.recd n f := by
  have h3 : ((a.selCounted n len q).mergeRow n 0 q.1).recd n f = a.recd n f :=
    recd_congr (congrArg Work.miller (selCounted_work a n len q)) n f
  unfold State.selRanked
  extract_lets s3
  split
  · rw [recd_setRec_apart _ _ _ hpeer, h3]
  · rw [recd_setRec_apart _ _ _ hblock, recd_setRec_apart _ _ _ hpeer, h3]

/-- Ranking changes no more than the registers, the record and the routine's own data. -/
theorem selRanked_kept (a : State) (n len : Nat) (q : List (Nat × Nat) × Nat) :
    (a.selRanked n len q).tasks = a.tasks ∧ (a.selRanked n len q).granary = a.granary ∧
      (a.selRanked n len q).regs = (a.selCounted n len q).regs := by
  have hwork := selCounted_work a n len q
  have htasks : (a.selCounted n len q).tasks = a.tasks := congrArg Work.tasks hwork
  have hgranary : (a.selCounted n len q).granary = a.granary := congrArg Work.granary hwork
  unfold State.selRanked
  generalize a.selCounted n len q = b at htasks hgranary ⊢
  split
  · exact ⟨htasks, hgranary, rfl⟩
  · exact ⟨htasks, hgranary, rfl⟩

theorem selRanked_keys (a : State) (n len : Nat) (q : List (Nat × Nat) × Nat) (hblank : a.routine n = Routine.blank) :
    mget ((a.selRanked n len q).routine n).keys 0 [] =
      (keyMerge (selInt (a.task n).desc) (selSmallest (a.task n).desc) [] q.1).take (selK (a.task n).desc) := by
  have hwork := selCounted_work a n len q
  have htask : (a.selCounted n len q).task n = a.task n := task_congr (congrArg Work.tasks hwork) n
  have hroutine : (a.selCounted n len q).routine n = Routine.blank := by
    rw [← hblank]
    simp only [State.routine, show (a.selCounted n len q).routines = a.routines from congrArg Work.routines hwork]
  rw [selRanked_routine, State.mergeRow, routine_withRoutine, hroutine, htask]
  simp only [mget_mset_same]
  rfl

theorem selRanked_done (a : State) (n len : Nat) (q : List (Nat × Nat) × Nat) :
    pieceDone n a (a.selRanked n len q) := by
  refine ⟨task_congr (selRanked_kept a n len q).1 n, selRanked_recd _ _ _ _ (by decide) (by decide),
    selRanked_recd _ _ _ _ (by decide) (by decide), ?_⟩
  rw [selRanked_routine, State.mergeRow, routine_withRoutine]
  simp only [State.routine, show (a.selCounted n len q).routines = a.routines from
    congrArg Work.routines (selCounted_work a n len q)]

theorem selStart_prepared {s : State} {n : Nat} (hnew : mfind s.routines n = none) :
    s.selStart n = (s.newRecord n 0).bump Ctr.SIEVE_SELECTS_STARTED 1 ∧
      prepared [Ctr.SIEVE_SELECTS_STARTED.fld, Hdr.CNT_OVF Ctr.SIEVE_SELECTS_STARTED.page] (s.newRecord n 0)
        (s.selStart n) := by
  have hstart : s.selStart n = (s.newRecord n 0).bump Ctr.SIEVE_SELECTS_STARTED 1 := if_neg (by simp [hnew])
  rw [hstart]
  exact ⟨rfl, (prepared.refl _).report ((reported.refl _).bump (by simp) (by simp))⟩

/-- SELECT's first step: it is counted, and the first row's first piece is ranked. -/
theorem opSelect_first {s : State} {n len : Nat} {d : List Byte} (hdue : s.routineDue n 7 = true)
    (hnew : mfind s.routines n = none) (hd : d = (s.task n).desc) (hrows : 1 ≤ selRows d)
    (hlen : len = min 4096 (selLen d)) (hsrc : s.plainSource n (selSrc d) (len * selWidth d)) :
    completes (.opSelect n 1 []) s fun t => firstStep s t n ∧ t.granary = s.granary ∧
      mget (t.routine n).keys 0 [] = (keyMerge (selInt d) (selSmallest d) []
        (partialList (selInt d) (selSmallest d) (s.task n).drop (selK d) (pieceKeys (selType d) (selBase d)
          (elemsOf (selWidth d) len (s.granaryBytes (selSrc d) (len * selWidth d))))).1).take (selK d) ∧
      t.rd Ctr.SIEVE_SELECTS_STARTED.fld = (s.rd Ctr.SIEVE_SELECTS_STARTED.fld + 1) % 2 ^ 64 ∧
      t.rd Ctr.SIEVE_ELEMENTS_SCANNED.fld = (s.rd Ctr.SIEVE_ELEMENTS_SCANNED.fld + len) % 2 ^ 64 := by
  obtain ⟨hstart, hprep⟩ := selStart_prepared hnew
  have hroutine : (s.selStart n).routine n = Routine.blank := by
    rw [hstart, State.routine, bump_routines]
    exact (newRecord_fresh s n (phase := 0) (by decide)).routine
  have hstarted : (s.selStart n).rd Ctr.SIEVE_SELECTS_STARTED.fld = (s.rd Ctr.SIEVE_SELECTS_STARTED.fld + 1) % 2 ^ 64 ∧
      (s.selStart n).rd Ctr.SIEVE_ELEMENTS_SCANNED.fld = s.rd Ctr.SIEVE_ELEMENTS_SCANNED.fld := by
    have hregs := (newRecord_fresh s n (phase := 0) (by decide)).regs
    rw [hstart, rd_bump_same _ _ _ (by decide), rd_bump_ne _ _ _ _ (by decide) (by decide), rd_congr hregs,
      rd_congr hregs]
    exact ⟨rfl, rfl⟩
  have ha := hprep.opened (by decide)
  rw [hroutine] at ha
  have hbegun := (begunStep_reported (s.selStart n) n).regs
  have hwork := selWork_first ha hd hrows hlen hsrc
  refine ⟨_, if_pos hdue, ?_⟩
  generalize partialList (selInt d) (selSmallest d) (s.task n).drop (selK d) (pieceKeys (selType d) (selBase d)
    (elemsOf (selWidth d) len (s.granaryBytes (selSrc d) (len * selWidth d)))) = q at hwork ⊢
  obtain ⟨hstep, hfirst⟩ := ha.one (eccs := []) (work := fun a e => a.selWork n e) (routineDue_running hdue)
    hsrc.2.2.2.2.2 rfl hwork (selRanked_done _ n len q)
  rw [hstep]
  have hseed : ((s.selStart n).setTask n { (s.selStart n).task n with sentAt := (s.selStart n).ticks }).regs =
      (s.selStart n).regs := rfl
  generalize (s.selStart n).begunStep n = a at ha hbegun hfirst
  obtain ⟨-, hgranary, hregs⟩ := selRanked_kept a n len q
  have hend (f : Fld) (hf : ∀ g ∈ traceFields, f.key ≠ g.key) :
      ((a.selRanked n len q).endedStep n).rd f = (a.selCounted n len q).rd f :=
    ((endedStep_reported (a.selRanked n len q) n).regs f hf).trans (rd_congr hregs f)
  have hcounted := (selCounted_reported a n len q).regs
  refine ⟨hfirst, ?_, ?_, ?_, ?_⟩
  · rw [endedStep_granary, hgranary, ha.granary]
  · rw [endedStep_routine, selRanked_keys a n len q ha.routine, ha.task, hd]
  · rw [hend _ (by decide), hcounted _ (by decide), rd_bump_ne _ _ _ _ (by decide) (by decide), hbegun _ (by decide),
      rd_congr hseed, hstarted.1]
  · rw [hend _ (by decide), hcounted _ (by decide), rd_bump_same _ _ _ (by decide), hbegun _ (by decide),
      rd_congr hseed, hstarted.2]

/-! ### SELECT's end (R494) -/

/-- A SELECT with no more than its end left ends with OK and the NaNs dropped. -/
theorem opSelect_ends {s : State} {n blocks : Nat} {eccs : List EccResult} (hdue : s.routineDue n 7 = true)
    (hstarted : (mfind s.routines n).isSome = true) (hphase : s.recd n .phase = 4)
    (hclosing : (s.routine n).closing = true) (hacked : s.allAcked n = true) :
    completes (.opSelect n (blocks + 1) eccs) s fun t => groupEnded s t n (s.routine n).nans := by
  have hstart : s.selStart n = s := if_pos hstarted
  refine ⟨_, if_pos hdue, ?_⟩
  rw [hstart]
  refine routineStep_ends (routineDue_running hdue) hacked fun e => ?_
  simp only [State.selWork, begunStep_recd, hphase, State.selRecords, begunStep_routine, hclosing, begunStep_allAcked,
    hacked, if_true]

end Sys2Proof.Machine
end

section
/-! ## How a SCAN begins and ends (O52: R401, R499, R505) -/

namespace Sys2Proof.Machine

/-! ### The rows that a SCAN holds (R401) -/

/-- Slot `n`'s task holds the accumulators of row `r`. -/
def State.heldBy (s : State) (n r : Nat) : Prop :=
  s.rd (Reg.MILL_ACC_HELD_SLOT r) = n ∧ s.is (Reg.MILL_ACC_HELD_VALID r) = true

/-- Row `r` held for slot `n`, unless a task holds it. -/
def State.holdRow (s : State) (n r : Nat) : State :=
  if s.is (Reg.MILL_ACC_HELD_VALID r) then s
  else (s.wr (Reg.MILL_ACC_HELD_VALID r) 1).wr (Reg.MILL_ACC_HELD_SLOT r) n

theorem holdRows_eq_foldl (s : State) (n mask : Nat) :
    s.holdRows n mask = (rowsOf mask).foldl (fun a r => a.holdRow n r) s := rfl

/-- The register fields of the rows held. -/
def heldFields : List Fld :=
  (List.range 8).flatMap fun r => [Reg.MILL_ACC_HELD_VALID r, Reg.MILL_ACC_HELD_SLOT r]

theorem mem_heldFields {r : Nat} (hr : r < 8) :
    Reg.MILL_ACC_HELD_VALID r ∈ heldFields ∧ Reg.MILL_ACC_HELD_SLOT r ∈ heldFields :=
  ⟨List.mem_flatMap.2 ⟨r, List.mem_range.2 hr, by simp⟩, List.mem_flatMap.2 ⟨r, List.mem_range.2 hr, by simp⟩⟩

theorem prepared.holdRows {fs : List Fld} {w t : State} {n mask : Nat} (h : prepared fs w t)
    (hfs : ∀ g ∈ heldFields, g ∈ fs) : prepared fs w (t.holdRows n mask) := by
  rw [holdRows_eq_foldl]
  refine h.foldl fun a r hr ha => ?_
  obtain ⟨hvalid, hslot⟩ := mem_heldFields (mem_rowsOf.1 hr).1
  exact ha.ite ((ha.wr (hfs _ hvalid)).wr (hfs _ hslot))

theorem holdRows_routines (s : State) (n mask : Nat) : (s.holdRows n mask).routines = s.routines :=
  foldl_keeps State.routines _ (fun u r => by split <;> rfl) _ _

theorem heldBy_congr {s t : State} {n r : Nat} {fs : List Fld} (h : regsKept s t fs)
    (hfs : ∀ r < 8, ∀ g ∈ fs, (Reg.MILL_ACC_HELD_SLOT r).key ≠ g.key ∧ (Reg.MILL_ACC_HELD_VALID r).key ≠ g.key)
    (hr : r < 8) : t.heldBy n r ↔ s.heldBy n r := by
  rw [State.heldBy, State.heldBy, State.is, State.is, h _ fun g hg => (hfs r hr g hg).1,
    h _ fun g hg => (hfs r hr g hg).2]

theorem holdRow_same {s : State} {n r : Nat} (hn : n < 64) (hr : r < 8) (hfree : s.heldByOther n r = false) :
    (s.holdRow n r).heldBy n r := by
  have hkey : (Reg.MILL_ACC_HELD_VALID r).key ≠ (Reg.MILL_ACC_HELD_SLOT r).key :=
    (by decide : ∀ r < 8, (Reg.MILL_ACC_HELD_VALID r).key ≠ (Reg.MILL_ACC_HELD_SLOT r).key) r hr
  unfold State.holdRow
  split
  next hvalid =>
    simp only [State.heldByOther, hvalid, Bool.true_and, bne_eq_false_iff_eq] at hfree
    exact ⟨hfree, hvalid⟩
  next =>
    refine ⟨by rw [rd_wr_same]; exact Nat.mod_eq_of_lt hn, ?_⟩
    rw [State.is, rd_wr_ne _ _ _ _ hkey, rd_wr_same]
    rfl

theorem holdRow_other (s : State) (n : Nat) {r q : Nat} (hr : r < 8) (hq : q < 8) (hne : q ≠ r) :
    (s.holdRow n r).rd (Reg.MILL_ACC_HELD_SLOT q) = s.rd (Reg.MILL_ACC_HELD_SLOT q) ∧
      (s.holdRow n r).rd (Reg.MILL_ACC_HELD_VALID q) = s.rd (Reg.MILL_ACC_HELD_VALID q) := by
  obtain ⟨h1, h2, h3, h4⟩ := (by decide : ∀ r < 8, ∀ q < 8, q ≠ r →
    (Reg.MILL_ACC_HELD_SLOT q).key ≠ (Reg.MILL_ACC_HELD_VALID r).key ∧
    (Reg.MILL_ACC_HELD_SLOT q).key ≠ (Reg.MILL_ACC_HELD_SLOT r).key ∧
    (Reg.MILL_ACC_HELD_VALID q).key ≠ (Reg.MILL_ACC_HELD_VALID r).key ∧
    (Reg.MILL_ACC_HELD_VALID q).key ≠ (Reg.MILL_ACC_HELD_SLOT r).key) r hr q hq hne
  unfold State.holdRow
  split
  · exact ⟨rfl, rfl⟩
  · exact ⟨by rw [rd_wr_ne _ _ _ _ h2, rd_wr_ne _ _ _ _ h1], by rw [rd_wr_ne _ _ _ _ h4, rd_wr_ne _ _ _ _ h3]⟩

theorem heldBy_not_other {s : State} {n r : Nat} (h : s.heldBy n r) : s.heldByOther n r = false := by
  simp [State.heldByOther, h.1, h.2]

theorem foldl_holdRow {n : Nat} (hn : n < 64) {r : Nat} (hr : r < 8) (l : List Nat) (s : State)
    (hl : ∀ q ∈ l, q < 8) (hfree : s.heldByOther n r = false) (h : r ∈ l ∨ s.heldBy n r) :
    (l.foldl (fun a q => a.holdRow n q) s).heldBy n r := by
  induction l generalizing s with
  | nil => exact h.resolve_left List.not_mem_nil
  | cons q l ih =>
    have hl' : ∀ p ∈ l, p < 8 := fun p hp => hl p (List.mem_cons_of_mem q hp)
    by_cases hrq : r = q
    · have hsame : (s.holdRow n q).heldBy n r := by
        rw [← hrq]
        exact holdRow_same hn hr hfree
      exact ih _ hl' (heldBy_not_other hsame) (.inr hsame)
    · obtain ⟨hslot, hvalid⟩ := holdRow_other s n (hl q List.mem_cons_self) hr hrq
      refine ih _ hl' ?_ ?_
      · rw [State.heldByOther, State.is, hslot, hvalid]
        exact hfree
      · rw [State.heldBy, State.is, hslot, hvalid]
        exact h.imp_left fun hm => (List.mem_cons.1 hm).resolve_left hrq

theorem holdRows_holds {s : State} {n mask : Nat} (hn : n < 64)
    (hfree : ∀ r ∈ rowsOf mask, s.heldByOther n r = false) :
    ∀ r ∈ rowsOf mask, (s.holdRows n mask).heldBy n r := fun r hr =>
  foldl_holdRow hn (mem_rowsOf.1 hr).1 _ s (fun _ hq => (mem_rowsOf.1 hq).1) (hfree r hr) (.inl hr)

/-! ### A SCAN's start (R499) -/

/-- In `t` slot `n`'s SCAN, which was due in `s`, has been counted and holds the rows of its mask. -/
def scanBegan (s t : State) (n : Nat) : Prop :=
  t.rd Ctr.LOOM_SCANS_STARTED.fld = (s.rd Ctr.LOOM_SCANS_STARTED.fld + 1) % 2 ^ 64 ∧
    ∀ r ∈ rowsOf (scMask (s.task n).desc), t.heldBy n r

/-- What a change of register fields leaves of a SCAN's beginning. -/
theorem scanBegan.kept {s t u : State} {n : Nat} {fs : List Fld} (h : scanBegan s t n) (hk : regsKept t u fs)
    (hcount : ∀ g ∈ fs, Ctr.LOOM_SCANS_STARTED.fld.key ≠ g.key := by decide)
    (hheld : ∀ r < 8, ∀ g ∈ fs, (Reg.MILL_ACC_HELD_SLOT r).key ≠ g.key ∧ (Reg.MILL_ACC_HELD_VALID r).key ≠ g.key := by
      decide) : scanBegan s u n :=
  ⟨(hk _ hcount).trans h.1, fun r hr => (heldBy_congr hk hheld (mem_rowsOf.1 hr).1).2 (h.2 r hr)⟩

/-- The phase in which a SCAN's record starts. -/
def scanPhase (mode : Nat) : Nat := if mode = 2 then 3 else if mode = 3 then 4 else 0

/-- A SCAN's own data at its first piece of work: a STREAM stands at its first chunk entry. -/
def scanRoutine (mode : Nat) (d : List Byte) : Routine :=
  if mode = 2 then { Routine.blank with entry := scSrc d } else Routine.blank

/-- A SCAN counted, its rows held, before its accumulators take their first values. -/
def State.scanHeld (s : State) (n mode : Nat) : State :=
  ((s.newRecord n (scanPhase mode)).bump Ctr.LOOM_SCANS_STARTED 1).holdRows n (scMask (s.task n).desc)

/-- The register fields that a SCAN's start may change. -/
def scanFields : List Fld :=
  [Ctr.LOOM_SCANS_STARTED.fld, Hdr.CNT_OVF Ctr.LOOM_SCANS_STARTED.page] ++ heldFields

theorem scanHeld_prepared (s : State) (n mode : Nat) :
    prepared scanFields (s.newRecord n (scanPhase mode)) (s.scanHeld n mode) :=
  ((prepared.refl _).report ((reported.refl _).bump (by simp [scanFields]) (by simp [scanFields]))).holdRows
    fun _ hg => List.mem_append_right _ hg

theorem scanPhase_lt (mode : Nat) : scanPhase mode < 256 := by
  unfold scanPhase
  split
  · decide
  · split <;> decide

theorem scanHeld_routine (s : State) (n mode : Nat) : (s.scanHeld n mode).routine n = Routine.blank := by
  rw [← (newRecord_fresh s n (scanPhase_lt mode)).routine, State.routine, State.scanHeld, holdRows_routines,
    bump_routines]
  rfl

theorem scanHeld_began {s : State} {n mode : Nat} (hn : n < 64)
    (hfree : ∀ r ∈ rowsOf (scMask (s.task n).desc), s.heldByOther n r = false) :
    scanBegan s (s.scanHeld n mode) n := by
  have hregs := (newRecord_fresh s n (scanPhase_lt mode)).regs
  have hcount := regsKept_bump Ctr.LOOM_SCANS_STARTED 1
    (regsKept_refl (s.newRecord n (scanPhase mode)) [Ctr.LOOM_SCANS_STARTED.fld, Hdr.CNT_OVF Ctr.LOOM_SCANS_STARTED.page])
    (by simp) (by simp)
  have hheld : regsKept _ (s.scanHeld n mode) heldFields :=
    ((prepared.refl ((s.newRecord n (scanPhase mode)).bump Ctr.LOOM_SCANS_STARTED 1)).holdRows fun _ hg => hg).regs
  refine ⟨?_, holdRows_holds hn fun r hr => ?_⟩
  · rw [hheld _ (by decide), rd_bump_same _ _ _ (by decide), rd_congr hregs]
  · have hr8 := (mem_rowsOf.1 hr).1
    obtain ⟨hslot, hvalid⟩ := (by decide : ∀ r < 8,
      (∀ g ∈ [Ctr.LOOM_SCANS_STARTED.fld, Hdr.CNT_OVF Ctr.LOOM_SCANS_STARTED.page],
        (Reg.MILL_ACC_HELD_SLOT r).key ≠ g.key) ∧
      (∀ g ∈ [Ctr.LOOM_SCANS_STARTED.fld, Hdr.CNT_OVF Ctr.LOOM_SCANS_STARTED.page],
        (Reg.MILL_ACC_HELD_VALID r).key ≠ g.key)) r hr8
    rw [State.heldByOther, State.is, hcount _ hslot, hcount _ hvalid, rd_congr hregs, rd_congr hregs]
    exact hfree r hr

theorem scanHeld_task (s : State) (n mode : Nat) : (s.scanHeld n mode).task n = s.task n := by
  have hheld := (scanHeld_prepared s n mode).tasks
  have hwork := (newRecord_fresh s n (scanPhase_lt mode)).work
  generalize s.newRecord n (scanPhase mode) = w at hheld hwork
  exact task_congr (hheld.trans (congrArg Work.tasks hwork)) n

theorem loomFill_routine (s : State) (mask n base : Nat) (l : List Nat) (m : Nat) :
    (s.loomFill mask n base l).routine m = s.routine m :=
  foldl_keeps (fun a : State => a.routine m) (fun (acc : State) (q : Nat × Nat) => acc.loomPut mask n base q.2 q.1)
    (fun _ _ => rfl) _ _

/-- The accumulators that a SCAN of a mode prepares over its rows. -/
def State.scanFilled (w : State) (mode : Nat) (d : List Byte) : State :=
  let zero := List.replicate (scN d) 0
  if mode = 2 then w.loomFill (scMask d) (scN d) accB zero
  else if mode = 3 then (rowsOf (scMask d)).foldl (fun (acc : State) r => acc.loomFill (2 ^ r) (scN d) accB zero) w
  else (w.loomFill (scMask d) (scN d) accA (List.replicate (scN d) f32One)).loomFill (scMask d) (scN d) accB zero

theorem scanFilled_prepared (w : State) (mode : Nat) (d : List Byte) : prepared [] w (w.scanFilled mode d) :=
  (prepared.refl w).loomFill.ite
    (((prepared.refl w).foldl fun _ _ _ ha => ha.loomFill).ite (prepared.refl w).loomFill.loomFill)

theorem scanFilled_routine (w : State) (mode : Nat) (d : List Byte) (n : Nat) :
    (w.scanFilled mode d).routine n = w.routine n := by
  unfold State.scanFilled
  extract_lets zero
  split
  · exact loomFill_routine ..
  split
  · exact foldl_keeps (fun a : State => a.routine n) _ (fun a r => loomFill_routine ..) _ _
  · rw [loomFill_routine, loomFill_routine]

/-- A SCAN at its first step: its rows are held, its accumulators filled, and a STREAM stands at its first entry. -/
theorem scanStart_new {s : State} {n mode : Nat} (hmode : scMode (s.task n).desc = mode)
    (hnew : mfind s.routines n = none) (hinit : mode = 2 → scInit (s.task n).desc = false) (e : EccResult) :
    s.scanStart n e =
      if mode = 2 then ((s.scanHeld n mode).scanFilled mode (s.task n).desc).withRoutine n
        fun r => { r with entry := scSrc (s.task n).desc }
      else (s.scanHeld n mode).scanFilled mode (s.task n).desc := by
  have htask := scanHeld_task s n mode
  have hheld : ((s.newRecord n (if mode = 2 then 3 else if mode = 3 then 4 else 0)).bump
      Ctr.LOOM_SCANS_STARTED 1).holdRows n (scMask (s.task n).desc) = s.scanHeld n mode := rfl
  unfold State.scanStart
  rw [if_neg (by simp [hnew])]
  simp only [hmode, hheld]
  generalize s.scanHeld n mode = w at htask
  by_cases h2 : mode = 2
  · have hval : w.scanInit n e = (some (List.replicate (scN (s.task n).desc) 0), w) := by
      simp only [State.scanInit, htask, hinit h2, Bool.false_eq_true, if_false]
    simp only [h2, if_true, hval, Option.getD_some, State.scanFilled]
  · simp only [h2, if_false, State.scanFilled]

/-- What a SCAN's first step starts from. -/
structure scanOpened (s a : State) (n mode : Nat) : Prop where
  opened : openedStep s a n (scanPhase mode) (scanRoutine mode (s.task n).desc)
  began  : scanBegan s a n
  regs   : regsKept s a (scanFields ++ stepFields)

theorem scanStart_opened {s : State} {n mode : Nat} (hdue : s.scanDue n mode = true)
    (hnew : mfind s.routines n = none) (hinit : mode = 2 → scInit (s.task n).desc = false) (e : EccResult) :
    scanOpened s ((s.scanStart n e).begunStep n) n mode := by
  simp only [State.scanDue, State.routineDue, State.runsRoutine, Bool.and_eq_true, beq_iff_eq, decide_eq_true_eq,
    List.all_eq_true, Bool.not_eq_true'] at hdue
  obtain ⟨⟨⟨⟨⟨⟨⟨⟨hn, -⟩, -⟩, -⟩, -⟩, -⟩, hmode⟩, -⟩, hfree⟩ := hdue
  have hheld := scanHeld_prepared s n mode
  have hbegan := scanHeld_began (mode := mode) hn hfree
  have hblank := scanHeld_routine s n mode
  have hstart := scanStart_new hmode hnew hinit e
  have hfresh := (newRecord_fresh s n (scanPhase_lt mode)).regs
  generalize s.scanHeld n mode = w at hheld hbegan hblank hstart
  have hfill := scanFilled_prepared w mode (s.task n).desc
  have hsame := (scanFilled_routine w mode (s.task n).desc n).trans hblank
  generalize w.scanFilled mode (s.task n).desc = x at hfill hsame hstart
  have hprep : prepared [] w (s.scanStart n e) := by
    rw [hstart]
    exact hfill.withRoutine.ite hfill
  have hroutine : (s.scanStart n e).routine n = scanRoutine mode (s.task n).desc := by
    rw [hstart, scanRoutine]
    split
    · rw [routine_withRoutine, hsame]
    · exact hsame
  have hopen := (hheld.trans (hprep.mono fun _ hg => absurd hg List.not_mem_nil)).opened (scanPhase_lt mode)
  rw [hroutine] at hopen
  have hbegun : regsKept (s.scanStart n e) ((s.scanStart n e).begunStep n) stepFields :=
    (begunStep_reported (s.scanStart n e) n).regs
  refine ⟨hopen, (hbegan.kept hprep.regs).kept hbegun, fun f hf => ?_⟩
  rw [hbegun f fun g hg => hf g (List.mem_append_right _ hg), hprep.regs f fun _ hg => absurd hg List.not_mem_nil,
    hheld.regs f fun g hg => hf g (List.mem_append_left _ hg), rd_congr hfresh]

/-- A SCAN's first step of one piece of work that queues nothing: its rows are held and it has been counted. -/
theorem scanStep_first {s : State} {n mode : Nat} {e : EccResult} {work : State → EccResult → Option State}
    {piece : State → State} {fs : List Fld} (hdue : s.scanDue n mode = true) (hnew : mfind s.routines n = none)
    (hinit : mode = 2 → scInit (s.task n).desc = false) (hstop : (s.task n).stop = none)
    (hwork : ∀ a, openedStep s a n (scanPhase mode) (scanRoutine mode (s.task n).desc) → work a .ok = some (piece a))
    (hdone : ∀ a, pieceDone n a (piece a)) (hkept : ∀ a, regsKept a (piece a) fs)
    (hcount : ∀ g ∈ fs, Ctr.LOOM_SCANS_STARTED.fld.key ≠ g.key := by decide)
    (hheld : ∀ r < 8, ∀ g ∈ fs, (Reg.MILL_ACC_HELD_SLOT r).key ≠ g.key ∧ (Reg.MILL_ACC_HELD_VALID r).key ≠ g.key := by
      decide) :
    ∃ a t, scanOpened s a n mode ∧ t = (piece a).endedStep n ∧
      (s.scanStart n e).routineStep n 1 [] work = t ∧ firstStep s t n ∧ scanBegan s t n ∧
      (∀ f, (∀ g ∈ traceFields, f.key ≠ g.key) → t.rd f = (piece a).rd f) ∧
      t.routine n = (piece a).routine n ∧ t.mill.cores = (piece a).mill.cores := by
  have hrun : (s.task n).st = 2 := by
    simp only [State.scanDue, Bool.and_eq_true] at hdue
    exact routineDue_running hdue.1.1.1
  have ha := scanStart_opened hdue hnew hinit e
  have hr : (scanRoutine mode (s.task n).desc).out = [] := by
    unfold scanRoutine
    split <;> rfl
  obtain ⟨hstep, hfirst⟩ := ha.opened.one (eccs := []) (work := work) hrun hstop hr
    (hwork _ ha.opened) (hdone _)
  generalize (s.scanStart n e).begunStep n = a at ha hstep hfirst
  have hend := endedStep_reported (piece a) n
  exact ⟨a, _, ha, rfl, hstep, hfirst, (ha.began.kept (hkept a) hcount hheld).kept hend.regs, hend.regs,
    endedStep_routine _ n, hend.cores⟩

/-! ### A SCAN's end (R505) -/

/-- A SCAN with no more than its end left ends with OK and its time steps. -/
theorem scanStep_ends {s : State} {n mode blocks : Nat} {e : EccResult} {eccs : List EccResult}
    {work : State → EccResult → Option State} (hdue : s.scanDue n mode = true)
    (hstarted : (mfind s.routines n).isSome = true) (hclosing : (s.routine n).closing = true)
    (hacked : s.allAcked n = true) (hwork : ∀ a e, (a.routine n).closing = true → work a e = a.scanEnd n) :
    groupEnded s ((s.scanStart n e).routineStep n (blocks + 1) eccs work) n (s.routine n).steps := by
  have hrun : (s.task n).st = 2 := by
    simp only [State.scanDue, Bool.and_eq_true] at hdue
    exact routineDue_running hdue.1.1.1
  have hends (u : State) (htask : u.task n = s.task n) (hacked' : u.allAcked n = true)
      (hclosing' : (u.routine n).closing = true) (hsteps : (u.routine n).steps = (s.routine n).steps) :
      groupEnded s (u.routineStep n (blocks + 1) eccs work) n (s.routine n).steps := by
    have h := routineStep_ends (s := u) (blocks := blocks) (eccs := eccs) (work := work) (by rw [htask, hrun]) hacked'
      (low := (s.routine n).steps) fun e => by
        rw [hwork _ _ (by rw [begunStep_routine]; exact hclosing')]
        simp only [State.scanEnd, begunStep_allAcked, hacked', begunStep_routine, hsteps, if_true]
    rwa [groupEnded, htask] at h
  unfold State.scanStart
  rw [if_pos hstarted]
  split
  · refine hends _ rfl ?_ ?_ ?_
    · simp only [State.allAcked, State.sheavesOut, routine_withRoutine] at hacked ⊢
      exact hacked
    · rw [routine_withRoutine]
      exact hclosing
    · rw [routine_withRoutine]
  · exact hends s rfl hacked hclosing rfl

theorem carryWork_end (n : Nat) (a : State) (e : EccResult) (h : (a.routine n).closing = true) :
    a.carryWork n e = a.scanEnd n := if_pos h

theorem chunkWork_end (n : Nat) (a : State) (e : EccResult) (h : (a.routine n).closing = true) :
    a.chunkWork n e = a.scanEnd n := if_pos h

theorem streamWork_end (n : Nat) (a : State) (e : EccResult) (h : (a.routine n).closing = true) :
    a.streamWork n e = a.scanEnd n := if_pos h

theorem pipeWork_end (n : Nat) (a : State) (e : EccResult) (h : (a.routine n).closing = true) :
    a.pipeWork n e = a.scanEnd n := if_pos h

end Sys2Proof.Machine
end

section
/-! ## Where a SCAN's elements lie, and the first pieces of SCAN's modes (O52: R498, R499, R502, R507, R508) -/

namespace Sys2Proof.Machine

/-! ### Placement (R499) -/

theorem length_filter_bit (k v : Nat) : ((List.range k).filter (bit v)).length = popCount k v := by
  induction k generalizing v with
  | zero => rfl
  | succ k ih =>
    have hshift : bit v ∘ Nat.succ = bit (v >>> 1) := funext fun i => by
      rw [Function.comp, bit, bit, ← Nat.shiftRight_add, Nat.succ_eq_one_add]
    have hrest : ((List.map Nat.succ (List.range k)).filter (bit v)).length = popCount k (v >>> 1) := by
      rw [List.filter_map, List.length_map, hshift, ih]
    rw [List.range_succ_eq_map, popCount, ← hrest, List.filter_cons, bit, Nat.shiftRight_zero]
    rcases Nat.mod_two_eq_zero_or_one v with h | h <;> simp [h, Nat.add_comm]

theorem length_coresIn (mask : Nat) : (coresIn mask).length = 16 * popCount 8 mask := by
  rw [← length_filter_bit 8 mask, coresIn, List.length_flatMap]
  simp only [coresOf, List.length_map, List.length_range, List.map_const', List.sum_replicate, smul_eq_mul]
  exact Nat.mul_comm ..

theorem coresIn_nodup (mask : Nat) : (coresIn mask).Nodup := by
  refine List.nodup_flatMap.2 ⟨fun r _ => coresOf_nodup r, (rowsOf_nodup mask).imp fun hne => ?_⟩
  intro c hc hc'
  exact hne ((mem_coresOf.1 hc).symm.trans (mem_coresOf.1 hc'))

theorem popCount_pos {mask : Nat} (h : mask % 256 ≠ 0) : popCount 8 mask ≠ 0 := by
  intro h0
  simp only [popCount, Nat.shiftRight_eq_div_pow, Nat.pow_one, Nat.add_eq_zero_iff] at h0
  omega

/-- The cores of a mask hold all the elements that are shared out among them. -/
theorem perCore_covers {mask : Nat} (h : mask % 256 ≠ 0) (n : Nat) :
    n ≤ perCore mask n * (coresIn mask).length := by
  have hc : 16 * popCount 8 mask ≠ 0 := Nat.mul_ne_zero (by decide) (popCount_pos h)
  rw [length_coresIn, perCore, if_neg hc]
  generalize 16 * popCount 8 mask = c at hc
  have hpos : 0 < 64 * c := by omega
  have hdiv := Nat.div_add_mod (n + 64 * c - 1) (64 * c)
  have hmod := Nat.mod_lt (n + 64 * c - 1) hpos
  have hswap : 64 * ((n + 64 * c - 1) / (64 * c)) * c = 64 * c * ((n + 64 * c - 1) / (64 * c)) := by ring
  omega

/-- No two elements have the same place. -/
theorem placeOf_inj {mask n e e' : Nat} (hmask : mask % 256 ≠ 0) (he : e < n) (he' : e' < n)
    (h : placeOf mask n e = placeOf mask n e') : e = e' := by
  have hcovers := perCore_covers hmask n
  obtain ⟨hcore, hlocal⟩ := Prod.mk.inj h
  have hin {i : Nat} (hi : i < n) : i / perCore mask n < (coresIn mask).length :=
    Nat.div_lt_of_lt_mul (Nat.lt_of_lt_of_le hi hcovers)
  rw [List.getD_eq_getElem _ _ (hin he), List.getD_eq_getElem _ _ (hin he')] at hcore
  have hdiv := (coresIn_nodup mask).getElem_inj_iff.1 hcore
  rw [← Nat.div_add_mod e (perCore mask n), ← Nat.div_add_mod e' (perCore mask n), hdiv, hlocal]

theorem perCore_pos {mask n : Nat} (hmask : mask % 256 ≠ 0) (hn : 0 < n) : 0 < perCore mask n := by
  have hcovers := perCore_covers hmask n
  refine Nat.pos_of_ne_zero fun h0 => ?_
  rw [h0, Nat.zero_mul] at hcovers
  omega

/-! ### Accumulator elements after a write of one of them -/

theorem core_setCore_same (s : State) (c : Nat) (k : Core) : (s.setCore c k).core c = k := mget_mput_same ..

theorem core_setCore_ne (s : State) {c c' : Nat} (k : Core) (h : c' ≠ c) : (s.setCore c k).core c' = s.core c' :=
  mget_mput_ne _ _ _ _ _ h

theorem loomGet_loomPut_same (s : State) (mask n base e v : Nat) :
    (s.loomPut mask n base e v).loomGet mask n base e = v % 2 ^ 32 := by
  simp only [State.loomGet, State.loomPut, core_setCore_same, accAt_setAcc_same]

theorem loomGet_loomPut_ne (s : State) {mask n e e' : Nat} (v : Nat) (hmask : mask % 256 ≠ 0)
    (hper : perCore mask n ≤ 512) (he : e < n) (he' : e' < n) (hne : e' ≠ e) :
    (s.loomPut mask n accA e v).loomGet mask n accA e' = s.loomGet mask n accA e' := by
  have hplace : placeOf mask n e' ≠ placeOf mask n e := fun h => hne (placeOf_inj hmask he' he h)
  have hpos : 0 < perCore mask n := perCore_pos hmask (by omega)
  simp only [State.loomGet, State.loomPut]
  by_cases hcore : (placeOf mask n e').1 = (placeOf mask n e).1
  · rw [hcore, core_setCore_same]
    refine accAt_setAcc_ne _ _ _ fun hmod => hplace (Prod.ext hcore ?_)
    have h1 : (placeOf mask n e).2 < perCore mask n := Nat.mod_lt _ hpos
    have h2 : (placeOf mask n e').2 < perCore mask n := Nat.mod_lt _ hpos
    rw [accA] at hmod
    omega
  · rw [core_setCore_ne _ _ hcore]

/-- After a list has been written from element `k` on, each element of it reads as written. -/
theorem loomGet_fill {mask n : Nat} (hmask : mask % 256 ≠ 0) (hper : perCore mask n ≤ 512) (l : List Nat) (k : Nat)
    (s : State) (hl : k + l.length ≤ n) {e : Nat} (he : e < n) :
    ((l.zipIdx k).foldl (fun (a : State) q => a.loomPut mask n accA q.2 q.1) s).loomGet mask n accA e =
      if k ≤ e ∧ e < k + l.length then l.getD (e - k) 0 % 2 ^ 32 else s.loomGet mask n accA e := by
  induction l generalizing k s with
  | nil =>
    rw [if_neg (by rw [List.length_nil]; omega)]
    rfl
  | cons x l ih =>
    rw [List.length_cons] at hl
    rw [List.zipIdx_cons, List.foldl_cons, ih (k + 1) _ (by omega), List.length_cons]
    rcases Nat.lt_trichotomy e k with hlt | heq | hgt
    · rw [if_neg (by omega), if_neg (by omega), loomGet_loomPut_ne s x hmask hper (by omega) he (by omega)]
    · subst heq
      rw [if_neg (by omega), if_pos (by omega), loomGet_loomPut_same, Nat.sub_self]
      rfl
    · obtain ⟨i, rfl⟩ := Nat.exists_eq_add_of_lt hgt
      rw [show k + i + 1 - k = i + 1 by omega, show k + i + 1 - (k + 1) = i by omega, List.getD_cons_succ,
        loomGet_loomPut_ne s x hmask hper (by omega) he (by omega)]
      exact if_congr (by omega) rfl rfl

theorem elemsOf_lt (w n : Nat) (b : List Byte) (i : Nat) : (elemsOf w n b).getD i 0 < 256 ^ w := by
  have hpos : 0 < 256 ^ w := Nat.pow_pos (by decide)
  rw [elemsOf, List.getD_eq_getElem?_getD, List.getElem?_map]
  cases (List.range n)[i]? with
  | none => exact hpos
  | some j =>
    refine Nat.lt_of_lt_of_le (ofLe_lt _) (Nat.pow_le_pow_right (by decide) ?_)
    rw [List.length_take]
    exact Nat.min_le_left ..

/-! ### CARRY (R502) -/

/-- CARRY's first piece has been taken: the first values of A. -/
def State.carryTaken (a : State) (n mask len : Nat) (vals : List Nat) : State :=
  (a.loomFill mask len accA vals).setRec n .block (0 + 1)

theorem carryTaken_done (n mask len : Nat) (vals : List Nat) (a : State) :
    pieceDone n a (a.carryTaken n mask len vals) := by
  have hfill := (prepared.refl (fs := []) a).loomFill (mask := mask) (n := len) (base := accA) (l := vals)
  have hout := congrArg Routine.out (loomFill_routine a mask len accA vals n)
  unfold State.carryTaken
  generalize a.loomFill mask len accA vals = x at hfill hout
  exact ⟨task_congr hfill.tasks n,
    (recd_setRec_apart x n _ (by decide)).trans (recd_congr hfill.miller n _),
    (recd_setRec_apart x n _ (by decide)).trans (recd_congr hfill.miller n _), hout⟩

theorem carryTaken_regs (n mask len : Nat) (vals : List Nat) (a : State) :
    regsKept a (a.carryTaken n mask len vals) [] :=
  regsKept_upd ((prepared.refl a).loomFill (mask := mask) (n := len) (base := accA) (l := vals)).regs rfl

theorem carryWork_first {s a : State} {n len : Nat} {d : List Byte} (ha : openedStep s a n 0 Routine.blank)
    (hd : d = (s.task n).desc) (hlen : len = min 128 (scN d)) (h1 : 1 ≤ len)
    (hsrc : s.plainSource n (scSrc d) (4 * len)) :
    a.carryWork n .ok = some (a.carryTaken n (scMask d) (scN d)
      (elemsOf 4 len (s.granaryBytes (scSrc d) (4 * len)))) := by
  subst hd
  have hlen' : min 128 (scN (s.task n).desc - 128 * 0) = len := hlen.symm
  have hsheaves : 0 < scSheaves (s.task n).desc := by
    rw [scSheaves]
    omega
  have hblocks : 0 < 2 * scSheaves (s.task n).desc := by omega
  have hpiece := ha.withPiece hsrc (2 * scBlock (s.task n).desc + scCutBytes (s.task n).desc)
    (off := 0 / scSheaves (s.task n).desc * scBlock (s.task n).desc + 512 * 0) (by rw [Nat.zero_div]; omega)
  rw [State.carryWork, if_neg (by rw [ha.routine]; decide)]
  simp only [ha.phase, State.carryOwn, ha.task, ha.block, if_pos hblocks, if_pos hsheaves, Nat.zero_mod, hlen', hpiece]
  simp only [State.carryTaken, State.loomFill, Nat.mul_zero, Nat.zero_add]

theorem opScanCarry_first {s : State} {n len : Nat} {d : List Byte} (hdue : s.scanDue n 0 = true)
    (hnew : mfind s.routines n = none) (hd : d = (s.task n).desc) (hlen : len = min 128 (scN d)) (h1 : 1 ≤ len)
    (hmask : scMask d % 256 ≠ 0) (hper : perCore (scMask d) (scN d) ≤ 512)
    (hsrc : s.plainSource n (scSrc d) (4 * len)) : completes (.opScanCarry n 1 []) s fun t =>
      firstStep s t n ∧ scanBegan s t n ∧ ∀ e < len, t.loomGet (scMask d) (scN d) accA e =
        (elemsOf 4 len (s.granaryBytes (scSrc d) (4 * len))).getD e 0 := by
  obtain ⟨a, t, -, -, hstep, hfirst, hbegan, -, -, hcores⟩ := scanStep_first (e := .ok) hdue hnew
    (fun h => absurd h (by decide)) hsrc.2.2.2.2.2 (fun a ha => carryWork_first ha hd hlen h1 hsrc)
    (carryTaken_done n _ _ _) (carryTaken_regs n _ _ _)
  refine ⟨t, (if_pos hdue).trans (congrArg ok hstep), hfirst, hbegan, fun e he => ?_⟩
  have hvals := length_elemsOf 4 len (s.granaryBytes (scSrc d) (4 * len))
  have hlt := elemsOf_lt 4 len (s.granaryBytes (scSrc d) (4 * len)) e
  generalize elemsOf 4 len (s.granaryBytes (scSrc d) (4 * len)) = vals at hvals hlt hcores ⊢
  have hfill := loomGet_fill hmask hper vals 0 a (by omega) (e := e) (by omega)
  rw [if_pos (by omega)] at hfill
  rw [loomGet_congr hcores]
  exact hfill.trans (Nat.mod_eq_of_lt hlt)

end Sys2Proof.Machine
end

section
/-! ## The first pieces of CHUNK, STREAM and PIPE, and the settlement of O52 (O52: R498, R505, R507, R508) -/

namespace Sys2Proof.Machine

/-! ### CHUNK (R498, R502) -/

/-- The rows of a mask marked in a map of cut bits. -/
def markCuts (rows v : Nat) (m : Map Nat) : Map Nat :=
  (List.range rows).foldl (fun (acc : Map Nat) r => if bit v r then mset acc r 1 0 else acc) m

theorem mget_markCuts_empty {rows r : Nat} (v : Nat) (hr : r < rows) :
    mget (markCuts rows v []) r 0 = b2n (bit v r) := by
  have hmarked := foldl_range_induct (g := fun (acc : Map Nat) q => if bit v q then mset acc q 1 0 else acc)
    (fun k m => ∀ q, mget m q 0 = if q < k then b2n (bit v q) else 0) (n := rows) (a := [])
    (fun _ => rfl) (fun k _ m hm q => by
      have hq := hm q
      split
      next hbit =>
        by_cases hqk : q = k
        · subst hqk
          rw [mget_mset_same, if_pos (Nat.lt_succ_self q), hbit]
          rfl
        · rw [mget_mset_ne _ _ _ _ _ _ hqk, hq]
          exact if_congr (by omega) rfl rfl
      next hbit =>
        by_cases hqk : q = k
        · subst hqk
          rw [hq, if_neg (Nat.lt_irrefl q), if_pos (Nat.lt_succ_self q), Bool.eq_false_iff.2 hbit]
          rfl
        · rw [hq]
          exact if_congr (by omega) rfl rfl)
  rw [markCuts, hmarked r, if_pos hr]

/-- The cores after the summary pass over one record. -/
def State.summarized (a : State) (d : List Byte) (cuts : Map Nat) (x : List (Nat × Nat) × Nat) : State :=
  (a.summaryRecord (scMask d) (scRows d) (scWidth d) cuts x).2

/-- CHUNK's first time step has been taken into the summary. -/
def State.chunkTaken (a : State) (n : Nat) (d : List Byte) (x : List (Nat × Nat) × Nat) : State :=
  ((a.summarized d (a.routine n).cuts x).withRoutine n fun q =>
    { q with cuts := markCuts (scRows d) x.2 (a.routine n).cuts }).setRec n .block (0 + 1)

theorem summarized_prepared (a : State) (d : List Byte) (cuts : Map Nat) (x : List (Nat × Nat) × Nat) :
    prepared [] a (a.summarized d cuts x) :=
  (prepared.refl a).foldl fun _ _ _ ha => ha.loomPut.loomPut

theorem summarized_routine (a : State) (d : List Byte) (cuts : Map Nat) (x : List (Nat × Nat) × Nat) (n : Nat) :
    (a.summarized d cuts x).routine n = a.routine n := by
  unfold State.summarized State.summaryRecord
  extract_lets m s1
  refine foldl_keeps (fun b : State => b.routine n) _ ?_ _ _
  intro b q
  rfl

theorem chunkTaken_routine (n : Nat) (d : List Byte) (x : List (Nat × Nat) × Nat) (a : State) :
    (a.chunkTaken n d x).routine n =
      { a.routine n with cuts := markCuts (scRows d) x.2 (a.routine n).cuts } := by
  rw [State.chunkTaken, setRec_routine, routine_withRoutine, summarized_routine]

theorem chunkTaken_done (n : Nat) (d : List Byte) (x : List (Nat × Nat) × Nat) (a : State) :
    pieceDone n a (a.chunkTaken n d x) := by
  have hout := congrArg Routine.out (chunkTaken_routine n d x a)
  have hsum := summarized_prepared a d (a.routine n).cuts x
  unfold State.chunkTaken at hout ⊢
  generalize a.summarized d (a.routine n).cuts x = y at hsum hout ⊢
  have hprep := hsum.withRoutine (n := n) (f := fun q =>
    { q with cuts := markCuts (scRows d) x.2 (a.routine n).cuts })
  exact ⟨task_congr hprep.tasks n, (recd_setRec_apart _ n _ (by decide)).trans (recd_congr hprep.miller n _),
    (recd_setRec_apart _ n _ (by decide)).trans (recd_congr hprep.miller n _), hout⟩

theorem chunkTaken_regs (n : Nat) (d : List Byte) (x : List (Nat × Nat) × Nat) (a : State) :
    regsKept a (a.chunkTaken n d x) [] :=
  regsKept_upd (summarized_prepared a d (a.routine n).cuts x).regs rfl

theorem chunkWork_first {s a : State} {n : Nat} {d : List Byte} (ha : openedStep s a n 0 Routine.blank)
    (hd : d = (s.task n).desc) (hsteps : 1 ≤ scSteps d) (hsrc : s.plainSource n (scSrc d) (scRecord d)) :
    a.chunkWork n .ok = some (a.chunkTaken n d
      (parseRecord (scRows d) (scWidth d) (scIn d) (scReset d) (s.granaryBytes (scSrc d) (scRecord d)))) := by
  subst hd
  have hpiece := ha.withPiece hsrc (scSteps (s.task n).desc * scRecord (s.task n).desc)
    (off := 0 * scRecord (s.task n).desc) (Nat.zero_mul _)
  have hpos : 0 < scSteps (s.task n).desc := hsteps
  rw [State.chunkWork, if_neg (by rw [ha.routine]; decide)]
  simp only [ha.phase, State.chunkOwn, ha.task, ha.block, if_pos hpos, hpiece]
  rfl

theorem opScanChunk_first {s : State} {n : Nat} {d : List Byte} (hdue : s.scanDue n 1 = true)
    (hnew : mfind s.routines n = none) (hd : d = (s.task n).desc) (hsteps : 1 ≤ scSteps d)
    (hsrc : s.plainSource n (scSrc d) (scRecord d)) : completes (.opScanChunk n 1 []) s fun t =>
      firstStep s t n ∧ scanBegan s t n ∧ t.recd n .block = 1 ∧ ∀ r < scRows d, mget (t.routine n).cuts r 0 =
        b2n (bit (parseRecord (scRows d) (scWidth d) (scIn d) (scReset d)
          (s.granaryBytes (scSrc d) (scRecord d))).2 r) := by
  obtain ⟨a, t, ha, ht, hstep, hfirst, hbegan, -, hroutine, -⟩ := scanStep_first (e := .ok) hdue hnew
    (fun h => absurd h (by decide)) hsrc.2.2.2.2.2 (fun a ha => chunkWork_first ha hd hsteps hsrc)
    (chunkTaken_done n _ _) (chunkTaken_regs n _ _)
  generalize parseRecord (scRows d) (scWidth d) (scIn d) (scReset d) (s.granaryBytes (scSrc d) (scRecord d)) = x
    at ht hroutine ⊢
  refine ⟨t, (if_pos hdue).trans (congrArg ok hstep), hfirst, hbegan, ?_, fun r hr => ?_⟩
  · rw [ht, endedStep_recd _ _ (by decide), State.chunkTaken, recd_setRec_same]
    rfl
  · rw [hroutine, chunkTaken_routine, ha.opened.routine]
    exact mget_markCuts_empty x.2 hr

/-! ### STREAM (R506, R507) -/

/-- STREAM's first entry is not ready: the wait is counted, and the window's work is over. -/
def State.chunkAwaited (a : State) (n : Nat) : State := (a.bump Ctr.LOOM_CHUNK_WAIT_BELLS 1).windowOver n

theorem chunkAwaited_done (n : Nat) (a : State) : pieceDone n a (a.chunkAwaited n) := by
  have hwork := work_bump a Ctr.LOOM_CHUNK_WAIT_BELLS 1
  have hroutine : (a.bump Ctr.LOOM_CHUNK_WAIT_BELLS 1).routine n = a.routine n := by
    rw [State.routine, bump_routines]
    rfl
  unfold State.chunkAwaited
  generalize a.bump Ctr.LOOM_CHUNK_WAIT_BELLS 1 = b at hwork hroutine
  have hmiller : b.miller = a.miller := congrArg Work.miller hwork
  refine ⟨task_congr (congrArg Work.tasks hwork) n, recd_congr hmiller n _, recd_congr hmiller n _, ?_⟩
  rw [State.windowOver, routine_withRoutine, hroutine]

/-- The register fields that counting a wait may change. -/
def waitFields : List Fld := [Ctr.LOOM_CHUNK_WAIT_BELLS.fld, Hdr.CNT_OVF Ctr.LOOM_CHUNK_WAIT_BELLS.page]

theorem chunkAwaited_regs (n : Nat) (a : State) : regsKept a (a.chunkAwaited n) waitFields :=
  regsKept_upd (regsKept_bump Ctr.LOOM_CHUNK_WAIT_BELLS 1 (regsKept_refl a waitFields) (by decide) (by decide)) rfl

theorem chunkAwaited_waits (n : Nat) (a : State) : (a.chunkAwaited n).rd Ctr.LOOM_CHUNK_WAIT_BELLS.fld =
    (a.rd Ctr.LOOM_CHUNK_WAIT_BELLS.fld + 1) % 2 ^ 64 := by
  rw [← rd_bump_same a Ctr.LOOM_CHUNK_WAIT_BELLS 1 (by decide)]
  rfl

theorem streamWork_first {s a : State} {n : Nat} {d : List Byte}
    (ha : openedStep s a n 3 { Routine.blank with entry := scSrc d })
    (hsrc : s.plainSource n (scSrc d) 32) (hready : entryReady (s.granaryBytes (scSrc d) 32) = false) :
    a.streamWork n .ok = some (a.chunkAwaited n) := by
  rw [State.streamWork]
  simp only [ha.routine]
  rw [if_neg (by decide), if_neg (by decide), if_pos (show Routine.blank.buf.isEmpty = true from rfl), ha.localBytes hsrc]
  simp only [hready, Bool.not_false, if_true]
  rfl

theorem opScanStream_first {s : State} {n : Nat} {d : List Byte} (hdue : s.scanDue n 2 = true)
    (hnew : mfind s.routines n = none) (hd : d = (s.task n).desc) (hinit : scInit d = false)
    (hsrc : s.plainSource n (scSrc d) 32) (hready : entryReady (s.granaryBytes (scSrc d) 32) = false) :
    completes (.opScanStream n 1 []) s fun t => firstStep s t n ∧ scanBegan s t n ∧
      t.rd Ctr.LOOM_CHUNK_WAIT_BELLS.fld = (s.rd Ctr.LOOM_CHUNK_WAIT_BELLS.fld + 1) % 2 ^ 64 := by
  subst hd
  obtain ⟨a, t, ha, ht, hstep, hfirst, hbegan, hregs, -⟩ := scanStep_first (e := .ok) hdue hnew
    (fun _ => hinit) hsrc.2.2.2.2.2 (fun a ha => streamWork_first ha hsrc hready)
    (chunkAwaited_done n) (chunkAwaited_regs n)
  refine ⟨t, (if_pos hdue).trans ?_, hfirst, hbegan, ?_⟩
  · simp only [List.tail_nil, ite_self, List.headD_nil, hstep]
    rfl
  · rw [hregs _ (by decide), chunkAwaited_waits, ha.regs _ (by decide)]

/-! ### PIPE (R508) -/

/-- PIPE's block has been read and found good. -/
def State.pipeTaken (a : State) (n : Nat) (x : List Byte) : State :=
  a.withRoutine n fun q => { q with buf := x.map (·.toNat) }

theorem pipeTaken_done (n : Nat) (x : List Byte) (a : State) : pieceDone n a (a.pipeTaken n x) :=
  ⟨rfl, rfl, rfl, by rw [State.pipeTaken, routine_withRoutine]⟩

theorem pipeWork_first {s a : State} {n : Nat} {d : List Byte} (ha : openedStep s a n 4 Routine.blank)
    (hd : d = (s.task n).desc) (hsrc : s.plainSource n (scSrc d) 320)
    (hgood : (parsePipe (s.granaryBytes (scSrc d) 320)).good (scRows d) (scWidth d) (scMask d) (descRegion d)
      (descRegionSize d) = true) :
    a.pipeWork n .ok = some (a.pipeTaken n (s.granaryBytes (scSrc d) 320)) := by
  subst hd
  rw [State.pipeWork]
  simp only [ha.routine, ha.task]
  rw [if_neg (by decide), if_pos (show Routine.blank.buf.isEmpty = true from rfl), ha.localBytes hsrc]
  simp only [hgood, if_true]
  rfl

theorem opScanPipe_first {s : State} {n : Nat} {d : List Byte} (hdue : s.scanDue n 3 = true)
    (hnew : mfind s.routines n = none) (hd : d = (s.task n).desc) (hsrc : s.plainSource n (scSrc d) 320)
    (hgood : (parsePipe (s.granaryBytes (scSrc d) 320)).good (scRows d) (scWidth d) (scMask d) (descRegion d)
      (descRegionSize d) = true) : completes (.opScanPipe n 1 []) s fun t =>
      firstStep s t n ∧ scanBegan s t n ∧ t.pipeBlock n = parsePipe (s.granaryBytes (scSrc d) 320) := by
  obtain ⟨a, t, -, -, hstep, hfirst, hbegan, -, hroutine, -⟩ := scanStep_first (e := .ok) hdue hnew
    (fun h => absurd h (by decide)) hsrc.2.2.2.2.2 (fun a ha => pipeWork_first ha hd hsrc hgood)
    (pipeTaken_done n _) (fun a => regsKept_refl a [])
  refine ⟨t, (if_pos hdue).trans (congrArg ok hstep), hfirst, hbegan, ?_⟩
  rw [State.pipeBlock, hroutine, State.pipeTaken, routine_withRoutine]
  simp [List.map_map, Function.comp_def]

/-! ### The settlement -/

/-- Settles O52: SELECT's first and last step, and those of each of SCAN's modes. -/
theorem selectAndScanBeginAndEnd : Obligations.SelectAndScanBeginAndEnd := by
  unfold Obligations.SelectAndScanBeginAndEnd
  refine ⟨fun slot d len s => opSelect_first, fun slot blocks eccs s => opSelect_ends, ?carry, ?chunk, ?stream, ?pipe,
    ?carryEnd, ?chunkEnd, ?streamEnd, ?pipeEnd⟩
  case carry =>
    intro slot d len s hdue hnew hd hlen h1 hmask hper hsrc
    obtain ⟨t, ht, hfirst, ⟨hcount, hheld⟩, hvals⟩ := opScanCarry_first hdue hnew hd hlen h1 hmask hper hsrc
    subst hd
    exact ⟨t, ht, hfirst, hcount, hheld, hvals⟩
  case chunk =>
    intro slot d s hdue hnew hd hsteps hsrc
    obtain ⟨t, ht, hfirst, ⟨hcount, hheld⟩, hrest⟩ := opScanChunk_first hdue hnew hd hsteps hsrc
    subst hd
    exact ⟨t, ht, hfirst, hcount, hheld, hrest⟩
  case stream =>
    intro slot d s hdue hnew hd hinit hsrc hready
    obtain ⟨t, ht, hfirst, ⟨hcount, hheld⟩, hwaits⟩ := opScanStream_first hdue hnew hd hinit hsrc hready
    subst hd
    exact ⟨t, ht, hfirst, hcount, hheld, hwaits⟩
  case pipe =>
    intro slot d s hdue hnew hd hsrc hgood
    obtain ⟨t, ht, hfirst, ⟨hcount, hheld⟩, hblock⟩ := opScanPipe_first hdue hnew hd hsrc hgood
    subst hd
    exact ⟨t, ht, hfirst, hcount, hheld, hblock⟩
  case carryEnd =>
    exact fun slot blocks eccs s hdue hstarted hclosing hacked =>
      ⟨_, if_pos hdue, scanStep_ends hdue hstarted hclosing hacked (carryWork_end slot)⟩
  case chunkEnd =>
    exact fun slot blocks eccs s hdue hstarted hclosing hacked =>
      ⟨_, if_pos hdue, scanStep_ends hdue hstarted hclosing hacked (chunkWork_end slot)⟩
  case streamEnd =>
    exact fun slot blocks eccs s hdue hstarted hclosing hacked =>
      ⟨_, if_pos hdue, scanStep_ends hdue hstarted hclosing hacked (streamWork_end slot)⟩
  case pipeEnd =>
    exact fun slot blocks eccs s hdue hstarted hclosing hacked =>
      ⟨_, if_pos hdue, scanStep_ends hdue hstarted hclosing hacked (pipeWork_end slot)⟩

end Sys2Proof.Machine
end
